-- ==== Sys2Proof/Word.lean ====
section
/-! DEFINITION. Words and bytes, the key and value tables every part of the state is written with, and the status codes of the dictionary.
Spec: 00_scope.md (notation, R3 little-endian), 13_object_dictionary.md R365 (status codes). -/

set_option Elab.async false

namespace Sys2Proof

/-- One byte. -/
abbrev Byte := BitVec 8

/-- The 32 data bits of a token, of a cell register or of a Peg core register. -/
abbrev Word := BitVec 32

/-- Sparse data by key: pairs with keys strictly rising. -/
abbrev Tab (α : Type) := List (Nat × α)

/-- The entry of a table under a key. -/
def tabFind {α : Type} : Tab α → Nat → Option α
  | [], _ => none
  | (k, v) :: r, i => if Nat.beq k i then some v else tabFind r i

/-- The entry of a table under a key, or the value that an unlisted key holds. -/
def tabGet {α : Type} (d : α) (t : Tab α) (i : Nat) : α := (tabFind t i).getD d

/-- The table without the key. -/
def tabErase {α : Type} : Tab α → Nat → Tab α
  | [], _ => []
  | (k, v) :: r, i => if Nat.beq k i then tabErase r i else (k, v) :: tabErase r i

/-- The table with the key listed and holding the value. -/
def tabPut {α : Type} : Tab α → Nat → α → Tab α
  | [], i, x => [(i, x)]
  | (k, v) :: r, i, x =>
    if Nat.beq k i then (i, x) :: r else if Nat.blt i k then (i, x) :: (k, v) :: r else (k, v) :: tabPut r i x

/-- The table with the key holding the value, in the one form in which no key lists the value that an unlisted key holds. -/
def tabSet {α : Type} [DecidableEq α] (d : α) (t : Tab α) (i : Nat) (x : α) : Tab α :=
  if x = d then tabErase t i else tabPut t i x

/-- The keys of a table lie at or above a bound and rise strictly. -/
def tabAbove {α : Type} : Nat → Tab α → Bool
  | _, [] => true
  | lo, (k, _) :: r => Nat.ble lo k && tabAbove (k + 1) r

/-- The keys of a table rise strictly. -/
def tabSorted {α : Type} (t : Tab α) : Bool := tabAbove 0 t

/-- The one form of a table: keys strictly rising, and no key listing the value `d` that an unlisted key holds. -/
def tabWf {α : Type} [DecidableEq α] (d : α) (t : Tab α) : Bool :=
  tabSorted t && t.all (fun e => !decide (e.2 = d))

/-- The status codes of the dictionary (R365). -/
inductive Status
  | ok | noObject | noSub | readOnly | writeOnly | type | range | state
  | resourceInUse | restartPending | auth | storeFail | role | timeout | absorbed | fenced
  deriving DecidableEq, Repr

/-- The code of a status (R365). -/
def Status.code : Status → Nat
  | .ok => 0x00 | .noObject => 0x01 | .noSub => 0x02 | .readOnly => 0x03
  | .writeOnly => 0x04 | .type => 0x05 | .range => 0x06 | .state => 0x07
  | .resourceInUse => 0x08 | .restartPending => 0x09 | .auth => 0x0A | .storeFail => 0x0B
  | .role => 0x0C | .timeout => 0x0D | .absorbed => 0x0E | .fenced => 0x0F

end Sys2Proof
end

