-- ==== Sys2Proof/Syntax.lean ====
section
/-! DEFINITION. The commands of the block: one constructor of `Instr` for each row of spec/opcode_table.json.
A command is an access that arrives at the engine, a frame or a token that arrives, an edge on a ball, or an event of the engine's own clocks; `t` is the time of such an event in picoseconds. -/

set_option Elab.async false

namespace Sys2Proof

/-- Physical field F0 to F23. -/
abbrev FieldId := Fin 24
/-- Cell 8u + v of a field. -/
abbrev CellId := Fin 64
/-- Queue SQ0 to SQ63. -/
abbrev QueueId := Fin 64
/-- Bar 0 to 23. -/
abbrev BarId := Fin 24
/-- Encoder 0 to 3. -/
abbrev EncId := Fin 4
/-- Line generator 0 to 3. -/
abbrev GenId := Fin 4
/-- Trigger 0 to 23. -/
abbrev TrigId := Fin 24
/-- Reject gate 0 to 11. -/
abbrev GateId := Fin 12
/-- Camera 0 to 5. -/
abbrev CamId := Fin 6
/-- Peg core PC0 to PC7. -/
abbrev CoreId := Fin 8
/-- Lane 0 to 39: HL0-23, IL0-11, PL0-3. -/
abbrev LaneId := Fin 40
/-- Allotment 0 to 31. -/
abbrev AllotId := Fin 32
/-- Power domain PD0 to PD41. -/
abbrev DomainId := Fin 42
/-- Network interface 0 to 14. -/
abbrev NiId := Fin 15
/-- Ethernet or CAN FD port 0 or 1. -/
abbrev PortId := Fin 2
/-- LPDDR5 interface 0 or 1. -/
abbrev LpId := Fin 2
/-- Drill unit 0 to 3. -/
abbrev DrillId := Fin 4
/-- Interval timer 0 to 5. -/
abbrev TimerId := Fin 6
/-- Process data object 0 to 15: 0-7 receive, 8-15 transmit. -/
abbrev PdoId := Fin 16
/-- Pair lane PL0 to PL3. -/
abbrev PairLane := Fin 4
/-- Furrow 0 to 7. -/
abbrev Furrow := Fin 8

/-- Who makes a dictionary access (R366): the pair agent, a Peg core through target 61, a core's domain transfer port, an Ethernet port, a CAN FD port, or boot (R376, R422). -/
inductive Source
  | pairAgent
  | core (n : CoreId)
  | transfer (n : CoreId)
  | eth (p : PortId)
  | can (p : PortId)
  | boot
  deriving DecidableEq, Repr

/-- A value as an access carries it: the type code of R363, 0 where the access names none, and its bytes, little-endian. -/
structure ObjVal where
  ty : Nat
  bytes : List Byte
  deriving DecidableEq, Repr


/-- The commands: one constructor for each row of spec/opcode_table.json. -/
inductive Instr
  /-- OBJECT_WRITE (R364): A write, by any path, to a dictionary object that has no row of its own; it is checked in order and applied or refused. -/
  | objectWrite (src : Source) (idx : Nat) (sub : Nat) (v : ObjVal)
  /-- TROUBLE_COUNTER_CLEAR (R7): A write of 0 clears a trouble counter; any other value is refused with RANGE. -/
  | troubleCounterClear (src : Source) (idx : Nat) (sub : Nat) (v : Nat)
  /-- EVENT_CAUSE_CLEAR (R117): Writing 1 to cause bits of a unit's EventCause clears those bits. -/
  | eventCauseClear (src : Source) (idx : Nat) (sub : Nat) (v : Nat)
  /-- U64_LOW_WORD_READ (R369): A core's read of the low word of a 64-bit object captures the whole value for that core. -/
  | u64LowWordRead (n : CoreId) (idx : Nat) (sub : Nat)
  /-- U64_HIGH_WORD_WRITE (R369): A core's write of the high word of a 64-bit object is held for that core and changes nothing. -/
  | u64HighWordWrite (n : CoreId) (idx : Nat) (sub : Nat) (v : Nat)
  /-- U64_LOW_WORD_WRITE (R369): A core's write of the low word applies both halves as one write. -/
  | u64LowWordWrite (n : CoreId) (idx : Nat) (sub : Nat) (v : Nat)
  /-- DOMAIN_TRANSFER_READ (R372): A CONTROL command 1 starts a copy of a long value into the core's buffer. -/
  | domainTransferRead (n : CoreId)
  /-- DOMAIN_TRANSFER_WRITE (R372): A CONTROL command 2 starts assembly of a long value in the domain staging region. -/
  | domainTransferWrite (n : CoreId)
  /-- DOMAIN_TRANSFER_COMPLETE (R372): A domain transfer finishes; the object takes the value whole, or the transfer ends FAILED. -/
  | domainTransferComplete (t : Nat) (n : CoreId)
  /-- CELL_FIRE (R25): A cell whose operands, register and output conditions hold fires, pops its inputs and places a result window entry. -/
  | cellFire (t : Nat) (f : FieldId) (c : CellId)
  /-- OPERATION_COMPLETE (R28): An operation of latency L completes, and its register write happens. -/
  | operationComplete (t : Nat) (f : FieldId) (c : CellId) (k : Nat)
  /-- RESULT_DELIVERY (R29): The head window entry is delivered to its links and bus when they are ready. -/
  | resultDelivery (t : Nat) (f : FieldId) (c : CellId)
  /-- CONFIG_REGISTER_WRITE (R34): A configuration-port write to c0–c7, accepted only while the field is stopped or held by the capo. -/
  | configRegisterWrite (t : Nat) (f : FieldId) (c : CellId) (slot : Fin 8) (k : Fin 8) (v : Nat)
  /-- LUT_ENTRY_WRITE (R37): A configuration-port write of one lookup-table entry, refused on the active page. -/
  | lutEntryWrite (t : Nat) (f : FieldId) (j : Fin 256) (v : Nat)
  /-- CAPO_STATE_WRITE (R86): A write to the capo-state regions replaces the field's moving state. -/
  | capoStateWrite (t : Nat) (f : FieldId) (j : Fin 8704) (v : Nat)
  /-- ROW_BYPASS_WRITE (R58): A RowBypass write remaps a field row, empties its slots and discards bypass-stage tokens. -/
  | rowBypassWrite (src : Source) (r : Fin 4) (v : Nat)
  /-- BYPASS_STAGE_TRANSFER (R57): A bypass stage passes a token between the facing ports of a bypassed field. -/
  | bypassStageTransfer (t : Nat) (f : FieldId) (u : Furrow) (west : Bool)
  /-- DRILL_READ_ITEM (R64): A drill read stream delivers its next item from field memory. -/
  | drillReadItem (t : Nat) (f : FieldId) (d : DrillId)
  /-- DRILL_WRITE_ACCEPT (R65): A drill write stream accepts a token for its next address. -/
  | drillWriteAccept (t : Nat) (f : FieldId) (d : DrillId)
  /-- DRILL_WRITE_STORE (R70): An accepted drill write token is written to its sub-bank when the write port is granted. -/
  | drillWriteStore (t : Nat) (f : FieldId) (d : DrillId)
  /-- FIELD_MEMORY_NETWORK_ACCESS (R70): A network access to field memory is served by the sub-bank port. -/
  | fieldMemoryNetworkAccess (t : Nat) (f : FieldId) (off : Nat) (size : Nat) (write : Bool) (v : Nat)
  /-- TUNING_LOAD_GO (R73): A TuningLoad Go write starts copying an image into the staging region. -/
  | tuningLoadGo (src : Source)
  /-- TUNING_LOAD_COPY_DONE (R74): The copy into staging ends; the loader checks the image and starts writing the slots. -/
  | tuningLoadCopyDone (t : Nat)
  /-- TUNING_LOAD_COMPLETE (R75): The slot writes end; the second digest is compared and the slots become READY or EMPTY. -/
  | tuningLoadComplete (t : Nat)
  /-- RETUNE_GO (R77): A retune request is checked and armed on CUE or started on NOW. -/
  | retuneGo (src : Source) (f : FieldId)
  /-- GROUP_RETUNE_GO (R77): A group retune is armed or started in every field of the mask in the same ACLK. -/
  | groupRetuneGo (src : Source)
  /-- RETUNE_CUE_TOKEN (R77): The cue port admits a matching end-marked token and the armed retune starts. -/
  | retuneCueToken (t : Nat) (f : FieldId)
  /-- DRAIN_SWITCH (R80): A draining field is found empty, discards peeked and read-stream tokens and switches slot. -/
  | drainSwitch (t : Nat) (f : FieldId)
  /-- RETUNE_LIMIT_EXPIRY (R82): A running retune reaches RetuneLimit and ends TIMEOUT or FORCED. -/
  | retuneLimitExpiry (t : Nat) (f : FieldId)
  /-- RETUNE_CANCEL (R82): A Cancel write withdraws an armed retune. -/
  | retuneCancel (src : Source) (f : FieldId)
  /-- CAPO_HOLD (R84): Writing 1 to CapoHold requests an array-wide freeze. -/
  | capoHold (src : Source)
  /-- CAPO_RELEASE (R84): Writing 0 to CapoHold requests release of every field. -/
  | capoRelease (src : Source)
  /-- CAPO_BOUNDARY (R84): The freeze or release applies to all fields at one ACLK boundary. -/
  | capoBoundary (t : Nat)
  /-- FIELD_HALT (R85): Writing 0 to FieldRun freezes one field at the next ACLK. -/
  | fieldHalt (src : Source) (f : FieldId)
  /-- FIELD_RUN (R85): Writing 1 to FieldRun resumes a field whose domain is ON and which has an ACTIVE slot. -/
  | fieldRun (src : Source) (f : FieldId)
  /-- FIELD_CLEAR (R85): FieldClear discards every token of a halted field and resets its stream state. -/
  | fieldClear (src : Source) (f : FieldId)
  /-- ACTIVATE_SLOT (R441): ActivateSlot makes a READY slot ACTIVE in a halted field with no active slot. -/
  | activateSlot (src : Source) (f : FieldId) (slot : Nat)
  /-- QUEUE_ITEM_WRITE (R100): An ITEM store writes one item with end mark 0 into an input queue. -/
  | queueItemWrite (t : Nat) (q : QueueId) (n : CoreId) (v : Nat)
  /-- QUEUE_ITEM_END_WRITE (R100): An ITEM_END store writes one item with end mark 1, closing a packet. -/
  | queueItemEndWrite (t : Nat) (q : QueueId) (n : CoreId) (v : Nat)
  /-- QUEUE_POP (R100): A POP load moves the head word into the latch and returns its tag. -/
  | queuePop (t : Nat) (q : QueueId) (n : CoreId)
  /-- QUEUE_PEEK (R100): A PEEK load returns the head word's tag without removing it. -/
  | queuePeek (t : Nat) (q : QueueId) (n : CoreId)
  /-- EDGE_PORT_INPUT_TOKEN (R97): An input edge port delivers the next token of its queue's head word to the array. -/
  | edgePortInputToken (t : Nat) (q : QueueId)
  /-- EDGE_PORT_OUTPUT_TOKEN (R98): An output edge port writes an accepted token as one item of its queue. -/
  | edgePortOutputToken (t : Nat) (p : Fin 32)
  /-- DMA_INPUT_RECORD (R104): An input DMA reads a ring record and writes its items into the queue. -/
  | dmaInputRecord (t : Nat) (q : QueueId)
  /-- DMA_OUTPUT_RECORD (R104): An output DMA writes a packet as a ring record and advances DmaEngineIndex. -/
  | dmaOutputRecord (t : Nat) (q : QueueId)
  /-- DMA_HOST_INDEX_WRITE (R105): A DmaHostIndex write moves software's offset and retries a stopped record. -/
  | dmaHostIndexWrite (src : Source) (q : QueueId) (v : Nat)
  /-- SPILL_WRITE (R108): A queue word is written from the tail into the spill region. -/
  | spillWrite (t : Nat) (q : QueueId)
  /-- SPILL_READ (R108): A queue word is read from the spill region into the head stage. -/
  | spillRead (t : Nat) (q : QueueId)
  /-- QUEUE_FLUSH (R109): Writing 1 to Flush empties the queue and starts four NCLK of dropping. -/
  | queueFlush (src : Source) (q : QueueId)
  /-- QUEUE_FLUSH_APPLY (R112): Writing 2 to Flush flushes and applies the staged spill region at NCLK f + 3. -/
  | queueFlushApply (src : Source) (q : QueueId)
  /-- FLUSH_COMPLETE (R109): A flush completes at the start of NCLK f + 4 and the write side accepts again. -/
  | flushComplete (t : Nat) (q : QueueId)
  /-- SPILL_REGION_WRITE (R111): A SpillBase or SpillLength write is checked and applied at once or staged. -/
  | spillRegionWrite (src : Source) (q : QueueId) (length : Bool) (v : Nat)
  /-- STAGED_REGION_APPLY (R112): A staged spill region is applied in the first NCLK in which the queue is empty. -/
  | stagedRegionApply (t : Nat) (q : QueueId)
  /-- QUEUE_ENABLE (R114): Enable 1 on a queue is checked and the queue enters STARTING with its claim. -/
  | queueEnable (src : Source) (q : QueueId)
  /-- QUEUE_DISABLE (R115): Enable 0 on a queue stops it or latches the stop. -/
  | queueDisable (src : Source) (q : QueueId)
  /-- QUEUE_START_COMPLETE (R115): A queue leaves STARTING 8 NCLK after entry. -/
  | queueStartComplete (t : Nat) (q : QueueId)
  /-- QUEUE_STOP_COMPLETE (R115): A queue leaves STOPPING for OFF or a restart once its spill accesses are done. -/
  | queueStopComplete (t : Nat) (q : QueueId)
  /-- QUADRATURE_COUNT (R119): A sampled A or B level change counts the encoder position up or down. -/
  | quadratureCount (t : Nat) (e : EncId) (a : Bool) (b : Bool)
  /-- ENCODER_INDEX (R122): A rising level on ENCe_Z copies the position into IndexPosition. -/
  | encoderIndex (t : Nat) (e : EncId) (z : Bool)
  /-- ENCODER_ENABLE (R123): Enable 1 starts an encoder. -/
  | encoderEnable (src : Source) (e : EncId)
  /-- ENCODER_DISABLE (R123): Enable 0 stops an encoder. -/
  | encoderDisable (src : Source) (e : EncId)
  /-- ENCODER_START_COMPLETE (R123): An encoder leaves STARTING after 16 ACLK. -/
  | encoderStartComplete (t : Nat) (e : EncId)
  /-- ENCODER_STOP_COMPLETE (R123): An encoder leaves STOPPING after 4 ACLK. -/
  | encoderStopComplete (t : Nat) (e : EncId)
  /-- POSITION_PRESET (R123): A PositionPreset write sets Position and HighWater of an OFF encoder and moves its generators' next lines. -/
  | positionPreset (src : Source) (e : EncId) (v : Nat)
  /-- HANDOFF_TO_AON (R124): When ACLK stops with SYS retained, each ON encoder's position is copied to its AON counter. -/
  | handoffToAon (t : Nat) (e : EncId)
  /-- AON_COUNT (R124): An encoder edge is counted by the AON counter on the 8 MHz RC clock. -/
  | aonCount (t : Nat) (e : EncId) (a : Bool) (b : Bool)
  /-- HANDOFF_FROM_AON (R124): On wake, the ACLK counter takes the AON value and counts on. -/
  | handoffFromAon (t : Nat) (e : EncId)
  /-- LINE_GEN_ENABLE (R128): Enabling a line generator sets its first line above HighWater. -/
  | lineGenEnable (src : Source) (g : GenId)
  /-- LINE_GEN_DISABLE (R128): Disabling a line generator, refused while a user of it is not OFF. -/
  | lineGenDisable (src : Source) (g : GenId)
  /-- TRIGGER_EDGE (R129): An accepted trigger edge creates a product record, or is ignored under lockout. -/
  | triggerEdge (t : Nat) (k : TrigId) (rising : Bool)
  /-- TRIGGER_ENABLE (R134): Enable 1 on a trigger is checked and claims its input ball. -/
  | triggerEnable (src : Source) (k : TrigId)
  /-- TRIGGER_DISABLE (R134): Enable 0 disables a trigger at once and releases its claim. -/
  | triggerDisable (src : Source) (k : TrigId)
  /-- PRODUCT_RETIRE (R133): A record retires when the encoder reaches retire_pos, and its serial is ledgered. -/
  | productRetire (t : Nat) (id : Nat)
  /-- MAP_EDIT (R143): A MapEdit write changes one nozzle-map entry through the map manager. -/
  | mapEdit (src : Source) (b : BarId) (v : Nat)
  /-- MAP_IMAGE_WRITE (R143): A MapImage write replaces every entry through the map manager. -/
  | mapImageWrite (src : Source) (b : BarId) (bytes : List Byte)
  /-- ACTIVE_COPY_SWITCH (R143): The strobe of SwitchLine changes ActiveCopy and sets MAP_SWITCH. -/
  | activeCopySwitch (t : Nat) (b : BarId)
  /-- FORMATTER_WORD (R146): A fire formatter takes a word of its queue into the hold buffer. -/
  | formatterWord (t : Nat) (b : BarId)
  /-- FIRE_FRAME_LAUNCH (R149): A held line's fire frame enters the head-lane transmitter. -/
  | fireFrameLaunch (t : Nat) (b : BarId)
  /-- BAR_ENABLE (R150): Enable 1 on a bar is checked and the bar enters STARTING. -/
  | barEnable (src : Source) (b : BarId)
  /-- BAR_DISABLE (R151): Enable 0 stops a bar and drops its windows. -/
  | barDisable (src : Source) (b : BarId)
  /-- BAR_START_COMPLETE (R151): A starting bar enters ON once its head lane is in DATA. -/
  | barStartComplete (t : Nat) (b : BarId)
  /-- BAR_STOP_COMPLETE (R151): A stopping bar reaches OFF, or restarts, once its frame in progress is sent. -/
  | barStopComplete (t : Nat) (b : BarId)
  /-- MGMT_REQUEST (R155): A MgmtRequest write sends one MGMT frame to a head or bridge. -/
  | mgmtRequest (src : Source) (unit : Fin 30) (bytes : List Byte)
  /-- MGMT_REPLY (R155): A MGMT_REPLY with the pending seq makes MgmtState REPLIED. -/
  | mgmtReply (t : Nat) (unit : Fin 30) (hdr : Nat) (p : List Byte) (crcOk : Bool)
  /-- MGMT_TIMEOUT (R155): No reply within MgmtTimeout makes MgmtState TIMEOUT. -/
  | mgmtTimeout (t : Nat) (unit : Fin 30)
  /-- HEAD_STATUS (R157): A received HEAD_STATUS frame updates the bar's head objects. -/
  | headStatus (t : Nat) (b : BarId) (hdr : Nat) (p : List Byte) (crcOk : Bool)
  /-- NOZZLE_REPORT (R157): A received NOZZLE_REPORT frame goes to the map manager. -/
  | nozzleReport (t : Nat) (b : BarId) (hdr : Nat) (p : List Byte) (crcOk : Bool)
  /-- HEAD_SILENT (R158): 5 ms without a valid HEAD_STATUS counts HeadSilent. -/
  | headSilent (t : Nat) (b : BarId)
  /-- REJECT_DECISION (R165): The gate's encoder reaches an entry's position and the gate decides whether to fire. -/
  | rejectDecision (t : Nat) (j : GateId)
  /-- REJECT_PULSE_END (R166): A reject pulse ends at its width, position or PulseTimeout. -/
  | rejectPulseEnd (t : Nat) (j : GateId)
  /-- GATE_ENABLE (R167): Enable 1 enables a reject gate. -/
  | gateEnable (src : Source) (j : GateId)
  /-- GATE_DISABLE (R167): Enable 0 discards the gate's list and drives REJj inactive. -/
  | gateDisable (src : Source) (j : GateId)
  /-- POLARITY_WRITE (R167): A Polarity write to a disabled gate moves REJj to the new inactive level. -/
  | polarityWrite (src : Source) (j : GateId) (v : Nat)
  /-- FORCE_REJECT (R165): A ForceReject write sets force_reject in a live product's record. -/
  | forceReject (src : Source) (id : Nat)
  /-- IMAGE_LINE (R175): A received IMAGE_LINE is checked and held in the intake reorder buffer. -/
  | imageLine (t : Nat) (k : CamId) (odd : Bool) (hdr : Nat) (p : List Byte) (crcOk : Bool)
  /-- LINE_LOST_TIMEOUT (R175): LostTimeout after the strobe of NextLine without its frame marks the line lost. -/
  | lineLostTimeout (t : Nat) (k : CamId)
  /-- BRIDGE_STATUS (R174): A received BRIDGE_STATUS frame updates BridgeFlags. -/
  | bridgeStatus (t : Nat) (k : CamId) (hdr : Nat) (p : List Byte) (crcOk : Bool)
  /-- BRIDGE_SILENT (R174): 5 ms with no valid BRIDGE_STATUS counts BridgeSilent. -/
  | bridgeSilent (t : Nat) (k : CamId)
  /-- CAMERA_ENABLE (R178): Enable 1 on a camera is checked and the camera enters STARTING. -/
  | cameraEnable (src : Source) (k : CamId)
  /-- CAMERA_DISABLE (R179): Enable 0 stops a camera and ends its WAITING regions. -/
  | cameraDisable (src : Source) (k : CamId)
  /-- CAMERA_START_COMPLETE (R179): A starting camera enters ON once IL(2k) is in DATA, and sets NextLine. -/
  | cameraStartComplete (t : Nat) (k : CamId)
  /-- CAMERA_STOP_COMPLETE (R179): A stopping camera reaches OFF or restarts. -/
  | cameraStopComplete (t : Nat) (k : CamId)
  /-- VERDICT_POST (R186): A VerdictPost write stores a verdict for an IMAGED or MISSED product. -/
  | verdictPost (src : Source) (v : Nat)
  /-- HEALTH_POST (R192): A HealthPost write asks the map manager to mark a nozzle FAILED. -/
  | healthPost (src : Source) (v : Nat)
  /-- ARCHIVE_RECORD (R194): The archive unit copies a region's lines from history into the archive ring. -/
  | archiveRecord (t : Nat)
  /-- ALLOTMENT_GRANT (R196): An AllotmentGrant write is checked and journalled. -/
  | allotmentGrant (src : Source) (bytes : List Byte)
  /-- RESET_GRANT (R209): A RESET grant is checked and clears a JOURNAL_LOST serial unit. -/
  | resetGrant (src : Source) (bytes : List Byte)
  /-- JOURNAL_WRITE_COMPLETE (R205): A journal bank write ends with its read-back, making pending grants and marks take effect. -/
  | journalWriteComplete (t : Nat) (ok : Bool)
  /-- SERIAL_TEXT_READ (R203): A SerialText read returns the text of a COMMITTED serial, otherwise STATE. -/
  | serialTextRead (src : Source)
  /-- ALLOTMENT_RETIRE (R197): A Retire write retires an ACTIVE or EXHAUSTED allotment. -/
  | allotmentRetire (src : Source) (a : AllotId)
  /-- SERIAL_RECOVERY (R207): Once the pair role is settled, the serial unit recovers from the newest valid journal bank. -/
  | serialRecovery (t : Nat)
  /-- LEDGER_RECORD_WRITE (R213): A ledger record is written to the ring when it has room, and the chain head advances. -/
  | ledgerRecordWrite (t : Nat)
  /-- CHECKPOINT_START (R214): A checkpoint starts at 4,096 uncovered records or after 1 s, and the security unit signs it. -/
  | checkpointStart (t : Nat)
  /-- CHECKPOINT_PUBLISH (R214): After its journal write, a signed checkpoint is written to the checkpoint ring and sent to the partner. -/
  | checkpointPublish (t : Nat)
  /-- LEDGER_RING_WRITE (R213): An accepted write of a ledger or checkpoint ring base or size empties that ring. -/
  | ledgerRingWrite (src : Source) (checkpoint : Bool) (size : Bool) (v : Nat)
  /-- PAIR_ENABLE (R228): PairEnable 1 claims the pair lanes and starts ARBITRATING. -/
  | pairEnable (src : Source)
  /-- PAIR_DISABLE (R228): PairEnable 0 returns the engine to SINGLE, except from STOOD_DOWN. -/
  | pairDisable (src : Source)
  /-- HELLO (R228): A received HELLO drives arbitration or resync joining. -/
  | hello (t : Nat) (i : PairLane) (role : Nat) (p : List Byte) (ok : Bool)
  /-- HELLO_SEND (R224): HELLO is sent every 1 ms in ARBITRATING and RESYNC. -/
  | helloSend (t : Nat)
  /-- HEARTBEAT (R224): A received HEARTBEAT keeps the link and ordered lane alive. -/
  | heartbeat (t : Nat) (i : PairLane) (role : Nat) (p : List Byte) (ok : Bool)
  /-- HEARTBEAT_SEND (R222): A HEARTBEAT is sent about every 8 µs on each lane in DATA. -/
  | heartbeatSend (t : Nat) (i : PairLane)
  /-- ARBITRATION_TIMEOUT (R228): Link lost for ArbitrationTimeout with sidebands low lets a primary claimant become SOLO. -/
  | arbitrationTimeout (t : Nat)
  /-- FIRMWARE_KICK (R219): A FirmwareKick write kicks the pair watchdog. -/
  | firmwareKick (src : Source)
  /-- WATCHDOG_EXPIRY (R220): The pair watchdog expires and the engine stands down. -/
  | watchdogExpiry (t : Nat) (agentStopped : Bool)
  /-- SIDEBAND_LOW_TIMEOUT (R239): ALIVE_IN and ROLE_IN have read low for 20 µs. `alive` and `role` are the samples at t. -/
  | sidebandLowTimeout (t : Nat) (alive : Bool) (role : Bool)
  /-- LINK_LOST (R226): 32 µs without a valid pair frame marks the link lost. -/
  | linkLost (t : Nat)
  /-- LINK_LOST_200US (R228): Link lost for 200 µs sends a PRIMARY to SOLO or a STANDBY to ORPHANED. -/
  | linkLost200us (t : Nat)
  /-- ORDERED_ANSWER_TIMEOUT (R228): An ordered frame unanswered for 200 µs sends the primary to SOLO. -/
  | orderedAnswerTimeout (t : Nat)
  /-- MIRROR_WRITE (R232): The standby applies a mirrored class M write and answers with its status. -/
  | mirrorWrite (t : Nat) (i : PairLane) (seq : Nat) (role : Nat) (p : List Byte) (ok : Bool)
  /-- ACK (R225): A received ACK completes the ordered frame it answers. -/
  | ack (t : Nat) (i : PairLane) (seq : Nat) (role : Nat) (p : List Byte) (ok : Bool)
  /-- NAK (R228): A received NAK refuses the commit and sends the primary to SOLO. -/
  | nak (t : Nat) (i : PairLane) (seq : Nat) (role : Nat) (p : List Byte) (ok : Bool)
  /-- COMMIT (R204): The standby checks a COMMIT, advances its mirror and fills serial_ref, or answers NAK. -/
  | commit (t : Nat) (i : PairLane) (seq : Nat) (role : Nat) (p : List Byte) (ok : Bool)
  /-- RESERVE (R204): The standby journals a new reserve mark and answers ACK. -/
  | reserve (t : Nat) (i : PairLane) (seq : Nat) (role : Nat) (p : List Byte) (ok : Bool)
  /-- MAP_SWITCH (R236): The standby collects MAP_SWITCH entries and applies the change on the last frame. -/
  | mapSwitch (t : Nat) (i : PairLane) (seq : Nat) (role : Nat) (p : List Byte) (ok : Bool)
  /-- CHECKPOINT_STATE (R215): The standby journals the ledger state of a received checkpoint. -/
  | checkpointState (t : Nat) (i : PairLane) (seq : Nat) (role : Nat) (p : List Byte) (ok : Bool)
  /-- DIGEST (R238): A received RENDER or VERDICT digest is compared with the local one. -/
  | digest (t : Nat) (i : PairLane) (seq : Nat) (role : Nat) (p : List Byte) (ok : Bool)
  /-- ORPHAN (R228): A received ORPHAN sends the primary to SOLO. -/
  | orphan (t : Nat) (i : PairLane) (seq : Nat) (role : Nat) (p : List Byte) (ok : Bool)
  /-- POSITION_MARK (R243): The joiner pairs a received POSITION_MARK with its own latched position. -/
  | positionMark (t : Nat) (i : PairLane) (seq : Nat) (role : Nat) (p : List Byte) (ok : Bool)
  /-- ENCODER_IDLE_ALIGN (R243): An encoder idle for 10 ms takes the source's position directly. `pos` is that position, none where the source's encoder has counted within 10 ms. -/
  | encoderIdleAlign (t : Nat) (e : EncId) (pos : Option Nat)
  /-- RESYNC_REQUEST (R243): A ResyncRequest write starts a resync from ORPHANED. -/
  | resyncRequest (src : Source)
  /-- RESYNC_CUT (R243): The source holds the capo, copies the cut state into the snapshot and sends CUT. `rewritten` is the number of 1 KiB blocks written since the last pass with what they held already. -/
  | resyncCut (t : Nat) (rewritten : Nat)
  /-- RESYNC_HOLD_LIMIT (R244): A cut hold reaching ResyncHoldLimit releases the capo and returns to PRECOPY. -/
  | resyncHoldLimit (t : Nat)
  /-- CUT (R246): The joiner halts fields, flushes input queues and replays camera history from the cut. -/
  | cut (t : Nat) (i : PairLane) (seq : Nat) (role : Nat) (p : List Byte) (ok : Bool)
  /-- SNAPSHOT (R243): The joiner stores a received snapshot chunk. -/
  | snapshot (t : Nat) (i : PairLane) (role : Nat) (p : List Byte) (ok : Bool)
  /-- SNAPSHOT_END (R243): The joiner checks the snapshot digest and restores the cut state. -/
  | snapshotEnd (t : Nat) (i : PairLane) (seq : Nat) (role : Nat) (p : List Byte) (ok : Bool)
  /-- CATCH_UP_COMPLETE (R248): The joiner meets the catch-up condition, enters STANDBY and sends RESYNC_DONE. -/
  | catchUpComplete (t : Nat)
  /-- RESYNC_DONE (R248): The SOLO source processes RESYNC_DONE and enters PRIMARY. -/
  | resyncDone (t : Nat) (i : PairLane) (seq : Nat) (role : Nat) (p : List Byte) (ok : Bool)
  /-- RESYNC_TIMEOUT (R243): A resync not finished within ResyncTimeout fails and the joiner becomes ORPHANED. -/
  | resyncTimeout (t : Nat)
  /-- BASE_INSTRUCTION (R249): A Peg core issues an RV32IMFC, Zicsr or Zifencei instruction. -/
  | baseInstruction (t : Nat) (n : CoreId)
  /-- CALLW (R254): CALLW opens a new register window and jumps by a J-type offset. -/
  | callw (t : Nat) (n : CoreId)
  /-- CALLWR (R254): CALLWR opens a new register window and jumps to rs1 + imm. -/
  | callwr (t : Nat) (n : CoreId)
  /-- RETW (R255): RETW returns to the window link and closes the window. -/
  | retw (t : Nat) (n : CoreId)
  /-- SMM (R258): SMM stores the registers named by a mask. -/
  | smm (t : Nat) (n : CoreId) (regs : Nat)
  /-- SMM_O (R258): SMM.O stores the oldest window's ins, locals and link. -/
  | smmO (t : Nat) (n : CoreId) (regs : Nat)
  /-- LMM (R258): LMM loads the registers named by a mask. -/
  | lmm (t : Nat) (n : CoreId) (regs : Nat)
  /-- LMM_O (R258): LMM.O loads the oldest window's ins, locals and link. -/
  | lmmO (t : Nat) (n : CoreId) (regs : Nat)
  /-- SPILLW (R257): SPILLW stores the oldest window's frame at gwsp. -/
  | spillw (t : Nat) (n : CoreId)
  /-- FILLW (R257): FILLW loads the frame below gwsp into the window below WB. -/
  | fillw (t : Nat) (n : CoreId)
  /-- REP (R272): REP issues the next instruction imm + 1 times. -/
  | rep (t : Nat) (n : CoreId)
  /-- REPR (R272): REPR issues the next instruction x[rs1] times. -/
  | repr (t : Nat) (n : CoreId)
  /-- LOOP (R273): LOOP starts a hardware loop level. -/
  | loop (t : Nat) (n : CoreId)
  /-- FMAC (R269): FMAC adds X × Y to an accumulator. -/
  | fmac (t : Nat) (n : CoreId)
  /-- FMSC (R269): FMSC subtracts X × Y from an accumulator. -/
  | fmsc (t : Nat) (n : CoreId)
  /-- FMULA (R269): FMULA sets an accumulator to X × Y. -/
  | fmula (t : Nat) (n : CoreId)
  /-- FMACF (R269): FMACF adds X × f[rs] to an accumulator. -/
  | fmacf (t : Nat) (n : CoreId)
  /-- FMSCF (R269): FMSCF subtracts X × f[rs] from an accumulator. -/
  | fmscf (t : Nat) (n : CoreId)
  /-- XLD (R267): XLD loads an f register from X memory with post-modify. -/
  | xld (t : Nat) (n : CoreId)
  /-- YLD (R267): YLD loads an f register from Y memory with post-modify. -/
  | yld (t : Nat) (n : CoreId)
  /-- XST (R267): XST stores an f register into X memory with post-modify. -/
  | xst (t : Nat) (n : CoreId)
  /-- YST (R267): YST stores an f register into Y memory with post-modify. -/
  | yst (t : Nat) (n : CoreId)
  /-- FMVAF (R271): FMVAF copies an accumulator into an f register. -/
  | fmvaf (t : Nat) (n : CoreId)
  /-- FMVFA (R271): FMVFA writes an f register into an accumulator. -/
  | fmvfa (t : Nat) (n : CoreId)
  /-- ACCZ (R271): ACCZ writes +0 to the masked accumulators. -/
  | accz (t : Nat) (n : CoreId)
  /-- ACCSUM (R271): ACCSUM sums the four accumulators into an f register. -/
  | accsum (t : Nat) (n : CoreId)
  /-- ACCUMULATOR_WRITE (R268): An accumulator write lands at the end of NCLK t + 3. -/
  | accumulatorWrite (t : Nat) (n : CoreId)
  /-- MRET (R262): MRET leaves trap context and resumes at mepc. -/
  | mret (t : Nat) (n : CoreId)
  /-- INTERRUPT (R281): A pending DISPATCH or EVENT interrupt is taken at the next allowed boundary. -/
  | interrupt (t : Nat) (n : CoreId)
  /-- CORE_RUN (R283): Run 1 starts a core from RESET or continues it from HALTED. -/
  | coreRun (src : Source) (n : CoreId)
  /-- CORE_HALT (R283): Run 0 requests a halt of a running core. -/
  | coreHalt (src : Source) (n : CoreId)
  /-- CORE_HALTED (R283): A core stops at the next allowed boundary after a halt request. -/
  | coreHalted (t : Nat) (n : CoreId)
  /-- CORE_RESET (R283): Reset 1 puts a halted or double-faulted core into RESET. -/
  | coreReset (src : Source) (n : CoreId)
  /-- EVENT_GRANT (R288): The concentrator grants a pending event, counts it and performs its route. -/
  | eventGrant (t : Nat)
  /-- CORE_EVENT_POP (R291): A core's CoreEventPop read removes and returns its oldest inbox entry. -/
  | coreEventPop (src : Source) (n : CoreId)
  /-- EVENT_RAISE_WRITE (R293): An EventRaise write raises a software event 284–319. -/
  | eventRaiseWrite (src : Source) (v : Nat)
  /-- COALESCED_MAP_CLEAR (R285): Writing 0 bits to CoalescedMap clears them. -/
  | coalescedMapClear (src : Source) (bytes : List Byte)
  /-- TASK_SETUP (R295): A TaskSetup write sets a task's priority, affinity and flags. -/
  | taskSetup (src : Source) (v : Nat)
  /-- TASK_CREATE (R296): CREATE makes a FREE task BLOCKED. -/
  | taskCreate (src : Source) (task : Nat)
  /-- TASK_POST (R297): POST wakes a task or adds to its pending posts. -/
  | taskPost (src : Source) (task : Nat)
  /-- TASK_SUSPEND (R296): SUSPEND removes a task from every list. -/
  | taskSuspend (src : Source) (task : Nat)
  /-- TASK_RESUME (R296): RESUME makes a SUSPENDED task BLOCKED or READY. -/
  | taskResume (src : Source) (task : Nat)
  /-- TASK_DELETE (R296): DELETE frees a BLOCKED or SUSPENDED task. -/
  | taskDelete (src : Source) (task : Nat)
  /-- TASK_OFFER (R298): The scheduler places an offer of a ready task to a core, perhaps displacing another. -/
  | taskOffer (t : Nat)
  /-- CORE_ACCEPT (R300): ACCEPT makes the offered task RUNNING and preempts the previous one. -/
  | coreAccept (src : Source) (n : CoreId) (task : Nat)
  /-- CORE_DONE (R300): DONE ends the running task's activation. -/
  | coreDone (src : Source) (n : CoreId)
  /-- CORE_YIELD (R300): YIELD puts the running task at the tail of its ready list. -/
  | coreYield (src : Source) (n : CoreId)
  /-- CORE_DELAY (R302): DELAY puts the running task on a time or encoder delay list. -/
  | coreDelay (src : Source) (n : CoreId) (list : Fin 8) (arg : Nat)
  /-- CORE_ATTACH (R298): ATTACH makes a core eligible for dispatch. -/
  | coreAttach (src : Source) (n : CoreId)
  /-- CORE_DETACH (R305): DETACH withdraws offers to a core and lets its task finish. -/
  | coreDetach (src : Source) (n : CoreId)
  /-- DISPATCH_TIMEOUT (R301): An offer not accepted within DispatchTimeout is withdrawn. -/
  | dispatchTimeout (t : Nat) (n : CoreId)
  /-- DELAY_DUE (R302): A delayed task falls due and becomes READY. -/
  | delayDue (t : Nat) (list : Fin 5)
  /-- TICK (R303): TickCount advances every TickPeriod µs. -/
  | tick (t : Nat)
  /-- INTERVAL_TIMER_DUE (R304): An interval timer reaches NextDue, raises its event and advances. -/
  | intervalTimerDue (t : Nat) (i : TimerId)
  /-- TIMER_ENABLE (R304): Enabling an interval timer sets NextDue. -/
  | timerEnable (src : Source) (i : TimerId)
  /-- TIMER_DISABLE (R304): Disabling an interval timer stops its events. -/
  | timerDisable (src : Source) (i : TimerId)
  /-- SCHED_CORES_WRITE (R305): A SchedCores write makes cores eligible or acts as DETACH for offers. -/
  | schedCoresWrite (src : Source) (v : Nat)
  /-- TRACE_MODE_WRITE (R307): A TraceMode write empties the trace and sets its recording mode. -/
  | traceModeWrite (src : Source) (v : Nat)
  /-- BANK_ACCESS_GRANT (R312): A bank grants one waiting access per NCLK by owner and master order. -/
  | bankAccessGrant (t : Nat) (b : Fin 32)
  /-- HARROW_BORROW (R316): Every HarrowPeriod, the harrow borrows the next bank window and starts its march. -/
  | harrowBorrow (t : Nat) (faults : List (Nat × List Byte))
  /-- HARROW_RESTORE_COMPLETE (R318): RESTORE ends and the borrowed window is returned to its accesses. -/
  | harrowRestoreComplete (t : Nat)
  /-- LPDDR_INIT_DONE (R323): The LPDDR5 power-up and reset sequence ends and training starts. -/
  | lpddrInitDone (t : Nat) (i : LpId)
  /-- LPDDR_TRAINING_DONE (R323): LPDDR5 training ends; the interface becomes READY or FAILED. -/
  | lpddrTrainingDone (t : Nat) (i : LpId) (failStep : Fin 16)
  /-- LPDDR_MR4_READ (R320): MR4 is read every 32 ms and the refresh interval scaled. -/
  | lpddrMr4Read (t : Nat) (i : LpId) (code : Nat)
  /-- LPDDR_ZQ_LATCH (R320): Background ZQ calibration is latched every 64 ms. -/
  | lpddrZqLatch (t : Nat) (i : LpId)
  /-- LPDDR_WCK2DQ_TRACKING (R320): WCK2DQ oscillator tracking runs every 100 ms. -/
  | lpddrWck2dqTracking (t : Nat) (i : LpId)
  /-- LPDDR_REFRESH (R320): A per-bank refresh is issued when due. -/
  | lpddrRefresh (t : Nat) (i : LpId)
  /-- LPDDR_WRITE_REFUSED (R324): A history or archive write waiting 20 µs is refused and dropped. -/
  | lpddrWriteRefused (t : Nat) (history : Option (CamId × Nat))
  /-- NETWORK_REQUEST (R325): An NI injects a request packet after reserving its response space. -/
  | networkRequest (t : Nat) (ni : NiId) (addr : Nat) (size : Nat) (write : Bool) (v : Nat)
  /-- NETWORK_RESPONSE (R326): A response arrives at its NI and completes the request. -/
  | networkResponse (t : Nat) (ni : NiId) (tag : Nat)
  /-- REQUEST_TIMEOUT (R332): A request unanswered within its timeout is answered TIMEOUT by its NI. -/
  | requestTimeout (t : Nat) (ni : NiId) (tag : Nat)
  /-- PORT_STALL_TIMEOUT (R333): A target port answers a stalled request TIMEOUT. -/
  | portStallTimeout (t : Nat) (ni : NiId) (tag : Nat)
  /-- ROUTE_SWAP_GO (R331): A Go write checks every shadow route table and starts the swap. -/
  | routeSwapGo (src : Source)
  /-- NI_TABLE_SWAP (R331): An NI swaps to its new table at its first idle NCLK. -/
  | niTableSwap (t : Nat) (ni : NiId)
  /-- ROUTER_RECONFIG_GO (R338): A Go write suspends the routes through a router to change its weights. -/
  | routerReconfigGo (src : Source)
  /-- ROUTER_RECONFIG_APPLY (R338): Once the router has drained, its weights apply and routes resume. -/
  | routerReconfigApply (t : Nat)
  /-- LANE_ENABLE_DATA (R356): Enable 1 starts a lane towards DATA. -/
  | laneEnableData (src : Source) (n : LaneId)
  /-- LANE_ENABLE_TEST (R356): Enable 2 starts a lane in PRBS TEST and takes its test claims. -/
  | laneEnableTest (src : Source) (n : LaneId)
  /-- LANE_DISABLE (R357): Enable 0 stops a lane. -/
  | laneDisable (src : Source) (n : LaneId)
  /-- LANE_PLL_LOCK (R357): The group PLL locks and the lane enters ACQUIRING or TEST. -/
  | lanePllLock (t : Nat) (n : LaneId)
  /-- LANE_DATA_ENTRY (R355): A lane meets its entry conditions and enters DATA. -/
  | laneDataEntry (t : Nat) (n : LaneId)
  /-- LANE_LINK_DROP (R355): Block lock loss, hi_ber or RX_READY 0 sends a lane from DATA to RETRAINING. -/
  | laneLinkDrop (t : Nat) (n : LaneId) (inFrame : Bool)
  /-- LANE_STATUS_SET (R345): A received lane status ordered set updates RemoteReady. -/
  | laneStatusSet (t : Nat) (n : LaneId) (ready : Bool)
  /-- LANE_STATUS_SEND (R345): A lane status set is sent between frames after 1,024 blocks or a change of RX_READY. -/
  | laneStatusSend (t : Nat) (n : LaneId) (ready : Bool)
  /-- LANE_STATUS_SILENCE (R355): 8,192 blocks with no lane status set send the lane out of DATA. -/
  | laneStatusSilence (t : Nat) (n : LaneId)
  /-- ACQUIRE_TIMEOUT (R357): A lane not in DATA after AcquireLimit restarts adaptation. -/
  | acquireTimeout (t : Nat) (n : LaneId)
  /-- LANE_RETRAIN (R357): A Retrain write forces a lane in DATA to RETRAINING. -/
  | laneRetrain (src : Source) (n : LaneId)
  /-- LANE_STOP_COMPLETE (R357): A stopping lane reaches OFF, or restarts, after its frame and 1 µs. -/
  | laneStopComplete (t : Nat) (n : LaneId)
  /-- REFCLK_LOST (R347): REFCLK_IN missing or far off frequency holds lane PLLs unlocked and returns lanes to STARTING. -/
  | refclkLost (t : Nat)
  /-- DFE_ADAPT (R353): Every 1,024 UI, each DFE tap moves by sign-sign LMS. -/
  | dfeAdapt (t : Nat) (n : LaneId) (sums : List Int)
  /-- PRBS_LOCK (R361): The PRBS checker locks after 64 correct predicted bits. -/
  | prbsLock (t : Nat) (n : LaneId)
  /-- PRBS_INJECT (R361): A PrbsInject write inverts one transmitted bit. -/
  | prbsInject (src : Source) (n : LaneId)
  /-- PRBS_COUNTER_CLEAR (R361): Writing 0 to PrbsErrors clears both PRBS counters. -/
  | prbsCounterClear (src : Source) (n : LaneId)
  /-- OPRAL_DATAGRAM (R384): A received Opral datagram is checked, its ops applied and a response sent. -/
  | opralDatagram (t : Nat) (p : PortId) (ip : Nat) (udp : Nat) (b : List Byte)
  /-- OPRAL_READ (R383): A READ op returns an object's value. -/
  | opralRead (t : Nat) (p : PortId) (ip : Nat) (udp : Nat) (node : Nat) (seq : Nat) (idx : Nat) (sub : Nat) (ty : Nat)
  /-- OPRAL_WRITE (R383): A WRITE op writes an object's value. -/
  | opralWrite (t : Nat) (p : PortId) (ip : Nat) (udp : Nat) (node : Nat) (seq : Nat) (idx : Nat) (sub : Nat) (v : ObjVal)
  /-- OPRAL_SEG_READ (R385): A SEG_READ op returns a segment of a captured long value. -/
  | opralSegRead (t : Nat) (p : PortId) (ip : Nat) (udp : Nat) (node : Nat) (seq : Nat) (idx : Nat) (sub : Nat) (off : Nat) (len : Nat)
  /-- OPRAL_SEG_WRITE (R385): A SEG_WRITE op adds a segment to an assembly and applies it on the last. -/
  | opralSegWrite (t : Nat) (p : PortId) (ip : Nat) (udp : Nat) (node : Nat) (seq : Nat) (idx : Nat) (sub : Nat) (ty : Nat) (off : Nat) (last : Bool) (b : List Byte)
  /-- SEGMENT_TIMEOUT (R385): An unused assembly or capture is discarded after SegmentTimeout. -/
  | segmentTimeout (t : Nat)
  /-- ARP_REQUEST (R381): A port answers an ARP request. -/
  | arpRequest (t : Nat) (p : PortId) (mac : Nat) (ip : Nat) (target : Nat)
  /-- ICMP_ECHO (R381): A port answers an ICMP echo request. -/
  | icmpEcho (t : Nat) (p : PortId) (ip : Nat) (target : Nat) (rest : List Byte)
  /-- CAN_PORT_ENABLE (R388): Enabling a CAN FD port sends boot-up and enters PRE-OPERATIONAL. -/
  | canPortEnable (src : Source) (p : PortId)
  /-- NMT_START (R388): The NMT start command moves the port to OPERATIONAL. -/
  | nmtStart (t : Nat) (p : PortId) (node : Nat)
  /-- NMT_STOP (R388): The NMT stop command moves the port to STOPPED. -/
  | nmtStop (t : Nat) (p : PortId) (node : Nat)
  /-- NMT_ENTER_PRE_OPERATIONAL (R388): The NMT command moves the port to PRE-OPERATIONAL. -/
  | nmtEnterPreOperational (t : Nat) (p : PortId) (node : Nat)
  /-- NMT_RESET_NODE (R388): Reset-node restarts only that port's communication. -/
  | nmtResetNode (t : Nat) (p : PortId) (node : Nat)
  /-- NMT_RESET_COMMUNICATION (R388): Reset-communication restarts only that port's communication. -/
  | nmtResetCommunication (t : Nat) (p : PortId) (node : Nat)
  /-- CAN_HEARTBEAT (R388): The port produces a heartbeat every HeartbeatTime ms. -/
  | canHeartbeat (t : Nat) (p : PortId)
  /-- CAN_BUS_OFF (R388): The port goes bus-off, recovers automatically and counts BusOffs. -/
  | canBusOff (t : Nat) (p : PortId)
  /-- SDO_DOWNLOAD (R389): An SDO download writes an object, expedited or segmented. -/
  | sdoDownload (t : Nat) (p : PortId) (idx : Nat) (sub : Nat) (off : Nat) (last : Bool) (b : List Byte)
  /-- SDO_UPLOAD (R389): An SDO upload reads an object, expedited or segmented. -/
  | sdoUpload (t : Nat) (p : PortId) (idx : Nat) (sub : Nat) (off : Nat) (max : Nat)
  /-- SDO_TIMEOUT (R389): An SDO transfer idle for SegmentTimeout is aborted. -/
  | sdoTimeout (t : Nat) (p : PortId)
  /-- RPDO (R390): A received PDO checks all its entries and applies them together or none. -/
  | rpdo (t : Nat) (i : PdoId) (b : List Byte)
  /-- TPDO_CYCLIC (R390): A transmit PDO sends every Period ms. -/
  | tpdoCyclic (t : Nat) (i : PdoId)
  /-- CAN_SYNC (R390): A received SYNC sends the transmit PDOs due at that count. -/
  | canSync (t : Nat) (p : PortId)
  /-- TPDO_TRIGGER (R390): A TpdoTrigger write sends a software-triggered PDO. -/
  | tpdoTrigger (src : Source) (i : PdoId)
  /-- COBID_WRITE (R390): A CobId write validates or invalidates a PDO and checks its mapping. -/
  | cobidWrite (src : Source) (i : PdoId) (v : Nat)
  /-- PTP_SYNC (R393): A received Sync updates the servo and PtpState. -/
  | ptpSync (t : Nat) (p : PortId) (domain : Nat) (id : Nat) (seq : Nat) (origin : Option Nat)
  /-- PTP_FOLLOW_UP (R392): A received Follow_Up completes a two-step Sync. -/
  | ptpFollowUp (t : Nat) (p : PortId) (domain : Nat) (id : Nat) (seq : Nat) (origin : Nat)
  /-- PTP_ANNOUNCE (R392): A received Announce feeds the best master clock algorithm. -/
  | ptpAnnounce (t : Nat) (p : PortId) (domain : Nat) (id : Nat) (gm : Nat) (priority1 : Nat) (quality : Nat) (priority2 : Nat) (steps : Nat)
  /-- PTP_DELAY_REQ (R392): The engine sends a Delay_Req at its interval. -/
  | ptpDelayReq (t : Nat)
  /-- PTP_DELAY_RESP (R392): A received Delay_Resp updates the mean path delay. -/
  | ptpDelayResp (t : Nat) (p : PortId) (domain : Nat) (id : Nat) (seq : Nat) (t4 : Nat)
  /-- ANNOUNCE_RECEIPT_TIMEOUT (R393): No Sync within the receipt timeout moves PtpState to HOLDOVER. -/
  | announceReceiptTimeout (t : Nat)
  /-- PPS_IN_EDGE (R394): A PPS_IN rising edge is timestamped and may steer phase. -/
  | ppsInEdge (t : Nat)
  /-- PPS_OUT_SECOND (R394): PPS_OUT rises at each whole second of engine time. -/
  | ppsOutSecond (t : Nat)
  /-- STORE_PARAMETERS (R373): The "save" command captures every P object and starts a store. -/
  | storeParameters (src : Source)
  /-- STORE_COMPLETE (R373): A parameter-store write ends DONE or FAILED after read-back. -/
  | storeComplete (t : Nat) (ok : Bool)
  /-- RESTORE_DEFAULTS (R374): The "load" command writes an empty defaults bank. -/
  | restoreDefaults (src : Source)
  /-- POWER_ON (R411): VIN rising through 4.4 V resets everything and starts the engine. -/
  | powerOn (t : Nat) (pairRole : Bool) (jtagEnable : Bool) (bootRecovery : Bool) (coreDebug : Bool) (flash : List (Nat × List Byte))
  /-- BROWN_OUT (R395): VIN falling below 4.2 V removes every rail. -/
  | brownOut (t : Nat)
  /-- POWER_FAIL (R396): VIN below VinWarnLevel sheds load, runs the orderly shutdown and turns domains off. -/
  | powerFail (t : Nat) (mv : Nat)
  /-- SUPPLY_OVERCURRENT (R397): A board supply output in current limit for 1 ms switches off. -/
  | supplyOvercurrent (t : Nat) (o : Fin 2)
  /-- BOARD_SUPPLY_MODE_WRITE (R397): A BoardSupplyMode write sets the 1.8 V output mode and restarts a tripped output. -/
  | boardSupplyModeWrite (src : Source) (v : Nat)
  /-- LPDDR_SUPPLY_ENABLE_WRITE (R398): An LpddrSupplyEnable write switches an interface's supply outputs. -/
  | lpddrSupplyEnableWrite (src : Source) (v : Nat)
  /-- LPDDR_SUPPLY_FAULT (R398): An LPDDR5 output fault switches off the interface's outputs and loses its content. -/
  | lpddrSupplyFault (t : Nat) (i : LpId)
  /-- DOMAIN_REQUEST_ON (R401): A DomainRequest of ON starts a domain or latches a restart. -/
  | domainRequestOn (src : Source) (d : DomainId)
  /-- DOMAIN_REQUEST_OFF (R401): A DomainRequest of OFF begins fencing of an ON domain. -/
  | domainRequestOff (src : Source) (d : DomainId)
  /-- DOMAIN_REQUEST_RETAINED (R401): A DomainRequest of RETAINED takes a field domain down with its state kept. -/
  | domainRequestRetained (src : Source) (d : DomainId)
  /-- DOMAIN_START_COMPLETE (R401): A starting domain's rail, clocks and bring-up finish, and it enters ON or fails to OFF. -/
  | domainStartComplete (t : Nat) (d : DomainId) (ok : Bool)
  /-- DOMAIN_FENCE_APPLIED (R334): Every NI has applied the fence and the domain enters DRAINING. -/
  | domainFenceApplied (t : Nat) (d : DomainId)
  /-- DOMAIN_DRAIN_COMPLETE (R334): The domain's network drain condition is met and it enters STOPPING. -/
  | domainDrainComplete (t : Nat) (d : DomainId)
  /-- DOMAIN_STOP_COMPLETE (R401): Clamps and absorb mode apply and the domain reaches OFF or RETAINED, or restarts. -/
  | domainStopComplete (t : Nat) (d : DomainId)
  /-- POWER_MODE_RUN (R404): A PowerMode write of 0 selects RUN. -/
  | powerModeRun (src : Source)
  /-- POWER_MODE_LINE_STOP (R404): A PowerMode write of 1 starts entry to LINE_STOP. -/
  | powerModeLineStop (src : Source)
  /-- POWER_MODE_SLEEP (R404): A PowerMode write of 2 enters SLEEP. -/
  | powerModeSleep (src : Source)
  /-- POWER_MODE_DEEP_SLEEP (R404): A PowerMode write of 3 enters DEEP_SLEEP. -/
  | powerModeDeepSleep (src : Source)
  /-- LINE_STOP_CLOCK_STOP (R404): The clocks stop at the first quiet NCLK of a LINE_STOP entry. -/
  | lineStopClockStop (t : Nat)
  /-- LINE_STOP_ENTRY_TIMEOUT (R404): No quiet NCLK within 1 ms abandons LINE_STOP entry. -/
  | lineStopEntryTimeout (t : Nat)
  /-- WAKE (R405): An enabled wake source brings the engine out of a low-power mode. -/
  | wake (t : Nat) (cause : Fin 5)
  /-- PLL_LOCK_LOSS (R407): An ACLK or NCLK PLL loses lock and counts PllLockLosses. -/
  | pllLockLoss (t : Nat) (aclkOk : Bool) (nclkOk : Bool)
  /-- RC_TRIM (R409): The AON RC is trimmed against REFCLK every 10 ms. -/
  | rcTrim (t : Nat) (err : Int)
  /-- TEMP_SAMPLE (R413): The junction temperature is read every 1 ms and checked against its limits. -/
  | tempSample (t : Nat) (temp : Int)
  /-- FURROW_CLOCK_GATE (R410): A furrow idle for 16 ACLK stops its cells' clock. -/
  | furrowClockGate (t : Nat) (f : FieldId) (u : Furrow)
  /-- ENGINE_RESET (R411): The "boot" command runs the orderly shutdown and reboots the engine. -/
  | engineReset (src : Source)
  /-- PORST (R458): PORST_L held low for 10 µs resets the engine. -/
  | porst (t : Nat) (low : Option Nat) (pairRole : Bool) (jtagEnable : Bool) (bootRecovery : Bool) (coreDebug : Bool)
  /-- JTAG_TEST_LOGIC_RESET (R411): A JTAG test-logic reset resets the TAP and debug logic. -/
  | jtagTestLogicReset (t : Nat)
  /-- BOOT (R414): From reset release, boot runs its steps to READY, RECOVERY or SECURITY_FAILED. -/
  | boot (t : Nat) (ok : Bool) (badSlots : List Nat)
  /-- FIRMWARE_UPDATE (R424): A FirmwareImage write is checked and written into the non-preferred flash slot. -/
  | firmwareUpdate (src : Source) (bytes : List Byte)
  /-- FLASH_UPDATE_COMPLETE (R424): The flash slot and directory writes finish and FlashState ends. -/
  | flashUpdateComplete (t : Nat) (ok : Bool)
  /-- FIRMWARE_ROLLBACK_FLOOR_WRITE (R423): A FirmwareRollbackFloor write is checked and written to the key store. -/
  | firmwareRollbackFloorWrite (src : Source) (v : Nat)
  /-- MAILBOX_SHA3_512 (R427): A mailbox SHA3_512 command hashes a message. -/
  | mailboxSha3512 (t : Nat) (n : CoreId)
  /-- MAILBOX_SHAKE256 (R427): A mailbox SHAKE256 command produces output bytes. -/
  | mailboxShake256 (t : Nat) (n : CoreId)
  /-- MAILBOX_VERIFY (R427): A mailbox VERIFY command checks an ML-DSA-87 signature. -/
  | mailboxVerify (t : Nat) (n : CoreId)
  /-- MAILBOX_SIGN (R428): A mailbox SIGN command signs with the identity key under context "GAPP". -/
  | mailboxSign (t : Nat) (n : CoreId)
  /-- MAILBOX_RANDOM (R427): A mailbox RANDOM command delivers TRNG bytes. -/
  | mailboxRandom (t : Nat) (n : CoreId)
  /-- MAILBOX_COMPLETE (R427): A mailbox operation ends DONE or FAILED. -/
  | mailboxComplete (t : Nat) (n : CoreId)
  /-- TRNG_HEALTH_FAIL (R429): A TRNG health-test failure sets TrngState FAILED. -/
  | trngHealthFail (t : Nat)
  /-- TRNG_RESTART (R429): A TrngRestart write reruns the start-up test. -/
  | trngRestart (src : Source)
  /-- RANDOM_READ (R429): A read of Random returns 32 fresh bytes, or STATE while the TRNG has failed. -/
  | randomRead (src : Source)
  /-- OWNER_INSTALL (R431): An OwnerInstall write fills an empty owner key slot. -/
  | ownerInstall (src : Source) (bytes : List Byte) (nvmOk : Bool)
  /-- KEY_INSTALL (R432): A signed key update INSTALL writes a key into an empty slot. -/
  | keyInstall (src : Source) (bytes : List Byte) (nvmOk : Bool)
  /-- KEY_ERASE (R432): A signed key update ERASE empties a key slot. -/
  | keyErase (src : Source) (bytes : List Byte) (nvmOk : Bool)
  /-- KEY_REPLACE_OWNER (R432): A signed key update REPLACE_OWNER replaces the owner key. -/
  | keyReplaceOwner (src : Source) (bytes : List Byte) (nvmOk : Bool)
  /-- ATTEST_NONCE (R434): An AttestNonce write captures state and starts an attestation report. -/
  | attestNonce (src : Source) (bytes : List Byte)
  /-- ATTEST_DONE (R434): The signed attestation report is ready and AttestState becomes DONE. -/
  | attestDone (t : Nat)
  /-- CACHE_INSTALL (R436): A CacheInstall write checks a tuning image and stores it in the lowest free cache entry. -/
  | cacheInstall (src : Source) (bytes : List Byte)
  /-- CACHE_ERASE (R436): A CacheErase write frees a tuning cache entry. -/
  | cacheErase (src : Source) (v : Nat)
  /-- SNAPSHOT_COUNTERS (R438): The "snap" command captures every trouble counter into NVM. -/
  | snapshotCounters (src : Source)
  /-- SNAPSHOT_WRITE_COMPLETE (R438): The counter snapshot write into its NVM half ends. -/
  | snapshotWriteComplete (t : Nat) (ok : Bool)
  /-- CLEAR_COUNTERS (R439): The "clr" command sets every trouble counter to 0. -/
  | clearCounters (src : Source)
  /-- TAP_BYPASS (R460): The TAP BYPASS instruction. -/
  | tapBypass (t : Nat) (tdi : List Bool)
  /-- TAP_SAMPLE_PRELOAD (R460): The TAP SAMPLE/PRELOAD instruction. -/
  | tapSamplePreload (t : Nat) (balls : List Bool) (scan : List Bool)
  /-- TAP_EXTEST (R460): The TAP EXTEST instruction drives the boundary-scan register. -/
  | tapExtest (t : Nat) (balls : List Bool) (scan : List Bool)
  /-- TAP_IDCODE (R460): The TAP IDCODE instruction reads 0x1648_0A71. -/
  | tapIdcode (t : Nat)
  /-- SERIAL_VALUE_COMPUTED (R200): The serial unit finishes a permutation walk and places the next serial value into the allotment's 8-value buffer. -/
  | serialValueComputed (t : Nat) (a : AllotId)
  /-- PRBS_LOCK_LOSS (R361): The PRBS checker sees 16 or more wrong bits in 64, clears PrbsLock and seeds again. -/
  | prbsLockLoss (t : Nat) (n : LaneId)
  /-- PRBS_BIT_ERROR (R361): A wrong bit arrives at the locked PRBS checker, adds to PrbsErrors and sets PRBS_ERROR on the first error after lock. -/
  | prbsBitError (t : Nat) (n : LaneId)
  /-- BLOCK_ERROR (R344): A lane receiver takes an errored block or invalid sync header, counts it and discards any frame it cuts. -/
  | blockError (t : Nat) (n : LaneId) (header : Bool) (inFrame : Bool)
  /-- REFCLK_RESTORED (R347): REFCLK_IN returns within limits, RefState goes to 0 and the lane and core PLLs may lock again. -/
  | refclkRestored (t : Nat)
  /-- LFXO_STOP (R409): The 32.768 kHz crystal stops, ClockState bit 2 reads 0 and the wake timer moves to the AON RC. -/
  | lfxoStop (t : Nat)
  /-- ETH_LINK_CHANGE (R392): An Ethernet port's link goes up or down, updating LinkState, setting ETH_LINK and moving PTP between ports under PtpPort 2. -/
  | ethLinkChange (t : Nat) (p : PortId) (up : Bool)
  /-- CAN_BUS_STATE_CHANGE (R388): A CAN FD port moves between error active and error passive, updating BusState and setting CAN_STATE. -/
  | canBusStateChange (t : Nat) (p : PortId) (passive : Bool)
  /-- PPS_OUT_WIDTH_END (R394): PPS_OUT falls after PpsOutWidth ms. -/
  | ppsOutWidthEnd (t : Nat)
  /-- RESET_OUT_RELEASE (R412): RESET_OUT_L rises 1 ms after SYS enters ON. -/
  | resetOutRelease (t : Nat)
  /-- PAIR_LANE_HEARTBEAT_TIMEOUT (R225): A PL lane has had no valid HEARTBEAT for 32 µs, drops from LanesUp and may move the ordered lane with resends. -/
  | pairLaneHeartbeatTimeout (t : Nat) (i : PairLane)
  /-- TRNG_STARTUP_COMPLETE (R429): The TRNG start-up test over 1,024 samples ends and TrngState leaves STARTUP. -/
  | trngStartupComplete (t : Nat) (ok : Bool)
  deriving DecidableEq, Repr

end Sys2Proof
end

