-- ==== Sys2Proof/Decode.lean ====
section
/-! DEFINITION. Words of commands: spec/opcode_table.json gives no row any bits, so no word spells a command. -/

set_option Elab.async false

namespace Sys2Proof

/-- The command that a word of `nbits` bits spells. -/
def decodeTableWord (_nbits _w : Nat) : Option Instr := none

end Sys2Proof
end

