-- ==== Sys2Proof/Machine/Bits.lean ====
section
/-! DEFINITION. Bit fields, sign extension, byte order and rounding of exact values, shared by every unit.
Spec: 00_scope.md R3 (little-endian), 02_array_cells.md R40 (convergent rounding). -/

set_option Elab.async false

namespace Sys2Proof.Machine

/-- Bit `i` of a value. -/
def bitOf (v i : Nat) : Bool := Nat.testBit v i

/-- The field of `len` bits at bit `lo`. -/
def bitsOf (v lo len : Nat) : Nat := (v >>> lo) % 2 ^ len

/-- 1 for true, 0 for false. -/
def boolNat (b : Bool) : Nat := if b then 1 else 0

/-- A value with bit `i` set or cleared. -/
def setBit (v i : Nat) (b : Bool) : Nat :=
  if b then v ||| (1 <<< i) else if Nat.testBit v i then v ^^^ (1 <<< i) else v

/-- The bits of `v` whose bits in `m` are 0. -/
def clearBits (v m : Nat) : Nat := v ^^^ (v &&& m)

/-- The two's complement value of the low `n` bits. -/
def signedOf (n v : Nat) : Int :=
  let w := v % 2 ^ n
  if Nat.blt w (2 ^ (n - 1)) then (w : Int) else (w : Int) - (2 ^ n : Nat)

/-- The `n`-bit two's complement encoding of an integer. -/
def wrapInt (n : Nat) (x : Int) : Nat := (x % (2 ^ n : Nat)).toNat

/-- The signed 32-bit difference of line numbers, and of product numbers. -/
def lineDiff (x y : Nat) : Int := signedOf 32 (x + 2 ^ 32 - y % 2 ^ 32)

/-- Little-endian bytes of a value (R3). -/
def leBytes : Nat → Nat → List Byte
  | 0, _ => []
  | n + 1, v => BitVec.ofNat 8 v :: leBytes n (v >>> 8)

/-- The value of little-endian bytes (R3). -/
def leNat : List Byte → Nat
  | [] => 0
  | b :: r => b.toNat + leNat r <<< 8

/-- `n` bytes of a list from an offset; missing bytes read 0. -/
def bytesAt (l : List Byte) (off n : Nat) : List Byte :=
  let r := (l.drop off).take n
  r ++ List.replicate (n - r.length) 0

/-- The little-endian field of `n` bytes at an offset. -/
def leAt (l : List Byte) (off n : Nat) : Nat := leNat (bytesAt l off n)

/-- The bytes with the bytes at an offset replaced. -/
def bytesPut (l : List Byte) (off : Nat) (x : List Byte) : List Byte :=
  l.take off ++ x ++ l.drop (off + x.length)

/-- Number of bits needed for a value. -/
def bitLen (m : Nat) : Nat := if Nat.beq m 0 then 0 else Nat.log2 m + 1

/-- Number of 1 bits among the low `n`. -/
def popcount : Nat → Nat → Nat
  | 0, _ => 0
  | n + 1, v => v % 2 + popcount n (v / 2)

/-- The lowest set bit among the low `n`, counted from `i`. -/
def lowestBit : Nat → Nat → Nat → Option Nat
  | 0, _, _ => none
  | n + 1, i, v => if v % 2 == 1 then some i else lowestBit n (i + 1) (v / 2)

/-- `v / 2^sh` rounded convergently (R40): ties go to the even quotient. -/
def roundShrNat (v sh : Nat) : Nat :=
  let q := v >>> sh
  let r := v % 2 ^ sh
  if Nat.blt (2 ^ sh) (2 * r) || (Nat.beq (2 * r) (2 ^ sh) && Nat.beq (q % 2) 1) then q + 1 else q

/-- An integer divided by `2^sh`, rounded convergently (R40). -/
def roundShr (x : Int) (sh : Nat) : Int :=
  if x < 0 then -(roundShrNat x.natAbs sh : Int) else (roundShrNat x.natAbs sh : Int)

/-- An integer held between two limits. -/
def clampInt (lo hi x : Int) : Int := if x < lo then lo else if hi < x then hi else x

/-- A number less another, 0 at least. -/
def lessBy (a n : Nat) : Nat := ((a : Int) - (n : Int)).toNat

/-- A counter that stops at its limit. -/
def satAdd (limit v n : Nat) : Nat := if Nat.ble (v + n) limit then v + n else limit

/-- The list with the entry at a position replaced. -/
def listSet {α : Type} : List α → Nat → α → List α
  | [], _, _ => []
  | _ :: r, 0, x => x :: r
  | a :: r, n + 1, x => a :: listSet r n x

/-- The numbers from 0 below `n` that satisfy a test, rising. -/
def indicesWhere (n : Nat) (p : Nat → Bool) : List Nat := (List.range n).filter p

end Sys2Proof.Machine
end

