-- ==== Sys2Proof/Machine/Crc.lean ====
section
/-! DEFINITION. The two check codes: CRC-8 of a configuration word and CRC-32C of images and frames.
Spec: 02_array_cells.md R53 (CRC-8); 03_fields_and_tunings.md R88 (CRC-32C). -/

set_option Elab.async false

namespace Sys2Proof.Machine

/-- `n` bits of CRC-8 from bit `b` of the word up (R53). -/
def crc8From (w : Nat) : Nat → Nat → Nat → Nat
  | 0, _, crc => crc
  | n + 1, b, crc =>
    let fb := (crc >>> 7) % 2 ^^^ bitsOf w b 1
    let c := (crc <<< 1) % 256
    crc8From w n (b + 1) (if Nat.beq fb 1 then c ^^^ 0x07 else c)

/-- The CRC-8 over bits [183:0] of a configuration word, bit 0 first (R53). -/
def crc8Word (w : Nat) : Nat := crc8From w 184 0 0

/-- One byte's eight shifts of the reflected CRC-32C register (R88). -/
def crc32cShift : Nat → Nat → Nat
  | 0, c => c
  | n + 1, c => crc32cShift n (if Nat.beq (c % 2) 1 then (c >>> 1) ^^^ 0x82F63B78 else c >>> 1)

/-- The CRC-32C register run over bytes (R88). -/
def crc32cRun : List Byte → Nat → Nat
  | [], c => c
  | b :: r, c => crc32cRun r (crc32cShift 8 (c ^^^ b.toNat))

/-- CRC-32C: reflected polynomial 0x82F6_3B78, initial value and final XOR 0xFFFF_FFFF (R88). -/
def crc32c (l : List Byte) : Nat := crc32cRun l 0xFFFFFFFF ^^^ 0xFFFFFFFF

end Sys2Proof.Machine
end

