-- ==== Sys2Proof/Config.lean ====
section
/-! DEFINITION. What the spec leaves open, as constants with no body, and what one device is given in manufacture.
A statement about the model holds whatever these are. -/

set_option Elab.async false

namespace Sys2Proof

/-- The byte that memory holds before anything is written to it, after the `epoch`-th loss of content; the spec states none (notes/assumptions/1.md). -/
opaque Config.freeByte : (epoch addr : Nat) → Byte

/-- The `n`-th value that the spec leaves undefined or does not state (notes/assumptions/2.md). -/
opaque Config.freeValue : (n : Nat) → Nat

/-- ML-DSA-87 verification of FIPS 204: public key, message, context string and signature (notes/assumptions/3.md). -/
opaque Config.mldsaVerify : (key msg ctx sig : List Byte) → Bool

/-- ML-DSA-87 signing of FIPS 204 with the private key of a public key, and the randomness it draws (notes/assumptions/3.md). -/
opaque Config.mldsaSign : (key msg ctx rnd : List Byte) → List Byte

/-- The identity public key of the device (R430, R433). -/
opaque Config.identityKey : List Byte

/-- DeviceUid, byte by byte: 16 bytes set in manufacture. -/
opaque Config.deviceUid : (i : Nat) → Byte

/-- The MAC address of an Ethernet port, byte by byte: 6 bytes set in manufacture. -/
opaque Config.macAddress : (port i : Nat) → Byte

/-- The bytes of the identity certificate that Gesolen chooses: issuer, issue date and signature, by offset (R433). -/
opaque Config.certificateByte : (i : Nat) → Byte

/-- The setting that the CTLE of a lane has adapted to by a time, and the vertical margin at its data slicer then; the spec states neither (R353, R354; notes/assumptions/146.md). -/
opaque Config.ctleSetting : (lane time : Nat) → Nat
opaque Config.eyeMargin : (lane time : Nat) → Nat

/-- For how long, in ps, an update of the flash that began at a time stays in ERASE (0), WRITE (1) and VERIFY (2) (R424; DESIGN CHOICE: the spec gives none, log 172). -/
opaque Config.flashTime : (start stage : Nat) → Nat

/-- The place of a ball's cell in the boundary-scan register, by the ball's number (R460; notes/assumptions/166.md). -/
opaque Config.boundaryCell : (ball : Nat) → Nat

/-- Which of two neighbouring tenths a mean of scan grades takes whose sum is no multiple of ten: even the lower, odd the upper (R188; notes/assumptions/138.md). -/
opaque Config.gradeRound : (sum : Nat) → Nat

end Sys2Proof
end

