-- ==== Sys2Proof/Machine/ArrayState.lean ====
section
/-! DEFINITION. The state of the stream array: tokens, cells, tuning slots, fields, and the tuning loader.
Spec: 02_array_cells.md R22, R23, R27, R33, R35, R36, R48; 03_fields_and_tunings.md R57, R65, R67, R68, R72, R73, R77, R86. -/

set_option Elab.async false

namespace Sys2Proof.Machine

/-- A token: 32 data bits and the end mark (R22). -/
structure Token where
  data : Word := 0
  last : Bool := false
  deriving DecidableEq, Repr

/-- A token held in a skid buffer, a bus buffer, a stage or an edge port, with the ACLK in which it arrived; `drill` names the unit and the slot of the read stream that it came from, if any (R23, R80). -/
structure Held where
  tok : Token := {}
  since : Nat := 0
  drill : Option (Nat × Nat) := none
  deriving DecidableEq, Repr

/-- A result window entry: the result, the token of each link output, where they go, and the register write with the value it writes (R27, R86). `dueAt` is the first ACLK after the operation is complete: t + L for a firing in ACLK t (R28). -/
structure WinEntry where
  result : Token := {}
  passN : Token := {}
  passE : Token := {}
  passS : Token := {}
  passW : Token := {}
  regVal : Nat := 0
  deliver : Nat := 0
  we : Bool := false
  reg : Nat := 0
  written : Bool := false
  bankSlot : Nat := 0
  dueAt : Nat := 0
  deriving DecidableEq, Repr

/-- A cell (R23, R33, R36, R48). `skids` are the N, E, S and W buffers; `popped`, `firedAt`, `deliveredAt` and `wroteAt` hold 1 + the ACLK of the last pop of an input, firing, delivery and write of a register, 0 for none; `goneAt` is 1 + the ACLK in which entries last left the window undelivered, and `gone` how many (R30, R32); `endAt` is 1 + the ACLK of the last firing that popped an end-marked token, and `switchedAt` 1 + the ACLK at whose end the cell last went over to the target slot of an AT_END retune (R81). -/
structure Cell where
  skids : Tab (List Held) := []
  popped : Tab Nat := []
  win : List WinEntry := []
  firedAt : Nat := 0
  deliveredAt : Nat := 0
  goneAt : Nat := 0
  gone : Nat := 0
  banked : Tab Nat := []
  shared : Tab Nat := []
  wroteAt : Tab Nat := []
  side : Tab Nat := []
  count : Tab Nat := []
  lut : Tab Nat := []
  endAt : Nat := 0
  switchedAt : Nat := 0
  deriving DecidableEq, Repr

/-- A furrow bus: the buffered tokens, each with the cells (by column) that have taken it, and 1 + the ACLK in which a token last left (R35). -/
structure FurrowBus where
  toks : List (Held × Nat) := []
  leftAt : Nat := 0
  drivenAt : Nat := 0
  deriving DecidableEq, Repr

/-- A tuning slot (R72): state 0 EMPTY, 1 LOADING, 2 READY, 3 ACTIVE, 4 STALE; the stored digest of the image that filled it (R435), the 64 cell words, the 32 headland settings and the four drill blocks of 64 bytes. -/
structure Slot where
  st : Nat := 0
  tuningId : Nat := 0
  digest : List Byte := []
  words : Tab Nat := []
  headland : Tab Nat := []
  drill : List Byte := []
  deriving DecidableEq, Repr

/-- An item of a drill stream's buffer: its word address, its token, and the ACLK in which its read was issued or the token accepted (R68, R86). -/
structure DrillItem where
  addr : Nat := 0
  tok : Token := {}
  since : Nat := 0
  deriving DecidableEq, Repr

/-- A stream of a drill unit in the field: its buffer; 1 + the ACLK of its last delivery or acceptance, of its last write to memory, of the last end-marked item it delivered or accepted, and of its switch under AT_END (R68, R70, R81); and the read items to be dropped: from which ACLK, and of which slot (R79). -/
structure DrillStream where
  buf : List DrillItem := []
  movedAt : Nat := 0
  storedAt : Nat := 0
  endAt : Nat := 0
  switchedAt : Nat := 0
  drop : Option (Nat × Nat) := none
  deriving DecidableEq, Repr

/-- A retune request that is armed or running (R77): what it names, and the ACLK m in which it started. -/
structure Retune where
  target : Nat := 0
  mode : Nat := 0
  cuePort : Nat := 0
  cueValue : Nat := 0
  cueMask : Nat := 0
  startAclk : Nat := 0
  deriving DecidableEq, Repr

/-- The retune that a field has completed last: 1 + the ACLK at whose end the slots changed over, the slot left, the ACLK in which it started, and its mode (R79 to R82). -/
structure RetuneEnded where
  at_ : Nat := 0
  slot : Nat := 0
  start : Nat := 0
  mode : Nat := 0
  deriving DecidableEq, Repr

/-- A network access that waits for a port of a sub-bank (R70): the request that it is (0 for one that no interface carries), what it asks for, and the ACLK since which it waits. -/
structure NetWait where
  id : Nat := 0
  off : Nat := 0
  size : Nat := 0
  value : Nat := 0
  since : Nat := 0
  deriving DecidableEq, Repr

/-- A physical field (R54). `frozenAt` is the ACLK from which the field is frozen by a halt or the capo, none while it moves; `lutSelect` is the register of the configuration port (R71); `counter` holds the item number of each stream per slot (R67); `capoRaw` holds the words written to the capo-state blocks since the freeze that the field's state does not hold (R86); `fetchAt` is the first ACLK whose drill reads are still to be issued, and `netReadAt` and `netWriteAt` hold 1 + the ACLK of the last access of a sub-bank's port (R68, R70); `netWait` holds, by 2 × sub-bank, plus 1 for a write, the network accesses that wait for the port, oldest first. -/
structure Field where
  cells : Tab Cell := []
  bus : Tab FurrowBus := []
  slots : Tab Slot := []
  streams : Tab DrillStream := []
  counter : Tab Nat := []
  stages : Tab (List Held) := []
  stageMoved : Tab Nat := []
  retune : Option Retune := none
  ended : RetuneEnded := {}
  lutSelect : Nat := 0
  frozenAt : Option Nat := some 0
  capoRaw : Tab Nat := []
  netReadAt : Tab Nat := []
  netWriteAt : Tab Nat := []
  fetchAt : Nat := 0
  netWait : Tab (List NetWait) := []
  deriving DecidableEq, Repr

/-- The tuning loader (R73 to R76): the image being loaded, the bytes received, its first digest, the target slot, and the physical fields with the offset of their section. -/
structure TuningLoad where
  image : List Byte := []
  received : Nat := 0
  digest : List Byte := []
  slot : Nat := 0
  targets : List (Nat × Nat) := []
  base : Nat := 0
  domainImage : List Byte := []
  /-- When Go was written. -/
  askedAt : Nat := 0
  deriving DecidableEq, Repr

/-- A key of the key store (R430): its type as KeySlotType gives it, and its bytes. -/
structure KeySlot where
  ty : Nat := 0
  bytes : List Byte := []
  deriving DecidableEq, Repr

/-- The array: the fields, the tokens that edge output ports have accepted and not yet written, and the loader. -/
structure ArrayState where
  fields : Tab Field := []
  edgeOut : Tab Held := []
  edgeMoved : Tab Nat := []
  load : TuningLoad := {}
  deriving DecidableEq, Repr

end Sys2Proof.Machine
end

