-- ==== Sys2Proof/Machine/CoreState.lean ====
section
/-! DEFINITION. State of a Peg core, and of the on-chip network, the banks, the harrow and the LPDDR5 interfaces.
Spec: 09_peg_cores.md R249 to R283; 11_memory_and_network_on_chip.md R308 to R338. -/

set_option Elab.async false

namespace Sys2Proof.Machine

/-- A transfer of several registers (R257, R258): its direction, mask, window for the ins, locals and link, first address, and whether it is a SPILLW (1) or FILLW (2). -/
structure Multi where
  load : Bool
  mask : Nat
  win : Option Nat
  base : Nat
  frame : Nat := 0
  deriving DecidableEq, Repr

/-- What a core does with the answer of the network that it waits for. -/
inductive CoreWait
  | load (rd size : Nat) (signed : Bool)
  | fload (rd : Nat)
  | store
  | move (m : Multi) (k : Nat)
  deriving DecidableEq, Repr

/-- A write by a port of a word of X or Y memory (R282): 1 + its NCLK, the bytes written, and the word before. -/
structure PortUse where
  nclk : Nat := 0
  mask : Nat := 0
  old : Nat := 0
  deriving DecidableEq, Repr

/-- A Peg core. `x` holds x1 to x7, `ins`, `locals` and `link` the groups of each window (R252); `accWrites` the accumulator, value and NCLK of writes in flight (R268); `csr` the CSRs held as words; `rep` the repetitions left and done (R272); `ready` when each register is usable and `readyAt` when the next instruction may issue, in the time of NCLK (R251); `stale` the bytes that a fetch may still see (R250); `portA` and `portB` the last writes of the ports of X and Y memory, by word (R282). -/
structure Core where
  pc : Nat := 0
  x : Tab Nat := []
  ins : Tab Nat := []
  locals : Tab Nat := []
  link : Tab Nat := []
  f : Tab Nat := []
  acc : Tab Nat := []
  accWrites : List (Nat × Nat × Nat) := []
  csr : Tab Nat := []
  cwp : Nat := 0
  wb : Nat := 0
  tw : Nat := 0
  tc : Bool := false
  sd : Nat := 0
  rep : Option (Nat × Nat) := none
  wait : Option CoreWait := none
  haltLatched : Bool := false
  readyAt : Nat := 0
  ready : Tab Nat := []
  stale : Tab Byte := []
  portA : Tab PortUse := []
  portB : Tab PortUse := []
  cycles : Nat := 0
  cyclesFrom : Nat := 0
  retired : Nat := 0
  deriving DecidableEq, Repr

/-- A request of a network interface: its address, its bytes and, of a write, their values. -/
structure NetReq where
  addr : Nat
  size : Nat
  write : Bool
  value : Nat
  deriving DecidableEq, Repr

/-- An injected request under its tag (R327, R332): its target, the time of injection and its number among the requests of its interface, the route entry and the place of the bytes as they were then (R321, R331), the NCLK from which a bank's answer is there (R310), the answer once the target has given it, and whether it waits for a dictionary write of its own. -/
structure NetTag where
  req : NetReq
  target : Nat
  since : Nat
  order : Nat := 0
  route : Nat := 0
  place : Nat := 0
  readyAt : Nat := 0
  result : Option (Nat × Nat) := none
  waits : Bool := false
  deriving DecidableEq, Repr

/-- A network interface: requests not yet injected, tags, tag generations, the tables where they differ from the reset table (R328), whether a swap is to come and the table that it installs (R331), how many requests it has injected, and the NCLK up to which it accepts the flits of a response (R327). -/
structure NetIf where
  waiting : List NetReq := []
  tags : Tab NetTag := []
  gens : Tab Nat := []
  active : Tab Nat := []
  shadow : Tab Nat := []
  swapping : Bool := false
  checked : Tab Nat := []
  issued : Nat := 0
  acceptTo : Nat := 0
  deriving DecidableEq, Repr

/-- A spill access of a queue (R108): a word written, or read, at an address of its spill region; `stale` once a flush or a stop has discarded its data (R113). -/
structure SpillAccess where
  queue : Nat
  write : Bool
  addr : Nat
  data : Nat := 0
  stale : Bool := false
  deriving DecidableEq, Repr

/-- An access that waits at a bank: master code, network interface, tag, the NCLK since which it has been there, the bytes already performed with those read (R310), the spill access that it is, if any, and of the accesses of a unit's larger step the address of the next 16-byte unit and how many are left. -/
structure BankWait where
  code : Nat
  ni : Nat
  tag : Nat
  since : Nat
  pos : Nat := 0
  acc : Nat := 0
  spill : Option SpillAccess := none
  unit : Option (Nat × Nat) := none
  deriving DecidableEq, Repr

/-- A router's weights, active and staged (R337). -/
structure RouterW where
  active : List Byte := []
  staged : List Byte := []
  deriving DecidableEq, Repr

/-- The on-chip network, banks, harrow and LPDDR5 interfaces. -/
structure NocState where
  nis : Tab NetIf := []
  /-- Domains whose targets are fenced (R334), isolated targets, and stall answers in a row (R333). -/
  fenced : List Nat := []
  isolated : List Nat := []
  stalls : Tab Nat := []
  routers : Tab RouterW := []
  /-- The router being reconfigured, since when, and when the last request on its routes ended (R338). -/
  reconfig : Option (Nat × Nat × Nat) := none
  /-- Accesses waiting at each bank, and 1 + the NCLK of each bank's last grant (R312). -/
  banks : Tab (List BankWait) := []
  grantAt : Tab Nat := []
  /-- Of a bank and a code 1 to 5, by 8 times the bank plus the code, the NCLK of its grants that the duty limit still counts (R313). -/
  duty : Tab (List Nat) := []
  /-- Of a bank whose owner was written: 1 + the NCLK of the write, and the owner up to its end (R312). -/
  ownerWas : Tab (Nat × Nat) := []
  /-- Of the route swap that runs: the generation that it installs, and the NCLK of its Go (R331). -/
  swapGen : Nat := 0
  swapFrom : Nat := 0
  /-- The borrowed window, the NCLK of its first SAVE read, and the NCLK that the owner has taken since (R317); and when the last borrow began (R316). -/
  borrowed : Option (Nat × Nat × Nat) := none
  borrowAt : Nat := 0
  /-- The NCLK since which a unit's larger step waits for the borrowed window (R318). -/
  heldSince : Option Nat := none
  /-- The NCLK in which a target of a domain last received a request (R334). -/
  heardAt : Tab Nat := []
  /-- Last MR4 read, ZQ latch, oscillator tracking and refresh of each interface (R320). -/
  mr4At : Tab Nat := []
  zqAt : Tab Nat := []
  wckAt : Tab Nat := []
  refreshAt : Tab Nat := []
  deriving DecidableEq, Repr

end Sys2Proof.Machine
end

