-- ==== Sys2Proof/Machine/LaneState.lean ====
section
/-! DEFINITION. State of the serial lanes that no dictionary object holds.
Spec: 12_serial_lanes.md R343, R345, R353, R357, R361. -/

set_option Elab.async false

namespace Sys2Proof.Machine

/-- A frame that waits for the frame in progress: a fire or strobe frame goes before every management frame (R149). -/
structure LaneFrame where
  line : Bool
  blocks : Nat
  bytes : List Byte
  deriving DecidableEq, Repr

/-- A lane: when the frame in progress and the block after it end, the frames that wait in their order, the status last sent and received, the latches of R357, the taps, whether the CTLE holds its setting, when the taps last moved on and what they were before each step of the last 2^20 UI (R353), invalid sync headers of the last 125 us and since when the receiver looks for block lock, none while it has it (R355), and of the PRBS test the compared bits, since when the checker seeds itself, its wrong bits of late, and the transmitted bits that PrbsInject inverts, by their number since the entry to TEST (R361). -/
structure Lane where
  busyUntil : Nat := 0
  waiting : List LaneFrame := []
  heardAt : Nat := 0
  sentReady : Bool := false
  sentAt : Nat := 0
  retrainUntil : Nat := 0
  stopLatched : Bool := false
  mode : Nat := 0
  taps : List Int := [0, 0, 0, 0, 0, 0, 0, 0, 0, 0]
  ctleHeld : Bool := false
  adaptAt : Nat := 0
  tapsWere : List (Nat × List Int) := []
  badHeaders : List Nat := []
  hunting : Option Nat := none
  erred : Bool := false
  bitsBase : Nat := 0
  bitsFrom : Nat := 0
  seekAt : Nat := 0
  wrongBits : List Nat := []
  injects : List Nat := []
  deriving DecidableEq, Repr

end Sys2Proof.Machine
end

