-- ==== Sys2Proof/Machine/Objects.lean ====
section
/-! DEFINITION. The object dictionary's entries: for every index and sub-index its type, access, default, persistence, pair class, range, and what a write or a read of it does beyond the register itself.
Spec: the object tables of 03_fields_and_tunings.md to 16_faults_and_repair.md; 13_object_dictionary.md R362, R363, R364, R367; 08_pair_operation.md R231 (pair classes). -/

set_option Elab.async false

namespace Sys2Proof.Machine

/-- The types of R363. -/
inductive ObjTy
  | bool | u8 | u16 | u32 | u64 | i8 | i16 | i32 | i64 | f32 | vstring | octets | domain
  deriving DecidableEq, Repr

/-- The code of a type (R363). -/
def ObjTy.code : ObjTy → Nat
  | .bool => 0x01 | .u8 => 0x02 | .u16 => 0x03 | .u32 => 0x04 | .u64 => 0x05 | .i8 => 0x06 | .i16 => 0x07
  | .i32 => 0x08 | .i64 => 0x09 | .f32 => 0x0A | .vstring => 0x0B | .octets => 0x0C | .domain => 0x0D

/-- The bytes of a type of fixed size from BOOL to F32; 0 for the others (R363). -/
def ObjTy.bytes : ObjTy → Nat
  | .bool | .u8 | .i8 => 1
  | .u16 | .i16 => 2
  | .u32 | .i32 | .f32 => 4
  | .u64 | .i64 => 8
  | .vstring | .octets | .domain => 0

/-- Whether a type is two's complement. -/
def ObjTy.signed : ObjTy → Bool
  | .i8 | .i16 | .i32 | .i64 => true
  | _ => false

/-- Access rights (R362, R364). -/
inductive ObjAcc
  | ro | rw | wo | rws | cst
  deriving DecidableEq, Repr

/-- Pair classes (R231): mirrored, primary only, set by the pair agent, local. -/
inductive PairClass
  | m | p | a | l
  deriving DecidableEq, Repr

/-- The range that step 8 of R364 holds a value to. -/
inductive ObjRng
  | any
  | only (v : Nat)
  | le (hi : Nat)
  /-- Up to `hi` in units from `u` on, and only 0 in those before. -/
  | leFrom (u hi : Nat)
  | leOr (hi other : Nat)
  | btw (lo hi : Nat)
  | sbtw (lo hi : Int)
  | oneOf (vs : List Nat)
  | mask (m : Nat)
  | step (unit lo hi : Nat)
  | stepOr0 (unit lo hi : Nat)
  | len (lo hi : Nat)
  deriving DecidableEq, Repr

/-- The default of an object: one value, one per unit, or one per sub-index of a list. -/
inductive ObjDflt
  | k (v : Nat)
  | unit (at0 per : Nat)
  | list (vs : List Nat)
  deriving DecidableEq, Repr

/-- Whether an object is an ordinary register, a trouble counter (R7) or a set of cause bits (R117). -/
inductive ObjKind
  | plain | trouble | cause
  deriving DecidableEq, Repr

/-- The function that owns an rws object, whose state step 7 of R364 looks at. -/
inductive ObjOwner
  | free | archive | bar | camera | canPort | core | encoder | ethPort | fieldRow | gate | inspection | interleave | lane | ledger | lineGen
    | lpddr | nodeId | pair | pairSnapshot | pdo | ptp | queue | ssc | staging | tick | timer | trigger | tuningLoader
  deriving DecidableEq, Repr

/-- What a write of an object does beyond the register, or the object's own check of step 9 of R364. -/
inductive ObjFn
  | store
  | activateSlot | archiveBase | archiveHost | archiveMode | attestNonce | bankOwner | bankWaitMax | barEnable | boardSupply | cacheErase | cacheInstall
  | cameraEnable | canEnable | capoHold | clearCounters | coalescedMap | cobId | coreCommand | coreReset | coreRun
  | cpBase | cpHost | cpSize | dmaHostIndex | domainRequest | encoderEnable | engineReset | eventRaise | ffePost
  | ffePre | fieldClear | fieldRun | firmwareImage | furrowGating | firmwareKick | firmwareState | forceReject | fwFloor | gateEnable
  | gatePolarity | gateWidth | grant | groupGo | healthPost | heartbeat | keyUpdate | laneEnable | laneRetrain | ledgerBase
  | ledgerHost | ledgerSize | lineGenEnable | lpddrSupply | lpddrWindow | mapBase | mapEdit | mapImage
  | mgmtRequest | nozzleCount | ownerInstall | pairEnable | positionPreset | powerMode | prbsClear | prbsInject
  | prbsPattern | ptpEnable | queueEnable | queueFarEnd | queueFlush | regionHost | restoreDefaults
  | resyncRequest | retire | retuneCancel | retuneGo | rollbackFloor | routerGo | routerWeights | rowBypass
  | schedCores | shadowTable | snapshot | spillBase | spillLength | stagingBase | stagingSize | startAddress
  | storeParams | swapGo | taskCommand | taskSetup | tickPeriod | timerEnable | tpdoTrigger | traceMode
  | triggerEnable | trngRestart | tuningGo | tuningImage | verdictPost
  deriving DecidableEq, Repr

/-- Where a read of an object takes its value: the register, or a value computed from the state. -/
inductive ObjRd
  | stored
  | activeTable | attestReport | bankWaitMax | cacheEntries | cacheFree | cacheTuningId | claimHolder | coalescedMap
  | coreCycles | corePc | coreRetired | countRate | ctlePeak | dfeTaps | drainedCores | drillReadAddr | drillWriteAddr
  | eventPop | eyeMargin | failedNozzles | flashState | gateDue | gateNextDue | gateOutput | harrowState | holdState | keySlotType | lengthPending
  | lineRate | logicalField | mapImage | newestId | nextBoundary | nextWindow | niOutstanding | nonZeroCounters
  | oldestId | orderedPending | pendingMap | prbsBits | productRecord | productTable | productsLive | ptpTime
  | publicKey | queueFlush | queueOccupancy | queueSpace | random | readyTasks | reconfigState | resyncCut | routerWeights
  | runState | saturatedCounters | serialIndex | serialStatus | serialText | serialValue | shadowTable | slotState
  | slotTuningId | snapshotImage | statusAge | taskRecord | traceEntries | traceImage | windowsPending
  deriving DecidableEq, Repr

/-- One object of an index, or a run of like objects at successive sub-indices. -/
structure ObjDesc where
  sub : Nat
  name : String
  ty : ObjTy
  acc : ObjAcc
  dflt : ObjDflt
  subTo : Nat := 0
  step : Nat := 1
  pers : Bool := false
  cls : PairClass := .l
  kind : ObjKind := .plain
  rng : ObjRng := .any
  fn : ObjFn := .store
  rd : ObjRd := .stored
  own : ObjOwner := .free
  size : Nat := 0
  deriving DecidableEq, Repr

/-- The entry with the columns of the spec's object table. -/
def ob (sub : Nat) (name : String) (ty : ObjTy) (acc : ObjAcc) (dflt : ObjDflt) : ObjDesc :=
  { sub := sub, name := name, ty := ty, acc := acc, dflt := dflt }

/-- An index, repeated for each unit of a family. -/
structure IndexRow where
  base : Nat
  stride : Nat
  count : Nat
  subs : List ObjDesc
  deriving DecidableEq, Repr

/-- The owner codes of banks 0 to 31 after reset (R312). -/
def bankOwnerReset : List Nat := [6, 7, 8, 9, 10, 11, 12, 13, 6, 7, 8, 9, 10, 11, 12, 13, 4, 4, 4, 4, 4, 4, 4, 4, 14, 14, 14, 14, 1, 1, 1, 5]

/-- Indices 0x1000. -/
def ix1000 : IndexRow := { base := 0x1000, stride := 1, count := 1, subs := [
  ob 0x00 "DeviceType" .u32 .cst (.k 0) ] }

/-- Indices 0x1008. -/
def ix1008 : IndexRow := { base := 0x1008, stride := 1, count := 1, subs := [
  ob 0x00 "DeviceName" .vstring .cst (.k 0) ] }

/-- Indices 0x1009. -/
def ix1009 : IndexRow := { base := 0x1009, stride := 1, count := 1, subs := [
  ob 0x00 "HardwareVersion" .vstring .cst (.k 0) ] }

/-- Indices 0x100A. -/
def ix100A : IndexRow := { base := 0x100A, stride := 1, count := 1, subs := [
  ob 0x00 "SoftwareVersion" .vstring .ro (.k 0) ] }

/-- Indices 0x1018. -/
def ix1018 : IndexRow := { base := 0x1018, stride := 1, count := 1, subs := [
  ob 0x01 "VendorId" .u32 .cst (.k 0xA71),
  ob 0x02 "ProductCode" .u32 .cst (.k 0x6480),
  ob 0x03 "RevisionNumber" .u32 .cst (.k 176),
  ob 0x04 "SerialNumber" .u32 .ro (.k 0) ] }

/-- Indices 0x1020. -/
def ix1020 : IndexRow := { base := 0x1020, stride := 1, count := 1, subs := [
  ob 0x01 "SiliconRevision" .u8 .cst (.k 176),
  ob 0x02 "OrderingCode" .vstring .cst (.k 0),
  { ob 0x03 "DeviceUid" .octets .ro (.k 0) with size := 16 },
  { ob 0x04 "FirmwareDigest" .octets .ro (.k 0) with size := 64 } ] }

/-- Indices 0x1100. -/
def ix1100 : IndexRow := { base := 0x1100, stride := 1, count := 1, subs := [
  { ob 0x01 "StoreParameters" .u32 .wo (.k 0) with cls := .m, rng := .only 0x65766173, fn := .storeParams } ] }

/-- Indices 0x1101. -/
def ix1101 : IndexRow := { base := 0x1101, stride := 1, count := 1, subs := [
  { ob 0x01 "RestoreDefaults" .u32 .wo (.k 0) with cls := .m, rng := .only 0x64616F6C, fn := .restoreDefaults } ] }

/-- Indices 0x1102. -/
def ix1102 : IndexRow := { base := 0x1102, stride := 1, count := 1, subs := [
  ob 0x01 "StoreState" .u8 .ro (.k 0),
  ob 0x02 "StoreResult" .u8 .ro (.k 0),
  ob 0x03 "StoreSeq" .u32 .ro (.k 0),
  ob 0x04 "StoreBank" .u8 .ro (.k 0),
  ob 0x05 "StoredEntries" .u32 .ro (.k 0),
  ob 0x06 "BootSource" .u8 .ro (.k 0),
  { ob 0x07 "BootSkipped" .u16 .rw (.k 0) with kind := .trouble },
  { ob 0x08 "StoreFailures" .u16 .rw (.k 0) with kind := .trouble } ] }

/-- Indices 0x1200. -/
def ix1200 : IndexRow := { base := 0x1200, stride := 1, count := 1, subs := [
  { ob 0x01 "NodeId" .u16 .rws (.k 0) with pers := true, own := .nodeId },
  { ob 0x02 "EventEnable" .u8 .rw (.k 0) with rng := .mask 0xFF },
  { ob 0x03 "EventCause" .u8 .rw (.k 0) with kind := .cause } ] }

/-- Indices 0x1201. -/
def ix1201 : IndexRow := { base := 0x1201, stride := 1, count := 1, subs := [
  { ob 0x01 "OpralErrors" .u16 .rw (.k 0) with kind := .trouble },
  { ob 0x02 "DuplicateReplies" .u16 .rw (.k 0) with kind := .trouble },
  { ob 0x03 "DomainStagingBase" .u32 .rws (.k 0x21F80000) with pers := true, rng := .step 4096 0x20000000 0x21FFF000, own := .staging },
  { ob 0x04 "DomainStagingSize" .u32 .rws (.k 0x80000) with pers := true, rng := .btw 0x10000 0x200000, own := .staging },
  { ob 0x05 "SegmentTimeout" .u16 .rw (.k 0x3E8) with pers := true, rng := .btw 10 60000 },
  { ob 0x06 "SegmentTimeouts" .u16 .rw (.k 0) with kind := .trouble } ] }

/-- Indices 0x1210 + 0x1 per unit, 2 units. -/
def ix13E_0 : IndexRow := { base := 0x1210, stride := 1, count := 2, subs := [
  { ob 0x01 "Enable" .u8 .rw (.k 1) with pers := true, rng := .le 1 },
  { ob 0x02 "Mode" .u8 .rws (.k 0) with pers := true, rng := .le 1, own := .ethPort },
  { ob 0x03 "MacAddress" .octets .ro (.k 0) with size := 6 },
  { ob 0x04 "IpAddress" .u32 .rws (.unit 0xC0A8000A 0x100) with pers := true, own := .ethPort },
  { ob 0x05 "SubnetMask" .u32 .rws (.k 0xFFFFFF00) with pers := true, own := .ethPort },
  { ob 0x06 "Gateway" .u32 .rws (.k 0) with pers := true, own := .ethPort },
  { ob 0x07 "WriteEnable" .u8 .rw (.k 1) with pers := true, rng := .le 1 },
  { ob 0x08 "EmcyEnable" .u8 .rw (.k 0) with pers := true, rng := .le 1 },
  { ob 0x09 "EmcyAddress" .u32 .rw (.k 0) with pers := true },
  { ob 0x0a "EmcyUdpPort" .u16 .rw (.k 0xB806) with pers := true },
  { ob 0x0b "EmcyNode" .u16 .rw (.k 0) with pers := true },
  { ob 0x0c "EmcyBroadcast" .u8 .rw (.k 0) with pers := true, rng := .le 1 },
  ob 0x0d "LinkState" .u8 .ro (.k 0),
  ob 0x0e "RxDatagrams" .u64 .ro (.k 0),
  { ob 0x0f "RxDropped" .u16 .rw (.k 0) with kind := .trouble } ] }

/-- Indices 0x1220 + 0x1 per unit, 2 units. -/
def ix13K_0 : IndexRow := { base := 0x1220, stride := 1, count := 2, subs := [
  { ob 0x01 "Enable" .u8 .rw (.k 0) with pers := true, rng := .le 1, fn := .canEnable },
  { ob 0x02 "CanNodeId" .u8 .rws (.k 127) with pers := true, rng := .btw 1 127, own := .canPort },
  { ob 0x03 "NominalRate" .u8 .rws (.k 2) with pers := true, rng := .le 3, own := .canPort },
  { ob 0x04 "DataRate" .u8 .rws (.k 1) with pers := true, rng := .le 3, own := .canPort },
  ob 0x05 "NmtState" .u8 .ro (.k 0),
  { ob 0x06 "HeartbeatTime" .u16 .rw (.k 0x3E8) with pers := true, fn := .heartbeat },
  { ob 0x07 "WriteEnable" .u8 .rw (.k 1) with pers := true, rng := .le 1 },
  { ob 0x08 "EmcyEnable" .u8 .rw (.k 0) with pers := true, rng := .le 1 },
  ob 0x09 "BusState" .u8 .ro (.k 0),
  { ob 0x0a "BusOffs" .u16 .rw (.k 0) with kind := .trouble },
  { ob 0x0b "SdoAborts" .u16 .rw (.k 0) with kind := .trouble },
  ob 0x0c "LastAbortStatus" .u8 .ro (.k 0),
  { ob 0x0d "RpdoRefusals" .u16 .rw (.k 0) with kind := .trouble },
  ob 0x0e "LastRpdoStatus" .u8 .ro (.k 0) ] }

/-- Indices 0x1230. -/
def ix1230 : IndexRow := { base := 0x1230, stride := 1, count := 1, subs := [
  { ob 0x01 "PtpEnable" .u8 .rw (.k 1) with pers := true, rng := .le 1, fn := .ptpEnable },
  { ob 0x02 "PtpPort" .u8 .rws (.k 2) with pers := true, rng := .le 2, own := .ptp },
  { ob 0x03 "PtpDomain" .u8 .rws (.k 0) with pers := true, own := .ptp },
  { ob 0x04 "LogAnnounceInterval" .i8 .rws (.k 1) with pers := true, rng := .sbtw (-3) 4, own := .ptp },
  { ob 0x05 "LogSyncInterval" .i8 .rws (.k 0) with pers := true, rng := .sbtw (-7) 4, own := .ptp },
  { ob 0x06 "LogMinDelayReqInterval" .i8 .rws (.k 0) with pers := true, rng := .sbtw (-7) 5, own := .ptp },
  { ob 0x07 "AnnounceReceiptTimeout" .u8 .rws (.k 3) with pers := true, rng := .btw 2 10, own := .ptp },
  ob 0x08 "PtpState" .u8 .ro (.k 0),
  { ob 0x09 "PtpTime" .u64 .ro (.k 0) with rd := .ptpTime },
  ob 0x0a "OffsetFromMaster" .i32 .ro (.k 0),
  ob 0x0b "MeanPathDelay" .u32 .ro (.k 0),
  { ob 0x0c "GrandmasterIdentity" .octets .ro (.k 0) with size := 8 },
  { ob 0x0d "LockLosses" .u16 .rw (.k 0) with kind := .trouble } ] }

/-- Indices 0x1231. -/
def ix1231 : IndexRow := { base := 0x1231, stride := 1, count := 1, subs := [
  { ob 0x01 "PpsOutEnable" .u8 .rw (.k 0) with pers := true, rng := .le 1 },
  { ob 0x02 "PpsOutWidth" .u16 .rw (.k 10) with pers := true, rng := .btw 1 500 },
  { ob 0x03 "PpsInEnable" .u8 .rw (.k 0) with pers := true, rng := .le 1 },
  ob 0x04 "PpsInTime" .u64 .ro (.k 0),
  { ob 0x05 "PpsDiscipline" .u8 .rw (.k 0) with pers := true, rng := .le 1 } ] }

/-- Indices 0x1240 + 0x1 per unit, 16 units. -/
def ix13Q_0 : IndexRow := { base := 0x1240, stride := 1, count := 16, subs := [
  { ob 0x01 "Port" .u8 .rws (.k 0) with pers := true, rng := .le 1, own := .pdo },
  { ob 0x02 "CobId" .u32 .rw (.k 0x80000000) with pers := true, rng := .mask 0x800007FF, fn := .cobId },
  { ob 0x03 "Trigger" .u8 .rws (.k 0) with pers := true, rng := .leFrom 8 3, own := .pdo },
  { ob 0x04 "Period" .u16 .rws (.k 100) with pers := true, own := .pdo },
  { ob 0x05 "TpdoTrigger" .u8 .wo (.k 0) with rng := .only 1, fn := .tpdoTrigger },
  { ob 0x06 "EntryCount" .u8 .rws (.k 0) with pers := true, rng := .le 16, own := .pdo },
  { ob 0x07 "Entry" .u32 .rws (.k 0) with subTo := 0x16, pers := true, own := .pdo } ] }

/-- Indices 0x1300. -/
def ix1300 : IndexRow := { base := 0x1300, stride := 1, count := 1, subs := [
  { ob 0x01 "PairEnable" .u8 .rws (.k 0) with pers := true, rng := .le 1, fn := .pairEnable, own := .pair },
  { ob 0x02 "RoleSource" .u8 .rws (.k 0) with pers := true, rng := .le 1, own := .pair },
  { ob 0x03 "RoleClaim" .u8 .rws (.k 1) with pers := true, rng := .le 1, own := .pair },
  { ob 0x04 "ArbitrationTimeout" .u16 .rw (.k 0x7D0) with pers := true, rng := .btw 100 60000 },
  { ob 0x05 "FirmwareKickPeriod" .u16 .rw (.k 0) with pers := true, rng := .le 1000 },
  { ob 0x06 "FirmwareKick" .u8 .wo (.k 0) with rng := .only 1, fn := .firmwareKick } ] }

/-- Indices 0x1301. -/
def ix1301 : IndexRow := { base := 0x1301, stride := 1, count := 1, subs := [
  ob 0x01 "PairRole" .u8 .ro (.k 0),
  ob 0x02 "PartnerRole" .u8 .ro (.k 255),
  ob 0x03 "PartnerNodeId" .u16 .ro (.k 0),
  ob 0x04 "LinkUp" .bool .ro (.k 0),
  ob 0x05 "LanesUp" .u8 .ro (.k 0),
  ob 0x06 "OrderedLane" .u8 .ro (.k 255),
  ob 0x07 "AliveIn" .bool .ro (.k 0),
  ob 0x08 "RoleIn" .bool .ro (.k 0),
  { ob 0x09 "OrderedPending" .u16 .ro (.k 0) with rd := .orderedPending } ] }

/-- Indices 0x1302. -/
def ix1302 : IndexRow := { base := 0x1302, stride := 1, count := 1, subs := [
  { ob 0x01 "ResyncRequest" .u8 .wo (.k 0) with rng := .only 1, fn := .resyncRequest },
  ob 0x02 "ResyncState" .u8 .ro (.k 0),
  ob 0x03 "ResyncResult" .u8 .ro (.k 0),
  { ob 0x04 "SnapshotBase" .u32 .rws (.k 0x21C00000) with pers := true, rng := .step 4096 0x20000000 0x21FFF000, own := .pairSnapshot },
  { ob 0x05 "SnapshotSize" .u32 .rws (.k 0x300000) with pers := true, rng := .btw 0x100000 0x800000, own := .pairSnapshot },
  { ob 0x06 "ResyncHoldLimit" .u16 .rw (.k 40) with pers := true, rng := .btw 10 200 },
  { ob 0x07 "CutBudget" .u32 .rw (.k 0x80000) with pers := true },
  { ob 0x08 "MatchWindow" .u16 .rw (.k 20) with pers := true, rng := .btw 1 1000 },
  { ob 0x09 "ResyncTimeout" .u16 .rw (.k 0x2710) with pers := true },
  ob 0x0a "LastHold" .u16 .ro (.k 0) ] }

/-- Indices 0x1303. -/
def ix1303 : IndexRow := { base := 0x1303, stride := 1, count := 1, subs := [
  { ob 0x00 "ResyncCut" .domain .ro (.k 0) with rd := .resyncCut } ] }

/-- Indices 0x1304. -/
def ix1304 : IndexRow := { base := 0x1304, stride := 1, count := 1, subs := [
  { ob 0x00 "FirmwareState" .domain .rw (.k 0) with rng := .len 0 262144, fn := .firmwareState } ] }

/-- Indices 0x1305. -/
def ix1305 : IndexRow := { base := 0x1305, stride := 1, count := 1, subs := [
  { ob 0x01 "EventEnable" .u8 .rw (.k 0) with rng := .mask 0xFF },
  { ob 0x02 "EventCause" .u8 .rw (.k 0) with kind := .cause } ] }

/-- Indices 0x1306. -/
def ix1306 : IndexRow := { base := 0x1306, stride := 1, count := 1, subs := [
  { ob 0x01 "Takeovers" .u16 .rw (.k 0) with kind := .trouble },
  { ob 0x02 "SoloEntries" .u16 .rw (.k 0) with kind := .trouble },
  { ob 0x03 "Orphanings" .u16 .rw (.k 0) with kind := .trouble },
  { ob 0x04 "RenderMismatches" .u16 .rw (.k 0) with kind := .trouble },
  { ob 0x05 "VerdictMismatches" .u16 .rw (.k 0) with kind := .trouble },
  { ob 0x06 "PairFrameErrors" .u16 .rw (.k 0) with kind := .trouble },
  { ob 0x07 "OrderedResends" .u16 .rw (.k 0) with kind := .trouble },
  { ob 0x08 "SidebandFaults" .u16 .rw (.k 0) with kind := .trouble },
  { ob 0x09 "CutRetries" .u16 .rw (.k 0) with kind := .trouble } ] }

/-- Indices 0x1307. -/
def ix1307 : IndexRow := { base := 0x1307, stride := 1, count := 1, subs := [
  ob 0x01 "LastTakeoverTime" .u64 .ro (.k 0),
  ob 0x02 "LastSoloReason" .u8 .ro (.k 0) ] }

/-- Indices 0x1400. -/
def ix1400 : IndexRow := { base := 0x1400, stride := 1, count := 1, subs := [
  ob 0x01 "BootState" .u8 .ro (.k 0),
  ob 0x02 "BootSlot" .u8 .ro (.k 255),
  ob 0x03 "BootFlags" .u8 .ro (.k 0),
  ob 0x04 "BootTime" .u32 .ro (.k 0),
  ob 0x05 "BootFailStep" .u8 .ro (.k 0),
  ob 0x06 "BootFailCode" .u8 .ro (.k 0),
  ob 0x07 "EventEnable" .u8 .rw (.k 0),
  { ob 0x08 "EventCause" .u8 .rw (.k 0) with kind := .cause },
  { ob 0x09 "DefaultTuningFailures" .u16 .rw (.k 0) with kind := .trouble } ] }

/-- Indices 0x1401. -/
def ix1401 : IndexRow := { base := 0x1401, stride := 1, count := 1, subs := [
  { ob 0x01 "FirmwareRollbackFloor" .u32 .rw (.k 0) with fn := .fwFloor },
  ob 0x02 "RunningRollback" .u32 .ro (.k 0) ] }

/-- Indices 0x1402. -/
def ix1402 : IndexRow := { base := 0x1402, stride := 1, count := 1, subs := [
  { ob 0x00 "FirmwareImage" .domain .wo (.k 0) with rng := .len 0 2097152, fn := .firmwareImage } ] }

/-- Indices 0x1403. -/
def ix1403 : IndexRow := { base := 0x1403, stride := 1, count := 1, subs := [
  { ob 0x01 "FlashState" .u8 .ro (.k 0) with rd := .flashState },
  ob 0x02 "FlashResult" .u8 .ro (.k 0) ] }

/-- Indices 0x1404. -/
def ix1404 : IndexRow := { base := 0x1404, stride := 1, count := 1, subs := [
  { ob 0x00 "OwnerInstall" .octets .wo (.k 0) with fn := .ownerInstall, size := 2592 } ] }

/-- Indices 0x1405. -/
def ix1405 : IndexRow := { base := 0x1405, stride := 1, count := 1, subs := [
  { ob 0x00 "KeyUpdate" .domain .wo (.k 0) with rng := .len 0 65536, fn := .keyUpdate } ] }

/-- Indices 0x1406. -/
def ix1406 : IndexRow := { base := 0x1406, stride := 1, count := 1, subs := [
  { ob 0x01 "KeySlotType" .u8 .ro (.k 0) with subTo := 0x30, rd := .keySlotType },
  ob 0x31 "KeyUpdateFloor" .u64 .ro (.k 0),
  ob 0x32 "KeyUpdateResult" .u8 .ro (.k 0),
  { ob 0x33 "KeyStoreErrors" .u16 .rw (.k 0) with kind := .trouble } ] }

/-- Indices 0x1408. -/
def ix1408 : IndexRow := { base := 0x1408, stride := 1, count := 1, subs := [
  { ob 0x01 "KeySelect" .u8 .rw (.k 0) with rng := .le 47 },
  { ob 0x02 "PublicKey" .octets .ro (.k 0) with rd := .publicKey, size := 2592 } ] }

/-- Indices 0x1409. -/
def ix1409 : IndexRow := { base := 0x1409, stride := 1, count := 1, subs := [
  ob 0x00 "IdentityCertificate" .domain .ro (.k 0) ] }

/-- Indices 0x140A. -/
def ix140A : IndexRow := { base := 0x140A, stride := 1, count := 1, subs := [
  { ob 0x01 "AttestNonce" .octets .wo (.k 0) with fn := .attestNonce, size := 32 },
  ob 0x02 "AttestState" .u8 .ro (.k 0),
  { ob 0x03 "AttestReport" .domain .ro (.k 0) with rd := .attestReport } ] }

/-- Indices 0x140B. -/
def ix140B : IndexRow := { base := 0x140B, stride := 1, count := 1, subs := [
  ob 0x01 "TrngState" .u8 .ro (.k 0),
  { ob 0x02 "TrngRestart" .u8 .wo (.k 0) with rng := .only 1, fn := .trngRestart },
  { ob 0x03 "TrngFailures" .u16 .rw (.k 0) with kind := .trouble },
  { ob 0x04 "Random" .octets .ro (.k 0) with rd := .random, size := 32 } ] }

/-- Indices 0x140C. -/
def ix140C : IndexRow := { base := 0x140C, stride := 1, count := 1, subs := [
  { ob 0x01 "CacheInstall" .domain .wo (.k 0) with rng := .len 0 2097152, fn := .cacheInstall },
  { ob 0x02 "CacheErase" .u8 .wo (.k 0) with rng := .le 62, fn := .cacheErase },
  ob 0x03 "CacheResult" .u8 .ro (.k 0),
  { ob 0x04 "CacheFree" .u32 .ro (.k 0) with rd := .cacheFree } ] }

/-- Indices 0x1500. -/
def ix1500 : IndexRow := { base := 0x1500, stride := 1, count := 1, subs := [
  { ob 0x01 "PowerMode" .u8 .rw (.k 0) with rng := .le 3, fn := .powerMode },
  ob 0x02 "PowerModeResult" .u8 .ro (.k 0),
  { ob 0x03 "WakeEnable" .u8 .rw (.k 1) with pers := true, rng := .mask 0x1F },
  ob 0x04 "WakeCause" .u8 .ro (.k 0),
  { ob 0x05 "WakeCounts" .u32 .rw (.k 100) with pers := true, rng := .btw 1 0xFFFFFFFF },
  { ob 0x06 "WakeAfter" .u32 .rw (.k 0) with pers := true },
  ob 0x07 "EventEnable" .u8 .rw (.k 0),
  { ob 0x08 "EventCause" .u8 .rw (.k 0) with kind := .cause } ] }

/-- Indices 0x1501. -/
def ix1501 : IndexRow := { base := 0x1501, stride := 1, count := 1, subs := [
  ob 0x01 "VinLevel" .u16 .ro (.k 0),
  { ob 0x02 "VinWarnLevel" .u16 .rw (.k 0x2710) with pers := true, rng := .btw 4600 28000 },
  ob 0x03 "DieTemp" .i16 .ro (.k 0),
  { ob 0x04 "TempWarnLevel" .i16 .rw (.k 0x41A) with pers := true, rng := .sbtw 600 1100 },
  { ob 0x05 "BoardSupplyMode" .u8 .rw (.k 1) with pers := true, rng := .le 1, fn := .boardSupply },
  { ob 0x06 "LpddrSupplyEnable" .u8 .rw (.k 3) with pers := true, rng := .le 3, fn := .lpddrSupply },
  ob 0x07 "SupplyStatus" .u8 .ro (.k 0),
  { ob 0x08 "PowerFails" .u16 .rw (.k 0) with kind := .trouble },
  { ob 0x09 "ThermalWarnings" .u16 .rw (.k 0) with kind := .trouble },
  { ob 0x0a "SupplyFaults" .u16 .rw (.k 0) with kind := .trouble } ] }

/-- Indices 0x1502. -/
def ix1502 : IndexRow := { base := 0x1502, stride := 1, count := 1, subs := [
  { ob 0x01 "EngineReset" .u32 .wo (.k 0) with rng := .only 0x746F6F62, fn := .engineReset },
  ob 0x02 "ResetCause" .u8 .ro (.k 1) ] }

/-- Indices 0x1503. -/
def ix1503 : IndexRow := { base := 0x1503, stride := 1, count := 1, subs := [
  ob 0x01 "ClockState" .u8 .ro (.k 0),
  ob 0x02 "RcError" .i16 .ro (.k 0),
  { ob 0x03 "FurrowGating" .u32 .rw (.k 0xFFFFFF) with pers := true, rng := .mask 0xFFFFFF, fn := .furrowGating },
  { ob 0x04 "PllLockLosses" .u16 .rw (.k 0) with kind := .trouble } ] }

/-- Indices 0x1510. -/
def ix1510 : IndexRow := { base := 0x1510, stride := 1, count := 1, subs := [
  { ob 0x01 "DomainRequest" .u8 .rw (.list [1,1,1,1,1,1,1,1,1,1,1,1,1,1,1,1,1,1,1,1,1,1,1,1,1,1,1,1,0,0,0,0,1,1,1,1,0,0,1,1,1,1]) with subTo := 0x2a, pers := true, rng := .le 2, fn := .domainRequest } ] }

/-- Indices 0x1511. -/
def ix1511 : IndexRow := { base := 0x1511, stride := 1, count := 1, subs := [
  { ob 0x01 "DomainState" .u8 .ro (.k 0) with subTo := 0x2a } ] }

/-- Indices 0x1512. -/
def ix1512 : IndexRow := { base := 0x1512, stride := 1, count := 1, subs := [
  { ob 0x01 "DomainRestartPending" .bool .ro (.k 0) with subTo := 0x2a } ] }

/-- Indices 0x1513. -/
def ix1513 : IndexRow := { base := 0x1513, stride := 1, count := 1, subs := [
  { ob 0x01 "DomainResult" .u8 .ro (.k 0) with subTo := 0x2a } ] }

/-- Indices 0x1514. -/
def ix1514 : IndexRow := { base := 0x1514, stride := 1, count := 1, subs := [
  { ob 0x01 "DomainStartFailures" .u16 .rw (.k 0) with kind := .trouble },
  ob 0x02 "LastFailedDomain" .u8 .ro (.k 255) ] }

/-- Indices 0x1580. -/
def ix1580 : IndexRow := { base := 0x1580, stride := 1, count := 1, subs := [
  { ob 0x01 "ResourceClaims" .u16 .ro (.k 0) with subTo := 0x74, rd := .claimHolder } ] }

/-- Indices 0x1581. -/
def ix1581 : IndexRow := { base := 0x1581, stride := 1, count := 1, subs := [
  { ob 0x01 "ClaimRefusals" .u16 .rw (.k 0) with kind := .trouble },
  ob 0x02 "LastRefused" .u32 .ro (.k 0) ] }

/-- Indices 0x1600. -/
def ix1600 : IndexRow := { base := 0x1600, stride := 1, count := 1, subs := [
  { ob 0x01 "SchedCores" .u8 .rw (.k 255) with pers := true, fn := .schedCores },
  ob 0x02 "AttachedCores" .u8 .ro (.k 0),
  { ob 0x03 "DrainedCores" .u8 .ro (.k 255) with rd := .drainedCores },
  { ob 0x04 "TickPeriod" .u16 .rws (.k 10) with pers := true, rng := .btw 1 1000, fn := .tickPeriod, own := .tick },
  ob 0x05 "TickCount" .u64 .ro (.k 0),
  { ob 0x06 "DispatchTimeout" .u32 .rw (.k 0x20000) with pers := true, rng := .btw 1024 16777216 },
  { ob 0x07 "EventEnable" .u8 .rw (.k 0) with rng := .mask 0xFF },
  { ob 0x08 "EventCause" .u8 .rw (.k 0) with kind := .cause },
  { ob 0x09 "DispatchTimeouts" .u16 .rw (.k 0) with kind := .trouble },
  { ob 0x0a "Migrations" .u16 .rw (.k 0) with kind := .trouble },
  { ob 0x0b "PostOverflows" .u16 .rw (.k 0) with kind := .trouble },
  { ob 0x0c "InboxOverflows" .u16 .rw (.k 0) with kind := .trouble },
  { ob 0x0d "CommandRefusals" .u16 .rw (.k 0) with kind := .trouble },
  { ob 0x0e "ReadyTasks" .u16 .ro (.k 0) with rd := .readyTasks },
  { ob 0x0f "EmcyHoldoff" .u16 .rw (.k 100) with pers := true, rng := .le 60000 },
  { ob 0x10 "EmcySuppressed" .u16 .rw (.k 0) with kind := .trouble },
  { ob 0x11 "EventsCoalesced" .u16 .rw (.k 0) with kind := .trouble } ] }

/-- Indices 0x1601. -/
def ix1601 : IndexRow := { base := 0x1601, stride := 1, count := 1, subs := [
  { ob 0x00 "EventRaise" .u16 .wo (.k 0) with fn := .eventRaise } ] }

/-- Indices 0x1602. -/
def ix1602 : IndexRow := { base := 0x1602, stride := 1, count := 1, subs := [
  { ob 0x01 "CoreEventPop" .u32 .ro (.k 0) with subTo := 0x08, rd := .eventPop } ] }

/-- Indices 0x1603. -/
def ix1603 : IndexRow := { base := 0x1603, stride := 1, count := 1, subs := [
  { ob 0x01 "CoreCommand" .u64 .wo (.k 0) with subTo := 0x08, fn := .coreCommand } ] }

/-- Indices 0x1604. -/
def ix1604 : IndexRow := { base := 0x1604, stride := 1, count := 1, subs := [
  { ob 0x01 "TaskSelect" .u16 .rw (.k 0) with rng := .le 511 },
  { ob 0x02 "TaskRecord" .octets .ro (.k 0) with rd := .taskRecord, size := 32 } ] }

/-- Indices 0x1605. -/
def ix1605 : IndexRow := { base := 0x1605, stride := 1, count := 1, subs := [
  { ob 0x00 "TaskSetup" .u64 .wo (.k 0) with fn := .taskSetup } ] }

/-- Indices 0x1606. -/
def ix1606 : IndexRow := { base := 0x1606, stride := 1, count := 1, subs := [
  { ob 0x00 "TaskCommand" .u32 .wo (.k 0) with fn := .taskCommand } ] }

/-- Indices 0x1607. -/
def ix1607 : IndexRow := { base := 0x1607, stride := 1, count := 1, subs := [
  { ob 0x01 "TraceMode" .u8 .rw (.k 0) with rng := .le 3, fn := .traceMode },
  { ob 0x02 "TraceTriggerEvent" .u16 .rw (.k 0) with rng := .le 319 },
  { ob 0x03 "TracePostCount" .u16 .rw (.k 0x800) with rng := .le 4095 },
  ob 0x04 "TraceState" .u8 .ro (.k 0),
  { ob 0x05 "TraceEntries" .u16 .ro (.k 0) with rd := .traceEntries } ] }

/-- Indices 0x1608. -/
def ix1608 : IndexRow := { base := 0x1608, stride := 1, count := 1, subs := [
  { ob 0x00 "TraceImage" .domain .ro (.k 0) with rd := .traceImage } ] }

/-- Indices 0x1610, 3 indices of one list. -/
def ix1610 : IndexRow := { base := 0x1610, stride := 1, count := 3, subs := [
  { ob 0x01 "EventRoute" .u32 .rw (.k 0) with subTo := 0x80, pers := true, rng := .mask 0x07FF01FF } ] }

/-- Indices 0x1614, 3 indices of one list. -/
def ix1614 : IndexRow := { base := 0x1614, stride := 1, count := 3, subs := [
  { ob 0x01 "EventCount" .u32 .rw (.k 0) with subTo := 0x80, rng := .only 0 } ] }

/-- Indices 0x1618. -/
def ix1618 : IndexRow := { base := 0x1618, stride := 1, count := 1, subs := [
  { ob 0x01 "PendingMap" .octets .ro (.k 0) with rd := .pendingMap, size := 40 },
  { ob 0x02 "CoalescedMap" .octets .rw (.k 0) with fn := .coalescedMap, rd := .coalescedMap, size := 40 } ] }

/-- Indices 0x1620 + 0x1 per unit, 6 units. -/
def ix1620i : IndexRow := { base := 0x1620, stride := 1, count := 6, subs := [
  { ob 0x01 "TimerEnable" .u8 .rw (.k 0) with rng := .le 1, fn := .timerEnable },
  { ob 0x02 "TimerBase" .u8 .rws (.k 0) with pers := true, rng := .le 4, own := .timer },
  { ob 0x03 "TimerPeriod" .u32 .rws (.k 0x3E8) with pers := true, rng := .btw 1 0xFFFFFFFF, own := .timer },
  ob 0x04 "TimerNextDue" .u64 .ro (.k 0) ] }

/-- Indices 0x1700. -/
def ix1700 : IndexRow := { base := 0x1700, stride := 1, count := 1, subs := [
  { ob 0x01 "SnapshotCounters" .u32 .wo (.k 0) with rng := .only 0x70616E73, fn := .snapshot },
  ob 0x02 "SnapshotState" .u8 .ro (.k 0),
  ob 0x03 "SnapshotSeq" .u32 .ro (.k 0),
  { ob 0x04 "NonZeroCounters" .u16 .ro (.k 0) with kind := .trouble, rd := .nonZeroCounters },
  { ob 0x05 "SaturatedCounters" .u16 .ro (.k 0) with kind := .trouble, rd := .saturatedCounters },
  { ob 0x06 "ClearCounters" .u32 .wo (.k 0) with rng := .only 0x726C63, fn := .clearCounters },
  { ob 0x07 "RefclkLosses" .u16 .rw (.k 0) with kind := .trouble } ] }

/-- Indices 0x1701. -/
def ix1701 : IndexRow := { base := 0x1701, stride := 1, count := 1, subs := [
  { ob 0x00 "SnapshotImage" .domain .ro (.k 0) with rd := .snapshotImage } ] }

/-- Indices 0x1702. -/
def ix1702 : IndexRow := { base := 0x1702, stride := 1, count := 1, subs := [
  { ob 0x01 "ActivateSlot" .u8 .wo (.k 0) with subTo := 0x18, rng := .le 7, fn := .activateSlot } ] }

/-- Indices 0x2000 + 0x40 per unit, 24 units. -/
def ix03B_0 : IndexRow := { base := 0x2000, stride := 64, count := 24, subs := [
  { ob 0x01 "PhysicalField" .u8 .cst (.unit 0 1) with cls := .m },
  { ob 0x02 "LogicalField" .u8 .ro (.k 0) with cls := .m, rd := .logicalField },
  { ob 0x03 "ActiveSlot" .u8 .ro (.k 255) with cls := .m },
  { ob 0x04 "RunState" .u8 .ro (.k 0) with cls := .m, rd := .runState } ] }

/-- Indices 0x2001 + 0x40 per unit, 24 units. -/
def ix03B_1 : IndexRow := { base := 0x2001, stride := 64, count := 24, subs := [
  { ob 0x00 "FieldRun" .u8 .rw (.k 0) with cls := .m, rng := .le 1, fn := .fieldRun } ] }

/-- Indices 0x2002 + 0x40 per unit, 24 units. -/
def ix03B_2 : IndexRow := { base := 0x2002, stride := 64, count := 24, subs := [
  { ob 0x00 "FieldClear" .u8 .wo (.k 0) with cls := .m, rng := .only 1, fn := .fieldClear } ] }

/-- Indices 0x2003 + 0x40 per unit, 24 units. -/
def ix03B_3 : IndexRow := { base := 0x2003, stride := 64, count := 24, subs := [
  { ob 0x01 "SlotState" .u8 .ro (.k 0) with subTo := 0x08, cls := .m, rd := .slotState } ] }

/-- Indices 0x2004 + 0x40 per unit, 24 units. -/
def ix03B_4 : IndexRow := { base := 0x2004, stride := 64, count := 24, subs := [
  { ob 0x01 "SlotTuningId" .u64 .ro (.k 0) with subTo := 0x0f, step := 2, cls := .m, rd := .slotTuningId } ] }

/-- Indices 0x2005 + 0x40 per unit, 24 units. -/
def ix03B_5 : IndexRow := { base := 0x2005, stride := 64, count := 24, subs := [
  { ob 0x01 "TargetSlot" .u8 .rw (.k 0) with cls := .m, rng := .le 7 },
  { ob 0x02 "Mode" .u8 .rw (.k 1) with cls := .m, rng := .le 2 },
  { ob 0x03 "Trigger" .u8 .rw (.k 1) with cls := .m, rng := .le 1 },
  { ob 0x04 "CuePort" .u8 .rw (.k 0) with cls := .m, rng := .le 31 },
  { ob 0x05 "CueValue" .u32 .rw (.k 0) with cls := .m },
  { ob 0x06 "CueMask" .u32 .rw (.k 0) with cls := .m },
  { ob 0x07 "Go" .u8 .wo (.k 0) with cls := .m, rng := .only 1, fn := .retuneGo },
  { ob 0x08 "Cancel" .u8 .wo (.k 0) with cls := .m, rng := .only 1, fn := .retuneCancel } ] }

/-- Indices 0x2006 + 0x40 per unit, 24 units. -/
def ix03B_6 : IndexRow := { base := 0x2006, stride := 64, count := 24, subs := [
  { ob 0x01 "RetuneState" .u8 .ro (.k 0) with cls := .m },
  { ob 0x02 "FromSlot" .u8 .ro (.k 255) with cls := .m },
  { ob 0x03 "ToSlot" .u8 .ro (.k 255) with cls := .m },
  { ob 0x04 "Duration" .u32 .ro (.k 0) with cls := .m } ] }

/-- Indices 0x2007 + 0x40 per unit, 24 units. -/
def ix03B_7 : IndexRow := { base := 0x2007, stride := 64, count := 24, subs := [
  { ob 0x00 "RetuneLimit" .u32 .rw (.k 0x10000) with pers := true, cls := .m, rng := .btw 1024 16777216 } ] }

/-- Indices 0x2008 + 0x40 per unit, 24 units. -/
def ix03B_8 : IndexRow := { base := 0x2008, stride := 64, count := 24, subs := [
  { ob 0x01 "RetuneTimeouts" .u16 .rw (.k 0) with kind := .trouble },
  { ob 0x02 "ForcedSwitches" .u16 .rw (.k 0) with kind := .trouble },
  { ob 0x03 "PortRefusals" .u16 .rw (.k 0) with kind := .trouble } ] }

/-- Indices 0x2009 + 0x40 per unit, 24 units. -/
def ix03B_9 : IndexRow := { base := 0x2009, stride := 64, count := 24, subs := [
  { ob 0x01 "DrillReadAddr" .u16 .ro (.k 0) with subTo := 0x04, cls := .m, rd := .drillReadAddr },
  { ob 0x05 "DrillWriteAddr" .u16 .ro (.k 0) with subTo := 0x08, cls := .m, rd := .drillWriteAddr } ] }

/-- Indices 0x2600. -/
def ix2600 : IndexRow := { base := 0x2600, stride := 1, count := 1, subs := [
  { ob 0x01 "RowBypass" .u8 .rws (.k 5) with subTo := 0x04, pers := true, cls := .m, rng := .le 6, fn := .rowBypass, own := .fieldRow } ] }

/-- Indices 0x2601. -/
def ix2601 : IndexRow := { base := 0x2601, stride := 1, count := 1, subs := [
  { ob 0x01 "CapoHold" .u8 .rw (.k 0) with cls := .m, rng := .le 1, fn := .capoHold },
  { ob 0x02 "CapoState" .u8 .ro (.k 0) with cls := .m },
  { ob 0x03 "CapoCycle" .u64 .ro (.k 0) with cls := .m } ] }

/-- Indices 0x2602. -/
def ix2602 : IndexRow := { base := 0x2602, stride := 1, count := 1, subs := [
  { ob 0x01 "TargetSlot" .u8 .rw (.k 0) with cls := .m, rng := .le 7 },
  { ob 0x02 "Mode" .u8 .rw (.k 1) with cls := .m, rng := .le 2 },
  { ob 0x03 "Trigger" .u8 .rw (.k 1) with cls := .m, rng := .le 1 },
  { ob 0x04 "CuePort" .u8 .rw (.k 0) with cls := .m, rng := .le 31 },
  { ob 0x05 "CueValue" .u32 .rw (.k 0) with cls := .m },
  { ob 0x06 "CueMask" .u32 .rw (.k 0) with cls := .m },
  { ob 0x07 "FieldMask" .u32 .rw (.k 0) with cls := .m, rng := .mask 0xFFFFFF },
  { ob 0x08 "Go" .u8 .wo (.k 0) with cls := .m, rng := .only 1, fn := .groupGo } ] }

/-- Indices 0x2603. -/
def ix2603 : IndexRow := { base := 0x2603, stride := 1, count := 1, subs := [
  { ob 0x01 "Source" .u8 .rw (.k 1) with cls := .m, rng := .le 2 },
  { ob 0x02 "SourceAddress" .u32 .rw (.k 0) with cls := .m },
  { ob 0x03 "CacheEntry" .u16 .rw (.k 0) with cls := .m },
  { ob 0x04 "TargetSlot" .u8 .rw (.k 0) with cls := .m, rng := .le 7 },
  { ob 0x05 "Go" .u8 .wo (.k 0) with cls := .m, rng := .only 1, fn := .tuningGo },
  { ob 0x06 "State" .u8 .ro (.k 0) with cls := .m },
  { ob 0x07 "Result" .u8 .ro (.k 0) with cls := .m },
  { ob 0x08 "FailStep" .u8 .ro (.k 0) with cls := .m } ] }

/-- Indices 0x2604. -/
def ix2604 : IndexRow := { base := 0x2604, stride := 1, count := 1, subs := [
  { ob 0x00 "TuningImage" .domain .wo (.k 0) with cls := .m, rng := .len 0 2097152, fn := .tuningImage } ] }

/-- Indices 0x2605. -/
def ix2605 : IndexRow := { base := 0x2605, stride := 1, count := 1, subs := [
  { ob 0x01 "StagingBase" .u32 .rws (.k 0x21F00000) with pers := true, fn := .stagingBase, own := .tuningLoader },
  { ob 0x02 "StagingSize" .u32 .rws (.k 0x80000) with pers := true, fn := .stagingSize, own := .tuningLoader } ] }

/-- Indices 0x2606. -/
def ix2606 : IndexRow := { base := 0x2606, stride := 1, count := 1, subs := [
  { ob 0x00 "TuningRollbackFloor" .u32 .rw (.k 0) with pers := true, cls := .m, fn := .rollbackFloor } ] }

/-- Indices 0x2607. -/
def ix2607 : IndexRow := { base := 0x2607, stride := 1, count := 1, subs := [
  { ob 0x01 "CacheTuningId" .u64 .ro (.k 0) with subTo := 0x7d, step := 2, cls := .m, rd := .cacheTuningId } ] }

/-- Indices 0x2608. -/
def ix2608 : IndexRow := { base := 0x2608, stride := 1, count := 1, subs := [
  { ob 0x01 "LoadRefusals" .u16 .rw (.k 0) with kind := .trouble },
  { ob 0x02 "StagingMismatches" .u16 .rw (.k 0) with kind := .trouble } ] }

/-- Indices 0x2609. -/
def ix2609 : IndexRow := { base := 0x2609, stride := 1, count := 1, subs := [
  { ob 0x01 "CacheEntries" .u8 .ro (.k 0) with cls := .m, rd := .cacheEntries } ] }

/-- Indices 0x2800 + 0x2 per unit, 64 units. -/
def ix04Q_0 : IndexRow := { base := 0x2800, stride := 2, count := 64, subs := [
  { ob 0x01 "Enable" .u8 .rw (.k 0) with cls := .m, rng := .le 1, fn := .queueEnable },
  { ob 0x02 "ItemWidth" .u8 .rws (.k 2) with pers := true, cls := .m, rng := .le 2, own := .queue },
  { ob 0x03 "FarEnd" .u8 .rws (.k 0) with pers := true, cls := .m, fn := .queueFarEnd, own := .queue },
  { ob 0x04 "FarUnit" .u8 .rws (.k 0) with pers := true, cls := .m, own := .queue },
  { ob 0x05 "SpillBase" .u32 .rw (.k 0x20000000) with pers := true, cls := .m, fn := .spillBase },
  { ob 0x06 "SpillLength" .u32 .rw (.k 0) with pers := true, cls := .m, fn := .spillLength },
  { ob 0x07 "Flush" .u8 .rw (.k 0) with cls := .m, rng := .btw 1 2, fn := .queueFlush, rd := .queueFlush },
  { ob 0x08 "EventEnable" .u8 .rw (.k 0) with rng := .mask 0x3F },
  { ob 0x09 "DmaRingBase" .u32 .rws (.k 0) with pers := true, rng := .step 16 0 0xFFFFFFF0, own := .queue },
  { ob 0x0a "DmaRingSize" .u32 .rws (.k 0) with pers := true, rng := .step 16 4096 16777216, own := .queue },
  { ob 0x0b "DmaHostIndex" .u32 .rw (.k 0) with rng := .step 16 0 0xFFFFFFF0, fn := .dmaHostIndex },
  ob 0x0c "DmaEngineIndex" .u32 .ro (.k 0) ] }

/-- Indices 0x2801 + 0x2 per unit, 64 units. -/
def ix04Q_1 : IndexRow := { base := 0x2801, stride := 2, count := 64, subs := [
  ob 0x01 "QueueState" .u8 .ro (.k 0),
  ob 0x02 "RestartPending" .bool .ro (.k 0),
  { ob 0x03 "Occupancy" .u32 .ro (.k 0) with rd := .queueOccupancy },
  ob 0x04 "Packets" .u16 .ro (.k 0),
  { ob 0x05 "Space" .u32 .ro (.k 0) with rd := .queueSpace },
  { ob 0x06 "LengthPending" .bool .ro (.k 0) with rd := .lengthPending },
  ob 0x07 "ActiveSpillBase" .u32 .ro (.k 0x20000000),
  ob 0x08 "ActiveSpillLength" .u32 .ro (.k 0),
  ob 0x09 "OutstandingSpill" .u8 .ro (.k 0),
  { ob 0x0a "EventCause" .u8 .rw (.k 0) with rng := .mask 0x3F, kind := .cause },
  { ob 0x0b "FlushDrops" .u16 .rw (.k 0) with kind := .trouble },
  { ob 0x0c "FullRefusals" .u16 .rw (.k 0) with kind := .trouble },
  { ob 0x0d "DmaFormatErrors" .u16 .rw (.k 0) with kind := .trouble },
  ob 0x0e "EnableResult" .u8 .ro (.k 0) ] }

/-- Indices 0x3000 + 0x1 per unit, 4 units. -/
def ix05E_0 : IndexRow := { base := 0x3000, stride := 1, count := 4, subs := [
  { ob 0x01 "Enable" .u8 .rw (.k 0) with cls := .m, rng := .le 1, fn := .encoderEnable },
  { ob 0x02 "Mode" .u8 .rws (.k 2) with pers := true, cls := .m, rng := .le 2, own := .encoder },
  { ob 0x03 "Invert" .u8 .rws (.k 0) with pers := true, cls := .m, rng := .le 1, own := .encoder },
  { ob 0x04 "Filter" .u8 .rws (.k 0) with pers := true, cls := .m, rng := .le 15, own := .encoder },
  { ob 0x05 "IndexEnable" .u8 .rws (.k 0) with pers := true, cls := .m, rng := .le 1, own := .encoder },
  { ob 0x06 "Position" .u64 .ro (.k 0) with cls := .m },
  { ob 0x07 "PositionPreset" .u64 .rws (.k 0) with cls := .m, rng := .le 0xFFFFFFFFFFFF, fn := .positionPreset, own := .encoder },
  { ob 0x08 "HighWater" .u64 .ro (.k 0) with cls := .m },
  { ob 0x09 "IndexPosition" .u64 .ro (.k 0) with cls := .m },
  { ob 0x0a "Direction" .u8 .ro (.k 0) with cls := .m },
  { ob 0x0b "CountRate" .u32 .ro (.k 0) with cls := .m, rd := .countRate },
  { ob 0x0c "EncoderState" .u8 .ro (.k 0) with cls := .m },
  { ob 0x0d "RestartPending" .bool .ro (.k 0) with cls := .m },
  { ob 0x0e "EventEnable" .u8 .rw (.k 0) with rng := .mask 0x1F },
  { ob 0x0f "EventCause" .u8 .rw (.k 0) with rng := .mask 0x1F, kind := .cause },
  { ob 0x10 "QuadErrors" .u16 .rw (.k 0) with kind := .trouble },
  { ob 0x11 "EnableResult" .u8 .ro (.k 0) with cls := .m } ] }

/-- Indices 0x3010 + 0x1 per unit, 4 units. -/
def ix05G_0 : IndexRow := { base := 0x3010, stride := 1, count := 4, subs := [
  { ob 0x01 "Enable" .u8 .rw (.k 0) with cls := .m, rng := .le 1, fn := .lineGenEnable },
  { ob 0x02 "Encoder" .u8 .rws (.unit 0 1) with pers := true, cls := .m, rng := .le 3, own := .lineGen },
  { ob 0x03 "Origin" .u64 .rws (.k 0) with pers := true, cls := .m, rng := .le 0xFFFFFFFFFFFF, own := .lineGen },
  { ob 0x04 "LineGenPitch" .u64 .rws (.k 0x100000000) with pers := true, cls := .m, rng := .btw 0x100000000 0xFFFFFFFFFFFFFF, own := .lineGen },
  { ob 0x05 "LineNumber" .u32 .ro (.k 0) with cls := .m },
  { ob 0x06 "NextBoundary" .u64 .ro (.k 0) with cls := .m, rd := .nextBoundary },
  { ob 0x07 "LinesSkipped" .u16 .rw (.k 0) with kind := .trouble },
  { ob 0x08 "LineRate" .u32 .ro (.k 0) with cls := .m, rd := .lineRate } ] }

/-- Indices 0x3020 + 0x1 per unit, 24 units. -/
def ix05T_0 : IndexRow := { base := 0x3020, stride := 1, count := 24, subs := [
  { ob 0x01 "Enable" .u8 .rw (.k 0) with cls := .m, rng := .le 1, fn := .triggerEnable },
  { ob 0x02 "Input" .u8 .rws (.k 0) with pers := true, cls := .m, rng := .le 4, own := .trigger },
  { ob 0x03 "Edge" .u8 .rws (.k 0) with pers := true, cls := .m, rng := .le 1, own := .trigger },
  { ob 0x04 "Filter" .u16 .rws (.k 0) with pers := true, cls := .m, own := .trigger },
  { ob 0x05 "LineGen" .u8 .rws (.k 0) with pers := true, cls := .m, rng := .le 3, own := .trigger },
  { ob 0x06 "Lane" .u8 .rws (.k 0) with pers := true, cls := .m, rng := .le 23, own := .trigger },
  { ob 0x07 "PositionOffset" .i32 .rws (.k 0) with pers := true, cls := .m, own := .trigger },
  { ob 0x08 "Lockout" .u32 .rws (.k 0) with pers := true, cls := .m, own := .trigger },
  { ob 0x09 "BarsDue" .u32 .rws (.k 0) with pers := true, cls := .m, rng := .mask 0xFFFFFF, own := .trigger },
  { ob 0x0a "RejectGate" .u8 .rws (.k 255) with pers := true, cls := .m, rng := .leOr 11 0xFF, own := .trigger },
  { ob 0x0b "RejectDistance" .u32 .rws (.k 0) with pers := true, cls := .m, own := .trigger },
  { ob 0x0c "RetireDistance" .u32 .rws (.k 0) with pers := true, cls := .m, own := .trigger },
  { ob 0x0d "Allotment" .u8 .rws (.k 255) with pers := true, cls := .m, rng := .leOr 31 0xFF, own := .trigger },
  { ob 0x0e "LastPosition" .u64 .ro (.k 0) with cls := .m },
  { ob 0x0f "LastProductId" .u32 .ro (.k 0) with cls := .m },
  { ob 0x10 "EventEnable" .u8 .rw (.k 0) with rng := .mask 0xF },
  { ob 0x11 "EventCause" .u8 .rw (.k 0) with rng := .mask 0xF, kind := .cause },
  { ob 0x12 "LockoutEdges" .u16 .rw (.k 0) with kind := .trouble },
  { ob 0x13 "Untracked" .u16 .rw (.k 0) with kind := .trouble },
  { ob 0x14 "EnableResult" .u8 .ro (.k 0) with cls := .m } ] }

/-- Indices 0x3100 + 0x8 per unit, 24 units. -/
def ix05B_0 : IndexRow := { base := 0x3100, stride := 8, count := 24, subs := [
  { ob 0x01 "Enable" .u8 .rw (.k 0) with cls := .m, rng := .le 1, fn := .barEnable },
  { ob 0x02 "LineGen" .u8 .rws (.k 0) with pers := true, cls := .m, rng := .le 3, own := .bar },
  { ob 0x03 "NozzleCount" .u16 .rws (.k 0x2000) with pers := true, cls := .m, rng := .step 16 16 8192, fn := .nozzleCount, own := .bar },
  ob 0x04 "BarState" .u8 .ro (.k 0),
  ob 0x05 "RestartPending" .bool .ro (.k 0),
  ob 0x06 "EnableResult" .u8 .ro (.k 0),
  { ob 0x07 "Owner" .u8 .ro (.k 1) with cls := .a },
  { ob 0x08 "EventEnable" .u16 .rw (.k 0) with rng := .mask 0x1FFF },
  { ob 0x09 "EventCause" .u16 .rw (.k 0) with rng := .mask 0x1FFF, kind := .cause } ] }

/-- Indices 0x3101 + 0x8 per unit, 24 units. -/
def ix05B_1 : IndexRow := { base := 0x3101, stride := 8, count := 24, subs := [
  { ob 0x01 "LineOffset" .u32 .rws (.k 0) with pers := true, cls := .m, rng := .le 16777216, own := .bar },
  { ob 0x02 "PrintLines" .u32 .rws (.k 1) with pers := true, cls := .m, rng := .btw 1 16777216, own := .bar },
  { ob 0x03 "RowCount" .u8 .rws (.k 1) with pers := true, cls := .m, rng := .oneOf [1, 2, 4], own := .bar },
  { ob 0x04 "Stagger" .u8 .rws (.k 0) with subTo := 0x07, pers := true, cls := .m, own := .bar },
  { ob 0x08 "SwathOrigin" .i32 .rws (.k 0) with pers := true, cls := .m, own := .bar },
  { ob 0x09 "CrossDpi" .u16 .rws (.k 0x4B0) with pers := true, cls := .m, rng := .btw 150 1200, own := .bar },
  { ob 0x0a "NozzleDirection" .u8 .rws (.k 0) with pers := true, cls := .m, rng := .le 1, own := .bar } ] }

/-- Indices 0x3102 + 0x8 per unit, 24 units. -/
def ix05B_2 : IndexRow := { base := 0x3102, stride := 8, count := 24, subs := [
  ob 0x01 "CurrentLine" .u32 .ro (.k 0),
  { ob 0x02 "NextWindowStart" .u32 .ro (.k 0) with rd := .nextWindow },
  { ob 0x03 "WindowsPending" .u16 .ro (.k 0) with rd := .windowsPending },
  ob 0x04 "SkipDebt" .u16 .ro (.k 0),
  { ob 0x05 "HoldState" .u8 .ro (.k 0) with rd := .holdState } ] }

/-- Indices 0x3103 + 0x8 per unit, 24 units. -/
def ix05B_3 : IndexRow := { base := 0x3103, stride := 8, count := 24, subs := [
  { ob 0x01 "Underruns" .u16 .rw (.k 0) with kind := .trouble },
  { ob 0x02 "LengthErrors" .u16 .rw (.k 0) with kind := .trouble },
  { ob 0x03 "LaneDownLines" .u16 .rw (.k 0) with kind := .trouble },
  { ob 0x04 "WindowsMissed" .u16 .rw (.k 0) with kind := .trouble },
  { ob 0x05 "BackChannelErrors" .u16 .rw (.k 0) with kind := .trouble },
  { ob 0x06 "HeadSilent" .u16 .rw (.k 0) with kind := .trouble },
  { ob 0x07 "DualOwner" .u16 .rw (.k 0) with kind := .trouble } ] }

/-- Indices 0x3104 + 0x8 per unit, 24 units. -/
def ix05B_4 : IndexRow := { base := 0x3104, stride := 8, count := 24, subs := [
  { ob 0x01 "MapField" .u8 .rws (.k 0) with pers := true, cls := .m, rng := .le 23, own := .bar },
  { ob 0x02 "MapBase" .u16 .rws (.k 0) with pers := true, cls := .m, fn := .mapBase, own := .bar },
  ob 0x03 "ActiveCopy" .u8 .ro (.k 0),
  ob 0x04 "SwitchLine" .u32 .ro (.k 0),
  ob 0x05 "SwitchPending" .bool .ro (.k 0),
  { ob 0x06 "MapLead" .u16 .rw (.k 64) with pers := true, cls := .m },
  { ob 0x07 "MapEdit" .u64 .wo (.k 0) with cls := .p, fn := .mapEdit },
  { ob 0x08 "MapImage" .domain .rw (.k 0) with cls := .p, rng := .len 0 32768, fn := .mapImage, rd := .mapImage },
  { ob 0x09 "FailedNozzles" .u16 .ro (.k 0) with rd := .failedNozzles } ] }

/-- Indices 0x3105 + 0x8 per unit, 24 units. -/
def ix05B_5 : IndexRow := { base := 0x3105, stride := 8, count := 24, subs := [
  { ob 0x01 "MgmtRequest" .domain .wo (.k 0) with cls := .m, rng := .len 8 256, fn := .mgmtRequest },
  ob 0x02 "MgmtReply" .domain .ro (.k 0),
  ob 0x03 "MgmtState" .u8 .ro (.k 0),
  { ob 0x04 "MgmtTimeout" .u16 .rw (.k 10) with pers := true, cls := .m, rng := .btw 1 1000 } ] }

/-- Indices 0x3106 + 0x8 per unit, 24 units. -/
def ix05B_6 : IndexRow := { base := 0x3106, stride := 8, count := 24, subs := [
  { ob 0x01 "ZoneTemp" .i16 .ro (.k 0) with subTo := 0x04 },
  ob 0x05 "HeadSupply" .u16 .ro (.k 0),
  ob 0x06 "HeadFlags" .u32 .ro (.k 0),
  ob 0x07 "ActiveInput" .u8 .ro (.k 0),
  ob 0x08 "LastOwnerLine" .u32 .ro (.k 0),
  { ob 0x09 "StatusAge" .u16 .ro (.k 0xFFFF) with rd := .statusAge } ] }

/-- Indices 0x3107 + 0x8 per unit, 24 units. -/
def ix05B_7 : IndexRow := { base := 0x3107, stride := 8, count := 24, subs := [
  ob 0x01 "LinesLaunched" .u64 .ro (.k 0),
  ob 0x02 "BlankLines" .u64 .ro (.k 0),
  ob 0x03 "ProductsComplete" .u64 .ro (.k 0),
  ob 0x04 "ProductsIncomplete" .u64 .ro (.k 0) ] }

/-- Indices 0x3200. -/
def ix3200 : IndexRow := { base := 0x3200, stride := 1, count := 1, subs := [
  { ob 0x01 "Live" .u16 .ro (.k 0) with rd := .productsLive },
  { ob 0x02 "OldestId" .u32 .ro (.k 0) with rd := .oldestId },
  { ob 0x03 "NewestId" .u32 .ro (.k 0) with rd := .newestId },
  { ob 0x04 "TableFull" .u16 .rw (.k 0) with kind := .trouble },
  { ob 0x05 "EventEnable" .u8 .rw (.k 0) with rng := .mask 0x3 },
  { ob 0x06 "EventCause" .u8 .rw (.k 0) with rng := .mask 0x3, kind := .cause } ] }

/-- Indices 0x3201. -/
def ix3201 : IndexRow := { base := 0x3201, stride := 1, count := 1, subs := [
  ob 0x01 "SelectId" .u32 .rw (.k 0),
  { ob 0x02 "Record" .octets .ro (.k 0) with rd := .productRecord, size := 64 },
  { ob 0x03 "ForceReject" .u32 .wo (.k 0) with cls := .m, fn := .forceReject } ] }

/-- Indices 0x3202. -/
def ix3202 : IndexRow := { base := 0x3202, stride := 1, count := 1, subs := [
  { ob 0x00 "TableImage" .domain .ro (.k 0) with rd := .productTable } ] }

/-- Indices 0x3300 + 0x2 per unit, 12 units. -/
def ix05J_0 : IndexRow := { base := 0x3300, stride := 2, count := 12, subs := [
  { ob 0x01 "Enable" .u8 .rw (.k 0) with cls := .m, rng := .le 1, fn := .gateEnable },
  { ob 0x02 "Encoder" .u8 .rws (.k 0) with pers := true, cls := .m, rng := .le 3, own := .gate },
  { ob 0x03 "WidthMode" .u8 .rws (.k 0) with pers := true, cls := .m, rng := .le 1, own := .gate },
  { ob 0x04 "Width" .u32 .rws (.k 0x3E8) with pers := true, cls := .m, fn := .gateWidth, own := .gate },
  { ob 0x05 "PulseTimeout" .u32 .rws (.k 0x186A0) with pers := true, cls := .m, rng := .btw 1 10000000, own := .gate },
  { ob 0x06 "Polarity" .u8 .rws (.k 0) with pers := true, cls := .m, rng := .le 1, fn := .gatePolarity, own := .gate },
  { ob 0x07 "EventEnable" .u8 .rw (.k 0) with rng := .mask 0x1F } ] }

/-- Indices 0x3301 + 0x2 per unit, 12 units. -/
def ix05J_1 : IndexRow := { base := 0x3301, stride := 2, count := 12, subs := [
  { ob 0x01 "Output" .bool .ro (.k 0) with cls := .m, rd := .gateOutput },
  { ob 0x02 "DueEntries" .u16 .ro (.k 0) with cls := .m, rd := .gateDue },
  { ob 0x03 "NextDue" .u64 .ro (.k 0) with cls := .m, rd := .gateNextDue },
  { ob 0x04 "EventCause" .u8 .rw (.k 0) with rng := .mask 0x1F, kind := .cause },
  { ob 0x05 "Fired" .u64 .ro (.k 0) with cls := .m },
  { ob 0x06 "Merged" .u16 .rw (.k 0) with kind := .trouble },
  { ob 0x07 "ListFull" .u16 .rw (.k 0) with kind := .trouble },
  { ob 0x08 "Timeouts" .u16 .rw (.k 0) with kind := .trouble },
  { ob 0x09 "EnableResult" .u8 .ro (.k 0) with cls := .m } ] }

/-- Indices 0x3800. -/
def ix3800 : IndexRow := { base := 0x3800, stride := 1, count := 1, subs := [
  { ob 0x01 "MissingVerdict" .u8 .rw (.k 0) with pers := true, rng := .le 1 },
  { ob 0x02 "EventEnable" .u8 .rw (.k 0) with rng := .mask 0xFF },
  { ob 0x03 "EventCause" .u8 .rw (.k 0) with kind := .cause },
  { ob 0x04 "VerdictLatencyMax" .u32 .rw (.k 0) with rng := .only 0 },
  ob 0x05 "VerdictsPass" .u64 .ro (.k 0),
  ob 0x06 "VerdictsReject" .u64 .ro (.k 0),
  { ob 0x07 "MissingVerdicts" .u16 .rw (.k 0) with kind := .trouble },
  { ob 0x08 "LateVerdicts" .u16 .rw (.k 0) with kind := .trouble },
  { ob 0x09 "ContentMismatches" .u16 .rw (.k 0) with kind := .trouble },
  { ob 0x0a "NoReads" .u16 .rw (.k 0) with kind := .trouble } ] }

/-- Indices 0x3801. -/
def ix3801 : IndexRow := { base := 0x3801, stride := 1, count := 1, subs := [
  { ob 0x01 "VerdictPost" .u64 .wo (.k 0) with fn := .verdictPost } ] }

/-- Indices 0x3802. -/
def ix3802 : IndexRow := { base := 0x3802, stride := 1, count := 1, subs := [
  { ob 0x01 "ConfirmCount" .u8 .rw (.k 2) with pers := true, cls := .m, rng := .btw 2 8 },
  { ob 0x02 "StreakRatio" .u8 .rw (.k 192) with pers := true, cls := .m, rng := .btw 64 255 },
  { ob 0x03 "MinSupport" .u16 .rw (.k 32) with pers := true, cls := .m },
  { ob 0x04 "MaxAutoFailed" .u16 .rw (.k 32) with pers := true, cls := .m, rng := .le 8192 },
  { ob 0x05 "AutoFailed" .u16 .rw (.k 0) with subTo := 0x1c, rng := .only 0 },
  { ob 0x1d "HealthPost" .u32 .wo (.k 0) with cls := .p, fn := .healthPost } ] }

/-- Indices 0x3803. -/
def ix3803 : IndexRow := { base := 0x3803, stride := 1, count := 1, subs := [
  { ob 0x01 "ArchiveMode" .u8 .rw (.k 0) with pers := true, rng := .le 2, fn := .archiveMode },
  { ob 0x02 "ArchiveRingBase" .u32 .rws (.k 0x80000000) with pers := true, fn := .archiveBase, own := .archive },
  { ob 0x03 "ArchiveRingSize" .u32 .rws (.k 0) with pers := true, rng := .step 16 4096 1073741824, own := .archive },
  { ob 0x04 "ArchiveHostIndex" .u32 .rw (.k 0) with rng := .step 16 0 0xFFFFFFF0, fn := .archiveHost },
  ob 0x05 "ArchiveEngineIndex" .u32 .ro (.k 0),
  { ob 0x06 "ArchiveDropped" .u16 .rw (.k 0) with kind := .trouble },
  { ob 0x07 "ArchiveTruncated" .u16 .rw (.k 0) with kind := .trouble } ] }

/-- Indices 0x3808 + 0x2 per unit, 6 units. -/
def ix06C_0 : IndexRow := { base := 0x3808, stride := 2, count := 6, subs := [
  { ob 0x01 "Enable" .u8 .rw (.k 0) with cls := .m, rng := .le 1, fn := .cameraEnable },
  { ob 0x02 "LineGen" .u8 .rws (.k 1) with pers := true, cls := .m, rng := .le 3, own := .camera },
  { ob 0x03 "PixelCount" .u16 .rws (.k 0x1000) with pers := true, cls := .m, rng := .step 16 16 16384, own := .camera },
  { ob 0x04 "Depth" .u8 .rws (.k 0) with pers := true, cls := .m, rng := .le 2, own := .camera },
  { ob 0x05 "CamOrigin" .i32 .rws (.k 0) with pers := true, cls := .m, own := .camera },
  { ob 0x06 "CamPitch" .i32 .rws (.k 0x52AF) with pers := true, cls := .m, own := .camera },
  { ob 0x07 "EventEnable" .u16 .rw (.k 0) with rng := .mask 0x1FF },
  { ob 0x09 "LostTimeout" .u16 .rws (.k 100) with pers := true, cls := .m, rng := .btw 10 10000, own := .camera },
  { ob 0x0a "HistoryBase" .u32 .rws (.k 0x80000000) with pers := true, cls := .m, own := .camera },
  { ob 0x0b "HistorySize" .u32 .rws (.k 0) with pers := true, cls := .m, own := .camera },
  { ob 0x0c "RegionRingBase" .u32 .rws (.unit 0x21980000 0x10000) with pers := true, cls := .m, own := .camera },
  { ob 0x0d "RegionRingSize" .u32 .rws (.k 0) with pers := true, cls := .m, rng := .stepOr0 32 1024 65536, own := .camera },
  { ob 0x0e "RegionHostIndex" .u32 .rw (.k 0) with rng := .step 32 0 0xFFFFFFE0, fn := .regionHost },
  { ob 0x10 "Owner" .u8 .ro (.k 1) with cls := .a },
  { ob 0x11 "MgmtRequest" .domain .wo (.k 0) with cls := .m, rng := .len 8 256, fn := .mgmtRequest },
  ob 0x12 "MgmtReply" .domain .ro (.k 0),
  ob 0x13 "MgmtState" .u8 .ro (.k 0),
  { ob 0x14 "MgmtTimeout" .u16 .rw (.k 10) with pers := true, cls := .m, rng := .btw 1 1000 } ] }

/-- Indices 0x3809 + 0x2 per unit, 6 units. -/
def ix06C_1 : IndexRow := { base := 0x3809, stride := 2, count := 6, subs := [
  ob 0x01 "CameraState" .u8 .ro (.k 0),
  ob 0x02 "RestartPending" .bool .ro (.k 0),
  ob 0x03 "EnableResult" .u8 .ro (.k 0),
  ob 0x04 "NextLine" .u32 .ro (.k 0),
  { ob 0x05 "EventCause" .u16 .rw (.k 0) with rng := .mask 0x1FF, kind := .cause },
  { ob 0x06 "LinesLost" .u16 .rw (.k 0) with kind := .trouble },
  { ob 0x07 "IntakeOverflows" .u16 .rw (.k 0) with kind := .trouble },
  { ob 0x08 "FormatErrors" .u16 .rw (.k 0) with kind := .trouble },
  { ob 0x09 "RegionRingFull" .u16 .rw (.k 0) with kind := .trouble },
  ob 0x0a "LinesReceived" .u64 .ro (.k 0),
  ob 0x0b "RegionEngineIndex" .u32 .ro (.k 0),
  { ob 0x0c "BridgeSilent" .u16 .rw (.k 0) with kind := .trouble },
  { ob 0x0d "DualOwner" .u16 .rw (.k 0) with kind := .trouble },
  ob 0x0e "BridgeFlags" .u32 .ro (.k 0) ] }

/-- Indices 0x3820 + 0x1 per unit, 24 units. -/
def ix06I_0 : IndexRow := { base := 0x3820, stride := 1, count := 24, subs := [
  { ob 0x01 "Camera" .u8 .rws (.k 255) with pers := true, cls := .m, rng := .leOr 5 0xFF, own := .inspection },
  { ob 0x02 "InspectOffset" .u32 .rws (.k 0) with pers := true, cls := .m, own := .inspection },
  { ob 0x03 "InspectLength" .u32 .rws (.k 0) with pers := true, cls := .m, own := .inspection },
  { ob 0x04 "ColumnFirst" .u16 .rws (.k 0) with pers := true, cls := .m, own := .inspection },
  { ob 0x05 "ColumnLast" .u16 .rws (.k 0) with pers := true, cls := .m, own := .inspection },
  { ob 0x06 "SymbolsExpected" .u8 .rws (.k 1) with pers := true, cls := .m, rng := .le 8, own := .inspection },
  { ob 0x07 "Symbologies" .u16 .rws (.k 1) with pers := true, cls := .m, rng := .mask 0x3F, own := .inspection },
  { ob 0x08 "MinGrade2D" .u8 .rws (.k 15) with pers := true, cls := .m, own := .inspection },
  { ob 0x09 "MinGradeLinear" .u8 .rws (.k 15) with pers := true, cls := .m, own := .inspection },
  { ob 0x0a "HealthBars" .u32 .rws (.k 0) with pers := true, cls := .m, rng := .mask 0xFFFFFF, own := .inspection },
  { ob 0x0b "Aperture" .u16 .rws (.k 254) with pers := true, cls := .m, rng := .btw 50 1000, own := .inspection } ] }

/-- Indices 0x4000. -/
def ix4000 : IndexRow := { base := 0x4000, stride := 1, count := 1, subs := [
  ob 0x01 "SerialState" .u8 .ro (.k 0),
  ob 0x02 "GrantFloor" .u64 .ro (.k 0),
  { ob 0x03 "EventEnable" .u8 .rw (.k 0) with rng := .mask 0xFF },
  { ob 0x04 "EventCause" .u8 .rw (.k 0) with kind := .cause },
  { ob 0x05 "NoSerial" .u16 .rw (.k 0) with kind := .trouble },
  { ob 0x06 "JournalFailures" .u16 .rw (.k 0) with kind := .trouble },
  { ob 0x07 "CommitRefusals" .u16 .rw (.k 0) with kind := .trouble },
  ob 0x08 "JournalSeq" .u32 .ro (.k 0),
  ob 0x09 "JournalBank" .u8 .ro (.k 0),
  ob 0x0a "JournalWrites" .u64 .ro (.k 0) ] }

/-- Indices 0x4001. -/
def ix4001 : IndexRow := { base := 0x4001, stride := 1, count := 1, subs := [
  { ob 0x00 "AllotmentGrant" .domain .wo (.k 0) with cls := .m, rng := .len 0 65536, fn := .grant } ] }

/-- Indices 0x4002. -/
def ix4002 : IndexRow := { base := 0x4002, stride := 1, count := 1, subs := [
  ob 0x01 "GrantResult" .u8 .ro (.k 0),
  ob 0x02 "GrantFailStep" .u8 .ro (.k 0) ] }

/-- Indices 0x4004. -/
def ix4004 : IndexRow := { base := 0x4004, stride := 1, count := 1, subs := [
  ob 0x01 "SelectProduct" .u32 .rw (.k 0),
  { ob 0x02 "SerialStatus" .u8 .ro (.k 0) with rd := .serialStatus },
  { ob 0x03 "SerialText" .vstring .ro (.k 0) with rd := .serialText },
  { ob 0x04 "SerialValue" .u64 .ro (.k 0) with rd := .serialValue },
  { ob 0x05 "SerialIndex" .u64 .ro (.k 0) with rd := .serialIndex } ] }

/-- Indices 0x4008. -/
def ix4008 : IndexRow := { base := 0x4008, stride := 1, count := 1, subs := [
  { ob 0x01 "LedgerRingBase" .u32 .rws (.k 0x21800000) with pers := true, rng := .step 64 0 0xFFFFFFC0, fn := .ledgerBase, own := .ledger },
  { ob 0x02 "LedgerRingSize" .u32 .rws (.k 0x100000) with pers := true, rng := .step 64 0x100000 0x4000000, fn := .ledgerSize, own := .ledger },
  { ob 0x03 "LedgerHostIndex" .u32 .rw (.k 0) with rng := .step 64 0 0xFFFFFFC0, fn := .ledgerHost },
  ob 0x04 "LedgerEngineIndex" .u32 .ro (.k 0),
  ob 0x05 "LedgerSeq" .u64 .ro (.k 0),
  { ob 0x06 "ChainHead" .octets .ro (.k 0) with size := 64 },
  ob 0x07 "Segment" .u32 .ro (.k 0),
  ob 0x08 "Uncovered" .u32 .ro (.k 0) ] }

/-- Indices 0x4009. -/
def ix4009 : IndexRow := { base := 0x4009, stride := 1, count := 1, subs := [
  { ob 0x01 "CpRingBase" .u32 .rws (.k 0x21900000) with pers := true, rng := .step 64 0 0xFFFFFFC0, fn := .cpBase, own := .ledger },
  { ob 0x02 "CpRingSize" .u32 .rws (.k 0x13000) with pers := true, rng := .step 4864 19456 311296, fn := .cpSize, own := .ledger },
  { ob 0x03 "CpHostIndex" .u32 .rw (.k 0) with rng := .step 4864 0 0xFFFFFFFF, fn := .cpHost },
  ob 0x04 "CpEngineIndex" .u32 .ro (.k 0),
  ob 0x05 "CheckpointSeq" .u64 .ro (.k 0),
  ob 0x06 "CheckpointPeriod" .u16 .cst (.k 0x3E8),
  ob 0x07 "CheckpointRecords" .u16 .cst (.k 0x1000),
  { ob 0x08 "SignTimeMax" .u32 .rw (.k 0) with rng := .only 0 } ] }

/-- Indices 0x4020 + 0x2 per unit, 32 units. -/
def ix07A_0 : IndexRow := { base := 0x4020, stride := 2, count := 32, subs := [
  { ob 0x01 "Retire" .u8 .wo (.k 0) with cls := .m, rng := .only 1, fn := .retire },
  { ob 0x02 "LowWater" .u32 .rw (.k 0x2710) with pers := true, cls := .m } ] }

/-- Indices 0x4021 + 0x2 per unit, 32 units. -/
def ix07A_1 : IndexRow := { base := 0x4021, stride := 2, count := 32, subs := [
  ob 0x01 "AllotState" .u8 .ro (.k 0),
  ob 0x02 "Mode" .u8 .ro (.k 0),
  ob 0x03 "GrantId" .u64 .ro (.k 0),
  ob 0x04 "NodeId" .u16 .ro (.k 0),
  ob 0x05 "Stream" .u16 .ro (.k 0),
  ob 0x06 "First" .u64 .ro (.k 0),
  ob 0x07 "Last" .u64 .ro (.k 0),
  ob 0x08 "Next" .u64 .ro (.k 0),
  ob 0x09 "ReserveMark" .u64 .ro (.k 0),
  ob 0x0a "LedgeredMark" .u64 .ro (.k 0),
  ob 0x0b "Printed" .u64 .ro (.k 0),
  ob 0x0c "Voided" .u64 .ro (.k 0),
  ob 0x0d "ReturnedFrom" .u64 .ro (.k 0),
  ob 0x0e "Prefix" .vstring .ro (.k 0),
  ob 0x0f "Digits" .u8 .ro (.k 0) ] }

/-- Indices 0x4800 + 0x4 per unit, 40 units. -/
def ix12X_0 : IndexRow := { base := 0x4800, stride := 4, count := 40, subs := [
  { ob 0x01 "Enable" .u8 .rw (.k 0) with rng := .le 2, fn := .laneEnable },
  { ob 0x02 "Rate" .u8 .rws (.k 1) with pers := true, rng := .le 2, own := .lane },
  { ob 0x03 "TxInvert" .bool .rws (.k 0) with pers := true, own := .lane },
  { ob 0x04 "RxInvert" .bool .rws (.k 0) with pers := true, own := .lane },
  { ob 0x05 "FfePre" .u8 .rw (.k 4) with pers := true, rng := .le 15, fn := .ffePre },
  { ob 0x06 "FfePost" .u8 .rw (.k 8) with pers := true, rng := .le 31, fn := .ffePost },
  { ob 0x07 "TxSwing" .u8 .rw (.k 4) with pers := true, rng := .le 7 },
  { ob 0x08 "EventEnable" .u16 .rw (.k 0) with rng := .mask 0xFF },
  { ob 0x09 "Retrain" .u8 .wo (.k 0) with rng := .only 1, fn := .laneRetrain },
  { ob 0x0a "AcquireLimit" .u16 .rw (.k 10) with pers := true, rng := .btw 3 1000 } ] }

/-- Indices 0x4801 + 0x4 per unit, 40 units. -/
def ix12X_1 : IndexRow := { base := 0x4801, stride := 4, count := 40, subs := [
  ob 0x01 "LaneState" .u8 .ro (.k 0),
  ob 0x02 "RestartPending" .bool .ro (.k 0),
  ob 0x03 "EnableResult" .u8 .ro (.k 0),
  { ob 0x04 "EventCause" .u16 .rw (.k 0) with rng := .mask 0xFF, kind := .cause },
  { ob 0x05 "CtlePeak" .u8 .ro (.k 8) with rd := .ctlePeak },
  { ob 0x06 "DfeTaps" .octets .ro (.k 0) with rd := .dfeTaps, size := 10 },
  ob 0x07 "AdaptFreeze" .bool .rw (.k 0),
  { ob 0x08 "EyeMargin" .u8 .ro (.k 0) with rd := .eyeMargin },
  ob 0x09 "RemoteReady" .bool .ro (.k 0) ] }

/-- Indices 0x4802 + 0x4 per unit, 40 units. -/
def ix12X_2 : IndexRow := { base := 0x4802, stride := 4, count := 40, subs := [
  { ob 0x01 "SyncHeaderErrors" .u16 .rw (.k 0) with kind := .trouble },
  { ob 0x02 "BlockErrors" .u16 .rw (.k 0) with kind := .trouble },
  { ob 0x03 "FrameAborts" .u16 .rw (.k 0) with kind := .trouble },
  { ob 0x04 "LinkDrops" .u16 .rw (.k 0) with kind := .trouble },
  { ob 0x05 "AcquireTimeouts" .u16 .rw (.k 0) with kind := .trouble } ] }

/-- Indices 0x4803 + 0x4 per unit, 40 units. -/
def ix12X_3 : IndexRow := { base := 0x4803, stride := 4, count := 40, subs := [
  { ob 0x01 "PrbsTxPattern" .u8 .rw (.k 0) with rng := .le 5, fn := .prbsPattern },
  { ob 0x02 "PrbsRxPattern" .u8 .rw (.k 0) with rng := .le 5, fn := .prbsPattern },
  ob 0x03 "PrbsInvert" .bool .rw (.k 0),
  ob 0x04 "PrbsLock" .bool .ro (.k 0),
  { ob 0x05 "PrbsErrors" .u32 .rw (.k 0) with rng := .only 0, fn := .prbsClear },
  { ob 0x06 "PrbsBits" .u64 .ro (.k 0) with rd := .prbsBits },
  { ob 0x07 "PrbsInject" .u8 .wo (.k 0) with rng := .only 1, fn := .prbsInject } ] }

/-- Indices 0x48A0. -/
def ix48A0 : IndexRow := { base := 0x48A0, stride := 1, count := 1, subs := [
  { ob 0x01 "SscEnable" .bool .rws (.k 0) with pers := true, own := .ssc },
  { ob 0x02 "SscDepth" .u8 .rws (.k 5) with pers := true, rng := .btw 1 5, own := .ssc },
  { ob 0x03 "SscFrequency" .u8 .rws (.k 31) with pers := true, rng := .btw 30 33, own := .ssc },
  ob 0x04 "PllLocked" .u8 .ro (.k 0),
  { ob 0x05 "RefclkOutEnable" .u8 .rw (.k 0) with pers := true, rng := .mask 0x3F },
  ob 0x06 "RefState" .u8 .ro (.k 0) ] }

/-- Indices 0x5000. -/
def ix5000 : IndexRow := { base := 0x5000, stride := 1, count := 1, subs := [
  ob 0x01 "EventEnable" .u8 .rw (.k 0),
  { ob 0x02 "EventCause" .u8 .rw (.k 0) with kind := .cause },
  { ob 0x03 "BankWaitAlarm" .u16 .rw (.k 240) with pers := true },
  { ob 0x04 "PortStallLimit" .u32 .rw (.k 0x8000) with pers := true, rng := .btw 1024 1048576 } ] }

/-- Indices 0x5001. -/
def ix5001 : IndexRow := { base := 0x5001, stride := 1, count := 1, subs := [
  { ob 0x01 "BankOwner" .u8 .rw (.list bankOwnerReset) with subTo := 0x20, pers := true, rng := .btw 1 14, fn := .bankOwner } ] }

/-- Indices 0x5002. -/
def ix5002 : IndexRow := { base := 0x5002, stride := 1, count := 1, subs := [
  { ob 0x01 "HarrowNoBorrow" .u16 .rw (.k 0) with subTo := 0x20, pers := true } ] }

/-- Indices 0x5003. -/
def ix5003 : IndexRow := { base := 0x5003, stride := 1, count := 1, subs := [
  { ob 0x01 "HarrowEnable" .u8 .rw (.k 1) with pers := true, rng := .le 1 },
  { ob 0x02 "HarrowPeriod" .u16 .rw (.k 20) with pers := true, rng := .btw 2 10000 },
  { ob 0x03 "HarrowState" .u8 .ro (.k 0) with rd := .harrowState },
  ob 0x04 "HarrowAddress" .u32 .ro (.k 0x20000000),
  ob 0x05 "HarrowPasses" .u32 .ro (.k 0),
  { ob 0x06 "HarrowFaults" .u16 .rw (.k 0) with kind := .trouble },
  ob 0x07 "HarrowFaultAddress" .u32 .ro (.k 0),
  { ob 0x08 "HarrowFaultXor" .octets .ro (.k 0) with size := 16 },
  { ob 0x09 "HarrowWaitMax" .u16 .rw (.k 0) with rng := .only 0 } ] }

/-- Indices 0x5004. -/
def ix5004 : IndexRow := { base := 0x5004, stride := 1, count := 1, subs := [
  { ob 0x01 "BankWaitMax" .u16 .rw (.k 0) with subTo := 0x20, rng := .only 0, fn := .bankWaitMax, rd := .bankWaitMax } ] }

/-- Indices 0x5010 + 0x1 per unit, 15 units. -/
def ix11N_0 : IndexRow := { base := 0x5010, stride := 1, count := 15, subs := [
  ob 0x01 "ActiveGeneration" .u8 .ro (.k 0),
  { ob 0x02 "ShadowTable" .domain .rw (.k 0) with rng := .len 512 512, fn := .shadowTable, rd := .shadowTable },
  { ob 0x03 "ActiveTable" .domain .ro (.k 0) with rd := .activeTable },
  { ob 0x04 "Outstanding" .u8 .ro (.k 0) with rd := .niOutstanding },
  { ob 0x05 "TimeoutErrors" .u16 .rw (.k 0) with kind := .trouble },
  { ob 0x06 "FencedErrors" .u16 .rw (.k 0) with kind := .trouble },
  { ob 0x07 "LpddrWindowBase" .u64 .rw (.k 0) with pers := true, fn := .lpddrWindow },
  { ob 0x08 "RouteErrors" .u16 .rw (.k 0) with kind := .trouble } ] }

/-- Indices 0x5020. -/
def ix5020 : IndexRow := { base := 0x5020, stride := 1, count := 1, subs := [
  ob 0x01 "Generation" .u8 .rw (.k 1),
  { ob 0x02 "Go" .u8 .wo (.k 0) with rng := .only 1, fn := .swapGo },
  ob 0x03 "SwapState" .u8 .ro (.k 0),
  ob 0x04 "RefusedNi" .u8 .ro (.k 255),
  ob 0x05 "RefusedEntry" .u8 .ro (.k 255) ] }

/-- Indices 0x5021. -/
def ix5021 : IndexRow := { base := 0x5021, stride := 1, count := 1, subs := [
  { ob 0x01 "RouterSelect" .u8 .rw (.k 0) with rng := .le 35 },
  { ob 0x02 "RouterWeights" .domain .rw (.k 0) with pers := true, rng := .len 64 64, fn := .routerWeights, rd := .routerWeights },
  { ob 0x03 "Go" .u8 .wo (.k 0) with rng := .only 1, fn := .routerGo },
  { ob 0x04 "ReconfigState" .u8 .ro (.k 0) with rd := .reconfigState },
  ob 0x05 "ReconfigTime" .u32 .ro (.k 0) ] }

/-- Indices 0x5030 + 0x1 per unit, 2 units. -/
def ix11L_0 : IndexRow := { base := 0x5030, stride := 1, count := 2, subs := [
  { ob 0x01 "DataRate" .u8 .rws (.k 0) with pers := true, rng := .le 1, own := .lpddr },
  { ob 0x02 "Ranks" .u8 .rws (.k 1) with pers := true, rng := .btw 1 2, own := .lpddr },
  { ob 0x03 "DieDensity" .u8 .rws (.k 16) with pers := true, rng := .oneOf [8, 12, 16, 24, 32], own := .lpddr },
  ob 0x04 "LpddrState" .u8 .ro (.k 0),
  ob 0x05 "TrainFailStep" .u8 .ro (.k 0),
  ob 0x06 "Size" .u64 .ro (.k 0),
  ob 0x07 "RefreshRate" .u8 .ro (.k 0),
  { ob 0x08 "TrainFailures" .u16 .rw (.k 0) with kind := .trouble },
  { ob 0x09 "WriteRefusals" .u16 .rw (.k 0) with kind := .trouble } ] }

/-- Indices 0x5032. -/
def ix5032 : IndexRow := { base := 0x5032, stride := 1, count := 1, subs := [
  { ob 0x00 "Interleave" .u8 .rws (.k 1) with pers := true, rng := .le 1, own := .interleave } ] }

/-- Indices 0x5033. -/
def ix5033 : IndexRow := { base := 0x5033, stride := 1, count := 1, subs := [
  ob 0x01 "LpddrEventEnable" .u8 .rw (.k 0),
  { ob 0x02 "LpddrEventCause" .u8 .rw (.k 0) with kind := .cause } ] }

/-- Indices 0x5800 + 0x2 per unit, 8 units. -/
def ix09P_0 : IndexRow := { base := 0x5800, stride := 2, count := 8, subs := [
  { ob 0x01 "Run" .u8 .rw (.list [1]) with rng := .le 1, fn := .coreRun },
  { ob 0x02 "StartAddress" .u32 .rws (.list [0xF0000000]) with pers := true, fn := .startAddress, own := .core },
  { ob 0x03 "Reset" .u8 .wo (.k 0) with rng := .only 1, fn := .coreReset },
  { ob 0x04 "BreakHalt" .u8 .rw (.k 0) with rng := .le 1 },
  { ob 0x05 "EventEnable" .u8 .rw (.k 0) with rng := .mask 0xF } ] }

/-- Indices 0x5801 + 0x2 per unit, 8 units. -/
def ix09P_1 : IndexRow := { base := 0x5801, stride := 2, count := 8, subs := [
  ob 0x01 "CoreState" .u8 .ro (.k 0),
  { ob 0x02 "EventCause" .u8 .rw (.k 0) with rng := .mask 0xF, kind := .cause },
  ob 0x03 "DoubleFaultCause" .u8 .ro (.k 0),
  ob 0x04 "DoubleFaultPc" .u32 .ro (.k 0),
  ob 0x05 "DoubleFaultMcause" .u8 .ro (.k 0),
  { ob 0x06 "Pc" .u32 .ro (.k 0) with rd := .corePc },
  { ob 0x07 "Cycles" .u64 .ro (.k 0) with rd := .coreCycles },
  { ob 0x08 "Retired" .u64 .ro (.k 0) with rd := .coreRetired },
  ob 0x09 "Overflows" .u64 .ro (.k 0),
  ob 0x0a "Underflows" .u64 .ro (.k 0),
  { ob 0x0b "MaxSpillDepth" .u16 .rw (.k 0) with rng := .only 0 },
  { ob 0x0c "XyCollisions" .u16 .rw (.k 0) with kind := .trouble },
  { ob 0x0d "AccessFaults" .u16 .rw (.k 0) with kind := .trouble } ] }

/-- Every index of the dictionary, rising. -/
def objIndices : List IndexRow := [
  ix1000, ix1008, ix1009, ix100A, ix1018, ix1020, ix1100, ix1101,
  ix1102, ix1200, ix1201, ix13E_0, ix13K_0, ix1230, ix1231, ix13Q_0,
  ix1300, ix1301, ix1302, ix1303, ix1304, ix1305, ix1306, ix1307,
  ix1400, ix1401, ix1402, ix1403, ix1404, ix1405, ix1406, ix1408,
  ix1409, ix140A, ix140B, ix140C, ix1500, ix1501, ix1502, ix1503,
  ix1510, ix1511, ix1512, ix1513, ix1514, ix1580, ix1581, ix1600,
  ix1601, ix1602, ix1603, ix1604, ix1605, ix1606, ix1607, ix1608,
  ix1610, ix1614, ix1618, ix1620i, ix1700, ix1701, ix1702, ix03B_0,
  ix03B_1, ix03B_2, ix03B_3, ix03B_4, ix03B_5, ix03B_6, ix03B_7, ix03B_8,
  ix03B_9, ix2600, ix2601, ix2602, ix2603, ix2604, ix2605, ix2606,
  ix2607, ix2608, ix2609, ix04Q_0, ix04Q_1, ix05E_0, ix05G_0, ix05T_0,
  ix05B_0, ix05B_1, ix05B_2, ix05B_3, ix05B_4, ix05B_5, ix05B_6, ix05B_7,
  ix3200, ix3201, ix3202, ix05J_0, ix05J_1, ix3800, ix3801, ix3802,
  ix3803, ix06C_0, ix06C_1, ix06I_0, ix4000, ix4001, ix4002, ix4004,
  ix4008, ix4009, ix07A_0, ix07A_1, ix12X_0, ix12X_1, ix12X_2, ix12X_3,
  ix48A0, ix5000, ix5001, ix5002, ix5003, ix5004, ix11N_0, ix5020,
  ix5021, ix11L_0, ix5032, ix5033, ix09P_0, ix09P_1 ]

/-- The unit that an index means in a row. -/
def rowUnit (r : IndexRow) (idx : Nat) : Option Nat :=
  if idx < r.base then none
  else
    let o := idx - r.base
    if o % r.stride == 0 && decide (o / r.stride < r.count) then some (o / r.stride) else none

/-- The row and the unit of an index. -/
def findIndex : List IndexRow → Nat → Option (IndexRow × Nat)
  | [], _ => none
  | r :: rs, idx =>
    match rowUnit r idx with
    | some u => some (r, u)
    | none => findIndex rs idx

/-- Whether an entry covers a sub-index. -/
def descHas (e : ObjDesc) (sub : Nat) : Bool :=
  if e.subTo == 0 then e.sub == sub
  else decide (e.sub ≤ sub) && decide (sub ≤ e.subTo) && (sub - e.sub) % e.step == 0

/-- The entry of a sub-index. -/
def findSub (l : List ObjDesc) (sub : Nat) : Option ObjDesc := l.find? (fun e => descHas e sub)

/-- The default of an entry at a unit and a place in its run. -/
def dfltAt (x : ObjDflt) (unit place : Nat) : Nat :=
  match x with
  | .k v => v
  | .unit a p => a + unit * p
  | .list vs => vs.getD (unit + place) 0

/-- The highest sub-index of a list of objects. -/
def highestSub (l : List ObjDesc) : Nat :=
  l.foldl (fun m e => max m (max e.sub e.subTo)) 0

/-- An object resolved from index and sub-index. -/
structure ObjRef where
  idx : Nat
  sub : Nat
  desc : ObjDesc
  unit : Nat
  place : Nat
  deriving DecidableEq, Repr

/-- The last event of the routes and counts is 319, so their third index ends at sub-index 0x40 (R290). -/
def subPresent (idx sub : Nat) : Bool :=
  !((idx == 0x1612 || idx == 0x1616) && decide (0x40 < sub))

/-- The highest sub-index in use of an index (R362). -/
def highestOf (idx : Nat) (l : List ObjDesc) : Nat := if subPresent idx (highestSub l) then highestSub l else 0x40

/-- The object that index and sub-index name: NO_OBJECT, NO_SUB or the object (R362, steps 1 and 2 of R364). -/
def resolveObj (idx sub : Nat) : Except Status ObjRef :=
  match findIndex objIndices idx with
  | none => .error .noObject
  | some (r, u) =>
    match findSub r.subs sub with
    | some e =>
      if subPresent idx sub then .ok { idx := idx, sub := sub, desc := e, unit := u, place := (sub - e.sub) / e.step }
      else .error .noSub
    | none =>
      if sub == 0 then
        .ok { idx := idx, sub := 0, desc := ob 0 "HighestSub" .u8 .cst (.k (highestOf idx r.subs)), unit := 0, place := 0 }
      else .error .noSub

/-- The key under which the state holds an object's register. -/
def objKey (idx sub : Nat) : Nat := idx * 256 + sub

/-- The default of an object's register; 0 where no object is. -/
def objDefault (idx sub : Nat) : Nat :=
  match resolveObj idx sub with
  | .ok o =>
    if idx % 0x40 == 0 && sub == 2 && decide (0x2000 ≤ idx) && decide (idx < 0x2600) then
      (if o.unit % 6 == 5 then 0xFF else o.unit)
    else dfltAt o.desc.dflt o.unit o.place
  | .error _ => 0

/-- Whether a value lies in a range of a unit's object; `signedWidth` is the width of a two's complement type, or 0. -/
def rngOk (r : ObjRng) (unit signedWidth v len : Nat) : Bool :=
  match r with
  | .any => true
  | .only x => v == x
  | .le hi => decide (v ≤ hi)
  | .leFrom u hi => decide (v ≤ if unit < u then 0 else hi)
  | .leOr hi x => decide (v ≤ hi) || v == x
  | .btw lo hi => decide (lo ≤ v) && decide (v ≤ hi)
  | .sbtw lo hi => decide (lo ≤ signedOf signedWidth v) && decide (signedOf signedWidth v ≤ hi)
  | .oneOf vs => vs.contains v
  | .mask m => clearBits v m == 0
  | .step u lo hi => v % u == 0 && decide (lo ≤ v) && decide (v ≤ hi)
  | .stepOr0 u lo hi => v == 0 || (v % u == 0 && decide (lo ≤ v) && decide (v ≤ hi))
  | .len lo hi => decide (lo ≤ len) && decide (len ≤ hi)

end Sys2Proof.Machine
end

