-- ==== Sys2Proof/Machine/PairState.lean ====
section
/-! DEFINITION. State of the pair agent that no dictionary object holds.
Spec: 08_pair_operation.md R218 to R248. -/

set_option Elab.async false

namespace Sys2Proof.Machine

/-- An ordered frame that awaits its answer (R225). -/
structure Ordered where
  seq : Nat
  kind : Nat
  payload : List Byte
  since : Nat
  deriving DecidableEq, Repr

/-- What waits for its turn at the dictionary (R366): a write of one object; a read of one; a core's load from the window; an SDO upload from an offset; or the writes of a receive PDO, object and value (R390). -/
inductive AccessKind
  | write | read | load | upload (off max : Nat) | pdo (ws : List (Nat × Nat × List Byte))
  deriving DecidableEq, Repr

/-- A dictionary write that waits (R196, R232, R366): the ordered number of its last MIRROR_WRITE frame, 0 where it has none, who wrote, whether the write came by a command of its own rather than through a port's request, the object, the value, and the status with which the standby has acknowledged it. -/
structure MirrorWait where
  seq : Nat
  src : Source
  direct : Bool
  idx : Nat
  sub : Nat
  value : ObjVal
  acked : Option Nat := none
  kind : AccessKind := .write
  group : Option Nat := none
  deriving DecidableEq, Repr

/-- The pair agent. -/
structure PairState where
  /-- The last sequence number sent and the last processed, with its answer (R225). -/
  txSeq : Nat := 0
  rxSeq : Nat := 0
  answers : Tab (Bool × Nat) := []
  unanswered : List Ordered := []
  mirror : List MirrorWait := []
  /-- Mirrored writes whose answer has come, or which the engine now applies alone (R232). -/
  ready : List MirrorWait := []
  /-- Chunks of a mirrored DOMAIN value received so far: index, sub-index, bytes (R224). -/
  assembly : Option (Nat × Nat × List Byte) := none
  heartbeats : Nat := 0
  /-- The last HEARTBEAT received and sent on each lane, and the last valid frame on any (R225, R226). -/
  heardAt : Tab Nat := []
  sentAt : Tab Nat := []
  frameAt : Nat := 0
  /-- The last HEARTBEAT of role PRIMARY or SOLO, and the last HELLO sent (R224, R239). -/
  ownerBeatAt : Option Nat := none
  helloAt : Nat := 0
  /-- The watchdog (R219, R220). -/
  firmwareKickAt : Nat := 0
  expired : Bool := false
  /-- The partner of the last HELLO: claim and whether silicon and firmware are equal (R228). -/
  partnerStandby : Bool := false
  /-- Entries of a MAP_SWITCH change received so far (R236). -/
  mapEntries : List (Nat × Nat) := []
  /-- Digests that await the other side, by product, kind and side (R238). -/
  digests : Tab (List Byte) := []
  /-- Products created after the partner last entered STANDBY have ids from here on (R238). -/
  compareFrom : Nat := 0
  /-- Resync (R243 to R248): start, latched positions, paired marks, dirty blocks, the capo hold and the snapshot. -/
  resyncAt : Nat := 0
  latched : List (Nat × Nat × Nat) := []
  marks : Tab (Int × Nat) := []
  aligned : List Nat := []
  snapshotLen : Nat := 0
  /-- COMMIT and RESERVE frames received since the cut: type and payload (R243). -/
  sinceCut : List (Nat × List Byte) := []
  holdAt : Nat := 0
  cut : List Byte := []
  /-- When the CUT was sent or processed; when the firmware last wrote FirmwareState (R246, R247). -/
  cutAt : Nat := 0
  firmwareAt : Option Nat := none
  /-- Field memory and lookup-table pages as the last PRECOPY pass sent them (R243). -/
  precopied : Option (Tab Nat) := none
  /-- The chunks of a PRECOPY pass received so far, by offset (R243). -/
  passChunks : Tab (List Byte) := []
  /-- When ALIVE_IN and ROLE_IN were first sampled low, none while high, and whether SidebandFaults has counted the low that lasts (R221, R222, R239). -/
  aliveLow : Option Nat := none
  roleLow : Option Nat := none
  sideCounted : Bool := false
  deriving DecidableEq, Repr

end Sys2Proof.Machine
end

