-- ==== Sys2Proof/Machine/PlantState.lean ====
section
/-! DEFINITION. State of the plant network, of persistence, of power and of boot and security that no dictionary object holds.
Spec: 13_object_dictionary.md R366 to R394; 14_power_and_clocks.md R395 to R413; 15_boot_and_security.md R414 to R436; 16_faults_and_repair.md R438. -/

set_option Elab.async false

namespace Sys2Proof.Machine

/-- The one long write that is assembled (R372): who sends it, the sender's node of an Opral write, the object, the bytes so far, and when the last came. -/
structure Assembly where
  src : Source
  node : Nat
  idx : Nat
  sub : Nat
  bytes : List Byte
  lastAt : Nat
  deriving DecidableEq, Repr

/-- A value captured for a segmented read (R385, R389): for whom, the object, the value, and when it was last used. -/
structure Capture where
  src : Source
  node : Nat
  idx : Nat
  sub : Nat
  bytes : List Byte
  lastAt : Nat
  deriving DecidableEq, Repr

/-- A domain transfer under way (R371, R372): its direction, the registers as they stood at its start, and the value of a READ or the status that refuses it. -/
structure DomainJob where
  write : Bool
  object : Nat
  buffer : Nat
  length : Nat
  value : List Byte := []
  failed : Option Status := none
  deriving DecidableEq, Repr

/-- The domain transfer port of a core (R371). -/
structure DomainPort where
  object : Nat := 0
  buffer : Nat := 0
  length : Nat := 0
  status : Nat := 0
  count : Nat := 0
  job : Option DomainJob := none
  deriving DecidableEq, Repr

/-- A stored response of an Ethernet port (R386). -/
structure Reply where
  ip : Nat
  node : Nat
  seq : Nat
  bytes : List Byte
  deriving DecidableEq, Repr

/-- A request in progress on an Ethernet port: its sender, its header, the ops not yet applied, and the response ops so far (R384). -/
structure Request where
  ip : Nat
  port : Nat
  node : Nat
  seq : Nat
  broadcast : Bool
  count : Nat
  ops : List Byte
  resp : List Byte
  deriving DecidableEq, Repr

/-- An Ethernet port: received datagrams that wait with their sender's address and UDP port, the request whose write waits for the partner, and the stored responses (R381, R386). -/
structure EthPort where
  buffer : List (Nat × Nat × List Byte) := []
  request : Option Request := none
  replies : List Reply := []
  deriving DecidableEq, Repr

/-- A CAN FD port: its last heartbeat (R388). -/
structure CanPort where
  heartbeatAt : Nat := 0
  deriving DecidableEq, Repr

/-- A master known from its Announce messages (R392): its port identity, the engine's port that hears it, the values that the best master clock algorithm compares, and when it was last heard. -/
structure Master where
  id : Nat
  port : Nat
  gm : Nat
  priority1 : Nat
  quality : Nat
  priority2 : Nat
  steps : Nat
  heardAt : Nat
  deriving DecidableEq, Repr

/-- The PTP port (R392, R393): the masters heard, the one selected, a two-step Sync that waits for its Follow_Up, the last Sync's times, a Delay_Req in flight, the Syncs in a row below 1 µs, and whether a lock has been reached. -/
structure PtpState where
  masters : List Master := []
  selected : Option Nat := none
  pendingSync : Option (Nat × Nat) := none
  t1 : Nat := 0
  t2 : Nat := 0
  syncAt : Nat := 0
  delaySeq : Nat := 0
  delayPending : Option (Nat × Nat) := none
  delayAt : Nat := 0
  streak : Nat := 0
  locked : Bool := false
  deriving DecidableEq, Repr

/-- The plant network and the dictionary's ports. -/
structure PlantState where
  assembly : Option Assembly := none
  captures : List Capture := []
  /-- Captured low-word reads and held high words of 64-bit objects (R369): core, object key, value. -/
  captured : List (Nat × Nat × Nat) := []
  heldHigh : List (Nat × Nat × Nat) := []
  domains : Tab DomainPort := []
  eth : Tab EthPort := []
  can : Tab CanPort := []
  /-- When each PDO last ran, and SYNCs received since (R390). -/
  pdoAt : Tab Nat := []
  pdoSync : Tab Nat := []
  ptp : PtpState := {}
  /-- Writes that wait behind a write of their source or to their object (R366), and grants whose journal write has not ended (R196). -/
  blocked : List MirrorWait := []
  granting : List MirrorWait := []
  /-- PPS_OUT is high since (R394). -/
  ppsHigh : Option Nat := none
  ppsSecond : Nat := 0
  deriving DecidableEq, Repr

/-- The NVM regions beside the journal, the key store and the tuning cache (R377), and the boot flash by region (R417). The bytes of a bank or half are empty while nothing has been written to it. -/
structure NvmState where
  paramA : List Byte := []
  paramB : List Byte := []
  /-- A store in progress: its image, and whether a P object had been written since the last store before it (R373, R434). -/
  storing : Option (List Byte × Bool) := none
  snap0 : List Byte := []
  snap1 : List Byte := []
  snapping : Option (List Byte) := none
  flash : Tab (List Byte) := []
  /-- The rollback floor of firmware and the floor of key updates, in the key store (R423, R432). -/
  firmwareFloor : Nat := 0
  keyFloor : Nat := 0
  deriving DecidableEq, Repr

/-- What an orderly shutdown of SYS leads to (R396, R404, R411). -/
inductive AfterShutdown
  | powerFail | sleep | deepSleep | reset
  deriving DecidableEq, Repr

/-- An enabled trigger as a low-power mode was entered (R129, R405): its number, its Input and Edge, the encoder of its line generator with its position and HighWater, its Lockout, and the position of its last accepted edge. -/
structure WakeTrigger where
  trigger : Nat
  input : Nat
  edge : Nat
  enc : Nat
  pos : Nat
  high : Nat
  lockout : Nat
  accepted : Option Nat
  deriving DecidableEq, Repr

/-- Power and clocks. -/
structure PowerState where
  /-- The state that a latched stop or a shutdown ends in, by domain: 0 OFF, 2 RETAINED (R401). -/
  stopTo : Tab Nat := []
  /-- Field domains whose start is from RETAINED. -/
  fromRetained : List Nat := []
  /-- Entry to LINE_STOP under way since (R404). -/
  lineStopAt : Option Nat := none
  /-- What follows the shutdown of SYS that runs. -/
  shutdown : Option AfterShutdown := none
  /-- LPDDR5 interfaces that stay ON through a POWER_FAIL shutdown (R396). -/
  keptOn : List Nat := []
  /-- 2 in SLEEP, 3 in DEEP_SLEEP; what the wake sources need there and in LINE_STOP (R405). -/
  asleep : Nat := 0
  entryPositions : Tab Nat := []
  enteredAt : Nat := 0
  wakeEnable : Nat := 0
  wakeCounts : Nat := 0
  wakeAfter : Nat := 0
  wakeTriggers : List WakeTrigger := []
  /-- VinWarnLevel as the power die holds it while SYS is off (R395). -/
  vinWarn : Nat := 10000
  /-- The mode of the 1.8 V output while SYS is off (R397). -/
  boardMode : Nat := 1
  /-- PORST_L is low, and has been for 10 µs where VIN is present (R414, R458). -/
  porstLow : Bool := false
  /-- Held until PORST_L after a thermal shutdown (R411). -/
  thermalHeld : Bool := false
  /-- VIN is present (R395), and reset has been released and boot runs (R414). -/
  vinUp : Bool := false
  booting : Bool := false
  releasedAt : Nat := 0
  /-- RESET_OUT_L is high, and when SYS entered ON (R412). -/
  resetOut : Bool := false
  sysOnAt : Nat := 0
  /-- Furrows whose cells' clock has stopped, 8 × field + furrow, with the ACLK in which it did (R410). -/
  gated : List (Nat × Nat) := []
  /-- Board supply outputs held off by their current limit (R397): 0 and 1. -/
  tripped : List Nat := []
  /-- REFCLK_IN is lost, as the monitor on the AON RC finds (R347, R409). -/
  refGone : Bool := false
  /-- LFXO has stopped (R409). -/
  lfxoStopped : Bool := false
  rcTrimAt : Nat := 0
  tempAt : Nat := 0
  /-- When LINE_STOP stopped the ACLK and NCLK PLLs, and for how long they have stood still before (R404). -/
  clockStopAt : Option Nat := none
  clockLost : Nat := 0
  deriving DecidableEq, Repr

/-- A core's mailbox (R427). -/
structure Mailbox where
  command : Nat := 0
  status : Nat := 0
  source : Nat := 0
  length : Nat := 0
  dest : Nat := 0
  outLength : Nat := 0
  key : Nat := 0
  sig : Nat := 0
  deriving DecidableEq, Repr

/-- A request that an engine of the security unit serves until a command of its own ends it: an attestation report's signature, or a core's mailbox (R426). -/
inductive SecRequest
  | attest | mailbox (n : Nat)
  deriving DecidableEq, Repr

/-- Boot and the security unit. -/
structure SecurityState where
  mailboxes : Tab Mailbox := []
  /-- The requests of the SHA3 and SHAKE engine and of the ML-DSA-87 engine, the one that is served first (R426). -/
  hashing : List SecRequest := []
  signing : List SecRequest := []
  /-- When the ML-DSA-87 engine began, or began again, the request that it serves (R426). -/
  signingSince : Nat := 0
  /-- When the SHA3 and SHAKE engine began the request that it serves (R426). -/
  hashingSince : Nat := 0
  /-- Writes of an image or a key update whose check waits for the engines, each with when it was asked for and whether the key store takes it (R426). -/
  checks : List (MirrorWait × Nat × Bool) := []
  /-- The report under way or last made (R434). -/
  attesting : List Byte := []
  report : List Byte := []
  /-- A P object has been written since the last store or boot (R434). -/
  paramsDirty : Bool := false
  /-- A firmware update under way: the image (R424). -/
  updating : Option (List Byte) := none
  /-- The image that boot runs, between its checks and the start of the cores. -/
  image : List Byte := []
  deriving DecidableEq, Repr

/-- The instructions of the test access port (R460). -/
inductive TapInstr
  | idcode | bypass | samplePreload | extest
  deriving DecidableEq, Repr

/-- TAP state: the instruction, the boundary-scan register's update stage, that EXTEST drives, and what it last captured (R460). -/
structure TapState where
  instr : TapInstr := .idcode
  boundary : List Bool := []
  captured : List Bool := []
  deriving DecidableEq, Repr

end Sys2Proof.Machine
end

