-- ==== Sys2Proof/Machine/PrintState.lean ====
section
/-! DEFINITION. State of the print and verification paths that no dictionary object holds: encoders, line generators, triggers, product records, bars, gates and cameras.
Spec: 05_print_path.md R118 to R167; 06_verification_path.md R168 to R194. -/

set_option Elab.async false

namespace Sys2Proof.Machine

/-- What the synchronisers, the filters and the counters of the print path have in hand, each with the ACLK in which it takes effect (R20, R118, R129). -/
inductive PipeKind
  /-- A new level of ENCe_A, ENCe_B or ENCe_Z. -/
  | encA (e : Nat) (level : Bool)
  | encB (e : Nat) (level : Bool)
  | encZ (e : Nat) (level : Bool)
  /-- A new level of a trigger's input. -/
  | trig (t : Nat) (level : Bool)
  /-- The look of an encoder's line generators at a position that it has reached. -/
  | strobe (e : Nat) (pos : Nat)
  deriving DecidableEq, Repr

structure PipeItem where
  due : Nat
  kind : PipeKind
  deriving DecidableEq, Repr

/-- An encoder: the levels of its balls after the filter, a stop latched in STARTING, the AON counter of R124 while it counts, the times of the counts of the last ms, and 1 + the ACLK of the last count with the position before it, and of the count before that. -/
structure Encoder where
  a : Bool := false
  b : Bool := false
  z : Bool := false
  stopLatched : Bool := false
  aon : Option Nat := none
  aonMode : Nat := 0
  aonInvert : Nat := 0
  times : List Nat := []
  countAt : Nat := 0
  before : Nat := 0
  countAt' : Nat := 0
  before' : Nat := 0
  deriving DecidableEq, Repr

/-- A window of a product on a bar (R135): its first line, its lines, and whether its last line has been strobed. -/
structure Window where
  bar : Nat
  start : Nat
  len : Nat
  finished : Bool := false
  deriving DecidableEq, Repr

/-- A product record (R130) with its windows, its region (R180), whether a line of it has been launched (R211), its grade, and the line packets of the RENDER digest (R237). -/
structure Product where
  id : Nat
  lane : Nat
  trigger : Nat
  enc : Nat
  gen : Nat
  pos : Nat
  line : Nat
  due : Nat
  gate : Nat
  duePos : Nat
  retirePos : Nat
  printStatus : Nat := 0
  verifyStatus : Nat := 0
  serialRef : Nat := 0xFFFFFFFF
  done : Nat := 0
  incomplete : Nat := 0
  verdict : Nat := 0
  forceReject : Bool := false
  decided : Bool := false
  rejected : Bool := false
  windows : List Window := []
  launched : Bool := false
  grade : Nat := 0xFF
  camera : Nat := 0xFF
  firstLine : Nat := 0
  lastLine : Nat := 0
  imagedAt : Nat := 0
  createdAt : Nat := 0
  packets : Tab (List Byte) := []
  renderSent : Bool := false
  deriving DecidableEq, Repr

/-- A fire line between its header and the transmitter (R20): when its frame enters, the Owner flag of its header, and the products of its windows, those whose window ends on it apart. -/
structure Launch where
  line : Nat
  payload : List Byte
  blank : Bool
  enterAt : Nat
  owner : Nat
  products : List Nat := []
  last : List Nat := []
  deriving DecidableEq, Repr

/-- A change that the nozzle-map manager has taken (R143): an entry written, a head report, or a failure found by verification. -/
inductive MapChange
  | entry (nozzle value : Nat)
  | report (nozzle state : Nat)
  | failed (nozzle : Nat)
  deriving DecidableEq, Repr

/-- A bar: its hold buffer, the lines owed to the skip debt, the launches in progress, its map changes, its management sequence and its timers. -/
structure Bar where
  hold : Nat := 0
  buf : List Byte := []
  owed : List Nat := []
  launches : List Launch := []
  stopLatched : Bool := false
  changes : List MapChange := []
  mgmtSeq : Nat := 0
  silentFrom : Nat := 0
  statusAt : Option Nat := none
  recent : List (Nat × Nat) := []
  clean : Nat := 0
  deriving DecidableEq, Repr

/-- A reject pulse (R166): when it starts, and the position or the time that ends it, in the time of ACLK. -/
structure Pulse where
  start : Nat
  endPos : Option Nat := none
  endAt : Nat := 0
  deriving DecidableEq, Repr

/-- A reject gate: its due entries in order of position, an untracked one with no product, its pulses, and 1 + the ACLK in which the last of them to end did. -/
structure Gate where
  entries : List (Nat × Option Nat) := []
  pulses : List Pulse := []
  endedIn : Nat := 0
  deriving DecidableEq, Repr

/-- A history write that may still be refused (R324): the line, when it was asked for, and what its place held before. -/
structure HistoryWrite where
  line : Nat
  since : Nat
  oldLine : Option Nat
  oldBytes : List Byte
  deriving DecidableEq, Repr

/-- A camera: the reorder buffer, lines lost through overflow or timeout, the highest line seen on each lane, strobes whose line is not yet written, the items of the line being written and whether it came from the buffer, the lines history holds, and writes of history that may still be refused. -/
structure Camera where
  held : List (Nat × List Byte) := []
  /-- Lines that a resync replays from history ahead of those held (R246). -/
  replay : List (Nat × List Byte) := []
  overflowed : List Nat := []
  expired : List Nat := []
  seenEven : Option Nat := none
  seenOdd : Option Nat := none
  strobes : List (Nat × Nat) := []
  items : List (Nat × Bool) := []
  writing : Bool := false
  writingHeld : Bool := false
  history : Tab Nat := []
  waiting : List HistoryWrite := []
  stopLatched : Bool := false
  mgmtSeq : Nat := 0
  silentFrom : Nat := 0
  deriving DecidableEq, Repr

/-- What an archive record is made from (R194), kept until it is copied. -/
structure ArchiveJob where
  product : Nat
  camera : Nat
  verdict : Nat
  firstLine : Nat
  lastLine : Nat
  pos : Nat
  ptp : Nat
  since : Nat
  deriving DecidableEq, Repr

/-- The print and verification paths. -/
structure PrintState where
  pipe : List PipeItem := []
  encoders : Tab Encoder := []
  /-- The next line k of each line generator (R126). -/
  nextLine : Tab Int := []
  /-- The times of each generator's strobes of the last ms. -/
  strobeTimes : Tab (List Nat) := []
  /-- The filtered level of a ball at a trigger, by 8 times the trigger plus its Input: 1 high, 0 low, none before its first edge (R129). -/
  trigLevel : Tab Nat := []
  /-- The position of each trigger's last accepted edge before offset (R129). -/
  accepted : Tab Nat := []
  lastId : Nat := 0
  /-- The live records, oldest first. -/
  products : List Product := []
  bars : Tab Bar := []
  gates : Tab Gate := []
  cameras : Tab Camera := []
  /-- 1 + the ACLK of the last retirement, and the records retired in it, whose slots are free from the next (R133). -/
  retiredAt : Nat := 0
  retiredNow : Nat := 0
  /-- Archive work that waits. -/
  archive : List ArchiveJob := []
  deriving DecidableEq, Repr

end Sys2Proof.Machine
end

