-- ==== Sys2Proof/Machine/QueueState.lean ====
section
/-! DEFINITION. The state of a stream queue.
Spec: 04_stream_queues.md R92 to R97, R106, R109, R115. -/

set_option Elab.async false

namespace Sys2Proof.Machine

/-- A complete word: 128 bits of data, the bytes that hold items, whether it ends a packet, and the NCLK from which it is readable (R93, R107). -/
structure QWord where
  data : Nat := 0
  valid : Nat := 16
  last : Bool := false
  readable : Nat := 0
  deriving DecidableEq, Repr

/-- A stream queue (R106). `spill` lists what the engine keeps of the words in the spill region, whose data lie in bank memory from `spillRead` on; `partBytes` and `partData` are the partly filled word; `rest` is the unpacked remainder of a word in an input edge port, with its last token's end mark; `flushing` is 1 + the NCLK f of a flush; `dmaPos` counts the items (input) or words (output) of the present DMA record that are written. -/
structure Queue where
  head : List QWord := []
  spill : List QWord := []
  spillRead : Nat := 0
  spillWrite : Nat := 0
  tail : List QWord := []
  partData : Nat := 0
  partBytes : Nat := 0
  flushSeen : Bool := false
  dmaFlushSeen : Bool := false
  latch : Nat := 0
  rest : List (Word × Bool) := []
  portAt : Nat := 0
  flushing : Nat := 0
  stopLatched : Bool := false
  dmaStopped : Bool := false
  dmaPos : Nat := 0
  /-- A spill write of the oldest tail word, and a spill read of the oldest spilled word, has been issued to its bank (R108). -/
  writing : Bool := false
  reading : Bool := false
  deriving DecidableEq, Repr

end Sys2Proof.Machine
end

