-- ==== Sys2Proof/Machine/SchedState.lean ====
section
/-! DEFINITION. State of the event concentrator and the task scheduler that no dictionary object holds.
Spec: 10_events_and_scheduler.md R285 to R307. -/

set_option Elab.async false

namespace Sys2Proof.Machine

/-- A task slot (R294): state 0 FREE, 1 BLOCKED, 2 READY, 3 OFFERED, 4 RUNNING, 5 DELAYED, 6 SUSPENDED; `ran` is the core it last ran on and `bound` the bind of R298 to it. -/
structure Task where
  st : Nat := 0
  prio : Nat := 31
  affinity : Nat := 0xFF
  postWakes : Bool := false
  sticky : Bool := true
  noMigrate : Bool := false
  preempted : Bool := false
  bound : Bool := false
  posts : Nat := 0
  ran : Nat := 0xFF
  list : Nat := 0xFF
  due : Nat := 0
  activations : Nat := 0
  migrations : Nat := 0
  lastAccept : Nat := 0
  deriving DecidableEq, Repr

/-- An offer to a core (R299): the task and the NCLK in which it was placed. -/
structure Offer where
  task : Nat
  since : Nat
  deriving DecidableEq, Repr

/-- The concentrator and the scheduler. -/
structure SchedState where
  tasks : Tab Task := []
  /-- The ready list of each priority and the delay lists, head first (R296, R302). -/
  ready : Tab (List Nat) := []
  delayed : Tab (List Nat) := []
  /-- The offer and the running task of each core. -/
  offers : Tab Offer := []
  running : Tab Nat := []
  /-- READY tasks with no eligible core (R298). -/
  unrunnable : List Nat := []
  /-- The inbox of each core, oldest first (R291). -/
  inbox : Tab (List Nat) := []
  /-- The trace, oldest first, and the entries still to record after the trigger (R306, R307). -/
  trace : List Nat := []
  traceLeft : Option Nat := none
  /-- When the last emergency message of each event was sent, and each port's count (R292, R387). -/
  emcyAt : Tab Nat := []
  emcySent : Tab Nat := []
  /-- The NCLK in which SYS entered ON (R306), and 1 + the NCLK of the last grant, of the last offer and of the last task that fell due (R287, R298, R302). -/
  clockFrom : Nat := 0
  grantAt : Nat := 0
  offerAt : Nat := 0
  dueAt : Nat := 0
  /-- Of an event whose raise was merged: 1 + the last NCLK with a merge, the merges in it, whether its CoalescedMap bit was set before, and whether a raise has found EventsCoalesced full since (R285). -/
  merged : Tab (Nat × Nat × Bool × Bool) := []
  deriving DecidableEq, Repr

end Sys2Proof.Machine
end

