-- ==== Sys2Proof/Machine/SerialState.lean ====
section
/-! DEFINITION. State of the serial unit that no dictionary object holds: serial entries, value buffers, grants, the journal banks and the checkpoint in progress.
Spec: 07_serials_and_ledger.md R195 to R216. -/

set_option Elab.async false

namespace Sys2Proof.Machine

/-- A serial entry (R201, R202): 1 ALLOCATED, 2 COMMITTED, 3 REFUSED; with what its record and its text take from the grant it came from. -/
structure SerialEntry where
  product : Nat
  slot : Nat
  n : Nat
  v : Nat
  state : Nat
  viaPartner : Bool := false
  solo : Bool := false
  grantId : Nat := 0
  stream : Nat := 0
  digits : Nat := 0
  lead : List Byte := []
  deriving DecidableEq, Repr

/-- A slot entry of a journal bank (R206). -/
structure JournalSlot where
  state : Nat := 0
  grantId : Nat := 0
  reserve : Nat := 0
  ledgered : Nat := 0
  returnedFrom : Nat := 0
  printed : Nat := 0
  voided : Nat := 0
  deriving DecidableEq, Repr

/-- The content of a journal bank (R206). -/
structure JournalImage where
  clean : Bool := false
  seq : Nat := 0
  nodeId : Nat := 0
  floor : Nat := 0
  lastSeq : Nat := 0
  checkpointSeq : Nat := 0
  segment : Nat := 0
  head : List Byte := []
  slots : Tab JournalSlot := []
  grants : Tab (List Byte) := []
  deriving DecidableEq, Repr

/-- A journal bank in NVM: erased, not valid, or a valid image. -/
inductive JournalBank
  | erased
  | bad
  | image (i : JournalImage)
  deriving DecidableEq, Repr

/-- Who an answer waits for when a journal write ends. -/
inductive GrantKind
  | allot | reset
  deriving DecidableEq, Repr

/-- A grant that has passed its checks and whose journal write has not ended (R196, R209). -/
structure PendingGrant where
  kind : GrantKind
  slot : Nat
  grant : List Byte
  deriving DecidableEq, Repr

/-- A checkpoint between its start and its publication (R214): what it covers, its signature, and what it ends: 1 recovery, 2 takeover, and whether it is that of a shutdown. -/
structure Checkpoint where
  firstSeq : Nat
  lastSeq : Nat
  number : Nat
  segment : Nat
  head : List Byte
  prevHead : List Byte
  ptp : Nat
  ledgered : List Nat
  signature : List Byte := []
  journalled : Bool := false
  resumes : Nat := 0
  closes : Bool := false
  deriving DecidableEq, Repr

/-- A ledger record before it is written (R210): its bytes without number and time, the slot and index it settles, and the head it links to where it starts a segment. -/
structure LedgerItem where
  body : List Byte
  serial : Option (Nat × Nat) := none
  link : Option (Nat × List Byte) := none
  deriving DecidableEq, Repr

/-- A journal write, running or waiting (R205): the image, what takes effect at its end, whether it is the retry, and whether PD40 has lost it (R437). -/
structure JournalWrite where
  image : JournalImage := {}
  grants : List PendingGrant := []
  marks : List (Nat × Nat) := []
  checkpoint : Bool := false
  retry : Bool := false
  since : Nat := 0
  lost : Bool := false
  deriving DecidableEq, Repr

/-- The serial unit. -/
structure SerialState where
  entries : Tab SerialEntry := []
  /-- The values computed ahead for each slot (R200). -/
  buffers : Tab (List Nat) := []
  grants : Tab (List Byte) := []
  bankA : JournalBank := .erased
  bankB : JournalBank := .erased
  /-- The bank written last: 0 A, 1 B (R205). -/
  lastBank : Option Nat := none
  running : Option JournalWrite := none
  waiting : Option JournalWrite := none
  /-- A write and its retry have failed (R205). -/
  stopped : Bool := false
  /-- Allocation stopped by a shutdown or by the watchdog (R208, R220). -/
  halted : Bool := false
  /-- Records not yet in the ring, oldest first (R213). -/
  unwritten : List LedgerItem := []
  /-- For each slot, the indices at or above its ledgered mark that have a record, with the record's number. -/
  recorded : Tab (List (Nat × Nat)) := []
  /-- The last checkpoint: last_seq, checkpoint_seq, head. -/
  lastSeq : Nat := 0
  lastHead : List Byte := []
  lastCheckpointAt : Nat := 0
  checkpoint : Option Checkpoint := none
  /-- A checkpoint that recovery, takeover or shutdown asks for. -/
  wanted : Bool := false
  /-- What that checkpoint ends: 1 recovery, 2 takeover; 3: after it, the reserve is being renewed (R216). -/
  resume : Nat := 0
  /-- An orderly shutdown (R208): 1 its checkpoint, 2 its clean journal, 3 done. -/
  shutdown : Nat := 0
  /-- Reserve marks that a RESERVE frame carries and whose ACK is awaited: ordered seq, slot, mark (R204). -/
  reserving : List (Nat × Nat × Nat) := []
  /-- Commits that await an answer: ordered seq and product (R202). -/
  committing : List (Nat × Nat) := []
  deriving DecidableEq, Repr

end Sys2Proof.Machine
end

