-- ==== Sys2Proof/Machine/State.lean ====
section
/-! DEFINITION. The state of the engine, why a step can stop, and the state after reset. -/

set_option Elab.async false

namespace Sys2Proof.Machine

/-- Why the engine stops with a fault. The spec gives every command an effect or an answer, so no meaning raises one. -/
inductive Fault
  /-- Operation outside the limits of R454 to R459. Raised by no meaning: no command carries such a condition; safe. -/
  | outsideLimits
  deriving DecidableEq, Repr

/-- Why a command has no next state. -/
inductive Refusal
  /-- Raised by an arm of `exec` whose command has no meaning yet; safe. -/
  | notModelled (mnemonic : String)
  deriving DecidableEq, Repr

/-- What a command makes the engine give to the outside: the status of R365 and the value or bytes read where it is an access, and the frames and datagrams handed to its lanes (port n, 0 to 39), Ethernet ports (64 + p) and CAN FD ports (72 + p). -/
structure Answer where
  status : Option Status := none
  value : Nat := 0
  bytes : List Byte := []
  sent : List (Nat × List Byte) := []
  /-- The statuses of earlier writes whose wait has ended: source, index, sub-index (R196, R232, R366). -/
  late : List (Source × Nat × Nat × Status × List Byte) := []
  deriving DecidableEq, Repr

/-- The strap balls, as sampled at reset (R414, R451). -/
structure Straps where
  pairRole : Bool := false
  jtagEnable : Bool := false
  bootRecovery : Bool := false
  coreDebug : Bool := false
  deriving DecidableEq, Repr

/-- The state of the engine. -/
structure State where
  /-- The commands that wait, first in, first out. -/
  pending : List Instr := []
  /-- The time in picoseconds. -/
  now : Nat := 0
  /-- The answer to the last command. -/
  answer : Answer := {}
  /-- The dictionary registers that differ from their defaults, by index × 256 + sub-index. -/
  obj : Tab Nat := []
  /-- The dictionary's VSTRING, OCTETS and DOMAIN values that are not empty. -/
  blobs : Tab (List Byte) := []
  /-- When functions entered their present states, by the key of the state register. -/
  stamps : Tab Nat := []
  /-- Bank, field and core memory and external memory: the bytes written. -/
  mem : List Host.Cell := []
  /-- How many times some memory has lost its content. -/
  memEpoch : Nat := 0
  /-- How many free values have been taken. -/
  fresh : Nat := 0
  /-- The pending latches: arrival NCLK and event number, in grant order (R285, R287). -/
  events : List (Nat × Nat) := []
  /-- CoalescedMap (R285). -/
  coalesced : Nat := 0
  /-- The key store (R430): slot 0 holds the identity key, provisioned in manufacture. -/
  keys : Tab KeySlot := [(0, { ty := 6, bytes := Config.identityKey })]
  /-- The tuning cache in NVM: the image of each entry (R436). -/
  cache : Tab (List Byte) := []
  /-- The stream array. -/
  arr : ArrayState := {}
  /-- The stream queues SQ0 to SQ63. -/
  queues : Tab Queue := []
  /-- The serial lanes. -/
  lanes : Tab Lane := []
  /-- The print and verification paths. -/
  print : PrintState := {}
  /-- The serial unit. -/
  serial : SerialState := {}
  /-- The pair agent. -/
  pair : PairState := {}
  /-- The event concentrator and the scheduler. -/
  sched : SchedState := {}
  /-- The Peg cores PC0 to PC7. -/
  cores : Tab Core := []
  /-- The on-chip network, banks, harrow and LPDDR5 interfaces. -/
  noc : NocState := {}
  /-- The plant network and the dictionary's ports. -/
  plant : PlantState := {}
  /-- NVM and the boot flash. -/
  nvm : NvmState := {}
  /-- Power and clocks. -/
  power : PowerState := {}
  /-- Boot and the security unit. -/
  security : SecurityState := {}
  /-- The test access port. -/
  tap : TapState := {}
  straps : Straps := {}
  /-- FAULT_L is asserted (R220, R412). -/
  faultL : Bool := false
  /-- Engine time at the instant `ptpAt`, in ns since the PTP epoch, and the servo's slew in parts per billion (R392, R393). -/
  ptpBase : Nat := 0
  ptpAt : Nat := 0
  ptpRate : Int := 0
  /-- How long a slew that steers by PPS_IN lasts, in ps; none for one that the next correction ends (R394). -/
  ptpFor : Option Nat := none
  deriving DecidableEq, Repr

/-- The engine right after reset: nothing listed, every object at its default. -/
def State.reset : State := {}

end Sys2Proof.Machine
end

