-- ==== Sys2Proof/Machine/Ops.lean ====
section
/-! DEFINITION. The operations every command is written with: dictionary registers, trouble counters, cause bits and events, time, claims, domains, and memory.
Spec: 00_scope.md R7; 10_events_and_scheduler.md R284 to R287; 13_object_dictionary.md R362, R378 to R380; 14_power_and_clocks.md R401; 01_engine_overview.md R11. -/

set_option Elab.async false

namespace Sys2Proof.Machine

/-! Outcomes and answers. -/

/-- What every meaning answers with. -/
abbrev Out := Host.Outcome State Fault Refusal

/-- A command begins: the last answer is gone. -/
def start (s : State) : State := { s with answer := {} }

/-- A frame or datagram handed to a port. -/
def send (s : State) (port : Nat) (b : List Byte) : State :=
  { s with answer := { s.answer with sent := s.answer.sent ++ [(port, b)] } }

/-! Time. -/

/-- A command begins at a time, never earlier than the last. -/
def at_ (t : Nat) (s : State) : State := { start s with now := max s.now t }

/-- The time for which the ACLK and NCLK PLLs have run: it stands still while LINE_STOP stops them (R404). -/
def pllTime (s : State) : Nat := s.power.clockStopAt.getD s.now - s.power.clockLost

/-- The ACLK that the time lies in (1.000 ns each). -/
def aclk (s : State) : Nat := pllTime s / 1000

/-- The NCLK that the time lies in (2.000 ns each). -/
def nclk (s : State) : Nat := pllTime s / 2000

/-- For how much of a time the slew has been on. -/
def slewSpan (s : State) (dt : Nat) : Nat := match s.ptpFor with | some k => min dt k | none => dt

/-- Engine time in ns since the PTP epoch (R392). -/
def ptpTime (s : State) : Nat :=
  let dt := s.now - s.ptpAt
  s.ptpBase + (((dt : Int) * 1000000000 + (slewSpan s dt : Int) * s.ptpRate) / 1000000000000).toNat

def psUs : Nat := 1000000
def psMs : Nat := 1000000000
def psS : Nat := 1000000000000

/-! Dictionary registers. -/

/-- The value of a dictionary register. -/
def rd (s : State) (idx sub : Nat) : Nat := (tabFind s.obj (objKey idx sub)).getD (objDefault idx sub)

/-- A dictionary register set. -/
def wr (s : State) (idx sub v : Nat) : State :=
  { s with obj := tabSet (objDefault idx sub) s.obj (objKey idx sub) v }

/-- A VSTRING, OCTETS or DOMAIN value held in the dictionary. -/
def rdBytes (s : State) (idx sub : Nat) : List Byte := tabGet [] s.blobs (objKey idx sub)

/-- A VSTRING, OCTETS or DOMAIN value set. -/
def wrBytes (s : State) (idx sub : Nat) (b : List Byte) : State :=
  { s with blobs := tabSet [] s.blobs (objKey idx sub) b }

/-- When the function with this state register entered its present state. -/
def stamp (s : State) (idx sub : Nat) : Nat := tabGet 0 s.stamps (objKey idx sub)

/-- The entry time of a state noted as the present time. -/
def setStamp (s : State) (idx sub : Nat) : State :=
  { s with stamps := tabSet 0 s.stamps (objKey idx sub) s.now }

/-- A state register set, with the time of entry. -/
def enter (s : State) (idx sub v : Nat) : State := setStamp (wr s idx sub v) idx sub

/-- Whether a time since the entry of a state has passed. -/
def elapsed (s : State) (idx sub ps : Nat) : Bool := decide (stamp s idx sub + ps ≤ s.now)

/-- A trouble counter counts, and stops at 0xFFFF (R7). -/
def bump (s : State) (idx sub : Nat) : State := wr s idx sub (satAdd 0xFFFF (rd s idx sub) 1)

/-- A 64-bit count goes up by `n`. -/
def count64 (s : State) (idx sub n : Nat) : State := wr s idx sub ((rd s idx sub + n) % 2 ^ 64)

/-! Events. -/

/-- A pending latch placed in grant order: arrival NCLK, then event number (R287). -/
def latchInsert (l : List (Nat × Nat)) (a e : Nat) : List (Nat × Nat) :=
  match l with
  | [] => [(a, e)]
  | (a', e') :: r => if a < a' || (a == a' && decide (e < e')) then (a, e) :: (a', e') :: r else (a', e') :: latchInsert r a e

/-- Whether an event comes from a unit on ACLK: fields, the print path, image intake and the product table. -/
def aclkEvent (e : Nat) : Bool := decide (e < 24) || (decide (88 ≤ e) && decide (e < 164)) || (decide (268 ≤ e) && decide (e < 276))

/-- A raise merged into the pending grant: counted, and noted with its NCLK, as a grant in the same NCLK makes it a new arrival (R285). What is noted is how many raises were merged, whether the bit of CoalescedMap was set before, and whether since the first of them a raise found the counter full. -/
def raiseMerged (s : State) (e : Nat) : State :=
  let full := rd s 0x1600 0x11 == 0xFFFF
  let anew := (nclk s + 1, 1, bitOf s.coalesced e, full)
  let m := match tabFind s.sched.merged e with
    | some m => if m.1 == nclk s + 1 then (m.1, m.2.1 + 1, m.2.2.1, m.2.2.2 || full) else anew
    | none => anew
  let s1 := { bump s 0x1600 0x11 with coalesced := setBit s.coalesced e true }
  { s1 with sched := { s1.sched with merged := tabPut (if full then s1.sched.merged.map (fun x => (x.1, x.2.1, x.2.2.1, x.2.2.2.1, true)) else s1.sched.merged) e m } }

/-- An event raised: its latch is set, or, when it is set already, the raise is merged and counted (R285). It arrives in the NCLK after the raise, from an ACLK unit no later than 3 NCLK after it (R286). -/
def raiseEvent (s : State) (e : Nat) : State :=
  if s.events.any (fun x => x.2 == e) then
    raiseMerged s e
  else if aclkEvent e then
    { s with events := latchInsert s.events (nclk s + Config.freeValue s.fresh % 4) e, fresh := s.fresh + 1 }
  else { s with events := latchInsert s.events (nclk s + 1) e }

/-- The units with cause bits. -/
inductive CauseUnit
  | queue (q : Nat) | encoder (e : Nat) | trigger (t : Nat) | bar (b : Nat) | gate (j : Nat) | products
  | camera (k : Nat) | verify | serial | lane (n : Nat) | pair | boot | power | core (n : Nat)
  | noc | lpddr | plant | sched
  deriving DecidableEq, Repr

/-- Index and sub-index of a unit's EventCause. -/
def causeAt : CauseUnit → Nat × Nat
  | .queue q => (0x2801 + 2 * q, 0x0A)
  | .encoder e => (0x3000 + e, 0x0F)
  | .trigger t => (0x3020 + t, 0x11)
  | .bar b => (0x3100 + 8 * b, 0x09)
  | .gate j => (0x3301 + 2 * j, 0x04)
  | .products => (0x3200, 0x06)
  | .camera k => (0x3809 + 2 * k, 0x05)
  | .verify => (0x3800, 0x03)
  | .serial => (0x4000, 0x04)
  | .lane n => (0x4801 + 4 * n, 0x04)
  | .pair => (0x1305, 0x02)
  | .boot => (0x1400, 0x08)
  | .power => (0x1500, 0x08)
  | .core n => (0x5801 + 2 * n, 0x02)
  | .noc => (0x5000, 0x02)
  | .lpddr => (0x5033, 0x02)
  | .plant => (0x1200, 0x03)
  | .sched => (0x1600, 0x08)

/-- Index and sub-index of a unit's EventEnable. -/
def enableAt : CauseUnit → Nat × Nat
  | .queue q => (0x2800 + 2 * q, 0x08)
  | .encoder e => (0x3000 + e, 0x0E)
  | .trigger t => (0x3020 + t, 0x10)
  | .bar b => (0x3100 + 8 * b, 0x08)
  | .gate j => (0x3300 + 2 * j, 0x07)
  | .products => (0x3200, 0x05)
  | .camera k => (0x3808 + 2 * k, 0x07)
  | .verify => (0x3800, 0x02)
  | .serial => (0x4000, 0x03)
  | .lane n => (0x4800 + 4 * n, 0x08)
  | .pair => (0x1305, 0x01)
  | .boot => (0x1400, 0x07)
  | .power => (0x1500, 0x07)
  | .core n => (0x5800 + 2 * n, 0x05)
  | .noc => (0x5000, 0x01)
  | .lpddr => (0x5033, 0x01)
  | .plant => (0x1200, 0x02)
  | .sched => (0x1600, 0x07)

/-- The event that a unit's cause bit raises (R284 and the chapter of each unit). -/
def causeEvent (u : CauseUnit) (bit : Nat) : Nat :=
  match u with
  | .queue q => 24 + q
  | .encoder e => 112 + e
  | .trigger t => 116 + t
  | .bar b => 88 + b
  | .gate j => 140 + j
  | .products => 268
  | .camera k => if bit == 3 || bit == 4 || bit == 8 then 153 + 2 * k else 152 + 2 * k
  | .verify => if bit ≤ 4 then 269 + bit else 268 + bit
  | .serial => 212 + bit
  | .lane n => 164 + n
  | .pair => 204 + bit
  | .boot => 220 + bit
  | .power => 228 + bit
  | .core n => 236 + n
  | .noc => 244 + bit
  | .lpddr => 276 + bit
  | .plant => 252 + bit
  | .sched => if bit == 7 then 261 else 260

/-- Whether a cause bit raises its event whatever EventEnable says (R263: MACHINE_CHECK). -/
def causeAlways (u : CauseUnit) (bit : Nat) : Bool :=
  match u with
  | .core _ => bit == 0
  | _ => false

/-- A cause bit set; with its bit in EventEnable, the unit's event is raised (R117, R284). -/
def setCause (s : State) (u : CauseUnit) (bit : Nat) : State :=
  let c := causeAt u
  let e := enableAt u
  let s' := wr s c.1 c.2 (setBit (rd s c.1 c.2) bit true)
  if bitOf (rd s e.1 e.2) bit || causeAlways u bit then raiseEvent s' (causeEvent u bit) else s'

/-! Domains and claims. -/

/-- DomainState of PDd (R401). -/
def domState (s : State) (pd : Nat) : Nat := rd s 0x1511 (pd + 1)

/-- PDd is ON. -/
def domOn (s : State) (pd : Nat) : Bool := domState s pd == 2

/-- SYS is ON and its clocks run (R404). -/
def sysRuns (s : State) : Bool := domOn s 41 && rd s 0x1500 0x01 != 1

/-- The holder of a claimable resource; 0 is free (R379, R380). -/
def holder (s : State) (r : Nat) : Nat := rd s 0x1580 (r + 1)

/-- A resource given to a holder. -/
def setHolder (s : State) (r h : Nat) : State := wr s 0x1580 (r + 1) h

/-- Every resource held by `h` released (R378). -/
def releaseAll (s : State) (h : Nat) : State :=
  (List.range 0x74).foldl (fun x r => if holder x r == h then setHolder x r 0 else x) s

/-- The first resource of a list that another function holds. -/
def claimConflict (s : State) (h : Nat) (rs : List Nat) : Option Nat :=
  rs.find? (fun r => holder s r != 0 && holder s r != h)

/-- A refused claim is counted, recorded and signalled (R378). -/
def claimRefused (s : State) (r h : Nat) : State :=
  setCause (wr (bump s 0x1581 0x01) 0x1581 0x02 (r + h * 65536)) .plant 7

/-- The claims of an enable: all taken, or the refusal (R378). -/
def takeClaims (s : State) (h : Nat) (rs : List Nat) : State × Bool :=
  match claimConflict s h rs with
  | some r => (claimRefused s r h, false)
  | none => (rs.foldl (fun x r => setHolder x r h) s, true)

/-! Free values. -/

/-- A value that the spec leaves open, below `m`, and the state with the next one to come. -/
def freeNat (s : State) (m : Nat) : State × Nat :=
  ({ s with fresh := s.fresh + 1 }, Config.freeValue s.fresh % m)

/-- `n` free bytes. -/
def freeBytes : Nat → State → State × List Byte
  | 0, s => (s, [])
  | n + 1, s =>
    let (s1, v) := freeNat s 256
    let (s2, r) := freeBytes n s1
    (s2, BitVec.ofNat 8 v :: r)

/-- The randomness of a signature: 32 bytes from the TRNG, or the deterministic variant while TrngState is FAILED (R425). -/
def signRandom (s : State) : State × List Byte :=
  if rd s 0x140B 0x01 == 2 then (s, List.replicate 32 0) else freeBytes 32 s

/-! Memory. -/

/-- The byte at an address: the byte last written there, or the free byte that the memory held. -/
def memByte (s : State) (a : Nat) : Byte := (tabFind s.mem a).getD (Config.freeByte s.memEpoch a)

/-- A byte written. -/
def memPut (s : State) (a : Nat) (b : Byte) : State := { s with mem := tabPut s.mem a b }

/-- `n` bytes from an address. -/
def memRead (s : State) (a : Nat) : Nat → List Byte
  | 0 => []
  | n + 1 => memByte s a :: memRead s (a + 1) n

/-- Bytes written from an address. -/
def memWrite (s : State) (a : Nat) : List Byte → State
  | [] => s
  | b :: r => memWrite (memPut s a b) (a + 1) r

/-- The little-endian value of `n` bytes (R3). -/
def memNat (s : State) (a n : Nat) : Nat := leNat (memRead s a n)

/-- The content of an address range lost: nothing there is listed, and what it reads as is open again. -/
def memForget (s : State) (lo hi : Nat) : State :=
  { s with mem := s.mem.filter (fun c => decide (c.1 < lo) || decide (hi ≤ c.1)), memEpoch := s.memEpoch + 1 }

/-- Where field memory lies: word `a` of field `f` (R63). -/
def fieldMemAddr (f a : Nat) : Nat := 0x30000000 + f * 0x40000 + 4 * a

/-- Where external memory of the LPDDR5 interfaces is held, by external address. -/
def externalBase : Nat := 0x100000000

/-- An engine address lies in the LPDDR5 window (R11). -/
def inLpddrWindow (a : Nat) : Bool := decide (0x80000000 ≤ a) && decide (a < 0xF0000000)

/-- The external address of a window address through network interface `ni` (R321). -/
def lpddrExternal (s : State) (ni a : Nat) : Nat := rd s (0x5010 + ni) 0x07 + a % 0x80000000

/-- Where the model holds the byte at an engine address that interface `ni` reaches. -/
def physAddr (s : State) (ni a : Nat) : Nat := if inLpddrWindow a then externalBase + lpddrExternal s ni a else a

/-- The installed size of LPDDR5 interface `i`. -/
def lpddrSize (s : State) (i : Nat) : Nat := rd s (0x5030 + i) 0x06

/-- The LPDDR5 interface that holds an external address (R322). -/
def lpddrInterface (s : State) (e : Nat) : Nat :=
  if rd s 0x5032 0x00 == 1 then (e >>> 9) % 2 else if e < lpddrSize s 0 then 0 else 1

/-- Whether an LPDDR5 interface holds any byte of an external range (R322). -/
def lpddrHolds (s : State) (i e len : Nat) : Bool :=
  if len == 0 then false
  else if rd s 0x5032 0x00 == 1 then decide (e / 512 != (e + len - 1) / 512) || lpddrInterface s e == i
  else if i == 0 then decide (e < lpddrSize s 0) else decide (lpddrSize s 0 < e + len)

/-- Whether a bank group (PD32 to PD35) holds any byte of a range of bank memory (R309). -/
def groupHolds (g a len : Nat) : Bool :=
  decide (0 < len) && decide (a < 0x20000000 + (g + 1) * 0x800000) && decide (0x20000000 + g * 0x800000 < a + len)

/-- Every bank group and every LPDDR5 interface that holds a byte of a region is ON. -/
def regionOn (s : State) (ni a len : Nat) : Bool :=
  if inLpddrWindow a then
    (List.range 2).all (fun i => !lpddrHolds s i (lpddrExternal s ni a) len || domOn s (36 + i))
  else (List.range 4).all (fun g => !groupHolds g a len || domOn s (32 + g))

/-- Whether a domain holds any byte of a region: a bank group, or an LPDDR5 interface. -/
def regionIn (s : State) (ni a len pd : Nat) : Bool :=
  if inLpddrWindow a then decide (36 ≤ pd) && decide (pd ≤ 37) && lpddrHolds s (pd - 36) (lpddrExternal s ni a) len
  else decide (32 ≤ pd) && decide (pd ≤ 35) && groupHolds (pd - 32) a len

/-- An interface has refused a history or archive write at an external address (R324). -/
def lpddrRefuse (s : State) (e : Nat) : State := setCause (bump s (0x5030 + lpddrInterface s e) 0x09) .lpddr 5

/-- Two regions share a byte. -/
def overlaps (a la b lb : Nat) : Bool := decide (0 < la) && decide (0 < lb) && decide (a < b + lb) && decide (b < a + la)

/-! The harrow's window (R316 to R318). -/

/-- The bank of an address. -/
def bankOf (a : Nat) : Nat := a % 0x20000000 / 0x100000

/-- The accesses that the harrow has made of its 768, by the end of the last NCLK: one in every NCLK that the owner left it (R317). -/
def harrowDone (s : State) (t0 owner : Nat) : Nat := nclk s - t0 - owner

/-- The window is given back no later than 12 NCLK of set-up and release after the 768 accesses (R318). -/
def harrowLate (s : State) : Bool := match s.noc.borrowed with | some (_, t0, o) => decide (780 ≤ harrowDone s t0 o) | none => false

/-- The window of the harrow holds an address. -/
def inBorrowed (s : State) (a : Nat) : Bool :=
  match s.noc.borrowed with
  | some (w, _) => !harrowLate s && decide (w ≤ a) && decide (a < w + 1024)
  | none => false

/-- The window of the harrow shares a byte with a range. -/
def rangeBorrowed (s : State) (a len : Nat) : Bool :=
  match s.noc.borrowed with
  | some (w, _) => !harrowLate s && overlaps a len w 1024
  | none => false

/-- Bytes of a ring from an offset, wrapping at its size. -/
def ringRead (s : State) (base size off : Nat) : Nat → List Byte
  | 0 => []
  | n + 1 => memByte s (base + off % size) :: ringRead s base size (off + 1) n

/-- Bytes written into a ring from an offset, wrapping at its size. -/
def ringWrite (s : State) (base size off : Nat) : List Byte → State
  | [] => s
  | b :: r => ringWrite (memPut s (base + off % size) b) base size (off + 1) r

/-- The memory of the model is in its one form: addresses strictly rising. -/
def Memory.wf (m : List Host.Cell) : Bool := tabSorted m

/-! The engines of the security unit (R426). -/

/-- A mailbox's request comes after every request that waits. -/
def hashAsk (s : State) (r : SecRequest) : State :=
  let x := s.security
  { s with security := { x with hashing := x.hashing ++ [r], hashingSince := if x.hashing.isEmpty then s.now else x.hashingSince } }

/-- A request of the ML-DSA-87 engine: an attestation goes before the mailboxes that wait, a mailbox behind them; the request that is served stays first. -/
def signAsk (s : State) (r : SecRequest) : State :=
  let x := s.security
  let q := match x.signing, r with
    | h :: rest, .attest => h :: .attest :: rest
    | l, r => l ++ [r]
  { s with security := { x with signing := q, signingSince := if x.signing.isEmpty then s.now else x.signingSince } }

/-- The request that the engine serves has ended: the next one is taken. -/
def hashNext (s : State) : State := { s with security := { s.security with hashing := s.security.hashing.drop 1, hashingSince := s.now } }
def signNext (s : State) : State := { s with security := { s.security with signing := s.security.signing.drop 1, signingSince := s.now } }

/-- A request that goes first has been served: the one that was stopped, or that waited for it, begins anew. -/
def signAgain (s : State) : State := { s with security := { s.security with signingSince := s.now } }

/-- The ML-DSA-87 engine has taken a request of time `t` that goes before those that wait: no request that it began before still runs. -/
def signFree (s : State) (t : Nat) : Bool := s.security.signing.isEmpty || decide (t ≤ s.security.signingSince)

/-- The same of the SHA3 and SHAKE engine. -/
def hashFree (s : State) (t : Nat) : Bool := s.security.hashing.isEmpty || decide (t ≤ s.security.hashingSince)

/-- Both engines have served a check asked for at time `t` (R426). -/
def checkFree (s : State) (t : Nat) : Bool := hashFree s t && signFree s t

end Sys2Proof.Machine
end

