-- ==== Sys2Proof/Machine/Send.lean ====
section
/-! DEFINITION. Frames on the serial lanes: their bytes, their blocks, and the order in which a transmitter sends them.
Spec: 05_print_path.md R149, R152; 12_serial_lanes.md R339 to R343. -/

set_option Elab.async false

namespace Sys2Proof.Machine

def laneOf (s : State) (n : Nat) : Lane := tabGet {} s.lanes n
def setLane (s : State) (n : Nat) (x : Lane) : State := { s with lanes := tabSet {} s.lanes n x }

/-- Object X + k of lane n (R339). -/
def lx (n k : Nat) : Nat := 0x4800 + 4 * n + k
/-- 0 OFF, 1 STARTING, 2 ACQUIRING, 3 DATA, 4 RETRAINING, 5 TEST, 6 STOPPING. -/
def laneState (s : State) (n : Nat) : Nat := rd s (lx n 1) 0x01
/-- The data state (R355). -/
def laneInData (s : State) (n : Nat) : Bool := laneState s n == 3

/-- Picoseconds of a block at the lane's rate (R340). -/
def blockPs (s : State) (n : Nat) : Nat :=
  match rd s (lx n 0) 0x02 with
  | 0 => 12800
  | 1 => 6400
  | _ => 2560

/-- Blocks of a frame with the block that follows it (R152, R17). -/
def frameBlocks (payload : Nat) : Nat := (payload + 12) / 8 + 3

/-- Header, payload and CRC-32C of a frame (R152). -/
def frameBytes (hdr : Nat) (payload : List Byte) : List Byte :=
  let b := leBytes 8 hdr ++ payload
  b ++ leBytes 4 (crc32c b)

/-- Waiting frames start while no frame is in progress (R149, R343): the time the transmitter is busy to, the frames that have started, and those that still wait. -/
def laneSettle (ps upTo : Nat) (busy : Nat) : List LaneFrame → Nat × List (List Byte) × List LaneFrame
  | [] => (busy, [], [])
  | n :: r =>
    if decide (busy ≤ upTo) then let (b, sent, w) := laneSettle ps upTo (busy + n.blocks * ps) r; (b, n.bytes :: sent, w)
    else (busy, [], n :: r)

/-- The transmitter with the frames that have started by a time, each handed over as it starts. -/
def laneUpTo (s : State) (n t : Nat) : State :=
  let x := laneOf s n
  let (b, sent, w) := laneSettle (blockPs s n) t x.busyUntil x.waiting
  sent.foldl (fun y f => send y n f) (setLane s n { x with busyUntil := b, waiting := w })

/-- Frames that wait on any lane start as their turn comes. -/
def lanesDue (s : State) : State :=
  (s.lanes.filter (fun e => !e.2.waiting.isEmpty)).foldl (fun y e => laneUpTo y e.1 y.now) s

/-- A frame that enters the transmitter at a time: at once, or after the frame in progress. A management frame that has not started before that time stays behind it (R149). -/
def laneFire (s : State) (n t hdr : Nat) (payload : List Byte) : State :=
  let s1 := laneUpTo s n (t - 1)
  let x := laneOf s1 n
  let f := frameBytes hdr payload
  if decide (x.busyUntil ≤ t) then send (setLane s1 n { x with busyUntil := t + frameBlocks payload.length * blockPs s n }) n f
  else setLane s1 n { x with waiting := x.waiting.filter (·.line) ++ [{ line := true, blocks := frameBlocks payload.length, bytes := f }] ++ x.waiting.filter (fun w => !w.line) }

/-- A management or pair frame, sent when no other frame is in progress; none starts unless the lane is in DATA (R343). -/
def laneManage (s : State) (n hdr : Nat) (payload : List Byte) : State :=
  if !laneInData s n then s
  else
    let s1 := laneUpTo s n s.now
    let x := laneOf s1 n
    let f := frameBytes hdr payload
    if x.waiting.isEmpty && decide (x.busyUntil ≤ s.now) then send (setLane s1 n { x with busyUntil := s.now + frameBlocks payload.length * blockPs s n }) n f
    else setLane s1 n { x with waiting := x.waiting ++ [{ line := false, blocks := frameBlocks payload.length, bytes := f }] }

/-- No frame is in progress on the lane. -/
def laneQuiet (s : State) (n : Nat) : Bool := decide ((laneOf s n).busyUntil ≤ s.now)

/-- The present block lies between frames: no frame is in progress, or only the block that follows its last is (R343, R345). -/
def laneBetween (s : State) (n : Nat) : Bool := decide ((laneOf s n).busyUntil ≤ s.now + blockPs s n)

/-- No frame that still waits starts any more: the lane leaves DATA (R343; notes/assumptions/50.md). -/
def laneNoStart (s : State) (n : Nat) : State := setLane s n { laneOf s n with waiting := [] }

/-- Whether a receiver delivers a frame now; a frame that comes while the lane is STARTING, ACQUIRING or RETRAINING is discarded and counted in FrameAborts (R344). -/
def laneDelivers (s : State) (n : Nat) : State × Bool :=
  match laneState s n with
  | 3 => (s, true)
  | 1 | 2 | 4 => (bump s (lx n 2) 0x03, false)
  | _ => (s, false)

end Sys2Proof.Machine
end

