-- ==== Sys2Proof/Machine/Lanes.lean ====
section
/-! DEFINITION. The serial lanes: their states, the lane status sets, adaptation, and the PRBS test.
Spec: 12_serial_lanes.md R339 to R361. -/

set_option Elab.async false

namespace Sys2Proof.Machine

/-- Power group of a lane, and its domain (R340). -/
def laneGroup (n : Nat) : Nat := if n < 12 then 0 else if n < 24 then 1 else if n < 36 then 2 else 3
def laneDomain (n : Nat) : Nat := 28 + laneGroup n
/-- Lane PLL bit of a lane in PllLocked: A, or B for 25.78125 Gb/s (R340). -/
def lanePll (s : State) (n : Nat) : Nat := 2 * laneGroup n + boolNat (rd s (lx n 0) 0x02 == 2)
def refLost (s : State) : Bool := rd s 0x48A0 0x06 == 1
def laneTestHolder (n : Nat) : Nat := 0x0500 + n

/-- FFE weights of R352. -/
def ffeOk (pre post : Nat) : Bool := decide (2 * (pre + post) + 8 ≤ 63)

/-- A PLL runs while a lane of its group that uses it is not OFF (R340). -/
def pllSettle (s : State) : State :=
  let m := (List.range 8).foldl (fun a i =>
    if (List.range 40).any (fun n => lanePll s n == i && laneState s n != 0) then a else setBit a i false) (rd s 0x48A0 0x04)
  wr s 0x48A0 0x04 m

/-- Bits per 6,400 ps at the lane's rate (R340). -/
def laneRate (s : State) (n : Nat) : Nat :=
  match rd s (lx n 0) 0x02 with
  | 0 => 33
  | 1 => 66
  | _ => 165

/-- `n` UI in picoseconds at the lane's rate (R340). -/
def uiPs (s : State) (n k : Nat) : Nat := k * 6400 / laneRate s n

/-- CTLE and DFE at their defaults. -/
def laneDefaults (s : State) (n : Nat) : State :=
  wr (setLane s n { laneOf s n with taps := List.replicate 10 0, ctleHeld := false, adaptAt := s.now, tapsWere := [] }) (lx n 1) 0x05 8

/-- The CTLE holds the setting that it has adapted to (R353; notes/assumptions/146.md). -/
def ctleHold (s : State) (n : Nat) : State :=
  if (laneOf s n).ctleHeld then s else wr (setLane s n { laneOf s n with ctleHeld := true }) (lx n 1) 0x05 (Config.ctleSetting n s.now % 16)

/-- In ACQUIRING and TEST the CTLE adapts until it holds (R353). -/
def ctleAdapts (s : State) (n : Nat) : Bool := (laneState s n == 2 || laneState s n == 5) && !(laneOf s n).ctleHeld

/-- CtlePeak as it reads: while the CTLE adapts, 8 at first and then the setting it has come to (R353, R354). -/
def ctlePeak (s : State) (n : Nat) : Nat :=
  if ctleAdapts s n then (if s.now == stamp s (lx n 1) 0x01 then 8 else Config.ctleSetting n s.now % 16) else rd s (lx n 1) 0x05

/-- A CTLE that adapts no more, without having held a setting, stands at the one it has come to (notes/assumptions/146.md). -/
def ctleStop (s : State) (n : Nat) : State := if ctleAdapts s n then wr s (lx n 1) 0x05 (ctlePeak s n) else s

/-- EyeMargin as it reads, in percent; 0 while the receiver slices no data (R354; notes/assumptions/146.md). -/
def eyeMargin (s : State) (n : Nat) : Nat :=
  if 2 ≤ laneState s n && laneState s n ≤ 6 then Config.eyeMargin n s.now % 101 else 0

/-- Steps 1 and 2 of R356. -/
def laneChecks (s : State) (n : Nat) : Status :=
  if decide (2 < rd s (lx n 0) 0x02) || !ffeOk (rd s (lx n 0) 0x05) (rd s (lx n 0) 0x06) then .range
  else if !domOn s (laneDomain n) || refLost s then .state
  else .ok

/-- Claims of a mode: the test takes transmitter and receiver. -/
def laneClaims (n mode : Nat) : List Nat := if mode == 2 then [n, 0x28 + n] else []

def laneStart (s : State) (n mode : Nat) : State :=
  let x := laneOf s n
  enter (wr (setLane s n { x with stopLatched := false, mode := mode }) (lx n 1) 0x02 0) (lx n 1) 0x01 1

def prbsLocked (s : State) (n : Nat) : Bool := rd s (lx n 3) 0x04 == 1

/-- PrbsBits now: it stops at 2^48 − 1. -/
def prbsBits (s : State) (n : Nat) : Nat :=
  let x := laneOf s n
  min (2 ^ 48 - 1) (x.bitsBase + (if prbsLocked s n then (s.now - x.bitsFrom) * laneRate s n / 6400 else 0))

/-- The checker stops comparing: its count of bits stands, and it seeds again (R361). -/
def prbsStop (s : State) (n : Nat) : State :=
  if prbsLocked s n then wr (setLane s n { laneOf s n with bitsBase := prbsBits s n, seekAt := s.now, wrongBits := [] }) (lx n 3) 0x04 0 else s

/-- Entry to STOPPING: no new frame starts, and a test ends. -/
def laneStop (s : State) (n : Nat) : State :=
  let s1 := ctleStop (prbsStop s n) n
  enter (setLane s1 n { laneOf s1 n with stopLatched := false, waiting := [] }) (lx n 1) 0x01 6

/-- A write of 1 or 2 to Enable (R356, R357); repeated while a restart is latched, or in STARTING with no stop latched, it changes nothing (R402). -/
def laneEnable (s : State) (n mode : Nat) : State × Status :=
  let x := laneOf s n
  match laneState s n with
  | 0 =>
    match laneChecks s n with
    | .ok =>
      let (s1, ok) := takeClaims s (laneTestHolder n) (laneClaims n mode)
      if ok then (wr (wr (laneStart s1 n mode) (lx n 0) 0x01 mode) (lx n 1) 0x03 0, .ok)
      else (wr s1 (lx n 1) 0x03 Status.resourceInUse.code, .resourceInUse)
    | st => (wr s (lx n 1) 0x03 st.code, st)
  | 6 =>
    if rd s (lx n 1) 0x02 == 1 then (s, .restartPending)
    else (wr (wr (wr (setLane s n { x with mode := mode }) (lx n 1) 0x02 1) (lx n 0) 0x01 mode) (lx n 1) 0x03 Status.restartPending.code, .restartPending)
  | 1 =>
    if !x.stopLatched then (s, .ok)
    else if x.mode == mode then (wr (setLane s n { x with stopLatched := false }) (lx n 0) 0x01 mode, .ok)
    else (s, .state)
  | 5 => if mode == 2 then (s, .ok) else (s, .state)
  | _ => if mode == 1 then (s, .ok) else (s, .state)

/-- A write of 0 to Enable (R357). -/
def laneDisable (s : State) (n : Nat) : State × Status :=
  let s1 := wr s (lx n 0) 0x01 0
  match laneState s n with
  | 0 => (s1, .ok)
  | 1 => (setLane s1 n { laneOf s1 n with stopLatched := true }, .ok)
  | 6 => (wr s1 (lx n 1) 0x02 0, .ok)
  | _ => (laneStop s1 n, .ok)

/-- The group PLL has locked (R357). -/
def laneLocked (s : State) (n : Nat) : Option State :=
  if laneState s n == 1 && !refLost s then
    let s1 := wr s 0x48A0 0x04 (setBit (rd s 0x48A0 0x04) (lanePll s n) true)
    let x := laneOf s1 n
    some (if x.stopLatched then laneStop s1 n
      else if x.mode == 2 then laneDefaults (enter (setLane s1 n { x with seekAt := s1.now, wrongBits := [], injects := [] }) (lx n 1) 0x01 5) n
      else laneDefaults (enter (setLane s1 n { x with hunting := some s1.now, badHeaders := [] }) (lx n 1) 0x01 2) n)
  else none

/-- RX_READY 1 has arrived within the last 8,192 blocks, with no 0 after it (R355). -/
def remoteReady (s : State) (n : Nat) : Bool :=
  rd s (lx n 1) 0x09 == 1 && decide (s.now ≤ (laneOf s n).heardAt + 8192 * blockPs s n)

/-- No tap has moved by more than 2 in the last 2^20 UI (R353). -/
def dfeConverged (s : State) (n : Nat) : Bool :=
  let x := laneOf s n
  x.tapsWere.all fun e => decide (e.1 + uiPs s n (2 ^ 20) < s.now) || (List.range 10).all fun k => decide ((x.taps.getD k 0 - e.2.getD k 0).natAbs ≤ 2)

/-- hi_ber: 16 invalid sync headers within 125 us (R355). -/
def hiBer (s : State) (n : Nat) : Bool := decide (16 ≤ ((laneOf s n).badHeaders.filter fun h => decide (s.now < h + 125 * psUs)).length)

/-- The receiver has block lock: it has not lost it, or 64 blocks with no invalid sync header have come since (R355; notes/assumptions/50.md). -/
def blockLock (s : State) (n : Nat) : Bool :=
  match (laneOf s n).hunting with
  | some h => decide ((laneOf s n).badHeaders.headD 0 + 64 * blockPs s n ≤ s.now) && decide (h + 64 * blockPs s n ≤ s.now)
  | none => true

/-- The local conditions of R355: block lock, hi_ber clear, and the DFE converged. -/
def laneLocal (s : State) (n : Nat) : Bool := blockLock s n && !hiBer s n && dfeConverged s n

/-- The local conditions hold and so does the partner's (R355): the lane enters DATA. -/
def laneEnterData (s : State) (n : Nat) : Option State :=
  if (laneState s n == 2 || laneState s n == 4) && remoteReady s n && decide ((laneOf s n).retrainUntil ≤ s.now) && laneLocal s n then
    some (setCause (enter (ctleHold (setLane s n { laneOf s n with hunting := none }) n) (lx n 1) 0x01 3) (.lane n) 0)
  else none

/-- An exit condition of R355 in DATA. -/
def laneDrop (s : State) (n : Nat) : Option State :=
  if laneState s n == 3 then some (setCause (bump (enter (laneNoStart s n) (lx n 1) 0x01 4) (lx n 2) 0x04) (.lane n) 1) else none

/-- Blocks are decoded in every state but OFF and TEST (R344). -/
def laneDecodes (s : State) (n : Nat) : Bool := let x := laneState s n; x != 0 && x != 5

/-- A lane status set received (R345, R355). -/
def laneHeard (s : State) (n : Nat) (ready : Bool) : State :=
  if !laneDecodes s n then s
  else
    let s1 := wr (setLane s n { laneOf s n with heardAt := s.now }) (lx n 1) 0x09 (boolNat ready)
    if ready then s1 else (laneDrop s1 n).getD s1

/-- RX_READY as the engine sends it: its receiver meets the local conditions, and the 64 blocks of a Retrain are over (R345, R357). -/
def rxReady (s : State) (n : Nat) : Bool := decide ((laneOf s n).retrainUntil ≤ s.now) && laneLocal s n

/-- A lane status set sent between frames, with RX_READY as it is now: 1,024 blocks after the last, or after a change (R345). -/
def laneTell (s : State) (n : Nat) (ready : Bool) : Option State :=
  let x := laneOf s n
  if laneDecodes s n && laneState s n != 1 && laneBetween s n && ready == rxReady s n && (ready != x.sentReady || decide (x.sentAt + 1024 * blockPs s n ≤ s.now)) then
    some (send (setLane s n { x with sentReady := ready, sentAt := s.now }) n [0x4B, 0x47, BitVec.ofNat 8 (boolNat ready), 0x00])
  else none

/-- 8,192 blocks without a lane status set (R355). -/
def laneSilent (s : State) (n : Nat) : Option State :=
  if decide ((laneOf s n).heardAt + 8192 * blockPs s n ≤ s.now) then laneDrop s n else none

/-- AcquireLimit ms in ACQUIRING or RETRAINING (R357). -/
def laneAcquireExpire (s : State) (n : Nat) : Option State :=
  if (laneState s n == 2 || laneState s n == 4) && elapsed s (lx n 1) 0x01 (rd s (lx n 0) 0x0A * psMs) then
    some (laneDefaults (setCause (bump (enter s (lx n 1) 0x01 2) (lx n 2) 0x05) (.lane n) 2) n)
  else none

/-- A write of 1 to Retrain (R357). -/
def laneRetrain (s : State) (n : Nat) : State × Status :=
  if laneState s n == 3 then
    (enter (setLane s n { laneOf s n with retrainUntil := s.now + 64 * blockPs s n, waiting := [] }) (lx n 1) 0x01 4, .ok)
  else (s, .state)

/-- STOPPING ends once the frame in progress is sent and 1 µs has passed (R357). -/
def laneStopped (s : State) (n : Nat) : Option State :=
  if laneState s n == 6 && elapsed s (lx n 1) 0x01 psUs && laneQuiet s n then
    let mode := (laneOf s n).mode
    let off := fun x => setCause (pllSettle (enter (releaseAll (wr x (lx n 1) 0x02 0) (laneTestHolder n)) (lx n 1) 0x01 0)) (.lane n) 3
    if rd s (lx n 1) 0x02 == 1 then
      let s0 := releaseAll s (laneTestHolder n)
      match laneChecks s0 n with
      | .ok =>
        let (s1, ok) := takeClaims s0 (laneTestHolder n) (laneClaims n mode)
        if ok then some (wr (laneStart s1 n mode) (lx n 1) 0x03 0)
        else some (wr (wr (off s1) (lx n 0) 0x01 0) (lx n 1) 0x03 Status.resourceInUse.code)
      | st => some (wr (wr (off s0) (lx n 0) 0x01 0) (lx n 1) 0x03 st.code)
    else some (off s)
  else none

/-- A lane that is not OFF and whose PLL has no lock: REF_LOST, and a frame in progress is cut off; it goes to STARTING, but for a lane in STOPPING, which goes on stopping (R343, R347, R357; notes/assumptions/42.md). -/
def laneUnlocked (s : State) (n : Nat) : State :=
  let st := laneState s n
  if st == 0 then s
  else
    let s0 := ctleStop (prbsStop s n) n
    let s1 := setLane s0 n { laneOf s0 n with busyUntil := s.now, waiting := [] }
    setCause (if st == 6 then s1 else enter s1 (lx n 1) 0x01 1) (.lane n) 4

/-- REFCLK_IN reported lost (R347). -/
def refclkLost (s : State) : State := (List.range 40).foldl laneUnlocked (wr (wr s 0x48A0 0x06 1) 0x48A0 0x04 0)

/-- Invalid sync headers among the last 64 headers (R355). -/
def badOf64 (s : State) (n : Nat) : Nat := ((laneOf s n).badHeaders.filter (fun h => decide (s.now < h + 64 * blockPs s n))).length

/-- An invalid sync header (R344); the sixteenth among 64 loses block lock, the sixteenth within 125 us sets hi_ber, and either takes the lane out of DATA (R355). -/
def laneBadHeader (s : State) (n : Nat) : State :=
  let x := laneOf s n
  let s1 := bump (setLane s n { x with badHeaders := s.now :: x.badHeaders.filter (fun h => decide (s.now < h + 125 * psUs)) }) (lx n 2) 0x01
  let lost := !blockLock s n || decide (16 ≤ badOf64 s1 n)
  let s2 := setLane s1 n { laneOf s1 n with hunting := if lost then some s.now else none }
  if lost || hiBer s2 n then (laneDrop s2 n).getD s2 else s2

/-- The receiver loses block lock in DATA: of the last 64 sync headers 16 are invalid, and those that have not been taken yet are taken now. The lane leaves DATA, and a frame whose delivery that cuts is counted (R344, R355; notes/assumptions/50.md). -/
def laneLockLost (s : State) (n : Nat) (cut : Bool) : Option State :=
  if laneState s n == 3 then
    let s1 := (List.range (16 - badOf64 s n)).foldl (fun x _ => laneBadHeader x n) s
    let s2 := (laneDrop s1 n).getD s1
    some (if cut then bump s2 (lx n 2) 0x03 else s2)
  else none

/-- A block that is errored, or whose sync header is invalid, in a frame or outside one (R344). -/
def laneBlockError (s : State) (n : Nat) (header inFrame : Bool) : State :=
  if !laneDecodes s n then s
  else
    let s1 := if header then laneBadHeader s n else if inFrame then s else bump s (lx n 2) 0x02
    if inFrame then bump s1 (lx n 2) 0x03 else s1

/-! Adaptation (R353). -/

/-- Limits of tap k (1 to 10). -/
def tapLimits (k : Nat) : Int × Int := if k == 1 then (-128, 127) else (-64, 63)

/-- A tap moves by the sign of its sum; whether it arrives at an end of its range. -/
def tapMove (k : Nat) (tap sum : Int) : Int × Bool :=
  let (lo, hi) := tapLimits k
  let t := clampInt lo hi (tap + (if 0 < sum then 1 else if sum < 0 then -1 else 0))
  (t, t != tap && (t == lo || t == hi))

/-- The taps after a further 1,024 UI with these sums. -/
def dfeMoved (s : State) (n : Nat) (sums : List Int) : State :=
  let x := laneOf s n
  let r := (List.range 10).map (fun k => tapMove (k + 1) (x.taps.getD k 0) (sums.getD k 0))
  let old := (s.now, x.taps) :: x.tapsWere.filter (fun e => decide (s.now ≤ e.1 + uiPs s n (2 ^ 20)))
  let s1 := setLane s n { x with taps := r.map (·.1), adaptAt := s.now, tapsWere := if r.map (·.1) == x.taps then x.tapsWere else old }
  if r.any (·.2) then setCause s1 (.lane n) 5 else s1

/-- The DFE adapts in every state but OFF and STARTING, every 1,024 UI, unless it is frozen (R353). -/
def dfeDue (s : State) (n : Nat) : Bool :=
  decide (2 ≤ laneState s n) && rd s (lx n 1) 0x07 != 1 && decide ((laneOf s n).adaptAt + uiPs s n 1024 ≤ s.now)

/-- An adaptation interval of the DFE ends. -/
def dfeStep (s : State) (n : Nat) (sums : List Int) : Option State := if dfeDue s n then some (dfeMoved s n sums) else none

/-! PRBS (R360, R361). -/

/-- Degree of a PRBS generator polynomial and its middle exponent, by pattern code (R360). -/
def prbsTaps (code : Nat) : Nat × Nat :=
  match code with
  | 1 => (7, 6)
  | 2 => (9, 5)
  | 3 => (15, 14)
  | 4 => (23, 18)
  | 5 => (31, 28)
  | _ => (0, 0)

/-- The checker has seeded itself, and 64 predicted bits have arrived correct (R361). -/
def prbsLock (s : State) (n : Nat) : Option State :=
  let m := (prbsTaps (rd s (lx n 3) 0x02)).1
  if laneState s n == 5 && m != 0 && !prbsLocked s n && decide ((laneOf s n).seekAt + uiPs s n (m + 64) ≤ s.now) then
    let s1 := ctleHold s n
    some (setCause (wr (setLane s1 n { laneOf s1 n with erred := false, bitsFrom := s.now, wrongBits := [] }) (lx n 3) 0x04 1) (.lane n) 6)
  else none

/-- A wrong bit while locked counts, until PrbsBits has reached its end; with the sixteenth of 64 the checker loses lock (R361). -/
def prbsWrong (s : State) (n : Nat) : State :=
  let x := laneOf s n
  let l := s.now :: x.wrongBits.filter (fun h => decide (s.now < h + uiPs s n 64))
  let s1 := setLane s n { x with wrongBits := l }
  let s2 :=
    if prbsBits s n < 2 ^ 48 - 1 then
      let y := wr s1 (lx n 3) 0x05 (satAdd 0xFFFFFFFF (rd s1 (lx n 3) 0x05) 1)
      if x.erred then y else setCause (setLane y n { laneOf y n with erred := true }) (.lane n) 7
    else s1
  if 16 ≤ l.length then prbsStop s2 n else s2

/-- A wrong bit arrives at the checker. -/
def prbsError (s : State) (n : Nat) : Option State :=
  if laneState s n == 5 && prbsLocked s n then some (prbsWrong s n) else none

/-- 16 of the last 64 bits are wrong: those that have not been taken yet are taken now, and the checker loses lock (R361; notes/assumptions/50.md). -/
def prbsUnlock (s : State) (n : Nat) : Option State :=
  if laneState s n == 5 && prbsLocked s n then
    let old := ((laneOf s n).wrongBits.filter (fun h => decide (s.now < h + uiPs s n 64))).length
    some (prbsStop ((List.range (16 - old)).foldl (fun x _ => prbsWrong x n) s) n)
  else none

/-- A write of 0 to PrbsErrors clears both counters. -/
def prbsClear (s : State) (n : Nat) : State :=
  wr (setLane s n { laneOf s n with bitsBase := 0, bitsFrom := s.now }) (lx n 3) 0x05 0

/-- A write of 1 to PrbsInject: one transmitted bit within 1 µs is inverted (R361). Which one it is the spec leaves open. -/
def prbsInject (s : State) (n : Nat) : State × Status :=
  if laneState s n == 5 then
    let (s1, k) := freeNat s (psUs * laneRate s n / 6400 + 1)
    let sent := (s.now - stamp s (lx n 1) 0x01) * laneRate s n / 6400
    (setLane s1 n { laneOf s1 n with injects := (sent + k) :: (laneOf s1 n).injects }, .ok)
  else (s, .state)

/-- A write to PrbsTxPattern or PrbsRxPattern, while the lane is not in DATA. -/
def prbsPattern (s : State) (n idx sub v : Nat) : State × Status := if laneInData s n then (s, .state) else (wr s idx sub v, .ok)

/-! With the group's domain (R357). -/

/-- The group domain begins FENCING: as Enable 0. -/
def lanesFenced (s : State) (pd : Nat) : State :=
  (List.range 40).foldl (fun x n => if laneDomain n == pd then (laneDisable x n).1 else x) s

/-- The group domain leaves ON: OFF, with all lane state lost. -/
def lanesLost (s : State) (pd : Nat) : State :=
  pllSettle ((List.range 40).foldl (fun x n =>
    if laneDomain n == pd then
      let y := wr (wr (wr (releaseAll { x with lanes := tabErase x.lanes n } (laneTestHolder n)) (lx n 1) 0x01 0) (lx n 1) 0x02 0) (lx n 1) 0x09 0
      wr (wr (wr (wr (wr y (lx n 1) 0x05 8) (lx n 3) 0x04 0) (lx n 3) 0x05 0) (lx n 0) 0x01 0) (lx n 1) 0x03 0
    else x) s)

end Sys2Proof.Machine
end

