-- ==== Sys2Proof/Machine/Fp.lean ====
section
/-! DEFINITION. Binary32 values as exact dyadic numbers, and their rounding, for the cells and for the Peg cores.
Spec: 02_array_cells.md R40, R42, R43 (cells); 09_peg_cores.md R264, R270 (cores, with the flags of RV32F).
PRESUMED: the rounding modes and the flags of RV32F are those of IEEE 754 and the RISC-V unprivileged specification. -/

set_option Elab.async false

namespace Sys2Proof.Machine

/-- A binary32 datum: a NaN (signalling or quiet), an infinity, or the exact number ± man × 2^ex. -/
inductive FpVal
  | nan (signalling : Bool)
  | inf (neg : Bool)
  | fin (neg : Bool) (man : Nat) (ex : Int)
  deriving DecidableEq, Repr

/-- Rounding modes of RV32F; the cells use `rne` alone (R40). -/
inductive FpMode
  | rne | rtz | rdn | rup | rmm
  deriving DecidableEq, Repr

/-- The bits of fflags: invalid, divide by zero, overflow, underflow, inexact. -/
def fpNV : Nat := 16
def fpDZ : Nat := 8
def fpOF : Nat := 4
def fpUF : Nat := 2
def fpNX : Nat := 1

/-- The one NaN of the cells and of RV32F results (R42). -/
def fpNaN : Word := 0x7FC00000#32

/-- The datum of a word. -/
def fpUnpack (w : Word) : FpVal :=
  let v := w.toNat
  let neg := bitOf v 31
  let e := bitsOf v 23 8
  let f := bitsOf v 0 23
  if e == 255 then (if f == 0 then .inf neg else .nan (!bitOf v 22))
  else if e == 0 then .fin neg f (-149)
  else .fin neg (f + 0x800000) ((e : Int) - 150)

/-- The datum with a subnormal read as zero of the same sign (R42). -/
def fpUnpackFtz (w : Word) : FpVal :=
  match fpUnpack w with
  | .fin neg m e => if m < 0x800000 then .fin neg 0 0 else .fin neg m e
  | x => x

/-- A word from its sign, biased exponent and fraction. -/
def fpPack (neg : Bool) (e f : Nat) : Word :=
  BitVec.ofNat 32 (boolNat neg * 0x80000000 + e * 0x800000 + f)

def fpInf (neg : Bool) : Word := fpPack neg 255 0
def fpMax (neg : Bool) : Word := fpPack neg 254 0x7FFFFF
def fpZero (neg : Bool) : Word := fpPack neg 0 0

/-- `m / 2^sh` rounded to an integer under a mode, and whether it was inexact. -/
def fpShift (md : FpMode) (neg : Bool) (m sh : Nat) : Nat × Bool :=
  let q := m >>> sh
  let r := m % 2 ^ sh
  let half := 2 ^ sh
  let up := match md with
    | .rne => half < 2 * r || (2 * r == half && q % 2 == 1 && r != 0)
    | .rtz => false
    | .rdn => neg && r != 0
    | .rup => !neg && r != 0
    | .rmm => half ≤ 2 * r && r != 0
  (if up then q + 1 else q, r != 0)

/-- The mantissa rounded so that its lowest bit weighs 2^q, with that q and whether it was inexact. -/
def fpAlign (md : FpMode) (neg : Bool) (m : Nat) (e q : Int) : Nat × Bool :=
  if q ≤ e then (m <<< (e - q).toNat, false) else fpShift md neg m (q - e).toNat

/-- The result of an overflow under a mode. -/
def fpOverflow (md : FpMode) (neg : Bool) : Word :=
  match md with
  | .rne | .rmm => fpInf neg
  | .rtz => fpMax neg
  | .rdn => if neg then fpInf neg else fpMax neg
  | .rup => if neg then fpMax neg else fpInf neg

/-- The exact number ± m × 2^e rounded to binary32 with subnormals, and the flags it raises; tininess is judged after rounding. -/
def fpRound (md : FpMode) (neg : Bool) (m : Nat) (e : Int) : Word × Nat :=
  if m == 0 then (fpZero neg, 0)
  else
    let msb : Int := e + (bitLen m : Int) - 1
    let q : Int := if msb - 23 < -149 then -149 else msb - 23
    let (r, inx) := fpAlign md neg m e q
    -- the value rounded as if the exponent had no lower limit, for the tininess test
    let (u, _) := fpAlign md neg m e (msb - 23)
    let tiny := decide (msb < -126) && !(msb == -127 && u == 0x1000000)
    let big := decide (r ≥ 0x1000000)
    let r' := if big then r >>> 1 else r
    let q' := if big then q + 1 else q
    if r' < 0x800000 then
      (fpPack neg 0 r', if inx then fpUF + fpNX else 0)
    else
      let be := q' + 150
      if be ≥ 255 then (fpOverflow md neg, fpOF + fpNX)
      else (fpPack neg be.toNat (r' % 0x800000), (if inx then fpNX else 0) + (if inx && tiny then fpUF else 0))

/-- The exact number ± m × 2^e rounded as a cell rounds it: convergently to 24 bits with no lower limit of the exponent, then flushed below 2^-126; with SAT a finite overflow is the largest finite magnitude (R42). -/
def fpRoundCell (sat neg : Bool) (m : Nat) (e : Int) : Word :=
  if m == 0 then fpZero neg
  else
    let q : Int := e + (bitLen m : Int) - 24
    let (r, _) := fpAlign .rne neg m e q
    let big := decide (r ≥ 0x1000000)
    let r' := if big then r >>> 1 else r
    let be := (if big then q + 1 else q) + 150
    if be ≤ 0 then fpZero neg
    else if be ≥ 255 then (if sat then fpMax neg else fpInf neg)
    else fpPack neg be.toNat (r' % 0x800000)

/-- The exact sum of two numbers of given signs: sign, mantissa and exponent. An exact zero from opposite signs has the sign `zneg`. -/
def fpAddExact (zneg : Bool) (n1 : Bool) (m1 : Nat) (e1 : Int) (n2 : Bool) (m2 : Nat) (e2 : Int) : Bool × Nat × Int :=
  let e := if e1 < e2 then e1 else e2
  let a := m1 <<< (e1 - e).toNat
  let b := m2 <<< (e2 - e).toNat
  if n1 == n2 then (n1, a + b, e)
  else if a == b then (zneg, 0, e)
  else if b < a then (n1, a - b, e)
  else (n2, b - a, e)

/-- The value x × y + z before rounding: a word that is already final (NaN or infinity) with its flags, or an exact number. -/
def fpFmaExact (md : FpMode) (x y z : FpVal) : (Word × Nat) ⊕ (Bool × Nat × Int) :=
  let sig := fun v => match v with | FpVal.nan s => s | _ => false
  let nan := fun v => match v with | FpVal.nan _ => true | _ => false
  let anySig := sig x || sig y || sig z
  let zneg := decide (md = .rdn)
  match x, y with
  | .inf sx, .fin sy m _ =>
    if m == 0 then .inl (fpNaN, fpNV)
    else if nan z then .inl (fpNaN, if anySig then fpNV else 0)
    else match z with
      | .inf sz => if (sx != sy) == sz then .inl (fpInf sz, 0) else .inl (fpNaN, fpNV)
      | _ => .inl (fpInf (sx != sy), 0)
  | .fin sx m _, .inf sy =>
    if m == 0 then .inl (fpNaN, fpNV)
    else if nan z then .inl (fpNaN, if anySig then fpNV else 0)
    else match z with
      | .inf sz => if (sx != sy) == sz then .inl (fpInf sz, 0) else .inl (fpNaN, fpNV)
      | _ => .inl (fpInf (sx != sy), 0)
  | .inf sx, .inf sy =>
    if nan z then .inl (fpNaN, if anySig then fpNV else 0)
    else match z with
      | .inf sz => if (sx != sy) == sz then .inl (fpInf sz, 0) else .inl (fpNaN, fpNV)
      | _ => .inl (fpInf (sx != sy), 0)
  | .fin sx mx ex, .fin sy my ey =>
    match z with
    | .nan _ => .inl (fpNaN, if anySig then fpNV else 0)
    | .inf sz => .inl (fpInf sz, 0)
    | .fin sz mz ez => .inr (fpAddExact zneg (sx != sy) (mx * my) (ex + ey) sz mz ez)
  | _, _ => .inl (fpNaN, if anySig then fpNV else 0)

/-- The value x + y before rounding. -/
def fpAddVal (md : FpMode) (x y : FpVal) : (Word × Nat) ⊕ (Bool × Nat × Int) :=
  match x, y with
  | .fin sx mx ex, .fin sy my ey => .inr (fpAddExact (decide (md = .rdn)) sx mx ex sy my ey)
  | .inf sx, .inf sy => if sx == sy then .inl (fpInf sx, 0) else .inl (fpNaN, fpNV)
  | .inf sx, .fin _ _ _ => .inl (fpInf sx, 0)
  | .fin _ _ _, .inf sy => .inl (fpInf sy, 0)
  | .nan a, .nan b => .inl (fpNaN, if a || b then fpNV else 0)
  | .nan a, _ => .inl (fpNaN, if a then fpNV else 0)
  | _, .nan b => .inl (fpNaN, if b then fpNV else 0)

/-- The value x × y before rounding. -/
def fpMulVal (x y : FpVal) : (Word × Nat) ⊕ (Bool × Nat × Int) :=
  match x, y with
  | .fin sx mx ex, .fin sy my ey => .inr (sx != sy, mx * my, ex + ey)
  | .inf sx, .inf sy => .inl (fpInf (sx != sy), 0)
  | .inf sx, .fin sy m _ => if m == 0 then .inl (fpNaN, fpNV) else .inl (fpInf (sx != sy), 0)
  | .fin sx m _, .inf sy => if m == 0 then .inl (fpNaN, fpNV) else .inl (fpInf (sx != sy), 0)
  | .nan a, .nan b => .inl (fpNaN, if a || b then fpNV else 0)
  | .nan a, _ => .inl (fpNaN, if a then fpNV else 0)
  | _, .nan b => .inl (fpNaN, if b then fpNV else 0)

/-- A datum of opposite sign; a NaN stays a NaN. -/
def fpNegVal : FpVal → FpVal
  | .nan s => .nan s
  | .inf s => .inf (!s)
  | .fin s m e => .fin (!s) m e

/-- The bit at weight 2^(2k) that a root of `n` has, found from the top, with fuel. -/
def isqrtFrom (n : Nat) : Nat → Nat → Nat
  | 0, r => r
  | k + 1, r => let c := r + 2 ^ k; isqrtFrom n k (if c * c ≤ n then c else r)

/-- The integer square root. -/
def isqrt (n : Nat) : Nat := isqrtFrom n (bitLen n / 2 + 1) 0

/-- x / y before rounding: 28 bits of quotient and a sticky bit below them. -/
def fpDivVal (x y : FpVal) : (Word × Nat) ⊕ (Bool × Nat × Int) :=
  match x, y with
  | .fin sx mx ex, .fin sy my ey =>
    if my == 0 then (if mx == 0 then .inl (fpNaN, fpNV) else .inl (fpInf (sx != sy), fpDZ))
    else
      let n := mx <<< 52
      let q := n / my
      .inr (sx != sy, 2 * q + boolNat (n % my != 0), ex - ey - 53)
  | .inf _, .inf _ => .inl (fpNaN, fpNV)
  | .inf sx, .fin sy _ _ => .inl (fpInf (sx != sy), 0)
  | .fin sx _ _, .inf sy => .inl (fpZero (sx != sy), 0)
  | .nan a, .nan b => .inl (fpNaN, if a || b then fpNV else 0)
  | .nan a, _ => .inl (fpNaN, if a then fpNV else 0)
  | _, .nan b => .inl (fpNaN, if b then fpNV else 0)

/-- The square root before rounding: over 28 bits and a sticky bit below them. -/
def fpSqrtVal (x : FpVal) : (Word × Nat) ⊕ (Bool × Nat × Int) :=
  match x with
  | .nan a => .inl (fpNaN, if a then fpNV else 0)
  | .inf neg => if neg then .inl (fpNaN, fpNV) else .inl (fpInf false, 0)
  | .fin neg m e =>
    if m == 0 then .inl (fpZero neg, 0)
    else if neg then .inl (fpNaN, fpNV)
    else
      let odd := e % 2 == 1
      let n := (if odd then 2 * m else m) <<< 60
      let e' := (if odd then e - 1 else e) - 60
      let r := isqrt n
      .inr (false, 2 * r + boolNat (r * r != n), e' / 2 - 1)

/-- A value before rounding, rounded with flags. -/
def fpFinish (md : FpMode) : (Word × Nat) ⊕ (Bool × Nat × Int) → Word × Nat
  | .inl p => p
  | .inr (n, m, e) => fpRound md n m e

/-- A value before rounding, rounded as a cell rounds it (R42). -/
def fpFinishCell (sat : Bool) : (Word × Nat) ⊕ (Bool × Nat × Int) → Word
  | .inl p => p.1
  | .inr (n, m, e) => fpRoundCell sat n m e

/-- An integer as an exact number. -/
def fpOfInt (x : Int) : Bool × Nat × Int := (decide (x < 0), x.natAbs, 0)

/-- A number rounded to an integer under a mode, and whether it was inexact. -/
def fpToInt (md : FpMode) (neg : Bool) (m : Nat) (e : Int) : Int × Bool :=
  let (r, inx) := fpAlign md neg m e 0
  (if neg then -(r : Int) else (r : Int), inx)

/-- The order of two numbers that are not NaN: less, equal or greater, with -0 equal to +0. -/
def fpCmp (x y : FpVal) : Ordering :=
  match x, y with
  | .inf true, .inf true => .eq
  | .inf true, _ => .lt
  | _, .inf true => .gt
  | .inf false, .inf false => .eq
  | .inf false, _ => .gt
  | _, .inf false => .lt
  | .fin sx mx ex, .fin sy my ey =>
    let (n, m, _) := fpAddExact false sx mx ex (!sy) my ey
    if m == 0 then .eq else if n then .lt else .gt
  | _, _ => .eq

/-- Whether a datum is a NaN. -/
def fpIsNaN : FpVal → Bool
  | .nan _ => true
  | _ => false

/-- Whether a datum is a signalling NaN. -/
def fpIsSNaN : FpVal → Bool
  | .nan s => s
  | _ => false

/-- The sign of a datum. -/
def fpNeg : FpVal → Bool
  | .nan _ => false
  | .inf s => s
  | .fin s _ _ => s

end Sys2Proof.Machine
end

