-- ==== Sys2Proof/Machine/CellOps.lean ====
section
/-! DEFINITION. The configuration word of a cell and the result of every opcode.
Spec: 02_array_cells.md R38 to R53. -/

set_option Elab.async false

namespace Sys2Proof.Machine

/-! Fields of the configuration word (R51). -/

def cwOpcode (w : Nat) : Nat := bitsOf w 0 8
def cwSat (w : Nat) : Bool := bitOf w 8
def cwPred (w : Nat) : Nat := bitsOf w 9 3
def cwSrcA (w : Nat) : Nat := bitsOf w 12 6
def cwSrcB (w : Nat) : Nat := bitsOf w 18 6
def cwSrcC (w : Nat) : Nat := bitsOf w 24 6
def cwConsumeA (w : Nat) : Bool := bitOf w 30
def cwConsumeB (w : Nat) : Bool := bitOf w 31
def cwConsumeC (w : Nat) : Bool := bitOf w 32
def cwOutMask (w : Nat) : Nat := bitsOf w 34 4
def cwBusDrive (w : Nat) : Bool := bitOf w 38
def cwDestReg (w : Nat) : Nat := bitsOf w 39 3
def cwDestWe (w : Nat) : Bool := bitOf w 42
def cwEndMode (w : Nat) : Nat := bitsOf w 43 2
def cwK0 (w : Nat) : Nat := bitsOf w 48 32
def cwK1 (w : Nat) : Nat := bitsOf w 80 32
def cwLutPage (w : Nat) : Nat := bitsOf w 120 1
def cwLutOffset (w : Nat) : Nat := bitsOf w 112 8
/-- The pass-through source of output `dir`: N, E, S, W as 0 to 3 (R39). -/
def cwPass (w dir : Nat) : Nat := bitsOf w (128 + 3 * dir) 3
def cwEmit (w : Nat) : Nat := bitsOf w 140 16
def cwParam (w : Nat) : Nat := bitsOf w 156 8
def cwCrc (w : Nat) : Nat := bitsOf w 184 8

/-- Opcodes of the table of R47. -/
def opcodesListed : List Nat :=
  [0x00, 0x01, 0x02, 0x03, 0x04, 0x05, 0x06, 0x07, 0x08, 0x09, 0x0A, 0x0B, 0x0C, 0x0D, 0x10, 0x11, 0x12, 0x13, 0x14,
   0x18, 0x19, 0x1A, 0x1B, 0x1C, 0x20, 0x21, 0x22, 0x23, 0x24, 0x25, 0x28, 0x29, 0x2A, 0x2B, 0x2C, 0x2D, 0x2E,
   0x30, 0x31, 0x32, 0x33, 0x34, 0x35, 0x36, 0x37, 0x38, 0x39, 0x3A, 0x3B, 0x40, 0x41, 0x42, 0x43, 0x44, 0x45,
   0x48, 0x49, 0x50, 0x51, 0x58, 0x60, 0x61, 0x62, 0x63, 0x64, 0x65, 0x66]

/-- Opcodes that follow an end-mark rule of their own (R44): QERR and the stream operations. -/
def opOwn (op : Nat) : Bool := op == 0x58 || (decide (0x60 ≤ op) && decide (op ≤ 0x66))

/-- Opcodes that read C as data: SEL, FMA, FMS, BFI (R52). -/
def opReadsC (op : Nat) : Bool := op == 0x14 || op == 0x33 || op == 0x34 || op == 0x42

/-- Opcodes that read A alone. -/
def opUnary (op : Nat) : Bool :=
  [0x01, 0x0C, 0x37, 0x38, 0x39, 0x3A, 0x3B, 0x43, 0x44, 0x45, 0x48, 0x49, 0x61, 0x62, 0x64, 0x65, 0x66].contains op

/-- Opcodes that keep a running value in the destination register (R48). -/
def opRunning (op : Nat) : Bool := op == 0x58 || op == 0x64 || op == 0x65 || op == 0x66

/-- Opcodes that name a page of the lookup table (R36). -/
def opNamesPage (op : Nat) : Bool := op == 0x48 || op == 0x49 || op == 0x58

/-- The latency of an opcode in ACLK (R47). -/
def opLatency (op : Nat) : Nat :=
  if (decide (0x28 ≤ op) && decide (op ≤ 0x2E)) || op == 0x49 then 3
  else if (decide (0x30 ≤ op) && decide (op ≤ 0x3B)) || op == 0x65 then 4
  else 1

/-- Whether a firing of the word reads operand A, B or C (0, 1, 2); `side` is the side bit of MERGE (R47, R49). -/
def cwReads (w side k : Nat) : Bool :=
  let op := cwOpcode w
  if k == 2 then opReadsC op || cwPred w != 0
  else if op == 0x00 then false
  else if op == 0x60 then k == side
  else if k == 0 then true
  else !opUnary op

/-- The source code of operand A, B or C. -/
def cwSrc (w k : Nat) : Nat := if k == 0 then cwSrcA w else if k == 1 then cwSrcB w else cwSrcC w

/-- The consume bit of operand A, B or C. -/
def cwConsume (w k : Nat) : Bool := if k == 0 then cwConsumeA w else if k == 1 then cwConsumeB w else cwConsumeC w

/-- A source code of a link input (R38). -/
def srcIsLink (c : Nat) : Bool := decide (1 ≤ c) && decide (c ≤ 4)

/-- Whether an output is driven. -/
def cwDrives (w dir : Nat) : Bool := bitOf (cwOutMask w) dir

/-- The pass-through source of a driven output; 0 where the output is not driven. -/
def cwPassUsed (w dir : Nat) : Nat := if cwDrives w dir then cwPass w dir else 0

/-- The link inputs, by number N, E, S, W from 0, that a firing pops when its operands are those read at `side` (R27). -/
def cwPops (w side dir : Nat) : Bool :=
  (List.range 3).any (fun k => cwReads w side k && cwConsume w k && cwSrc w k == dir + 1)
  || (List.range 4).any (fun o => cwPassUsed w o == dir + 1)

/-- Whether a firing reads the furrow bus. -/
def cwTakesBus (w side : Nat) : Bool :=
  (List.range 3).any (fun k => cwReads w side k && cwSrc w k == 5) || (List.range 4).any (fun o => cwPassUsed w o == 5)

/-- Whether the word's firings pop a link or bus token (R80, R81). -/
def cwPopsToken (w : Nat) : Bool :=
  (List.range 2).any (fun side => (List.range 4).any (fun dir => cwPops w side dir) || cwTakesBus w side)

/-- Whether the word names a link input, as an operand or as a pass-through source. -/
def cwNamesInput (w dir : Nat) : Bool :=
  (List.range 2).any (fun side => (List.range 3).any (fun k => cwReads w side k && cwSrc w k == dir + 1))
  || (List.range 4).any (fun o => cwPassUsed w o == dir + 1)

/-- Whether the word names an input and only peeks it (R24, R80). -/
def cwPeeksOnly (w dir : Nat) : Bool :=
  cwNamesInput w dir && !cwPops w 0 dir && !cwPops w 1 dir

/-- Whether the word reads or drives its furrow's bus. -/
def cwReadsBus (w : Nat) : Bool := cwTakesBus w 0 || cwTakesBus w 1

/-! Results. -/

def sgn (v : Nat) : Int := signedOf 32 v

/-- A signed result: wrapped, or clamped with SAT (R41). -/
def resS (sat : Bool) (x : Int) : Nat := if sat then wrapInt 32 (clampInt (-2147483648) 2147483647 x) else wrapInt 32 x

/-- An unsigned result: wrapped, or clamped with SAT (R41). -/
def resU (sat : Bool) (x : Int) : Nat := if sat then (clampInt 0 4294967295 x).toNat else wrapInt 32 x

/-- A 16-bit half of MUL2. -/
def half2 (sat signed : Bool) (a b sh : Nat) : Nat :=
  if signed then
    let x := roundShr (signedOf 16 a * signedOf 16 b) sh
    if sat then wrapInt 16 (clampInt (-32768) 32767 x) else wrapInt 16 x
  else
    let x := roundShrNat (a % 65536 * (b % 65536)) sh
    if sat then min x 65535 else x % 65536

/-- The product in GF(2^8) modulo x^8 + p: eight steps from the low bit of `b` (R47). -/
def gfMulFrom (p : Nat) : Nat → Nat → Nat → Nat → Nat
  | 0, _, _, acc => acc
  | n + 1, a, b, acc =>
    let acc' := if b % 2 == 1 then acc ^^^ a else acc
    let a2 := (a <<< 1) % 256
    gfMulFrom p n (if bitOf a 7 then a2 ^^^ p else a2) (b / 2) acc'

def gfMul (p a b : Nat) : Nat := gfMulFrom p 8 (a % 256) (b % 256) 0

/-- Bit reversal of the low `n` bits. -/
def bitRev : Nat → Nat → Nat → Nat
  | 0, _, acc => acc
  | n + 1, v, acc => bitRev n (v / 2) (2 * acc + v % 2)

/-- The field of A that BFX takes; bits above 31 read 0 or A[31] (R47). -/
def bfxSigned (a lsb width : Nat) : Int :=
  let x := (sgn a) / (2 ^ lsb : Nat)
  signedOf width (wrapInt 64 x % 2 ^ width)

/-- The lookup-table entry of index `i` for a word (R36). -/
def lutAddr (w i : Nat) : Nat := cwLutPage w * 256 + (cwLutOffset w + i) % 256

/-- FMIN and FMAX (R42): the operand that is not NaN, and -0 below +0. -/
def fpMinMax (isMax : Bool) (a b : Word) : Word :=
  let x := fpUnpackFtz a
  let y := fpUnpackFtz b
  let za := match x with | .fin n 0 _ => fpZero n | _ => a
  let zb := match y with | .fin n 0 _ => fpZero n | _ => b
  if fpIsNaN x && fpIsNaN y then fpNaN
  else if fpIsNaN x then zb
  else if fpIsNaN y then za
  else
    let less := match fpCmp x y with
      | .lt => true
      | .gt => false
      | .eq => fpNeg x && !fpNeg y
    if less == isMax then zb else za

/-- FP32 to integer as R43 gives, into the range [lo, hi]. -/
def fpToIntCell (sat : Bool) (invalid : Nat) (lo hi : Int) (a : Word) : Nat :=
  match fpUnpackFtz a with
  | .nan _ => if sat then 0 else invalid
  | .inf n => if sat then wrapInt 32 (if n then lo else hi) else invalid
  | .fin n m e =>
    let (x, _) := fpToInt .rne n m e
    if x < lo || hi < x then (if sat then wrapInt 32 (clampInt lo hi x) else invalid) else wrapInt 32 x

def wd (v : Nat) : Word := BitVec.ofNat 32 v

/-- The result of an opcode whose end mark follows the mode field, from its operands and the lookup table (R47). -/
def opResult (w : Nat) (lut : Nat → Nat) (a b c : Nat) : Nat :=
  let sat := cwSat w
  let p := cwParam w
  let sh := b % 32
  match cwOpcode w with
  | 0x01 => a
  | 0x02 => resS sat (sgn a + sgn b)
  | 0x03 => resU sat ((a : Int) + b)
  | 0x04 => resS sat (sgn a - sgn b)
  | 0x05 => resU sat ((a : Int) - b)
  | 0x06 => if sgn a ≤ sgn b then a else b
  | 0x07 => min a b
  | 0x08 => if sgn a ≤ sgn b then b else a
  | 0x09 => max a b
  | 0x0A => wrapInt 32 (roundShr (sgn a + sgn b) 1)
  | 0x0B => roundShrNat (a + b) 1 % 2 ^ 32
  | 0x0C => resS sat (sgn a).natAbs
  | 0x0D => wrapInt 32 (sgn a - sgn b).natAbs
  | 0x10 => a &&& b
  | 0x11 => a ||| b
  | 0x12 => a ^^^ b
  | 0x13 => clearBits a b
  | 0x14 => if c != 0 then a else b
  | 0x18 => resS sat (sgn a * (2 ^ sh : Nat))
  | 0x19 => a >>> sh
  | 0x1A => wrapInt 32 (sgn a / (2 ^ sh : Nat))
  | 0x1B => wrapInt 32 (roundShr (sgn a) sh)
  | 0x1C => roundShrNat a sh
  | 0x20 => boolNat (a == b)
  | 0x21 => boolNat (a != b)
  | 0x22 => boolNat (decide (sgn a < sgn b))
  | 0x23 => boolNat (decide (a < b))
  | 0x24 => boolNat (decide (sgn a ≤ sgn b))
  | 0x25 => boolNat (decide (a ≤ b))
  | 0x28 => resS sat (sgn a * sgn b)
  | 0x29 => resU sat ((a : Int) * b)
  | 0x2A => wrapInt 32 (sgn a * sgn b / (2 ^ 32 : Nat))
  | 0x2B => (a * b) >>> 32
  | 0x2C => resS sat (roundShr (sgn a * sgn b) (p % 64))
  | 0x2D => half2 sat true a b (p % 16) + 65536 * half2 sat true (a >>> 16) (b >>> 16) (p % 16)
  | 0x2E => half2 sat false a b (p % 16) + 65536 * half2 sat false (a >>> 16) (b >>> 16) (p % 16)
  | 0x30 => (fpFinishCell sat (fpAddVal .rne (fpUnpackFtz (wd a)) (fpUnpackFtz (wd b)))).toNat
  | 0x31 => (fpFinishCell sat (fpAddVal .rne (fpUnpackFtz (wd a)) (fpNegVal (fpUnpackFtz (wd b))))).toNat
  | 0x32 => (fpFinishCell sat (fpMulVal (fpUnpackFtz (wd a)) (fpUnpackFtz (wd b)))).toNat
  | 0x33 => (fpFinishCell sat (fpFmaExact .rne (fpUnpackFtz (wd a)) (fpUnpackFtz (wd b)) (fpUnpackFtz (wd c)))).toNat
  | 0x34 => (fpFinishCell sat (fpFmaExact .rne (fpUnpackFtz (wd a)) (fpUnpackFtz (wd b)) (fpNegVal (fpUnpackFtz (wd c))))).toNat
  | 0x35 => (fpMinMax false (wd a) (wd b)).toNat
  | 0x36 => (fpMinMax true (wd a) (wd b)).toNat
  | 0x37 => match fpUnpackFtz (wd a) with
    | .nan _ => fpNaN.toNat
    | .fin _ 0 _ => 0
    | _ => a % 0x80000000
  | 0x38 => (fpRoundCell sat (decide (sgn a < 0)) (sgn a).natAbs 0).toNat
  | 0x39 => (fpRoundCell sat false a 0).toNat
  | 0x3A => fpToIntCell sat 0x80000000 (-2147483648) 2147483647 (wd a)
  | 0x3B => fpToIntCell sat 0xFFFFFFFF 0 4294967295 (wd a)
  | 0x40 => bitsOf (a >>> sh) 0 (bitsOf b 8 5 + 1)
  | 0x41 => wrapInt 32 (bfxSigned a sh (bitsOf b 8 5 + 1))
  | 0x42 =>
    let m := ((2 ^ (bitsOf c 8 5 + 1) - 1) <<< (c % 32)) % 2 ^ 32
    clearBits b m + ((a <<< (c % 32)) &&& m)
  | 0x43 => popcount 32 a
  | 0x44 => 32 - bitLen a
  | 0x45 => bitRev 32 a 0
  | 0x48 => lut (lutAddr w ((a >>> (p % 32)) % 256))
  | 0x49 =>
    let i := (a >>> (p % 32)) % 256
    let f := (a >>> (p % 32 - 8)) % 256
    let e0 := sgn (lut (lutAddr w i))
    let e1 := sgn (lut (lutAddr w (if i == 255 then 255 else i + 1)))
    wrapInt 32 (roundShr (e0 * 256 + (e1 - e0) * f) 8)
  | 0x50 => gfMul p a b
  | 0x51 => gfMul p a b + 256 * gfMul p (a >>> 8) (b >>> 8) + 65536 * gfMul p (a >>> 16) (b >>> 16) + 16777216 * gfMul p (a >>> 24) (b >>> 24)
  | _ => 0

/-- QERR (R50): the token data and the error that it carries on. -/
def qerr (w : Nat) (lut : Nat → Nat) (a b r : Nat) : Nat × Int :=
  let p := cwParam w
  let sat := cwSat w
  let s0 := sgn a + roundShr ((bitsOf p 4 4 : Nat) * sgn b) 4 + roundShr ((bitsOf p 0 4 : Nat) * sgn r) 4
  let s := sgn (resS sat s0)
  let e := fun j => lut (lutAddr w j)
  let thr := fun j => signedOf 16 (e j >>> 16)
  let lev := fun j => signedOf 16 (e j)
  let l : Nat := if thr 3 ≤ s then 3 else if thr 2 ≤ s then 2 else if thr 1 ≤ s then 1 else 0
  let e0 := s - lev l
  let er := if sat then clampInt (-536870912) 536870911 e0 else signedOf 30 (wrapInt 30 e0)
  (wrapInt 32 (er * 4 + (l : Int)), er)

/-! Checks of a word at load (R52, R53). -/

/-- The parts of param that an opcode reads hold allowed values and its other bits are 0 (R52). -/
def paramOk (w : Nat) : Bool :=
  let p := cwParam w
  match cwOpcode w with
  | 0x2C => decide (p ≤ 62)
  | 0x2D | 0x2E => decide (p ≤ 15)
  | 0x48 => decide (p ≤ 31)
  | 0x49 => decide (8 ≤ p) && decide (p ≤ 31)
  | 0x50 | 0x51 | 0x58 => true
  | 0x60 => decide (p ≤ 1)
  | 0x66 => p == 1 || p == 2 || p == 4 || p == 8 || p == 16
  | _ => p == 0

/-- emit_count is 0 where the opcode does not use it, and a PACKN count fits the word (R49, R51). -/
def emitOk (w : Nat) : Bool :=
  match cwOpcode w with
  | 0x64 | 0x65 => true
  | 0x66 => decide (cwEmit w ≤ 32 / cwParam w)
  | _ => cwEmit w == 0

/-- A source code of the table of R38. -/
def srcListed (c : Nat) : Bool := decide (c ≤ 5) || (decide (8 ≤ c) && decide (c ≤ 0x14))

/-- A configuration word passes the checks of R52 that look at the word alone. -/
def wordOk (w : Nat) : Bool :=
  cwCrc w == crc8Word w
  && bitsOf w 164 20 == 0 && bitsOf w 121 7 == 0 && bitsOf w 45 3 == 0 && bitsOf w 33 1 == 0
  && opcodesListed.contains (cwOpcode w)
  && srcListed (cwSrcA w) && srcListed (cwSrcB w) && srcListed (cwSrcC w)
  && decide (cwPred w ≤ 3)
  && (List.range 4).all (fun o => decide (cwPass w o ≤ 5) && (cwDrives w o || cwPass w o == 0))
  && (List.range 3).all (fun k =>
      (!cwConsume w k || srcIsLink (cwSrc w k) || cwSrc w k == 5) && (cwSrc w k != 5 || cwConsume w k))
  && paramOk w && emitOk w
  && (cwPred w == 0 || !(opReadsC (cwOpcode w) || opOwn (cwOpcode w)))
  && (!opOwn (cwOpcode w) || cwEndMode w == 0)
  && (!opRunning (cwOpcode w) || cwDestWe w)

/-- Each furrow of 8 words has at most one bus driver, and a driven bus has a reader (R35, R52). -/
def furrowOk (ws : List Nat) : Bool :=
  let drivers := (ws.filter cwBusDrive).length
  decide (drivers ≤ 1) && (drivers == 0 || ws.any cwReadsBus)

end Sys2Proof.Machine
end

