-- ==== Sys2Proof/Machine/Mesh.lean ====
section
/-! DEFINITION. The mesh as every unit sees it: end points, route tables, and the accesses that the fixed units make through their network interfaces.
Spec: 11_memory_and_network_on_chip.md R308 to R311, R318, R321, R328 to R330, R335, R338. -/

set_option Elab.async false

namespace Sys2Proof.Machine

def niOf (s : State) (k : Nat) : NetIf := tabGet {} s.noc.nis k
def setNi (s : State) (k : Nat) (x : NetIf) : State := { s with noc := { s.noc with nis := tabSet {} s.noc.nis k x } }

def setNoc (s : State) (x : NocState) : State := { s with noc := x }

/-! End points (R308, R309). -/

/-- Column and row of a target's router. -/
def targetRouter (t : Nat) : Nat × Nat :=
  if t < 24 then (t % 6, 1 + t / 6)
  else if t < 48 then ((t - 24) % 6, 1 + (t - 24) / 6)
  else if t < 54 then (t - 48, 5)
  else if t == 54 then (0, 0)
  else if t == 55 then (5, 0)
  else if t < 60 then (t - 55, 0)
  else if t == 60 then (0, 0)
  else if t == 61 then (5, 0)
  else if t == 62 then (0, 5)
  else (5, 5)

/-- Column and row of an interface's router. -/
def niRouter (k : Nat) : Nat × Nat :=
  if k < 8 then (1 + k / 2, 0)
  else if k == 8 then (1, 5)
  else if k == 9 then (2, 5)
  else if k == 10 || k == 11 then (3, 5)
  else if k == 12 then (4, 5)
  else if k == 13 then (5, 0)
  else (0, 0)

/-- What stands at a local port of a router. -/
inductive LocalPort
  | target (t : Nat)
  | ni (k : Nat)
  deriving DecidableEq, Repr

/-- The local ports of router 6y + x in their order: targets first, then interfaces (R308). Input or output 4 + i of R337 is local port i. -/
def localPorts (r : Nat) : List LocalPort :=
  let at_ := (r % 6, r / 6)
  let first := if r == 0 then [60, 54] else if r == 5 then [61, 55] else if r == 30 then [62, 48] else if r == 35 then [63, 53]
    else (List.range 64).filter (fun t => targetRouter t == at_)
  first.map .target ++ ((List.range 15).filter (fun k => niRouter k == at_)).map .ni

/-- The power domain of a target. -/
def targetDomain (t : Nat) : Nat :=
  if t < 24 then t
  else if t < 56 then 32 + (t - 24) / 8
  else if t < 60 then 24 + (t - 56)
  else if t == 60 then 38
  else if t == 61 then 41
  else t - 26

/-- The power domain of an interface. -/
def niDomain (k : Nat) : Nat := if k < 8 then 24 + k / 2 else if k == 14 then 38 else 41

/-- The target of an address through an interface (R309). -/
def targetOf (s : State) (ni a : Nat) : Option Nat :=
  if decide (0x10000000 ≤ a) && decide (a < 0x18000000) then some (56 + a % 0x10000000 / 0x02000000)
  else if decide (0x20000000 ≤ a) && decide (a < 0x22000000) then some (24 + a % 0x20000000 / 0x100000)
  else if decide (0x30000000 ≤ a) && decide (a < 0x30600000) then some (a % 0x10000000 / 0x40000)
  else if decide (0x38000000 ≤ a) && decide (a < 0x38180000) then some (a % 0x08000000 / 0x10000)
  else if decide (0x40000000 ≤ a) && decide (a < 0x44040000) then some 61
  else if inLpddrWindow a then some (62 + lpddrInterface s (lpddrExternal s ni a))
  else if decide (0xF0000000 ≤ a) && decide (a < 0xF0100000) then some 60
  else none

/-- The installed size of external memory. -/
def lpddrInstalled (s : State) : Nat := lpddrSize s 0 + lpddrSize s 1

/-! Route tables (R328 to R330). -/

/-- The hop codes of a minimal route: east or west first. -/
def minimalHops (p q : Nat × Nat) : List Nat :=
  List.replicate (q.1 - p.1) 1 ++ List.replicate (p.1 - q.1) 3 ++ List.replicate (q.2 - p.2) 2 ++ List.replicate (p.2 - q.2) 0

/-- Hop codes as the hops field. -/
def packHops : List Nat → Nat → Nat
  | [], _ => 0
  | h :: r, i => h <<< (24 + 2 * i) + packHops r (i + 1)

/-- The entry of the reset table. -/
def resetRoute (ni t : Nat) : Nat :=
  let h := minimalHops (niRouter ni) (targetRouter t)
  packHops h 0 + 8 <<< 52 + h.length <<< 56 + boolNat (ni == 9 || ni == 10 || ni == 12) <<< 60 + 1 <<< 63

def activeRoute (s : State) (ni t : Nat) : Nat := (tabFind (niOf s ni).active t).getD (resetRoute ni t)
def shadowRoute (s : State) (ni t : Nat) : Nat := (tabFind (niOf s ni).shadow t).getD (resetRoute ni t)

def routeValid (e : Nat) : Bool := bitOf e 63
def routeHops (e : Nat) : List Nat := (List.range (bitsOf e 56 4)).map (fun i => bitsOf e (24 + 2 * i) 2)
/-- The timeout of an entry in NCLK. -/
def routeTimeout (e : Nat) : Nat := 2 ^ (8 + bitsOf e 52 4)

/-- One hop; none leaves the mesh. -/
def hopStep (p : Nat × Nat) (h : Nat) : Option (Nat × Nat) :=
  match h with
  | 0 => if p.2 == 0 then none else some (p.1, p.2 - 1)
  | 1 => if p.1 == 5 then none else some (p.1 + 1, p.2)
  | 2 => if p.2 == 5 then none else some (p.1, p.2 + 1)
  | _ => if p.1 == 0 then none else some (p.1 - 1, p.2)

/-- The routers that a hop list visits; none leaves the mesh. -/
def routeRouters (p : Nat × Nat) : List Nat → Option (List (Nat × Nat))
  | [] => some [p]
  | h :: r => (hopStep p h).bind fun q => (routeRouters q r).map fun l => p :: l

/-- Two hops may follow each other: west first, no turn back. -/
def hopOrderOk : List Nat → Bool
  | a :: b :: r => !(b == 3 && a != 3) && !(a == 0 && b == 2) && !(a == 2 && b == 0) && hopOrderOk (b :: r)
  | _ => true

/-- A table entry meets R329 and R5. -/
def routeOk (ni t e : Nat) : Bool :=
  bitsOf e 48 4 == 0 && bitsOf e 0 24 == 0 &&
    (!routeValid e ||
      (decide (bitsOf e 56 4 ≤ 12) && hopOrderOk (routeHops e) &&
        match routeRouters (niRouter ni) (routeHops e) with
        | some l => l.getLast? == some (targetRouter t)
        | none => false))

/-- A router is on an entry's route. -/
def routeThrough (ni e r : Nat) : Bool :=
  match routeRouters (niRouter ni) (routeHops e) with
  | some l => l.any (fun p => 6 * p.2 + p.1 == r)
  | none => false

/-- The fenced bit of an entry (R334). -/
def routeFenced (s : State) (t : Nat) : Bool := s.noc.fenced.contains (targetDomain t)
/-- The suspended bit of an entry (R338). -/
def routeSuspended (s : State) (ni t : Nat) : Bool :=
  match s.noc.reconfig with
  | some (r, _, _) => routeThrough ni (activeRoute s ni t) r
  | none => false


/-! Router weights (R337). -/

/-- A router's weights. -/
def routerOf (s : State) (r : Nat) : RouterW := tabGet {} s.noc.routers r
def setRouter (s : State) (r : Nat) (x : RouterW) : State := setNoc s { s.noc with routers := tabSet {} s.noc.routers r x }
def onesTable : List Byte := List.replicate 64 1
/-- The active weights of a router; all 1 after reset (R337). -/
def routerWeights (s : State) (r : Nat) : List Byte := if (routerOf s r).active.isEmpty then onesTable else (routerOf s r).active

/-! Accesses of the fixed units (R310, R311, R318, R321, R335, R338). -/

/-- What stands in the way of an access: nothing, a suspended route, a window that the harrow has borrowed, a fence, an absorbing port, a route that is not valid, or the end of the installed memory. -/
inductive Passage
  | clear | suspended | borrowed | fenced | absorbed | unrouted | range
  deriving DecidableEq, Repr

/-- The targets that hold a byte of a region of bank memory or of the LPDDR5 window. -/
def rangeTargets (s : State) (ni a len : Nat) : List Nat :=
  if inLpddrWindow a then ((List.range 2).filter (fun i => lpddrHolds s i (lpddrExternal s ni a) len)).map (62 + ·)
  else ((List.range 32).filter (fun b => overlaps a len (0x20000000 + b * 0x100000) 0x100000)).map (24 + ·)

/-- How the network meets an access of a unit through its interface. -/
def unitGate (s : State) (ni a len : Nat) : Passage :=
  let ts := rangeTargets s ni a len
  if inLpddrWindow a && decide (lpddrInstalled s < lpddrExternal s ni a + len) then .range
  else if ts.any (routeFenced s) then .fenced
  else if ts.any (fun t => !routeValid (activeRoute s ni t)) then .unrouted
  else if ts.any (routeSuspended s ni) then .suspended
  else if !regionOn s ni a len || ts.any s.noc.isolated.contains then .absorbed
  else if rangeBorrowed s a len then .borrowed
  else .clear

/-- The same of a part of a ring, which may run over the ring's end. -/
def ringGate (s : State) (ni base size off len : Nat) : Passage :=
  let o := off % size
  match unitGate s ni (base + o) (min len (size - o)) with
  | .clear => if len ≤ size - o then .clear else unitGate s ni base (len - (size - o))
  | g => g

/-- What an access that is turned away leaves: the count and the cause of its answer (R321, R329, R335), or the NCLK since which it waits for the borrowed window (R318). -/
def unitTurned (s : State) (ni : Nat) (g : Passage) : State :=
  match g with
  | .range => setCause s .lpddr 6
  | .fenced => setCause (bump s (0x5010 + ni) 0x06) .noc 3
  | .unrouted => bump s (0x5010 + ni) 0x08
  | .borrowed => setNoc s { s.noc with heldSince := some (s.noc.heldSince.getD (nclk s)) }
  | _ => s

/-- A step whose access is turned away: it waits, and leaves what its answer leaves. -/
def turned (s : State) (ni : Nat) (g : Passage) : Option State :=
  match g with
  | .clear | .suspended | .absorbed => none
  | _ => some (unitTurned s ni g)

/-- The status that an access turned away is answered with; none where it waits. -/
def gateStatus (g : Passage) : Option Status :=
  match g with
  | .range | .unrouted => some .range
  | .fenced => some .fenced
  | .absorbed => some .absorbed
  | _ => none

/-- The units of 16 bytes of a region that lie in a bank: the address of the first, and how many (R310). -/
def bankUnits (b a len : Nat) : Nat × Nat :=
  let lo := max a (0x20000000 + b * 0x100000)
  let hi := min (a + len) (0x20000000 + (b + 1) * 0x100000)
  (lo / 16 * 16, (hi + 15) / 16 - lo / 16)

/-- The accesses of a unit to a region go to their banks, in which each 16-byte unit takes an NCLK under its master's code (R310 to R313; notes/assumptions/71.md). -/
def unitUse (s : State) (code ni a len : Nat) : State :=
  if inLpddrWindow a then s
  else (rangeTargets s ni a len).foldl (fun x t =>
    let u := bankUnits (t - 24) a len
    let h := nclk x + bitsOf (activeRoute x ni t) 56 4
    setNoc x { x.noc with
      heardAt := tabSet 0 x.noc.heardAt (targetDomain t) h
      banks := tabPut x.noc.banks (t - 24) (tabGet [] x.noc.banks (t - 24) ++ [{ code := code, ni := ni, tag := 0xFF, since := h, unit := some u }]) }) s

/-- The same of a part of a ring. -/
def ringUse (s : State) (code ni base size off len : Nat) : State :=
  let o := off % size
  let s1 := unitUse s code ni (base + o) (min len (size - o))
  if len ≤ size - o then s1 else unitUse s1 code ni base (len - (size - o))

end Sys2Proof.Machine
end

