-- ==== Sys2Proof/Machine/Queues.lean ====
section
/-! DEFINITION. The stream queues: packing, tags, the three stages, flush, spill regions, DMA, and their lifecycle.
Spec: 04_stream_queues.md R90 to R117; 14_power_and_clocks.md R402. -/

set_option Elab.async false

namespace Sys2Proof.Machine

def queueOf (s : State) (q : Nat) : Queue := tabGet {} s.queues q
def setQueue (s : State) (q : Nat) (x : Queue) : State := { s with queues := tabSet {} s.queues q x }

/-! Its objects: control index Q and status index Q + 1. -/
def qc (q : Nat) : Nat := 0x2800 + 2 * q
def qs (q : Nat) : Nat := 0x2801 + 2 * q
def qFarEnd (s : State) (q : Nat) : Nat := rd s (qc q) 0x03
def qFarUnit (s : State) (q : Nat) : Nat := rd s (qc q) 0x04
/-- 0 OFF, 1 STARTING, 2 ON, 3 STOPPING. -/
def qState (s : State) (q : Nat) : Nat := rd s (qs q) 0x01
def qPackets (s : State) (q : Nat) : Nat := rd s (qs q) 0x04
/-- Bytes of an item (R92). -/
def qItemBytes (s : State) (q : Nat) : Nat := 2 ^ rd s (qc q) 0x02
def qSpillBase (s : State) (q : Nat) : Nat := rd s (qs q) 0x07
def qSpillLength (s : State) (q : Nat) : Nat := rd s (qs q) 0x08
def qIsInput (q : Nat) : Bool := decide (q < 32)

/-- A flush is under way: from NCLK f to f + 3 (R109). -/
def qFlushing (s : State) (q : Nat) : Bool :=
  let x := queueOf s q
  x.flushing != 0 && decide (nclk s < x.flushing + 3)

/-- Complete words held (R100). -/
def qWords (x : Queue) : Nat := x.head.length + x.spill.length + x.tail.length

/-- Words held, the partly filled one counted (R106). -/
def qTotal (x : Queue) : Nat := qWords x + boolNat (x.partBytes != 0)

/-- The capacity C in words (R106). -/
def qCapacity (s : State) (q : Nat) : Nat := 16 + qSpillLength s q / 16

/-- The write side is ready for an item (R107); when spill writes fall behind, the tail stage fills (R108). -/
def qReady (s : State) (q : Nat) : Bool :=
  let x := queueOf s q
  qState s q == 2 && decide (qPackets s q < 65535)
    && (x.partBytes != 0 || (decide (qTotal x < qCapacity s q) && decide (x.tail.length < 8)))

/-- Words pass from the tail to the head while the spill region is empty, no spill write has been issued, and the head has room, with fuel for each (R106). -/
def qPass : Nat → Queue → Queue
  | 0, x => x
  | n + 1, x =>
    match x.tail with
    | w :: r => if x.spill.isEmpty && !x.writing && decide (x.head.length < 8) then qPass n { x with head := x.head ++ [w], tail := r } else x
    | [] => x

/-- The packet counter set; PACKET is set when it goes from 0 to 1 (R95, R117). -/
def setPackets (s : State) (q n : Nat) : State :=
  let s1 := wr s (qs q) 0x04 n
  if qPackets s q == 0 && n == 1 then setCause s1 (.queue q) 0 else s1

/-- An item written into the partly filled word, which it may complete (R92, R93, R95). -/
def qWriteItem (s : State) (q v : Nat) (last : Bool) : State :=
  let x := queueOf s q
  let w := qItemBytes s q
  let data := x.partData + (v % 2 ^ (8 * w)) <<< (8 * x.partBytes)
  let n := x.partBytes + w
  if last || decide (16 ≤ n) then
    let word : QWord := { data := data, valid := n, last := last, readable := nclk s + 2 }
    let s1 := setQueue s q (qPass 8 { x with tail := x.tail ++ [word], partData := 0, partBytes := 0 })
    if last then setPackets s1 q (qPackets s1 q + 1) else s1
  else setQueue s q { x with partData := data, partBytes := n }

/-- LengthPending: a staged value differs from the active one (R111). -/
def qLengthPending (s : State) (q : Nat) : Bool :=
  rd s (qc q) 0x05 != qSpillBase s q || rd s (qc q) 0x06 != qSpillLength s q

/-- The staged region becomes the active one, with both pointers at its start (R112). -/
def qApplyRegion (s : State) (q : Nat) : State :=
  let s1 := wr (wr s (qs q) 0x07 (rd s (qc q) 0x05)) (qs q) 0x08 (rd s (qc q) 0x06)
  setQueue s1 q { queueOf s1 q with spillRead := 0, spillWrite := 0 }

/-- A staged region applied, with APPLIED set (R112). -/
def regionApplied (s : State) (q : Nat) : State := setCause (qApplyRegion s q) (.queue q) 2

/-- A write of 2 to Flush applies the staged region at NCLK f + 3, whatever the occupancy; from then on the flush is as one by a write of 1 (R112). -/
def flushApplyDue (s : State) (q : Nat) : Bool :=
  let x := queueOf s q
  qState s q == 2 && x.flushing != 0 && decide (x.flushing + 2 ≤ nclk s) && rd s (qc q) 0x07 == 2

def flushApply (s : State) (q : Nat) : State :=
  let s1 := wr s (qc q) 0x07 1
  if qLengthPending s q then regionApplied s1 q else s1

/-- The flush is over from the start of NCLK f + 4 (R109). -/
def flushOver (s : State) (q : Nat) : Bool := qState s q == 2 && (queueOf s q).flushing != 0 && !qFlushing s q

/-- A staged region is applied while the queue holds no word, no partial word and no outstanding spill access, from NCLK f + 4 of a flush on (R112). -/
def stagedDue (s : State) (q : Nat) : Bool :=
  qState s q != 0 && !qFlushing s q && qLengthPending s q && qTotal (queueOf s q) == 0 && rd s (qs q) 0x09 == 0

/-- What the cycles of a flush and the staged region have brought by now: it comes before an item is accepted, and before another region is staged (R112). -/
def queueNow (s : State) (q : Nat) : State :=
  let s1 := if flushApplyDue s q then flushApply s q else s
  let s2 := if flushOver s1 q then wr (setQueue s1 q { queueOf s1 q with flushing := 0 }) (qc q) 0x07 0 else s1
  if stagedDue s2 q then regionApplied s2 q else s2

/-- FLUSH_COMPLETE: the flush completes (R109). -/
def flushComplete (s : State) (q : Nat) : Option State := if flushOver s q then some (queueNow s q) else none

/-- STAGED_REGION_APPLY: the staged region is applied, at f + 3 of a flush by a write of 2 or in a queue that is empty (R112). -/
def stagedApply (s : State) (q : Nat) : Option State := if flushApplyDue s q || stagedDue s q then some (queueNow s q) else none

/-- An item offered to the write side: dropped and counted during a flush, written when the side is ready, else not taken (R107, R109). -/
def qOffer (s : State) (q v : Nat) (last : Bool) : Option State :=
  let z := queueNow s q
  if qState z q == 2 && qFlushing z q then some (setCause (bump z (qs q) 0x0B) (.queue q) 1)
  else if qReady z q then some (qWriteItem z q v last)
  else none

/-- The head word, if a complete word is readable now (R96, R107, R109). -/
def qHead (s : State) (q : Nat) : Option QWord :=
  let x := queueOf s q
  match x.head with
  | w :: _ => if qState s q == 2 && !qFlushing s q && decide (w.readable ≤ nclk s) then some w else none
  | [] => none

/-- The tag of a word, with the packets that remain once it is removed (R94). -/
def qTag (s : State) (q : Nat) (w : QWord) : Nat :=
  (qPackets s q - boolNat w.last) * 65536 + boolNat (queueOf s q).flushSeen * 1024 + boolNat w.last * 256 + w.valid

/-- The tag of the idle item (R96). -/
def idleTag : Nat := 0x200

/-- The head word removed (R95). -/
def qTake (s : State) (q : Nat) : State :=
  let x := queueOf s q
  match x.head with
  | w :: r =>
    let s1 := setQueue s q (qPass 8 { x with head := r, flushSeen := false })
    if w.last then wr s1 (qs q) 0x04 (qPackets s q - 1) else s1
  | [] => s

/-- Words that the stages can still take: those of the tail, and those of the head while words pass straight on (R106, R108). -/
def stageRoom (x : Queue) : Nat :=
  8 - x.tail.length + (if x.spill.isEmpty && !x.writing then 8 - x.head.length else 0) - boolNat (x.partBytes != 0)

/-- Items that can be written now without refusal: in the words that capacity and stages leave, and in the partly filled one (R100). -/
def qSpace (s : State) (q : Nat) : Nat :=
  let x := queueOf s q
  let w := qItemBytes s q
  if qState s q != 2 || qFlushing s q || qPackets s q == 65535 then 0
  else min (qCapacity s q - qTotal x) (stageRoom x) * (16 / w) + (if x.partBytes == 0 then 0 else (16 - x.partBytes) / w)

/-! Contents discarded, and the flush (R109 to R113). -/

/-- The spill accesses that a queue has issued complete where they were sent, and their data is discarded (R113). -/
def spillStale (s : State) (q : Nat) : State :=
  let old := fun (w : BankWait) => match w.spill with
    | some a => if a.queue == q then { w with spill := some { a with stale := true } } else w
    | none => w
  { s with noc := { s.noc with banks := s.noc.banks.map (fun b => (b.1, b.2.map old)) } }

/-- What a flush clears; the next word read has flush_seen, and the next DMA record flags[0]. -/
def qClear (s0 : State) (q : Nat) : State :=
  let s := spillStale s0 q
  let x := queueOf s q
  wr (setQueue s q { x with writing := false, reading := false, head := [], spill := [], spillRead := 0, spillWrite := 0, tail := [], partData := 0, partBytes := 0,
                            rest := [], flushSeen := true, dmaFlushSeen := true,
                            dmaPos := if qIsInput q then x.dmaPos else 0 }) (qs q) 0x04 0

/-- A write of 1 or 2 to Flush (R109, R110). -/
def queueFlush (s : State) (q v : Nat) : State × Status :=
  if qState s q != 2 || qFlushing s q then (s, .state)
  else
    let s1 := qClear (queueNow s q) q
    (wr (setQueue s1 q { queueOf s1 q with flushing := nclk s + 1 }) (qc q) 0x07 v, .ok)

/-- The spill region of R111: length, alignment, place, and no overlap with another queue that is not OFF. -/
def spillRegionOk (s : State) (q base len : Nat) : Bool :=
  (len == 0 || (len % 4096 == 0 && decide (len ≤ 0x100000)))
  && base % 4096 == 0 && decide (0x20000000 ≤ base) && decide (base + len ≤ 0x22000000)
  && (List.range 64).all (fun p => p == q || qState s p == 0
      || (!overlaps base len (qSpillBase s p) (qSpillLength s p) && !overlaps base len (rd s (qc p) 0x05) (rd s (qc p) 0x06)))

/-- A write to SpillBase (sub-index 5) or SpillLength (6): checked, then staged, and active at once while the queue is OFF (R111). -/
def spillRegionWrite (s0 : State) (q sub v : Nat) : State × Status :=
  let s := queueNow s0 q
  let base := if sub == 0x05 then v else rd s (qc q) 0x05
  let len := if sub == 0x06 then v else rd s (qc q) 0x06
  if !spillRegionOk s q base len then (s, .range)
  else
    let s1 := wr s (qc q) sub v
    (if qState s q == 0 then qApplyRegion s1 q else s1, .ok)

/-! Spill accesses (R106, R108). -/

/-- A spill access goes to its bank, as master 4, and is counted until it is performed (R311, R113). -/
def spillIssue (s : State) (a : SpillAccess) : State :=
  let b := a.addr % 0x20000000 / 0x100000
  let w : BankWait := { code := 4, ni := 8, tag := 0xFF, since := nclk s, spill := some a }
  wr { s with noc := { s.noc with banks := tabPut s.noc.banks b (tabGet [] s.noc.banks b ++ [w]) } } (qs a.queue) 0x09 (rd s (qs a.queue) 0x09 + 1)

/-- The oldest word of the tail must go through the spill region, which has room for it, and none is on its way. -/
def spillWriteReady (s : State) (q : Nat) : Bool :=
  let x := queueOf s q
  qState s q == 2 && !qFlushing s q && !x.writing && !x.tail.isEmpty && decide (x.spill.length < qSpillLength s q / 16)
    && (!x.spill.isEmpty || decide (8 ≤ x.head.length)) && regionOn s 8 (qSpillBase s q) (qSpillLength s q)

def spillWriteTo (s : State) (q : Nat) : State :=
  let x := queueOf s q
  let w := x.tail.headD {}
  spillIssue (setQueue s q { x with writing := true }) { queue := q, write := true, addr := qSpillBase s q + x.spillWrite, data := w.data }

/-- SPILL_WRITE: the write of the oldest tail word is issued to its bank; the word stays in the tail until the bank grants it. -/
def spillWrite (s : State) (q : Nat) : Option State := if spillWriteReady s q then some (spillWriteTo s q) else none

/-- The head has room for the oldest word of the spill region, and none is on its way. -/
def spillReadReady (s : State) (q : Nat) : Bool :=
  let x := queueOf s q
  qState s q == 2 && !qFlushing s q && !x.reading && !x.spill.isEmpty && decide (x.head.length < 8)
    && regionOn s 8 (qSpillBase s q) (qSpillLength s q)

def spillReadTo (s : State) (q : Nat) : State :=
  let x := queueOf s q
  spillIssue (setQueue s q { x with reading := true }) { queue := q, write := false, addr := qSpillBase s q + x.spillRead }

/-- SPILL_READ: the read of the oldest spilled word is issued to its bank. -/
def spillRead (s : State) (q : Nat) : Option State := if spillReadReady s q then some (spillReadTo s q) else none

/-- The word that a granted spill write has stored leaves the tail for the spill region. -/
def spillStored (s : State) (q : Nat) : State :=
  let x := queueOf s q
  setQueue s q { x with writing := false, spill := x.spill ++ x.tail.take 1, tail := x.tail.drop 1, spillWrite := (x.spillWrite + 16) % qSpillLength s q }

/-- The word that a granted spill read returns at the end of the next NCLK joins the head (R310). -/
def spillFetched (s : State) (q data : Nat) : State :=
  let x := queueOf s q
  let w := { x.spill.headD {} with data := data, readable := nclk s + 2 }
  setQueue s q (qPass 8 { x with reading := false, head := x.head ++ [w], spill := x.spill.drop 1, spillRead := (x.spillRead + 16) % qSpillLength s q })

/-- A spill access that its bank grants: a stale one reads or writes the old region and does nothing else (R113). -/
def spillDone (s : State) (a : SpillAccess) : State :=
  let s1 := wr s (qs a.queue) 0x09 (rd s (qs a.queue) 0x09 - 1)
  let s2 := if a.write then memWrite s1 a.addr (leBytes 16 a.data) else s1
  if a.stale then s2
  else if a.write then spillStored s2 a.queue
  else spillFetched s2 a.queue (memNat s2 a.addr 16)

/-! The Peg core data port (R100 to R102). -/

/-- ITEM, ITEM_END, POP, PEEK and LATCH are served for this core in this direction (R101). -/
def portServed (s : State) (q core : Nat) (input : Bool) : Bool :=
  qState s q == 2 && qFarEnd s q == 1 && qFarUnit s q == core && qIsInput q == input

/-- A store of one item (R100 to R102). -/
def portItem (s : State) (q core v : Nat) (last : Bool) : State × Status :=
  if !portServed s q core true then (s, .state)
  else match qOffer s q v last with
    | some s1 => (s1, .ok)
    | none => (bump s (qs q) 0x0C, .state)

/-- A load of POP (R100). -/
def portPop (s : State) (q core : Nat) : State × Except Status Nat :=
  if !portServed s q core false then (s, .error .state)
  else match qHead s q with
    | some w =>
      let tag := qTag s q w
      let s1 := qTake s q
      (setQueue s1 q { queueOf s1 q with latch := w.data }, .ok tag)
    | none => (setQueue s q { queueOf s q with latch := 0 }, .ok idleTag)

/-- A load of PEEK (R100). -/
def portPeek (s : State) (q core : Nat) : Except Status Nat :=
  if !portServed s q core false then .error .state
  else match qHead s q with
    | some w => .ok (qTag s q w)
    | none => .ok idleTag

/-- A load from the data port of queue q at an offset, with its size in bytes (R100, R101). -/
def portLoad (s : State) (q core off size : Nat) : State × Except Status Nat :=
  if size != 4 then (s, .error .type)
  else if off == 0x010 then portPop s q core
  else if off == 0x014 then (s, portPeek s q core)
  else if 0x020 ≤ off && off < 0x030 && off % 4 == 0 then
    (s, if portServed s q core false then .ok (bitsOf (queueOf s q).latch (8 * (off - 0x020)) 32) else .error .state)
  else if off == 0x040 then (s, .ok (qPackets s q))
  else if off == 0x044 then (s, .ok (qWords (queueOf s q)))
  else if off == 0x048 then (s, .ok (qSpace s q))
  else (s, .error .type)

/-- A store to the data port of queue q at an offset (R100, R101). -/
def portStore (s : State) (q core off size v : Nat) : State × Status :=
  if (off == 0x000 || off == 0x004) && size == qItemBytes s q then portItem s q core v (off == 0x004)
  else (s, .type)

/-! The DMA far ends (R103 to R105). -/

def ringBase (s : State) (q : Nat) : Nat := physAddr s 8 (rd s (qc q) 0x09)
def ringSize (s : State) (q : Nat) : Nat := rd s (qc q) 0x0A
def hostIndex (s : State) (q : Nat) : Nat := rd s (qc q) 0x0B
def engineIndex (s : State) (q : Nat) : Nat := rd s (qc q) 0x0C

/-- The far end is a DMA and its ring is reachable. -/
def dmaReady (s : State) (q : Nat) : Bool :=
  qState s q == 2 && (qFarEnd s q == 2 || qFarEnd s q == 3) && regionOn s 8 (rd s (qc q) 0x09) (ringSize s q)

/-- How the network meets the access of a DMA to a part of its ring (R318, R321, R335). -/
def dmaGate (s : State) (q off len : Nat) : Passage := ringGate s 8 (rd s (qc q) 0x09) (ringSize s q) off len

/-- The accesses of a DMA to a part of its ring go to their banks, as master 14 (R311). -/
def dmaUse (s : State) (q off len : Nat) : State := ringUse s 14 8 (rd s (qc q) 0x09) (ringSize s q) off len

/-- Items of a record offered one after another until one is not taken: the state and how many were taken. -/
def dmaItems (q w : Nat) : List Byte → Nat → Nat → State → State × Nat
  | _, 0, k, s => (s, k)
  | b, n + 1, k, s =>
    (qOffer s q (leAt b 0 w) (n == 0)).elim (s, k) (fun s1 => dmaItems q w (b.drop w) n (k + 1) s1)

/-- An input DMA reads the record at DmaEngineIndex and writes its items; the index moves past the record once all are written (R104, R105). -/
def dmaInput (s : State) (q : Nat) : Option State :=
  let x := queueOf s q
  let size := ringSize s q
  let e := engineIndex s q
  if !(dmaReady s q && qIsInput q) || x.dmaStopped || e == hostIndex s q then none
  else
    let avail := (hostIndex s q + size - e) % size
    let n := leNat (ringRead s (ringBase s q) size e 4)
    let w := qItemBytes s q
    let recSize := 16 + (n + 15) / 16 * 16
    if dmaGate s q e (min recSize avail) != .clear then turned s 8 (dmaGate s q e (min recSize avail))
    else if n == 0 || n % w != 0 || decide (avail < recSize) then
      some (setCause (bump (setQueue s q { x with dmaStopped := true }) (qs q) 0x0D) (.queue q) 4)
    else
      let body := ringRead s (ringBase s q) size (e + 16) n
      let total := n / w
      let s0 := dmaUse s q (e + (if x.dmaPos == 0 then 0 else 16 + w * x.dmaPos)) (min recSize (if x.dmaPos == 0 then recSize else n - w * x.dmaPos))
      let (s1, k) := dmaItems q w (body.drop (w * x.dmaPos)) (total - x.dmaPos) 0 s0
      if x.dmaPos + k == total then
        some (wr (setQueue s1 q { queueOf s1 q with dmaPos := 0 }) (qc q) 0x0C ((e + recSize) % size))
      else if k == 0 then none
      else some (setQueue s1 q { queueOf s1 q with dmaPos := x.dmaPos + k })

/-- Words of the packet at the head written into the unpublished record one after another: the state, and the end word once it is written. A record that brings the index to within 16 bytes of the host index is longer than `room` - 32 (R104). -/
def dmaWords (q e room : Nat) : Nat → State → State × Option QWord
  | 0, s => (s, none)
  | n + 1, s =>
    let x := queueOf s q
    match qHead s q with
    | some w =>
      if room < 16 + 16 * (x.dmaPos + 1) + 32 || dmaGate s q e (16 + 16 * (x.dmaPos + 1)) != .clear then (s, none)
      else
        let s0 := dmaUse s q (e + 16 + 16 * x.dmaPos) 16
        let s1 := ringWrite s0 (ringBase s q) (ringSize s q) (e + 16 + 16 * x.dmaPos) (leBytes 16 w.data)
        let s2 := qTake s1 q
        let s3 := setQueue s2 q { queueOf s2 q with dmaPos := x.dmaPos + 1 }
        if w.last then (s3, some w) else dmaWords q e room n s3
    | none => (s, none)

/-- An output DMA writes the words of the packet at the head as a ring record, and publishes the record by DmaEngineIndex once its end word is written (R104). -/
def dmaOutput (s : State) (q : Nat) : Option State :=
  let size := ringSize s q
  let e := engineIndex s q
  let room := (hostIndex s q + size - e - 1) % size + 1
  let g := dmaGate s q e (16 + 16 * ((queueOf s q).dmaPos + 1))
  if !(dmaReady s q && !qIsInput q) || (qHead s q).isNone || decide (room < 16 + 16 * ((queueOf s q).dmaPos + 1) + 32) then none
  else if g != .clear then turned s 8 g
  else match dmaWords q e room 8 s with
    | (s1, some w) =>
      let x := queueOf s1 q
      let hd := leBytes 4 (16 * (x.dmaPos - 1) + w.valid) ++ leBytes 4 (boolNat x.dmaFlushSeen) ++ leBytes 8 0
      let s2 := ringWrite (dmaUse s1 q e 16) (ringBase s q) size e hd
      some (wr (setQueue s2 q { x with dmaPos := 0, dmaFlushSeen := false }) (qc q) 0x0C ((e + 16 + 16 * x.dmaPos) % size))
    | (s1, none) => some s1

/-- A write to DmaHostIndex, which makes a stopped record be tried again (R105). -/
def dmaHostWrite (s : State) (q v : Nat) : State × Status :=
  if v % 16 != 0 || decide (ringSize s q ≤ v) then (s, .range)
  else (setQueue (wr s (qc q) 0x0B v) q { queueOf s q with dmaStopped := false }, .ok)

/-! Starting and stopping (R114, R115). -/

/-- The claim of R91. -/
def queueClaims (s : State) (q : Nat) : List Nat :=
  if qFarEnd s q == 4 then [0x54 + qFarUnit s q] else if qFarEnd s q == 5 then [0x5A + qFarUnit s q] else []

/-- The holder code of a queue (R380). -/
def queueHolder (q : Nat) : Nat := 0x0800 + q

/-- Step 1 of R114. -/
def farEndOk (s : State) (q : Nat) : Bool :=
  let u := qFarUnit s q
  match qFarEnd s q with
  | 1 => decide (u ≤ 7)
  | 2 => u == 0
  | 3 => u == 0
  | 4 => qIsInput q && decide (u ≤ 5) && rd s (qc q) 0x02 == 2
  | 5 => !qIsInput q && decide (u ≤ 23) && rd s (qc q) 0x02 == 2
  | _ => false

/-- The DMA ring meets R103, where the far end is a DMA. -/
def dmaRingOk (s : State) (q : Nat) : Bool :=
  let a := rd s (qc q) 0x09
  let n := ringSize s q
  let sizeOk := a % 16 == 0 && n % 16 == 0 && decide (4096 ≤ n) && decide (n ≤ 0x1000000)
  match qFarEnd s q with
  | 2 => sizeOk && decide (0x20000000 ≤ a) && decide (a + n ≤ 0x22000000)
  | 3 => sizeOk && decide (0x80000000 ≤ a) && decide (a + n ≤ 0xF0000000)
  | _ => true

/-- Steps 1 to 3 of R114. -/
def queueChecks (s : State) (q : Nat) : Status :=
  if !farEndOk s q then .range
  else if !(spillRegionOk s q (rd s (qc q) 0x05) (rd s (qc q) 0x06) && dmaRingOk s q) then .range
  else if !(regionOn s 8 (rd s (qc q) 0x05) (rd s (qc q) 0x06)
      && ((qFarEnd s q != 2 && qFarEnd s q != 3) || regionOn s 8 (rd s (qc q) 0x09) (ringSize s q))) then .state
  else .ok

/-- Entry to STARTING: the staged region made active, pointers and DMA indices 0. -/
def queueStart (s : State) (q : Nat) : State :=
  let s1 := qApplyRegion s q
  let s2 := wr (wr s1 (qc q) 0x0B 0) (qc q) 0x0C 0
  let s3 := setQueue s2 q { queueOf s2 q with stopLatched := false, dmaStopped := false, dmaPos := 0 }
  enter (wr s3 (qs q) 0x02 0) (qs q) 0x01 1

/-- A write of 1 to Enable (R114, R115, R402). -/
def queueEnable (s : State) (q : Nat) : State × Status :=
  match qState s q with
  | 0 =>
    match queueChecks s q with
    | .ok =>
      let (s1, ok) := takeClaims s (queueHolder q) (queueClaims s q)
      if ok then (wr (wr (queueStart s1 q) (qc q) 0x01 1) (qs q) 0x0E 0, .ok)
      else (wr s1 (qs q) 0x0E Status.resourceInUse.code, .resourceInUse)
    | st => (wr s (qs q) 0x0E st.code, st)
  | 3 => (wr (wr (wr s (qs q) 0x02 1) (qc q) 0x01 1) (qs q) 0x0E Status.restartPending.code, .restartPending)
  | _ => (wr (setQueue s q { queueOf s q with stopLatched := false }) (qc q) 0x01 1, .ok)

/-- Entry to STOPPING: the contents discarded as by a flush. DESIGN CHOICE (unsafe), log entry 129: a token that an output edge port has accepted and not yet written goes with them, uncounted; a flush leaves it there (R109, R110 and R115 name no such token). A flush that is running ends with the stop, and Flush reads 0: DESIGN CHOICE, log 153. -/
def queueStop (s : State) (q : Nat) : State :=
  let s1 := qClear s q
  let s2 := wr (setQueue s1 q { queueOf s1 q with stopLatched := false, flushing := 0 }) (qc q) 0x07 0
  let s3 := { s2 with arr := { s2.arr with edgeOut := if qIsInput q then s2.arr.edgeOut else tabErase s2.arr.edgeOut (q - 32) } }
  enter s3 (qs q) 0x01 3

/-- A write of 0 to Enable (R115). -/
def queueDisable (s : State) (q : Nat) : State × Status :=
  let s1 := wr s (qc q) 0x01 0
  match qState s q with
  | 1 => (setQueue s1 q { queueOf s1 q with stopLatched := true }, .ok)
  | 2 => (queueStop s1 q, .ok)
  | 3 => (wr s1 (qs q) 0x02 0, .ok)
  | _ => (s1, .ok)

/-- 8 NCLK after entry, STARTING ends in ON, and with a stop latched goes on to STOPPING (R115). -/
def queueStarted (s : State) (q : Nat) : Option State :=
  if qState s q == 1 && elapsed s (qs q) 0x01 (8 * 2000) then
    let s1 := setCause (enter s (qs q) 0x01 2) (.queue q) 3
    some (if (queueOf s q).stopLatched then queueStop s1 q else s1)
  else none

/-- STOPPING ends after 4 NCLK with no spill access outstanding: in OFF, or in STARTING when a restart is pending and its checks pass (R115). -/
def queueStopped (s : State) (q : Nat) : Option State :=
  if qState s q == 3 && elapsed s (qs q) 0x01 (4 * 2000) && rd s (qs q) 0x09 == 0 then
    let off := fun x => setCause (enter (releaseAll (wr x (qs q) 0x02 0) (queueHolder q)) (qs q) 0x01 0) (.queue q) 3
    if rd s (qs q) 0x02 == 1 then
      match queueChecks s q with
      | .ok => some (wr (queueStart s q) (qs q) 0x0E 0)
      | st => some (wr (wr (off s) (qc q) 0x01 0) (qs q) 0x0E st.code)
    else some (off s)
  else none

/-- A queue's spill region or ring lies in a domain (R116). -/
def queueIn (s : State) (q pd : Nat) : Bool :=
  regionIn s 8 (qSpillBase s q) (qSpillLength s q) pd || ((qFarEnd s q == 2 || qFarEnd s q == 3) && regionIn s 8 (rd s (qc q) 0x09) (ringSize s q) pd)

/-- Queues whose spill region or ring lies in a domain that begins FENCING are stopped, and SPILL_LOST is set (R116). -/
def queuesFenced (s : State) (pd : Nat) : State :=
  (List.range 64).foldl (fun x q =>
    if qState x q != 0 && queueIn x q pd then
      setCause (queueDisable x q).1 (.queue q) 5
    else x) s

/-- Every queue OFF with its contents lost, when SYS leaves ON (R115). -/
def queuesLost (s : State) : State :=
  (List.range 64).foldl (fun x q =>
    wr (wr (wr (wr (wr (releaseAll x (queueHolder q)) (qs q) 0x01 0) (qs q) 0x02 0) (qs q) 0x04 0) (qs q) 0x09 0) (qc q) 0x01 0) { s with queues := [] }

end Sys2Proof.Machine
end

