-- ==== Sys2Proof/Machine/Array.lean ====
section
/-! DEFINITION. The stream array in motion: firing, completion, delivery, headland paths, bypass stages, drill streams, and the switches of a retune.
Spec: 02_array_cells.md R22 to R50; 03_fields_and_tunings.md R54 to R70, R77 to R83, R465. -/

set_option Elab.async false

namespace Sys2Proof.Machine

/-! Parts of the array. -/

def fieldOf (s : State) (f : Nat) : Field := tabGet {} s.arr.fields f
def setField (s : State) (f : Nat) (x : Field) : State :=
  { s with arr := { s.arr with fields := tabSet {} s.arr.fields f x } }
def cellOf (x : Field) (c : Nat) : Cell := tabGet {} x.cells c
def setCell (x : Field) (c : Nat) (y : Cell) : Field := { x with cells := tabSet {} x.cells c y }
def slotOf (x : Field) (k : Nat) : Slot := tabGet {} x.slots k
def setSlot (x : Field) (k : Nat) (y : Slot) : Field := { x with slots := tabSet {} x.slots k y }
def busOf (x : Field) (u : Nat) : FurrowBus := tabGet {} x.bus u
def setBus (x : Field) (u : Nat) (y : FurrowBus) : Field := { x with bus := tabSet {} x.bus u y }
/-- Stream 0 (read) or 1 (write) of drill unit `d`. -/
def streamOf (x : Field) (d t : Nat) : DrillStream := tabGet {} x.streams (2 * d + t)
def setStream (x : Field) (d t : Nat) (y : DrillStream) : Field := { x with streams := tabSet {} x.streams (2 * d + t) y }
/-- The tokens of a bypass stage: furrow and direction, 0 east and 1 west. -/
def stageOf (x : Field) (u dir : Nat) : List Held := tabGet [] x.stages (2 * u + dir)
def setStage (x : Field) (u dir : Nat) (l : List Held) : Field := { x with stages := tabSet [] x.stages (2 * u + dir) l }

/-- ActiveSlot of a field: 0xFF for none. -/
def activeSlot (s : State) (f : Nat) : Nat := rd s (0x2000 + 0x40 * f) 0x03
/-- RowBypass of a field row (R55). -/
def rowBypass (s : State) (r : Nat) : Nat := rd s 0x2600 (r + 1)
/-- Whether a physical field is the bypassed one of its row (R57). -/
def isBypassed (s : State) (f : Nat) : Bool := rowBypass s (f / 6) == f % 6
/-- The logical field number of a physical field; 0xFF when it is bypassed (R55). -/
def logicalField (s : State) (f : Nat) : Nat :=
  let b := rowBypass s (f / 6)
  let p := f % 6
  if b == p then 0xFF else 6 * (f / 6) + (if b < p then p - 1 else p)
/-- The physical field of a logical field, when the row has it (R55). -/
def physicalField (s : State) (lf : Nat) : Option Nat :=
  let r := lf / 6
  let b := rowBypass s r
  let j := lf % 6
  let p := if j < b then j else j + 1
  if b == 6 then some lf else if p ≤ 5 then some (6 * r + p) else none
/-- The capo is held (CapoState 2). -/
def capoHeld (s : State) : Bool := rd s 0x2601 0x02 == 2
/-- RetuneState of a field. -/
def retuneState (s : State) (f : Nat) : Nat := rd s (0x2006 + 0x40 * f) 0x01
/-- A halt or the capo freezes a field in ACLK n (R84, R85). -/
def frozenIn (x : Field) (n : Nat) : Bool :=
  match x.frozenAt with
  | some k => decide (k ≤ n)
  | none => false
/-- A field takes part in the array, and nothing freezes it in ACLK n (R57, R84, R85). -/
def movingIn (s : State) (f n : Nat) : Bool :=
  domOn s f && !frozenIn (fieldOf s f) n && activeSlot s f != 0xFF && !isBypassed s f
def fieldMoving (s : State) (f : Nat) : Bool := movingIn s f (aclk s)
/-- DRAIN has closed the inbound paths of the field in ACLK n and stopped its sources: from m + 1 up to and with the ACLK of the switch (R80). -/
def drainingIn (s : State) (f n : Nat) : Bool :=
  let x := fieldOf s f
  (x.ended.at_ == n + 1 && x.ended.mode == 1)
  || (retuneState s f == 2 && (match x.retune with | some r => r.mode == 1 && decide (r.startAclk < n) | none => false))
def draining (s : State) (f : Nat) : Bool := drainingIn s f (aclk s)

/-- The active slot as ACLK n works with it: a retune that changes over at the end of the ACLK leaves the old one in use until then (R79, R80). -/
def slotIn (s : State) (f n : Nat) : Nat :=
  let e := (fieldOf s f).ended
  if e.at_ == n + 1 then e.slot else activeSlot s f
/-- The slot that a cell or stream uses in ACLK n, by its switch mark: it goes over to the target of an AT_END retune on its own (R81). -/
def markSlotIn (s : State) (f mark n : Nat) : Nat :=
  let x := fieldOf s f
  let since := fun (m : Nat) => decide (m < mark) && decide (mark ≤ n)
  let base := if since x.ended.start then activeSlot s f else slotIn s f n
  match x.retune with
  | some r => if retuneState s f == 2 && r.mode == 2 && since r.startAclk then r.target else base
  | none => base
/-- The slot whose word a cell uses. -/
def cellSlot (s : State) (f c : Nat) : Nat := markSlotIn s f (cellOf (fieldOf s f) c).switchedAt (aclk s)
/-- The word of a cell in a slot. -/
def wordOf (x : Field) (slot c : Nat) : Nat := tabGet 0 (slotOf x slot).words c
/-- The headland setting of a port in ACLK n (R59). -/
def portIn (s : State) (f port n : Nat) : Nat := tabGet 0 (slotOf (fieldOf s f) (slotIn s f n)).headland port
def portSetting (s : State) (f port : Nat) : Nat := portIn s f port (aclk s)
/-- A field's port is LINK in its active tuning; while its domain is not ON its ports are CLOSED to its neighbours (R60, R403). -/
def portLinked (s : State) (f port : Nat) : Bool :=
  domOn s f && !isBypassed s f && activeSlot s f != 0xFF && portSetting s f port == 1

/-! Where an output leads and what feeds an input (R54, R57, R59, R60). -/

/-- The end of a path: an input of a cell (N, E, S, W as 0 to 3), a bypass stage, an edge output port, a drill write stream, or nothing. -/
inductive PathEnd
  | cell (f c dir : Nat)
  | stage (f u dir : Nat)
  | edge (port : Nat)
  | drill (f d : Nat)
  | closed
  deriving DecidableEq, Repr

/-- The number of a headland port: W, E, N, S from 0, 8, 16, 24 (R54). -/
def portW (i : Nat) : Nat := i
def portE (i : Nat) : Nat := 8 + i
def portN (i : Nat) : Nat := 16 + i
def portS (i : Nat) : Nat := 24 + i

/-- The far end of the E side of position `p` in row `r`: past a bypassed field the path goes on, and at the row's end it is the edge port. -/
def farEast (s : State) (r p u : Nat) : PathEnd :=
  if p ≤ 5 then (if portLinked s (6 * r + p) (portW u) then .cell (6 * r + p) (8 * u) 3 else .closed)
  else .edge (8 * r + u)

/-- The far end of the W side, for tokens going west; the west edge takes none. -/
def farWest (s : State) (r p u : Nat) : PathEnd :=
  match p with
  | 0 => .closed
  | q + 1 => if portLinked s (6 * r + q) (portE u) then .cell (6 * r + q) (8 * u + 7) 1 else .closed

/-- Where tokens go that leave field `f` through its E port `u`. -/
def eastEnd (s : State) (f u : Nat) : PathEnd :=
  let r := f / 6
  let p := f % 6 + 1
  if !portLinked s f (portE u) then .closed
  else if p ≤ 5 && rowBypass s r == p then
    (match farEast s r (p + 1) u with | .closed => .closed | _ => .stage (6 * r + p) u 0)
  else farEast s r p u

/-- Where tokens go that leave field `f` through its W port `u`. -/
def westEnd (s : State) (f u : Nat) : PathEnd :=
  let r := f / 6
  let p := f % 6
  if !portLinked s f (portW u) then .closed
  else if 1 ≤ p && rowBypass s r == p - 1 then
    (match farWest s r (p - 1) u with | .closed => .closed | _ => .stage (6 * r + p - 1) u 1)
  else farWest s r p u

/-- Where the output of cell `c` of field `f` in a direction leads. -/
def outEnd (s : State) (f c dir : Nat) : PathEnd :=
  let u := c / 8
  let v := c % 8
  match dir with
  | 0 => if 1 ≤ u then .cell f (c - 8) 2
         else if 6 ≤ f && portLinked s f (portN v) && portLinked s (f - 6) (portS v) then .cell (f - 6) (56 + v) 2 else .closed
  | 1 => if v ≤ 6 then .cell f (c + 1) 3 else eastEnd s f u
  | 2 => if u ≤ 6 then .cell f (c + 8) 0
         else
           let x := portSetting s f (portS v)
           if 6 ≤ x && x ≤ 9 then .drill f (x - 6)
           else if f < 18 && portLinked s f (portS v) && portLinked s (f + 6) (portN v) then .cell (f + 6) v 0 else .closed
  | _ => if 1 ≤ v then .cell f (c - 1) 1 else westEnd s f u

/-! Buffers (R23). -/

/-- Tokens that were in a buffer at the start of the present ACLK and are still there. -/
def settledCount (s : State) (l : List Held) : Nat := (l.filter (fun h => decide (h.since < aclk s))).length

/-- How many tokens a buffer held at the start of the present ACLK: those still there from before, and the one that left in it. -/
def startCount (s : State) (l : List Held) (leftAt : Nat) : Nat :=
  settledCount s l + boolNat (leftAt == aclk s + 1)

/-- The tokens of a skid buffer. -/
def skidOf (y : Cell) (dir : Nat) : List Held := tabGet [] y.skids dir

/-- The head token of a skid buffer at the start of the present ACLK. -/
def skidHead (s : State) (y : Cell) (dir : Nat) : Option Token :=
  match skidOf y dir with
  | h :: _ => if h.since < aclk s then some h.tok else none
  | [] => none

/-- The stamp of the last pop of an input. -/
def poppedAt (y : Cell) (dir : Nat) : Nat := tabGet 0 y.popped dir

/-- Whether a path from another field into an input of a field is open: the field moves and DRAIN has not closed it. -/
def inboundOpen (s : State) (f : Nat) : Bool := fieldMoving s f && !draining s f

/-- Whether the end of a path is ready to its sender in field `from_` (R23, R59, R60, R65, R80, R84). -/
def endReady (s : State) (from_ : Option Nat) (e : PathEnd) : Bool :=
  match e with
  | .closed => false
  | .cell f c dir =>
    let y := cellOf (fieldOf s f) c
    (if from_ == some f then true else inboundOpen s f)
      && decide (startCount s (skidOf y dir) (poppedAt y dir) < 2)
  | .stage f u dir =>
    !capoHeld s && decide (startCount s (stageOf (fieldOf s f) u dir) (tabGet 0 (fieldOf s f).stageMoved (2 * u + dir)) < 2)
  | .edge p => !capoHeld s && (qReady s (32 + p) || (qState s (32 + p) == 2 && qFlushing s (32 + p)))
      && (tabFind s.arr.edgeOut p).isNone && tabGet 0 s.arr.edgeMoved p != aclk s + 1
  | .drill f d =>
    let w := streamOf (fieldOf s f) d 1
    decide ((w.buf.filter (fun i => decide (i.since < aclk s))).length + boolNat (w.storedAt == aclk s + 1) < 4) && w.movedAt != aclk s + 1

/-! Drill streams (R64, R65). -/

/-- A stream descriptor: stream 0 at offset 0x00 and stream 1 at 0x18 of the unit's 64-byte block. -/
def drillDesc (x : Slot) (d t : Nat) : List Byte := bytesAt x.drill (64 * d + 24 * t) 24
def ddBase (b : List Byte) : Nat := leAt b 0 2
def ddControl (b : List Byte) : Nat := leAt b 2 2
def ddCount (b : List Byte) (k : Nat) : Nat := leAt b (4 + 2 * k) 2 + 1
def ddStride (b : List Byte) (k : Nat) : Int := signedOf 16 (leAt b (0x0C + 2 * k) 2)
def ddEnable (b : List Byte) : Bool := bitOf (ddControl b) 0
def ddRepeat (b : List Byte) : Bool := bitOf (ddControl b) 1
def ddEndLevel (b : List Byte) : Nat := bitsOf (ddControl b) 2 3
def ddEndSync (b : List Byte) : Bool := bitOf (ddControl b) 5
/-- The program length N. -/
def ddLength (b : List Byte) : Nat := ddCount b 0 * ddCount b 1 * ddCount b 2 * ddCount b 3
/-- Counter i_k of item n. -/
def ddIndex (b : List Byte) (n k : Nat) : Nat :=
  match k with
  | 0 => n % ddCount b 0
  | 1 => n / ddCount b 0 % ddCount b 1
  | 2 => n / (ddCount b 0 * ddCount b 1) % ddCount b 2
  | _ => n / (ddCount b 0 * ddCount b 1 * ddCount b 2)
/-- The word address of item n. -/
def ddAddr (b : List Byte) (n : Nat) : Nat :=
  wrapInt 16 ((ddBase b : Int) + (List.range 4).foldl (fun a k => a + (ddIndex b n k : Int) * ddStride b k) 0)
/-- The end mark of item n of a read stream. -/
def ddEndMark (b : List Byte) (n : Nat) : Bool :=
  decide (ddEndLevel b < 4) && (List.range (ddEndLevel b + 1)).all (fun k => ddIndex b n k == ddCount b k - 1)
/-- The number of items up to and with one step of the dimensions 0 to `k`. -/
def ddSpan (b : List Byte) (k : Nat) : Nat := (List.range (k + 1)).foldl (fun a j => a * ddCount b j) 1
/-- The item after item n of a stream: with repeat it wraps at N. -/
def ddWrap (b : List Byte) (n : Nat) : Nat := if ddRepeat b && decide (ddLength b ≤ n) then n % ddLength b else n
/-- The item after item n, and for a write stream after an end mark under end_sync the first item of the next step of end_level (R65). -/
def ddNext (b : List Byte) (n : Nat) (endSync : Bool) : Nat :=
  if endSync && decide (ddEndLevel b < 4) then
    let w := ddSpan b (ddEndLevel b)
    ddWrap b ((n / w + 1) * w)
  else ddWrap b (n + 1)
/-- Whether a stream has an item left. -/
def ddMore (b : List Byte) (n : Nat) : Bool := decide (n < ddLength b)

/-- The item number of a stream in a slot. -/
def drillCount (x : Field) (slot d t : Nat) : Nat := tabGet 0 x.counter (8 * slot + 2 * d + t)
def setDrillCount (x : Field) (slot d t n : Nat) : Field := { x with counter := tabSet 0 x.counter (8 * slot + 2 * d + t) n }

/-- The slot whose program a stream follows in ACLK n: as a cell's (R81). -/
def streamSlotIn (s : State) (f d t n : Nat) : Nat := markSlotIn s f (streamOf (fieldOf s f) d t).switchedAt n
def streamSlot (s : State) (f d t : Nat) : Nat := streamSlotIn s f d t (aclk s)

/-- The S port that a stream's setting names in ACLK n. -/
def drillPortIn (s : State) (f d t n : Nat) : Option Nat :=
  (List.range 8).find? (fun v => portIn s f (portS v) n == (if t == 0 then 2 else 6) + d)
def drillPort (s : State) (f d t : Nat) : Option Nat := drillPortIn s f d t (aclk s)

/-- Word `a` of field memory. -/
def fieldWord (s : State) (f a : Nat) : Nat := memNat s (fieldMemAddr f a) 4

/-- Word `a` of field memory written. -/
def setFieldWord (s : State) (f a v : Nat) : State := memWrite s (fieldMemAddr f a) (leBytes 4 v)

/-- Whether a write stream of the field holds an unwritten token for a word (R69). -/
def writeHeld (x : Field) (a : Nat) : Bool :=
  (List.range 4).any (fun d => (streamOf x d 1).buf.any (fun i => i.addr == a))

/-- Item n of a read stream wound back by `k` items (R79, R80). -/
def ddBack (b : List Byte) (n k : Nat) : Nat :=
  if ddRepeat b then (n + ddLength b - k % ddLength b) % ddLength b else n - k

/-- The items of a read stream dropped, and the stream wound back in a slot by their number (R79, R80). -/
def dropItems (x : Field) (slot d : Nat) : Field :=
  let st := streamOf x d 0
  setStream (setDrillCount x slot d 0 (ddBack (drillDesc (slotOf x slot) d 0) (drillCount x slot d 0) st.buf.length)) d 0 { st with buf := [], drop := none }

/-- Items whose drop falls in ACLK n or before are gone. -/
def dropDue (x : Field) (n : Nat) : Field :=
  (List.range 4).foldl (fun y d =>
    match (streamOf y d 0).drop with
    | some (k, slot) => if k ≤ n then dropItems y slot d else y
    | none => y) x

/-- The word that read stream `d` reads in ACLK n: it holds fewer than 4 items, and no write stream holds a token for the word (R64, R68, R69). -/
def drillWant (s : State) (f n d : Nat) : Option Nat :=
  let x := fieldOf s f
  let slot := streamSlotIn s f d 0 n
  let b := drillDesc (slotOf x slot) d 0
  let k := drillCount x slot d 0
  let a := ddAddr b k
  if movingIn s f n && !drainingIn s f n && ddEnable b && ddMore b k && decide ((streamOf x d 0).buf.length < 4) && !writeHeld x a then some a else none

/-- The network accesses that wait for a port: sub-bank `bank`, to write or to read. -/
def netWaitOf (x : Field) (bank : Nat) (write : Bool) : List NetWait := tabGet [] x.netWait (2 * bank + boolNat write)

/-- The network access that has waited 32 ACLK for a port, and comes first (R70): of several the oldest. -/
def netDue (x : Field) (bank : Nat) (write : Bool) (n : Nat) : Option NetWait :=
  (netWaitOf x bank write).find? (fun u => decide (u.since + 32 ≤ n))

/-- A network access comes before the streams at a port (R70). -/
def netFirst (x : Field) (bank : Nat) (write : Bool) (n : Nat) : Bool := (netDue x bank write n).isSome

/-- The streams in the order in which a sub-bank's port serves them: its own drill unit's, then the lowest unit (R70). -/
def bankOrder (bank : Nat) : List Nat := bank :: (List.range 4).filter (fun d => d != bank)

/-- The read ports of the four sub-banks each serve one stream in ACLK n. -/
def drillIssue (s : State) (f n : Nat) : State :=
  let want := fun d => (drillWant s f n d).map (fun a => (d, a))
  (List.range 4).foldl (fun y bank =>
    let x := fieldOf y f
    match (bankOrder bank).findSome? (fun d => (want d).filter (fun p => p.2 / 16384 == bank)) with
    | some (d, a) =>
      if netFirst x bank false n || tabGet 0 x.netReadAt bank == n + 1 then y
      else
        let slot := streamSlotIn s f d 0 n
        let b := drillDesc (slotOf x slot) d 0
        let k := drillCount x slot d 0
        let it : DrillItem := { addr := a, tok := { data := wd (fieldWord s f a), last := ddEndMark b k }, since := n }
        let st := streamOf x d 0
        let x1 := setStream (setDrillCount x slot d 0 (ddNext b k false)) d 0 { st with buf := st.buf ++ [it] }
        setField y f { x1 with netReadAt := tabSet 0 x1.netReadAt bank (n + 1) }
    | none => y) s

/-- The read streams have issued every read up to and with the present ACLK. Between two commands at most 16 items are fetched, no later than the 16 ACLK in which the ports serve them. -/
def drillFetch (s : State) (f : Nat) : State :=
  let from_ := (fieldOf s f).fetchAt
  if aclk s < from_ then s
  else
    let s1 := (List.range (min 17 (aclk s + 1 - from_))).foldl (fun y k =>
      drillIssue (setField y f (dropDue (fieldOf y f) (from_ + k))) f (from_ + k)) s
    let x := dropDue (fieldOf s1 f) (aclk s)
    setField s1 f { x with fetchAt := aclk s + 1 }

/-! Operations completing (R28, R32). -/

/-- Register `k` of a cell: c0 to c3 of a slot's bank, or c4 to c7 (R33). -/
def cellReg (y : Cell) (slot k : Nat) : Nat :=
  if k < 4 then tabGet 0 y.banked (4 * slot + k) else tabGet 0 y.shared k

/-- A register written. -/
def setCellReg (y : Cell) (slot k v : Nat) : Cell :=
  if k < 4 then { y with banked := tabSet 0 y.banked (4 * slot + k) (v % 2 ^ 32) }
  else { y with shared := tabSet 0 y.shared k (v % 2 ^ 32) }

/-- The key under which the last write of a register is noted. -/
def regKey (slot k : Nat) : Nat := if k < 4 then 4 * slot + k else 32 + k

/-- The entry's register write is still to come. -/
def writeDue (e : WinEntry) : Bool := e.we && !e.written

/-- The register write of a window entry done (R28, R34). -/
def entryWrite (n : Nat) (y : Cell) (e : WinEntry) : Cell :=
  if writeDue e then
    let y1 := setCellReg y e.bankSlot e.reg e.regVal
    { y1 with wroteAt := tabSet 0 y1.wroteAt (regKey e.bankSlot e.reg) (n + 1) }
  else y

/-- An entry placed among others by the moment at which its operation is complete; of two at one moment the older stands first. -/
def dueInsert (e : WinEntry) : List WinEntry → List WinEntry
  | [] => [e]
  | a :: r => if e.dueAt ≤ a.dueAt then e :: a :: r else a :: dueInsert e r

/-- Every operation that is complete before ACLK n has done its register write, in the order of the moments of R28, and an entry that delivers nothing has left the window. -/
def cellSettle (n : Nat) (y : Cell) : Cell :=
  let late := (y.win.filter (fun e => writeDue e && decide (e.dueAt ≤ n))).foldr dueInsert []
  let y1 := late.foldl (fun z e => entryWrite (e.dueAt - 1) z e) y
  { y1 with win := (y.win.filter (fun e => !(e.deliver == 0 && decide (e.dueAt ≤ n)))).map (fun e => if writeDue e && decide (e.dueAt ≤ n) then { e with written := true } else e) }

/-- The field as the present ACLK finds it: every operation complete before it has done its write, and every drill read up to it is issued. -/
def fieldNow (s : State) (f : Nat) : State :=
  let s1 := drillFetch s f
  let x := fieldOf s1 f
  let n := match x.frozenAt with | some k => min k (aclk s) | none => aclk s
  setField s1 f { x with cells := x.cells.map (fun e => (e.1, cellSettle n e.2)) }

/-! Retune switches (R79 to R82). -/

/-- Read items still to be delivered under the old tuning at the end of the present ACLK will be dropped then (R79). -/
def dropReadItems (s : State) (x : Field) (slot start : Nat) : Field :=
  (List.range 4).foldl (fun y d =>
    let st := streamOf y d 0
    if start < st.switchedAt then y else setStream y d 0 { st with drop := some (aclk s + 1, slot) }) x

/-- The field has gone over to the target slot at the end of the present ACLK: the old slot is READY, the new one ACTIVE, and the retune ends in a state with its duration (R72, R82). -/
def retuneEnd (s : State) (f : Nat) (r : Retune) (result : Nat) : State :=
  let old := activeSlot s f
  let x := fieldOf s f
  let x1 := if old == 0xFF then x else setSlot x old { slotOf x old with st := 2 }
  let x2 := setSlot x1 r.target { slotOf x1 r.target with st := 3 }
  let s1 := setField s f { x2 with retune := none, ended := { at_ := aclk s + 1, slot := old, start := r.startAclk, mode := r.mode } }
  let s2 := wr (wr s1 (0x2000 + 0x40 * f) 0x03 r.target) (0x2006 + 0x40 * f) 0x01 result
  let s3 := wr (wr s2 (0x2006 + 0x40 * f) 0x02 old) (0x2006 + 0x40 * f) 0x03 r.target
  raiseEvent (wr s3 (0x2006 + 0x40 * f) 0x04 ((aclk s + 1 - r.startAclk) % 2 ^ 32)) f

/-- Whether every cell and every stream has switched since the start of the retune (R81). -/
def allSwitched (x : Field) (start : Nat) : Bool :=
  (List.range 64).all (fun c => decide (start < (cellOf x c).switchedAt))
  && (List.range 4).all (fun d => decide (start < (streamOf x d 0).switchedAt) && decide (start < (streamOf x d 1).switchedAt))

/-- A field runs an AT_END retune. -/
def atEndRuns (s : State) (f : Nat) : Bool :=
  match (fieldOf s f).retune with
  | some r => retuneState s f == 2 && r.mode == 2
  | none => false

/-- An AT_END retune is done when every cell and stream has switched (R81). -/
def atEndCheck (s : State) (f : Nat) : State :=
  match (fieldOf s f).retune with
  | some r => if atEndRuns s f && allSwitched (fieldOf s f) r.startAclk then retuneEnd s f r 3 else s
  | none => s

/-- A stream goes over to the target slot at the end of the present ACLK; a read stream's items beyond are dropped (R79, R81). -/
def streamSwitch (s : State) (x : Field) (slot d t : Nat) : Field :=
  setStream x d t { streamOf x d t with switchedAt := aclk s + 1, drop := if t == 0 then some (aclk s + 1, slot) else none }

/-- The AT_END switches of ACLK m: cells whose old word pops no token and those that have popped an end mark in it, read streams with end_level 4, streams that have moved an end-marked item in it (R81), and streams not in use (DESIGN CHOICE, log 151). -/
def atEndStart (s : State) (f : Nat) : State :=
  let x := fieldOf s f
  let act := activeSlot s f
  let y := (List.range 64).foldl (fun y c =>
    if cwPopsToken (wordOf x act c) && (cellOf y c).endAt != aclk s + 1 then y else setCell y c { cellOf y c with switchedAt := aclk s + 1 }) x
  let z := (List.range 4).foldl (fun y d =>
    let r := drillDesc (slotOf x act) d 0
    let w := drillDesc (slotOf x act) d 1
    let y1 := if ddEnable r && decide (ddEndLevel r < 4) && (streamOf y d 0).endAt != aclk s + 1 then y else streamSwitch s y act d 0
    if ddEnable w && (streamOf y1 d 1).endAt != aclk s + 1 then y1 else streamSwitch s y1 act d 1) y
  atEndCheck (setField s f z) f

/-- A retune starts in the present ACLK m (R77 to R81). -/
def retuneStart (s : State) (f : Nat) (r : Retune) : State :=
  let r' := { r with startAclk := aclk s }
  let s0 := drillFetch s f
  let s1 := setField (wr s0 (0x2006 + 0x40 * f) 0x01 2) f { fieldOf s0 f with retune := some r' }
  match r.mode with
  | 0 => retuneEnd (setField s1 f (dropReadItems s1 (fieldOf s1 f) (activeSlot s1 f) (aclk s + 1))) f r' 3
  | 2 => atEndStart s1 f
  | _ => s1

/-- A retune that is armed or running is withdrawn: the old slot stays in use and RetuneState becomes CANCELLED (R465). -/
def retuneWithdraw (s : State) (f : Nat) : State :=
  match (fieldOf s f).retune with
  | some _ => setField (wr s (0x2006 + 0x40 * f) 0x01 6) f { fieldOf s f with retune := none }
  | none => s

/-- A token is the cue token of a retune (R77). -/
def cueMatches (r : Retune) (t : Token) : Bool := t.last && (t.data.toNat &&& r.cueMask) == (r.cueValue &&& r.cueMask)

/-- A token admitted through a headland port: the cue token of an armed retune starts it (R77). -/
def cueCheck (s : State) (f port : Nat) (t : Token) : State :=
  match (fieldOf s f).retune with
  | some r =>
    if retuneState s f == 1 && r.cuePort == port && cueMatches r t then retuneStart s f r
    else s
  | none => s

/-- The headland port behind an input of a border cell. -/
def portOfInput (c dir : Nat) : Option Nat :=
  let u := c / 8
  let v := c % 8
  match dir with
  | 0 => if u == 0 then some (portN v) else none
  | 1 => if v == 7 then some (portE u) else none
  | 2 => if u == 7 then some (portS v) else none
  | _ => if v == 0 then some (portW u) else none

/-- A token enters the end of a path at the end of the present ACLK (R23); through a headland port it may be the cue token. -/
def endPut (s : State) (e : PathEnd) (t : Token) (drill : Option (Nat × Nat)) : State :=
  match e with
  | .closed => s
  | .cell f c dir =>
    let x := fieldOf s f
    let y := cellOf x c
    let s1 := setField s f (setCell x c { y with skids := tabSet [] y.skids dir (skidOf y dir ++ [{ tok := t, since := aclk s, drill := drill }]) })
    match portOfInput c dir with
    | some p => cueCheck s1 f p t
    | none => s1
  | .stage f u dir =>
    let x := fieldOf s f
    setField s f (setStage x u dir (stageOf x u dir ++ [{ tok := t, since := aclk s }]))
  | .edge p => { s with arr := { s.arr with edgeOut := tabPut s.arr.edgeOut p { tok := t, since := aclk s },
                                            edgeMoved := tabSet 0 s.arr.edgeMoved p (aclk s + 1) } }
  | .drill f d =>
    let x := fieldOf s f
    let slot := streamSlot s f d 1
    let b := drillDesc (slotOf x slot) d 1
    let n := drillCount x slot d 1
    let w := streamOf x d 1
    let it : DrillItem := { addr := ddAddr b n, tok := t, since := aclk s }
    let x1 := setStream (setDrillCount x slot d 1 (ddNext b n (ddEndSync b && t.last))) d 1
      { w with buf := w.buf ++ [it], movedAt := aclk s + 1, endAt := if t.last then aclk s + 1 else w.endAt }
    atEndCheck (setField s f (if t.last && atEndRuns s f && slot == activeSlot s f then streamSwitch s x1 slot d 1 else x1)) f

/-- A write stream takes a token only while it is in use and has an item left (R64). -/
def drillAccepts (s : State) (e : PathEnd) : Bool :=
  match e with
  | .drill f d =>
    let x := fieldOf s f
    let slot := streamSlot s f d 1
    let b := drillDesc (slotOf x slot) d 1
    ddEnable b && ddMore b (drillCount x slot d 1)
  | _ => true

/-! A cell (R25 to R32). -/

/-- No earlier firing has still to write a register at the start of the ACLK (R25, R28). A firing that has done its write and waits only for its delivery holds no later one back: DESIGN CHOICE, log 119. -/
def regFree (s : State) (y : Cell) (slot k : Nat) : Bool :=
  y.win.all (fun e => !(e.we && e.reg == k && (decide (4 ≤ k) || e.bankSlot == slot) && (!e.written || decide (aclk s < e.dueAt))))
  && tabGet 0 y.wroteAt (regKey slot k) != aclk s + 1

/-- The next bus token that a cell in column `v` has not taken, present at the start of the ACLK (R35). -/
def busNext (s : State) (b : FurrowBus) (v : Nat) : Option Token :=
  match b.toks.find? (fun e => !bitOf e.2 v) with
  | some e => if e.1.since < aclk s then some e.1.tok else none
  | none => none

/-- The value of a source code, when it is valid: data and end mark (R38). -/
def srcToken (s : State) (f c slot w code : Nat) : Option Token :=
  let x := fieldOf s f
  let y := cellOf x c
  if srcIsLink code then skidHead s y (code - 1)
  else if code == 5 then busNext s (busOf x (c / 8)) (c % 8)
  else if 8 ≤ code && code ≤ 15 then
    (if regFree s y slot (code - 8) then some { data := wd (cellReg y slot (code - 8)) } else none)
  else
    some { data := wd (match code with
      | 0x10 => cwK0 w
      | 0x11 => cwK1 w
      | 0x12 => 0xFFFFFFFF
      | 0x13 => logicalField s f * 65536 + (c / 8) * 256 + c % 8
      | 0x14 => slot
      | _ => 0) }

/-- The columns of a furrow whose cells read the bus, as a mask (R35). -/
def busReaders (s : State) (f u : Nat) : Nat :=
  (List.range 8).foldl (fun m v =>
    if cwReadsBus (wordOf (fieldOf s f) (cellSlot s f (8 * u + v)) (8 * u + v)) then m + 2 ^ v else m) 0

/-- A cell takes its next bus token; the token leaves once every reader has taken it (R35). -/
def busTake (s : State) (f u v : Nat) : State :=
  let x := fieldOf s f
  let b := busOf x u
  let readers := busReaders s f u
  let taken := b.toks.foldl (fun (acc : List (Held × Nat) × Bool) e =>
    if acc.2 || bitOf e.2 v then (acc.1 ++ [e], acc.2) else (acc.1 ++ [(e.1, setBit e.2 v true)], true)) ([], false)
  let left := taken.1.filter (fun e => clearBits readers e.2 != 0)
  let gone := decide (left.length < taken.1.length)
  setField s f (setBus x u { b with toks := left, leftAt := if gone then aclk s + 1 else b.leftAt })

/-- The result of a firing: the token if one is delivered, the value written to the destination register if one is, the output groups (N, E and bus; S and W) that take the result, and the side bit and item counter after it (R44 to R50). -/
structure FireResult where
  tok : Option Token := none
  regVal : Option Nat := none
  groupNE : Bool := true
  groupSW : Bool := true
  side : Nat := 0
  count : Nat := 0
  deriving DecidableEq, Repr

/-- The result of an opcode with the end-mark mode and the predicate applied (R44 to R47). -/
def fireMode (w : Nat) (lut : Nat → Nat) (a b c : Token) (orEnd : Bool) (side count : Nat) : FireResult :=
  let v := opResult w lut a.data.toNat b.data.toNat c.data.toNat
  let last := match cwEndMode w with | 0 => a.last | 1 => orEnd | 2 => false | _ => true
  let cSet := c.data != 0
  let ok := match cwPred w with
    | 1 => cSet || last
    | 2 => !cSet || last
    | _ => true
  let steer := cwPred w == 3
  { tok := if ok then some { data := wd v, last := last } else none,
    regVal := if ok then some v else none,
    groupNE := !steer || cSet, groupSW := !steer || !cSet, side := side, count := count }

/-- The result of an opcode with a rule of its own (R49, R50). -/
def fireOwn (w : Nat) (lut : Nat → Nat) (a b : Token) (r side count : Nat) : FireResult :=
  let sat := cwSat w
  let flip := fun (l : Bool) => if l then 1 - side else side
  let emit := fun (v : Nat) =>
    let n := if cwOpcode w == 0x66 && cwEmit w == 0 then 32 / cwParam w else cwEmit w
    if (n != 0 && count + 1 == n) || a.last then
      ({ tok := some { data := wd v, last := a.last }, regVal := some 0, side := side, count := 0 } : FireResult)
    else { tok := none, regVal := some v, side := side, count := count + 1 }
  match cwOpcode w with
  | 0x58 =>
    let (v, e) := qerr w lut a.data.toNat b.data.toNat r
    { tok := some { data := wd v, last := a.last }, regVal := some (if a.last then 0 else wrapInt 32 e), side := side, count := count }
  | 0x60 =>
    let t := if side == 0 then a else b
    let last := if side == 0 && bitOf (cwParam w) 0 then false else t.last
    { tok := some { data := t.data, last := last }, regVal := some t.data.toNat, side := flip t.last, count := count }
  | 0x61 =>
    { tok := some a, regVal := some a.data.toNat, groupNE := side == 0, groupSW := side != 0, side := flip a.last, count := count }
  | 0x62 =>
    let n := if sat then satAdd 0xFFFFFFFF count 1 else (count + 1) % 2 ^ 32
    if a.last then { tok := some { data := wd n, last := true }, regVal := some n, side := side, count := 0 }
    else { tok := none, regVal := none, side := side, count := n }
  | 0x63 =>
    if b.data != 0 then { tok := some a, regVal := some a.data.toNat, side := side, count := count }
    else if a.last then { tok := some { data := wd (cwK0 w), last := true }, regVal := some (cwK0 w), side := side, count := count }
    else { tok := none, regVal := none, side := side, count := count }
  | 0x64 => emit (resS sat (sgn r + sgn a.data.toNat))
  | 0x65 => emit (fpFinishCell sat (fpAddVal .rne (fpUnpackFtz (wd r)) (fpUnpackFtz a.data))).toNat
  | _ =>
    let wdt := cwParam w
    emit ((r ||| ((a.data.toNat % 2 ^ wdt) <<< (wdt * count))) % 2 ^ 32)

/-- The window entry of a firing: the token of each driven output, and where they go (R27, R39, R45). -/
def fireEntry (w slot : Nat) (passTok : Nat → Token) (res : FireResult) (due : Nat) : WinEntry :=
  let t := res.tok.getD {}
  let out := fun o => if cwPassUsed w o != 0 then passTok o else t
  let goes := fun o =>
    cwDrives w o && (cwPassUsed w o != 0 || (res.tok.isSome && (if o ≤ 1 then res.groupNE else res.groupSW)))
  let bus := cwBusDrive w && res.tok.isSome && res.groupNE
  { result := t, passN := out 0, passE := out 1, passS := out 2, passW := out 3,
    deliver := (List.range 4).foldl (fun m o => if goes o then m + 2 ^ o else m) (if bus then 16 else 0),
    we := cwDestWe w && res.regVal.isSome, reg := cwDestReg w, regVal := res.regVal.getD 0, bankSlot := slot, dueAt := due }

/-- Whether a cell may start a firing at all in the present ACLK: it has not fired in it, and its window held fewer than 8 entries at the start, those delivered or gone since counted in (R25, R30). -/
def windowOpen (s : State) (y : Cell) : Bool :=
  y.firedAt != aclk s + 1
  && decide (y.win.length + boolNat (y.deliveredAt == aclk s + 1) + (if y.goneAt == aclk s + 1 then y.gone else 0) < 8)

/-- The side bit and the item counter of a cell in a slot (R48). -/
def sideOf (y : Cell) (slot : Nat) : Nat := tabGet 0 y.side slot
def countOf (y : Cell) (slot : Nat) : Nat := tabGet 0 y.count slot

/-- A firing reads a link input or the bus, or drives something (R26); NOP drives only what it passes through. -/
def mayFire (w side : Nat) : Bool :=
  (List.range 3).any (fun k => cwReads w side k && (srcIsLink (cwSrc w k) || cwSrc w k == 5))
  || (List.range 4).any (fun o => cwPassUsed w o != 0)
  || (cwOpcode w != 0 && (cwOutMask w != 0 || cwBusDrive w || cwDestWe w))

/-- The firing of a cell pops a link token or takes a bus token. -/
def firePops (w side : Nat) : Bool := (List.range 4).any (fun dir => cwPops w side dir) || cwTakesBus w side

/-- The value of operand k of a firing, when it is valid; an operand not read is 0. -/
def operand (s : State) (f c slot w side k : Nat) : Option Token :=
  if cwReads w side k then srcToken s f c slot w (cwSrc w k) else some {}

/-- The token that passes through to output o, when it is valid. -/
def passToken (s : State) (f c slot w o : Nat) : Option Token :=
  let p := cwPassUsed w o
  if p == 0 then some {} else srcToken s f c slot w p

/-- The field is empty at the start of the ACLK: no window entry, bus token or unwritten token, and every skid token came from a read stream or lies on an input that the old tuning only peeks; what moved in the ACLK was there at its start (R80). -/
def fieldEmpty (s : State) (f : Nat) : Bool :=
  let x := fieldOf s f
  let act := activeSlot s f
  let now := aclk s + 1
  (List.range 64).all (fun c =>
    let y := cellOf x c
    y.win.isEmpty && y.firedAt != now && y.deliveredAt != now && y.goneAt != now && (List.range 4).all (fun dir =>
      (skidOf y dir).all (fun h => h.drill.isSome || cwPeeksOnly (wordOf x act c) dir)))
  && (List.range 8).all (fun u => (busOf x u).toks.isEmpty && (busOf x u).leftAt != now)
  && (List.range 4).all (fun d => (streamOf x d 1).buf.isEmpty && (streamOf x d 1).storedAt != now)

/-- A draining field stops a firing that pops nothing, and every firing in the ACLK whose start finds it empty (R80). -/
def drainStops (s : State) (f w side : Nat) : Bool := draining s f && (!firePops w side || fieldEmpty s f)

/-- Every condition of R25 holds for a firing of a cell at the start of the present ACLK. -/
def fireReady (s : State) (f c : Nat) : Bool :=
  let y := cellOf (fieldOf s f) c
  let slot := cellSlot s f c
  let w := wordOf (fieldOf s f) slot c
  let side := sideOf y slot
  fieldMoving s f && windowOpen s y && mayFire w side && (!opRunning (cwOpcode w) || regFree s y slot (cwDestReg w))
  && !drainStops s f w side
  && (List.range 3).all (fun k => (operand s f c slot w side k).isSome)
  && (List.range 4).all (fun o => (passToken s f c slot w o).isSome)

/-- The result of a firing of a cell. -/
def fireResult (s : State) (f c : Nat) : FireResult :=
  let y := cellOf (fieldOf s f) c
  let slot := cellSlot s f c
  let w := wordOf (fieldOf s f) slot c
  let side := sideOf y slot
  let tok := fun k => (operand s f c slot w side k).getD {}
  let lut := fun i => tabGet 0 y.lut i
  if cwOpcode w == 0 then { tok := none, regVal := none, side := side, count := countOf y slot }
  else if opOwn (cwOpcode w) then fireOwn w lut (tok 0) (tok 1) (cellReg y slot (cwDestReg w)) side (countOf y slot)
  else fireMode w lut (tok 0) (tok 1) (tok 2) ((List.range 3).any (fun k => cwReads w side k && cwConsume w k && (tok k).last)) side (countOf y slot)

/-- A firing takes a token with an end mark. -/
def firePopsEnd (s : State) (f c : Nat) : Bool :=
  let y := cellOf (fieldOf s f) c
  let slot := cellSlot s f c
  let w := wordOf (fieldOf s f) slot c
  let side := sideOf y slot
  (List.range 4).any (fun dir => cwPops w side dir && ((skidHead s y dir).getD {}).last)
  || (cwTakesBus w side && ((busNext s (busOf (fieldOf s f) (c / 8)) (c % 8)).getD {}).last)

/-- The cell after a firing: its inputs popped, its entry placed in the window (R27). -/
def firedCell (s : State) (f c : Nat) : Cell :=
  let y := cellOf (fieldOf s f) c
  let slot := cellSlot s f c
  let w := wordOf (fieldOf s f) slot c
  let side := sideOf y slot
  let res := fireResult s f c
  let ent := fireEntry w slot (fun o => (passToken s f c slot w o).getD {}) res (aclk s + opLatency (cwOpcode w))
  let ends := firePopsEnd s f c
  { y with
    skids := (List.range 4).foldl (fun t dir => if cwPops w side dir then tabSet [] t dir ((skidOf y dir).drop 1) else t) y.skids,
    popped := (List.range 4).foldl (fun t dir => if cwPops w side dir then tabSet 0 t dir (aclk s + 1) else t) y.popped,
    win := y.win ++ [ent], firedAt := aclk s + 1,
    side := tabSet 0 y.side slot res.side, count := tabSet 0 y.count slot res.count,
    endAt := if ends then aclk s + 1 else y.endAt,
    switchedAt := if ends && atEndRuns s f && slot == activeSlot s f then aclk s + 1 else y.switchedAt }

/-- What a firing does (R27). -/
def fireTo (s : State) (f c : Nat) : State :=
  let slot := cellSlot s f c
  let w := wordOf (fieldOf s f) slot c
  let takes := cwTakesBus w (sideOf (cellOf (fieldOf s f) c) slot)
  let s0 := if takes then busTake s f (c / 8) (c % 8) else s
  atEndCheck (setField s0 f (setCell (fieldOf s0 f) c (firedCell s f c))) f

/-- A cell fires in the present ACLK, when every condition of R25 holds at its start: the state after, or none. -/
def cellFire (s : State) (f c : Nat) : Option State :=
  let z := fieldNow s f
  if fireReady z f c then some (fireTo z f c) else none

/-- Two entries write one register. -/
def sameReg (e d : WinEntry) : Bool := e.reg == d.reg && (decide (4 ≤ e.reg) || e.bankSlot == d.bankSlot)

/-- The operation of window entry `k` is complete at the end of the present ACLK: its register write happens, and an entry that delivers nothing leaves the window (R28, R32). Of two writes of one register at one moment the older firing's comes first. -/
def entryComplete (s : State) (f c k : Nat) : Option State :=
  let y := cellOf (fieldOf s f) c
  match y.win[k]? with
  | none => none
  | some e =>
    if !decide (e.dueAt ≤ aclk s + 1) || (e.written && e.deliver != 0)
        || (y.win.take k).any (fun d => writeDue d && writeDue e && sameReg d e && decide (d.dueAt ≤ e.dueAt)) then none
    else
      let y1 := entryWrite (aclk s) y e
      some (setField s f (setCell (fieldOf s f) c (
        if e.deliver == 0 then
          { y1 with win := y.win.take k ++ y.win.drop (k + 1), goneAt := aclk s + 1, gone := (if y.goneAt == aclk s + 1 then y.gone else 0) + 1 }
        else { y1 with win := listSet y.win k { e with written := true } })))

/-- The operation of entry `k` of a cell's window completes. An operation complete before the present ACLK has been so since then, and its register write is done by the time of any other event of the cell. -/
def operationComplete (s : State) (f c k : Nat) : Option State :=
  match (cellOf (fieldOf s f) c).win[k]? with
  | none => none
  | some e =>
    if !fieldMoving s f then none
    else
      let z := fieldNow s f
      if e.dueAt ≤ aclk s then (if writeDue e || e.deliver == 0 then some z else none)
      else entryComplete z f c (k - (((cellOf (fieldOf s f) c).win.take k).filter (fun d => d.deliver == 0 && decide (d.dueAt ≤ aclk s))).length)

/-- The token that an entry delivers on a link output. -/
def entryOut (e : WinEntry) (o : Nat) : Token :=
  match o with | 0 => e.passN | 1 => e.passE | 2 => e.passS | _ => e.passW

/-- Every end that an entry of a cell drives was ready at the start of the ACLK (R29). -/
def entryEndsReady (s : State) (f c : Nat) (e : WinEntry) : Bool :=
  ((List.range 4).filter (fun o => bitOf e.deliver o)).all (fun o => let t := outEnd s f c o; endReady s (some f) t && drillAccepts s t)
  && (!bitOf e.deliver 4 || decide (startCount s ((busOf (fieldOf s f) (c / 8)).toks.map (·.1)) (busOf (fieldOf s f) (c / 8)).leftAt < 2))

/-- The head entry of a cell's window is complete by the end of the present ACLK, and every end that it drives is ready (R29). An entry behind one that has left the window in this ACLK counts as its head: DESIGN CHOICE, log 149. -/
def deliverReady (s : State) (f c : Nat) : Bool :=
  let y := cellOf (fieldOf s f) c
  match y.win with
  | [] => false
  | e :: _ => fieldMoving s f && e.deliver != 0 && y.deliveredAt != aclk s + 1 && decide (e.dueAt ≤ aclk s + 1) && entryEndsReady s f c e

/-- All the tokens of the head entry are delivered together (R29). -/
def deliverTo (s : State) (f c : Nat) : State :=
  let x := fieldOf s f
  let y := cellOf x c
  let u := c / 8
  match y.win with
  | [] => s
  | e :: rest =>
    let b := busOf x u
    let x1 := setCell x c { entryWrite (aclk s) y e with win := rest, deliveredAt := aclk s + 1 }
    let x2 := if bitOf e.deliver 4 then
        setBus x1 u { b with toks := b.toks ++ [({ tok := e.result, since := aclk s }, 0)], drivenAt := aclk s + 1 }
      else x1
    ((List.range 4).filter (fun o => bitOf e.deliver o)).foldl (fun st o => endPut st (outEnd s f c o) (entryOut e o) none) (setField s f x2)

/-- The head entry of a cell's window is delivered in the present ACLK: the state after, or none (R29). -/
def resultDeliver (s : State) (f c : Nat) : Option State :=
  let z := fieldNow s f
  if deliverReady z f c then some (deliverTo z f c) else none

/-- Where a bypass stage's tokens go: the facing port beyond the bypassed field. -/
def stageEnd (s : State) (f u dir : Nat) : PathEnd :=
  if dir == 0 then farEast s (f / 6) (f % 6 + 1) u else farWest s (f / 6) (f % 6) u

/-- A bypass stage can pass its head token on in the present ACLK (R57, R61). -/
def stageReady (s : State) (f u dir : Nat) : Bool :=
  match stageOf (fieldOf s f) u dir with
  | h :: _ =>
    isBypassed s f && !capoHeld s && decide (h.since < aclk s) && tabGet 0 (fieldOf s f).stageMoved (2 * u + dir) != aclk s + 1 && endReady s none (stageEnd s f u dir)
  | [] => false

/-- The head token of a bypass stage passed on. -/
def stageTo (s : State) (f u dir : Nat) : State :=
  let x := fieldOf s f
  match stageOf x u dir with
  | h :: rest =>
    let x1 := { setStage x u dir rest with stageMoved := tabSet 0 x.stageMoved (2 * u + dir) (aclk s + 1) }
    endPut (setField s f x1) (stageEnd s f u dir) h.tok none
  | [] => s

/-- The head token of a bypass stage moves on to the facing port (R57, R61). -/
def stageTransfer (s : State) (f u dir : Nat) : Option State := if stageReady s f u dir then some (stageTo s f u dir) else none

/-! The edge ports (R10, R97, R98). -/

/-- The end of the path that queue SQ(8r + i) feeds (R10, R57). -/
def edgeInEnd (s : State) (q : Nat) : PathEnd :=
  let r := q / 8
  let u := q % 8
  if rowBypass s r == 0 then (match farEast s r 1 u with | .closed => .closed | _ => .stage (6 * r) u 0)
  else farEast s r 0 u

/-- The tokens of a word: ceil(valid_bytes / 4), lane 0 first, the end mark on the last of an end word (R97). -/
def wordTokens (w : QWord) : List (Word × Bool) :=
  let n := (w.valid + 3) / 4
  (List.range n).map (fun k => (wd (bitsOf w.data (32 * k) 32), w.last && k + 1 == n))

/-- The tokens that an input edge port has at hand: what is left of its word, else the next word's (R97). -/
def edgeInTokens (s : State) (q : Nat) : List (Word × Bool) :=
  match (queueOf s q).rest with
  | [] => (match qHead s q with | some w => wordTokens w | none => [])
  | l => l

/-- An input edge port can deliver its next token in the present ACLK. -/
def edgeInReady (s : State) (q : Nat) : Bool :=
  qIsInput q && qState s q == 2 && !capoHeld s && (queueOf s q).portAt != aclk s + 1 && endReady s none (edgeInEnd s q) && !(edgeInTokens s q).isEmpty

/-- The next token of an input edge port delivered. -/
def edgeInTo (s : State) (q : Nat) : State :=
  match edgeInTokens s q with
  | t :: r =>
    let s1 := if (queueOf s q).rest.isEmpty then qTake s q else s
    endPut (setQueue s1 q { queueOf s1 q with rest := r, portAt := aclk s + 1 }) (edgeInEnd s q) { data := t.1, last := t.2 } none
  | [] => s

/-- An input edge port delivers its next token (R97). -/
def edgeInput (s : State) (q : Nat) : Option State := if edgeInReady s q then some (edgeInTo s q) else none

/-- An output edge port writes the token that it has accepted as one item of its queue; during a flush the item is dropped (R98, R109). -/
def edgeOutput (s : State) (p : Nat) : Option State :=
  match tabFind s.arr.edgeOut p with
  | some h =>
    if capoHeld s then none
    else match qOffer s (32 + p) h.tok.data.toNat h.tok.last with
      | some s1 => some { s1 with arr := { s1.arr with edgeOut := tabErase s1.arr.edgeOut p } }
      | none => none
  | none => none

/-! Field memory and the drill streams (R63 to R70). -/

/-- A read stream can deliver its next item in the present ACLK: the read was issued 2 ACLK before, and the cell behind its port is ready (R64, R68). -/
def drillReady (s : State) (f d : Nat) : Bool :=
  let st := streamOf (fieldOf s f) d 0
  match drillPort s f d 0, st.buf with
  | some v, it :: _ =>
    fieldMoving s f && !draining s f && st.movedAt != aclk s + 1 && decide (it.since + 2 ≤ aclk s) && endReady s (some f) (.cell f (56 + v) 2)
  | _, _ => false

/-- The delivery of a read stream's next item. -/
def drillTo (s : State) (f d : Nat) : State :=
  let st := streamOf (fieldOf s f) d 0
  let slot := streamSlot s f d 0
  match drillPort s f d 0, st.buf with
  | some v, it :: rest =>
    let x1 := setStream (fieldOf s f) d 0 { st with buf := rest, movedAt := aclk s + 1, endAt := if it.tok.last then aclk s + 1 else st.endAt }
    let x2 := if it.tok.last && atEndRuns s f && slot == activeSlot s f then streamSwitch s x1 slot d 0 else x1
    atEndCheck (endPut (setField s f x2) (.cell f (56 + v) 2) it.tok (some (d, slot))) f
  | _, _ => s

/-- A read stream delivers its next item into the cell behind its port (R64, R65, R68 to R70). -/
def drillRead (s : State) (f d : Nat) : Option State :=
  let z := fieldNow s f
  if drillReady z f d then some (drillTo z f d) else none

/-- What feeds a headland port's input: an edge port, a bypass stage, a border cell of a neighbour, or a read stream (R59). -/
inductive Feed
  | edge (q : Nat)
  | stage (f u dir : Nat)
  | cell (f c dir : Nat)
  | drill (f d : Nat)
  deriving DecidableEq, Repr

/-- The feed of port `port` of field `f`. -/
def portFeed (s : State) (f port : Nat) : Option Feed :=
  let r := f / 6
  let p := f % 6
  let u := port % 8
  if port < 8 then
    if p == 0 then some (.edge (8 * r + u))
    else if rowBypass s r == p - 1 then some (.stage (f - 1) u 0)
    else some (.cell (f - 1) (8 * u + 7) 1)
  else if port < 16 then
    if p == 5 then none
    else if rowBypass s r == p + 1 then some (.stage (f + 1) u 1)
    else some (.cell (f + 1) (8 * u) 3)
  else if port < 24 then (if 6 ≤ f then some (.cell (f - 6) (56 + u) 2) else none)
  else
    let x := portSetting s f port
    if 2 ≤ x && x ≤ 5 then some (.drill f (x - 2)) else if f < 18 then some (.cell (f + 6) u 0) else none

/-- The state in which a feed is looked at: that of the field it belongs to in the present ACLK. -/
def feedNow (s : State) (x : Feed) : State :=
  match x with
  | .edge _ => s
  | .stage _ _ _ => s
  | .cell f _ _ => fieldNow s f
  | .drill f _ => fieldNow s f

/-- A feed can deliver its next token in the present ACLK. -/
def feedReady (s : State) (x : Feed) : Bool :=
  match x with
  | .edge q => edgeInReady s q
  | .stage f u dir => stageReady s f u dir
  | .cell f c dir => deliverReady s f c && (match (cellOf (fieldOf s f) c).win with | e :: _ => bitOf e.deliver dir | [] => false)
  | .drill f d => drillReady s f d

/-- The next token of a feed. -/
def feedToken (s : State) (x : Feed) : Token :=
  match x with
  | .edge q => (match edgeInTokens s q with | t :: _ => { data := t.1, last := t.2 } | [] => {})
  | .stage f u dir => (match stageOf (fieldOf s f) u dir with | h :: _ => h.tok | [] => {})
  | .cell f c dir => (match (cellOf (fieldOf s f) c).win with | e :: _ => entryOut e dir | [] => {})
  | .drill f d => (match (streamOf (fieldOf s f) d 0).buf with | it :: _ => it.tok | [] => {})

/-- A feed delivers its next token. -/
def feedTo (s : State) (x : Feed) : State :=
  match x with
  | .edge q => edgeInTo s q
  | .stage f u dir => stageTo s f u dir
  | .cell f c _ => deliverTo s f c
  | .drill f d => drillTo s f d

/-- The cue port of an armed retune admits a matching end-marked token, which starts the retune (R77). -/
def retuneCue (s : State) (f : Nat) : Option State :=
  match (fieldOf s f).retune with
  | some r =>
    match portFeed s f r.cuePort with
    | some x =>
      let z := feedNow s x
      if retuneState s f == 1 && feedReady z x && cueMatches r (feedToken z x) then some (feedTo z x) else none
    | none => none
  | none => none

/-- The cell whose S output feeds a write stream can deliver its head entry, and the entry goes to the stream. -/
def acceptReady (s : State) (f v : Nat) : Bool :=
  (match (cellOf (fieldOf s f) (56 + v)).win with | e :: _ => bitOf e.deliver 2 | [] => false) && deliverReady s f (56 + v)

/-- The cell whose S output feeds a write stream delivers its head entry to it (R65). -/
def drillAccept (s : State) (f d : Nat) : Option State :=
  let z := fieldNow s f
  match drillPort z f d 1 with
  | none => none
  | some v => if acceptReady z f v then some (deliverTo z f (56 + v)) else none

/-- Write stream `d` asks for a sub-bank's write port in the present ACLK: the field is not frozen, the stream's oldest token was there at the start, and it has written none yet (R70, R84). -/
def storeWants (s : State) (x : Field) (bank d : Nat) : Bool :=
  match (streamOf x d 1).buf with
  | it :: _ => !frozenIn x (aclk s) && it.addr / 16384 == bank && decide (it.since < aclk s) && (streamOf x d 1).storedAt != aclk s + 1
  | [] => false

/-- The write port of a sub-bank serves write stream `d` in the present ACLK (R70). -/
def storeServed (s : State) (x : Field) (bank d : Nat) : Bool :=
  tabGet 0 x.netWriteAt bank != aclk s + 1 && !netFirst x bank true (aclk s) && (bankOrder bank).find? (storeWants s x bank) == some d

/-- The oldest accepted token of a write stream can be written to its sub-bank. -/
def storeReady (s : State) (f d : Nat) : Bool :=
  match (streamOf (fieldOf s f) d 1).buf with
  | it :: _ => domOn s f && !frozenIn (fieldOf s f) (aclk s) && storeServed s (fieldOf s f) (it.addr / 16384) d
  | [] => false

/-- The oldest accepted token of a write stream is written. -/
def storeTo (s : State) (f d : Nat) : State :=
  let x := fieldOf s f
  let st := streamOf x d 1
  match st.buf with
  | it :: rest =>
    let x1 := { setStream x d 1 { st with buf := rest, storedAt := aclk s + 1 } with netWriteAt := tabSet 0 x.netWriteAt (it.addr / 16384) (aclk s + 1) }
    setFieldWord (setField s f x1) f it.addr it.tok.data.toNat
  | [] => s

/-- A write stream writes its oldest accepted token to its sub-bank (R70). -/
def drillStore (s : State) (f d : Nat) : Option State :=
  let z := fieldNow s f
  if storeReady z f d then some (storeTo z f d) else none

/-! DRAIN (R80). -/

/-- The tokens in the field's skid buffers that came from the read stream of unit d in a slot; such a token enters through an S port. -/
def drillTokens (x : Field) (d slot : Nat) : Nat :=
  (List.range 8).foldl (fun n v => n + ((skidOf (cellOf x (56 + v)) 2).filter (fun h => h.drill == some (d, slot))).length) 0

/-- The read stream of unit d wound back in a slot by the number of its tokens in skid buffers. -/
def drillBack (x : Field) (d slot : Nat) : Field :=
  setDrillCount x slot d 0 (ddBack (drillDesc (slotOf x slot) d 0) (drillCount x slot d 0) (drillTokens x d slot))

/-- Peeked tokens and read-stream tokens discarded, each stream wound back by the number of its own (R80). -/
def drainDiscard (x : Field) (slot : Nat) : Field :=
  let x1 := (List.range 4).foldl (fun y d => (List.range 8).foldl (fun z k => drillBack z d k) (dropItems y slot d)) x
  (List.range 64).foldl (fun y c => setCell y c { cellOf y c with skids := [] }) x1

/-- A DRAIN retune can switch in the present ACLK. -/
def drainReady (s : State) (f : Nat) : Bool :=
  draining s f && (fieldOf s f).retune.isSome && domOn s f && !frozenIn (fieldOf s f) (aclk s) && fieldEmpty s f

/-- The switch of a DRAIN retune in the first ACLK whose start finds the field empty (R80). -/
def drainSwitch (s : State) (f : Nat) : Option State :=
  let z := fieldNow s f
  match (fieldOf z f).retune with
  | some r =>
    if drainReady z f then some (retuneEnd (setField z f (drainDiscard (fieldOf z f) (activeSlot z f))) f r 3) else none
  | none => none

/-- A running retune reaches RetuneLimit: TIMEOUT under DRAIN, FORCED under AT_END (R82). FromSlot, ToSlot and Duration stay as the last retune that changed over left them under TIMEOUT and CANCELLED: DESIGN CHOICE, log 120. -/
def retuneExpire (s : State) (f : Nat) : Option State :=
  match (fieldOf s f).retune with
  | some r =>
    if retuneState s f == 2 && domOn s f && decide (r.startAclk + rd s (0x2007 + 0x40 * f) 0x00 ≤ aclk s) then
      let z := fieldNow s f
      if r.mode == 2 then
        let s1 := setField z f (dropReadItems z (fieldOf z f) (activeSlot z f) r.startAclk)
        some (retuneEnd (bump s1 (0x2008 + 0x40 * f) 0x02) f r 5)
      else
        let s1 := setField (wr z (0x2006 + 0x40 * f) 0x01 4) f { fieldOf z f with retune := none }
        some (raiseEvent (bump s1 (0x2008 + 0x40 * f) 0x01) f)
    else none
  | none => none

end Sys2Proof.Machine
end

