-- ==== Sys2Proof/Machine/Keccak.lean ====
section
/-! DEFINITION. SHA3-512 and SHAKE256, as 00_scope.md names them from FIPS 202 and 15_boot_and_security.md uses them.
PRESUMED: the permutation and the paddings are those of FIPS 202, which the spec names and does not print. The tables of
the standard are not written out: the turn of a lane comes from the walk over the lanes that the standard defines it by, and
the constant of a round from the standard's shift register. -/

set_option Elab.async false

namespace Sys2Proof.Machine

/-- Turns a 64-bit lane left by `n` places. -/
def turn (n v : Nat) : Nat := v * 2 ^ (n % 64) % 2 ^ 64 + v / 2 ^ (64 - n % 64)

/-- A sheet of 25 lanes from a function of column and row; the lane in column `x` of row `y` is number x + 5y. -/
def sheet (f : Nat → Nat → Nat) : List Nat := (List.range 25).map fun i => f (i % 5) (i / 5)

/-- The lane in a column and a row, both counted modulo 5. -/
def laneAt (a : List Nat) (x y : Nat) : Nat := a.getD (x % 5 + 5 * (y % 5)) 0

/-- The 24 places of the walk from column 1 of row 0, in order; each place carries its lane to the next one. -/
def walk : Nat → Nat × Nat → List (Nat × Nat)
  | 0, _ => []
  | n + 1, (x, y) => (x, y) :: walk n (y, (2 * x + 3 * y) % 5)

/-- For each lane of a result the number of the lane it comes from and how far that lane is turned. -/
def carried : List (Nat × Nat) :=
  let steps := (walk 24 (1, 0)).zipIdx
  (List.range 25).map fun i =>
    match steps.find? fun w => Nat.beq (w.1.2 + 5 * ((2 * w.1.1 + 3 * w.1.2) % 5)) i with
    | some w => (w.1.1 + 5 * w.1.2, (w.2 + 1) * (w.2 + 2) / 2 % 64)
    | none => (i, 0)

/-- The shift register of the round constants after one more step (x⁸ + x⁶ + x⁵ + x⁴ + 1). -/
def rcStep (r : Nat) : Nat := if r < 128 then 2 * r else (2 * r) ^^^ 0x171

/-- The constant of the round that starts with the register at `r`, and the register seven steps on. -/
def rcRound (r : Nat) : Nat × Nat :=
  (List.range 7).foldl (fun p j => (if p.2 % 2 == 1 then p.1 + 2 ^ (2 ^ j - 1) else p.1, rcStep p.2)) (0, r)

/-- The constants of `n` rounds from a register on. -/
def rcFrom : Nat → Nat → List Nat
  | 0, _ => []
  | n + 1, r => (rcRound r).1 :: rcFrom n (rcRound r).2

/-- One round: the column parities are mixed in, the lanes are carried and turned, each row is combined and the first lane takes
the constant. -/
def mixRound (by_ : List (Nat × Nat)) (a : List Nat) (rc : Nat) : List Nat :=
  let par := (List.range 5).map fun x => (List.range 5).foldl (fun p y => p ^^^ laneAt a x y) 0
  let mixed := sheet fun x y => laneAt a x y ^^^ laneAt par (x + 4) 0 ^^^ turn 1 (laneAt par (x + 1) 0)
  let moved := by_.map fun p => turn p.2 (mixed.getD p.1 0)
  sheet fun x y =>
    let kept := laneAt moved (x + 2) y
    laneAt moved x y ^^^ (kept - (kept &&& laneAt moved (x + 1) y)) ^^^ (if x + y == 0 then rc else 0)

/-- The permutation of 24 rounds. -/
def permute (a : List Nat) : List Nat := (rcFrom 24 1).foldl (mixRound carried) a

/-- The state with the bytes of one block added to its first lanes. -/
def takeIn (a : List Nat) (block : List Byte) : List Nat :=
  permute (a.zipIdx.map fun l => l.1 ^^^ leAt block (8 * l.2) 8)

/-- A message with its end marked: the first byte after it carries the suffix bits, the last byte of its block the bit 0x80. -/
def marked (rate : Nat) (suffix : Nat) (m : List Byte) : List Byte :=
  let short := rate - 1 - m.length % rate
  if short == 0 then m ++ leBytes 1 (suffix + 0x80) else m ++ leBytes 1 suffix ++ leBytes short (2 ^ (8 * short - 1))

/-- The blocks of a message. -/
def blocksOf (rate : Nat) (m : List Byte) : List (List Byte) :=
  (List.range (m.length / rate)).map fun k => bytesAt m (k * rate) rate

/-- `n` bytes read from a state a block at a time. -/
def readOut (rate : Nat) (n : Nat) (a : List Nat) : List Byte :=
  (((List.range ((n + rate - 1) / rate)).foldl
    (fun p _ => (p.1 ++ (p.2.flatMap (leBytes 8)).take rate, permute p.2)) (([] : List Byte), a)).1).take n

/-- `n` bytes of output for a message. -/
def sponge (rate suffix : Nat) (m : List Byte) (n : Nat) : List Byte :=
  readOut rate n ((blocksOf rate (marked rate suffix m)).foldl takeIn (sheet fun _ _ => 0))

/-- SHA3-512: 64 bytes. -/
def sha3_512 (m : List Byte) : List Byte := sponge 72 0x06 m 64

/-- SHAKE256 with `n` output bytes. -/
def shake256 (m : List Byte) (n : Nat) : List Byte := sponge 136 0x1F m n

end Sys2Proof.Machine
end

