-- ==== Sys2Proof/Machine/Fields.lean ====
section
/-! DEFINITION. Fields as units of control: halting, clearing, the capo, bypass, the configuration port with the capo state, tuning images and their loading, and retune requests.
Spec: 03_fields_and_tunings.md R55 to R62, R66, R71 to R77, R84 to R89, R465; 16_faults_and_repair.md R441; 14_power_and_clocks.md R403. -/

set_option Elab.async false

namespace Sys2Proof.Machine

/-! Freezing, halting and clearing (R84, R85). -/

/-- The reads that read stream `d` has issued in ACLK k or later are none, and it is wound back by their number: a freeze from ACLK k stops them (R84). -/
def drillUnissue (x : Field) (k d slot : Nat) : Field :=
  let st := streamOf x d 0
  let late := (st.buf.filter (fun i => decide (k ≤ i.since))).length
  if late == 0 then x
  else setStream (setDrillCount x slot d 0 (ddBack (drillDesc (slotOf x slot) d 0) (drillCount x slot d 0) late)) d 0
    { st with buf := st.buf.filter (fun i => decide (i.since < k)) }

/-- A field frozen from ACLK k on: no stream issues from then (R84). -/
def freezeFrom (s : State) (f k : Nat) : State :=
  if (fieldOf s f).frozenAt.isSome then s
  else
    let z := fieldNow s f
    let x := (List.range 4).foldl (fun y d => drillUnissue y k d (streamSlotIn z f d 0 k)) (fieldOf z f)
    setField z f { x with frozenAt := some k }

/-- A field frozen at the boundary that begins the present ACLK. -/
def freezeField (s : State) (f : Nat) : State := freezeFrom s f (aclk s)

/-- A field moves again: the operations in its windows have waited as long as it was frozen. -/
def thawField (s : State) (f : Nat) : State :=
  match (fieldOf s f).frozenAt with
  | none => s
  | some k =>
    let z := fieldNow s f
    let x := fieldOf z f
    let cells := x.cells.map (fun e => (e.1, { e.2 with win := e.2.win.map (fun w => { w with dueAt := w.dueAt + (aclk s - k) }) }))
    setField z f { x with cells := cells, frozenAt := none, capoRaw := [], fetchAt := aclk s }

/-- FieldRun of a field. -/
def fieldRunReg (s : State) (f : Nat) : Nat := rd s (0x2001 + 0x40 * f) 0x00

/-- A write to FieldRun: 0 halts the field at the next ACLK (R85). -/
def fieldRunWrite (s : State) (f v : Nat) : State × Status :=
  if v == 0 then (freezeFrom (wr s (0x2001 + 0x40 * f) 0x00 0) f (aclk s + 1), .ok)
  else if domOn s f && activeSlot s f != 0xFF then
    let s1 := wr s (0x2001 + 0x40 * f) 0x00 1
    (if capoHeld s then s1 else thawField s1 f, .ok)
  else (s, .state)

/-- Every token of a field discarded; registers, memory, stream state and counters stay, those of a read stream past the items that it had fetched. -/
def fieldDiscard (x : Field) : Field :=
  let cells := x.cells.map (fun e => (e.1, { e.2 with skids := [], win := [] }))
  let streams := x.streams.map (fun e => (e.1, { e.2 with buf := [] }))
  { x with cells := cells, streams := streams, bus := [], capoRaw := [] }

/-- The side bits, item counters and drill counters of a slot set to 0. -/
def slotStateClear (x : Field) (slot : Nat) : Field :=
  let cells := x.cells.map (fun e => (e.1, { e.2 with side := tabErase e.2.side slot, count := tabErase e.2.count slot }))
  (List.range 8).foldl (fun y k => { y with counter := tabErase y.counter (8 * slot + k) }) { x with cells := cells }

/-- A write of 1 to FieldClear (R85). -/
def fieldClearWrite (s : State) (f : Nat) : State × Status :=
  if fieldRunReg s f == 1 then (s, .state)
  else
    let x := fieldDiscard (fieldOf (fieldNow s f) f)
    let x1 := if activeSlot s f == 0xFF then x else slotStateClear x (activeSlot s f)
    let x2 := if isBypassed s f then { x1 with stages := [] } else x1
    (setField s f x2, .ok)

/-- The boundary at which a hold or a release applies to all fields (R84). -/
def capoBoundary (s : State) : Option State :=
  let st := rd s 0x2601 0x02
  let hold := rd s 0x2601 0x01
  if st == 1 && hold == 1 then
    let s1 := wr (wr s 0x2601 0x02 2) 0x2601 0x03 (aclk s)
    some ((List.range 24).foldl freezeField s1)
  else if st == 2 && hold == 0 then
    let s1 := wr s 0x2601 0x02 0
    some ((List.range 24).foldl (fun x f =>
      if fieldRunReg x f == 1 then thawField x f else setField x f { fieldOf x f with capoRaw := [] }) s1)
  else if st == 1 then some (wr s 0x2601 0x02 0)
  else none

/-! A field's domain (R403, R33, R36). -/

/-- The field when its domain enters RETAINED: its tokens are discarded. -/
def fieldRetained (s : State) (f : Nat) : State :=
  let z := freezeField (wr s (0x2001 + 0x40 * f) 0x00 0) f
  setField z f (fieldDiscard (fieldOf (fieldNow z f) f))

/-- The field when its domain enters OFF: all of it is lost but the stages of a bypassed field (R57, R72). -/
def fieldLost (s : State) (f : Nat) : State :=
  let st := (fieldOf s f).stages
  let s1 := setField s f { ({} : Field) with stages := st, frozenAt := some (aclk s), fetchAt := aclk s }
  let s2 := wr (wr s1 (0x2000 + 0x40 * f) 0x03 0xFF) (0x2001 + 0x40 * f) 0x00 0
  memForget s2 (fieldMemAddr f 0) (fieldMemAddr (f + 1) 0)

/-! The tuning image (R87 to R89). -/

def imgMagic (b : List Byte) : Nat := leAt b 0x00 4
def imgSize (b : List Byte) : Nat := leAt b 0x08 4
def imgFieldMask (b : List Byte) : Nat := leAt b 0x0C 4
def imgBypassReq (b : List Byte) (r : Nat) : Nat := leAt b (0x10 + r) 1
def imgTuningId (b : List Byte) : Nat := leAt b 0x18 8
def imgRollback (b : List Byte) : Nat := leAt b 0x20 4
def imgKeyId (b : List Byte) : Nat := leAt b 0x24 4
/-- The size of the header and the sections. -/
def imgBodySize (b : List Byte) : Nat := lessBy (imgSize b) (64 + 4627)

/-- Step 1 of R74: the header, with the bytes received and the size of the staging region. A field_mask that names more than the 24 fields, and an image_size that has no room for header, digest and signature, fail it too: DESIGN CHOICE, log 121. -/
def imgHeaderOk (b : List Byte) (received staging : Nat) : Bool :=
  imgMagic b == 0x4E555447 && leAt b 0x04 2 == 1 && leAt b 0x06 2 == 64
  && leAt b 0x3C 4 == crc32c (bytesAt b 0 0x3C)
  && imgSize b == received && decide (imgSize b ≤ staging) && decide (64 + 64 + 4627 ≤ imgSize b)
  && decide (imgFieldMask b < 2 ^ 24)
  && (List.range 4).all (fun r => decide (imgBypassReq b r ≤ 6) || imgBypassReq b r == 0xFF)
  && leAt b 0x14 4 == 0xB0 && leAt b 0x28 20 == 0

/-- Step 2: the key is a tuning-image key, and the rollback is at the floor or above. -/
def imgKeyOk (s : State) (b : List Byte) : Bool :=
  (tabGet ({} : KeySlot) s.keys (imgKeyId b)).ty == 3 && decide (imgKeyId b < 48) && decide (rd s 0x2606 0x00 ≤ imgRollback b)

/-- Step 3: the digest over the header and the sections. -/
def imgDigestOk (b : List Byte) : Bool := sha3_512 (b.take (imgBodySize b)) == bytesAt b (imgBodySize b) 64

/-- Step 4: the signature over the digest. -/
def imgSignatureOk (s : State) (b : List Byte) : Bool :=
  Config.mldsaVerify (tabGet ({} : KeySlot) s.keys (imgKeyId b)).bytes (bytesAt b (imgBodySize b) 64) []
    (bytesAt b (imgBodySize b + 64) 4627)

/-- Steps 1 to 4 of R74: the step that fails first, with its status. -/
def imgAuthCheck (s : State) (b : List Byte) (received staging : Nat) : Option (Nat × Status) :=
  if !imgHeaderOk b received staging then some (1, .range)
  else if !imgKeyOk s b then some (2, .auth)
  else if !imgDigestOk b then some (3, .auth)
  else if !imgSignatureOk s b then some (4, .auth)
  else none

/-- The sections from an offset: logical field and offset of each, with fuel for each; none when the form is wrong (step 5). -/
def imgSections (b : List Byte) : Nat → Nat → Option (List (Nat × Nat))
  | 0, off => if off == imgBodySize b then some [] else none
  | n + 1, off =>
    if off == imgBodySize b then some []
    else
      let size := leAt b (off + 4) 4
      let pages := popcount 64 (leAt b (off + 8) 8)
      if leAt b off 1 < 24 && leAt b (off + 1) 3 == 0 && size == 1840 + 1024 * pages && decide (off + size ≤ imgBodySize b) then
        (imgSections b n (off + size)).map (fun r => (leAt b off 1, off) :: r)
      else none

/-- Numbers rise strictly. -/
def risingList : List Nat → Bool
  | a :: b :: r => decide (a < b) && risingList (b :: r)
  | _ => true

/-- Step 5: the sections, in order and matching field_mask. -/
def imgSectionList (b : List Byte) : Option (List (Nat × Nat)) :=
  (imgSections b 24 64).bind fun l => if risingList (l.map (·.1)) && l.foldl (fun m e => m + 2 ^ e.1) 0 == imgFieldMask b then some l else none

/-- A cell word of a section. -/
def secWord (b : List Byte) (off c : Nat) : Nat := leAt b (off + 0x10 + 24 * c) 24
def secHeadland (b : List Byte) (off port : Nat) : Nat := leAt b (off + 0x610 + port) 1
def secDrill (b : List Byte) (off : Nat) : List Byte := bytesAt b (off + 0x630) 256
def secLutMask (b : List Byte) (off : Nat) : Nat := leAt b (off + 8) 8
/-- Entry `j` of the page carried for cell `c`: pages follow in rising cell order. -/
def secLutEntry (b : List Byte) (off c j : Nat) : Nat :=
  leAt b (off + 0x730 + 1024 * popcount c (secLutMask b off) + 4 * j) 4

/-- Whether a headland setting gives the port an inbound path; `last` tells whether the field is the row's last (R59). -/
def settingInbound (row : Nat) (last : Bool) (port x : Nat) : Bool :=
  if x == 1 then
    (if port < 8 then true
     else if port < 16 then !last
     else if port < 24 then row != 0
     else row != 3)
  else decide (2 ≤ x) && decide (x ≤ 5)

/-- Whether a headland setting gives the port an outbound path (R59). -/
def settingOutbound (row pos port x : Nat) : Bool :=
  if x == 1 then
    (if port < 8 then pos != 0
     else if port < 16 then true
     else if port < 24 then row != 0
     else row != 3)
  else decide (6 ≤ x) && decide (x ≤ 9)

/-- The settings of a section are listed and lie on allowed ports (R59, R62). -/
def headlandOk (b : List Byte) (row : Nat) (h : Nat → Nat) : Bool :=
  (List.range 32).all (fun p =>
    decide (h p ≤ 9)
    && (decide (h p ≤ 1) || decide (24 ≤ p))
    && (!(h p == 1 && decide (16 ≤ p) && decide (p < 24)) || (row != 0 && imgBypassReq b row != 0xFF && imgBypassReq b (row - 1) != 0xFF))
    && (!(h p == 1 && decide (24 ≤ p)) || (row != 3 && imgBypassReq b row != 0xFF && imgBypassReq b (row + 1) != 0xFF)))
  && (List.range 8).all (fun k => decide (((List.range 8).filter (fun v => h (portS v) == 2 + k)).length ≤ 1))

/-- The words of a section read only ports with an inbound path and drive only ports with an outbound path (R62). -/
def borderOk (row pos : Nat) (last : Bool) (w h : Nat → Nat) : Bool :=
  (List.range 64).all (fun c => (List.range 4).all (fun dir =>
    match portOfInput c dir with
    | some p =>
      (!cwNamesInput (w c) dir || settingInbound row last p (h p)) && (!cwDrives (w c) dir || settingOutbound row pos p (h p))
    | none => true))

/-- The drill blocks of a section (R65, R66). -/
def drillOk (blk : List Byte) (h : Nat → Nat) : Bool :=
  (List.range 4).all (fun d =>
    leAt blk (64 * d + 48) 16 == 0 && (List.range 2).all (fun t =>
      let b := bytesAt blk (64 * d + 24 * t) 24
      let port := (List.range 8).any (fun v => h (portS v) == (if t == 0 then 2 else 6) + d)
      if ddEnable b then
        leAt b 0x14 4 == 0 && decide (ddControl b < 64) && decide (ddEndLevel b ≤ 4)
        && (!ddEndSync b || (t == 1 && ddEndLevel b != 4)) && port
      else leNat b == 0 && !port))

/-- Each page is carried for a cell whose word names a page (R89). -/
def lutMaskOk (mask : Nat) (w : Nat → Nat) : Bool :=
  (List.range 64).all (fun c => !bitOf mask c || opNamesPage (cwOpcode (w c)))

/-- Step 7 for one section. -/
def sectionOk (b : List Byte) (lf off bypass : Nat) : Bool :=
  let row := lf / 6
  let pos := lf % 6
  let last := pos == (if bypass == 6 then 5 else 4)
  let w := secWord b off
  let h := secHeadland b off
  (List.range 64).all (fun c => wordOk (w c))
  && (List.range 8).all (fun u => furrowOk ((List.range 8).map (fun v => w (8 * u + v))))
  && headlandOk b row h && borderOk row pos last w h && drillOk (secDrill b off) h && lutMaskOk (secLutMask b off) w

/-- Step 8 for one section: no page carried is the page that the cell's active tuning names. -/
def sectionPagesFree (s : State) (b : List Byte) (f off : Nat) : Bool :=
  activeSlot s f == 0xFF || (List.range 64).all (fun c =>
    !bitOf (secLutMask b off) c
    || !(opNamesPage (cwOpcode (wordOf (fieldOf s f) (cellSlot s f c) c))
         && cwLutPage (wordOf (fieldOf s f) (cellSlot s f c) c) == cwLutPage (secWord b off c)))

/-- Step 6 for one section: the physical field, ON, with the slot free to be loaded. -/
def sectionTarget (s : State) (lf slot : Nat) : Option Nat :=
  match physicalField s lf with
  | none => none
  | some f =>
    let st := (slotOf (fieldOf s f) slot).st
    let named := match (fieldOf s f).retune with | some r => r.target == slot | none => false
    if domOn s f && (st == 0 || st == 2 || st == 4) && !named then some f else none

/-- Steps 5 to 8 of R74: the physical fields with their section offsets, or the step that fails first with its status. -/
def imgLoadCheck (s : State) (b : List Byte) (slot : Nat) : Except (Nat × Status) (List (Nat × Nat)) :=
  match imgSectionList b with
  | none => .error (5, .range)
  | some l =>
    let bypassOk := (List.range 4).all (fun r => imgBypassReq b r == 0xFF || imgBypassReq b r == rowBypass s r)
    let ts := l.map (fun e => (sectionTarget s e.1 slot, e.2))
    if !bypassOk || ts.any (fun e => e.1.isNone) then .error (6, .state)
    else if !l.all (fun e => sectionOk b e.1 e.2 (rowBypass s (e.1 / 6))) then .error (7, .range)
    else
      let targets := ts.map (fun e => (e.1.getD 0, e.2))
      if !targets.all (fun e => sectionPagesFree s b e.1 e.2) then .error (8, .state) else .ok targets

/-! The loader (R73 to R76). -/

def loadState (s : State) : Nat := rd s 0x2603 0x06

/-- A load runs. -/
def loadRunning (s : State) : Bool := let x := loadState s; x == 1 || x == 2 || x == 3

/-- A range of engine addresses lies in bank memory or in the LPDDR5 window, the memories that a load is taken from (R73). -/
def loadRange (a len : Nat) : Bool :=
  (decide (0x20000000 ≤ a) && decide (a + len ≤ 0x22000000)) || (decide (0x80000000 ≤ a) && decide (a + len ≤ 0xF0000000))

/-- The image that a load takes by its source, through the loader's interface NI 11, and the bytes received (R73). An address outside bank memory and the LPDDR5 window gives none: DESIGN CHOICE, log 122. -/
def loadImage (s : State) : List Byte × Nat :=
  match rd s 0x2603 0x01 with
  | 0 =>
    let a := rd s 0x2603 0x02
    let n := memNat s (physAddr s 11 (a + 8)) 4
    let len := if n ≤ rd s 0x2605 0x02 then n else 64
    if !loadRange a 64 then ([], 0)
    else if loadRange a len then (memRead s (physAddr s 11 a) len, n)
    else (memRead s (physAddr s 11 a) 64, 64)
  | 1 => let b := tabGet [] s.cache (rd s 0x2603 0x03); (b, b.length)
  | _ => let b := s.arr.load.domainImage; (b, b.length)

/-- The loader's accesses to a region go to their banks as master 5, or are turned away and counted; the load goes on in any case (R311, R335; DESIGN CHOICE, log 150). -/
def loadUse (s : State) (a len : Nat) : State :=
  if len == 0 then s
  else
    let g := unitGate s 11 a len
    if (gateStatus g).isSome then unitTurned s 11 g else unitUse s 5 11 a len

/-- Go: the copy into the staging region starts (R73, R76, R235). -/
def tuningGo (s : State) : State × Status :=
  if loadRunning s then (s, .state)
  else if rd s 0x2603 0x01 == 0 && rd s 0x1301 0x01 == 2 then (s, .state)
  else if rd s 0x2603 0x01 == 1 && (decide (62 < rd s 0x2603 0x03) || (tabFind s.cache (rd s 0x2603 0x03)).isNone) then (s, .range)
  else
    let (img, n) := loadImage s
    let s1 := enter (loadUse s (rd s 0x2603 0x02) (if rd s 0x2603 0x01 == 0 then img.length else 0)) 0x2603 0x06 1
    ({ s1 with arr := { s1.arr with load := { s1.arr.load with image := img, received := n, slot := rd s 0x2603 0x04, targets := [], base := rd s 0x2605 0x01, askedAt := s.now } } }, .ok)

/-- The events of the target fields (R75). -/
def raiseFields (s : State) (l : List Nat) : State := l.foldl raiseEvent s

/-- A load ends FAILED, with its status and step, and raises the events of its target fields; slots that it was writing are EMPTY. -/
def loadFailed (s : State) (st : Status) (step : Nat) (fields : List Nat) : State :=
  let s1 := (s.arr.load.targets.map (·.1)).foldl (fun x f => setField x f (setSlot (fieldOf x f) s.arr.load.slot {})) s
  let s2 := wr (wr (enter s1 0x2603 0x06 5) 0x2603 0x07 st.code) 0x2603 0x08 step
  raiseFields { s2 with arr := { s2.arr with load := { s2.arr.load with image := [], targets := [] } } } fields

/-- The target fields of an authentic image whose sections are well formed: the physical fields of its logical ones. Before step 6 has passed no section is known, and no field is a target: DESIGN CHOICE, log 123. -/
def imgTargets (s : State) (b : List Byte) : List Nat :=
  match imgSectionList b with
  | none => []
  | some l => l.filterMap (fun e => physicalField s e.1)

/-- The checks of the staged image: the target slots become LOADING or the load fails (R73, R74). The regions are read and written whatever the domain that holds them: DESIGN CHOICE, log 150. -/
def tuningChecked (s : State) : Option State :=
  if loadState s != 1 then none
  else
    let img := s.arr.load.image
    let staging := rd s 0x2605 0x02
    let s1 := if imgSize img ≤ staging then memWrite (loadUse s s.arr.load.base (min img.length staging)) s.arr.load.base (img.take staging) else s
    match imgAuthCheck s1 img s.arr.load.received staging with
    | some (k, st) => some (loadFailed (bump s1 0x2608 0x01) st k [])
    | none =>
      match imgLoadCheck s1 img s.arr.load.slot with
      | .error (k, st) => some (loadFailed (bump s1 0x2608 0x01) st k (imgTargets s1 img))
      | .ok targets =>
        let s2 := targets.foldl (fun x e => setField x e.1 (setSlot (fieldOf x e.1) s.arr.load.slot { st := 1 })) s1
        let s3 := { s2 with arr := { s2.arr with load := { s2.arr.load with targets := targets, digest := sha3_512 (img.take (imgBodySize img)) } } }
        some (enter s3 0x2603 0x06 3)

/-- The copy into the staging region ends, and both engines have served the loader before every request that they had not begun at Go (R426; notes/assumptions/145.md). -/
def tuningCopyDone (s : State) : Option State :=
  if checkFree s s.arr.load.askedAt then (tuningChecked s).map signAgain else none

/-- A page written into a cell's table. -/
def lutPageWrite (y : Cell) (page : Nat) (entry : Nat → Nat) : Cell :=
  { y with lut := (List.range 256).foldl (fun t j => tabSet 0 t (page * 256 + j) (entry j)) y.lut }

/-- READY slots of a field, other than the loaded one, whose tuning names a page that the load has written become STALE (R72). -/
def markStale (x : Field) (slot : Nat) (written : Nat → Option Nat) : Field :=
  (List.range 8).foldl (fun y k =>
    let sl := slotOf y k
    if k != slot && sl.st == 2 && (List.range 64).any (fun c =>
        match written c with
        | some p => opNamesPage (cwOpcode (wordOf x k c)) && cwLutPage (wordOf x k c) == p
        | none => false)
    then setSlot y k { sl with st := 4 } else y) x

/-- One section written into its slot: READY, with registers, stream state and drill counters 0 (R72, R89). -/
def sectionWrite (x : Field) (slot : Nat) (b : List Byte) (off : Nat) : Field :=
  let words := (List.range 64).foldl (fun t c => tabSet 0 t c (secWord b off c)) []
  let head := (List.range 32).foldl (fun t p => tabSet 0 t p (secHeadland b off p)) []
  let written := fun c => if bitOf (secLutMask b off) c then some (cwLutPage (secWord b off c)) else none
  let x1 := (List.range 64).foldl (fun y c =>
    let cl := cellOf y c
    let c1 := { cl with banked := (List.range 4).foldl (fun t k => tabErase t (4 * slot + k)) cl.banked }
    let c2 := match written c with
      | some p => lutPageWrite c1 p (secLutEntry b off c)
      | none => c1
    setCell y c c2) x
  let x2 := slotStateClear x1 slot
  let x3 := setSlot x2 slot { st := 2, tuningId := imgTuningId b, digest := bytesAt b (imgBodySize b) 64, words := words, headland := head, drill := secDrill b off }
  markStale x3 slot written

/-- The slot writes end: the second digest of the staging copy is compared, and the slots become READY or EMPTY (R75). Lookup-table pages are written only here, so a load that fails in WRITE leaves them as they were: DESIGN CHOICE, log 124. -/
def tuningComplete (s0 : State) : Option State :=
  if loadState s0 != 3 then none
  else
    let s := loadUse s0 s0.arr.load.base s0.arr.load.image.length
    let l := s.arr.load
    let copy := memRead s l.base l.image.length
    if sha3_512 (copy.take (imgBodySize l.image)) != l.digest then
      some (loadFailed (bump s 0x2608 0x02) .auth 9 (l.targets.map (·.1)))
    else
      let s1 := l.targets.foldl (fun x e => setField x e.1 (sectionWrite (fieldOf x e.1) l.slot l.image e.2)) s
      let s2 := wr (wr (enter s1 0x2603 0x06 4) 0x2603 0x07 0) 0x2603 0x08 0
      some (raiseFields { s2 with arr := { s2.arr with load := { l with image := [], targets := [] } } } (l.targets.map (·.1)))

/-- A load in progress fails because a target field went away (R75). -/
def loadTargetGone (s : State) (gone : Nat → Bool) : State :=
  if loadState s == 3 && s.arr.load.targets.any (fun e => gone e.1) then
    loadFailed (bump s 0x2608 0x01) .state 6 (s.arr.load.targets.map (·.1)) else s

/-! Bypass (R58). -/

/-- Every field of the row is halted, or its domain is OFF or RETAINED. -/
def rowStopped (s : State) (r : Nat) : Bool :=
  (List.range 6).all (fun p => fieldRunReg s (6 * r + p) == 0 || domState s (6 * r + p) == 0 || domState s (6 * r + p) == 6)

/-- A write to RowBypass. -/
def rowBypassWrite (s : State) (r v : Nat) : State × Status :=
  if !rowStopped s r then (s, .state)
  else
    let old := rowBypass s r
    let s0 := loadTargetGone s (fun f => f / 6 == r)
    let s1 := if old ≤ 5 then setField s0 (6 * r + old) { fieldOf s0 (6 * r + old) with stages := [] } else s0
    let s2 := (List.range 6).foldl (fun x p =>
      let f := 6 * r + p
      let y := retuneWithdraw x f
      wr (setField y f { fieldOf y f with slots := [] }) (0x2000 + 0x40 * f) 0x03 0xFF) s1
    (wr s2 0x2600 (r + 1) v, .ok)

/-! Retune requests (R77). -/

/-- Whether the active setting of a field's port gives an inbound path. -/
def portInbound (s : State) (f port : Nat) : Bool :=
  let lf := logicalField s f
  let last := lf % 6 == (if rowBypass s (f / 6) == 6 then 5 else 4)
  settingInbound (f / 6) last port (portSetting s f port)

/-- The status with which a field answers a retune request. -/
def retuneCheck (s : State) (f target mode trigger cuePort : Nat) : Status :=
  let x := fieldOf s f
  let act := activeSlot s f
  let st := retuneState s f
  let role := rd s 0x1301 0x01
  if !domOn s f || fieldRunReg s f == 0 || capoHeld s then .state
  else if st == 1 || st == 2 then .state
  else if (slotOf x target).st != 2 && !(mode == 1 && target == act) then .state
  else if mode == 2 && (slotOf x target).headland != (slotOf x act).headland then .state
  else if (role == 2 || role == 3) && !(mode == 1 && trigger == 1) then .state
  else if trigger == 1 && !portInbound s f cuePort then .range
  else .ok

/-- An accepted request is armed on CUE or starts on NOW. -/
def retuneIssue (s : State) (f target mode trigger cuePort cueValue cueMask : Nat) : State :=
  let r : Retune := { target := target, mode := mode, cuePort := cuePort, cueValue := cueValue, cueMask := cueMask }
  if trigger == 1 then setField (wr s (0x2006 + 0x40 * f) 0x01 1) f { fieldOf s f with retune := some r }
  else retuneStart s f r

/-- A write of 1 to a field's Go. -/
def retuneGo (s : State) (f : Nat) : State × Status :=
  let g := fun k => rd s (0x2005 + 0x40 * f) k
  match retuneCheck s f (g 1) (g 2) (g 3) (g 4) with
  | .ok => (retuneIssue s f (g 1) (g 2) (g 3) (g 4) (g 5) (g 6), .ok)
  | st => (s, st)

/-- A write of 1 to the group's Go: every field of the mask accepts, or none starts. -/
def groupGo (s : State) : State × Status :=
  let g := fun k => rd s 0x2602 k
  let fs := indicesWhere 24 (fun f => bitOf (g 7) f)
  match fs.find? (fun f => retuneCheck s f (g 1) (g 2) (g 3) (g 4) != .ok) with
  | some f => (s, retuneCheck s f (g 1) (g 2) (g 3) (g 4))
  | none => (fs.foldl (fun x f => retuneIssue x f (g 1) (g 2) (g 3) (g 4) (g 5) (g 6)) s, .ok)

/-- A write of 1 to Cancel: an armed request is withdrawn (R82). -/
def retuneCancel (s : State) (f : Nat) : State × Status :=
  if retuneState s f == 1 then (retuneWithdraw s f, .ok) else (s, .state)

/-- A write to ActivateSlot (R441). -/
def activateSlot (s : State) (f slot : Nat) : State × Status :=
  if fieldRunReg s f == 0 && activeSlot s f == 0xFF && (slotOf (fieldOf s f) slot).st == 2 then
    (wr (setField s f (setSlot (fieldOf s f) slot { slotOf (fieldOf s f) slot with st := 3 })) (0x2000 + 0x40 * f) 0x03 slot, .ok)
  else (s, .state)

/-! The configuration port and the capo state (R71, R86). -/

/-- The field is stopped or held (R34, R86). -/
def fieldHeld (s : State) (f : Nat) : Bool := fieldRunReg s f == 0 || capoHeld s

/-- The ACLK from which a frozen field's latencies are counted. -/
def frozenTime (s : State) (x : Field) : Nat := x.frozenAt.getD (aclk s)

/-- ACLK left of an operation at the start of ACLK n, as the capo state shows it. -/
def latencyLeft (n : Nat) (e : WinEntry) : Nat := min 7 (e.dueAt - n)

/-- The ends field and the meta word of a window entry (R86). -/
def entryMeta (e : WinEntry) : Nat :=
  boolNat e.result.last + 2 * boolNat e.passN.last + 4 * boolNat e.passE.last + 8 * boolNat e.passS.last + 16 * boolNat e.passW.last
  + 32 * e.deliver + 1024 * boolNat e.we + 2048 * e.reg + 16384 * boolNat e.written + 32768 * e.bankSlot

/-- A word of a cell's block (R86). -/
def cellCapoWord (s : State) (x : Field) (c off : Nat) : Nat :=
  let y := cellOf x c
  let b := busOf x (c / 8)
  let skid := fun k => (skidOf y (k / 2))[k % 2]?
  if off < 0x20 then (match skid (off / 4) with | some h => h.tok.data.toNat | none => 0)
  else if off == 0x20 then
    (List.range 8).foldl (fun m k => m + (match skid k with | some h => boolNat h.tok.last <<< k | none => 0)) 0
    + (List.range 4).foldl (fun m d => m + ((skidOf y d).length <<< (8 + 2 * d))) 0
    + (List.range 2).foldl (fun m k => m + (match b.toks[k]? with | some e => boolNat (bitOf e.2 (c % 8)) <<< (16 + k) | none => 0)) 0
  else if off == 0x24 then
    (List.range 8).foldl (fun m k => m + (match y.win[k]? with | some e => latencyLeft (frozenTime s x) e <<< (8 + 3 * k) | none => 0)) y.win.length
  else if 0x40 ≤ off && off < 0x80 then
    (if off % 8 == 0 then countOf y ((off - 0x40) / 8) else sideOf y ((off - 0x40) / 8))
  else if 0x80 ≤ off && off < 0x140 then
    match y.win[(off - 0x80) / 0x18]? with
    | some e => (match (off - 0x80) % 0x18 with
      | 0x00 => e.result.data.toNat | 0x04 => e.passN.data.toNat | 0x08 => e.passE.data.toNat
      | 0x0C => e.passS.data.toNat | 0x10 => e.passW.data.toNat | _ => entryMeta e)
    | none => 0
  else 0

/-- A cell whose block holds the words `g` (R86). What the words do not tell stays with a token or an entry that they leave as it was: that a token came from a read stream, and the value of a register write due, which is else the result's data. DESIGN CHOICE, log 125. -/
def cellFromCapo (s : State) (x : Field) (c : Nat) (g : Nat → Nat) : Field :=
  let y := cellOf x c
  let n := frozenTime s x
  let drill := fun k => match (skidOf y (k / 2))[k % 2]? with | some h => h.drill | none => none
  let held := fun k => ({ tok := { data := wd (g (4 * k)), last := bitOf (g 0x20) k }, since := 0, drill := drill k } : Held)
  let skids := (List.range 4).foldl (fun t d =>
    tabSet [] t d (((List.range 2).take (min 2 (bitsOf (g 0x20) (8 + 2 * d) 2))).map (fun k => held (2 * d + k)))) []
  let entry := fun k =>
    let o := 0x80 + 0x18 * k
    let m := g (o + 0x14)
    let tk := fun j => ({ data := wd (g (o + 4 * j)), last := bitOf m j } : Token)
    let left := bitsOf (g 0x24) (8 + 3 * k) 3
    let old := y.win[k]?
    let regVal := match old with | some e => if e.result.data.toNat == g o then e.regVal else g o | none => g o
    let dueAt := match old with | some e => if latencyLeft n e == left then e.dueAt else n + left | none => n + left
    ({ result := tk 0, passN := tk 1, passE := tk 2, passS := tk 3, passW := tk 4, deliver := bitsOf m 5 5, we := bitOf m 10,
       reg := bitsOf m 11 3, written := bitOf m 14, bankSlot := bitsOf m 15 3,
       regVal := regVal, dueAt := dueAt } : WinEntry)
  let y1 := { y with
    skids := skids,
    win := (List.range (min 8 (bitsOf (g 0x24) 0 4))).map entry,
    side := (List.range 8).foldl (fun t k => tabSet 0 t k (g (0x44 + 8 * k) % 2)) [],
    count := (List.range 8).foldl (fun t k => tabSet 0 t k (g (0x40 + 8 * k))) [] }
  let u := c / 8
  let b := busOf x u
  let toks := (List.range b.toks.length).map (fun k =>
    match b.toks[k]? with
    | some e => (e.1, setBit e.2 (c % 8) (bitOf (g 0x20) (16 + k)))
    | none => ({}, 0))
  setBus (setCell x c y1) u { b with toks := toks }

/-- A token slot's meta word. -/
def slotMeta (valid last : Bool) (addr : Nat) : Nat := boolNat last + 2 * boolNat valid + 4 * addr

/-- A word of the field block (R86). -/
def fieldCapoWord (s : State) (f : Nat) (x : Field) (off : Nat) : Nat :=
  if off < 0x7880 then
    let k := (off - 0x7800) / 8 % 2
    match (busOf x ((off - 0x7800) / 16)).toks[k]? with
    | some e => if off % 8 == 0 then e.1.tok.data.toNat else slotMeta true e.1.tok.last 0
    | none => 0
  else if off < 0x7980 then
    let o := off - 0x7880
    match (streamOf x (o / 0x40) (o / 0x20 % 2)).buf[o % 0x20 / 8]? with
    | some i => if off % 8 == 0 then i.tok.data.toNat else slotMeta true i.tok.last i.addr
    | none => 0
  else if 0x7A00 ≤ off && off < 0x7C00 then
    let o := off - 0x7A00
    let slot := o / 0x40
    let d := o / 0x10 % 4
    let t := o / 8 % 2
    let b := drillDesc (slotOf x slot) d t
    let n := drillCount x slot d t
    if off % 8 == 0 then ddIndex b n 0 + 65536 * ddIndex b n 1 else ddIndex b n 2 + 65536 * (ddIndex b n 3 % 65536)
  else if 0x7C00 ≤ off && off < 0x7D00 then
    let o := off - 0x7C00
    match (stageOf x (o / 0x20) (o / 0x10 % 2))[o % 0x10 / 8]? with
    | some h => if off % 8 == 0 then h.tok.data.toNat else slotMeta true h.tok.last 0
    | none => 0
  else if off == 0x7E00 then activeSlot s f % 8
  else 0

/-- The token slots from a base offset that are marked valid. -/
def slotsFrom (g : Nat → Nat) (base n : Nat) : List (Token × Nat) :=
  ((List.range n).filter (fun k => bitOf (g (base + 8 * k + 4)) 1)).map (fun k =>
    let m := g (base + 8 * k + 4)
    ({ data := wd (g (base + 8 * k)), last := bitOf m 0 }, bitsOf m 2 16))

/-- The field when its block holds the words `g` (R86). -/
def fieldFromCapo (s : State) (f : Nat) (g : Nat → Nat) (stages : Bool) : State :=
  let x := fieldOf s f
  let x1 := (List.range 8).foldl (fun y u =>
    let old := (busOf y u).toks
    let new := slotsFrom g (0x7800 + 16 * u) 2
    setBus y u { busOf y u with toks := (List.range new.length).map (fun k =>
      ({ tok := (new.getD k ({}, 0)).1, since := 0 }, match old[k]? with | some e => e.2 | none => 0)) }) x
  let x2 := (List.range 8).foldl (fun y k =>
    let d := k / 2
    let t := k % 2
    setStream y d t { streamOf y d t with
      buf := (slotsFrom g (0x7880 + 0x20 * k) 4).map (fun e => ({ addr := e.2, tok := e.1 } : DrillItem)) }) x1
  let x3 := (List.range 64).foldl (fun y k =>
    let slot := k / 8
    let d := k / 2 % 4
    let t := k % 2
    let b := drillDesc (slotOf x slot) d t
    let o := 0x7A00 + 8 * k
    let n := g o % 65536 + ddCount b 0 * (g o / 65536 + ddCount b 1 * (g (o + 4) % 65536 + ddCount b 2 * (g (o + 4) / 65536)))
    if g o == fieldCapoWord s f x o && g (o + 4) == fieldCapoWord s f x (o + 4) then y else setDrillCount y slot d t n) x2
  let x4 := if stages then
      (List.range 16).foldl (fun y k =>
        setStage y (k / 2) (k % 2) ((slotsFrom g (0x7C00 + 0x10 * k) 2).map (fun e => ({ tok := e.1, since := 0 } : Held)))) x3
    else x3
  let act := activeSlot s f
  let new := g 0x7E00 % 8
  if act == 0xFF || act == new then setField s f x4
  else
    let x5 := setSlot x4 act { slotOf x4 act with st := 2 }
    wr (setField s f (setSlot x5 new { slotOf x5 new with st := 3 })) (0x2000 + 0x40 * f) 0x03 new

/-- A word of a field's capo state as its state gives it: a field block or a cell block. -/
def capoWord (s : State) (f off : Nat) : Nat :=
  let x := fieldOf s f
  if off < 0x8000 then fieldCapoWord s f x off else cellCapoWord s x ((off - 0x8000) / 0x200) (off % 0x200)

/-- A word of the capo state: one written that the state does not hold, else the state's. -/
def capoRead (s : State) (f off : Nat) : Nat := (tabFind (fieldOf s f).capoRaw off).getD (capoWord s f off)

/-- The bits of a capo-state word that the tables of R86 give a meaning; the others are reserved. -/
def capoBits (off : Nat) : Nat :=
  let all := 0xFFFFFFFF
  if off < 0x8000 then
    let slot := fun (m : Nat) => if off % 8 == 0 then all else m
    if off < 0x7880 then slot 0x3
    else if off < 0x7980 then slot 0x3FFFF
    else if off < 0x7A00 then 0
    else if off < 0x7C00 then all
    else if off < 0x7D00 then slot 0x3
    else if off == 0x7E00 then 0x7
    else 0
  else
    let o := off % 0x200
    if o < 0x20 then all
    else if o == 0x20 then 0x3FFFF
    else if o == 0x24 then 0xFFFFFF0F
    else if o < 0x40 then 0
    else if o < 0x80 then (if o % 8 == 0 then all else 1)
    else if o < 0x140 then (if (o - 0x80) % 0x18 == 0x14 then 0x3FFFF else all)
    else 0

/-- The bypass-stage words can be reached only while the capo is held, the others while the field is stopped or held (R71, R86). -/
def capoOpen (s : State) (f off : Nat) : Bool :=
  if decide (0x7C00 ≤ off) && decide (off < 0x7E00) then capoHeld s else fieldHeld s f

/-- A word of the port at an aligned offset (R71). -/
def configPortRead (s : State) (f off : Nat) : Except Status Nat :=
  let z := fieldNow s f
  let x := fieldOf z f
  if off % 4 != 0 then .error .type
  else if off < 0x4000 then
    let w := wordOf x (off / 0x800) (off % 0x800 / 0x20)
    .ok (if off % 0x20 < 24 then bitsOf w (8 * (off % 0x20)) 32 else 0)
  else if off < 0x6000 then
    let o := off - 0x4000
    .ok (cellReg (cellOf x (o % 0x400 / 0x10)) (o / 0x400) (o % 0x10 / 4))
  else if off < 0x6400 then
    let o := off - 0x6000
    .ok (cellReg (cellOf x (o / 0x10)) 0 (4 + o % 0x10 / 4))
  else if off < 0x6C00 then
    let o := off - 0x6400
    .ok (leAt (slotOf x (o / 0x100)).drill (o % 0x100) 4)
  else if off < 0x6D00 then
    let o := off - 0x6C00
    .ok ((List.range 4).foldl (fun m k => m + tabGet 0 (slotOf x (o / 0x20)).headland (o % 0x20 + k) * 2 ^ (8 * k)) 0)
  else if off == 0x7000 then .ok x.lutSelect
  else if 0x7400 ≤ off && off < 0x7800 then
    .ok (tabGet 0 (cellOf x (x.lutSelect % 64)).lut (bitsOf x.lutSelect 8 1 * 256 + (off - 0x7400) / 4))
  else if 0x7800 ≤ off && off < 0x10000 then (if capoOpen s f off then .ok (capoRead z f off) else .error .state)
  else .error .range

/-- The cell, slot and register that an offset of the port names (R71). -/
def portRegister (off : Nat) : Nat × Nat × Nat :=
  if off < 0x6000 then ((off - 0x4000) % 0x400 / 0x10, (off - 0x4000) / 0x400, (off - 0x4000) % 0x10 / 4)
  else ((off - 0x6000) / 0x10, 0, 4 + (off - 0x6000) % 0x10 / 4)

/-- A register of a cell written through the port (R34). -/
def configRegWrite (s : State) (f off v : Nat) : State × Status :=
  if !fieldHeld s f then (s, .state)
  else
    let z := fieldNow s f
    let x := fieldOf z f
    let (c, slot, k) := portRegister off
    (setField z f (setCell x c (setCellReg (cellOf x c) slot k v)), .ok)

/-- An entry of the selected page written through the port (R37). -/
def configLutWrite (s : State) (f off v : Nat) : State × Status :=
  let x := fieldOf s f
  let c := x.lutSelect % 64
  let page := bitsOf x.lutSelect 8 1
  let w := wordOf x (cellSlot s f c) c
  if activeSlot s f != 0xFF && opNamesPage (cwOpcode w) && cwLutPage w == page then (s, .state)
  else
    let y := cellOf x c
    (setField s f (setCell x c { y with lut := tabSet 0 y.lut (page * 256 + (off - 0x7400) / 4) v }), .ok)

/-- The field when one word of its capo state is written: the state follows the word, and what it cannot hold yet is kept for the words to come (R86). -/
def capoPut (s : State) (f off v : Nat) : State :=
  let x := fieldOf s f
  let g := fun o => if o == off then v else capoRead s f o
  let s1 := if off < 0x8000 then fieldFromCapo s f g (capoHeld s)
    else setField s f (cellFromCapo s x ((off - 0x8000) / 0x200) (fun o => g (0x8000 + 0x200 * ((off - 0x8000) / 0x200) + o)))
  let kept := x.capoRaw.filter (fun e => e.1 != off && capoWord s1 f e.1 != e.2)
  setField s1 f { fieldOf s1 f with capoRaw := if capoWord s1 f off == v then kept else tabPut kept off v }

/-- A word of the capo state written; one with a reserved bit set is refused with RANGE (R86, R5; DEDUCED, log 147). -/
def capoStateWrite (s : State) (f off v : Nat) : State × Status :=
  if !capoOpen s f off then (s, .state)
  else if clearBits v (capoBits off) != 0 then (s, .range)
  else (capoPut (fieldNow s f) f off v, .ok)

/-- A refused access to a field's configuration port is counted. -/
def portRefused (s : State) (f : Nat) (p : State × Status) : State × Status :=
  match p.2 with
  | .ok => p
  | st => (bump s (0x2008 + 0x40 * f) 0x03, st)

/-- A 32-bit store to the configuration port of a field whose domain is ON (R71). -/
def configPortWrite (s : State) (f off v : Nat) : State × Status :=
  if !domOn s f then (s, .absorbed)
  else portRefused s f
    (if off % 4 != 0 then (s, .type)
     else if off < 0x4000 then (s, .type)
     else if off < 0x6400 then configRegWrite s f off v
     else if off < 0x6D00 then (s, .type)
     else if off == 0x7000 then
       (if clearBits v 0x13F != 0 then (s, .range) else (setField s f { fieldOf s f with lutSelect := v }, .ok))
     else if 0x7400 ≤ off && off < 0x7800 then configLutWrite s f off v
     else if 0x7800 ≤ off && off < 0x10000 then capoStateWrite s f off v
     else (s, .range))

/-- A 32-bit load from the configuration port; a refusal is counted. -/
def configPortLoad (s : State) (f off : Nat) : State × Except Status Nat :=
  if !domOn s f then (s, .error .absorbed)
  else match configPortRead s f off with
    | .ok v => (s, .ok v)
    | .error st => (bump s (0x2008 + 0x40 * f) 0x03, .error st)

end Sys2Proof.Machine
end

