-- ==== Sys2Proof/Machine/PairLink.lean ====
section
/-! DEFINITION. The pair link: roles and what they set, pair frames, the ordered sequence, and the comparison of digests.
Spec: 08_pair_operation.md R219, R223 to R228, R237, R238. -/

set_option Elab.async false

namespace Sys2Proof.Machine

/-- 0 SINGLE, 1 ARBITRATING, 2 PRIMARY, 3 STANDBY, 4 SOLO, 5 ORPHANED, 6 RESYNC, 7 STOOD_DOWN. -/
def pairRole (s : State) : Nat := rd s 0x1301 0x01

/-- The engine outside a pair, or SOLO: it allocates and writes alone. -/
def alone (s : State) : Bool := pairRole s == 0 || pairRole s == 4

/-- Owner of a role (R228). -/
def roleOwner (r : Nat) : Nat := boolNat (r == 0 || r == 2 || r == 4)

/-- ALIVE_OUT and ROLE_OUT (R219). -/
def aliveOut (s : State) : Bool := !s.pair.expired && pairRole s != 0
def roleOut (s : State) : Bool := aliveOut s && (pairRole s == 2 || pairRole s == 4)

def nodeId (s : State) : Nat := rd s 0x1200 0x01

/-- Every Owner of bars and cameras set: it is in the headers built from now on (R149, R228). -/
def setOwners (s : State) (v : Nat) : State :=
  (List.range 6).foldl (fun x k => wr x (0x3808 + 2 * k) 0x10 v)
    ((List.range 24).foldl (fun x b => wr x (0x3100 + 8 * b) 0x07 v) s)

/-- PairRole moves; with it every Owner, and ROLE_CHANGE (R228). -/
def setRole (s : State) (r : Nat) : State :=
  if pairRole s == r then s
  else
    let s1 := setOwners (enter s 0x1301 0x01 r) (roleOwner r)
    let s2 := setCause s1 .pair 0
    if r == 4 then setCause s2 .pair 2 else if r == 5 then setCause s2 .pair 3 else s2

/-! Frames (R223, R224). -/

/-- Lanes PL0 to PL3 in their data state (R225). -/
def plUp (s : State) (i : Nat) : Bool := laneInData s (36 + i)

/-- A lane that is in its data state and has received a HEARTBEAT within 32 µs (R225). -/
def plHeard (s : State) (i : Nat) : Bool :=
  plUp s i && (match tabFind s.pair.heardAt i with | some t => decide (s.now ≤ t + 32 * psUs) | none => false)

/-- The ordered lane (R225). -/
def orderedLane (s : State) : Option Nat := (List.range 4).find? (plHeard s)

/-- LanesUp and OrderedLane as they stand. -/
def showLanes (s : State) : State :=
  let up := (List.range 4).foldl (fun a i => a + boolNat (plHeard s i) * 2 ^ i) 0
  wr (wr s 0x1301 0x05 up) 0x1301 0x06 ((orderedLane s).getD 0xFF)

/-- A pair frame sent on PL lane `i`. -/
def sendPair (s : State) (i kind seq : Nat) (payload : List Byte) : State :=
  laneManage s (36 + i) (seq * 2 ^ 32 + payload.length * 2 ^ 18 + pairRole s * 2 ^ 15 + kind) payload

/-- An ordered frame: numbered, sent on the ordered lane, and kept until it is answered (R225). -/
def sendOrdered (s : State) (kind : Nat) (payload : List Byte) : State × Nat :=
  let seq := s.pair.txSeq + 1
  let s1 := { s with pair := { s.pair with txSeq := seq, unanswered := s.pair.unanswered ++ [{ seq := seq, kind := kind, payload := payload, since := s.now }] } }
  (match orderedLane s1 with
   | some i => sendPair s1 i kind seq payload
   | none => s1, seq)

/-- Every unanswered ordered frame resent on the present ordered lane, each counted (R225). -/
def resendOrdered (s : State) : State :=
  match orderedLane s with
  | some i => s.pair.unanswered.foldl (fun x f => bump (sendPair x i f.kind f.seq f.payload) 0x1306 0x07) s
  | none => s

/-- The ordered lane looked at again; on a change of lane the unanswered frames are resent. -/
def moveOrdered (s : State) : State :=
  let old := rd s 0x1301 0x06
  let s1 := showLanes s
  if rd s1 0x1301 0x06 != old then resendOrdered s1 else s1

/-- A serial lane has entered or left its data state: a PL lane may change the ordered lane. -/
def laneMoved (n : Nat) (s : State) : State := if 36 ≤ n then moveOrdered s else s
def laneMovedWith (n : Nat) (r : State × Status) : State × Status := (laneMoved n r.1, r.2)

/-- The pair link is up (R226). -/
def linkUp (s : State) : Bool := rd s 0x1301 0x04 == 1

/-- An ORPHAN frame while the link is up, and the role ORPHANED (R228). -/
def orphan (s : State) (reason : Nat) : State :=
  let s1 := if linkUp s then (sendOrdered s 0x16 [BitVec.ofNat 8 reason, 0, 0, 0]).1 else s
  bump (setRole s1 5) 0x1306 0x03

/-! Digests (R237, R238). -/

/-- The payload of a DIGEST frame (R224): kind 0 RENDER, 1 VERDICT. -/
def digestPayload (id kind notComparable verdict grade digest : Nat) : List Byte :=
  leBytes 4 id ++ leBytes 1 kind ++ leBytes 1 notComparable ++ leBytes 1 verdict ++ leBytes 1 grade ++ leBytes 4 digest ++ leBytes 4 0

/-- Key of a digest: product, kind, and side (0 own, 1 the partner's). -/
def digestKey (id kind side : Nat) : Nat := 4 * id + 2 * kind + side

def findProduct (s : State) (id : Nat) : Option Product := s.print.products.find? (fun p => p.id == id)

/-- A live record replaced. -/
def setProduct (s : State) (p : Product) : State :=
  { s with print := { s.print with products := s.print.products.map (fun x => if x.id == p.id then p else x) } }

/-- An archive job where ArchiveMode calls for one (R194). -/
def archiveAsk (s : State) (p : Product) : State :=
  let m := rd s 0x3803 0x01
  if decide (p.camera ≤ 5) && (m == 2 || (m == 1 && p.verdict % 4 == 3)) then
    { s with print := { s.print with archive := s.print.archive ++
      [{ product := p.id, camera := p.camera, verdict := p.verdict, firstLine := p.firstLine, lastLine := p.lastLine, pos := p.pos, ptp := ptpTime s, since := s.now }] } }
  else s

/-- A product was created after the partner last entered STANDBY: ids are taken in order and wrap, and the products whose digests are compared are among the last 1,024 (R130, R132, R238). -/
def createdSince (s : State) (id : Nat) : Bool := decide (0 ≤ lineDiff id s.pair.compareFrom)

/-- The mark of R238 follows the ids, so that a wrap never brings one behind it. -/
def compareMoved (s : State) (id : Nat) : State :=
  if decide (0x10000 ≤ lineDiff id s.pair.compareFrom) then { s with pair := { s.pair with compareFrom := (id + (2 ^ 32 - 0x8000)) % 2 ^ 32 } } else s

/-- Both sides of a digest compared (R238). A REJECT set here is archived as any other (R194). -/
def digestCompare (s : State) (id kind : Nat) (own other : List Byte) : State :=
  if !createdSince s id then s
  else if kind == 0 then
    if leAt own 5 1 % 2 == 1 || leAt other 5 1 % 2 == 1 || leAt own 8 4 == leAt other 8 4 then s
    else
      let s1 := bump s 0x1306 0x04
      if pairRole s == 3 then orphan s1 2 else s1
  else if leAt own 6 1 == leAt other 6 1 && leAt own 7 1 == leAt other 7 1 then s
  else
    let s1 := setCause (bump s 0x1306 0x05) .pair 5
    match findProduct s1 id with
    | some p => if !p.decided && p.verdict % 4 == 2 then archiveAsk (setProduct s1 { p with verdict := 0x1F }) { p with verdict := 0x1F } else s1
    | none => s1

/-- A digest of one side noted, and compared once the other side is held. -/
def digestNote (s : State) (side : Nat) (d : List Byte) : State :=
  let id := leAt d 0 4
  let kind := leAt d 4 1 % 2
  match tabFind s.pair.digests (digestKey id kind (1 - side)) with
  | some o =>
    let s1 := { s with pair := { s.pair with digests := tabErase s.pair.digests (digestKey id kind (1 - side)) } }
    compareMoved (if side == 0 then digestCompare s1 id kind d o else digestCompare s1 id kind o d) id
  | none => { s with pair := { s.pair with digests := tabPut s.pair.digests (digestKey id kind side) d } }

/-- This engine's digest sent and noted, in PRIMARY and STANDBY (R237). -/
def digestSend (s : State) (d : List Byte) : State :=
  if pairRole s == 2 || pairRole s == 3 then digestNote (sendOrdered s 0x15 d).1 0 d else s

/-- The bytes of the RENDER digest: for each due bar ascending, the line packets of its window in line order (R237). -/
def renderBytes (p : Product) : List Byte :=
  (List.range 24).foldl (fun a b =>
    match p.windows.find? (fun w => w.bar == b) with
    | some _ => (p.packets.filter (fun e => e.1 / 2 ^ 32 == b)).foldl (fun a e => a ++ e.2) a
    | none => a) []

/-- The RENDER digest, once, when the last of the product's windows is done or at retire (R237). -/
def renderDigest (s : State) (id : Nat) (atRetire : Bool) : State :=
  match findProduct s id with
  | some p =>
    let allDone := p.windows.all (·.finished)
    if p.renderSent || (!atRetire && (!allDone || p.windows.isEmpty)) then s
    else digestSend (setProduct s { p with renderSent := true })
      (digestPayload id 0 (boolNat (p.incomplete != 0 || !allDone)) 0 0 (crc32c (renderBytes p)))
  | none => s

/-- The VERDICT digest, when verify_status becomes DONE, MISSED or LATE (R237). -/
def verdictDigest (s : State) (p : Product) : State := digestSend s (digestPayload p.id 1 0 p.verdict p.grade 0)

end Sys2Proof.Machine
end

