-- ==== Sys2Proof/Machine/Store.lean ====
section
/-! DEFINITION. What the engine keeps in NVM at a command: the parameter store and the snapshot of the trouble counters.
Spec: 13_object_dictionary.md R373 to R377; 16_faults_and_repair.md R438, R439. -/

set_option Elab.async false

namespace Sys2Proof.Machine

/-! Lists of objects. -/

/-- The sub-indices that an entry covers. -/
def descSubs (d : ObjDesc) : List Nat :=
  if d.subTo == 0 then [d.sub] else (List.range ((d.subTo - d.sub) / d.step + 1)).map (fun i => d.sub + i * d.step)

/-- The objects that satisfy a test, in ascending index and sub-index. -/
def objectsWhere (p : ObjDesc → Bool) : Tab ObjDesc :=
  objIndices.foldl (fun t r =>
    (List.range r.count).foldl (fun t u =>
      (r.subs.filter p).foldl (fun t d =>
        (descSubs d).foldl (fun t sub =>
          if subPresent (r.base + u * r.stride) sub then tabPut t (objKey (r.base + u * r.stride) sub) d else t) t) t) t) []

/-- The P objects. -/
def storedObjects : Tab ObjDesc := objectsWhere (·.pers)

/-- The trouble counters (R7). -/
def troubleObjects : Tab ObjDesc := objectsWhere (fun d => d.kind == .trouble && d.acc == .rw)

/-- The bytes of an object's register; those of RouterWeights are the active weights of the selected router (R337). -/
def registerBytes (s : State) (idx sub : Nat) (ty : ObjTy) : List Byte :=
  if idx == 0x5021 && sub == 2 then routerWeights s (rd s 0x5021 0x01)
  else if ty.bytes == 0 then rdBytes s idx sub else leBytes ty.bytes (rd s idx sub)

/-! Banks of 32-byte header and entries (R375, R438). -/

/-- A header with its crc, and the entries. -/
def bankBytes (head : List Byte) (entries : List Byte) : List Byte :=
  let h := head ++ List.replicate (0x1C - head.length) 0
  h ++ leBytes 4 (crc32c (h ++ entries)) ++ entries

/-- Magic, format and crc are correct. -/
def bankValid (magic : Nat) (b : List Byte) : Bool :=
  decide (0x20 ≤ b.length) && leAt b 0 4 == magic && leAt b 4 2 == 1 && leAt b 0x1C 4 == crc32c (b.take 0x1C ++ b.drop 0x20)

/-- Which of two banks is used: 0 or 1, the newer of two valid ones (R376). -/
def newerBank (magic : Nat) (a b : List Byte) : Option Nat :=
  match bankValid magic a, bankValid magic b with
  | true, true => some (if decide (0 < signedOf 32 (leAt b 8 4 + 2 ^ 32 - leAt a 8 4)) then 1 else 0)
  | true, false => some 0
  | false, true => some 1
  | false, false => none

/-! The parameter store (R373 to R376). -/

/-- "GPRM". -/
def paramMagic : Nat := 0x4D525047

/-- An entry: index, sub-index, type, length and the value padded to a multiple of 4. -/
def paramEntry (s : State) (key : Nat) (d : ObjDesc) : List Byte :=
  let v := registerBytes s (key / 256) (key % 256) d.ty
  leBytes 2 (key / 256) ++ leBytes 1 (key % 256) ++ leBytes 1 d.ty.code ++ leBytes 4 v.length ++ v ++ List.replicate ((4 - v.length % 4) % 4) 0

/-- The image of a store, or of the defaults. -/
def paramImage (s : State) (defaults : Bool) : List Byte :=
  let es := if defaults then [] else storedObjects
  let body := es.flatMap (fun e => paramEntry s e.1 e.2)
  bankBytes (leBytes 4 paramMagic ++ leBytes 2 1 ++ leBytes 2 (boolNat defaults) ++ leBytes 4 (rd s 0x1102 0x03 + 1) ++ leBytes 4 es.length ++ leBytes 4 body.length) body

/-- The bank in use at boot. -/
def paramBank (s : State) : Option Nat := newerBank paramMagic s.nvm.paramA s.nvm.paramB

def setNvm (s : State) (x : NvmState) : State := { s with nvm := x }

/-- A store or a load that has failed. -/
def storeFailed (s : State) : State :=
  setCause (bump (wr (wr s 0x1102 0x01 3) 0x1102 0x02 Status.storeFail.code) 0x1102 0x08) .plant 6

/-- A write of "save" or "load" (R373, R374): the image is captured, and its write begins; one that does not fit a bank is not written. -/
def storeCommand (s : State) (defaults : Bool) : State × Status :=
  if rd s 0x1102 0x01 == 1 || !domOn s 40 then (s, .state)
  else
    let img := paramImage s defaults
    if 0x20000 < img.length then (storeFailed s, .ok)
    else (setNvm (enter s 0x1102 0x01 1) { s.nvm with storing := some (img, s.security.paramsDirty) } |> fun x => { x with security := { x.security with paramsDirty := false } }, .ok)

/-- The bank not written last: A while nothing has been written. -/
def otherBank (s : State) : Nat := if s.nvm.paramA.isEmpty && s.nvm.paramB.isEmpty then 0 else 1 - rd s 0x1102 0x04

/-- What a reset leaves of a bank that is being written: what it held, nothing valid, or what was to be written. The spec does not say which (notes/assumptions/118.md). -/
def torn {α : Type} (s : State) (k : Nat) (old bad new : α) : α :=
  match (Config.freeByte s.memEpoch (2 ^ 64 + k)).toNat % 3 with
  | 0 => old
  | 1 => bad
  | _ => new

/-- The parameter banks as a reset leaves them. -/
def paramCut (s : State) : List Byte × List Byte :=
  match s.nvm.storing with
  | none => (s.nvm.paramA, s.nvm.paramB)
  | some (img, _) => if otherBank s == 0 then (torn s 0 s.nvm.paramA [] img, s.nvm.paramB) else (s.nvm.paramA, torn s 0 s.nvm.paramB [] img)

/-- A store ends with its read-back (R373). -/
def storeEnd (s : State) (ok : Bool) : Option State :=
  match s.nvm.storing with
  | none => none
  | some (img, dirty) =>
    let k := otherBank s
    let b := if ok then img else []
    let s1 := setNvm s (if k == 0 then { s.nvm with storing := none, paramA := b } else { s.nvm with storing := none, paramB := b })
    some (if ok then
      setCause ([(0x01, 2), (0x02, 0), (0x03, leAt img 8 4), (0x04, k), (0x05, leAt img 0x0C 4)].foldl (fun x (e : Nat × Nat) => wr x 0x1102 e.1 e.2) s1) .plant 5
    else
      let s2 := storeFailed s1
      { s2 with security := { s2.security with paramsDirty := s2.security.paramsDirty || dirty } })

/-- An entry of a bank at an offset: index, sub-index, type and value; none past the end. -/
def paramEntryAt (b : List Byte) (off : Nat) : Option (Nat × Nat × Nat × List Byte × Nat) :=
  if b.length < off + 8 then none
  else
    let n := leAt b (off + 4) 4
    if b.length < off + 8 + n then none
    else some (leAt b off 2, leAt b (off + 2) 1, leAt b (off + 3) 1, bytesAt b (off + 8) n, off + 8 + (n + 3) / 4 * 4)

/-! Snapshots of the trouble counters (R438, R439). -/

/-- "GTCS". -/
def snapMagic : Nat := 0x53435447

/-- The capture of every trouble counter. -/
def snapImage (s : State) : List Byte :=
  let es := troubleObjects
  let body := es.flatMap (fun e => leBytes 2 (e.1 / 256) ++ leBytes 1 (e.1 % 256) ++ [0] ++ leBytes 2 (rd s (e.1 / 256) (e.1 % 256)) ++ [0, 0])
  bankBytes (leBytes 4 snapMagic ++ leBytes 2 1 ++ [0, 0] ++ leBytes 4 (rd s 0x1700 0x03 + 1) ++ leBytes 4 es.length ++ leBytes 8 (ptpTime s)) body

/-- A capture begins its write. -/
def snapStart (s : State) : State := setNvm (enter s 0x1700 0x02 1) { s.nvm with snapping := some (snapImage s) }

/-- A write of "snap". -/
def snapCommand (s : State) : State × Status :=
  if rd s 0x1700 0x02 == 1 || !domOn s 40 then (s, .state) else (snapStart s, .ok)

/-- The half that was not written last: 0 while nothing has been written. -/
def otherHalf (s : State) : Nat :=
  match newerBank snapMagic s.nvm.snap0 s.nvm.snap1 with
  | some k => 1 - k
  | none => 0

/-- The halves of the snapshot region as a reset leaves them. -/
def snapCut (s : State) : List Byte × List Byte :=
  match s.nvm.snapping with
  | none => (s.nvm.snap0, s.nvm.snap1)
  | some img => if otherHalf s == 0 then (torn s 1 s.nvm.snap0 [] img, s.nvm.snap1) else (s.nvm.snap0, torn s 1 s.nvm.snap1 [] img)

/-- The write of a capture into its half ends. -/
def snapEnd (s : State) (ok : Bool) : Option State :=
  match s.nvm.snapping with
  | none => none
  | some img =>
    let b := if ok then img else []
    let s1 := setNvm s (if otherHalf s == 0 then { s.nvm with snapping := none, snap0 := b } else { s.nvm with snapping := none, snap1 := b })
    some (if ok then wr (wr s1 0x1700 0x02 2) 0x1700 0x03 (leAt img 8 4) else wr s1 0x1700 0x02 3)

/-- SnapshotImage: the newer valid half. -/
def snapNewest (s : State) : List Byte :=
  match newerBank snapMagic s.nvm.snap0 s.nvm.snap1 with
  | some 0 => s.nvm.snap0
  | some _ => s.nvm.snap1
  | none => []

/-- Every trouble counter is 0 (R439). -/
def clearCounters (s : State) : State := troubleObjects.foldl (fun x e => wr x (e.1 / 256) (e.1 % 256) 0) s

/-- How many trouble counters satisfy a test. -/
def troubleCount (s : State) (p : Nat → Bool) : Nat := (troubleObjects.filter (fun e => p (rd s (e.1 / 256) (e.1 % 256)))).length

end Sys2Proof.Machine
end

