-- ==== Sys2Proof/Machine/Serials.lean ====
section
/-! DEFINITION. The serial unit: grants, serial values, allocation and commit, the journal, the ledger and checkpoints, recovery, shutdown and takeover.
Spec: 07_serials_and_ledger.md R195 to R216. -/

set_option Elab.async false

namespace Sys2Proof.Machine

/-! Its objects. -/

/-- Status object `sub` of allotment `a`. -/
def al (s : State) (a sub : Nat) : Nat := rd s (0x4021 + 2 * a) sub
def setAl (s : State) (a sub v : Nat) : State := wr s (0x4021 + 2 * a) sub v
/-- 0 EMPTY, 1 ACTIVE, 2 EXHAUSTED, 3 RETIRED. -/
def alState (s : State) (a : Nat) : Nat := al s a 0x01
def alNext (s : State) (a : Nat) : Nat := al s a 0x08
def alReserve (s : State) (a : Nat) : Nat := al s a 0x09
/-- Indices of the allotment (R197). -/
def alCount (s : State) (a : Nat) : Nat := al s a 0x07 + 1 - al s a 0x06
/-- 0 RECOVERING, 1 READY, 2 JOURNAL_LOST. -/
def serialState (s : State) : Nat := rd s 0x4000 0x01
def ledgerSeq (s : State) : Nat := rd s 0x4008 0x05
def uncovered (s : State) : Nat := rd s 0x4008 0x08
def checkpointSeq (s : State) : Nat := rd s 0x4009 0x05
def setSerial (s : State) (x : SerialState) : State := { s with serial := x }
/-- Every allotment is EMPTY. -/
def allotmentsEmpty (s : State) : Bool := (List.range 32).all (fun a => alState s a == 0)

/-- The serial unit works as that of a standby: it allocates and records nothing (R201, R215). -/
def serialStandby (s : State) : Bool := let r := pairRole s; r == 3 || r == 5 || r == 6

/-- 64 bytes of 0, the head before a GENESIS or RESET segment (R212). -/
def zeroHead : List Byte := List.replicate 64 0

/-! Serial values (R198, R199). -/

/-- F(i, r). -/
def serialF (key : List Byte) (h m i r : Nat) : Nat :=
  leNat (shake256 (key.take 32 ++ [0x47, 0x53, 0x45, 0x52] ++ leBytes 1 i ++ leBytes 1 h ++ leBytes 8 m ++ leBytes 4 r) 8) % 2 ^ h

/-- P(y). -/
def serialP (key : List Byte) (h m y : Nat) : Nat :=
  let (l, r) := [1, 2, 3, 4].foldl (fun (lr : Nat × Nat) i => (lr.2, lr.1 ^^^ serialF key h m i lr.2)) (y >>> h, y % 2 ^ h)
  (l <<< h) ||| r

/-- W: P applied until the result lies below M, with fuel for every 2h-bit value. -/
def serialW (key : List Byte) (h m : Nat) : Nat → Nat → Nat
  | 0, y => y
  | n + 1, y => let z := serialP key h m y; if z < m then z else serialW key h m n z

/-- The value of index `n` of an allotment. -/
def serialValue (s : State) (a n : Nat) : Nat :=
  let g := tabGet [] s.serial.grants a
  let x := al s a 0x06 + n
  if al s a 0x02 == 0 then x
  else serialW (tabGet ({} : KeySlot) s.keys (leAt g 0x16 1)).bytes (leAt g 0x15 1) (leAt g 0x28 8) (2 ^ (2 * leAt g 0x15 1)) x

/-- Decimal digits of a value, most significant first. -/
def decimal : Nat → Nat → List Byte
  | 0, _ => []
  | n + 1, v => decimal n (v / 10) ++ [BitVec.ofNat 8 (0x30 + v % 10)]

/-- A walk ends and its value joins the slot's buffer of 8 (R200). -/
def valueComputed (s : State) (a : Nat) : Option State :=
  let b := tabGet [] s.serial.buffers a
  let n := alNext s a + b.length
  if alState s a == 1 && decide (b.length < 8) && decide (n < alCount s a) then
    some (setSerial s { s.serial with buffers := tabPut s.serial.buffers a (b ++ [serialValue s a n]) })
  else none

/-! The ledger (R210 to R213). -/

/-- A record without its number and time. -/
def ledgerBody (s : State) (gid value product kind slot verdict grade pos flags stream : Nat) : List Byte :=
  leBytes 8 0 ++ leBytes 8 gid ++ leBytes 8 value ++ leBytes 4 product ++ leBytes 1 kind ++ leBytes 1 slot ++ leBytes 1 verdict
    ++ leBytes 1 grade ++ leBytes 8 pos ++ leBytes 8 0 ++ leBytes 4 (flags + (if pairRole s == 4 then 8 else 0))
    ++ leBytes 2 (nodeId s) ++ leBytes 2 stream ++ leBytes 8 0

def ledgerAppend (s : State) (x : LedgerItem) : State := setSerial s { s.serial with unwritten := s.serial.unwritten ++ [x] }

/-- Free room of an output ring in slots of `unit` bytes (R104): one slot stays empty. -/
def ringFree (host engine size unit : Nat) : Nat := (host + size - engine - unit) % size / unit

def ledgerFree (s : State) : Nat := ringFree (rd s 0x4008 0x03) (rd s 0x4008 0x04) (rd s 0x4008 0x02) 64

/-- VOIDED is the cause of a voiding record of whatever grant. -/
def ledgerVoided (s : State) (kind : Nat) : State := if kind == 4 || kind == 3 then setCause s .serial 4 else s

/-- The allotment's printed and voided counts, and the record noted against its index. -/
def ledgerSettle (s : State) (slot n kind seq : Nat) : State :=
  let s1 := if kind == 1 || kind == 2 then setAl s slot 0x0B (al s slot 0x0B + 1) else setAl s slot 0x0C (al s slot 0x0C + 1)
  let r := tabGet [] s1.serial.recorded slot
  setSerial s1 { s1.serial with recorded := tabPut s1.serial.recorded slot (r ++ [(n, seq)]) }

/-- The oldest record waiting is written to the ring when it has room, and the chain head moves over it; the record of a grant that its slot no longer holds leaves the slot's counts and marks (R210, R212, R213; notes/assumptions/139.md). -/
def ledgerWrite (s : State) : Option State :=
  match s.serial.unwritten with
  | x :: r =>
    let g := if ledgerFree s == 0 then .clear else unitGate s 9 (rd s 0x4008 0x01 + rd s 0x4008 0x04) 64
    if ledgerFree s == 0 || !regionOn s 9 (rd s 0x4008 0x01) (rd s 0x4008 0x02) then
      if bitOf (rd s 0x4000 0x04) 6 then turned s 9 g else some (setCause (unitTurned s 9 g) .serial 6)
    else if g != .clear then turned s 9 g
    else
      let s0 := match x.link with
        | some (seq, head) => wr (wrBytes (wr s 0x4008 0x05 seq) 0x4008 0x06 head) 0x4008 0x07 (rd s 0x4008 0x07 + 1)
        | none => s
      let seq := ledgerSeq s0 + 1
      let locked := rd s 0x1230 0x08 == 4
      let body := bytesPut (bytesPut x.body 0 (leBytes 8 seq)) 0x28 (leBytes 8 (ptpTime s))
      let b := bytesPut body 0x30 (leBytes 4 (leAt x.body 0x30 4 + (if locked then 0 else 16)))
      let e := rd s 0x4008 0x04
      let s1 := memWrite (unitUse s0 2 9 (rd s 0x4008 0x01 + e) 64) (physAddr s 9 (rd s 0x4008 0x01) + e) b
      let s2 := wr s1 0x4008 0x04 ((e + 64) % rd s 0x4008 0x02)
      let s3 := wr (wr (wrBytes s2 0x4008 0x06 (sha3_512 (bytesAt (rdBytes s0 0x4008 0x06) 0 64 ++ b))) 0x4008 0x05 seq) 0x4008 0x08 (uncovered s + 1)
      let s4 := setSerial s3 { s3.serial with unwritten := r }
      some (match x.serial with
        | some (slot, n) => ledgerVoided (if leAt b 8 8 == al s4 slot 0x03 then ledgerSettle s4 slot n (leAt b 0x1C 1) seq else s4) (leAt b 0x1C 1)
        | none => s4)
  | [] => none

/-- SEGMENT_START, linked to a checkpoint: its last_seq, its number and its head (R210 to R212). -/
def segmentStart (s : State) (cause seq : Nat) (head : List Byte) : State :=
  ledgerAppend s { body := ledgerBody s 0 seq 0 0x80 0xFF 0 0xFF 0 (cause * 32) 0, link := some (seq, head) }

/-- VOID_UNKNOWN of an index with no product (R207, R216). -/
def voidUnknown (s : State) (slot n cause : Nat) : State :=
  ledgerAppend s { body := ledgerBody s (al s slot 0x03) (serialValue s slot n) 0 4 slot 0 0xFF 0 (cause * 32) (al s slot 0x05), serial := some (slot, n) }

/-! The journal (R205, R206). -/

/-- The state of the slots as a bank image holds it, with the marks, grants and ledgered marks that a write makes effective. -/
def journalSlots (s : State) (w : JournalWrite) : Tab JournalSlot :=
  (List.range 32).foldl (fun t a =>
    let mark := if s.serial.shutdown != 0 then alReserve s a else w.marks.foldl (fun m e => if e.1 == a then max m e.2 else m) (alReserve s a)
    let led := if w.checkpoint then (match s.serial.checkpoint with | some c => c.ledgered.getD a 0 | none => al s a 0x0A) else al s a 0x0A
    let x : JournalSlot := match w.grants.find? (fun g => g.kind == .allot && g.slot == a) with
      | some g => { state := 1, grantId := leAt g.grant 0x08 8 }
      | none => { state := alState s a, grantId := al s a 0x03, reserve := mark, ledgered := led, returnedFrom := al s a 0x0D,
                  printed := al s a 0x0B, voided := al s a 0x0C }
    if w.grants.any (fun g => g.kind == .reset) then t else tabSet {} t a x) []

/-- The image that a write makes of the present state. -/
def journalImage (s : State) (w : JournalWrite) (clean : Bool) : JournalImage :=
  let cp := if w.checkpoint then s.serial.checkpoint else none
  let reset := w.grants.any (fun g => g.kind == .reset)
  { clean := clean
    seq := (rd s 0x4000 0x08 + 1) % 2 ^ 32
    nodeId := nodeId s
    floor := w.grants.foldl (fun m g => max m (leAt g.grant 0x08 8)) (rd s 0x4000 0x02)
    lastSeq := if reset then 0 else match cp with | some c => c.lastSeq | none => s.serial.lastSeq
    checkpointSeq := if reset then 0 else match cp with | some c => c.number | none => checkpointSeq s
    segment := rd s 0x4008 0x07
    head := if reset then zeroHead else match cp with | some c => c.head | none => s.serial.lastHead
    slots := journalSlots s w
    grants := if reset then [] else w.grants.foldl (fun t g => if g.kind == .allot then tabPut t g.slot g.grant else t) s.serial.grants }

/-- A journal write begins (R205); with PD40 OFF it is lost (R437). -/
def journalStart (s : State) (w : JournalWrite) : State :=
  setSerial s { s.serial with running := some { w with image := journalImage s w (s.serial.shutdown == 2), since := s.now, lost := !domOn s 40 } }

/-- A write asked for: it begins, with what the pending write holds, or joins the single pending write (R205). -/
def journalRequest (s : State) (f : JournalWrite → JournalWrite) : State :=
  let w := f (s.serial.waiting.getD {})
  match s.serial.running with
  | none => journalStart (setSerial s { s.serial with waiting := none }) w
  | some _ => setSerial s { s.serial with waiting := some w }

/-- The bytes of a slot entry of a bank (R206). -/
def journalSlotBytes (x : JournalSlot) : List Byte :=
  leBytes 1 x.state ++ List.replicate 7 0 ++ leBytes 8 x.grantId ++ leBytes 8 x.reserve ++ leBytes 8 x.ledgered
    ++ leBytes 8 x.returnedFrom ++ leBytes 8 x.printed ++ leBytes 8 x.voided ++ List.replicate 72 0

/-- The bytes of a bank from 0x00040 to its end (R206). -/
def journalBody (i : JournalImage) : List Byte :=
  leBytes 8 i.lastSeq ++ leBytes 8 i.checkpointSeq ++ leBytes 4 i.segment ++ List.replicate 44 0 ++ bytesAt i.head 0 64
    ++ (List.range 32).flatMap (fun a => journalSlotBytes (tabGet {} i.slots a)) ++ List.replicate 12096 0
    ++ (List.range 32).flatMap (fun a => bytesAt (tabGet [] i.grants a) 0 0x1280) ++ List.replicate 94208 0

/-- The bytes of a bank (R206). -/
def journalBytes (i : JournalImage) : List Byte :=
  let h := [0x47, 0x53, 0x4A, 0x4E] ++ leBytes 2 1 ++ leBytes 2 (boolNat i.clean) ++ leBytes 4 i.seq ++ leBytes 2 i.nodeId ++ leBytes 2 0
    ++ leBytes 8 i.floor ++ List.replicate 36 0
  h ++ leBytes 4 (crc32c (h ++ journalBody i)) ++ journalBody i

/-! Reserve marks (R204, R206). -/

/-- The mark that is being raised, or the one in force. -/
def markAhead (s : State) (a : Nat) : Nat :=
  let up := fun (m : Nat) (l : List (Nat × Nat)) => l.foldl (fun m e => if e.1 == a then max m e.2 else m) m
  let r := s.serial.reserving.foldl (fun m e => if e.2.1 == a then max m e.2.2 else m) (alReserve s a)
  let w := fun (o : Option JournalWrite) m => match o with | some x => up m x.marks | none => m
  w s.serial.running (w s.serial.waiting r)

/-- A reserve mark is raised when reserve − next falls to 128 or below. -/
def raiseMark (s : State) (a : Nat) : State :=
  let m := min (alNext s a + 256) (alCount s a)
  if alState s a != 1 || serialStandby s || decide (128 < alReserve s a - alNext s a) || decide (m ≤ markAhead s a) || s.serial.shutdown != 0 then s
  else if pairRole s == 2 then
    let (s1, seq) := sendOrdered s 0x11 (leBytes 1 a ++ List.replicate 7 0 ++ leBytes 8 m)
    setSerial s1 { s1.serial with reserving := s1.serial.reserving ++ [(seq, a, m)] }
  else
    let s1 := if pairRole s == 4 && decide (4 ≤ rd s 0x1302 0x02) && decide (rd s 0x1302 0x02 ≤ 7) then
      (sendOrdered s 0x11 (leBytes 1 a ++ List.replicate 7 0 ++ leBytes 8 m)).1 else s
    journalRequest s1 (fun w => { w with marks := w.marks ++ [(a, m)] })

/-- Every slot whose reserve − next is 128 or below. -/
def raiseMarks (s : State) : State := (List.range 32).foldl raiseMark s

/-- An ACTIVE allotment whose next has reached its count is EXHAUSTED (R197). -/
def allotmentSpent (s : State) (a : Nat) : State :=
  if alState s a == 1 && alNext s a == alCount s a then setCause (setAl s a 0x01 2) .serial 3 else s

/-! Grants (R195, R196, R209). -/

/-- GS1 character set 82 (PRESUMED from the GS1 General Specifications). -/
def gs1Char (c : Nat) : Bool :=
  c == 0x21 || c == 0x22 || (decide (0x25 ≤ c) && decide (c ≤ 0x3F)) || (decide (0x41 ≤ c) && decide (c ≤ 0x5A)) || c == 0x5F
    || (decide (0x61 ≤ c) && decide (c ≤ 0x7A))

/-- Grants that have passed step 7 and whose journal write has not ended. -/
def pendingGrants (s : State) : List PendingGrant :=
  (match s.serial.running with | some w => w.grants | none => []) ++ (match s.serial.waiting with | some w => w.grants | none => [])

/-- GrantFloor as step 3 takes it. -/
def grantFloor (s : State) : Nat := (pendingGrants s).foldl (fun m g => max m (leAt g.grant 0x08 8)) (rd s 0x4000 0x02)

/-- Step 1. -/
def grantFormOk (g : List Byte) : Bool :=
  g.length == 4723 && leAt g 0 4 == 0x544C4147 && leAt g 4 2 == 1 && leAt g 0x44 12 == 0 && leAt g 0x54 12 == 0
    && (leAt g 7 1 == 0 || leAt g 7 1 == 1 || leAt g 7 1 == 0xFF) && decide (leAt g 6 1 ≤ 31)

/-- Step 2. -/
def grantAuthOk (s : State) (g : List Byte) : Bool :=
  let k := tabGet ({} : KeySlot) s.keys (leAt g 0x50 4)
  decide (leAt g 0x50 4 < 48) && k.ty == 4 && Config.mldsaVerify k.bytes (sha3_512 (g.take 0x60)) [] (g.drop 0x60)

/-- Step 4. -/
def grantRangeOk (s : State) (g : List Byte) : Bool :=
  let node := leAt g 0x10 2
  let plen := leAt g 0x17 1
  (node == nodeId s || (pairRole s != 0 && node == rd s 0x1301 0x03)) && decide (plen + leAt g 0x14 1 ≤ 20)
    && (List.range plen).all (fun i => gs1Char (leAt g (0x30 + i) 1)) && decide (leAt g 0x18 8 ≤ leAt g 0x20 8)

/-- Step 5. -/
def grantModeOk (s : State) (g : List Byte) : Bool :=
  let digits := leAt g 0x14 1
  let last := leAt g 0x20 8
  let h := leAt g 0x15 1
  let m := leAt g 0x28 8
  if leAt g 7 1 == 0 then decide (last < 10 ^ digits)
  else decide (8 ≤ h) && decide (h ≤ 32) && decide (2 ^ (2 * h - 2) < m) && decide (m ≤ 2 ^ (2 * h)) && decide (m ≤ 10 ^ digits)
    && decide (last < m) && (tabGet ({} : KeySlot) s.keys (leAt g 0x16 1)).ty == 5

/-- Step 6: overlap with an ACTIVE allotment, or with a grant that counts as accepted. -/
def grantOverlaps (s : State) (g : List Byte) : Bool :=
  let st := leAt g 0x12 2
  let f := leAt g 0x18 8
  let l := leAt g 0x20 8
  (List.range 32).any (fun a => alState s a == 1 && al s a 0x05 == st && decide (f ≤ al s a 0x07) && decide (al s a 0x06 ≤ l))
    || (pendingGrants s).any (fun p => p.kind == .allot && leAt p.grant 0x12 2 == st && decide (f ≤ leAt p.grant 0x20 8) && decide (leAt p.grant 0x18 8 ≤ l))

/-- Steps 1 to 3. -/
def grantCheck3 (s : State) (g : List Byte) : Option (Nat × Status) :=
  if !grantFormOk g then some (1, .range)
  else if !grantAuthOk s g then some (2, .auth)
  else if leAt g 8 8 ≤ grantFloor s then some (3, .auth)
  else none

/-- Steps 4 to 7. -/
def grantCheck7 (s : State) (g : List Byte) (agent : Bool) : Option (Nat × Status) :=
  let a := leAt g 6 1
  if !grantRangeOk s g then some (4, .range)
  else if !grantModeOk s g then some (5, .range)
  else if grantOverlaps s g then some (6, .range)
  else if serialStandby s && !agent then some (7, .role)
  else if serialState s != 1 || alState s a == 1 || (pendingGrants s).any (fun p => p.slot == a) then some (7, .state)
  else none

/-- The two steps of R209. -/
def resetCheck (s : State) (g : List Byte) : Option (Nat × Status) :=
  if leAt g 0x10 2 != nodeId s || leAt g 6 1 != 0 || (bytesAt g 0x12 0x3E).any (fun b => b != 0) then some (4, .range)
  else if serialStandby s then some (5, .role)
  else if serialState s != 2 then some (5, .state)
  else none

/-- A write to AllotmentGrant: refused, or passed to the journal, whose end answers it (R196, R209). -/
def grantWrite (s : State) (g : List Byte) (agent : Bool) : State × Option Status :=
  let reset := leAt g 7 1 == 0xFF
  let r := match grantCheck3 s g with
    | some f => some f
    | none => if reset then resetCheck s g else grantCheck7 s g agent
  match r with
  | some (step, st) => (wr (wr s 0x4002 0x01 st.code) 0x4002 0x02 step, some st)
  | none =>
    (journalRequest s (fun w => { w with grants := w.grants ++ [{ kind := if reset then .reset else .allot, slot := leAt g 6 1, grant := g }] }), none)

/-- A grant whose journal write has ended takes effect; a checkpoint that started before it covers nothing of it, and its mark there is 0 (R196, R197, R206, R209). -/
def grantApply (s : State) (p : PendingGrant) : State :=
  let g := p.grant
  let a := p.slot
  let s0 := wr (wr (wr s 0x4000 0x02 (leAt g 8 8)) 0x4002 0x01 0) 0x4002 0x02 0
  match p.kind with
  | .allot =>
    let s1 := [(0x01, 1), (0x02, leAt g 7 1), (0x03, leAt g 8 8), (0x04, leAt g 0x10 2), (0x05, leAt g 0x12 2), (0x06, leAt g 0x18 8),
      (0x07, leAt g 0x20 8), (0x08, 0), (0x09, 0), (0x0A, 0), (0x0B, 0), (0x0C, 0), (0x0D, 0), (0x0F, leAt g 0x14 1)].foldl (fun x (e : Nat × Nat) => setAl x a e.1 e.2) s0
    let s2 := wrBytes s1 (0x4021 + 2 * a) 0x0E (bytesAt g 0x30 (leAt g 0x17 1))
    let s3 := setSerial s2 { s2.serial with grants := tabPut s2.serial.grants a g, buffers := tabErase s2.serial.buffers a, recorded := tabErase s2.serial.recorded a, checkpoint := s2.serial.checkpoint.map (fun c => { c with ledgered := listSet c.ledgered a 0 }) }
    let s4 := setHolder (setHolder s3 0x72 0x0700) 0x73 0x0700
    let s5 := if serialStandby s4 then s4 else
      ledgerAppend s4 { body := ledgerBody s4 (leAt g 8 8) (leAt g 0x18 8) 0 0x40 a 0 0xFF 0 0 (leAt g 0x12 2) }
    raiseMark s5 a
  | .reset =>
    let s1 := (List.range 32).foldl (fun x a => (List.range 15).foldl (fun y k => setAl y a (k + 1) 0) x) s0
    let s2 := setSerial s1 { s1.serial with entries := [], buffers := [], grants := [], unwritten := [], recorded := [], lastSeq := 0, lastHead := zeroHead, stopped := false }
    wr (segmentStart (wr (wr (releaseAll s2 0x0700) 0x4009 0x05 0) 0x4008 0x08 0) 5 0 zeroHead) 0x4000 0x01 1

/-- The grant's writer is answered when the journal write ends; one writer's answer is in the command's answer. -/
def grantAnswer (s : State) (w : JournalWrite) (st : Status) : State :=
  if w.grants.isEmpty then s else { s with answer := { s.answer with status := some st } }

/-- The bank that the journal write under way goes to: the one that was not written last, A where none was, and on a retry the other (R205; notes/assumptions/36.md). -/
def journalBankOf (s : State) (w : JournalWrite) : Nat :=
  let first := match s.serial.lastBank with
    | some b => 1 - b
    | none => 0
  if w.retry then 1 - first else first

/-- A journal bank holds what a write has left in it. -/
def journalBankPut (s : State) (bank : Nat) (b : JournalBank) : State :=
  setSerial s (if bank == 0 then { s.serial with bankA := b } else { s.serial with bankB := b })

/-- The journal write that waits starts. -/
def journalNext (s : State) : State :=
  match s.serial.waiting with
  | some v => journalStart (setSerial s { s.serial with running := none, waiting := none }) v
  | none => setSerial s { s.serial with running := none }

/-- No reserve mark of an ACTIVE allotment is being raised. -/
def marksTaken (s : State) : Bool := (List.range 32).all (fun a => alState s a != 1 || markAhead s a == alReserve s a)

/-- After a takeover's checkpoint, allocation resumes once the reserve is renewed (R216). -/
def reserveRenewed (s : State) : State :=
  if s.serial.resume == 3 && marksTaken s then setSerial s { s.serial with resume := 0, halted := s.serial.shutdown != 0 } else s

/-- What a checkpoint ends goes on: 1 the serial unit, 2 the allocation, which waits for its reserve; a shutdown goes to its clean journal (R207, R208, R216). -/
def checkpointResume (s : State) (c : Checkpoint) : State :=
  let s1 := if c.resumes == 1 then wr s 0x4000 0x01 1 else s
  let s2 := if c.resumes == 0 then s1 else
    reserveRenewed (raiseMarks (setSerial s1 { s1.serial with resume := if c.resumes == 2 then 3 else 0 }))
  if c.closes then journalRequest (setSerial s2 { s2.serial with shutdown := 2 }) (fun v => v) else s2

/-- A checkpoint is in the journal: the ledger takes its number, its sequence and its counts. -/
def checkpointJournalled (s : State) : State :=
  match s.serial.checkpoint with
  | none => s
  | some c =>
    let s1 := wr (wr s 0x4009 0x05 c.number) 0x4008 0x08 (ledgerSeq s - c.lastSeq)
    let s2 := (List.range 32).foldl (fun x a => if alState x a == 0 then x else setAl x a 0x0A (max (al x a 0x0A) (c.ledgered.getD a 0))) s1
    let s3 := setSerial s2 { s2.serial with checkpoint := some { c with journalled := true }, lastSeq := c.lastSeq, lastHead := c.head, recorded := s2.serial.recorded.map (fun e => (e.1, e.2.filter (fun r => decide (c.ledgered.getD e.1 0 ≤ r.1)))) }
    checkpointResume s3 c

/-- The reserve marks and grants of a journal write that has been read back take effect; a shutdown has set the marks for good (R204, R205, R208). -/
def journalTaken (s : State) (w : JournalWrite) (bank : Nat) : State :=
  let s1 := count64 (wr (wr (journalBankPut s bank (.image w.image)) 0x4000 0x08 w.image.seq) 0x4000 0x09 bank) 0x4000 0x0A 1
  let s2 := setSerial s1 { s1.serial with running := none, stopped := false, lastBank := some bank }
  let s3 := if s2.serial.shutdown != 0 then s2 else w.marks.foldl (fun x e => if alReserve x e.1 < e.2 then setAl x e.1 0x09 e.2 else x) s2
  reserveRenewed (w.grants.foldl grantApply s3)

/-- A journal write reads back as written. With the clean one the shutdown is complete; what has been asked for meanwhile goes into a further clean one first (R208). -/
def journalWritten (s : State) (w : JournalWrite) (bank : Nat) : State :=
  let s1 := journalTaken s w bank
  let s2 := if w.checkpoint then checkpointJournalled s1 else s1
  let s3 := if w.image.clean && s2.serial.waiting.isNone then setSerial s2 { s2.serial with shutdown := 3 } else s2
  let s4 := grantAnswer s3 w .ok
  match s4.serial.waiting, s4.serial.running with
  | some v, none => journalStart (setSerial s4 { s4.serial with waiting := none }) v
  | _, _ => s4

/-- What the checkpoint in progress ends is asked for anew where its journal write is lost. -/
def checkpointAgain (s : State) : Bool :=
  match s.serial.checkpoint with
  | some c => c.resumes != 0 || c.closes
  | none => false

/-- The reserve marks of a lost journal write go into the next one, which they ask for (R206; notes/assumptions/140.md). -/
def marksAgain (s : State) (marks : List (Nat × Nat)) : State :=
  if marks.isEmpty || s.serial.shutdown != 0 then s else journalRequest s (fun w => { w with marks := marks ++ w.marks })

/-- A journal write that has failed on its retry too: its grants are refused, its checkpoint is discarded and the serial unit stops allocating (R196, R205, R214). -/
def journalLost (s : State) (w : JournalWrite) : State :=
  let s1 := if w.grants.isEmpty then s else wr (wr s 0x4002 0x01 Status.storeFail.code) 0x4002 0x02 0
  let s2 := setSerial s1 { s1.serial with stopped := true, checkpoint := if w.checkpoint then none else s1.serial.checkpoint, wanted := s1.serial.wanted || (w.checkpoint && checkpointAgain s1) }
  let s3 := if s2.serial.shutdown == 2 && s2.serial.waiting.isNone then setSerial s2 { s2.serial with shutdown := 3 } else s2
  marksAgain (journalNext (grantAnswer s3 w .storeFail)) w.marks

/-- The journal banks as a reset leaves them. -/
def journalCut (s : State) : JournalBank × JournalBank :=
  match s.serial.running with
  | none => (s.serial.bankA, s.serial.bankB)
  | some w =>
    if journalBankOf s w == 0 then (torn s 3 s.serial.bankA .bad (.image w.image), s.serial.bankB)
    else (s.serial.bankA, torn s 3 s.serial.bankB .bad (.image w.image))

/-- PD40 leaves ON: the journal write under way is lost, and its bank with it (R437). -/
def journalOff (s : State) : State :=
  match s.serial.running with
  | none => s
  | some w =>
    let s1 := if w.lost then s else journalBankPut s (journalBankOf s w) .bad
    setSerial s1 { s1.serial with running := some { w with lost := true } }

/-- A journal write ends with its read-back (R205); one that the NVM has lost fails. -/
def journalEnd (s : State) (ok : Bool) : Option State :=
  match s.serial.running with
  | none => none
  | some w =>
    if ok && !w.lost then some (journalWritten s w (journalBankOf s w))
    else
      let s0 := if w.lost then s else journalBankPut s (journalBankOf s w) .bad
      let s1 := setCause (bump s0 0x4000 0x06) .serial 7
      if !w.retry then some (setSerial s1 { s1.serial with running := some { w with retry := true, lost := !domOn s 40 } }) else some (journalLost s1 w)

/-! Allocation and commit (R201 to R204). -/

/-- The lowest free entry number. -/
def freeEntry (s : State) : Nat := ((List.range 1024).find? (fun i => (tabFind s.serial.entries i).isNone)).getD 0

/-- The entry of a product. -/
def entryOf (s : State) (id : Nat) : Option (Nat × SerialEntry) := s.serial.entries.find? (fun e => e.2.product == id)

def setEntry (s : State) (i : Nat) (e : SerialEntry) : State := setSerial s { s.serial with entries := tabPut s.serial.entries i e }
def eraseEntry (s : State) (i : Nat) : State := setSerial s { s.serial with entries := tabErase s.serial.entries i }

/-- Room of R213 for one more serial. -/
def ledgerRoom (s : State) : Bool :=
  decide (s.serial.entries.length + 8256 < ledgerFree s) && decide (uncovered s < 6144)

/-- The conditions of R201. -/
def mayAllocate (s : State) (a : Nat) : Bool :=
  alState s a == 1 && alNext s a != alReserve s a && !(tabGet [] s.serial.buffers a).isEmpty && ledgerRoom s
    && serialState s == 1 && !s.serial.stopped && !s.serial.halted && (alone s || pairRole s == 2)

/-- An entry becomes COMMITTED (R202). -/
def entryCommit (s : State) (i : Nat) (e : SerialEntry) (partner : Bool) : State :=
  setCause (setEntry s i { e with state := 2, viaPartner := partner, solo := pairRole s == 4 }) .serial 0

/-- The index after an allocation: LOW_WATER, EXHAUSTED, and the mark (R197, R206). -/
def afterAllocate (s : State) (a : Nat) : State :=
  let left := alCount s a - alNext s a
  let s1 := if left == rd s (0x4020 + 2 * a) 0x02 then setCause s .serial 2 else s
  raiseMark (allotmentSpent s1 a) a

/-- The entry of an index of slot `a`, with what its record and its text take from the grant (R203, R210). -/
def entryFor (s : State) (id a n v : Nat) : SerialEntry :=
  { product := id, slot := a, n := n, v := v, state := 1, grantId := al s a 0x03, stream := al s a 0x05, digits := al s a 0x0F, lead := rdBytes s (0x4021 + 2 * a) 0x0E }

/-- The value of an index leaves the slot's buffer (R200). -/
def valueTaken (s : State) (a : Nat) : State :=
  setSerial s { s.serial with buffers := tabSet [] s.serial.buffers a ((tabGet [] s.serial.buffers a).drop 1) }

/-- A failed allocation (R201). -/
def noSerial (s : State) (p : Product) : State :=
  setCause (bump (setProduct s { p with serialRef := 0xFFFFFFFE, forceReject := true }) 0x4000 0x05) .serial 1

/-- The allocation for a new record whose trigger names slot `a` (R201, R202, R245). -/
def serialAllocate (s : State) (id a : Nat) : State :=
  match findProduct s id with
  | none => s
  | some p =>
    if serialStandby s then s
    else if !mayAllocate s a then
      noSerial (if alState s a == 1 && !ledgerRoom s then setCause s .serial 6 else s) p
    else
      let n := alNext s a
      let v := (tabGet [] s.serial.buffers a).headD 0
      let i := freeEntry s
      let e := entryFor s id a n v
      let s1 := setEntry (setAl s a 0x08 (n + 1)) i e
      let s2 := valueTaken s1 a
      let s3 := setProduct s2 { p with serialRef := a * 2 ^ 16 + i }
      let pay := leBytes 1 a ++ List.replicate 3 0 ++ leBytes 4 id ++ leBytes 8 n ++ leBytes 8 v ++ leBytes 8 (al s a 0x03)
      let s4 :=
        if pairRole s == 2 then
          let (x, seq) := sendOrdered s3 0x10 pay
          setSerial x { x.serial with committing := x.serial.committing ++ [(seq, id)] }
        else
          let x := if pairRole s == 4 && decide (4 ≤ rd s 0x1302 0x02) && decide (rd s 0x1302 0x02 ≤ 7) then (sendOrdered s3 0x10 pay).1 else s3
          entryCommit x i e false
      afterAllocate s4 a

/-- Every ALLOCATED entry becomes COMMITTED when the pair agent enters SOLO (R202). -/
def commitAll (s : State) : State :=
  let s1 := s.serial.entries.foldl (fun x e => if e.2.state == 1 then setEntry x e.1 { e.2 with state := 2, solo := true } else x) s
  let waiting := s1.serial.reserving
  let s2 := setSerial s1 { s1.serial with committing := [], reserving := [] }
  waiting.foldl (fun x e => journalRequest x (fun w => { w with marks := w.marks ++ [(e.2.1, e.2.2)] })) s2

/-- The answer to a COMMIT or RESERVE of this engine (R202, R204). -/
def serialAnswered (s : State) (seq : Nat) (acked : Bool) : State :=
  match s.serial.committing.find? (fun e => e.1 == seq) with
  | some (_, id) =>
    let s1 := setSerial s { s.serial with committing := s.serial.committing.filter (fun e => e.1 != seq) }
    (match entryOf s1 id with
     | some (i, e) =>
       if e.state != 1 then s1
       else if acked then entryCommit s1 i e true
       else
         let s2 := bump (setEntry s1 i { e with state := 3 }) 0x4000 0x07
         (match findProduct s2 id with
          | some p => setProduct s2 { p with forceReject := true }
          | none => s2)
     | none => s1)
  | none =>
    match s.serial.reserving.find? (fun e => e.1 == seq) with
    | some (_, a, m) =>
      let s1 := setSerial s { s.serial with reserving := s.serial.reserving.filter (fun e => e.1 != seq) }
      if acked then journalRequest s1 (fun w => { w with marks := w.marks ++ [(a, m)] }) else s1
    | none => s

/-- The standby checks a COMMIT: the product lives and names the slot, and n is its next (R204). -/
def commitReceived (s : State) (b : List Byte) : State × Bool :=
  let a := leAt b 0 1
  let id := leAt b 4 4
  let n := leAt b 8 8
  match findProduct s id with
  | some p =>
    if rd s (0x3020 + p.trigger) 0x0D == a && n == alNext s a && decide (a ≤ 31) then
      let i := freeEntry s
      let s1 := valueTaken (setAl s a 0x08 (n + 1)) a
      let s2 := setEntry s1 i { entryFor s id a n (leAt b 16 8) with state := 2, viaPartner := true }
      let s3 := setProduct s2 { p with serialRef := a * 2 ^ 16 + i }
      (allotmentSpent s3 a, true)
    else (s, false)
  | none => (s, false)

/-- The standby journals a new reserve mark (R204, R215). -/
def reserveReceived (s : State) (b : List Byte) : State :=
  journalRequest s (fun w => { w with marks := w.marks ++ [(leAt b 0 1 % 32, leAt b 8 8)] })

/-- The standby journals the ledger state of a checkpoint (R215). -/
def checkpointStateReceived (s : State) (b : List Byte) : State :=
  let s1 := wr (wr (wr s 0x4009 0x05 (leAt b 8 8)) 0x4008 0x07 (leAt b 16 4)) 0x4008 0x05 (leAt b 0 8)
  let s2 := setSerial (wrBytes s1 0x4008 0x06 (bytesAt b 24 64)) { s1.serial with lastSeq := leAt b 0 8, lastHead := bytesAt b 24 64 }
  let s3 := (List.range 32).foldl (fun x a => if alState x a == 0 then x else setAl x a 0x0A (leAt b (88 + 8 * a) 8)) s2
  journalRequest s3 (fun w => w)

/-- The serial text of a committed entry (R198). -/
def serialText (e : SerialEntry) : List Byte := e.lead ++ decimal e.digits e.v

/-- Retire of an allotment (R197). -/
def allotmentRetire (s : State) (a : Nat) (agent : Bool) : State × Status :=
  if serialStandby s && !agent then (s, .role)
  else match alState s a with
    | 1 => (journalRequest (setAl (setAl s a 0x01 3) a 0x0D (alNext s a)) (fun w => w), .ok)
    | 2 => (journalRequest (setAl (setAl s a 0x01 3) a 0x0D (alCount s a)) (fun w => w), .ok)
    | _ => (s, .state)

/-! The fate of a product's serial (R211). -/

/-- The product counts as rejected (R211). -/
def productRejected (p : Product) : Bool := p.rejected || (p.forceReject && p.gate == 0xFF)

/-- The kind of the record at retire: a free one of 1 to 3 where a launched product is neither COMPLETE, INCOMPLETE nor rejected, of which R211 says nothing. -/
def ledgerKind (s : State) (p : Product) (e : SerialEntry) : State × Nat :=
  if e.state == 3 || !p.launched then (s, 3)
  else if productRejected p || p.printStatus == 4 then (s, 2)
  else if p.printStatus == 3 then (s, 1)
  else let (s1, k) := freeNat s 3; (s1, k + 1)

/-- The record of a product's serial appended and its entry freed; a standby frees the entry only (R211, R215). -/
def serialSettle (s : State) (p : Product) (kind cause : Nat) : State :=
  match entryOf s p.id with
  | some (i, e) =>
    let s1 := eraseEntry s i
    if serialStandby s then s1
    else
      let flags := p.enc + (if e.viaPartner then 4 else 0) + cause * 32
      ledgerAppend s1 { body := ledgerBody s1 e.grantId e.v p.id kind e.slot p.verdict p.grade p.pos flags e.stream, serial := some (e.slot, e.n) }
  | none => s

/-- At retire (R202, R211). -/
def serialRetire (s : State) (p : Product) : State :=
  match entryOf s p.id with
  | some (_, e) => let (s1, k) := ledgerKind s p e; serialSettle s1 p k 0
  | none => s

/-! Checkpoints (R214). -/

/-- The ledgered mark of a slot once every record up to `seq` is covered: the lowest index from the mark on without one. -/
def ledgeredUpTo (rec : List (Nat × Nat)) (seq : Nat) : Nat → Nat → Nat
  | 0, n => n
  | k + 1, n => if rec.any (fun r => r.1 == n && decide (r.2 ≤ seq)) then ledgeredUpTo rec seq k (n + 1) else n

/-- The ledgered marks that a checkpoint journals. -/
def ledgeredMarks (s : State) : List Nat :=
  (List.range 32).map (fun a => let r := tabGet [] s.serial.recorded a; ledgeredUpTo r (ledgerSeq s) r.length (al s a 0x0A))

/-- The first 0xC0 bytes of a checkpoint. -/
def checkpointBytes (s : State) (c : Checkpoint) : List Byte :=
  [0x47, 0x4C, 0x43, 0x50] ++ leBytes 2 1 ++ leBytes 2 (nodeId s) ++ leBytes 4 c.segment ++ leBytes 4 0 ++ leBytes 8 c.firstSeq ++ leBytes 8 c.lastSeq
    ++ leBytes 8 c.number ++ leBytes 8 c.ptp ++ List.replicate 16 0 ++ bytesAt c.head 0 64 ++ bytesAt c.prevHead 0 64

/-- A checkpoint is due: 4,096 uncovered records, 1 s with one at least, or one that recovery, takeover or shutdown asks for, once the records before it are written. -/
def checkpointDue (s : State) : Bool :=
  s.serial.checkpoint.isNone && !serialStandby s && domOn s 38
    && ((s.serial.wanted && s.serial.unwritten.isEmpty)
        || (serialState s == 1 && (decide (4096 ≤ uncovered s) || (decide (1 ≤ uncovered s) && decide (s.serial.lastCheckpointAt + psS ≤ s.now)))))

/-- A sign of a checkpoint has taken a free time of up to 2 ms, and SignTimeMax keeps the longest (R214, R425; DESIGN CHOICE, log 162). -/
def signTimed (s : State) : State :=
  let (s1, us) := freeNat s 2001
  if rd s1 0x4009 0x08 < us then wr s1 0x4009 0x08 us else s1

/-- A checkpoint starts; it ends what asked for one where every record before it is written. The security unit signs it, stopping a request that its engine runs, which begins anew afterwards (R426), and its journal write is asked for. -/
def checkpointStart (s : State) : Option State :=
  if !checkpointDue s then none
  else
    let all := s.serial.wanted && s.serial.unwritten.isEmpty
    let c : Checkpoint := { resumes := if all && decide (s.serial.resume < 3) then s.serial.resume else 0, closes := all && s.serial.shutdown == 1, firstSeq := s.serial.lastSeq + 1, lastSeq := ledgerSeq s, number := checkpointSeq s + 1, segment := rd s 0x4008 0x07, head := bytesAt (rdBytes s 0x4008 0x06) 0 64, prevHead := s.serial.lastHead, ptp := ptpTime s, ledgered := ledgeredMarks s }
    let (s1, rnd) := signRandom s
    let sig := bytesAt (Config.mldsaSign (tabGet ({} : KeySlot) s.keys 0).bytes (sha3_512 (checkpointBytes s c)) [] rnd) 0 4627
    let s2 := signTimed (setSerial s1 { s1.serial with checkpoint := some { c with signature := sig }, wanted := s.serial.wanted && !all, lastCheckpointAt := s.now })
    some (journalRequest (signAgain s2) (fun w => { w with checkpoint := true }))

def cpFree (s : State) : Nat := ringFree (rd s 0x4009 0x03) (rd s 0x4009 0x04) (rd s 0x4009 0x02) 4864

/-- A journalled checkpoint, hashed and signed, is written into its ring when it has room, and its state is sent to the partner. -/
def checkpointPublish (s : State) : Option State :=
  match s.serial.checkpoint with
  | some c =>
    let g := unitGate s 9 (rd s 0x4009 0x01 + rd s 0x4009 0x04) 4864
    if !c.journalled || cpFree s == 0 || !hashFree s s.serial.lastCheckpointAt then none
    else if g != .clear then turned s 9 g
    else if !regionOn s 9 (rd s 0x4009 0x01) (rd s 0x4009 0x02) then none
    else
      let e := rd s 0x4009 0x04
      let s1 := memWrite (unitUse s 2 9 (rd s 0x4009 0x01 + e) 4864) (physAddr s 9 (rd s 0x4009 0x01) + e) (checkpointBytes s c ++ c.signature ++ List.replicate 45 0)
      let s2 := setSerial (wr s1 0x4009 0x04 ((e + 4864) % rd s 0x4009 0x02)) { s1.serial with checkpoint := none }
      let s3 := setCause s2 .serial 5
      some (if pairRole s3 == 2 then
        (sendOrdered s3 0x14 (leBytes 8 c.lastSeq ++ leBytes 8 c.number ++ leBytes 4 c.segment ++ leBytes 4 0 ++ bytesAt c.head 0 64
          ++ (List.range 32).flatMap (fun a => leBytes 8 (c.ledgered.getD a 0)))).1
       else s3)
  | none => none

/-- A base or size of the ledger ring (0x4008) or the checkpoint ring (0x4009) is written while every allotment is EMPTY; the ring is then empty (R213). -/
def ringSet (s : State) (idx sub v : Nat) : State := wr (wr (wr s idx sub v) idx 0x03 0) idx 0x04 0

/-! Recovery, shutdown and takeover (R207, R208, R216). -/

/-- The newest valid bank: its number and image. -/
def newestBank (s : State) : Option (Nat × JournalImage) :=
  match s.serial.bankA, s.serial.bankB with
  | .image a, .image b => if decide (0 ≤ signedOf 32 (a.seq + 2 ^ 32 - b.seq)) then some (0, a) else some (1, b)
  | .image a, _ => some (0, a)
  | _, .image b => some (1, b)
  | _, _ => none

/-- The state that a bank holds, loaded. -/
def bankLoad (s : State) (bank : Nat) (i : JournalImage) : State :=
  let s1 := wr (wr (wr (wr (wr (wr s 0x4000 0x08 i.seq) 0x4000 0x09 bank) 0x4000 0x02 i.floor) 0x4008 0x05 i.lastSeq) 0x4009 0x05 i.checkpointSeq) 0x4008 0x07 i.segment
  let s2 := setSerial (wrBytes s1 0x4008 0x06 (bytesAt i.head 0 64)) { s1.serial with grants := i.grants, lastBank := some bank, lastSeq := i.lastSeq, lastHead := bytesAt i.head 0 64 }
  let s3 := (List.range 32).foldl (fun x a =>
    let j := tabGet {} i.slots a
    let g := tabGet [] i.grants a
    let y := [(0x01, j.state), (0x02, leAt g 7 1), (0x03, j.grantId), (0x04, leAt g 0x10 2), (0x05, leAt g 0x12 2), (0x06, leAt g 0x18 8),
      (0x07, leAt g 0x20 8), (0x08, j.reserve), (0x09, j.reserve), (0x0A, j.ledgered), (0x0B, j.printed), (0x0C, j.voided),
      (0x0D, j.returnedFrom), (0x0F, leAt g 0x14 1)].foldl (fun x (e : Nat × Nat) => setAl x a e.1 e.2) x
    if j.state == 0 then x else wrBytes y (0x4021 + 2 * a) 0x0E (bytesAt g 0x30 (leAt g 0x17 1))) s2
  if allotmentsEmpty s3 then s3 else setHolder (setHolder s3 0x72 0x0700) 0x73 0x0700

/-- The indices from `n` on, `k` of them, voided. -/
def voidRange (s : State) (slot cause : Nat) (skip : Nat → Bool) : Nat → Nat → State
  | 0, _ => s
  | k + 1, n => voidRange (if skip n then s else voidUnknown s slot n cause) slot cause skip k (n + 1)

/-- Recovery, once the pair role is settled (R207, R230). -/
def serialRecover (s : State) : Option State :=
  if serialState s != 0 || pairRole s == 1 || s.serial.resume == 1 || !domOn s 41 then none
  else match newestBank s with
    | none =>
      if s.serial.bankA == .erased && s.serial.bankB == .erased then
        let s1 := setSerial (wr s 0x4000 0x01 1) { s.serial with lastHead := zeroHead }
        some (if serialStandby s then s1 else segmentStart s1 1 0 zeroHead)
      else some (wr s 0x4000 0x01 2)
    | some (bank, i) =>
      let s1 := bankLoad s bank i
      if serialStandby s then some (wr s1 0x4000 0x01 1)
      else if !i.clean then
        let s2 := segmentStart s1 2 i.lastSeq (bytesAt i.head 0 64)
        let s3 := (List.range 32).foldl (fun x a =>
          if alState x a == 0 then x
          else
            let lo := al x a 0x0A
            let hi := alReserve x a
            allotmentSpent (setAl (setAl (voidRange x a 2 (fun _ => false) (hi - lo) lo) a 0x08 hi) a 0x0A hi) a) s2
        some (setSerial s3 { s3.serial with wanted := true, resume := 1 })
      else some (raiseMarks (journalRequest ((List.range 32).foldl allotmentSpent (wr s1 0x4000 0x01 1)) (fun w => w)))

/-- The serial unit holds no state that a shutdown could record: the journal is lost, or not read yet (R207). -/
def serialBlank (s : State) : Bool := serialState s == 2 || (serialState s == 0 && s.serial.resume != 1)

/-- An orderly shutdown of SYS begins (R208). A unit that has not read its journal, or has lost it, leaves the banks as they are: DESIGN CHOICE, log 161. -/
def serialShutdown (s : State) : State :=
  if s.serial.shutdown != 0 then s
  else if serialBlank s then setSerial s { s.serial with halted := true, shutdown := 3 }
  else
    let s1 := setSerial s { s.serial with halted := true }
    let s2 := s1.print.products.foldl (fun x p =>
      match entryOf x p.id with
      | some (_, e) =>
        if e.state == 1 then serialSettle x p 3 0
        else if !p.decided && p.gate != 0xFF then serialSettle x p 4 4
        else let (y, k) := ledgerKind x p e; serialSettle y p k 0
      | none => x) s1
    let s3 := (List.range 32).foldl (fun x a => if alState x a == 0 then x else setAl x a 0x09 (alNext x a)) s2
    let s4 := setSerial s3 { s3.serial with reserving := [], wanted := !serialStandby s3, shutdown := if serialStandby s3 then 2 else 1 }
    if serialStandby s4 then journalRequest s4 (fun w => w) else s4

/-- The shutdown of the serial unit is complete. -/
def serialDown (s : State) : Bool := s.serial.shutdown == 3

/-- Takeover: a new segment linked to the partner's last checkpoint, and the voids of what has no live product (R216). -/
def serialTakeover (s : State) : State :=
  let s1 := segmentStart s 3 s.serial.lastSeq s.serial.lastHead
  let s2 := (List.range 32).foldl (fun x a =>
    if alState x a == 0 then x
    else
      let lo := al x a 0x0A
      voidRange x a 3 (fun n => x.serial.entries.any (fun e => e.2.slot == a && e.2.n == n)) (alNext x a - lo) lo) s1
  let s3 := s2.print.products.foldl (fun x p =>
    if rd x (0x3020 + p.trigger) 0x0D != 0xFF && p.serialRef == 0xFFFFFFFF then setProduct x { p with serialRef := 0xFFFFFFFE, forceReject := true } else x) s2
  setSerial s3 { s3.serial with wanted := true, resume := 2, halted := true }

/-- A write to CapoHold: a request, which applies at the next boundary (R84). -/
def capoHoldWrite (s : State) (v : Nat) : State × Status :=
  let s1 := wr s 0x2601 0x01 v
  (if v == 1 && rd s 0x2601 0x02 == 0 then wr s1 0x2601 0x02 1 else s1, .ok)

/-- ResyncState (R243). -/
def resyncState (s : State) : Nat := rd s 0x1302 0x02
def setResync (s : State) (v : Nat) : State := wr s 0x1302 0x02 v

/-- The source's side of a resync that has failed, or whose source leaves SOLO: the capo is released, ResyncState is FAILED (R243, R244; notes/assumptions/143.md). -/
def sourceFail (s : State) : State :=
  if pairRole s == 4 && decide (1 ≤ resyncState s) && decide (resyncState s ≤ 7) then
    setResync (if resyncState s == 4 then (capoHoldWrite s 0).1 else s) 9
  else s

/-- The engine stands down (R220). -/
def standDown (s : State) : State :=
  let s0 := sourceFail s
  let s1 := setRole { s0 with pair := { s0.pair with expired := true }, faultL := true } 7
  setSerial s1 { s1.serial with halted := true }

end Sys2Proof.Machine
end

