-- ==== Sys2Proof/Machine/Bars.lean ====
section
/-! DEFINITION. Positions, product marks, windows, fire formatters, the nozzle map, the head link and the lifecycle of a bar.
Spec: 05_print_path.md R120, R131, R135 to R163; 08_pair_operation.md R236, R240. -/

set_option Elab.async false

namespace Sys2Proof.Machine

/-! Positions and lines. -/

/-- The signed distance from position `y` to position `x` (R120). -/
def posDiff (x y : Nat) : Int := signedOf 48 (x + 2 ^ 48 - y % 2 ^ 48)
/-- Position `x` has reached position `y` (R120). -/
def reached (x y : Nat) : Bool := decide (0 ≤ posDiff x y)

def encoderOf (s : State) (e : Nat) : Encoder := tabGet {} s.print.encoders e
def setEncoder (s : State) (e : Nat) (x : Encoder) : State := { s with print := { s.print with encoders := tabSet {} s.print.encoders e x } }
def encPos (s : State) (e : Nat) : Nat := rd s (0x3000 + e) 0x06
/-- The position that the line generators, gates and retirements see: a count shows there one ACLK after the counter has it (R20, R165). -/
def encSeen (s : State) (e : Nat) : Nat := if (encoderOf s e).countAt == aclk s + 1 then (encoderOf s e).before else encPos s e
/-- The position that they saw in the ACLK before this one. -/
def encSeenLast (s : State) (e : Nat) : Nat :=
  let x := encoderOf s e
  if aclk s ≤ x.countAt then (if aclk s ≤ x.countAt' then x.before' else x.before) else encPos s e
def encHigh (s : State) (e : Nat) : Nat := rd s (0x3000 + e) 0x08
/-- 0 OFF, 1 STARTING, 2 ON, 3 STOPPING. -/
def encState (s : State) (e : Nat) : Nat := rd s (0x3000 + e) 0x0C
def genEnabled (s : State) (g : Nat) : Bool := rd s (0x3010 + g) 0x01 == 1
def genEncoder (s : State) (g : Nat) : Nat := rd s (0x3010 + g) 0x02
def genOrigin (s : State) (g : Nat) : Nat := rd s (0x3010 + g) 0x03
def genPitch (s : State) (g : Nat) : Nat := rd s (0x3010 + g) 0x04
/-- The line last strobed (R126). -/
def genLine (s : State) (g : Nat) : Nat := rd s (0x3010 + g) 0x05
def genNext (s : State) (g : Nat) : Int := tabGet 0 s.print.nextLine g
def setGenNext (s : State) (g : Nat) (k : Int) : State := { s with print := { s.print with nextLine := tabSet 0 s.print.nextLine g k } }

/-- The smallest k with B_k at or above a position (R126, R130). -/
def lineAtOrAbove (s : State) (g x : Nat) : Int := -((-(posDiff x (genOrigin s g) * 4294967296)) / (genPitch s g : Int))
/-- The smallest k with B_k above a position (R128). -/
def lineAbove (s : State) (g x : Nat) : Int := (posDiff x (genOrigin s g) * 4294967296) / (genPitch s g : Int) + 1
/-- The count on which line k strobes: B_k rounded up (R127). -/
def boundary (s : State) (g : Nat) (k : Int) : Nat :=
  wrapInt 48 ((genOrigin s g : Int) + -((-(k * (genPitch s g : Int))) / 4294967296))

/-! Marks on products (R131, R136, R147). -/

/-- A bar set in bars_incomplete; PENDING and PRINTING become INCOMPLETE. -/
def markIncomplete (s : State) (id b : Nat) : State :=
  match findProduct s id with
  | some p => setProduct s { p with incomplete := setBit p.incomplete b true, printStatus := if p.printStatus == 1 || p.printStatus == 2 then 4 else p.printStatus }
  | none => s

/-- A line of one of its windows launched: PENDING becomes PRINTING. -/
def markLaunched (s : State) (id : Nat) : State :=
  match findProduct s id with
  | some p => setProduct s { p with launched := true, printStatus := if p.printStatus == 1 then 2 else p.printStatus }
  | none => s

/-- A window of the product done: the bar set in bars_done unless it is incomplete there, and COMPLETE once all are done. -/
def markDone (s : State) (id b : Nat) : State :=
  match findProduct s id with
  | some p =>
    if bitOf p.incomplete b then count64 s (0x3107 + 8 * b) 0x04 1
    else
      let d := setBit p.done b true
      count64 (setProduct s { p with done := d, printStatus := if p.printStatus == 2 && d == p.due then 3 else p.printStatus }) (0x3107 + 8 * b) 0x03 1
  | none => s

/-! Bars. -/

def barOf (s : State) (b : Nat) : Bar := tabGet {} s.print.bars b
def setBar (s : State) (b : Nat) (x : Bar) : State := { s with print := { s.print with bars := tabSet {} s.print.bars b x } }
/-- Index B + k of bar b. -/
def bx (b k : Nat) : Nat := 0x3100 + 8 * b + k
/-- 0 OFF, 1 STARTING, 2 ON, 3 STOPPING. -/
def barState (s : State) (b : Nat) : Nat := rd s (bx b 0) 0x04
def barGen (s : State) (b : Nat) : Nat := rd s (bx b 0) 0x02
def nozzles (s : State) (b : Nat) : Nat := rd s (bx b 0) 0x03
/-- The largest stagger of the rows in use (R135). -/
def maxStagger (s : State) (b : Nat) : Nat := (List.range (rd s (bx b 1) 0x03)).foldl (fun m r => max m (rd s (bx b 1) (4 + r))) 0
/-- Lines of a window (R135). -/
def windowLen (s : State) (b : Nat) : Nat := rd s (bx b 1) 0x02 + maxStagger s b

/-- The registered windows of a bar, with their products, oldest record first. -/
def barWindows (s : State) (b : Nat) : List (Nat × Window) :=
  s.print.products.flatMap (fun p => (p.windows.filter (fun w => w.bar == b && !w.finished)).map (fun w => (p.id, w)))

/-- The window of a bar that starts first (R135). -/
def firstWindow (s : State) (b : Nat) : Option Window :=
  (barWindows s b).foldl (fun m e => match m with | some w => if decide (lineDiff e.2.start w.start < 0) then some e.2 else m | none => some e.2) none

/-- A window contains a line (R136). -/
def windowHas (w : Window) (line : Nat) : Bool := let d := lineDiff line w.start; decide (0 ≤ d) && decide (d < (w.len : Int))

/-- The windows of a new record registered (R135). -/
def registerWindows (s : State) (id due line : Nat) : State :=
  (List.range 24).foldl (fun x b =>
    if !bitOf due b then x
    else
      let st := (line + rd x (bx b 1) 0x01) % 2 ^ 32
      if barState x b != 2 || decide (lineDiff st (genLine x (barGen x b)) ≤ 0) then
        count64 (setCause (bump (markIncomplete x id b) (bx b 3) 0x04) (.bar b) 2) (bx b 7) 0x04 1
      else match findProduct x id with
        | some p => setProduct x { p with windows := p.windows ++ [{ bar := b, start := st, len := windowLen x b }] }
        | none => x) s

/-- Windows of a bar finished: the record keeps them for its digest. -/
def finishWindows (s : State) (b : Nat) (l : List Nat) : State :=
  { s with print := { s.print with products := s.print.products.map (fun p =>
      if l.contains p.id then { p with windows := p.windows.map (fun w => if w.bar == b then { w with finished := true } else w) } else p) } }

/-- A line packet kept for the RENDER digest of every product whose window of the bar holds the line (R237). -/
def keepPacket (s : State) (b line : Nat) (buf : List Byte) : State :=
  { s with print := { s.print with products := s.print.products.map (fun p =>
      match p.windows.find? (fun w => w.bar == b && windowHas w line) with
      | some w => { p with packets := tabPut p.packets (b * 2 ^ 32 + (lineDiff line w.start).toNat) buf }
      | none => p) } }

/-! The fire formatter (R145 to R149). -/

/-- The queue that feeds a bar (R91). -/
def barQueue (s : State) (b : Nat) : Option Nat := (indicesWhere 64 (fun q => qState s q == 2 && qFarEnd s q == 5 && qFarUnit s q == b)).head?

/-- The skip debt shown. -/
def setOwed (s : State) (b : Nat) (l : List Nat) : State := wr (setBar s b { barOf s b with owed := l }) (bx b 2) 0x04 l.length

/-- A word of the queue taken into the hold buffer (R146). DESIGN CHOICE (unsafe), log entry 131: words are read only while the bar is ON, not in STARTING. -/
def formatterWord (s : State) (b : Nat) : Option State :=
  let x := barOf s b
  match barQueue s b with
  | none => none
  | some q =>
    match qHead s q with
    | none => none
    | some w =>
      if barState s b != 2 || x.hold == 2 then none
      else
        let buf := x.buf ++ leBytes w.valid w.data
        let s1 := qTake s q
        some (
          if !w.last then setBar s1 b { x with hold := 1, buf := buf }
          else match x.owed with
            | line :: r => setOwed (setBar (keepPacket s1 b line buf) b { x with hold := 0, buf := [] }) b r
            | [] =>
              if buf.length == nozzles s b / 4 then setBar s1 b { x with hold := 2, buf := buf }
              else setCause (bump (setBar s1 b { x with hold := 0, buf := [] }) (bx b 3) 0x02) (.bar b) 1)

/-- Entry to STOPPING: the windows dropped, their products incomplete there (R151). -/
def barStop (s : State) (b : Nat) : State :=
  let ws := barWindows s b
  let s1 := ws.foldl (fun x e => count64 (markIncomplete x e.1 b) (bx b 7) 0x04 1) s
  let s2 := { s1 with print := { s1.print with products := s1.print.products.map (fun p =>
    { p with windows := p.windows.filter (fun w => w.bar != b || w.finished) }) } }
  enter (setBar s2 b { barOf s2 b with stopLatched := false }) (bx b 0) 0x04 3

/-- A write of 0 to Enable (R151). -/
def barDisable (s : State) (b : Nat) : State × Status :=
  let s1 := wr s (bx b 0) 0x01 0
  match barState s b with
  | 1 => (setBar s1 b { barOf s1 b with stopLatched := true }, .ok)
  | 2 => (barStop s1 b, .ok)
  | 3 => (wr s1 (bx b 0) 0x05 0, .ok)
  | _ => (s1, .ok)

/-- Lines strobed within the last 41 µs, for R240. -/
def keepRecent (now line : Nat) (l : List (Nat × Nat)) : List (Nat × Nat) := l.filter (fun e => decide (now ≤ e.1 + 41 * psUs)) ++ [(now, line)]

/-- A strobe on an ON bar, at the end of its ACLK n + 3: an active line whose words have come by then is launched, another is underrun, and an inactive line sends nothing (R21, R136, R146, R147). The header is built in the ACLK that begins, n + 4, with the Owner of that time, and the frame enters at n + 6 (R20, R149). A joiner's underruns leave its records alone (R246). -/
def barStrobe (s : State) (b line : Nat) : State :=
  let s0 := wr (setBar s b { barOf s b with recent := keepRecent (s.now - 1000) line (barOf s b).recent }) (bx b 2) 0x01 line
  if barState s0 b != 2 then s0
  else
    let hits := (barWindows s0 b).filter (fun e => windowHas e.2 line)
    if hits.isEmpty then s0
    else
      let ids := hits.map (·.1)
      let fin := (hits.filter (fun e => lineDiff line e.2.start == (e.2.len : Int) - 1)).map (·.1)
      let x := barOf s0 b
      let blank := x.hold != 2
      let l : Launch := { line := line, payload := if blank then List.replicate (nozzles s0 b / 4) 0 else x.buf, blank := blank,
                          enterAt := s0.now + 2000, owner := rd s0 (bx b 0) 0x07, products := ids, last := fin }
      let s1 := setBar s0 b { x with launches := x.launches ++ [l] }
      if !blank then
        let s2 := keepPacket (setBar s1 b { barOf s1 b with hold := 0, buf := [] }) b line x.buf
        finishWindows s2 b fin
      else
        let s2 := setCause (bump s1 (bx b 3) 0x01) (.bar b) 0
        let s3 := finishWindows (if pairRole s0 == 6 then s2 else ids.foldl (fun y i => markIncomplete y i b) s2) b fin
        let s4 := setBar s3 b { barOf s3 b with clean := 0 }
        if decide (65535 ≤ x.owed.length) then (barDisable (setCause s4 (.bar b) 12) b).1
        else setOwed s4 b (x.owed ++ [line])

/-- Lines passed over without a strobe: each is counted, and the products of windows that hold one are incomplete there (R123, R125). DESIGN CHOICE (unsafe), log entry 132: a window whose last line is passed over stays in the bar's list until its record retires (R136 speaks of a last line strobed). -/
def skipLines (s : State) (g : Nat) (k : Int) : State :=
  let n := k - genNext s g
  if decide (n ≤ 0) then setGenNext s g k
  else
    let first := wrapInt 32 (genNext s g)
    let s1 := wr s (0x3010 + g) 0x07 (satAdd 0xFFFF (rd s (0x3010 + g) 0x07) n.toNat)
    let s2 := (indicesWhere 24 (fun b => barGen s b == g)).foldl (fun x b =>
      ((barWindows x b).filter (fun e => let d := lineDiff e.2.start first; decide (d < n) && decide (0 < d + (e.2.len : Int)))).foldl
        (fun y e => markIncomplete y e.1 b) x) s1
    setGenNext s2 g k

/-- The header of a fire frame (R152). -/
def fireHeader (b line owner count : Nat) (blank : Bool) : Nat :=
  line * 2 ^ 32 + boolNat blank * 2 ^ 24 + count * 2 ^ 10 + b * 2 ^ 5 + owner * 2 ^ 4 + 1

/-- The fire frame whose time has come enters the transmitter; with the lane out of its data state the line is lost (R148, R149). -/
def fireLaunch (s : State) (b : Nat) : Option State :=
  let x := barOf s b
  match x.launches with
  | l :: r =>
    if decide (s.now < l.enterAt) then none
    else
      let s1 := setBar s b { x with launches := r }
      let s2 :=
        if laneInData s b then
          let y := laneFire s1 b l.enterAt (fireHeader b l.line l.owner (4 * l.payload.length) l.blank) l.payload
          let y1 := count64 y (bx b 7) 0x01 1
          let y2 := if l.blank then count64 y1 (bx b 7) 0x02 1 else setBar y1 b { barOf y1 b with clean := (barOf y1 b).clean + 1 }
          l.products.foldl markLaunched y2
        else
          let y := setCause (bump s1 (bx b 3) 0x03) (.bar b) 3
          if pairRole s == 6 then y else l.products.foldl (fun y i => markIncomplete y i b) y
      some (l.last.foldl (fun y i => renderDigest (markDone y i b) i false) s2)
  | [] => none

/-! The nozzle map (R140 to R144, R236). -/

/-- The word address of entry `k` of a copy. -/
def mapAddr (s : State) (b copy k : Nat) : Nat := fieldMemAddr (rd s (bx b 4) 0x01) (rd s (bx b 4) 0x02 + copy * nozzles s b + k)
/-- Entry `k` of a copy; one of whose bytes nothing has been written holds the reset values, gain 0x400 and 0 elsewhere (R140; log 133). -/
def mapEntry (s : State) (b copy k : Nat) : Nat :=
  let a := mapAddr s b copy k
  if (List.range 4).all (fun i => (tabFind s.mem (a + i)).isNone) then 0x400 else memNat s a 4
def activeCopy (s : State) (b : Nat) : Nat := rd s (bx b 4) 0x03

/-! What a print tuning applies to a line: no command computes these, a tuning's cells do. -/

/-- The density part of a map entry on an ink value, with the curve that the entry names (R141). -/
def density (entry : Nat) (curve : Nat → Int) (v : Nat) : Int :=
  let u := min 4095 (roundShr (v * bitsOf entry 0 12 : Nat) 10).toNat
  let e := fun k => curve (min 255 k)
  e (u / 16) + roundShr ((e (u / 16 + 1) - e (u / 16)) * (u % 16 : Nat)) 4

/-- The compensation part of a map on a line's screened codes (R142). -/
def compensate (line : Nat) (entry : Nat → Nat) (c : List Nat) : List Nat :=
  let n := c.length
  let state := fun k => bitsOf (entry k) 30 2
  let usable := fun k => decide (k < n) && decide (state k < 2)
  let code := fun k => c.getD k 0
  (List.range n).foldl (fun out k =>
    if state k != 2 || code k == 0 then out
    else
      let before := if k == 0 then n else k - 1
      let a := if line % 2 == 1 then k + 1 else before
      let b := if line % 2 == 1 then before else k + 1
      let t := if usable a && decide (code a < 3) then some a
        else if usable b && decide (code b < 3) then some b
        else if usable a then some a else none
      match t with
      | some t => out.set t (min 3 (out.getD t 0 + code k))
      | none => out) ((List.range n).map (fun k => if usable k then code k else 0))

/-- An entry's value under a change; a head report of GOOD changes only an entry of origin 1, and a failure found by verification leaves FAILED and MASKED alone (R143, R192). -/
def changeEntry (c : MapChange) (old : Nat) : Nat :=
  let rest := old % 2 ^ 28
  match c with
  | .entry _ v => v
  | .report _ st => if st == 0 && bitsOf old 28 2 != 1 then old else st * 2 ^ 30 + 2 ^ 28 + rest
  | .failed _ => if 2 ≤ bitsOf old 30 2 then old else 2 * 2 ^ 30 + 2 * 2 ^ 28 + rest

def changeNozzle : MapChange → Nat
  | .entry n _ => n
  | .report n _ => n
  | .failed n => n

/-- The entries of the active copy that a set of changes alters, with their new values. -/
def mapDelta (s : State) (b : Nat) (cs : List MapChange) : List (Nat × Nat) :=
  let t : Tab Nat := cs.foldl (fun t c =>
    let k := changeNozzle c
    if k < nozzles s b then tabPut t k (changeEntry c ((tabFind t k).getD (mapEntry s b (activeCopy s b) k))) else t) []
  t.filter (fun e => e.2 != mapEntry s b (activeCopy s b) e.1)

/-- The active copy with the changed entries written into the inactive copy, and the switch set (steps 1 and 2 of R143). -/
def mapWrite (s : State) (b switchLine : Nat) (d : List (Nat × Nat)) : State :=
  let cur := activeCopy s b
  let s1 := if domOn s (rd s (bx b 4) 0x01) then
    (List.range (nozzles s b)).foldl (fun x k =>
      memWrite x (mapAddr x b (1 - cur) k) (leBytes 4 ((tabFind d k).getD (mapEntry x b cur k)))) s
    else s
  wr (wr s1 (bx b 4) 0x04 switchLine) (bx b 4) 0x05 1

/-- MAP_SWITCH frames of a change, 1,023 entries in each (R236). -/
def mapFrames (b line : Nat) : Nat → List (Nat × Nat) → State → State
  | 0, _, s => s
  | n + 1, d, s =>
    let part := d.take 1023
    let rest := d.drop 1023
    let b4 := leBytes 1 b ++ leBytes 1 (boolNat rest.isEmpty) ++ leBytes 2 part.length ++ leBytes 4 line
      ++ part.flatMap (fun e => leBytes 4 e.1 ++ leBytes 4 e.2)
    let s1 := (sendOrdered s 0x13 b4).1
    if rest.isEmpty then s1 else mapFrames b line n rest s1

/-- The changes that wait are applied while no switch is pending; the primary of a pair sends them first (R143, R144, R236). DESIGN CHOICE (unsafe), log entry 134: a change that alters no entry (an edit to the same value, a GOOD report on an entry of another origin) starts no switch cycle, on a primary either, whose MAP_SWITCH frames carry at least one entry. -/
def mapApply (s : State) (b : Nat) : State :=
  let x := barOf s b
  if rd s (bx b 4) 0x05 == 1 || x.changes.isEmpty then s
  else
    let d := mapDelta s b x.changes
    let line := (genLine s (barGen s b) + rd s (bx b 4) 0x06) % 2 ^ 32
    let s1 := setBar s b { x with changes := [] }
    if d.isEmpty then s1
    else mapWrite (if pairRole s == 2 then mapFrames b line 16 d s1 else s1) b line d

/-- Changes taken by the map manager; in a pair only the primary decides them (R143, R144). -/
def mapChange (s : State) (b : Nat) (cs : List MapChange) : State :=
  if cs.isEmpty || !(alone s || pairRole s == 2) then s
  else mapApply (setBar s b { barOf s b with changes := (barOf s b).changes ++ cs }) b

/-- At or after the strobe of SwitchLine the copies change, and changes that waited begin the next cycle (step 4 of R143). A SwitchLine that is never strobed counts from LineNumber at or past it: DESIGN CHOICE, log 155. -/
def mapSwitch (s : State) (b : Nat) : Option State :=
  if rd s (bx b 4) 0x05 == 1 && decide (0 ≤ lineDiff (genLine s (barGen s b)) (rd s (bx b 4) 0x04)) then
    let s1 := setCause (wr (wr s (bx b 4) 0x03 (1 - activeCopy s b)) (bx b 4) 0x05 0) (.bar b) 11
    some (mapApply s1 b)
  else none

/-- An entry whose reserved bits are 0 and whose origin is not the reserved one (R140). -/
def mapEntryOk (v : Nat) : Bool := bitsOf v 20 8 == 0 && bitsOf v 12 4 == 0 && bitsOf v 28 2 != 3

/-- A write to MapEdit (R143). -/
def mapEdit (s : State) (b v : Nat) : State × Status :=
  let k := bitsOf v 0 14
  let e := v / 2 ^ 32
  if bitsOf v 14 18 != 0 || !mapEntryOk e || decide (nozzles s b ≤ k) then (s, .range)
  else (mapChange s b [.entry k e], .ok)

/-- A write to MapImage (R143). -/
def mapImage (s : State) (b : Nat) (l : List Byte) : State × Status :=
  let es := (List.range (nozzles s b)).map (fun k => leAt l (4 * k) 4)
  if l.length != 4 * nozzles s b || !es.all mapEntryOk then (s, .range)
  else (mapChange s b ((List.range (nozzles s b)).map (fun k => .entry k (leAt l (4 * k) 4))), .ok)

/-- MapBase lies so that both copies fit (R140). -/
def mapBaseOk (base n : Nat) : Bool := decide (base + 2 * n ≤ 65536)

/-! Management and the back channel (R154 to R158). -/

/-- A write to MgmtRequest (R155), with an op and a table that R154 lists (R6), for the unit whose management objects lie at `idx` from sub-index `sub` on, whose lane is `n` and whose header bits are `hdr`. -/
def mgmtSend (s : State) (idx sub n hdr seq : Nat) (payload : List Byte) : State × Status :=
  if payload.length < 8 || decide (256 < payload.length) || leAt payload 0 1 == 0 || decide (4 < leAt payload 0 1) || decide (15 < leAt payload 1 1) then (s, .range)
  else if rd s idx (sub + 2) == 1 then (s, .state)
  else (enter (laneManage s n (seq * 2 ^ 32 + hdr + 2) payload) idx (sub + 2) 1, .ok)

/-- A bar's management request; the first has sequence number 1: DESIGN CHOICE, log 156. -/
def barMgmt (s : State) (b : Nat) (payload : List Byte) : State × Status :=
  let seq := ((barOf s b).mgmtSeq + 1) % 2 ^ 32
  let r := mgmtSend s (bx b 5) 0x01 b (payload.length * 2 ^ 10 + b * 2 ^ 5 + rd s (bx b 0) 0x07 * 2 ^ 4) seq payload
  if r.2 == .ok then (setBar r.1 b { barOf r.1 b with mgmtSeq := seq }, .ok) else r

/-- A MGMT_REPLY: with the pending sequence it ends the request; any other is not stored: DESIGN CHOICE, log 157. -/
def mgmtReplied (s : State) (idx sub seq : Nat) (hdr : Nat) (payload : List Byte) : State × Bool :=
  if rd s idx (sub + 2) == 1 && bitsOf hdr 32 32 == seq then (wrBytes (wr s idx (sub + 2) 2) idx (sub + 1) payload, true) else (s, false)

/-- MgmtTimeout ms have passed without the reply. -/
def mgmtExpire (s : State) (idx sub : Nat) : Option State :=
  if rd s idx (sub + 2) == 1 && elapsed s idx (sub + 2) (rd s idx (sub + 3) * psMs) then some (wr s idx (sub + 2) 3) else none

/-- A discarded back-channel frame (R157). -/
def headDiscard (s : State) (b : Nat) : State := setCause (bump s (bx b 3) 0x05) (.bar b) 10

/-- A HEAD_STATUS that passes its checks (R156 to R158). -/
def headStatusApply (s : State) (b hdr : Nat) (p : List Byte) : State :=
  let s1 := (List.range 4).foldl (fun x z => wr x (bx b 6) (z + 1) (leAt p (2 * z) 2)) s
  let flags := leAt p 12 4 % 16
  let s2 := wr (wr (wr (wr s1 (bx b 6) 0x05 (leAt p 8 2)) (bx b 6) 0x06 flags) (bx b 6) 0x07 (bitsOf hdr 4 1)) (bx b 6) 0x08 (leAt p 16 4)
  let x := barOf s2 b
  let s3 := setCause (setBar s2 b { x with statusAt := some s.now, silentFrom := if barState s b == 2 then s.now else x.silentFrom }) (.bar b) 5
  let s4 := if bitOf flags 0 then setCause (bump s3 (bx b 3) 0x07) (.bar b) 9 else s3
  if bitOf flags 0 && pairRole s4 == 4 && !linkUp s4 && decide (rd s4 0x1301 0x03 < nodeId s4) && rd s4 0x1301 0x02 != 0xFF then
    standDown s4
  else s4

/-- A NOZZLE_REPORT that passes its checks goes to the map manager; an entry with state 3 or a nozzle that the bar has not is dropped alone: DESIGN CHOICE, log 158. -/
def nozzleReportApply (s : State) (b : Nat) (p : List Byte) : State :=
  let cs := (List.range (leAt p 0 2)).map (fun i => let e := leAt p (4 + 4 * i) 4; MapChange.report (bitsOf e 0 14) (bitsOf e 14 2))
  setCause (mapChange s b (cs.filter (fun c => match c with | .report n st => decide (n < nozzles s b) && st != 3 | _ => true))) (.bar b) 6

/-- A frame received on HLb (R157). -/
def headFrame (s : State) (b hdr : Nat) (p : List Byte) (crcOk : Bool) : State :=
  let (s1, ok) := laneDelivers s b
  if !ok then s1
  else
    let ty := bitsOf hdr 0 4
    if !crcOk || bitsOf hdr 5 5 != b || bitsOf hdr 10 14 != p.length then headDiscard s1 b
    else if ty == 9 then if p.length == 32 then headStatusApply s1 b hdr p else headDiscard s1 b
    else if ty == 10 then
      if decide (leAt p 0 2 ≤ 512) && p.length == 4 + 4 * leAt p 0 2 then nozzleReportApply s1 b p else headDiscard s1 b
    else if ty == 8 then
      let (s2, done) := mgmtReplied s1 (bx b 5) 0x01 (barOf s1 b).mgmtSeq hdr p
      if done then setCause s2 (.bar b) 7 else s2
    else headDiscard s1 b

/-- 5 ms without a valid HEAD_STATUS while ON, and every further 5 ms (R158). -/
def headSilence (s : State) (b : Nat) : Option State :=
  let x := barOf s b
  if barState s b == 2 && decide (x.silentFrom + 5 * psMs ≤ s.now) then
    some (setCause (bump (setBar s b { x with silentFrom := x.silentFrom + 5 * psMs }) (bx b 3) 0x06) (.bar b) 8)
  else none

/-! The lifecycle of a bar (R150, R151). -/

def barHolder (b : Nat) : Nat := 0x0100 + b

/-- Steps 1 and 2 of R150. -/
def barChecks (s : State) (b : Nat) : Status :=
  let n := nozzles s b
  if n % 16 != 0 || decide (n < 16) || decide (8192 < n) || decide (3 < barGen s b) then .range
  else if !domOn s (if b < 12 then 28 else 29) || !genEnabled s (barGen s b) then .state
  else .ok

/-- Entry to STARTING. -/
def barStart (s : State) (b : Nat) : State :=
  let x := barOf s b
  enter (wr (setOwed (setBar s b { x with hold := 0, buf := [], stopLatched := false, clean := 0 }) b []) (bx b 0) 0x05 0) (bx b 0) 0x04 1

/-- A write of 1 to Enable. -/
def barEnable (s : State) (b : Nat) : State × Status :=
  match barState s b with
  | 0 =>
    match barChecks s b with
    | .ok =>
      let (s1, ok) := takeClaims s (barHolder b) [b]
      if ok then (wr (wr (barStart s1 b) (bx b 0) 0x01 1) (bx b 0) 0x06 0, .ok)
      else (wr s1 (bx b 0) 0x06 Status.resourceInUse.code, .resourceInUse)
    | st => (wr s (bx b 0) 0x06 st.code, st)
  | 3 => (wr (wr (wr s (bx b 0) 0x05 1) (bx b 0) 0x01 1) (bx b 0) 0x06 Status.restartPending.code, .restartPending)
  | _ => (wr (setBar s b { barOf s b with stopLatched := false }) (bx b 0) 0x01 1, .ok)

/-- HLb in its data state ends STARTING. -/
def barStarted (s : State) (b : Nat) : Option State :=
  if barState s b == 1 && laneInData s b then
    let s1 := setCause (enter s (bx b 0) 0x04 2) (.bar b) 4
    let x := barOf s1 b
    let s2 := setBar s1 b { x with silentFrom := s.now }
    some (if x.stopLatched then barStop s2 b else s2)
  else none

/-- The frame in progress sent, STOPPING ends in OFF, or in STARTING when a restart is pending. -/
def barStopped (s : State) (b : Nat) : Option State :=
  if barState s b == 3 && (barOf s b).launches.isEmpty && laneQuiet s b then
    let off := fun x => setCause (enter (setBar (setOwed (releaseAll (wr x (bx b 0) 0x05 0) (barHolder b)) b []) b
      { barOf x b with hold := 0, buf := [], owed := [] }) (bx b 0) 0x04 0) (.bar b) 4
    if rd s (bx b 0) 0x05 == 1 then
      match barChecks s b with
      | .ok => some (wr (barStart s b) (bx b 0) 0x06 0)
      | st => some (wr (wr (off s) (bx b 0) 0x01 0) (bx b 0) 0x06 st.code)
    else some (off s)
  else none

/-- At takeover at time d: b incomplete for every product whose window holds a suspect line, one whose header was built as SHADOW after the tick at d − 32 µs (R240). -/
def suspectLines (s : State) (d : Nat) : State :=
  (List.range 24).foldl (fun x b =>
    let x0 := barOf x b
    let tick := (d - 32 * psUs) / psUs * psUs
    let ls := (x0.recent.filter (fun e => decide (tick < e.1))).map (·.2)
    x.print.products.foldl (fun y p =>
      if p.windows.any (fun w => w.bar == b && ls.any (windowHas w)) then markIncomplete y p.id b else y) x) s

end Sys2Proof.Machine
end

