-- ==== Sys2Proof/Machine/Verify.lean ====
section
/-! DEFINITION. Reject gates, cameras and intake, inspection regions, verdicts, health posts and the reject archive.
Spec: 05_print_path.md R164 to R167; 06_verification_path.md R168 to R194; 11_memory_and_network_on_chip.md R324. -/

set_option Elab.async false

namespace Sys2Proof.Machine

/-! Verdicts (R184 to R186). -/

/-- The value of a verdict byte: 0 NONE, 1 PENDING, 2 PASS, 3 REJECT. -/
def verdictValue (v : Nat) : Nat := v % 4
def verdictCause (v : Nat) : Nat := v / 4

/-- A verdict stored with its status; its digest and its archive record follow (R185, R194, R237). -/
def verdictStore (s : State) (p : Product) (status verdict grade : Nat) : State :=
  let q := { p with verifyStatus := status, verdict := verdict, grade := grade }
  verdictDigest (archiveAsk (setProduct s q) q) q

/-! Reject gates (R164 to R167). -/

def gateOf (s : State) (j : Nat) : Gate := tabGet {} s.print.gates j
def setGate (s : State) (j : Nat) (x : Gate) : State := { s with print := { s.print with gates := tabSet {} s.print.gates j x } }
def gc (j : Nat) : Nat := 0x3300 + 2 * j
def gateEnabled (s : State) (j : Nat) : Bool := rd s (gc j) 0x01 == 1

/-- An entry placed in order of position, after those at the same position. -/
def entryInsert (l : List (Nat × Option Nat)) (p : Nat) (e : Option Nat) : List (Nat × Option Nat) :=
  match l with
  | [] => [(p, e)]
  | x :: r => if decide (0 < posDiff x.1 p) then (p, e) :: x :: r else x :: entryInsert r p e

/-- A due entry: of a tracked product for an enabled gate, of an untracked one for any; a full list loses it (R132, R164). -/
def gateAdd (s : State) (j pos : Nat) (e : Option Nat) : State :=
  let g := gateOf s j
  if e.isSome && !gateEnabled s j then s
  else if decide ((if e.isSome then 1024 else 128) ≤ (g.entries.filter (fun x => x.2.isSome == e.isSome)).length) then
    setCause (bump s (gc j + 1) 0x07) (.gate j) 2
  else
    let l := entryInsert g.entries pos e
    wr (setGate s j { g with entries := l }) (gc j + 1) 0x02 l.length

/-- A pulse is active now. -/
def pulseActive (s : State) (p : Pulse) : Bool := decide (p.start ≤ pllTime s)
/-- Output of a gate. -/
def gateOutput (s : State) (j : Nat) : Bool := (gateOf s j).pulses.any (pulseActive s)
/-- The level of REJj (R165, R167). -/
def rejLevel (s : State) (j : Nat) : Bool := gateOutput s j != (rd s (gc j) 0x06 == 1)

/-- The decision on a tracked product: MISSED where its verdict is missing, and whether it is rejected (R165, R185). -/
def gateVerdict (s : State) (id : Nat) : State × Bool :=
  match findProduct s id with
  | none => (s, false)
  | some p =>
    let miss := p.verifyStatus == 1 || p.verifyStatus == 2
    let rejectMissing := miss && rd s 0x3800 0x01 == 0
    let s1 := if miss then setCause (bump s 0x3800 0x07) .verify 2 else s
    let fire := p.forceReject || p.printStatus == 4 || verdictValue p.verdict == 3 || rejectMissing
    let q := { p with decided := true, rejected := p.rejected || fire }
    let s2 := setProduct s1 q
    (if rejectMissing then verdictStore s2 q 4 (6 * 4 + 3) q.grade
     else if miss then let r := { q with verifyStatus := 4 }; verdictDigest (setProduct s2 r) r
     else s2, fire)

/-- A pulse that the gate holds is active at the start of ACLK m, the one after this: the encoder had not been seen past its end before this ACLK, nor did its time end in one before m (R166). -/
def pulseStands (s : State) (j m : Nat) (q : Pulse) : Bool :=
  decide (q.start / 1000 ≤ m) && decide (m ≤ q.endAt / 1000)
  && (match q.endPos with
      | some e => !reached (encSeenLast s (rd s (gc j) 0x02)) e
      | none => true)

/-- The pulse that a firing entry starts one ACLK later, and whether it merges: with a pulse that starts in the same ACLK, or one active at its start, one that ends in it among them (R166). -/
def gatePulse (s : State) (j pos : Nat) : State :=
  let g := gateOf s j
  let st := pllTime s + 1000
  let p : Pulse :=
    if rd s (gc j) 0x03 == 0 then { start := st, endAt := st + rd s (gc j) 0x04 * psUs }
    else { start := st, endPos := some ((pos + rd s (gc j) 0x04) % 2 ^ 48), endAt := st + rd s (gc j) 0x05 * psUs }
  let merges := decide (st / 1000 < g.endedIn) || g.pulses.any (pulseStands s j (st / 1000))
  let s1 := setCause (count64 (setGate s j { g with pulses := g.pulses ++ [p] }) (gc j + 1) 0x05 1) (.gate j) 0
  if merges then setCause (bump s1 (gc j + 1) 0x06) (.gate j) 1 else s1

/-- The gate decides its first entry once its encoder has reached it: in ACLK n + 3 for an edge sampled in ACLK n (R165). An entry passed while the gate was disabled is decided once it is enabled: DESIGN CHOICE, log 159. -/
def gateDecide (s : State) (j : Nat) : Option State :=
  let g := gateOf s j
  match g.entries with
  | (pos, e) :: r =>
    if !gateEnabled s j || !reached (encSeen s (rd s (gc j) 0x02)) pos then none
    else
      let s1 := wr (setGate s j { g with entries := r }) (gc j + 1) 0x02 r.length
      let (s2, fire) := match e with
        | some id => gateVerdict s1 id
        | none => (s1, true)
      some (if fire then gatePulse s2 j pos else s2)
  | [] => none

/-- The decisions that a gate makes in this ACLK, up to the one on a product: a post of the same ACLK comes after them (R185). -/
def gateFirst (j id : Nat) : Nat → State → State
  | 0, s => s
  | n + 1, s =>
    match findProduct s id, gateDecide s j with
    | some p, some s1 => if p.decided then s else gateFirst j id n s1
    | _, _ => s

/-- A pulse has reached its end: the position, or the time of one that has none (R166). -/
def pulseAtEnd (s : State) (j : Nat) (p : Pulse) : Bool :=
  match p.endPos with
  | some e => reached (encSeen s (rd s (gc j) 0x02)) e
  | none => decide (p.endAt ≤ pllTime s)
/-- A pulse that a position ends has reached its timeout first. -/
def pulseTimed (s : State) (j : Nat) (p : Pulse) : Bool := p.endPos.isSome && !pulseAtEnd s j p && decide (p.endAt ≤ pllTime s)
/-- A pulse ends by now. -/
def pulseDone (s : State) (j : Nat) (p : Pulse) : Bool := pulseActive s p && (pulseAtEnd s j p || pulseTimed s j p)
/-- 1 + the ACLK in which a pulse that has reached its end ends: the one after that in which the gate saw the position, or the one of its time. -/
def pulseEndIn (s : State) (j : Nat) (p : Pulse) : Nat :=
  match p.endPos with
  | some e => if pulseTimed s j p then p.endAt / 1000 + 1 else if reached (encSeenLast s (rd s (gc j) 0x02)) e then aclk s + 1 else aclk s + 2
  | none => p.endAt / 1000 + 1

/-- Pulses whose end has come: at the position, or by the timeout, which counts (R166). -/
def gatePulseEnd (s : State) (j : Nat) : Option State :=
  let g := gateOf s j
  let done := g.pulses.filter (pulseDone s j)
  if done.isEmpty then none
  else
    let n := (done.filter (pulseTimed s j)).length
    let s1 := setGate s j { g with pulses := g.pulses.filter (fun p => !pulseDone s j p), endedIn := done.foldl (fun m p => max m (pulseEndIn s j p)) g.endedIn }
    some ((List.range n).foldl (fun x _ => setCause (bump x (gc j + 1) 0x08) (.gate j) 3) s1)

/-- A write to a gate's Enable (R167). -/
def gateEnable (s : State) (j v : Nat) : State × Status :=
  if v == 1 then
    if decide (3 < rd s (gc j) 0x02) || decide (1 < rd s (gc j) 0x03) then (wr s (gc j + 1) 0x09 Status.range.code, .range)
    else
      let s1 := wr (wr s (gc j) 0x01 1) (gc j + 1) 0x09 0
      (if gateEnabled s j then s1 else setCause s1 (.gate j) 4, .ok)
  else
    let s1 := wr (wr (setGate s j {}) (gc j) 0x01 0) (gc j + 1) 0x02 0
    (if gateEnabled s j then setCause s1 (.gate j) 4 else s1, .ok)

/-! Cameras. -/

def camOf (s : State) (k : Nat) : Camera := tabGet {} s.print.cameras k
def setCam (s : State) (k : Nat) (x : Camera) : State := { s with print := { s.print with cameras := tabSet {} s.print.cameras k x } }
def cc (k : Nat) : Nat := 0x3808 + 2 * k
def cs (k : Nat) : Nat := 0x3809 + 2 * k
/-- 0 OFF, 1 STARTING, 2 ON, 3 STOPPING. -/
def camState (s : State) (k : Nat) : Nat := rd s (cs k) 0x01
def camGen (s : State) (k : Nat) : Nat := rd s (cc k) 0x02
def pixels (s : State) (k : Nat) : Nat := rd s (cc k) 0x03
/-- Bits of a pixel (R168). -/
def pixelBits (s : State) (k : Nat) : Nat := 8 + 2 * rd s (cc k) 0x04
def nextLine (s : State) (k : Nat) : Nat := rd s (cs k) 0x04
def camLane (k : Nat) : Nat := 24 + 2 * k

/-- The queue that takes a camera's lines (R91). -/
def camQueue (s : State) (k : Nat) : Option Nat := (indicesWhere 32 (fun q => qState s q == 2 && qFarEnd s q == 4 && qFarUnit s q == k)).head?

/-- The items of a line: its number, its flags and its pixels (R176). -/
def lineItems (s : State) (k line flags : Nat) (payload : List Byte) : List (Nat × Bool) :=
  let d := pixelBits s k
  let v := leNat payload
  let per := if d == 8 then 4 else 2
  let n := pixels s k / per
  let px := (List.range n).map (fun j => (List.range per).foldl (fun a i => a + bitsOf v (d * (per * j + i)) d * 2 ^ ((32 / per) * i)) 0)
  let l := [line, flags] ++ px
  (l.mapIdx (fun i x => (x, i + 1 == l.length)))

/-! Inspection regions (R180 to R182, R185). -/

def insp (s : State) (t sub : Nat) : Nat := rd s (0x3820 + t) sub

/-- The region ring has room for a record (R182). -/
def regionRoom (s : State) (k : Nat) : Bool :=
  let size := rd s (cc k) 0x0D
  size != 0 && (rd s (cs k) 0x0B + 32) % size != rd s (cc k) 0x0E && regionOn s 10 (rd s (cc k) 0x0C) size

/-- The fence that a record of a camera meets at its ring (R335). -/
def regionFence (s : State) (k : Nat) : Passage :=
  match unitGate s 10 (rd s (cc k) 0x0C + rd s (cs k) 0x0B) 32 with
  | .fenced => .fenced
  | _ => .clear

/-- A region record written to the ring (R182). -/
def regionWrite (s : State) (k : Nat) (p : Product) (flags : Nat) : State :=
  let t := p.trigger
  let b := leBytes 4 p.id ++ leBytes 1 t ++ leBytes 1 p.lane ++ leBytes 1 (insp s t 0x06) ++ leBytes 1 flags ++ leBytes 4 p.firstLine ++ leBytes 4 p.lastLine
    ++ leBytes 2 (insp s t 0x04) ++ leBytes 2 (insp s t 0x05) ++ leBytes 2 (insp s t 0x07) ++ leBytes 1 (insp s t 0x08) ++ leBytes 1 (insp s t 0x09)
    ++ leBytes 4 (insp s t 0x0A) ++ leBytes 2 (insp s t 0x0B) ++ leBytes 2 0
  let e := rd s (cs k) 0x0B
  setCause (wr (memWrite (unitUse s 3 10 (rd s (cc k) 0x0C + e) 32) (rd s (cc k) 0x0C + e) b) (cs k) 0x0B ((e + 32) % rd s (cc k) 0x0D)) (.camera k) 3

/-- The verdict REJECT, IMAGE_LOST (R185). -/
def imageLost : Nat := 4 * 4 + 3

/-- The region of a new record whose trigger names a camera (R180, R182, R185). -/
def regionOpen (s : State) (id : Nat) : State :=
  match findProduct s id with
  | none => s
  | some p =>
    let t := p.trigger
    let k := insp s t 0x01
    if decide (5 < k) then s
    else
      let g := camGen s k
      let x := (p.pos + insp s t 0x02) % 2 ^ 48
      let q := { p with camera := k, firstLine := wrapInt 32 (lineAtOrAbove s g x), lastLine := wrapInt 32 (lineAtOrAbove s g ((x + insp s t 0x03) % 2 ^ 48) - 1) }
      let room := regionRoom s k
      let s0 := if room then s else setCause (bump (unitTurned s 10 (regionFence s k)) (cs k) 0x09) (.camera k) 8
      if camState s k == 2 && decide (0 < lineDiff q.firstLine (genLine s g)) && room then
        regionWrite (setProduct s0 { q with verifyStatus := 1, verdict := 1 }) k q 0
      else
        let s1 := verdictStore s0 q 3 imageLost q.grade
        if room then regionWrite s1 k q 1 else s1

/-- WAITING regions whose last line has been written become IMAGED; the interval to the verdict starts (R185). -/
def regionImaged (s : State) (k line : Nat) : State :=
  s.print.products.foldl (fun x p =>
    if p.camera == k && p.verifyStatus == 1 && p.lastLine == line then
      setCause (setProduct x { p with verifyStatus := 2, imagedAt := x.now }) (.camera k) 4
    else x) s

/-! History (R177, R324). -/

/-- Bl: bytes of a line in history. -/
def lineBytes (s : State) (k : Nat) : Nat := (pixels s k * pixelBits s k / 8 + 15) / 16 * 16
/-- Lh: lines that history holds. -/
def historyLines (s : State) (k : Nat) : Nat := rd s (cc k) 0x0B / lineBytes s k
/-- Where line n lies in history. -/
def historyAddr (s : State) (k n : Nat) : Nat := rd s (cc k) 0x0A + n % historyLines s k * lineBytes s k

/-- A line written into history, with what its place held kept while the interface can still refuse the write; one that reaches an interface that is not ON is lost (R177, R324). -/
def historyPut (s : State) (k n : Nat) (b : List Byte) : State :=
  let g := unitGate s 10 (historyAddr s k n) (lineBytes s k)
  if historyLines s k == 0 then s
  else if (gateStatus g).isSome then unitTurned s 10 g
  else
    let a := physAddr s 10 (historyAddr s k n)
    let x := camOf s k
    let at_ := n % historyLines s k
    let recent := x.waiting.filter (fun e => decide (s.now ≤ e.since + 40 * psUs))
    let w : HistoryWrite := { line := n, since := s.now, oldLine := tabFind x.history at_, oldBytes := memRead s a b.length }
    setCam (memWrite s a b) k { x with history := tabPut x.history at_ n, waiting := recent ++ [w] }

/-- History still holds a line. -/
def historyHolds (s : State) (k n : Nat) : Bool := historyLines s k != 0 && tabFind (camOf s k).history (n % historyLines s k) == some n

/-- A history write that has waited 20 µs is refused and dropped: its place holds what it held (R324). -/
def historyRefused (s : State) (k n : Nat) : Option State :=
  let x := camOf s k
  match x.waiting.find? (fun e => e.line == n && decide (e.since + 20 * psUs ≤ s.now)) with
  | some w =>
    if !historyHolds s k n then none
    else
      let at_ := n % historyLines s k
      let h := match w.oldLine with | some o => tabPut x.history at_ o | none => tabErase x.history at_
      let s1 := memWrite s (physAddr s 10 (historyAddr s k n)) w.oldBytes
      some (lpddrRefuse (setCam s1 k { x with waiting := x.waiting.filter (fun e => e.line != n), history := h }) (lpddrExternal s 10 (historyAddr s k n)))
  | none => none

/-! Intake (R175, R176). -/

/-- NextLine is lost: LostTimeout has passed since its strobe, or a line at least two further has come on its lane. -/
def lineGone (s : State) (k : Nat) : Bool :=
  let x := camOf s k
  let n := nextLine s k
  let seen := if n % 2 == 0 then x.seenEven else x.seenOdd
  !((x.replay ++ x.held).any (fun e => e.1 == n)) && (x.expired.contains n || (match seen with | some m => decide (2 ≤ lineDiff m n) | none => false))

/-- Items of the line being written offered until the queue takes no more. -/
def offerItems (q : Nat) : List (Nat × Bool) → State → List (Nat × Bool) × State
  | [], s => ([], s)
  | (v, last) :: r, s =>
    (qOffer s q v last).elim ((v, last) :: r, s) (fun s1 => offerItems q r s1)

/-- The line NextLine written in full: NextLine advances, and regions that end with it are IMAGED. -/
def lineWritten (s : State) (k : Nat) : State :=
  let n := nextLine s k
  let x := camOf s k
  let s1 := setCam s k { x with writing := false, items := [], overflowed := x.overflowed.filter (fun e => e != n), expired := x.expired.filter (fun e => e != n), strobes := x.strobes.filter (fun e => decide (0 < lineDiff e.1 n)) }
  regionImaged (wr s1 (cs k) 0x04 ((n + 1) % 2 ^ 32)) k n

/-- Intake writes NextLine as soon as it is held or lost, with fuel for the lines that may follow at once. -/
def intakePump (k : Nat) : Nat → State → State
  | 0, s => s
  | fuel + 1, s =>
    if camState s k != 2 then s
    else
      let x := camOf s k
      let n := nextLine s k
      let s1 :=
        if x.writing then s
        else match (x.replay ++ x.held).find? (fun e => e.1 == n) with
          | some (_, b) => setCam s k { x with writing := true, writingHeld := x.held.any (fun e => e.1 == n), items := lineItems s k n 0 b, held := x.held.filter (fun e => e.1 != n), replay := x.replay.filter (fun e => e.1 != n) }
          | none =>
            let ovf := x.overflowed.contains n
            if ovf || lineGone s k then
              setCause (bump (setCam s k { x with writing := true, writingHeld := false, items := lineItems s k n (if ovf then 3 else 1) [] }) (cs k) 0x06) (.camera k) 0
            else s
      if !(camOf s1 k).writing then s1
      else match camQueue s1 k with
        | none => s1
        | some q =>
          let (rest, s2) := offerItems q (camOf s1 k).items s1
          let s3 := setCam s2 k { camOf s2 k with items := rest }
          if rest.isEmpty then intakePump k fuel (lineWritten s3 k) else s3

/-- The camera whose lines queue q takes goes on writing when the queue has room again. -/
def intakeResume (s : State) (q : Nat) : State :=
  if qIsInput q && qFarEnd s q == 4 && decide (qFarUnit s q ≤ 5) then intakePump (qFarUnit s q) 8 s else s

/-- A frame discarded under R174. -/
def camFormat (s : State) (k : Nat) : State := setCause (bump s (cs k) 0x08) (.camera k) 2

/-- An IMAGE_LINE that passes its checks (R175). -/
def imageLineApply (s : State) (k n : Nat) (b : List Byte) : State :=
  if camState s k != 2 then s
  else
    let x := camOf s k
    let below := decide (lineDiff n (nextLine s k) < 0)
    let lost := x.overflowed.contains n || x.expired.contains n || (n == nextLine s k && (x.writing || lineGone s k))
    let later := fun (o : Option Nat) => match o with | some m => if decide (0 < lineDiff n m) then some n else some m | none => some n
    let x1 := if below then x else if n % 2 == 0 then { x with seenEven := later x.seenEven } else { x with seenOdd := later x.seenOdd }
    let s1 := setCam s k x1
    let s2 :=
      if below || lost || (x.replay ++ x.held).any (fun e => e.1 == n) then camFormat s1 k
      else if decide (4 ≤ x.held.length + boolNat (x.writing && x.writingHeld)) then
        setCause (bump (setCam s1 k { x1 with overflowed := x1.overflowed ++ [n] }) (cs k) 0x07) (.camera k) 1
      else
        count64 (historyPut (setCam s1 k { x1 with held := x1.held ++ [(n, b)] }) k n b) (cs k) 0x0A 1
    intakePump k 8 s2

/-- LostTimeout has passed since the strobe of NextLine (R175). -/
def lineLost (s : State) (k : Nat) : Option State :=
  let x := camOf s k
  let n := nextLine s k
  if camState s k == 2 && !x.writing && !((x.replay ++ x.held).any (fun e => e.1 == n)) && !x.expired.contains n
      && x.strobes.any (fun e => e.1 == n && decide (e.2 + rd s (cc k) 0x09 * psUs ≤ s.now)) then
    some (intakePump k 8 (setCam s k { x with expired := x.expired ++ [n] }))
  else none

/-- A strobe of the camera's generator, at the end of its ACLK s: a LINE_TRIGGER is sent while the lane is in its data state, with the Owner of ACLK s + 1, and enters the lane at s + 3 (R20, R149, R170, R239). The data state is looked at as the header is built: DESIGN CHOICE, log 160. -/
def camStrobe (s : State) (k line : Nat) : State :=
  if camState s k != 2 then s
  else
    let x := camOf s k
    let s1 := setCam s k { x with strobes := x.strobes ++ [(line, s.now - 1000)] }
    if laneInData s1 (camLane k) then
      laneFire s1 (camLane k) (s.now + 2000) (line * 2 ^ 32 + k * 2 ^ 8 + rd s (cc k) 0x10 * 2 ^ 4 + 1) []
    else s1

/-- A BRIDGE_STATUS that passes its checks (R174). -/
def bridgeStatusApply (s : State) (k : Nat) (p : List Byte) : State :=
  let flags := leAt p 4 4 % 16
  let s1 := wr s (cs k) 0x0E flags
  let s2 := setCam s1 k { camOf s1 k with silentFrom := if camState s k == 2 then s.now else (camOf s1 k).silentFrom }
  if bitOf flags 0 then setCause (bump s2 (cs k) 0x0D) (.camera k) 7 else s2

/-- A frame received on IL(2k) (`odd` false) or IL(2k + 1) (R174). -/
def bridgeFrame (s : State) (k : Nat) (odd : Bool) (hdr : Nat) (p : List Byte) (crcOk : Bool) : State :=
  let (s1, ok) := laneDelivers s (camLane k + boolNat odd)
  if !ok then s1
  else
    let ty := bitsOf hdr 0 4
    let count := bitsOf hdr 11 15
    let seq := bitsOf hdr 32 32
    let depth := bitsOf hdr 26 2
    if !crcOk || bitsOf hdr 8 3 != k then camFormat s1 k
    else if ty == 10 then
      if camState s1 k != 2 then s1
      else if count != pixels s1 k || depth != rd s1 (cc k) 0x04 || (seq % 2 == 1) != odd || p.length != count * pixelBits s1 k / 8 then camFormat s1 k
      else imageLineApply s1 k seq p
    else if count != p.length then camFormat s1 k
    else if ty == 9 then if p.length == 32 then bridgeStatusApply s1 k p else camFormat s1 k
    else if ty == 8 then (mgmtReplied s1 (cc k) 0x11 (camOf s1 k).mgmtSeq hdr p).1
    else camFormat s1 k

/-- A camera's management request (R169). -/
def camMgmt (s : State) (k : Nat) (payload : List Byte) : State × Status :=
  let seq := ((camOf s k).mgmtSeq + 1) % 2 ^ 32
  let r := mgmtSend s (cc k) 0x11 (camLane k) (payload.length * 2 ^ 11 + k * 2 ^ 8 + rd s (cc k) 0x10 * 2 ^ 4) seq payload
  if r.2 == .ok then (setCam r.1 k { camOf r.1 k with mgmtSeq := seq }, .ok) else r

/-- 5 ms without a valid BRIDGE_STATUS while ON, and every further 5 ms (R174). -/
def bridgeSilence (s : State) (k : Nat) : Option State :=
  let x := camOf s k
  if camState s k == 2 && decide (x.silentFrom + 5 * psMs ≤ s.now) then
    some (setCause (bump (setCam s k { x with silentFrom := x.silentFrom + 5 * psMs }) (cs k) 0x0C) (.camera k) 6)
  else none

/-! The lifecycle of a camera (R178, R179). -/

def camHolder (k : Nat) : Nat := 0x0200 + k

/-- Steps 1 and 2 of R178. -/
def camChecks (s : State) (k : Nat) : Status :=
  let n := pixels s k
  if n % 16 != 0 || decide (n < 16) || decide (16384 < n) || decide (2 < rd s (cc k) 0x04) || decide (3 < camGen s k) || rd s (cc k) 0x0A % 16 != 0
      || rd s (cc k) 0x0B % 16 != 0 || rd s (cc k) 0x0C % 32 != 0 || rd s (cc k) 0x0D % 32 != 0 then .range
  else if !domOn s 30 || !genEnabled s (camGen s k) || (camQueue s k).isNone
      || (rd s (cc k) 0x0B != 0 && !regionOn s 10 (rd s (cc k) 0x0A) (rd s (cc k) 0x0B)) then .state
  else .ok

/-- WAITING regions of a camera end with their images lost (R185). -/
def regionsEnd (s : State) (k : Nat) : State :=
  s.print.products.foldl (fun x p => if p.camera == k && p.verifyStatus == 1 then verdictStore x p 3 imageLost p.grade else x) s

/-- Entry to STARTING: both offsets of the region ring are 0 (R103, R182). -/
def camStart (s : State) (k : Nat) : State :=
  enter (wr (wr (wr (setCam s k { mgmtSeq := (camOf s k).mgmtSeq }) (cs k) 0x02 0) (cs k) 0x0B 0) (cc k) 0x0E 0) (cs k) 0x01 1

/-- Entry to STOPPING (R179). -/
def camStop (s : State) (k : Nat) : State :=
  let x := camOf s k
  enter (regionsEnd (setCam s k { x with held := [], replay := [], overflowed := [], expired := [], strobes := [], items := [], writing := false, stopLatched := false }) k) (cs k) 0x01 3

def camEnable (s : State) (k : Nat) : State × Status :=
  match camState s k with
  | 0 =>
    match camChecks s k with
    | .ok =>
      let (s1, ok) := takeClaims s (camHolder k) [camLane k, 0x28 + camLane k, 0x29 + camLane k]
      if ok then (wr (wr (camStart s1 k) (cc k) 0x01 1) (cs k) 0x03 0, .ok)
      else (wr s1 (cs k) 0x03 Status.resourceInUse.code, .resourceInUse)
    | st => (wr s (cs k) 0x03 st.code, st)
  | 3 => (wr (wr (wr s (cs k) 0x02 1) (cc k) 0x01 1) (cs k) 0x03 Status.restartPending.code, .restartPending)
  | _ => (wr (setCam s k { camOf s k with stopLatched := false }) (cc k) 0x01 1, .ok)

def camDisable (s : State) (k : Nat) : State × Status :=
  let s1 := wr s (cc k) 0x01 0
  match camState s k with
  | 1 => (setCam s1 k { camOf s1 k with stopLatched := true }, .ok)
  | 2 => (camStop s1 k, .ok)
  | 3 => (wr s1 (cs k) 0x02 0, .ok)
  | _ => (s1, .ok)

/-- IL(2k) in its data state ends STARTING; NextLine is the line after the last strobed. -/
def camStarted (s : State) (k : Nat) : Option State :=
  if camState s k == 1 && laneInData s (camLane k) then
    let s1 := setCause (enter s (cs k) 0x01 2) (.camera k) 5
    let s2 := wr s1 (cs k) 0x04 ((genLine s1 (camGen s1 k) + 1) % 2 ^ 32)
    let x := camOf s2 k
    let s3 := setCam s2 k { x with silentFrom := s.now }
    some (if x.stopLatched then camStop s3 k else s3)
  else none

/-- The frame in progress sent, STOPPING ends in OFF, or in STARTING when a restart is pending. -/
def camStopped (s : State) (k : Nat) : Option State :=
  if camState s k == 3 && laneQuiet s (camLane k) then
    let off := fun x => setCause (enter (releaseAll (wr x (cs k) 0x02 0) (camHolder k)) (cs k) 0x01 0) (.camera k) 5
    if rd s (cs k) 0x02 == 1 then
      match camChecks s k with
      | .ok => some (wr (camStart s k) (cs k) 0x03 0)
      | st => some (wr (wr (off s) (cc k) 0x01 0) (cs k) 0x03 st.code)
    else some (off s)
  else none

/-! Posts (R186, R192). -/

/-- Before a verdict is posted, the gate of its product makes the decisions that are due in the present ACLK, up to that product's: a post in that ACLK counts as after them (R185). -/
def postGate (s : State) (v : Nat) : State :=
  match findProduct s (v % 2 ^ 32) with
  | some p => if p.gate ≤ 11 then gateFirst p.gate p.id (gateOf s p.gate).entries.length s else s
  | none => s

/-- A verdict taken for its product (R185, R186). -/
def verdictTake (s : State) (v : Nat) : State × Status :=
  let b := bitsOf v 32 8
  let val := verdictValue b
  let c := verdictCause b
  match findProduct s (v % 2 ^ 32) with
  | none => (s, .range)
  | some p =>
    if bitsOf v 56 8 != 0 || (val != 2 && val != 3) || decide (6 ≤ c) then (s, .range)
    else if p.verifyStatus != 2 && p.verifyStatus != 4 then (s, .state)
    else
      let late := p.verifyStatus == 4
      let s1 := verdictStore s p (if late then 5 else 3) b (bitsOf v 40 8)
      let ns := (s.now - p.imagedAt) / 1000
      let s2 := if p.imagedAt != 0 && decide (rd s1 0x3800 0x04 < ns) then wr s1 0x3800 0x04 (min ns 0xFFFFFFFF) else s1
      let s3 := setCause (count64 s2 0x3800 (if val == 2 then 0x05 else 0x06) 1) .verify 0
      let s4 := if val == 3 then setCause s3 .verify 1 else s3
      let s5 := if c == 2 then setCause (bump s4 0x3800 0x09) .verify 7 else if c == 1 then bump s4 0x3800 0x0A else s4
      (if late then setCause (bump s5 0x3800 0x08) .verify 3 else s5, .ok)

/-- A write to VerdictPost (R185, R186). -/
def verdictPost (s : State) (v : Nat) : State × Status := verdictTake (postGate s v) v

/-- A write to HealthPost (R192). -/
def healthPost (s : State) (v : Nat) : State × Status :=
  let k := bitsOf v 0 14
  let b := bitsOf v 16 5
  let n := rd s 0x3802 (5 + b)
  if pairRole s == 3 then (s, .role)
  else if bitsOf v 14 2 != 0 || bitsOf v 21 11 != 0 || decide (23 < b) || barState s b != 2 || decide (nozzles s b ≤ k) then (s, .range)
  else if 2 ≤ bitsOf (mapEntry s b (activeCopy s b) k) 30 2 then (s, .ok)
  else if decide (rd s 0x3802 0x04 < n + 1) then (setCause s .verify 5, .state)
  else (setCause (mapChange (wr s 0x3802 (5 + b) (n + 1)) b [.failed k]) .verify 4, .ok)

/-! The reject archive (R194). -/

/-- The lines of a region from its first to its last. -/
def regionLines (first last : Nat) : List Nat := (List.range ((lineDiff last first).toNat + (if decide (lineDiff last first < 0) then 0 else 1))).map (fun i => (first + i) % 2 ^ 32)

/-- The record of an archive job: a truncated one carries a presence map, and only the lines that history holds. -/
def archiveBytes (s : State) (j : ArchiveJob) : List Byte × Bool :=
  let k := j.camera
  let all := regionLines j.firstLine j.lastLine
  let have_ := all.filter (historyHolds s k)
  let short := have_.length != all.length
  let mapLen := ((all.length + 7) / 8 + 15) / 16 * 16
  let bits := (all.mapIdx (fun i n => if historyHolds s k n then 2 ^ i else 0)).foldl (· + ·) 0
  let pm := if short then leBytes mapLen bits else []
  let body := have_.flatMap (fun n => memRead s (physAddr s 10 (historyAddr s k n)) (lineBytes s k))
  let len := 64 + pm.length + body.length
  (leBytes 4 len ++ leBytes 4 j.product ++ leBytes 1 k ++ leBytes 1 j.verdict ++ leBytes 1 (rd s (cc k) 0x04) ++ leBytes 1 (if short then 3 else 0)
    ++ leBytes 2 (pixels s k) ++ leBytes 2 have_.length ++ leBytes 4 j.firstLine ++ leBytes 4 j.lastLine ++ leBytes 8 j.ptp ++ leBytes 8 j.pos
    ++ List.replicate 24 0 ++ pm ++ body, short)

/-- The record of an archive job refused by the interface: dropped (R194, R324). -/
def archiveRefused (s : State) : Option State :=
  match s.print.archive with
  | j :: r =>
    if decide (j.since + 20 * psUs ≤ s.now) then
      let s1 := lpddrRefuse { s with print := { s.print with archive := r } } (lpddrExternal s 10 (rd s 0x3803 0x02 + rd s 0x3803 0x05))
      some (setCause (bump s1 0x3803 0x06) .verify 6)
    else none
  | [] => none

/-- A write of ArchiveMode: the archive unit starts where the mode was 0, and both offsets of its ring are 0 (R103, R194; DEDUCED, log 152). -/
def archiveModeWrite (s : State) (v : Nat) : State × Status :=
  let s1 := if rd s 0x3803 0x01 == 0 && v != 0 then wr (wr s 0x3803 0x04 0) 0x3803 0x05 0 else s
  (wr s1 0x3803 0x01 v, .ok)

/-- The archive unit makes the record of the oldest job; none may bring its index to within 16 bytes of the host's (R104, R194). -/
def archiveRecord (s : State) : Option State :=
  match s.print.archive with
  | j :: r =>
    let s0 := { s with print := { s.print with archive := r } }
    let (b, short) := archiveBytes s0 j
    let base := rd s0 0x3803 0x02
    let size := rd s0 0x3803 0x03
    let e := rd s0 0x3803 0x05
    let s1 := if short then setCause (bump s0 0x3803 0x07) .verify 6 else s0
    let room := if size == 0 then 0 else (rd s1 0x3803 0x04 + size - e - 1) % size + 1
    let g := ringGate s1 10 base size e b.length
    if decide (b.length + 32 ≤ room) && g == .suspended then none
    else some (
      if decide (room < b.length + 32) then setCause (bump s1 0x3803 0x06) .verify 6
      else if (gateStatus g).isSome || !regionOn s1 10 base size then setCause (bump (unitTurned s1 10 g) 0x3803 0x06) .verify 6
      else wr (ringWrite s1 (physAddr s1 10 base) size e b) 0x3803 0x05 ((e + b.length) % size))
  | [] => none

end Sys2Proof.Machine
end

