-- ==== Sys2Proof/Machine/Products.lean ====
section
/-! DEFINITION. Encoders and their counts, line generators, triggers, and the product table.
Spec: 05_print_path.md R118 to R134, R464; 06_verification_path.md R181; 08_pair_operation.md R243 (latched positions). -/

set_option Elab.async false

namespace Sys2Proof.Machine

def ex (e : Nat) : Nat := 0x3000 + e
def gx (g : Nat) : Nat := 0x3010 + g
def tx (t : Nat) : Nat := 0x3020 + t

/-- Times within the last 1 ms. -/
def lastMs (s : State) (l : List Nat) : List Nat := l.filter (fun t => decide (s.now < t + psMs))

/-! Counting (R119 to R122, R464). -/

/-- The count of a change from levels a, b to a', b' in a mode, before Invert (R119). -/
def quadStep (mode : Nat) (a b a' b' : Bool) : Int :=
  if a != a' then
    if !b then (if a' then 1 else -1)
    else if mode == 0 then 0 else (if a' then -1 else 1)
  else if b != b' && mode == 2 then
    if a then (if b' then 1 else -1) else (if b' then -1 else 1)
  else 0

/-- A strobe of line k of a generator reaches every bar and camera on it (R126, R135, R170). -/
def strobe (s : State) (g : Nat) (k : Int) : State :=
  let line := wrapInt 32 k
  let s1 := wr s (gx g) 0x05 line
  let s2 := { s1 with print := { s1.print with strobeTimes := tabPut s1.print.strobeTimes g (lastMs s1 (tabGet [] s1.print.strobeTimes g) ++ [s1.now]) } }
  let s3 := (List.range 24).foldl (fun x b => if barGen x b == g then barStrobe x b line else x) s2
  (List.range 6).foldl (fun x c => if camGen x c == g then camStrobe x c line else x) s3

/-- The line generators of an encoder whose next boundary the new position has reached strobe (R126); a strobe on its way as the encoder leaves ON is still made: DESIGN CHOICE, log 154. -/
def strobes (s : State) (e pos : Nat) : State :=
  (List.range 4).foldl (fun x g =>
    if genEnabled x g && genEncoder x g == e && reached pos (boundary x g (genNext x g)) then
      strobe (setGenNext x g (genNext x g + 1)) g (genNext x g)
    else x) s

/-- Something of the print path takes effect in a later ACLK. -/
def pipeAdd (s : State) (due : Nat) (k : PipeKind) : State := { s with print := { s.print with pipe := s.print.pipe ++ [{ due := due, kind := k }] } }

/-- One count, up or down; the line generators look at a new highest position in the next ACLK, and their strobe stands at its end (R20, R126). -/
def count (s : State) (e : Nat) (d : Int) : State :=
  let pos := wrapInt 48 ((encPos s e : Int) + d)
  let dir := if decide (0 < d) then 0 else 1
  let s1 := if dir == 1 && rd s (ex e) 0x0A == 0 then setCause s (.encoder e) 2 else s
  let s2 := wr (wr s1 (ex e) 0x06 pos) (ex e) 0x0A dir
  let x := encoderOf s2 e
  let s3 := setEncoder s2 e { x with times := lastMs s2 x.times ++ [s2.now], countAt := aclk s + 1, before := encPos s e, countAt' := x.countAt, before' := x.before }
  if decide (0 < posDiff pos (encHigh s e)) then pipeAdd (wr s3 (ex e) 0x08 pos) (aclk s + 2) (.strobe e pos) else s3

/-- New levels of A and B taken by a counter: both changed is an error, one changed is a count of the mode (R119, R121). -/
def levels (s : State) (e : Nat) (a b : Bool) (mode invert : Nat) (take : State → Int → State) : State :=
  let x := encoderOf s e
  let s1 := setEncoder s e { x with a := a, b := b }
  if x.a == a && x.b == b then s1
  else if x.a != a && x.b != b then setCause (bump s1 (ex e) 0x10) (.encoder e) 0
  else
    let d0 := quadStep mode x.a x.b a b
    let d := if invert == 1 then -d0 else d0
    if d == 0 then s1 else take s1 d

/-- The AON counter takes levels (R124). DESIGN CHOICE (unsafe), log entry 135: Direction is that of the last count of the ACLK counter; counts made in AON leave it (R464 is silent). -/
def aonLevels (s : State) (e v : Nat) (a b : Bool) : State :=
  let x := encoderOf s e
  levels s e a b x.aonMode x.aonInvert (fun y d => setEncoder y e { encoderOf y e with aon := some (wrapInt 48 ((v : Int) + d)) })

/-! From the balls to the counters (R20, R118, R129). -/

/-- The level that an item gives to a ball. -/
def levelOfA (e : Nat) : PipeKind → Option Bool | .encA i v => if i == e then some v else none | _ => none
def levelOfB (e : Nat) : PipeKind → Option Bool | .encB i v => if i == e then some v else none | _ => none
def levelOfZ (e : Nat) : PipeKind → Option Bool | .encZ i v => if i == e then some v else none | _ => none
def levelOfTrig (t : Nat) : PipeKind → Option Bool | .trig i v => if i == t then some v else none | _ => none

/-- The last level on its way from a ball, or the one taken last. -/
def ballLevel (s : State) (of : PipeKind → Option Bool) (taken : Bool) : Bool := ((s.print.pipe.filterMap (fun i => of i.kind)).getLast?).getD taken

/-- A ball is sampled. At a new level, one of which F + 1 samples have not agreed by now is forgotten, and the new one is taken 2 ACLK after its sample and F more (R20, R118). -/
def ballSampled (s : State) (of : PipeKind → Option Bool) (taken : Bool) (f : Nat) (k : PipeKind) : State :=
  if of k == some (ballLevel s of taken) then s
  else
    let s1 := { s with print := { s.print with pipe := s.print.pipe.filter (fun i => (of i.kind).isNone || decide (i.due < aclk s + 2)) } }
    if of k == some (ballLevel s1 of taken) then s1 else pipeAdd s1 (aclk s + 2 + f) k

/-- The filter of an encoder. -/
def encFilter (s : State) (e : Nat) : Nat := rd s (ex e) 0x04

/-- A and B as sampled in this ACLK: on their way to the decoder, or counted at once by the AON counter until it hands over. -/
def quadrature (s : State) (e : Nat) (a b : Bool) : State :=
  let x := encoderOf s e
  match x.aon with
  | some v => aonLevels s e v a b
  | none => ballSampled (ballSampled s (levelOfA e) x.a (encFilter s e) (.encA e a)) (levelOfB e) x.b (encFilter s e) (.encB e b)

/-- New levels of A and B taken by the decoder in one ACLK (R119, R121). -/
def quadTaken (s : State) (e : Nat) (a b : Bool) : State :=
  if encState s e != 2 then setEncoder s e { encoderOf s e with a := a, b := b }
  else levels s e a b (rd s (ex e) 0x02) (rd s (ex e) 0x03) (fun y d => count y e d)

/-- New levels of A and B, taken by the AON counter while ACLK is stopped (R124). -/
def aonQuadrature (s : State) (e : Nat) (a b : Bool) : Option State :=
  match (encoderOf s e).aon with
  | some v => if sysRuns s then none else some (aonLevels s e v a b)
  | none => none

/-- The source of a resync notes this engine's position at an edge; the joiner latches it, and the source sends it (R243). -/
def resyncMark (s : State) (e : Nat) : State :=
  if pairRole s == 6 && rd s 0x1302 0x02 == 2 then
    { s with pair := { s.pair with latched := (s.pair.latched ++ [(e, encPos s e, ptpTime s)]).drop (s.pair.latched.length - 63) } }
  else if pairRole s == 4 && rd s 0x1302 0x02 == 2 && encState s e == 2 then
    (sendOrdered s 0x17 (leBytes 1 e ++ List.replicate 7 0 ++ leBytes 8 (encPos s e) ++ leBytes 8 (ptpTime s))).1
  else s

/-- A new level of ENCe_Z taken: a rise copies the position where IndexEnable is set (R122). DESIGN CHOICE (unsafe), log entry 136: a rise while the encoder is not ON is ignored. -/
def indexEdge (s : State) (e : Nat) (z : Bool) : State :=
  let x := encoderOf s e
  let s1 := setEncoder s e { x with z := z }
  if x.z || !z || encState s e != 2 then s1
  else
    let s2 := resyncMark s1 e
    if rd s (ex e) 0x05 == 1 then setCause (wr s2 (ex e) 0x09 (encPos s e)) (.encoder e) 1 else s2

/-- The key of the filtered level of a trigger's input. -/
def trigKey (s : State) (t : Nat) : Nat := 8 * t + rd s (tx t) 0x02

/-- The filtered level of a trigger's input set. -/
def setTrigLevel (s : State) (t : Nat) (v : Bool) : State :=
  { s with print := { s.print with trigLevel := tabPut s.print.trigLevel (trigKey s t) (boolNat v) } }

/-- A new level of a trigger's input, sampled in this ACLK: on its way through the filter (R118, R129). Before the first edge of a ball the opposite level counts as standing: DESIGN CHOICE, log 137. -/
def trigInput (s : State) (t : Nat) (new : Bool) : State :=
  let taken := match tabFind s.print.trigLevel (trigKey s t) with
    | some v => v == 1
    | none => !new
  ballSampled (setTrigLevel s t taken) (levelOfTrig t) taken (rd s (tx t) 0x04) (.trig t new)

/-- ENCe_Z as sampled in this ACLK: on its way to the index, and to the triggers that take it as their input, each through its own filter (R118, R129). -/
def zSampled (s : State) (e : Nat) (z : Bool) : State :=
  if ballLevel s (levelOfZ e) (encoderOf s e).z == z then s
  else
    let s1 := ballSampled s (levelOfZ e) (encoderOf s e).z (encFilter s e) (.encZ e z)
    (List.range 24).foldl (fun x t => if rd x (tx t) 0x02 == e + 1 then trigInput x t z else x) s1

/-- An edge of the ball TRIGt, sampled in this ACLK: on its way to trigger t where that is its input (R129). -/
def trigSampled (s : State) (t : Nat) (rising : Bool) : State :=
  if rd s (tx t) 0x02 == 0 then trigInput s t rising else s

/-- The next lines of an encoder's enabled generators moved past its HighWater without a strobe (R123, R125). -/
def skipToHigh (s : State) (e : Nat) : State :=
  (List.range 4).foldl (fun x g => if genEnabled x g && genEncoder x g == e then skipLines x g (lineAbove x g (encHigh x e)) else x) s

/-- The ACLK counter takes the AON value and counts on; the generators move on without strobing (R124, R125). DESIGN CHOICE (unsafe), log entry 137: HighWater becomes the higher of itself and the AON value at the hand-off, not the highest position that AON passed. -/
def fromAon (s : State) (e : Nat) : State :=
  let x := encoderOf s e
  match x.aon with
  | some v =>
    let s1 := wr (setEncoder s e { x with aon := none }) (ex e) 0x06 v
    let s2 := if decide (0 < posDiff v (encHigh s1 e)) then wr s1 (ex e) 0x08 v else s1
    setCause (skipToHigh s2 e) (.encoder e) 4
  | none => s

/-- A count that AON kept while SYS was off: with the same Mode and Invert the encoder takes its position and HighWater from it, else it is discarded (R406). -/
def fromAonSleep (s : State) (e : Nat) : State :=
  let x := encoderOf s e
  match x.aon with
  | some v =>
    let s1 := setEncoder s e { x with aon := none }
    if rd s (ex e) 0x02 == x.aonMode && rd s (ex e) 0x03 == x.aonInvert then
      setCause (skipToHigh (wr (wr s1 (ex e) 0x06 v) (ex e) 0x08 v) e) (.encoder e) 4
    else s1
  | none => s

/-! The lifecycle of an encoder (R123). -/

def encHolder (e : Nat) : Nat := 0x0400 + e

def encStart (s : State) (e : Nat) : State :=
  enter (wr (setEncoder s e { encoderOf s e with stopLatched := false }) (ex e) 0x0D 0) (ex e) 0x0C 1

def encEnable (s : State) (e : Nat) : State × Status :=
  match encState s e with
  | 0 =>
    let (s1, ok) := takeClaims s (encHolder e) (if rd s (ex e) 0x05 == 1 then [0x50 + e] else [])
    if ok then (wr (wr (encStart s1 e) (ex e) 0x01 1) (ex e) 0x11 0, .ok)
    else (wr s1 (ex e) 0x11 Status.resourceInUse.code, .resourceInUse)
  | 3 => (wr (wr (wr s (ex e) 0x0D 1) (ex e) 0x01 1) (ex e) 0x11 Status.restartPending.code, .restartPending)
  | _ => (wr (setEncoder s e { encoderOf s e with stopLatched := false }) (ex e) 0x01 1, .ok)

/-- STOPPING; a count still in AON comes over first. -/
def encStop (s : State) (e : Nat) : State :=
  let s1 := fromAon s e
  enter (setEncoder s1 e { encoderOf s1 e with stopLatched := false }) (ex e) 0x0C 3

def encDisable (s : State) (e : Nat) : State × Status :=
  let s1 := wr s (ex e) 0x01 0
  match encState s e with
  | 1 => (setEncoder s1 e { encoderOf s1 e with stopLatched := true }, .ok)
  | 2 => (encStop s1 e, .ok)
  | 3 => (wr s1 (ex e) 0x0D 0, .ok)
  | _ => (s1, .ok)

/-- STARTING ends after 16 ACLK; Direction reads 0 on entry to ON (R464). -/
def encStarted (s : State) (e : Nat) : Option State :=
  if encState s e == 1 && elapsed s (ex e) 0x0C 16000 then
    let s1 := fromAonSleep (setCause (wr (enter s (ex e) 0x0C 2) (ex e) 0x0A 0) (.encoder e) 3) e
    some (if (encoderOf s1 e).stopLatched then encStop s1 e else s1)
  else none

/-- STOPPING ends after 4 ACLK. -/
def encStopped (s : State) (e : Nat) : Option State :=
  if encState s e == 3 && elapsed s (ex e) 0x0C 4000 then
    if rd s (ex e) 0x0D == 1 then some (wr (encStart s e) (ex e) 0x11 0)
    else some (setCause (enter (releaseAll s (encHolder e)) (ex e) 0x0C 0) (.encoder e) 3)
  else none

/-- A write to PositionPreset of an OFF encoder (R123). -/
def positionPreset (s : State) (e v : Nat) : State × Status :=
  if encState s e != 0 then (s, .state)
  else (skipToHigh (wr (wr (wr s (ex e) 0x07 v) (ex e) 0x06 v) (ex e) 0x08 v) e, .ok)

/-- The ACLK counter stops and the AON counter takes its position, with the mode and inversion of that time, and counts on from the levels of the balls (R124, R406). -/
def toAon (s : State) (e : Nat) : State :=
  if encState s e == 2 then
    let x := encoderOf s e
    let a := ballLevel s (levelOfA e) x.a
    let b := ballLevel s (levelOfB e) x.b
    let s1 := setEncoder s e { x with aon := some (encPos s e), aonMode := rd s (ex e) 0x02, aonInvert := rd s (ex e) 0x03 }
    let s2 := { s1 with print := { s1.print with pipe := s1.print.pipe.filter (fun i => (levelOfA e i.kind).isNone && (levelOfB e i.kind).isNone) } }
    aonLevels s2 e (encPos s e) a b
  else s

/-- HANDOFF_TO_AON: an ON encoder's position goes to AON once ACLK has stopped with SYS retained (R124). -/
def handoffToAon (s : State) (e : Nat) : Option State :=
  if domOn s 41 && !sysRuns s && encState s e == 2 && (encoderOf s e).aon.isNone then some (toAon s e) else none

/-- HANDOFF_FROM_AON: ACLK runs again, and the ACLK counter takes the AON value (R124). -/
def handoffFromAon (s : State) (e : Nat) : Option State :=
  if sysRuns s && encState s e == 2 && (encoderOf s e).aon.isSome then some (fromAon s e) else none

/-! Line generators (R128). -/

/-- A bar or camera not OFF, or an enabled trigger, uses the generator. -/
def genInUse (s : State) (g : Nat) : Bool :=
  (List.range 24).any (fun b => barGen s b == g && barState s b != 0) || (List.range 6).any (fun k => camGen s k == g && camState s k != 0)
    || (List.range 24).any (fun t => rd s (tx t) 0x05 == g && rd s (tx t) 0x01 == 1)

def genEnable (s : State) (g v : Nat) : State × Status :=
  if v == 1 then
    if genEnabled s g then (s, .ok)
    else if encState s (genEncoder s g) != 2 then (s, .state)
    else (wr (setGenNext s g (lineAbove s g (encHigh s (genEncoder s g)))) (gx g) 0x01 1, .ok)
  else if genEnabled s g && genInUse s g then (s, .state)
  else (wr s (gx g) 0x01 0, .ok)

/-! Triggers and the product table (R129 to R134). -/

/-- The encoder of a trigger's line generator. -/
def trigEncoder (s : State) (t : Nat) : Nat := genEncoder s (rd s (tx t) 0x05)

/-- The next product_id (R130). -/
def nextId (s : State) : Nat := if s.print.lastId == 0xFFFFFFFF then 1 else s.print.lastId + 1

/-- Slots of the table in use: a record retired in this ACLK holds its own until the next (R133). -/
def liveSlots (s : State) : Nat := s.print.products.length + (if s.print.retiredAt == aclk s + 1 then s.print.retiredNow else 0)

/-- A record created for an accepted edge, with its windows, its serial, its gate entry and its region (R130, R132, R135, R164, R180, R201). -/
def productCreate (s : State) (t pos : Nat) : State :=
  let gate := rd s (tx t) 0x0A
  let due := (pos + rd s (tx t) 0x0B) % 2 ^ 48
  if decide (1024 ≤ liveSlots s) then
    let s1 := setCause (bump s (tx t) 0x13) (.trigger t) 2
    let s2 := setCause (bump s1 0x3200 0x04) .products 0
    if gate ≤ 11 then gateAdd s2 gate due none else s2
  else
    let g := rd s (tx t) 0x05
    let id := nextId s
    let line := wrapInt 32 (lineAtOrAbove s g pos)
    let bars := rd s (tx t) 0x09
    let p : Product := { id := id, lane := rd s (tx t) 0x06, trigger := t, enc := trigEncoder s t, gen := g, pos := pos, line := line, due := bars,
                         gate := gate, duePos := due, retirePos := (pos + rd s (tx t) 0x0C) % 2 ^ 48,
                         printStatus := if bars == 0 then 0 else 1, createdAt := s.now }
    let s1 := { s with print := { s.print with lastId := id, products := s.print.products ++ [p] } }
    let s2 := setCause (wr (wr s1 (tx t) 0x0E pos) (tx t) 0x0F id) (.trigger t) 0
    let s3 := registerWindows s2 id bars line
    let s4 := if rd s (tx t) 0x0D ≤ 31 then serialAllocate s3 id (rd s (tx t) 0x0D) else s3
    let s5 := if gate ≤ 11 then gateAdd s4 gate due (some id) else s4
    regionOpen s5 id

/-- An edge at a position is ignored: below HighWater, or within Lockout of the last accepted edge (R129). -/
def edgeIgnored (pos high lockout : Nat) (accepted : Option Nat) : Bool :=
  decide (posDiff pos high < 0) || (match accepted with
    | some q => decide ((posDiff pos q).natAbs ≤ lockout)
    | none => false)

/-- An edge after the filter, in its ACLK of acceptance (R129). -/
def triggerEdge (s : State) (t : Nat) (rising : Bool) : State :=
  if rd s (tx t) 0x01 != 1 || rising != (rd s (tx t) 0x03 == 0) then s
  else
    let e := trigEncoder s t
    let pos := encPos s e
    if edgeIgnored pos (encHigh s e) (rd s (tx t) 0x08) (tabFind s.print.accepted t) then setCause (bump s (tx t) 0x12) (.trigger t) 1
    else
      let s1 := resyncMark { s with print := { s.print with accepted := tabPut s.print.accepted t pos } } e
      productCreate s1 t (wrapInt 48 ((pos : Int) + signedOf 32 (rd s (tx t) 0x07)))

/-- The bars of BarsDue that fail step 1 of R134: another generator, or a retire too early. -/
def trigBarOk (s : State) (t b : Nat) : Bool :=
  barGen s b == rd s (tx t) 0x05
    && decide ((rd s (bx b 1) 0x01 + rd s (bx b 1) 0x02 + maxStagger s b + 1) * genPitch s (rd s (tx t) 0x05) ≤ rd s (tx t) 0x0C * 2 ^ 32)

/-- The inspection settings of a trigger (R181). -/
def inspOk (s : State) (t : Nat) : Bool :=
  let k := insp s t 0x01
  let gate := rd s (tx t) 0x0A
  decide (genPitch s (camGen s k) ≤ insp s t 0x03 * 2 ^ 32)
    && (decide (11 < gate) || decide (insp s t 0x02 + insp s t 0x03 < rd s (tx t) 0x0B))
    && decide (insp s t 0x04 ≤ insp s t 0x05) && decide (insp s t 0x05 < pixels s k)
    && decide (insp s t 0x06 ≤ 8) && decide (insp s t 0x08 ≤ 40) && decide (insp s t 0x09 ≤ 40)

/-- Steps 1 and 2 of R134. -/
def trigChecks (s : State) (t : Nat) : Status :=
  let gate := rd s (tx t) 0x0A
  let due := rd s (tx t) 0x09
  let cam := insp s t 0x01
  if decide (2 ^ 24 ≤ due) || !((indicesWhere 24 (bitOf due)).all (trigBarOk s t)) || (decide (gate ≤ 11) && rd s (gc gate) 0x02 != trigEncoder s t)
      || decide (rd s (tx t) 0x0C ≤ rd s (tx t) 0x0B) || (decide (cam ≤ 5) && !inspOk s t) then .range
  else if !genEnabled s (rd s (tx t) 0x05) || (decide (cam ≤ 5) && camState s cam != 2) then .state
  else .ok

def trigHolder (t : Nat) : Nat := 0x0300 + t

/-- A write to a trigger's Enable (R134). -/
def trigEnable (s : State) (t v : Nat) : State × Status :=
  let was := rd s (tx t) 0x01
  if v == 1 then
    if was == 1 then (s, .ok)
    else match trigChecks s t with
      | .ok =>
        let (s1, ok) := takeClaims s (trigHolder t) (if rd s (tx t) 0x02 == 0 then [] else [0x50 + (rd s (tx t) 0x02 - 1)])
        if ok then (setCause (wr (wr s1 (tx t) 0x01 1) (tx t) 0x14 0) (.trigger t) 3, .ok)
        else (wr s1 (tx t) 0x14 Status.resourceInUse.code, .resourceInUse)
      | st => (wr s (tx t) 0x14 st.code, st)
  else
    let s1 := wr (releaseAll s (trigHolder t)) (tx t) 0x01 0
    (if was == 1 then setCause s1 (.trigger t) 3 else s1, .ok)

/-- A record retires once its encoder reaches retire_pos: its serial is ledgered and its slot is free (R133, R211). -/
def productRetire (s : State) (id : Nat) : Option State :=
  match findProduct s id with
  | some p =>
    if reached (encSeen s p.enc) p.retirePos then
      let s1 := renderDigest s id true
      let s2 := serialRetire s1 ((findProduct s1 id).getD p)
      let n := if s2.print.retiredAt == aclk s + 1 then s2.print.retiredNow else 0
      some { s2 with print := { s2.print with products := s2.print.products.filter (fun q => q.id != id), retiredAt := aclk s + 1, retiredNow := n + 1 } }
    else none
  | none => none

/-! The print path from ACLK to ACLK. -/

/-- The first ACLK in which something takes effect. -/
def pipeNext (s : State) : Option Nat := s.print.pipe.foldl (fun m i => match m with | some d => some (min d i.due) | none => some i.due) none

/-- What takes effect in ACLK c: the strobes of the ACLK before, then counts, index rises, and accepted edges in ascending trigger order (R20, R129). -/
def pipeStep (s : State) (c : Nat) : State :=
  let now_ := s.print.pipe.filter (fun i => i.due == c)
  let s0 := { s with print := { s.print with pipe := s.print.pipe.filter (fun i => i.due != c) } }
  let level := fun (of : PipeKind → Option Bool) => now_.findSome? (fun i => of i.kind)
  let s1 := now_.foldl (fun x i => match i.kind with | .strobe e pos => strobes x e pos | _ => x) s0
  let s2 := (List.range 4).foldl (fun x e =>
    match level (levelOfA e), level (levelOfB e) with
    | none, none => x
    | a, b => quadTaken x e (a.getD (encoderOf x e).a) (b.getD (encoderOf x e).b)) s1
  let s3 := (List.range 4).foldl (fun x e => match level (levelOfZ e) with | some z => indexEdge x e z | none => x) s2
  (List.range 24).foldl (fun x t => match level (levelOfTrig t) with | some r => triggerEdge (setTrigLevel x t r) t r | none => x) s3

/-- The ACLK of a time. -/
def aclkAt (s : State) (t : Nat) : Nat := (s.power.clockStopAt.getD (max s.now t) - s.power.clockLost) / 1000

/-- What takes effect by a time, each ACLK at its own time, with fuel for each. -/
def pipeRun : Nat → Nat → State → State
  | 0, _, s => s
  | n + 1, t, s =>
    match pipeNext s with
    | some c => if c ≤ aclkAt s t then pipeRun n t (pipeStep { s with now := max s.now (c * 1000 + s.power.clockLost) } c) else s
    | none => s

/-- A command begins at a time: what the print path had in hand takes effect up to that ACLK first. -/
def arrive (t : Nat) (s : State) : State :=
  let x := pipeRun (2 * s.print.pipe.length) t (start s)
  lanesDue { x with now := max x.now t }

/-- A write to ForceReject. -/
def forceReject (s : State) (id : Nat) : State × Status :=
  match findProduct s id with
  | some p => if p.decided then (s, .state) else (setCause (setProduct s { p with forceReject := true }) .products 1, .ok)
  | none => (s, .range)

/-- The 64 bytes of a record (R130). -/
def productBytes (p : Product) : List Byte :=
  leBytes 4 p.id ++ leBytes 1 p.lane ++ leBytes 1 p.trigger ++ leBytes 1 p.printStatus ++ leBytes 1 p.verifyStatus ++ leBytes 8 p.pos
    ++ leBytes 4 p.line ++ leBytes 4 p.serialRef ++ leBytes 4 p.due ++ leBytes 4 p.done ++ leBytes 4 p.incomplete ++ leBytes 1 p.verdict
    ++ leBytes 1 p.gate ++ leBytes 2 (boolNat p.forceReject + 2 * boolNat p.decided + 4 * boolNat p.rejected) ++ leBytes 8 p.duePos
    ++ leBytes 8 p.retirePos ++ List.replicate 8 0

/-! What is lost (R125, R151, R179). -/

/-- The print and verification paths when SYS leaves ON: everything OFF and empty. -/
def printLost (s : State) : State :=
  let s0 := { s with print := { lastId := 0 } }
  let s1 := (List.range 4).foldl (fun x e => wr (wr (wr (releaseAll x (encHolder e)) (ex e) 0x0C 0) (ex e) 0x0D 0) (ex e) 0x01 0) s0
  let s2 := (List.range 4).foldl (fun x g => wr (wr x (gx g) 0x01 0) (gx g) 0x05 0) s1
  let s3 := (List.range 24).foldl (fun x t => wr (releaseAll x (trigHolder t)) (tx t) 0x01 0) s2
  let s4 := (List.range 24).foldl (fun x b =>
    [(0, 0x01), (0, 0x04), (0, 0x05), (2, 0x01), (2, 0x04), (4, 0x03), (4, 0x04), (4, 0x05), (5, 0x03)].foldl (fun y (e : Nat × Nat) => wr y (bx b e.1) e.2 0) (releaseAll x (barHolder b))) s3
  let s5 := (List.range 12).foldl (fun x j => wr (wr x (gc j) 0x01 0) (gc j + 1) 0x02 0) s4
  (List.range 6).foldl (fun x k =>
    [(cc k, 0x01), (cs k, 0x01), (cs k, 0x02), (cs k, 0x04), (cc k, 0x0E), (cs k, 0x0B), (cc k, 0x13)].foldl (fun y (e : Nat × Nat) => wr y e.1 e.2 0) (releaseAll x (camHolder k))) s5

end Sys2Proof.Machine
end

