-- ==== Sys2Proof/Machine/Pair.lean ====
section
/-! DEFINITION. The pair agent: arbitration, the link and its losses, mirrored frames, takeover and resync.
Spec: 08_pair_operation.md R218 to R248. -/

set_option Elab.async false

namespace Sys2Proof.Machine

def setPair (s : State) (x : PairState) : State := { s with pair := x }
def pairEnabled (s : State) : Bool := rd s 0x1300 0x01 == 1
def partnerRole (s : State) : Nat := rd s 0x1301 0x02

/-- Claims of the pair agent: transmitters and receivers of PL0 to PL3 (R379). -/
def pairClaims : List Nat := [36, 37, 38, 39, 76, 77, 78, 79]

/-- This engine's claim to be primary (R229). -/
def claimsPrimary (s : State) : Bool := if rd s 0x1300 0x02 == 0 then s.straps.pairRole else rd s 0x1300 0x03 == 0

/-- Whether this engine wins over a partner (R229). -/
def wins (s : State) (partnerStandby : Bool) (partnerNode : Nat) : Bool :=
  if claimsPrimary s == partnerStandby then claimsPrimary s else decide (nodeId s < partnerNode)

/-- Entry to SOLO: what waits for the partner goes on alone (R202, R228, R232). -/
def enterSolo (s : State) (reason : Nat) : State :=
  let fromPrimary := pairRole s == 2
  let s1 := commitAll (wr (setRole s 4) 0x1307 0x02 reason)
  let s2 := setPair s1 { s1.pair with unanswered := [], mirror := [], ready := s1.pair.ready ++ s1.pair.mirror, digests := [] }
  if fromPrimary then bump s2 0x1306 0x02 else s2

/-- A resync that fails: ORPHANED, with the status (R228, R243). -/
def resyncFail (s : State) (st : Status) : State :=
  setCause (setRole (wr (setResync s 9) 0x1302 0x03 st.code) 5) .pair 6

/-! Enable and arbitration (R220, R228). -/

/-- SINGLE becomes ARBITRATING once a PL lane is started. -/
def pairArbitrate (s : State) : State :=
  if pairEnabled s && pairRole s == 0 && (List.range 4).any (fun i => laneState s (36 + i) != 0) then
    setRole (setPair s { s.pair with expired := false, firmwareKickAt := s.now, txSeq := 0, rxSeq := 0, answers := [], unanswered := [] }) 1
  else s

/-- SYS or a PLL is on its way out of ON, or is not ON: while PairEnable is 1 both stay ON, so a write of 1 is refused (R228; notes/assumptions/163.md). -/
def powerLeaving (s : State) : Bool := s.power.shutdown.isSome || rd s 0x1500 0x01 == 1

/-- A write to PairEnable. The link, its lanes and the sidebands are seen whatever the role, and stay as they are (R221, R226). -/
def pairEnable (s : State) (v : Nat) : State × Status :=
  let r := pairRole s
  if v == 1 then
    if r == 7 then (s, .state)
    else if pairEnabled s then (s, .ok)
    else if powerLeaving s then (s, .state)
    else
      let (s1, ok) := takeClaims s 0x0600 pairClaims
      if ok then (pairArbitrate (wr s1 0x1300 0x01 1), .ok) else (s1, .resourceInUse)
  else
    let s1 := wr s 0x1300 0x01 0
    if r == 7 then (s1, .ok)
    else
      let s2 := commitAll (setRole (sourceFail s1) 0)
      let x := s2.pair
      let s3 := setPair s2 { ready := x.ready ++ x.mirror, heardAt := x.heardAt, sentAt := x.sentAt, frameAt := x.frameAt, ownerBeatAt := x.ownerBeatAt, aliveLow := x.aliveLow, roleLow := x.roleLow, sideCounted := x.sideCounted }
      (setResync (releaseAll s3 0x0600) 0, .ok)

/-- The first 32 bytes of the firmware image's digest. -/
def firmwareDigest (s : State) : List Byte := bytesAt (rdBytes s 0x1020 0x04) 0 32
/-- The payload of HELLO (R224). -/
def helloPayload (s : State) : List Byte :=
  let live := (List.range 24).any (fun b => barState s b == 2) || !allotmentsEmpty s
  leBytes 2 (nodeId s) ++ leBytes 1 (boolNat (!claimsPrimary s)) ++ leBytes 1 (boolNat live) ++ leBytes 4 (rd s 0x1020 0x01) ++ firmwareDigest s ++ List.replicate 8 0

/-- HELLO on every lane (R224). -/
def helloAll (s : State) : State :=
  (List.range 4).foldl (fun x i => if plUp x i then sendPair x i 0x02 0 (helloPayload x) else x) s

/-- HELLO every 1 ms in ARBITRATING and RESYNC. -/
def helloSend (s : State) : Option State :=
  if (pairRole s == 1 || pairRole s == 6) && decide (s.pair.helloAt + psMs ≤ s.now) then
    some (helloAll (setPair s { s.pair with helloAt := s.now }))
  else none

/-- HEARTBEAT on a lane in its data state (R222, R224). -/
def heartbeatSend (s : State) (i : Nat) : Option State :=
  if pairRole s != 0 && plUp s i && decide (tabGet 0 s.pair.sentAt i + 7900000 ≤ s.now) then
    let flags := boolNat (aliveOut s) + 2 * boolNat (pairRole s == 7)
    let p := leBytes 2 (nodeId s) ++ leBytes 2 flags ++ leBytes 4 s.pair.rxSeq ++ List.replicate 8 0
    let s1 := setPair s { s.pair with heartbeats := (s.pair.heartbeats + 1) % 2 ^ 32, sentAt := tabPut s.pair.sentAt i s.now }
    some (sendPair s1 i 0x01 s1.pair.heartbeats p)
  else none

/-- The link has been lost for ArbitrationTimeout, both sidebands are low, and this engine claims primary. -/
def arbitrationExpire (s : State) : Option State :=
  let ps := rd s 0x1300 0x04 * psMs
  if pairRole s == 1 && !linkUp s && elapsed s 0x1301 0x04 ps && elapsed s 0x1301 0x01 ps && rd s 0x1301 0x07 == 0 && rd s 0x1301 0x08 == 0
      && claimsPrimary s then some (enterSolo s 7)
  else none

/-- A write to FirmwareKick (R219). -/
def firmwareKick (s : State) : State := setPair s { s.pair with firmwareKickAt := s.now }

/-- The pair watchdog expires: the agent has stopped kicking it, or a firmware period has passed without a kick (R219, R220). -/
def watchdogExpire (s : State) (agentStopped : Bool) : Option State :=
  let p := rd s 0x1300 0x05
  if pairRole s != 0 && pairRole s != 7 && (agentStopped || (p != 0 && decide (s.pair.firmwareKickAt + p * psMs ≤ s.now))) then some (standDown s)
  else none

/-! Takeover and losses (R228, R239 to R241). -/

/-- Takeover in the ACLK after the condition is met. -/
def takeover (s : State) : State :=
  let s1 := setCause (bump (wr s 0x1307 0x01 (ptpTime s)) 0x1306 0x01) .pair 1
  let s2 := enterSolo { s1 with now := s1.now + 1000 } 6
  serialTakeover (suspectLines s2 s.now)

/-- When a sideband was first sampled low, after a sample of it (R221). -/
def sideSample (was : Option Nat) (level : Bool) (now : Nat) : Option Nat := if level then none else some (was.getD now)

/-- A sideband has been low for 20 µs, counted from its first low sample (R221, R222). -/
def sideLow (s : State) (since : Option Nat) : Bool :=
  match since with
  | some t => decide (t + 20 * psUs ≤ s.now)
  | none => false

/-- A HEARTBEAT of role PRIMARY or SOLO has arrived in the last 20 µs (R239). -/
def ownerBeats (s : State) : Bool :=
  match s.pair.ownerBeatAt with
  | some t => decide (s.now < t + 20 * psUs)
  | none => false

/-- ALIVE_IN and ROLE_IN as sampled (R221). -/
def sideSampled (s : State) (alive role : Bool) : State :=
  setPair (wr (wr s 0x1301 0x07 (boolNat alive)) 0x1301 0x08 (boolNat role))
    { s.pair with aliveLow := sideSample s.pair.aliveLow alive s.now, roleLow := sideSample s.pair.roleLow role s.now, sideCounted := s.pair.sideCounted && !(alive && role) }

/-- SidebandFaults counts a low once, however long it lasts (R239; notes/assumptions/141.md). -/
def sideFault (s : State) : State :=
  if s.pair.sideCounted then s else setCause (bump (setPair s { s.pair with sideCounted := true }) 0x1306 0x08) .pair 7

/-- A sample of the sideband inputs, and what follows from one that has been low for 20 µs (R221, R228, R239). -/
def sidebands (s : State) (alive role : Bool) : State :=
  let s1 := sideSampled s alive role
  let dead := sideLow s1 s1.pair.aliveLow
  let roleDead := sideLow s1 s1.pair.roleLow
  match pairRole s1 with
  | 2 => if dead then enterSolo s1 5 else s1
  | 3 => if (dead || roleDead) && ownerBeats s1 then sideFault s1 else if dead && roleDead then takeover s1 else s1
  | 6 => if dead then resyncFail s1 .state else s1
  | _ => s1

/-- No valid pair frame for 32 µs (R226). -/
def linkLose (s : State) : Option State :=
  if linkUp s && decide (s.pair.frameAt + 32 * psUs ≤ s.now) then some (setCause (showLanes (enter s 0x1301 0x04 0)) .pair 4) else none

/-- The link has been lost for 200 µs (R228). -/
def linkLost200 (s : State) : Option State :=
  if linkUp s || !elapsed s 0x1301 0x04 (200 * psUs) then none
  else match pairRole s with
    | 2 => some (enterSolo s 2)
    | 3 => if rd s 0x1301 0x07 == 1 || rd s 0x1301 0x08 == 1 then some (orphan s 5) else none
    | 6 => some (resyncFail s .timeout)
    | _ => none

/-- An ordered frame has gone unanswered for 200 µs (R228). -/
def answerExpire (s : State) : Option State :=
  if pairRole s == 2 && s.pair.unanswered.any (fun f => decide (f.since + 200 * psUs ≤ s.now)) then some (enterSolo s 1) else none

/-- A lane without a HEARTBEAT for 32 µs drops from LanesUp, and the ordered lane may move (R225). -/
def laneBeatExpire (s : State) (i : Nat) : Option State :=
  match tabFind s.pair.heardAt i with
  | some t => if decide (t + 32 * psUs ≤ s.now) then some (moveOrdered (setPair s { s.pair with heardAt := tabErase s.pair.heardAt i })) else none
  | none => none

/-! Frames received (R223 to R227). -/

/-- The size rule of a frame type (R224): the sizes allowed. -/
def pairSizeOk (kind n : Nat) : Bool :=
  match kind with
  | 0x01 => n == 16
  | 0x02 => n == 48
  | 0x10 => n == 32
  | 0x11 => n == 16
  | 0x12 => decide (9 ≤ n) && decide (n ≤ 8 + 4096)
  | 0x13 => decide (16 ≤ n) && n % 8 == 0
  | 0x14 => n == 344
  | 0x15 => n == 16
  | 0x16 => n == 4
  | 0x17 => n == 24
  | 0x18 => n == 320
  | 0x19 => n == 72
  | 0x1A => n == 0
  | 0x20 => n == 4
  | 0x21 => n == 4
  | 0x30 => decide (9 ≤ n) && decide (n ≤ 8192)
  | _ => false

/-- A frame on lane PLi: discarded where its CRC, its length or its type is wrong (`ok` false) or its size is, or valid: then the link is up and the partner's role is known (R226, R227). -/
def pairValid (s : State) (i kind role : Nat) (p : List Byte) (ok : Bool) : State × Bool :=
  let (s0, deliv) := laneDelivers s (36 + i)
  if !deliv then (s0, false)
  else if !ok || !pairSizeOk kind p.length then (bump s0 0x1306 0x06, false)
  else
    let s1 := setPair s0 { s0.pair with frameAt := s0.now }
    (wr (if linkUp s1 then s1 else setCause (enter s1 0x1301 0x04 1) .pair 4) 0x1301 0x02 role, true)

/-- A valid frame where the engine is in a pair. A joiner whose source leaves SOLO fails, as does a source whose joiner is ORPHANED (R228). -/
def pairArrive (s : State) (i kind role : Nat) (p : List Byte) (ok : Bool) : State × Bool :=
  let was := partnerRole s
  let (s1, go) := pairValid s i kind role p ok
  if !go || pairRole s1 == 0 then (s1, false)
  else if pairRole s1 == 6 && was == 4 && role != 4 then (resyncFail s1 .state, false)
  else if was == 6 && role == 5 then (sourceFail s1, true)
  else (s1, true)

/-- The answer to an ordered frame, on this engine's ordered lane; with none it is sent when the frame is sent again (R224, R225). -/
def pairAnswer (s : State) (seq : Nat) (ack : Bool) (st : Nat) : State :=
  let s1 := setPair s { s.pair with rxSeq := max s.pair.rxSeq seq, answers := tabPut s.pair.answers seq (ack, st) }
  match orderedLane s1 with
  | some i => sendPair s1 i (if ack then 0x20 else 0x21) seq [BitVec.ofNat 8 st, 0, 0, 0]
  | none => s1

/-- An ordered frame: answered again when it was processed before, discarded after a gap, else processed by `f` and answered (R225). -/
def pairOrdered (s : State) (i kind seq role : Nat) (p : List Byte) (ok : Bool) (f : State → State × Bool × Nat) : State :=
  let (s1, go) := pairArrive s i kind role p ok
  if !go then s1
  else if seq ≤ s1.pair.rxSeq then
    match tabFind s1.pair.answers seq with
    | some (a, st) => pairAnswer s1 seq a st
    | none => s1
  else if seq != s1.pair.rxSeq + 1 then s1
  else
    let (s2, ack, st) := f s1
    pairAnswer s2 seq ack st

/-- A received HEARTBEAT: its lane is heard, in whatever role (R224 to R226, R239). -/
def heartbeatReceived (s : State) (i role : Nat) (p : List Byte) (ok : Bool) : State :=
  let (s1, valid) := pairValid s i 0x01 role p ok
  let beat := fun (x : State) => moveOrdered (setPair x { x.pair with heardAt := tabPut x.pair.heardAt i x.now, ownerBeatAt := if role == 2 || role == 4 then some x.now else x.pair.ownerBeatAt })
  if !valid then s1
  else if pairRole s1 == 6 && partnerRole s == 4 && role != 4 then resyncFail (beat s1) .state
  else if partnerRole s == 6 && role == 5 then sourceFail (beat s1)
  else beat s1

/-- A received HELLO (R228, R243). -/
def helloReceived (s : State) (i role : Nat) (p : List Byte) (ok : Bool) : State :=
  let valid := (pairValid s i 0x02 role p ok).2
  let (s0, go) := pairArrive s i 0x02 role p ok
  let s1 := if valid then wr s0 0x1301 0x03 (leAt p 0 2) else s0
  if !go then s1
  else
    let s2 := s1
    let same := leAt p 4 4 == rd s2 0x1020 0x01 && bytesAt p 8 32 == firmwareDigest s2
    let join := fun (x : State) => setPair (setRole (wr (setResync x 1) 0x1302 0x03 0) 6) { x.pair with resyncAt := x.now, aligned := [], marks := [], latched := [], sinceCut := [], passChunks := [] }
    match pairRole s2 with
    | 1 =>
      if role == 2 || role == 4 then join s2
      else if !same then setCause s2 .pair 5
      else if role != 1 then s2
      else if wins s2 (leAt p 2 1 == 1) (leAt p 0 2) then enterSolo s2 7
      else join s2
    | 6 =>
      if role == 4 && resyncState s2 == 1 then (if same then setResync s2 2 else resyncFail s2 .state) else s2
    | 4 =>
      if role == 6 then
        let s3 := if resyncState s2 == 0 || decide (8 ≤ resyncState s2) then setPair (setResync s2 2) { s2.pair with resyncAt := s2.now, precopied := none } else s2
        if plUp s3 i then sendPair s3 i 0x02 0 (helloPayload s3) else s3
      else s2
    | _ => s2

/-- The frame that an ACK or NAK answers is answered; what waits on it goes on (R202, R204, R225, R232). -/
def answered_ (s : State) (seq : Nat) (ack : Bool) (st : Nat) : State :=
  let s1 := setPair s { s.pair with unanswered := s.pair.unanswered.filter (fun f => f.seq != seq) }
  let ready := s1.pair.mirror.filter (fun m => m.seq == seq)
  let s2 := setPair s1 { s1.pair with mirror := s1.pair.mirror.filter (fun m => m.seq != seq), ready := s1.pair.ready ++ ready.map (fun m => { m with acked := if ack then some st else none }) }
  serialAnswered s2 seq ack

def ackReceived (s : State) (i seq role : Nat) (p : List Byte) (ok : Bool) : State :=
  let (s1, go) := pairArrive s i 0x20 role p ok
  if go then answered_ s1 seq true (leAt p 0 1) else s1

/-- A NAK refuses the commit, and the primary goes to SOLO (R202, R228). -/
def nakReceived (s : State) (i seq role : Nat) (p : List Byte) (ok : Bool) : State :=
  let (s1, go) := pairArrive s i 0x21 role p ok
  if !go then s1
  else
    let s2 := answered_ s1 seq false 0
    if pairRole s2 == 2 then enterSolo s2 3 else s2

/-- A COMMIT: checked by the standby; a joiner keeps it for its restore (R204, R243). -/
def commitFrame (s : State) (i seq role : Nat) (p : List Byte) (ok : Bool) : State :=
  let s1 := pairOrdered s i 0x10 seq role p ok (fun x =>
    match pairRole x with
    | 3 => let (y, good) := commitReceived x p; (y, good, 0)
    | 6 => (setPair x { x.pair with sinceCut := x.pair.sinceCut ++ [(0x10, p)] }, true, 0)
    | _ => (x, true, 0))
  match tabFind s1.pair.answers seq with
  | some (false, _) => if pairRole s1 == 3 then orphan s1 1 else s1
  | _ => s1

def reserveFrame (s : State) (i seq role : Nat) (p : List Byte) (ok : Bool) : State :=
  pairOrdered s i 0x11 seq role p ok (fun x =>
    match pairRole x with
    | 3 => (reserveReceived x p, true, 0)
    | 6 => (setPair x { x.pair with sinceCut := x.pair.sinceCut ++ [(0x11, p)] }, true, 0)
    | _ => (x, true, 0))

/-- MAP_SWITCH: its entries are collected, and the last frame applies the change; too late, the standby is ORPHANED (R236). -/
def mapSwitchApply (s : State) (p : List Byte) : State × Bool :=
  let b := leAt p 0 1
  let m := leAt p 2 2
  let line := leAt p 4 4
  let es := (List.range m).map (fun j => (leAt p (8 + 8 * j) 4, leAt p (12 + 8 * j) 4))
  let all := s.pair.mapEntries ++ es
  if leAt p 1 1 % 2 == 0 then (setPair s { s.pair with mapEntries := all }, false)
  else
    let s1 := setPair s { s.pair with mapEntries := [] }
    if decide (23 < b) then (s1, false)
    else if decide (0 ≤ lineDiff (genLine s1 (barGen s1 b)) line) then (s1, true)
    else (mapWrite s1 b line (all.foldl (fun t e => tabPut t e.1 e.2) []), false)

def mapSwitchFrame (s : State) (i seq role : Nat) (p : List Byte) (ok : Bool) : State :=
  let late := pairRole s == 3 && seq == s.pair.rxSeq + 1 && ok && pairSizeOk 0x13 p.length && (mapSwitchApply s p).2
  let s1 := pairOrdered s i 0x13 seq role p ok (fun x => if pairRole x == 3 || pairRole x == 6 then ((mapSwitchApply x p).1, true, 0) else (x, true, 0))
  if late && s1.pair.rxSeq == seq then orphan s1 3 else s1

def checkpointStateFrame (s : State) (i seq role : Nat) (p : List Byte) (ok : Bool) : State :=
  pairOrdered s i 0x14 seq role p ok (fun x => if pairRole x == 3 || pairRole x == 6 then (checkpointStateReceived x p, true, 0) else (x, true, 0))

def digestFrame (s : State) (i seq role : Nat) (p : List Byte) (ok : Bool) : State :=
  pairOrdered s i 0x15 seq role p ok (fun x => (if pairRole x == 2 || pairRole x == 3 then digestNote x 1 p else x, true, 0))

/-- ORPHAN makes a PRIMARY SOLO; one that a PRIMARY sends, whose status of a mirrored write differs, makes the standby ORPHANED (R228, R232). -/
def orphanFrame (s : State) (i seq role : Nat) (p : List Byte) (ok : Bool) : State :=
  let s1 := pairOrdered s i 0x16 seq role p ok (fun x => (if pairRole x == 2 then enterSolo x 4 else x, true, 0))
  if pairRole s1 == 3 && s.pair.rxSeq + 1 == seq && s1.pair.rxSeq == seq then orphan s1 (leAt p 0 1) else s1

/-- A write of 1 to ResyncRequest. -/
def resyncRequest (s : State) : State × Status :=
  if pairRole s == 5 && partnerRole s == 4 then
    (setPair (setRole (wr (setResync s 1) 0x1302 0x03 0) 6) { s.pair with resyncAt := s.now, aligned := [], marks := [], latched := [], sinceCut := [], passChunks := [] }, .ok)
  else (s, .state)

/-- The pair agent when SYS leaves ON. -/
def pairLost (s : State) : State :=
  let s1 := setRole (setPair s {}) 0
  [(0x1301, 0x03), (0x1301, 0x04), (0x1301, 0x05), (0x1302, 0x02), (0x1302, 0x03), (0x1302, 0x0A)].foldl (fun x (e : Nat × Nat) => wr x e.1 e.2 0)
    (wr (wr (releaseAll s1 0x0600) 0x1301 0x02 0xFF) 0x1301 0x06 0xFF)

end Sys2Proof.Machine
end

