-- ==== Sys2Proof/Machine/Rv32.lean ====
section
/-! DEFINITION. The encodings of RV32IMFC and what its integer and floating-point operations compute.
Spec: 09_peg_cores.md R249 names the RISC-V unprivileged specification; PRESUMED: its encodings and results (notes/assumptions/20.md). -/

set_option Elab.async false

namespace Sys2Proof.Machine

/-! Fields. -/

def rvOp (w : Nat) : Nat := bitsOf w 0 7
def rvRd (w : Nat) : Nat := bitsOf w 7 5
def rvF3 (w : Nat) : Nat := bitsOf w 12 3
def rvRs1 (w : Nat) : Nat := bitsOf w 15 5
def rvRs2 (w : Nat) : Nat := bitsOf w 20 5
def rvF7 (w : Nat) : Nat := bitsOf w 25 7
def rvRs3 (w : Nat) : Nat := bitsOf w 27 5

/-- A two's complement value of `n` bits as a 32-bit word. -/
def sext (n v : Nat) : Nat := wrapInt 32 (signedOf n v)

def immI (w : Nat) : Nat := sext 12 (bitsOf w 20 12)
def immS (w : Nat) : Nat := sext 12 (bitsOf w 7 5 + bitsOf w 25 7 <<< 5)
def immB (w : Nat) : Nat := sext 13 (bitsOf w 8 4 <<< 1 + bitsOf w 25 6 <<< 5 + bitsOf w 7 1 <<< 11 + bitsOf w 31 1 <<< 12)
def immU (w : Nat) : Nat := bitsOf w 12 20 <<< 12
def immJ (w : Nat) : Nat := sext 21 (bitsOf w 21 10 <<< 1 + bitsOf w 20 1 <<< 11 + bitsOf w 12 8 <<< 12 + bitsOf w 31 1 <<< 20)

/-- A sum of words. -/
def addW (a b : Nat) : Nat := (a + b) % 2 ^ 32

/-! The compressed forms, each as the 32-bit instruction it stands for. -/

def encR (f7 rs2 rs1 f3 rd op : Nat) : Nat := op ||| rd <<< 7 ||| f3 <<< 12 ||| rs1 <<< 15 ||| rs2 <<< 20 ||| f7 <<< 25
def encI (imm rs1 f3 rd op : Nat) : Nat := op ||| rd <<< 7 ||| f3 <<< 12 ||| rs1 <<< 15 ||| (imm % 2 ^ 12) <<< 20
def encS (imm rs2 rs1 f3 op : Nat) : Nat := op ||| bitsOf imm 0 5 <<< 7 ||| f3 <<< 12 ||| rs1 <<< 15 ||| rs2 <<< 20 ||| bitsOf imm 5 7 <<< 25
def encB (imm rs2 rs1 f3 : Nat) : Nat :=
  0x63 ||| bitsOf imm 11 1 <<< 7 ||| bitsOf imm 1 4 <<< 8 ||| f3 <<< 12 ||| rs1 <<< 15 ||| rs2 <<< 20 ||| bitsOf imm 5 6 <<< 25 ||| bitsOf imm 12 1 <<< 31
def encJ (imm rd : Nat) : Nat :=
  0x6F ||| rd <<< 7 ||| bitsOf imm 12 8 <<< 12 ||| bitsOf imm 11 1 <<< 20 ||| bitsOf imm 1 10 <<< 21 ||| bitsOf imm 20 1 <<< 31

/-- Quadrant 0. -/
def expandC0 (h : Nat) : Option Nat :=
  let rd := 8 + bitsOf h 2 3
  let rs := 8 + bitsOf h 7 3
  let off := bitsOf h 6 1 <<< 2 + bitsOf h 10 3 <<< 3 + bitsOf h 5 1 <<< 6
  match bitsOf h 13 3 with
  | 0 =>
    let imm := bitsOf h 6 1 <<< 2 + bitsOf h 5 1 <<< 3 + bitsOf h 11 2 <<< 4 + bitsOf h 7 4 <<< 6
    if imm == 0 then none else some (encI imm 2 0 rd 0x13)
  | 2 => some (encI off rs 2 rd 0x03)
  | 3 => some (encI off rs 2 rd 0x07)
  | 6 => some (encS off rd rs 2 0x23)
  | 7 => some (encS off rd rs 2 0x27)
  | _ => none

/-- The jump offset of C.J and C.JAL. -/
def offCJ (h : Nat) : Nat :=
  sext 12 (bitsOf h 3 3 <<< 1 + bitsOf h 11 1 <<< 4 + bitsOf h 2 1 <<< 5 + bitsOf h 7 1 <<< 6 + bitsOf h 6 1 <<< 7 + bitsOf h 9 2 <<< 8 + bitsOf h 8 1 <<< 10 + bitsOf h 12 1 <<< 11)

/-- The branch offset of C.BEQZ and C.BNEZ. -/
def offCB (h : Nat) : Nat :=
  sext 9 (bitsOf h 3 2 <<< 1 + bitsOf h 10 2 <<< 3 + bitsOf h 2 1 <<< 5 + bitsOf h 5 2 <<< 6 + bitsOf h 12 1 <<< 8)

/-- Quadrant 1. -/
def expandC1 (h : Nat) : Option Nat :=
  let rd := bitsOf h 7 5
  let imm6 := sext 6 (bitsOf h 2 5 + bitsOf h 12 1 <<< 5)
  let rp := 8 + bitsOf h 7 3
  let r2 := 8 + bitsOf h 2 3
  match bitsOf h 13 3 with
  | 0 => some (encI imm6 rd 0 rd 0x13)
  | 1 => some (encJ (offCJ h) 1)
  | 2 => some (encI imm6 0 0 rd 0x13)
  | 3 =>
    if rd == 2 then
      let imm := sext 10 (bitsOf h 6 1 <<< 4 + bitsOf h 2 1 <<< 5 + bitsOf h 5 1 <<< 6 + bitsOf h 3 2 <<< 7 + bitsOf h 12 1 <<< 9)
      if imm == 0 then none else some (encI imm 2 0 2 0x13)
    else if imm6 == 0 then none else some (0x37 + rd <<< 7 + (imm6 % 2 ^ 20) <<< 12)
  | 4 =>
    let sh := bitsOf h 2 5
    match bitsOf h 10 2 with
    | 0 => if bitOf h 12 then none else some (encR 0 sh rp 5 rp 0x13)
    | 1 => if bitOf h 12 then none else some (encR 0x20 sh rp 5 rp 0x13)
    | 2 => some (encI imm6 rp 7 rp 0x13)
    | _ =>
      if bitOf h 12 then none
      else
        match bitsOf h 5 2 with
        | 0 => some (encR 0x20 r2 rp 0 rp 0x33)
        | 1 => some (encR 0 r2 rp 4 rp 0x33)
        | 2 => some (encR 0 r2 rp 6 rp 0x33)
        | _ => some (encR 0 r2 rp 7 rp 0x33)
  | 5 => some (encJ (offCJ h) 0)
  | 6 => some (encB (offCB h) 0 rp 0)
  | _ => some (encB (offCB h) 0 rp 1)

/-- Quadrant 2. -/
def expandC2 (h : Nat) : Option Nat :=
  let rd := bitsOf h 7 5
  let rs2 := bitsOf h 2 5
  let offL := bitsOf h 4 3 <<< 2 + bitsOf h 12 1 <<< 5 + bitsOf h 2 2 <<< 6
  let offS := bitsOf h 9 4 <<< 2 + bitsOf h 7 2 <<< 6
  match bitsOf h 13 3 with
  | 0 => if bitOf h 12 then none else some (encR 0 rs2 rd 1 rd 0x13)
  | 2 => if rd == 0 then none else some (encI offL 2 2 rd 0x03)
  | 3 => some (encI offL 2 2 rd 0x07)
  | 4 =>
    if !bitOf h 12 then
      (if rs2 == 0 then (if rd == 0 then none else some (encI 0 rd 0 0 0x67)) else some (encR 0 rs2 0 0 rd 0x33))
    else if rs2 == 0 then (if rd == 0 then some 0x00100073 else some (encI 0 rd 0 1 0x67))
    else some (encR 0 rs2 rd 0 rd 0x33)
  | 6 => some (encS offS rs2 2 2 0x23)
  | 7 => some (encS offS rs2 2 2 0x27)
  | _ => none

/-- The 32-bit instruction that a 16-bit one stands for; none is illegal. -/
def expandC (h : Nat) : Option Nat :=
  match bitsOf h 0 2 with
  | 0 => expandC0 h
  | 1 => expandC1 h
  | 2 => expandC2 h
  | _ => none

/-! Integer operations. -/

def s32 (v : Nat) : Int := signedOf 32 v

/-- An ALU operation by funct3, with the alternate of bit 30. -/
def aluOp (f3 : Nat) (alt : Bool) (a b : Nat) : Nat :=
  let sh := b % 32
  match f3 with
  | 0 => if alt then (a + 2 ^ 32 - b) % 2 ^ 32 else addW a b
  | 1 => (a <<< sh) % 2 ^ 32
  | 2 => boolNat (decide (s32 a < s32 b))
  | 3 => boolNat (decide (a < b))
  | 4 => a ^^^ b
  | 5 => if alt then wrapInt 32 (s32 a / 2 ^ sh) else a >>> sh
  | 6 => a ||| b
  | _ => a &&& b

/-- Multiplication and division; division by zero and overflow as the unprivileged specification gives them. -/
def mulDiv (f3 a b : Nat) : Nat :=
  match f3 with
  | 0 => (a * b) % 2 ^ 32
  | 1 => wrapInt 32 (s32 a * s32 b / 2 ^ 32)
  | 2 => wrapInt 32 (s32 a * (b : Int) / 2 ^ 32)
  | 3 => (a * b) >>> 32
  | 4 => if b == 0 then 0xFFFFFFFF else wrapInt 32 (Int.tdiv (s32 a) (s32 b))
  | 5 => if b == 0 then 0xFFFFFFFF else a / b
  | 6 => if b == 0 then a else wrapInt 32 (Int.tmod (s32 a) (s32 b))
  | _ => if b == 0 then a else a % b

/-- Whether a branch is taken; none is a reserved funct3. -/
def branchTaken (f3 a b : Nat) : Option Bool :=
  match f3 with
  | 0 => some (a == b)
  | 1 => some (a != b)
  | 4 => some (decide (s32 a < s32 b))
  | 5 => some (decide (s32 b ≤ s32 a))
  | 6 => some (decide (a < b))
  | 7 => some (decide (b ≤ a))
  | _ => none

/-! Floating-point operations: each gives its result and the flags it accrues. -/

def fw (v : Nat) : Word := BitVec.ofNat 32 v
def fv (v : Nat) : FpVal := fpUnpack (fw v)

/-- The rounding mode of an instruction field and frm; none is reserved. -/
def fpMode (rm frm : Nat) : Option FpMode :=
  match if rm == 7 then frm else rm with
  | 0 => some .rne
  | 1 => some .rtz
  | 2 => some .rdn
  | 3 => some .rup
  | 4 => some .rmm
  | _ => none

def fpOut (p : Word × Nat) : Nat × Nat := (p.1.toNat, p.2)

/-- FMIN and FMAX: the other operand of a NaN, -0 below +0. -/
def fpMinMaxRv (isMax : Bool) (a b : Nat) : Nat × Nat :=
  let x := fv a
  let y := fv b
  let nv := if fpIsSNaN x || fpIsSNaN y then fpNV else 0
  if fpIsNaN x && fpIsNaN y then (0x7FC00000, nv)
  else if fpIsNaN x then (b, nv)
  else if fpIsNaN y then (a, nv)
  else
    let less := match fpCmp x y with
      | .lt => true
      | .gt => false
      | .eq => bitOf a 31 && !bitOf b 31
    (if less == isMax then b else a, nv)

/-- FEQ (2), FLT (1) and FLE (0). -/
def fpCompare (f3 a b : Nat) : Nat × Nat :=
  let x := fv a
  let y := fv b
  if fpIsNaN x || fpIsNaN y then (0, if f3 != 2 || fpIsSNaN x || fpIsSNaN y then fpNV else 0)
  else
    let c := fpCmp x y
    (boolNat (match f3 with | 2 => decide (c = .eq) | 1 => decide (c = .lt) | _ => decide (c ≠ .gt)), 0)

/-- FCLASS. -/
def fpClass (a : Nat) : Nat :=
  match fv a with
  | .nan sig => if sig then 0x100 else 0x200
  | .inf neg => if neg then 0x001 else 0x080
  | .fin neg m _ =>
    if m == 0 then (if neg then 0x008 else 0x010)
    else if bitsOf a 23 8 == 0 then (if neg then 0x004 else 0x020)
    else if neg then 0x002 else 0x040

/-- FCVT.W.S and FCVT.WU.S: out of range gives the limit and NV. -/
def fpToWord (md : FpMode) (unsigned : Bool) (a : Nat) : Nat × Nat :=
  let lo : Int := if unsigned then 0 else -2147483648
  let hi : Int := if unsigned then 4294967295 else 2147483647
  match fv a with
  | .nan _ => (wrapInt 32 hi, fpNV)
  | .inf neg => (wrapInt 32 (if neg then lo else hi), fpNV)
  | .fin neg m e =>
    let (x, inx) := fpToInt md neg m e
    if x < lo then (wrapInt 32 lo, fpNV) else if hi < x then (wrapInt 32 hi, fpNV) else (wrapInt 32 x, if inx then fpNX else 0)

/-- FCVT.S.W and FCVT.S.WU. -/
def fpFromWord (md : FpMode) (unsigned : Bool) (a : Nat) : Nat × Nat :=
  let (n, m, e) := fpOfInt (if unsigned then (a : Int) else s32 a)
  fpOut (fpRound md n m e)

/-- The fused forms by opcode 0x43, 0x47, 0x4B and 0x4F. -/
def fpFused (op : Nat) (md : FpMode) (a b c : Nat) : Nat × Nat :=
  let x := if op == 0x4B || op == 0x4F then fpNegVal (fv a) else fv a
  let z := if op == 0x47 || op == 0x4F then fpNegVal (fv c) else fv c
  fpOut (fpFinish md (fpFmaExact md x (fv b) z))

end Sys2Proof.Machine
end

