-- ==== Sys2Proof/Machine/Sched.lean ====
section
/-! DEFINITION. Event grants, inboxes and emergency messages; tasks, offers, the dispatch protocol, delay lists, interval timers and the trace.
Spec: 10_events_and_scheduler.md R284 to R307; 13_object_dictionary.md R387, R391. -/

set_option Elab.async false

namespace Sys2Proof.Machine

def setSched (s : State) (x : SchedState) : State := { s with sched := x }

def taskOf (s : State) (t : Nat) : Task := tabGet {} s.sched.tasks t
def setTask (s : State) (t : Nat) (x : Task) : State := setSched s { s.sched with tasks := tabSet {} s.sched.tasks t x }

/-- The scheduler's NCLK count (R306). -/
def schedClock (s : State) : Nat := nclk s - s.sched.clockFrom

/-- 0 OFF, 1 RESET, 2 RUNNING, 3 HALTED, 4 DOUBLE_FAULT (R283). -/
def coreState (s : State) (n : Nat) : Nat := rd s (0x5801 + 2 * n) 0x01

/-! The trace. -/

/-- The trace stops (R307). -/
def traceStop (s : State) : State := setCause (wr s 0x1607 0x04 2) .sched 7

/-- An entry of the trace (R306). -/
def traceEntry (s : State) (kind core task prio detail : Nat) : Nat :=
  detail % 2 ^ 11 ||| (prio % 32) <<< 11 ||| (task % 512) <<< 16 ||| (core % 8) <<< 25 ||| kind <<< 28 ||| (schedClock s % 2 ^ 32) <<< 32

/-- An entry is one of a grant: an EVENT, or a POST of an event (R288, R306). -/
def traceOfGrant (e : Nat) : Bool := bitsOf e 28 4 == 8 || (bitsOf e 28 4 == 7 && bitsOf e 0 11 != 0x7FF)

/-- An entry placed: one of a grant before the scheduler's entries of its NCLK, any other last (R306). -/
def tracePlace (l : List Nat) (e : Nat) : List Nat :=
  if traceOfGrant e then
    let later := (l.reverse.takeWhile (fun x => bitsOf x 32 32 == bitsOf e 32 32 && !traceOfGrant x)).length
    l.take (l.length - later) ++ e :: l.drop (l.length - later)
  else l ++ [e]

/-- The newest 4,096 entries. -/
def traceWrap (l : List Nat) (e : Nat) : List Nat := if l.length < 4096 then tracePlace l e else (tracePlace l e).drop 1

/-- A grant's entry that comes after the trace has stopped in its NCLK with an entry of the scheduler: it is recorded ahead of those, and the last of them is not (R306, R307). -/
def traceLate (l : List Nat) (e : Nat) : List Nat :=
  match l.getLast? with
  | some x => if traceOfGrant e && !traceOfGrant x && bitsOf x 32 32 == bitsOf e 32 32 then (tracePlace l e).take l.length else l
  | none => l

/-- An entry recorded as TraceMode sets (R307). -/
def trace (s : State) (kind core task prio detail : Nat) : State :=
  let e := traceEntry s kind core task prio detail
  if rd s 0x1607 0x04 != 1 then setSched s { s.sched with trace := traceLate s.sched.trace e }
  else
    match rd s 0x1607 0x01 with
    | 1 => setSched s { s.sched with trace := traceWrap s.sched.trace e }
    | 2 =>
      let s1 := setSched s { s.sched with trace := tracePlace s.sched.trace e }
      if s1.sched.trace.length < 4096 then s1 else traceStop s1
    | 3 =>
      let s1 := setSched s { s.sched with trace := traceWrap s.sched.trace e, traceLeft := s.sched.traceLeft.map (fun n => n - 1) }
      if s1.sched.traceLeft == some 0 then traceStop s1 else s1
    | _ => s

/-- TraceMode written: the trace is empty (R307). -/
def traceModeWrite (s : State) (v : Nat) : State :=
  let s1 := wr (wr s 0x1607 0x01 v) 0x1607 0x04 (if v == 0 then 0 else 1)
  setSched s1 { s1.sched with trace := [], traceLeft := none }

/-- The grant of the trigger event starts the post-trigger count (R307). -/
def traceTrigger (s : State) (e : Nat) : State :=
  if rd s 0x1607 0x01 == 3 && rd s 0x1607 0x04 == 1 && s.sched.traceLeft == none && rd s 0x1607 0x02 == e then
    let n := rd s 0x1607 0x03
    let s1 := setSched s { s.sched with traceLeft := some n }
    if n == 0 then traceStop s1 else s1
  else s

/-! Lists. -/

def readyList (s : State) (p : Nat) : List Nat := tabGet [] s.sched.ready p
def setReadyList (s : State) (p : Nat) (l : List Nat) : State := setSched s { s.sched with ready := tabSet [] s.sched.ready p l }
def delayList (s : State) (k : Nat) : List Nat := tabGet [] s.sched.delayed k
def setDelayList (s : State) (k : Nat) (l : List Nat) : State := setSched s { s.sched with delayed := tabSet [] s.sched.delayed k l }
def offerOf (s : State) (n : Nat) : Option Offer := tabFind s.sched.offers n
def runningOf (s : State) (n : Nat) : Option Nat := tabFind s.sched.running n
def setOffer (s : State) (n : Nat) (o : Option Offer) : State :=
  setSched s { s.sched with offers := match o with | some x => tabPut s.sched.offers n x | none => tabErase s.sched.offers n }
def setRunning (s : State) (n : Nat) (t : Option Nat) : State :=
  setSched s { s.sched with running := match t with | some x => tabPut s.sched.running n x | none => tabErase s.sched.running n }

/-- A task READY at the tail of its priority's list. -/
def readyTail (s : State) (t : Nat) : State :=
  let x := taskOf s t
  setReadyList (setTask s t { x with st := 2 }) x.prio (readyList s x.prio ++ [t])

/-- A task READY at the head of its priority's list. -/
def readyHead (s : State) (t : Nat) : State :=
  let x := taskOf s t
  setReadyList (setTask s t { x with st := 2 }) x.prio (t :: readyList s x.prio)

/-- The core that a task is offered to. -/
def offeredCore (s : State) (t : Nat) : Option Nat :=
  (List.range 8).find? (fun n => match offerOf s n with | some o => o.task == t | none => false)

/-- A task removed from the ready and delay lists. -/
def unlist (s : State) (t : Nat) : State :=
  let x := taskOf s t
  let s1 := setReadyList s x.prio ((readyList s x.prio).filter (fun u => u != t))
  if x.list == 0xFF then s1
  else setTask (setDelayList s1 x.list ((delayList s1 x.list).filter (fun u => u != t))) t { x with list := 0xFF }

/-! Eligibility (R298). -/

/-- Core n is eligible. -/
def eligible (s : State) (n : Nat) : Bool :=
  coreState s n == 2 && bitOf (rd s 0x1600 0x02) n && bitOf (rd s 0x1600 0x01) n

/-- The eligible cores that a task may use. -/
def taskCores (s : State) (t : Nat) : List Nat :=
  let x := taskOf s t
  indicesWhere 8 (fun n => bitOf x.affinity n && eligible s n && (!(x.preempted && x.sticky && x.bound) || x.ran == n))

/-- DrainedCores (R305). -/
def drainedCores (s : State) : Nat :=
  (List.range 8).foldl (fun a n => setBit a n (!eligible s n && (offerOf s n).isNone && (runningOf s n).isNone)) 0

/-- READY tasks with no core. -/
def stuckTasks (s : State) : List Nat :=
  ((List.range 32).flatMap (readyList s)).filter (fun t => (taskCores s t).isEmpty)

/-- After a change: DrainedCores and the tasks without a core, and the causes of each bit or task that is new (R298, R305). -/
def schedSettle (s : State) : State :=
  let d := drainedCores s
  let newly := (List.range 8).any (fun n => bitOf d n && !bitOf (rd s 0x1600 0x03) n)
  let s1 := wr s 0x1600 0x03 d
  let s2 := if newly then setCause s1 .sched 5 else s1
  let stuck := stuckTasks s2
  let s3 := if stuck.any (fun t => !s2.sched.unrunnable.contains t) then setCause s2 .sched 4 else s2
  setSched s3 { s3.sched with unrunnable := stuck }

/-! Offers. -/

/-- An offer withdrawn: its task is READY at the head, and the reason is traced (R296). -/
def withdraw (s : State) (n kind detail : Nat) : State :=
  match offerOf s n with
  | none => s
  | some o => trace (readyHead (setOffer s n none) o.task) kind n o.task (taskOf s o.task).prio detail

/-- The largest of the numbers that a test gives, and the lowest core among equals. -/
def bestCore (cs : List Nat) (f : Nat → Option Nat) : Option Nat :=
  (cs.foldl (fun (a : Option (Nat × Nat)) n =>
    match f n, a with
    | some p, some b => if decide (b.2 < p) then some (n, p) else a
    | some p, none => some (n, p)
    | none, _ => a) none).map (fun x => x.1)

/-- The core that a READY task is offered to (R298). -/
def chooseCore (s : State) (t : Nat) : Option Nat :=
  let cs := taskCores s t
  let p := (taskOf s t).prio
  let above := fun (q : Nat) => if decide (p < q) then some q else none
  ((cs.find? (fun n => (runningOf s n).isNone && (offerOf s n).isNone)).orElse fun _ =>
    bestCore cs (fun n => if (offerOf s n).isSome then none else (runningOf s n).bind (fun u => above (taskOf s u).prio))).orElse fun _ =>
    bestCore cs (fun n => (offerOf s n).bind (fun o => above (taskOf s o.task).prio))

/-- The first task that can be offered, in order of priority and list, with its core (R298). -/
def nextOffer (s : State) : Option (Nat × Nat) :=
  ((List.range 32).flatMap (readyList s)).findSome? (fun t => (chooseCore s t).map (fun n => (t, n)))

/-- An offer placed, at most one in 4 NCLK; a displaced offer's task goes back to the head of its list (R298, R299). -/
def taskOffer (s : State) : Option State :=
  if !sysRuns s || decide (nclk s + 1 < s.sched.offerAt + 4) && s.sched.offerAt != 0 then none
  else
    match nextOffer s with
    | none => none
    | some (t, n) =>
      let displaces := (offerOf s n).isSome
      let s1 := withdraw s n 9 0
      let x := taskOf s1 t
      let s2 := setTask (setReadyList s1 x.prio ((readyList s1 x.prio).filter (fun u => u != t))) t { x with st := 3 }
      let s3 := setOffer s2 n (some { task := t, since := nclk s })
      let s4 := setSched s3 { s3.sched with offerAt := nclk s + 1 }
      some (schedSettle (trace s4 0 n t x.prio (boolNat (runningOf s n).isSome + 2 * boolNat displaces)))

/-- An offer not accepted within DispatchTimeout NCLK is withdrawn (R301). -/
def dispatchTimeout (s : State) (n : Nat) : Option State :=
  match offerOf s n with
  | none => none
  | some o =>
    if decide (nclk s < o.since + rd s 0x1600 0x06) then none
    else some (schedSettle (withdraw (setCause (bump s 0x1600 0x09) .sched 0) n 0xA 0))

/-- gtask of a core (R299). -/
def gtask (s : State) (n : Nat) : Nat :=
  match offerOf s n, runningOf s n with
  | some o, r => o.task + (taskOf s o.task).prio <<< 16 + boolNat r.isSome <<< 30 + 1 <<< 31
  | none, some t => t + (taskOf s t).prio <<< 16
  | none, none => 0

/-- DISPATCH and EVENT of a core: mip bits 16 and 17 (R280, R291, R299). -/
def mip (s : State) (n : Nat) : Nat :=
  boolNat (offerOf s n).isSome <<< 16 ||| boolNat (!(tabGet [] s.sched.inbox n).isEmpty) <<< 17

/-! Posts and commands. -/

/-- A refused or dropped command counted (R297, R300). -/
def commandRefused (s : State) : State := setCause (bump s 0x1600 0x0D) .sched 6

/-- A task posted; the detail is that of the POST entry (R297, R306). -/
def taskPost (s : State) (t detail : Nat) : State :=
  let x := taskOf s t
  let s0 := trace s 7 0 t x.prio detail
  match x.st with
  | 0 => commandRefused s
  | 1 => schedSettle (readyTail s0 t)
  | 5 =>
    if x.postWakes then schedSettle (trace (readyTail (unlist s0 t) t) 6 0 t x.prio 5)
    else if decide (x.posts < 65535) then setTask s0 t { x with posts := x.posts + 1 } else setCause (bump s0 0x1600 0x0B) .sched 2
  | _ => if decide (x.posts < 65535) then setTask s0 t { x with posts := x.posts + 1 } else setCause (bump s0 0x1600 0x0B) .sched 2

/-- TaskSetup (R295). -/
def taskSetup (s : State) (v : Nat) : State × Status :=
  let t := bitsOf v 0 9
  let x := taskOf s t
  if bitsOf v 9 7 != 0 || bitsOf v 21 3 != 0 || decide (2 ^ 35 ≤ v) then (s, .range)
  else if x.st == 0 || x.st == 1 || x.st == 6 then
    (setTask s t { x with prio := bitsOf v 16 5, affinity := bitsOf v 24 8, postWakes := bitOf v 32, sticky := bitOf v 33, noMigrate := bitOf v 34 }, .ok)
  else (s, .state)

/-- SUSPEND (R296). -/
def taskSuspend (s : State) (t : Nat) : State :=
  let x := taskOf s t
  let s1 := match offeredCore s t with
    | some n => trace (setOffer s n none) 9 n t x.prio 2
    | none => unlist s t
  schedSettle (setTask s1 t { taskOf s1 t with st := 6 })

/-- TaskCommand (R295, R296). -/
def taskCommand (s : State) (v : Nat) : State × Status :=
  let t := bitsOf v 0 9
  let c := bitsOf v 24 8
  let x := taskOf s t
  if bitsOf v 9 15 != 0 || c == 0 || decide (5 < c) then (s, .range)
  else
    match c, x.st with
    | 1, 0 => (setTask s t { x with st := 1, posts := 0 }, .ok)
    | 2, 0 => (commandRefused s, .state)
    | 2, _ => (taskPost s t 0x7FF, .ok)
    | 3, 1 | 3, 2 | 3, 3 | 3, 5 => (taskSuspend s t, .ok)
    | 4, 6 => if x.posts == 0 then (setTask s t { x with st := 1 }, .ok) else (schedSettle (readyTail s t), .ok)
    | 5, 1 | 5, 6 => (setTask s t {}, .ok)
    | _, _ => (s, .state)

/-! The dispatch protocol (R300). -/

/-- ACCEPT. -/
def coreAccept (s : State) (n task : Nat) : State × Status :=
  match offerOf s n with
  | none => (commandRefused s, .state)
  | some o =>
    if o.task != task then (commandRefused s, .state)
    else
      let x := taskOf s task
      let s1 := setTask (setOffer s n none) task { x with st := 4, activations := (x.activations + 1) % 2 ^ 32, preempted := false, bound := false, ran := n, lastAccept := schedClock s % 2 ^ 32 }
      let s2 := trace (setRunning s1 n (some task)) 1 n task x.prio (min 2047 (nclk s - o.since))
      match runningOf s n with
      | none => (schedSettle s2, .ok)
      | some u =>
        let y := taskOf s2 u
        (schedSettle (trace (readyHead (setTask s2 u { y with preempted := true, bound := true }) u) 2 n u y.prio 0), .ok)

/-- DONE. -/
def coreDone (s : State) (n : Nat) : State × Status :=
  match runningOf s n with
  | none => (commandRefused s, .state)
  | some t =>
    let x := taskOf s t
    let s1 := setRunning s n none
    let s2 := if x.posts == 0 then setTask s1 t { x with st := 1 } else readyTail (setTask s1 t { x with posts := x.posts - 1 }) t
    (schedSettle (trace s2 3 n t x.prio (min 2047 (x.posts - 1))), .ok)

/-- YIELD. -/
def coreYield (s : State) (n : Nat) : State × Status :=
  match runningOf s n with
  | none => (commandRefused s, .state)
  | some t => (schedSettle (trace (readyTail (setRunning s n none) t) 4 n t (taskOf s t).prio 0), .ok)

/-- The count that a delay list follows: TickCount, or the encoder's position (R302). -/
def listCount (s : State) (k : Nat) : Nat := if k == 0 then rd s 0x1600 0x05 else encPos s (k - 1)

/-- A due value has been reached (R302, R120). -/
def dueReached (s : State) (k due : Nat) : Bool :=
  if k == 0 then decide (due ≤ rd s 0x1600 0x05) else reached (encPos s (k - 1)) due

/-- How far a due value lies ahead. -/
def dueAhead (s : State) (k due : Nat) : Int :=
  if k == 0 then (due : Int) - (rd s 0x1600 0x05 : Int) else posDiff due (encPos s (k - 1))

/-- A task placed behind every task of a list that is due no later (R302). -/
def delayInsert (s : State) (k t : Nat) (ahead : Int) : List Nat → List Nat
  | [] => [t]
  | u :: r => if ahead < dueAhead s k (taskOf s u).due then t :: u :: r else u :: delayInsert s k t ahead r

/-- DELAY (R300, R302). -/
def coreDelay (s : State) (n k delta : Nat) : State × Status :=
  match runningOf s n with
  | none => (commandRefused s, .state)
  | some t =>
    let x := taskOf s t
    let s1 := setRunning s n none
    let due := if k == 0 then listCount s k + delta else (listCount s k + delta) % 2 ^ 48
    let s2 := if delta == 0 then readyTail s1 t
      else setDelayList (setTask s1 t { x with st := 5, list := k, due := due }) k (delayInsert s k t (delta : Int) (delayList s k))
    (schedSettle (trace s2 5 n t x.prio k), .ok)

/-- ATTACH. -/
def coreAttach (s : State) (n : Nat) : State × Status :=
  (schedSettle (wr s 0x1600 0x02 (setBit (rd s 0x1600 0x02) n true)), .ok)

/-- DETACH: an offer to the core is withdrawn, and its running task goes on (R305). -/
def coreDetach (s : State) (n : Nat) : State × Status :=
  let s1 := withdraw (wr s 0x1600 0x02 (setBit (rd s 0x1600 0x02) n false)) n 9 1
  (schedSettle (setSched s1 { s1.sched with tasks := s1.sched.tasks.map (fun e => (e.1, if e.2.ran == n then { e.2 with bound := false } else e.2)) }), .ok)

/-- CoreCommand of core n (R300). -/
def coreCommand (s : State) (n v : Nat) : State × Status :=
  let c := bitsOf v 0 4
  let list := bitsOf v 4 3
  let task := bitsOf v 7 9
  let arg := v >>> 16
  let zeros := list == 0 && arg == 0
  match c with
  | 1 => if zeros then coreAccept s n task else (s, .range)
  | 2 => if zeros && task == 0 then coreDone s n else (s, .range)
  | 3 => if zeros && task == 0 then coreYield s n else (s, .range)
  | 4 => if task == 0 && decide (list ≤ 4) && decide (arg < if list == 0 then 2 ^ 32 else 2 ^ 47) then coreDelay s n list arg else (s, .range)
  | 5 => if zeros && task == 0 then coreAttach s n else (s, .range)
  | 6 => if zeros && task == 0 then coreDetach s n else (s, .range)
  | _ => (s, .range)

/-- SchedCores written: a bit cleared acts as DETACH for offers (R305). -/
def schedCoresWrite (s : State) (v : Nat) : State :=
  schedSettle ((List.range 8).foldl (fun x n => if bitOf v n then x else withdraw x n 9 1) (wr s 0x1600 0x01 v))

/-- A task moved off a core under the last row of R296. -/
def migrate (s : State) (n t : Nat) : State :=
  let x := taskOf s t
  let s1 := setTask s t { x with migrations := min 65535 (x.migrations + 1) }
  let s2 := if x.noMigrate then setTask s1 t { taskOf s1 t with st := 6 } else readyHead s1 t
  setCause (bump (trace s2 0xB n t x.prio (boolNat x.noMigrate)) 0x1600 0x0A) .sched 1

/-- A core enters DOUBLE_FAULT, RESET or OFF (R305). -/
def coreLeaves (s : State) (n : Nat) : State :=
  let s1 := match offerOf s n with
    | some o => migrate (trace (setOffer s n none) 9 n o.task (taskOf s o.task).prio 1) n o.task
    | none => s
  let s2 := match runningOf s1 n with
    | some t => migrate (setRunning s1 n none) n t
    | none => s1
  let s3 := setSched s2 { s2.sched with tasks := s2.sched.tasks.map (fun e => (e.1, if e.2.ran == n then { e.2 with bound := false } else e.2)) }
  let s4 := if coreState s n == 4 then s3 else wr s3 0x1600 0x02 (setBit (rd s3 0x1600 0x02) n false)
  schedSettle s4

/-! Delay lists and timers. -/

/-- The head task of a list falls due, one task of the delay lists in an NCLK (R302; notes/assumptions/144.md). -/
def delayDue (s : State) (k : Nat) : Option State :=
  match delayList s k with
  | [] => none
  | t :: _ =>
    let x := taskOf s t
    if sysRuns s && dueReached s k x.due && s.sched.dueAt != nclk s + 1 then
      let s1 := setSched s { s.sched with dueAt := nclk s + 1 }
      some (schedSettle (trace (readyTail (unlist s1 t) t) 6 0 t x.prio k))
    else none

/-- TickCount advances at each TickPeriod (R303). -/
def tickStep (s : State) : Option State :=
  let p := rd s 0x1600 0x04 * psUs
  if domOn s 41 && elapsed s 0x1600 0x05 p then
    let s1 := count64 s 0x1600 0x05 1
    some { s1 with stamps := tabSet 0 s1.stamps (objKey 0x1600 0x05) (stamp s 0x1600 0x05 + p) }
  else none

def timerBase (s : State) (i : Nat) : Nat := rd s (0x1620 + i) 0x02
/-- The next due value of a timer from a count (R304). -/
def timerNext (s : State) (i v : Nat) : Nat :=
  if timerBase s i == 0 then (v + rd s (0x1620 + i) 0x03) % 2 ^ 64 else (v + rd s (0x1620 + i) 0x03) % 2 ^ 48

/-- TimerEnable (R304). -/
def timerWrite (s : State) (i v : Nat) : State :=
  let s1 := wr s (0x1620 + i) 0x01 v
  if v == 1 && rd s (0x1620 + i) 0x01 == 0 then wr s1 (0x1620 + i) 0x04 (timerNext s i (listCount s (timerBase s i))) else s1

/-- An enabled timer reaches NextDue (R304). -/
def timerDue (s : State) (i : Nat) : Option State :=
  let d := rd s (0x1620 + i) 0x04
  if sysRuns s && rd s (0x1620 + i) 0x01 == 1 && dueReached s (timerBase s i) d then
    some (raiseEvent (wr s (0x1620 + i) 0x04 (timerNext s i d)) (262 + i))
  else none

/-! Grants. -/

/-- The unit whose cause bits an event reports (R284). -/
def eventUnit (e : Nat) : Option CauseUnit :=
  if e < 24 then none
  else if e < 88 then some (.queue (e - 24))
  else if e < 112 then some (.bar (e - 88))
  else if e < 116 then some (.encoder (e - 112))
  else if e < 140 then some (.trigger (e - 116))
  else if e < 152 then some (.gate (e - 140))
  else if e < 164 then some (.camera ((e - 152) / 2))
  else if e < 204 then some (.lane (e - 164))
  else if e < 212 then some .pair
  else if e < 220 then some .serial
  else if e < 228 then some .boot
  else if e < 236 then some .power
  else if e < 244 then some (.core (e - 236))
  else if e < 252 then some .noc
  else if e < 260 then some .plant
  else if e < 262 then some .sched
  else if e < 268 then none
  else if e == 268 then some .products
  else if e < 276 then some .verify
  else if e < 284 then some .lpddr
  else none

/-- The EventCause that an event reports. -/
def eventCauseOf (s : State) (e : Nat) : Nat :=
  match eventUnit e with
  | some u => rd s (causeAt u).1 (causeAt u).2
  | none => 0

/-- An Ethernet datagram as the model hands it over: destination address and UDP port, then the payload. -/
def udpSend (s : State) (p ip port : Nat) (b : List Byte) : State := send s (64 + p) (leBytes 4 ip ++ leBytes 2 port ++ b)

/-- A CAN FD frame as the model hands it over: its identifier, then its data. A port that is bus-off sends none. -/
def canSend (s : State) (p id : Nat) (b : List Byte) : State := if rd s (0x1220 + p) 0x09 == 2 then s else send s (72 + p) (leBytes 2 id ++ b)

/-- The event, cause and time of an emergency message (R292). -/
def emcyTail (s : State) (e : Nat) (pad : List Byte) : List Byte :=
  leBytes 2 e ++ pad ++ leBytes 4 (eventCauseOf s e) ++ leBytes 8 (ptpTime s)

/-- The emergency message of Ethernet port p (R387). -/
def emcyEth (s : State) (e p : Nat) : State :=
  let x := 0x1210 + p
  if rd s x 0x08 == 1 && rd s x 0x01 == 1 && rd s x 0x0D == 1 then
    let n := tabGet 0 s.sched.emcySent p
    let h := [0x4F#8, 0x50#8, 0x01#8] ++ leBytes 1 (4 + 2 * rd s x 0x0C) ++ leBytes 2 (rd s x 0x0B) ++ leBytes 2 (rd s 0x1200 0x01) ++ leBytes 4 n ++ leBytes 4 0
    let s1 := udpSend s p (rd s x 0x09) (rd s x 0x0A) (h ++ emcyTail s e (leBytes 2 0))
    setSched s1 { s1.sched with emcySent := tabSet 0 s1.sched.emcySent p ((n + 1) % 2 ^ 32) }
  else s

/-- The emergency message of CAN FD port p (R391). -/
def emcyCan (s : State) (e p : Nat) : State :=
  let x := 0x1220 + p
  if rd s x 0x08 == 1 && rd s x 0x05 != 0 && rd s x 0x05 != 4 then
    canSend s p (0x80 + rd s x 0x02) (leBytes 2 0xFF00 ++ [0x80#8, 0, 0, 0] ++ emcyTail s e [])
  else s

/-- The emergency message of an event, unless its holdoff runs, which a message that some port has sent starts (R292). -/
def emcySend (s : State) (e : Nat) : State :=
  match tabFind s.sched.emcyAt e with
  | some t => if decide (s.now < t + rd s 0x1600 0x0F * psMs) then bump s 0x1600 0x10 else go s
  | none => go s
where
  go (s : State) : State :=
    let s1 := emcyCan (emcyCan (emcyEth (emcyEth s e 0) e 1) e 0) e 1
    if s1.answer.sent.length == s.answer.sent.length then s1 else setSched s1 { s1.sched with emcyAt := tabPut s1.sched.emcyAt e s.now }

/-- An event number placed in a core's inbox, or lost (R291). -/
def inboxPlace (s : State) (n e : Nat) : State :=
  let l := tabGet [] s.sched.inbox n
  if l.length < 16 then setSched s { s.sched with inbox := tabSet [] s.sched.inbox n (l ++ [e]) }
  else setCause (bump s 0x1600 0x0C) .sched 3

/-- The route of an event (R290). -/
def eventRoute (s : State) (e : Nat) : Nat := rd s (0x1610 + e / 128) (e % 128 + 1)

/-- The actions of a grant, in order (R288). -/
def grantActions (s : State) (e : Nat) : State :=
  let r := eventRoute s e
  let x := 0x1614 + e / 128
  let sub := e % 128 + 1
  let s0 := traceTrigger s e
  let s1 := wr s0 x sub ((rd s0 x sub + 1) % 2 ^ 32)
  let s2 := if bitOf r 16 then taskPost s1 (bitsOf r 0 9) e else s1
  let s3 := (List.range 8).foldl (fun y n => if bitOf r (17 + n) then inboxPlace y n e else y) s2
  let s4 := if bitOf r 25 then emcySend s3 e else s3
  if bitOf r 26 then trace s4 8 0 0 0 e else s4

/-- The latch clears in the NCLK of the grant: of the raises merged in that NCLK the first is a new arrival, and no longer counts (R285). -/
def raiseAnew (s : State) (e : Nat) : State :=
  match tabFind s.sched.merged e with
  | some (k, merges, bit, lost) =>
    if k == nclk s + 1 then
      let n := rd s 0x1600 0x11
      raiseEvent { wr s 0x1600 0x11 (if lost && n == 0xFFFF then n else n - 1) with coalesced := setBit s.coalesced e (bit || decide (1 < merges)), sched := { s.sched with merged := tabErase s.sched.merged e } } e
    else s
  | none => s

/-- The concentrator grants the first pending event that has arrived, at most one per NCLK (R287). -/
def eventGrant (s : State) : Option State :=
  if !sysRuns s || s.sched.grantAt == nclk s + 1 then none
  else
    match s.events with
    | [] => none
    | (a, e) :: r =>
      if decide (nclk s < a) then none
      else some (grantActions (raiseAnew { s with events := r, sched := { s.sched with grantAt := nclk s + 1 } } e) e)

/-- The oldest inbox entry of a core, removed (R291). -/
def inboxPop (s : State) (n : Nat) : State × Nat :=
  match tabGet [] s.sched.inbox n with
  | [] => (s, 0xFFFFFFFF)
  | e :: r => (setSched s { s.sched with inbox := tabSet [] s.sched.inbox n r }, e)

/-- EventRaise (R293). -/
def eventRaise (s : State) (v : Nat) : State × Status :=
  if decide (284 ≤ v) && decide (v ≤ 319) then (raiseEvent s v, .ok) else (s, .range)

/-! Reads. -/

/-- TaskRecord (R294). -/
def taskRecord (s : State) (t : Nat) : List Byte :=
  let x := taskOf s t
  leBytes 1 x.st ++ leBytes 1 x.prio ++ leBytes 1 x.affinity ++
    leBytes 1 (boolNat x.postWakes + 2 * boolNat x.sticky + 4 * boolNat x.noMigrate + 8 * boolNat x.preempted) ++
    leBytes 2 x.posts ++ leBytes 1 ((offeredCore s t).getD x.ran) ++ leBytes 1 x.list ++ leBytes 8 x.due ++
    leBytes 4 x.activations ++ leBytes 2 x.migrations ++ leBytes 2 0 ++ leBytes 4 x.lastAccept ++ leBytes 4 0

/-- ReadyTasks. -/
def readyTasks (s : State) : Nat := (s.sched.tasks.filter (fun e => e.2.st == 2 || e.2.st == 3)).length

/-- PendingMap. -/
def pendingMap (s : State) : Nat := s.events.foldl (fun a x => setBit a x.2 true) 0

/-- SYS leaves ON: latches, inboxes, the trace and every task are lost (R289). -/
def schedLost (s : State) : State := { s with events := [], coalesced := 0, sched := {} }

/-- SYS enters ON (R306). -/
def schedStart (s : State) : State :=
  { s with sched := { clockFrom := nclk s }, stamps := tabSet 0 s.stamps (objKey 0x1600 0x05) s.now }

end Sys2Proof.Machine
end

