-- ==== Sys2Proof/Machine/Cores.lean ====
section
/-! DEFINITION. The Peg cores: registers and windows, CSRs, traps and the double fault, fetch and issue, local memories, and running, halting and resetting.
Spec: 09_peg_cores.md R249 to R263, R268, R273, R278 to R283; 01_engine_overview.md R11 to R13; 10_events_and_scheduler.md R305. -/

set_option Elab.async false

namespace Sys2Proof.Machine

def coreOf (s : State) (n : Nat) : Core := tabGet {} s.cores n
def setCore (s : State) (n : Nat) (c : Core) : State := { s with cores := tabSet {} s.cores n c }

/-- Control objects P and status objects P + 1 of core n. -/
def cP (n : Nat) : Nat := 0x5800 + 2 * n
def cS (n : Nat) : Nat := 0x5801 + 2 * n

/-! Registers (R252). -/

/-- x register k through the current window. -/
def xr (c : Core) (k : Nat) : Nat :=
  if k == 0 then 0
  else if k < 8 then tabGet 0 c.x k
  else if k < 16 then tabGet 0 c.ins (8 * c.cwp + (k - 8))
  else if k < 24 then tabGet 0 c.locals (8 * c.cwp + (k - 16))
  else tabGet 0 c.ins (8 * ((c.cwp + 1) % 16) + (k - 24))

/-- x register k set; x0 discards. -/
def setX (c : Core) (k v : Nat) : Core :=
  if k == 0 then c
  else if k < 8 then { c with x := tabSet 0 c.x k v }
  else if k < 16 then { c with ins := tabSet 0 c.ins (8 * c.cwp + (k - 8)) v }
  else if k < 24 then { c with locals := tabSet 0 c.locals (8 * c.cwp + (k - 16)) v }
  else { c with ins := tabSet 0 c.ins (8 * ((c.cwp + 1) % 16) + (k - 24)) v }

/-- The physical register that x register k names: globals, ins, locals. -/
def xKey (c : Core) (k : Nat) : Nat :=
  if k < 8 then k
  else if k < 16 then 8 + 8 * c.cwp + (k - 8)
  else if k < 24 then 136 + 8 * c.cwp + (k - 16)
  else 8 + 8 * ((c.cwp + 1) % 16) + (k - 24)

/-- The key of f register k in the table of ready times. -/
def fKey (k : Nat) : Nat := 264 + k

def fr (c : Core) (k : Nat) : Nat := tabGet 0 c.f k
def setF (c : Core) (k v : Nat) : Core := { c with f := tabSet 0 c.f k v }

/-- Windows in use (R253). -/
def windowsUsed (c : Core) : Nat := (c.cwp + 16 - c.wb) % 16 + 1

/-! CSRs (R278). -/

def csrWord (c : Core) (a : Nat) : Nat := tabGet (if a == 0x300 then 0x3800 else 0) c.csr a
def setCsrWord (c : Core) (a v : Nat) : Core := { c with csr := tabSet (if a == 0x300 then 0x3800 else 0) c.csr a v }

def frm (c : Core) : Nat := bitsOf (csrWord c 0x003) 5 3
def fsOff (c : Core) : Bool := bitsOf (csrWord c 0x300) 13 2 == 0
/-- The f state has changed: FS is dirty. -/
def fsDirty (c : Core) : Core := setCsrWord c 0x300 (csrWord c 0x300 ||| 0x6000)
/-- Flags accrued. -/
def accrue (c : Core) (fl : Nat) : Core := if fl == 0 then c else fsDirty (setCsrWord c 0x003 (csrWord c 0x003 ||| fl))

/-- mcycle: NCLK since the core left RESET, from the value last written; 0 in RESET and OFF (R278, R283). -/
def mcycle (s : State) (n : Nat) : Nat :=
  let c := coreOf s n
  if coreState s n < 2 then 0 else (c.cycles + (nclk s - c.cyclesFrom)) % 2 ^ 64

/-- gwin (R279). -/
def gwin (c : Core) : Nat := c.cwp ||| c.wb <<< 4 ||| c.tw <<< 8 ||| boolNat c.tc <<< 12 ||| c.sd <<< 16

/-- CSRs held as plain words, each with the bits that a write keeps. -/
def csrMask (a : Nat) : Option Nat :=
  if a == 0x003 then some 0xFF
  else if a == 0x300 then some 0x6088
  else if a == 0x304 then some 0x30000
  else if a == 0x340 || a == 0x342 || a == 0x343 then some 0xFFFFFFFF
  else if a == 0x341 then some 0xFFFFFFFE
  else if a == 0x7C1 || a == 0x7C2 || a == 0x7C3 then some 0xFFFFFFFF
  else if a == 0x7C4 then some 0xFF
  else if decide (0x7C8 ≤ a) && decide (a ≤ 0x7CF) then some 0xFFFC
  else if decide (0x7D0 ≤ a) && decide (a ≤ 0x7D7) then some 0x7FFF3FFF
  else if decide (0x7D8 ≤ a) && decide (a ≤ 0x7DD) then some 0xFFFFFFFF
  else if a == 0x7DE then some 3
  else if a == 0x7E0 || a == 0x7E1 then some 0xFFFFFFFF
  else none

/-- A CSR read; none is a CSR that does not exist. -/
def readCsr (s : State) (n a : Nat) : Option Nat :=
  let c := coreOf s n
  match a with
  | 0x001 => some (bitsOf (csrWord c 0x003) 0 5)
  | 0x002 => some (frm c)
  | 0x301 => some 0x40801124
  | 0x344 => some (mip s n)
  | 0x305 => some (csrWord c 0x305)
  | 0xB00 => some (mcycle s n % 2 ^ 32)
  | 0xB80 => some (mcycle s n >>> 32)
  | 0xB02 => some (c.retired % 2 ^ 32)
  | 0xB82 => some (c.retired >>> 32)
  | 0xF11 => some 0
  | 0xF12 => some 0
  | 0xF13 => some 0xB0
  | 0xF14 => some n
  | 0x7C0 => some (gwin c)
  | 0x7E2 => some (tabGet 0 c.link c.cwp)
  | 0xFC0 => some (gtask s n)
  | _ => (csrMask a).map (fun _ => csrWord c a)

/-- The ring CSR as it is stored: a length above 16,384 is 16,384 (R264). -/
def ringStore (v : Nat) : Nat := let l := bitsOf v 16 15; bitsOf v 0 14 ||| (if 16384 < l then 16384 else l) <<< 16

/-- MaxSpillDepth follows sd. -/
def spillDepth (s : State) (n : Nat) : State :=
  let d := (coreOf s n).sd
  if rd s (cS n) 0x0B < d then wr s (cS n) 0x0B d else s

/-- A CSR written; none is a write that raises an illegal-instruction exception. -/
def writeCsr (s : State) (n a v : Nat) : Option State :=
  let c := coreOf s n
  match a with
  | 0x001 => some (setCore s n (fsDirty (setCsrWord c 0x003 (bitsOf (csrWord c 0x003) 5 3 <<< 5 + v % 32))))
  | 0x002 => some (setCore s n (fsDirty (setCsrWord c 0x003 (bitsOf (csrWord c 0x003) 0 5 + (v % 8) <<< 5))))
  | 0x003 => some (setCore s n (fsDirty (setCsrWord c 0x003 (v % 256))))
  | 0x300 => some (setCore s n (setCsrWord c 0x300 ((v &&& 0x6088) ||| 0x1800)))
  | 0x301 => some s
  | 0x344 => some s
  | 0x305 =>
    if v % 4 < 2 then some (setCore s n (setCsrWord c 0x305 v))
    else
      let (s1, m) := freeNat s 2
      some (setCore s1 n (setCsrWord c 0x305 (4 * (v / 4) + m)))
  | 0xB00 => some (setCore s n { c with cycles := (mcycle s n >>> 32) <<< 32 + v, cyclesFrom := nclk s })
  | 0xB80 => some (setCore s n { c with cycles := mcycle s n % 2 ^ 32 + v <<< 32, cyclesFrom := nclk s })
  | 0xB02 => some (setCore s n { c with retired := (c.retired >>> 32) <<< 32 + v })
  | 0xB82 => some (setCore s n { c with retired := c.retired % 2 ^ 32 + v <<< 32 })
  | 0x7C0 => if c.tc then some (spillDepth (setCore s n { c with sd := bitsOf v 16 12 }) n) else none
  | 0x7E2 => some (setCore s n { c with link := tabSet 0 c.link c.cwp v })
  | 0x7DE => some (setCore s n (setCsrWord c a (min 2 (v % 4))))
  | _ =>
    if decide (0xC00 ≤ a) then none
    else if decide (0x7D0 ≤ a) && decide (a ≤ 0x7D7) then some (setCore s n (setCsrWord c a (ringStore v)))
    else (csrMask a).map (fun m => setCore s n (setCsrWord c a (v &&& m)))

/-! Accumulators (R268). -/

/-- Accumulator writes due by an NCLK reach their accumulators, in issue order. -/
def landWrites (c : Core) (k : Nat) : Core :=
  let due := c.accWrites.filter (fun w => decide (w.2.2 ≤ k))
  { c with
    acc := due.foldl (fun a w => tabSet 0 a w.1 w.2.1) c.acc,
    accWrites := c.accWrites.filter (fun w => !decide (w.2.2 ≤ k)) }

/-- The write of an accumulator by an instruction that issues now. -/
def accLater (s : State) (c : Core) (i v : Nat) : Core := { c with accWrites := c.accWrites ++ [(i, v, nclk s + 4)] }

/-! Traps and the double fault. -/

/-- The core stops in DOUBLE_FAULT: the windowed registers read 0; the CSRs, gwin among them, keep their values (R257, R263). -/
def doubleFault (s : State) (n cause : Nat) : State :=
  let c := coreOf s n
  let s1 := setCore s n { c with ins := [], locals := [], link := [], rep := none, wait := none, haltLatched := false }
  let s2 := wr (wr (wr s1 (cS n) 0x03 (if cause == 24 then 1 else if cause == 25 then 2 else 3)) (cS n) 0x04 c.pc) (cS n) 0x05 cause
  coreLeaves (setCause (enter s2 (cS n) 0x01 4) (.core n) 0) n

/-- Trap entry (R260): `cause` with bit 31 for an interrupt, and mtval. -/
def trapEnter (s : State) (n cause tval : Nat) : State :=
  let c0 := coreOf s n
  let last := c0.accWrites.foldl (fun m w => max m w.2.2) 0
  let s0 := { s with now := max s.now (2000 * last + s.power.clockLost) }
  let c := landWrites c0 last
  let st := csrWord c 0x300
  let mie := bitsOf st 3 1
  let c1 := setCsrWord (setCsrWord (setCsrWord c 0x341 c.pc) 0x342 cause) 0x343 tval
  let c2 := setCsrWord c1 0x300 (setBit (setBit st 7 (mie == 1)) 3 false)
  let c3 := setCsrWord (setCsrWord c2 0x7C3 (csrWord c 0x7C2)) 0x7C2 0
  let w := (c.cwp + 1) % 16
  let base := 4 * (csrWord c 0x305 / 4)
  let target := if csrWord c 0x305 % 4 == 1 && bitOf cause 31 then (base + 4 * (cause % 2 ^ 31)) % 2 ^ 32 else base
  setCore s0 n { c3 with cwp := w, tw := w, tc := true, pc := target, rep := none, wait := none }

/-- A synchronous exception: a trap, or in trap context a double fault (R260, R261). -/
def trap (s : State) (n cause tval : Nat) : State :=
  if (coreOf s n).tc then doubleFault s n cause
  else
    let s1 := if cause == 24 then count64 s (cS n) 0x09 1 else if cause == 25 then count64 s (cS n) 0x0A 1 else s
    trapEnter s1 n cause tval

/-- An illegal-instruction exception: mtval is 0 or the instruction's bits. -/
def illegal (s : State) (n w : Nat) : State :=
  let (s1, k) := freeNat s 2
  trap s1 n 2 (k * w)

/-- A load or store access fault with its status code (R13, R278). -/
def accessFault (s : State) (n : Nat) (store : Bool) (st a : Nat) : State :=
  let c := coreOf s n
  let s1 := setCore s n (setCsrWord c 0x7C4 st)
  trap (setCause (bump s1 (cS n) 0x0D) (.core n) 3) n (if store then 7 else 5) a

/-- MRET (R262). -/
def mretDo (s : State) (n w : Nat) : State :=
  let c := coreOf s n
  if c.tc && c.cwp == c.tw then
    let st := csrWord c 0x300
    let c1 := setCsrWord (setCsrWord c 0x300 (setBit st 3 (bitOf st 7))) 0x7C2 (csrWord c 0x7C3)
    setCore s n { c1 with cwp := (c.tw + 15) % 16, tc := false, pc := csrWord c 0x341, retired := (c.retired + 1) % 2 ^ 64 }
  else illegal s n w

/-! Local memory (R11, R12, R250, R282). -/

/-- Where core n's own memories lie at the addresses that every initiator sees. -/
def coreWindow (n : Nat) : Nat := 0x10000000 + n * 0x01000000

/-- An address in core n's window. -/
def inCoreWindow (n a : Nat) : Bool := a / 0x01000000 == 0x10 + n

/-- The offset of an address in core n's own memories, at the local address or in its own window. -/
def localOffset (n a : Nat) : Option Nat :=
  let o := if inCoreWindow n a then a % 0x01000000 else a
  if decide (o < 0x20000) || (decide (0x100000 ≤ o) && decide (o < 0x120000)) then some o else none

/-- X (0) or Y (1) memory of an offset; none is I-memory. -/
def xyOf (o : Nat) : Option Nat := if o < 0x100000 then none else some (o % 0x100000 / 0x10000)

/-- The bytes of a word at an offset, as the other port sees them while a port writes the word in the same NCLK. -/
def portView (s : State) (n o size : Nat) (other : Tab PortUse) : Nat :=
  let v := memNat s (coreWindow n + o) size
  match xyOf o with
  | none => v
  | some _ =>
    let u := tabGet {} other (o / 4)
    if u.nclk == nclk s + 1 && u.mask != 0 then (u.old >>> (8 * (o % 4))) % 2 ^ (8 * size)
    else v

/-- A word's byte lanes that an access covers. -/
def laneMask (o size : Nat) : Nat := ((2 ^ size - 1) <<< (o % 4)) % 16

/-- A port's write noted, for an access by the other port in the same NCLK. -/
def portNote (s : State) (n o size : Nat) (t : Tab PortUse) : Tab PortUse :=
  match xyOf o with
  | none => t
  | some _ => tabPut (t.filter (fun e => e.2.nclk == nclk s + 1)) (o / 4) { nclk := nclk s + 1, mask := laneMask o size, old := memNat s (coreWindow n + 4 * (o / 4)) 4 }

/-- The other port has written the same word in the same NCLK: the byte lanes that both wrote, perhaps none. -/
def portClash (s : State) (o size : Nat) (other : Tab PortUse) : Option Nat :=
  match xyOf o with
  | none => none
  | some _ => let u := tabGet {} other (o / 4); if u.nclk == nclk s + 1 then some (u.mask &&& laneMask o size) else none

/-- Two writes to one word in one NCLK, counted on whatever lanes (R282). -/
def collided (s : State) (n : Nat) (clash : Option Nat) : State := if clash.isNone then s else setCause (bump s (cS n) 0x0C) (.core n) 2

/-- Bytes of I-memory noted as a fetch may still see them (R250). -/
def staleNote (s : State) (n o : Nat) : Nat → Tab Byte → Tab Byte
  | 0, t => t
  | k + 1, t => staleNote s n (o + 1) k (if (tabFind t o).isSome then t else tabPut t o (memByte s (coreWindow n + o)))

/-- A store by core n to its own memories, through port A. -/
def localStore (s : State) (n o size v : Nat) : State :=
  let c := coreOf s n
  let clash := portClash s o size c.portB
  let c1 := { c with portA := portNote s n o size c.portA, stale := if o < 0x20000 then staleNote s n o size c.stale else c.stale }
  collided (memWrite (setCore s n c1) (coreWindow n + o) (leBytes size v)) n clash

/-- A load by core n from its own memories, through port A. -/
def localLoad (s : State) (n o size : Nat) : Nat := portView s n o size (coreOf s n).portB

/-- The bytes that port B writes: not those that port A has written in the same NCLK. -/
def portBWrite (s : State) (n o clash : Nat) : List Byte → Nat → State
  | [], _ => s
  | b :: r, k => portBWrite (if bitOf clash ((o + k) % 4) then s else memPut s (coreWindow n + o + k) b) n o clash r (k + 1)

/-- A network write to core n's memories, through port B; I-memory only while the core is stopped (R250). -/
def coreNetWrite (s : State) (n o size v : Nat) : State × Status :=
  if decide (o < 0x20000) && (coreState s n == 2 || coreState s n == 0) then (s, .state)
  else
    let c := coreOf s n
    let clash := portClash s o size c.portA
    let s1 := setCore s n { c with portB := portNote s n o size c.portB }
    (collided (portBWrite s1 n o (clash.getD 0) (leBytes size v) 0) n clash, .ok)

/-- A network read of core n's memories, through port B. -/
def coreNetRead (s : State) (n o size : Nat) : Nat := portView s n o size (coreOf s n).portA

/-- Bytes written over the network: those of a core's X or Y memory word by word through its port B, others as they are (R282). -/
def netStore : Nat → State → Nat → List Byte → State
  | 0, s, _, _ => s
  | k + 1, s, a, b =>
    if b.isEmpty then s
    else if decide (0x10000000 ≤ a) && decide (a < 0x18000000) then
      let size := 4 - a % 4
      let n := (a - 0x10000000) / 0x01000000
      netStore k (coreNetWrite s n (a % 0x01000000) (min size b.length) (leNat (b.take size))).1 (a + size) (b.drop size)
    else memWrite s a b

/-- Bytes read over the network: those of a core's X or Y memory word by word through its port B (R282). -/
def netLoad : Nat → State → Nat → Nat → List Byte
  | 0, _, _, _ => []
  | k + 1, s, a, len =>
    if len == 0 then []
    else if decide (0x10000000 ≤ a) && decide (a < 0x18000000) then
      let size := min (4 - a % 4) len
      leBytes size (coreNetRead s ((a - 0x10000000) / 0x01000000) (a % 0x01000000) size) ++ netLoad k s (a + size) (len - size)
    else memRead s a len

/-! Fetch (R250). -/

/-- The model's address of a fetch; none is an instruction access fault. -/
def fetchAddr (n a : Nat) : Option Nat :=
  match localOffset n a with
  | some o => if o < 0x20000 then some (coreWindow n + o) else none
  | none => if decide (0xF0000000 ≤ a) && decide (a ≤ 0xF000FFFF) then some a else none

/-- A byte of a 16-bit parcel: what was stored, or while FENCE.I has not run perhaps what it replaced. -/
def fetchByte (s : State) (n a : Nat) (old : Bool) : Byte :=
  if old && inCoreWindow n a then (tabFind (coreOf s n).stale (a % 0x01000000)).getD (memByte s a) else memByte s a

/-- A 16-bit parcel, and the state with the free values it takes. -/
def fetchParcel (s : State) (n a : Nat) : Option (State × Nat) :=
  (fetchAddr n a).map fun p =>
    let isStale := inCoreWindow n p && ((tabFind (coreOf s n).stale (p % 0x01000000)).isSome || (tabFind (coreOf s n).stale (p % 0x01000000 + 1)).isSome)
    if isStale then
      let (s1, k) := freeNat s 2
      (s1, (fetchByte s n p (k == 1)).toNat + 256 * (fetchByte s n (p + 1) (k == 1)).toNat)
    else (s, memNat s p 2)

/-- What a fetch gives. -/
inductive Fetched
  | fault (a : Nat)
  | illegal (w : Nat)
  | instr (w len : Nat)
  deriving DecidableEq, Repr

/-- The instruction at an address, a compressed one as the instruction it stands for. -/
def fetch (s : State) (n a : Nat) : State × Fetched :=
  match fetchParcel s n a with
  | none => (s, .fault a)
  | some (s1, h) =>
    if h % 4 != 3 then
      (s1, match expandC h with | some w => .instr w 2 | none => .illegal h)
    else
      match fetchParcel s1 n (addW a 2) with
      | none => (s1, .fault (addW a 2))
      | some (s2, g) => (s2, .instr (h + g <<< 16) 4)

/-! Issue. -/

/-- The hardware-loop test after the instruction at `a` (R273): where execution continues. -/
def loopTest : Nat → Core → Nat → Nat → Core × Nat
  | 0, c, _, next => (c, next)
  | k + 1, c, a, next =>
    let d := csrWord c 0x7DE
    if d == 0 then (c, next)
    else
      let b := 0x7D8 + 3 * (d - 1)
      if csrWord c (b + 2) != a then (c, next)
      else
        let lc := csrWord c b
        if 1 < lc then (setCsrWord c b (lc - 1), csrWord c (b + 1))
        else if lc == 1 then loopTest k (setCsrWord c 0x7DE (d - 1)) a next
        else (c, next)

/-- An instruction of `len` bytes completes without a taken control transfer. -/
def retire (s : State) (n len : Nat) : State :=
  let c := coreOf s n
  let (c1, next) := loopTest 2 { c with retired := (c.retired + 1) % 2 ^ 64 } c.pc (addW c.pc len)
  setCore s n { c1 with pc := next }

/-- An instruction completes with a taken control transfer. -/
def jump (s : State) (n target : Nat) : State :=
  let c := coreOf s n
  setCore s n { c with pc := target % 2 ^ 32, retired := (c.retired + 1) % 2 ^ 64, readyAt := pllTime s + 4000 }

/-- The NCLK in which an instruction issues: not before its operands are usable, and one per NCLK (R249, R251). Latencies count NCLK, which stand still in LINE_STOP (R404). -/
def issueAt (s : State) (n : Nat) (keys : List Nat) : State :=
  let c := coreOf s n
  let p := pllTime s
  let t := keys.foldl (fun m k => max m (tabGet 0 c.ready k)) (max p c.readyAt)
  let s1 := { s with now := s.now + (t - p) }
  setCore s1 n { landWrites c (nclk s1) with readyAt := t + 2000 }

/-- The result of an instruction usable after `k` NCLK; x0 is no result. -/
def readyIn (s : State) (c : Core) (key k : Nat) : Core := if key == 0 then c else { c with ready := tabSet 0 c.ready key (pllTime s + 2000 * k) }

/-- The issue stage is busy for `k` NCLK. -/
def busyFor (s : State) (c : Core) (k : Nat) : Core := { c with readyAt := pllTime s + 2000 * k }

/-- The enabled interrupts that are pending at a boundary at which they are taken (R281). -/
def interruptsAt (s : State) (n : Nat) : Nat :=
  let c := coreOf s n
  if bitOf (csrWord c 0x300) 3 && !c.tc && c.rep.isNone && c.wait.isNone then mip s n &&& csrWord c 0x304 else 0

/-- Core n issues its next instruction: it is RUNNING, waits for no answer, and takes no interrupt or halt at this boundary, which a REP puts off (R272, R281, R283). -/
def coreIssues (s : State) (n : Nat) : Bool :=
  sysRuns s && coreState s n == 2 && (coreOf s n).wait.isNone && interruptsAt s n == 0 && (!(coreOf s n).haltLatched || (coreOf s n).rep.isSome)

/-- The rows that an instruction can belong to. -/
inductive CoreRow
  | base | callw | callwr | retw | smm | smmO | lmm | lmmO | spillw | fillw | rep | repr | loop
  | fmac | fmsc | fmula | fmacf | fmscf | xld | yld | xst | yst | fmvaf | fmvfa | accz | accsum | mret
  deriving DecidableEq, Repr

/-- The row of an instruction by its opcode, funct3 and bit 25 (R275 to R277). -/
def coreRow (w : Nat) : CoreRow :=
  match rvOp w, rvF3 w with
  | 0x7B, _ => .callw
  | 0x0B, 0 => .callwr
  | 0x0B, 1 => .retw
  | 0x0B, 2 => if bitOf w 25 then .smmO else .smm
  | 0x0B, 3 => if bitOf w 25 then .lmmO else .lmm
  | 0x0B, 4 => if bitOf w 25 then .fillw else .spillw
  | 0x0B, 5 => .rep
  | 0x0B, 6 => .repr
  | 0x0B, _ => .loop
  | 0x2B, 0 => .fmac
  | 0x2B, 1 => .fmsc
  | 0x2B, 2 => .fmula
  | 0x2B, 3 => .fmacf
  | 0x2B, 4 => .fmscf
  | 0x5B, 0 => .xld
  | 0x5B, 1 => .yld
  | 0x5B, 2 => .xst
  | 0x5B, 3 => .yst
  | 0x5B, 4 => .fmvaf
  | 0x5B, 5 => .fmvfa
  | 0x5B, 6 => .accz
  | 0x5B, _ => .accsum
  | _, _ => if w == 0x30200073 then .mret else .base

/-- An instruction of a row issues on core n; nothing happens where the core cannot issue or its next instruction is of another row. -/
def coreIssue (s : State) (n : Nat) (row : CoreRow) (f : State → Nat → Nat → State) : Option State :=
  if !coreIssues s n || decide (8 ≤ n) then none
  else
    match fetch s n (coreOf s n).pc with
    | (s1, .fault a) => if row = .base then some (trap (issueAt s1 n []) n 1 a) else none
    | (s1, .illegal w) => if row = .base then some (illegal (issueAt s1 n []) n w) else none
    | (s1, .instr w len) => if coreRow w = row then some (f s1 w len) else none

/-! Accesses. -/

/-- Where a core's data access goes (R11, R13). -/
inductive CoreAccess
  | local_ (o : Nat)
  | network
  | outside
  deriving DecidableEq, Repr

/-- An address lies in the implemented part of a range that the network serves. -/
def networkAddr (a : Nat) : Bool :=
  (decide (0x10000000 ≤ a) && decide (a < 0x18000000) && (let o := a % 0x01000000; decide (o < 0x20000) || (decide (0x100000 ≤ o) && decide (o < 0x120000)))) ||
  (decide (0x20000000 ≤ a) && decide (a < 0x22000000)) ||
  (decide (0x30000000 ≤ a) && decide (a < 0x30600000)) ||
  (decide (0x38000000 ≤ a) && decide (a < 0x38180000)) ||
  (decide (0x40000000 ≤ a) && decide (a < 0x44040000)) ||
  (decide (0x80000000 ≤ a) && decide (a < 0xF0100000))

/-- The way of core n's access to an address. -/
def coreAccess (n a : Nat) : CoreAccess :=
  match localOffset n a with
  | some o => .local_ o
  | none => if networkAddr a then .network else .outside

/-- Core n waits while its request stands in its network interface. -/
def coreRequest (s : State) (n : Nat) (r : NetReq) (w : CoreWait) : State :=
  let x := niOf s n
  setCore (setNi s n { x with waiting := x.waiting ++ [r] }) n { coreOf s n with wait := some w }

/-! Running, halting and resetting (R283). -/

/-- What a core holds in RESET. -/
def coreInReset (s : State) (n : Nat) : Core := { pc := rd s (cP n) 0x02, cyclesFrom := nclk s }

/-- A core enters RESET. -/
def coreToReset (s : State) (n : Nat) : State :=
  let s1 := wr (enter s (cS n) 0x01 1) (cP n) 0x01 0
  coreLeaves (setCore s1 n (coreInReset s1 n)) n

/-- Run written. -/
def coreRunWrite (s : State) (n v : Nat) : State × Status :=
  let st := coreState s n
  if v == 1 then
    if st == 0 || st == 4 then (s, .state)
    else
      let s1 := wr s (cP n) 0x01 1
      if st == 1 then (schedSettle (enter (setCore s1 n (coreInReset s1 n)) (cS n) 0x01 2), .ok)
      else if st == 3 then (schedSettle (enter s1 (cS n) 0x01 2), .ok)
      else (setCore s1 n { coreOf s1 n with haltLatched := false }, .ok)
  else
    let s1 := wr s (cP n) 0x01 0
    (if st == 2 then setCore s1 n { coreOf s1 n with haltLatched := true } else s1, .ok)

/-- A core stops in HALTED (R283). -/
def coreHaltNow (s : State) (n : Nat) : State :=
  schedSettle (setCause (enter (setCore s n { coreOf s n with haltLatched := false }) (cS n) 0x01 3) (.core n) 1)

/-- The halt that Run 0 asked for, at the next boundary and after any REP. -/
def coreHaltDue (s : State) (n : Nat) : Option State :=
  let c := coreOf s n
  if coreState s n == 2 && c.haltLatched && c.rep.isNone && c.wait.isNone then some (coreHaltNow s n) else none

/-- Reset written. -/
def coreResetWrite (s : State) (n : Nat) : State × Status :=
  match coreState s n with
  | 2 => (s, .state)
  | 3 | 4 => (coreToReset s n, .ok)
  | _ => (s, .ok)

/-- The core pair's domain enters ON: RESET, with memory undefined. -/
def corePairOn (s : State) (d : Nat) : State :=
  [2 * d, 2 * d + 1].foldl (fun x n => let y := enter x (cS n) 0x01 1; setCore y n (coreInReset y n)) s

/-- The core pair's domain leaves ON: OFF, and all state is lost. -/
def corePairOff (s : State) (d : Nat) : State :=
  [2 * d, 2 * d + 1].foldl (fun x n =>
    let y := wr (enter (memForget x (coreWindow n) (coreWindow (n + 1))) (cS n) 0x01 0) (cP n) 0x01 0
    coreLeaves (setCore y n {}) n) s

/-- A pending, enabled interrupt taken at a boundary: DISPATCH before EVENT (R280, R281). -/
def interruptDue (s : State) (n : Nat) : Option State :=
  let p := interruptsAt s n
  if coreState s n == 2 && sysRuns s && p != 0 then
    some (trapEnter s n (2 ^ 31 + (if bitOf p 16 then 16 else 17)) 0)
  else none

/-- Accumulator writes whose time has come (R268). -/
def accumulatorDue (s : State) (n : Nat) : Option State :=
  let c := coreOf s n
  if c.accWrites.any (fun w => decide (w.2.2 ≤ nclk s)) then some (setCore s n (landWrites c (nclk s))) else none

end Sys2Proof.Machine
end

