-- ==== Sys2Proof/Machine/CoreOps.lean ====
section
/-! DEFINITION. The instructions of the Peg cores: RV32IMFC with Zicsr and Zifencei, Xgwin and Xgdsp.
Spec: 09_peg_cores.md R249 to R277. -/

set_option Elab.async false

namespace Sys2Proof.Machine

/-! RV32IMFC. -/

/-- The registers that an instruction of the base ISA reads, by their keys in the table of ready times. -/
def baseSources (c : Core) (w : Nat) : List Nat :=
  let x1 := xKey c (rvRs1 w)
  let x2 := xKey c (rvRs2 w)
  match rvOp w with
  | 0x67 | 0x03 | 0x13 | 0x07 => [x1]
  | 0x63 | 0x23 | 0x33 => [x1, x2]
  | 0x27 => [x1, fKey (rvRs2 w)]
  | 0x73 => if rvF3 w < 4 then [x1] else []
  | 0x43 | 0x47 | 0x4B | 0x4F => [fKey (rvRs1 w), fKey (rvRs2 w), fKey (rvRs3 w)]
  | 0x53 =>
    let f := rvF7 w
    if f == 0x68 || f == 0x78 then [x1] else if f == 0x2C || f == 0x60 || f == 0x70 then [fKey (rvRs1 w)] else [fKey (rvRs1 w), fKey (rvRs2 w)]
  | _ => []

/-- An x result, usable after `k` NCLK, and the instruction complete. -/
def finishX (s : State) (n len rd v k : Nat) : State :=
  let c := coreOf s n
  retire (setCore s n (readyIn s (setX c rd (v % 2 ^ 32)) (xKey c rd) k)) n len

/-- An f result, usable after `k` NCLK, and the instruction complete. -/
def finishF (s : State) (n len rd v k : Nat) : State :=
  let c := fsDirty (coreOf s n)
  retire (setCore s n (readyIn s (setF c rd v) (fKey rd) k)) n len

/-- The value of a load: `size` bytes, sign-extended or zero-extended. -/
def loadValue (size : Nat) (signed : Bool) (v : Nat) : Nat := if signed then sext (8 * size) v else v

/-- A load (R249 misaligned accesses, R251). -/
def coreLoad (s : State) (n len a size : Nat) (w : CoreWait) : State :=
  if a % size != 0 then trap s n 4 a
  else
    match coreAccess n a with
    | .outside => accessFault s n false Status.range.code a
    | .network => coreRequest s n { addr := a, size := size, write := false, value := 0 } w
    | .local_ o =>
      let v := localLoad s n o size
      match w with
      | .load rd size signed => finishX s n len rd (loadValue size signed v) 2
      | .fload rd => finishF s n len rd v 2
      | _ => s

/-- A store. -/
def coreStore (s : State) (n len a size v : Nat) : State :=
  if a % size != 0 then trap s n 6 a
  else
    match coreAccess n a with
    | .outside => accessFault s n true Status.range.code a
    | .network => coreRequest s n { addr := a, size := size, write := true, value := v % 2 ^ (8 * size) } .store
    | .local_ o => retire (localStore s n o size (v % 2 ^ (8 * size))) n len

/-- A CSR instruction (Zicsr, R278, R279). -/
def csrExec (s : State) (n w len : Nat) : State :=
  let c := coreOf s n
  let a := bitsOf w 20 12
  let f3 := rvF3 w
  let src := if 4 ≤ f3 then rvRs1 w else xr c (rvRs1 w)
  let writes := f3 % 4 == 1 || rvRs1 w != 0
  if (a == 1 || a == 2 || a == 3) && fsOff c then illegal s n w
  else
    match readCsr s n a with
    | none => illegal s n w
    | some old =>
      let v := match f3 % 4 with | 1 => src | 2 => old ||| src | _ => clearBits old src
      match if writes then writeCsr s n a v else some s with
      | none => illegal s n w
      | some s1 =>
        let c1 := coreOf s1 n
        let c2 := if writes && (a == 0xB02 || a == 0xB82) then { c1 with retired := (c1.retired + 2 ^ 64 - 1) % 2 ^ 64 } else c1
        finishX (setCore s1 n c2) n len (rvRd w) old 1

/-- ECALL, EBREAK and WFI, and the CSR instructions. -/
def systemExec (s : State) (n w len : Nat) : State :=
  let f3 := rvF3 w
  if f3 == 0 then
    if w == 0x00000073 then trap s n 11 0
    else if w == 0x00100073 then
      (if rd s (cP n) 0x04 == 1 then coreHaltNow s n
       else let (s1, k) := freeNat s 2; trap s1 n 3 (k * (coreOf s n).pc))
    else if w == 0x10500073 then retire s n len
    else illegal s n w
  else if f3 == 4 then illegal s n w
  else csrExec s n w len

/-- What an instruction of opcode 0x53 gives: whether the result is an f register, its value, its flags and its latency. -/
def fpOpExec (c : Core) (w : Nat) : Option (Bool × Nat × Nat × Nat) :=
  let a := fr c (rvRs1 w)
  let b := fr c (rvRs2 w)
  let x := xr c (rvRs1 w)
  let f3 := rvF3 w
  let rs2 := rvRs2 w
  let md := fpMode f3 (frm c)
  let out := fun (p : Nat × Nat) (k : Nat) => some (true, p.1, p.2, k)
  let outx := fun (p : Nat × Nat) => some (false, p.1, p.2, 2)
  match rvF7 w with
  | 0x00 => md.bind (fun m => out (fpOut (fpFinish m (fpAddVal m (fv a) (fv b)))) 4)
  | 0x04 => md.bind (fun m => out (fpOut (fpFinish m (fpAddVal m (fv a) (fpNegVal (fv b))))) 4)
  | 0x08 => md.bind (fun m => out (fpOut (fpFinish m (fpMulVal (fv a) (fv b)))) 4)
  | 0x0C => md.bind (fun m => out (fpOut (fpFinish m (fpDivVal (fv a) (fv b)))) 16)
  | 0x2C => if rs2 == 0 then md.bind (fun m => out (fpOut (fpFinish m (fpSqrtVal (fv a)))) 16) else none
  | 0x10 =>
    let sb := b &&& 0x80000000
    let ma := a &&& 0x7FFFFFFF
    match f3 with
    | 0 => out (ma ||| sb, 0) 2
    | 1 => out (ma ||| (sb ^^^ 0x80000000), 0) 2
    | 2 => out (a ^^^ sb, 0) 2
    | _ => none
  | 0x14 => if f3 < 2 then out (fpMinMaxRv (f3 == 1) a b) 2 else none
  | 0x50 => if f3 < 3 then outx (fpCompare f3 a b) else none
  | 0x60 => if rs2 < 2 then md.bind (fun m => outx (fpToWord m (rs2 == 1) a)) else none
  | 0x68 => if rs2 < 2 then md.bind (fun m => out (fpFromWord m (rs2 == 1) x) 2) else none
  | 0x70 => if rs2 == 0 && f3 == 0 then outx (a, 0) else if rs2 == 0 && f3 == 1 then outx (fpClass a, 0) else none
  | 0x78 => if rs2 == 0 && f3 == 0 then out (x, 0) 2 else none
  | _ => none

/-- The result of a floating-point instruction written. -/
def fpFinishInstr (s : State) (n w len : Nat) (r : Bool × Nat × Nat × Nat) : State :=
  let (isF, v, fl, k) := r
  let c := accrue (coreOf s n) fl
  let s1 := setCore s n (if k == 16 then busyFor s c 16 else c)
  if isF then finishF s1 n len (rvRd w) v k else finishX s1 n len (rvRd w) v k

/-- An instruction of RV32IMFC, Zicsr or Zifencei, or a word that is none. -/
def baseExec (s0 : State) (n w len : Nat) : State :=
  let s := issueAt s0 n (baseSources (coreOf s0 n) w)
  let c := coreOf s n
  let a := xr c (rvRs1 w)
  let b := xr c (rvRs2 w)
  let f3 := rvF3 w
  let rd := rvRd w
  let next := addW c.pc len
  match rvOp w with
  | 0x37 => finishX s n len rd (immU w) 1
  | 0x17 => finishX s n len rd (addW c.pc (immU w)) 1
  | 0x6F => jump (setCore s n (readyIn s (setX c rd next) (xKey c rd) 1)) n (addW c.pc (immJ w))
  | 0x67 =>
    if f3 != 0 then illegal s n w
    else let t := addW a (immI w); jump (setCore s n (readyIn s (setX c rd next) (xKey c rd) 1)) n (t - t % 2)
  | 0x63 =>
    match branchTaken f3 a b with
    | none => illegal s n w
    | some true => jump s n (addW c.pc (immB w))
    | some false => retire s n len
  | 0x03 =>
    let t := addW a (immI w)
    match f3 with
    | 0 => coreLoad s n len t 1 (.load rd 1 true)
    | 1 => coreLoad s n len t 2 (.load rd 2 true)
    | 2 => coreLoad s n len t 4 (.load rd 4 false)
    | 4 => coreLoad s n len t 1 (.load rd 1 false)
    | 5 => coreLoad s n len t 2 (.load rd 2 false)
    | _ => illegal s n w
  | 0x23 => if f3 < 3 then coreStore s n len (addW a (immS w)) (2 ^ f3) b else illegal s n w
  | 0x13 =>
    if f3 == 1 && rvF7 w != 0 || f3 == 5 && rvF7 w != 0 && rvF7 w != 0x20 then illegal s n w
    else finishX s n len rd (aluOp f3 (f3 == 5 && bitOf w 30) a (immI w)) 1
  | 0x33 =>
    match rvF7 w with
    | 0x00 => finishX s n len rd (aluOp f3 false a b) 1
    | 0x20 => if f3 == 0 || f3 == 5 then finishX s n len rd (aluOp f3 true a b) 1 else illegal s n w
    | 0x01 =>
      if f3 < 4 then finishX s n len rd (mulDiv f3 a b) 2
      else finishX (setCore s n (busyFor s c 34)) n len rd (mulDiv f3 a b) 34
    | _ => illegal s n w
  | 0x0F =>
    match f3 with
    | 0 => retire s n len
    | 1 => retire (setCore s n { c with stale := [] }) n len
    | _ => illegal s n w
  | 0x73 => systemExec s n w len
  | 0x07 => if f3 != 2 || fsOff c then illegal s n w else coreLoad s n len (addW a (immI w)) 4 (.fload rd)
  | 0x27 => if f3 != 2 || fsOff c then illegal s n w else coreStore s n len (addW a (immS w)) 4 (fr c (rvRs2 w))
  | 0x53 =>
    if fsOff c then illegal s n w
    else
      match fpOpExec c w with
      | some r => fpFinishInstr s n w len r
      | none => illegal s n w
  | 0x43 | 0x47 | 0x4B | 0x4F =>
    if fsOff c || bitsOf w 25 2 != 0 then illegal s n w
    else
      match fpMode f3 (frm c) with
      | some md =>
        let r := fpFused (rvOp w) md (fr c (rvRs1 w)) (fr c (rvRs2 w)) (fr c (rvRs3 w))
        fpFinishInstr s n w len (true, r.1, r.2, 4)
      | none => illegal s n w
  | _ => illegal s n w

/-! Xgwin. -/

/-- A new window opened with its link, and the jump (R254); with 14 windows in use it does not execute. -/
def windowCall (s : State) (n len target : Nat) : State :=
  let c := coreOf s n
  if 14 ≤ windowsUsed c then trap s n 24 c.wb
  else
    let w := (c.cwp + 1) % 16
    jump (setCore s n { c with cwp := w, link := tabSet 0 c.link w (addW c.pc len) }) n target

/-- CALLW. -/
def callwExec (s0 : State) (n w len : Nat) : State :=
  let s := issueAt s0 n []
  if rvRd w != 31 then illegal s n w else windowCall s n len (addW (coreOf s n).pc (immJ w))

/-- CALLWR. -/
def callwrExec (s0 : State) (n w len : Nat) : State :=
  let s := issueAt s0 n [xKey (coreOf s0 n) (rvRs1 w)]
  let t := addW (xr (coreOf s n) (rvRs1 w)) (immI w)
  if rvRd w != 31 then illegal s n w else windowCall s n len (t - t % 2)

/-- RETW (R255). -/
def retwExec (s0 : State) (n w : Nat) : State :=
  let s := issueAt s0 n []
  let c := coreOf s n
  if w != 0x100B then illegal s n w
  else if windowsUsed c == 1 then trap s n 25 ((c.wb + 15) % 16)
  else
    let t := tabGet 0 c.link c.cwp
    jump (setCore s n { c with cwp := (c.cwp + 15) % 16 }) n (t - t % 2)

/-- The register that bit k of a mask names (R258). -/
def multiGet (c : Core) (m : Multi) (k : Nat) : Nat :=
  match m.win with
  | none => xr c k
  | some w => if k == 0 then tabGet 0 c.link w else if k < 16 then tabGet 0 c.ins (8 * w + (k - 8)) else tabGet 0 c.locals (8 * w + (k - 16))

def multiSet (c : Core) (m : Multi) (k v : Nat) : Core :=
  match m.win with
  | none => setX c k v
  | some w =>
    if k == 0 then { c with link := tabSet 0 c.link w v }
    else if k < 16 then { c with ins := tabSet 0 c.ins (8 * w + (k - 8)) v }
    else { c with locals := tabSet 0 c.locals (8 * w + (k - 16)) v }

/-- The register that bit k of a mask names, in the table of ready times; the link is in no such table. -/
def multiKey (c : Core) (win : Option Nat) (k : Nat) : Nat :=
  match win with
  | none => xKey c k
  | some w => if k == 0 then 0 else if k < 16 then 8 + 8 * w + (k - 8) else 136 + 8 * w + (k - 16)

/-- The registers that a store by mask reads: its issue waits for each (R251, R258). -/
def multiKeys (c : Core) (win : Option Nat) (mask : Nat) : List Nat := (indicesWhere 32 (bitOf mask)).map (multiKey c win)

/-- The address of register k (R258). -/
def multiAddr (m : Multi) (k : Nat) : Nat := addW m.base (4 * popcount k m.mask)

/-- The mask bits still to transfer (R259). -/
def multiLeft (c : Core) (m : Multi) : List Nat := indicesWhere 32 (fun k => bitOf m.mask k && !bitOf (csrWord c 0x7C2) k)

/-- A register's transfer noted in gmmdone. -/
def multiMark (c : Core) (k : Nat) : Core := setCsrWord c 0x7C2 (setBit (csrWord c 0x7C2) k true)

/-- The last register has completed (R257, R259). -/
def multiFinish (s : State) (n len : Nat) (m : Multi) : State :=
  let c := setCsrWord (coreOf s n) 0x7C2 0
  let sp := csrWord c 0x7C1
  let c1 := match m.frame with
    | 1 => { setCsrWord c 0x7C1 (addW sp 68) with wb := (c.wb + 1) % 16, sd := (c.sd + 1) % 4096 }
    | 2 => { setCsrWord c 0x7C1 (addW sp (2 ^ 32 - 68)) with wb := (c.wb + 15) % 16, sd := (c.sd + 4095) % 4096 }
    | _ => c
  retire (spillDepth (setCore s n c1) n) n len

/-- Registers transferred in order, at most `left` of them before the boundary at which the command ends. -/
def multiRun (n len : Nat) (m : Multi) : List Nat → Nat → State → State
  | [], _, s => multiFinish s n len m
  | _ :: _, 0, s => s
  | k :: r, left + 1, s =>
    let a := multiAddr m k
    let c := coreOf s n
    match coreAccess n a with
    | .outside => accessFault s n (!m.load) Status.range.code a
    | .network => coreRequest s n { addr := a, size := 4, write := !m.load, value := if m.load then 0 else multiGet c m k } (.move m k)
    | .local_ o =>
      let s1 := if m.load then setCore s n (multiSet c m k (localLoad s n o 4)) else localStore s n o 4 (multiGet c m k)
      let s2 := setCore s1 n (multiMark (coreOf s1 n) k)
      let s3 := { s2 with now := s2.now + 2000 }
      multiRun n len m r left s3

/-- SMM and LMM with their masks (R258). -/
def multiExec (s0 : State) (n w len regs : Nat) (load o : Bool) : State :=
  let c0 := coreOf s0 n
  let s := issueAt s0 n (xKey c0 (rvRs1 w) :: xKey c0 (rvRs2 w) :: (if load then [] else multiKeys c0 (if o then some c0.wb else none) (xr c0 (rvRs2 w))))
  let c := coreOf s n
  let mask := xr c (rvRs2 w)
  let m : Multi := { load := load, mask := mask, win := if o then some c.wb else none, base := xr c (rvRs1 w) }
  let names := fun (r : Nat) => r != 0 && bitOf mask r && (!o || c.wb == c.cwp)
  if rvRd w != 0 || bitsOf w 26 6 != 0 then illegal s n w
  else if (!o && bitOf mask 0) || (o && clearBits mask 0x00FFFF01 != 0) || (load && (names (rvRs1 w) || names (rvRs2 w))) then illegal s n w
  else if m.base % 4 != 0 then trap s n (if load then 4 else 6) m.base
  else multiRun n len m (multiLeft c m) regs s

/-- SPILLW (R257). -/
def spillwExec (s0 : State) (n w len : Nat) : State :=
  let s := issueAt s0 n (multiKeys (coreOf s0 n) (some (coreOf s0 n).wb) 0x00FFFF01)
  let c := coreOf s n
  let sp := csrWord c 0x7C1
  if w != 0x400B || !c.tc || c.wb == (c.tw + 15) % 16 then illegal s n w
  else if sp % 4 != 0 then trap s n 6 sp
  else
    let m : Multi := { load := false, mask := 0x00FFFF01, win := some c.wb, base := sp, frame := 1 }
    multiRun n len m (multiLeft c m) 32 s

/-- FILLW (R257). -/
def fillwExec (s0 : State) (n w len : Nat) : State :=
  let s := issueAt s0 n []
  let c := coreOf s n
  let sp := addW (csrWord c 0x7C1) (2 ^ 32 - 68)
  if w != 0x0200400B || !c.tc || c.sd == 0 || decide (15 ≤ windowsUsed c) then illegal s n w
  else if sp % 4 != 0 then trap s n 4 sp
  else
    let m : Multi := { load := true, mask := 0x00FFFF01, win := some ((c.wb + 15) % 16), base := sp, frame := 2 }
    multiRun n len m (multiLeft c m) 32 s

/-- The answer of the network reaches the core that waits for it (R13, R259). -/
def coreAnswer (s : State) (n st v : Nat) (r : NetReq) : State :=
  let c := coreOf s n
  let s1 := setCore s n { c with wait := none }
  if st != 0 && st != Status.restartPending.code then accessFault s1 n r.write st r.addr
  else
    let len := match fetch s n c.pc with | (_, .instr _ l) => l | _ => 4
    match c.wait with
    | some (.load rd size signed) => finishX s1 n len rd (loadValue size signed v) 0
    | some (.fload rd) => finishF s1 n len rd v 0
    | some .store => retire s1 n len
    | some (.move m k) =>
      let c1 := coreOf s1 n
      let c2 := multiMark (if m.load then multiSet c1 m k v else c1) k
      let s2 := setCore s1 n c2
      if (multiLeft c2 m).isEmpty then multiFinish s2 n len m else s2
    | none => s1

/-! Xgdsp. -/

/-- Address register i of X (0) or Y (1) memory, its ring, its length and its step in words (R264). -/
def dspPtr (c : Core) (m i : Nat) : Nat := csrWord c (0x7C8 + 4 * m + i)
def dspRing (c : Core) (m i : Nat) : Nat := bitsOf (csrWord c (0x7D0 + 4 * m + i)) 0 14
def dspLen (c : Core) (m i : Nat) : Nat := bitsOf (csrWord c (0x7D0 + 4 * m + i)) 16 15
def dspStep (c : Core) (m i : Nat) : Int := signedOf 8 (bitsOf (csrWord c (0x7E0 + m)) (8 * i) 8)

/-- The low `n` bits of a value in reverse order. -/
def revBits (n v : Nat) : Nat := (List.range n).foldl (fun a k => if bitOf v k then a + 2 ^ (n - 1 - k) else a) 0

/-- The pointer after a post-modify; none where REVERSE has no ring of a power of two (R265, R266). -/
def postModify (c : Core) (m i mode : Nat) : Option Nat :=
  let p := dspPtr c m i
  let s := dspRing c m i
  let l := dspLen c m i
  let w : Int := (p / 4 : Nat) - (s : Int)
  let move := fun (d : Int) =>
    if l == 0 then wrapInt 16 ((p : Int) + 4 * d)
    else 4 * ((s + ((w + d) % (l : Int)).toNat) % 16384)
  match mode with
  | 0 => some p
  | 1 => some (move (dspStep c m i))
  | 2 => some (move 1)
  | _ =>
    let n := bitLen l - 1
    if l < 2 || l != 2 ^ n then none
    else
      let u := (w % (l : Int)).toNat
      let t := (dspStep c m i % (l : Int)).toNat
      some (4 * ((s + revBits n ((revBits n u + revBits n t) % l)) % 16384))

def setPtr (c : Core) (m i v : Nat) : Core := setCsrWord c (0x7C8 + 4 * m + i) v

/-- The offset of a word of X or Y memory in the core's own memories. -/
def xyOffset (m p : Nat) : Nat := 0x100000 + 0x10000 * m + p

/-- An Xgdsp instruction completes: the next repetition of its REP, or the next instruction (R272). -/
def dspDone (s : State) (n len : Nat) : State :=
  let c := coreOf s n
  match c.rep with
  | some (left, k) =>
    if 1 < left then setCore s n { c with rep := some (left - 1, k + 1), retired := (c.retired + 1) % 2 ^ 64 }
    else retire (setCore s n { c with rep := none }) n len
  | none => retire s n len

/-- An instruction that a REP repeats issues in consecutive NCLK until its last repetition has issued (R272). -/
def repeats (f : State → State) (n : Nat) : Nat → State → State
  | 0, s => s
  | k + 1, s =>
    let s1 := f s
    if (coreOf s1 n).rep.isSome then repeats f n k s1 else s1

/-- The repetitions that a REP has left, or the one issue of an instruction without. -/
def repsLeft (s : State) (n : Nat) : Nat :=
  match (coreOf s n).rep with
  | some r => r.1
  | none => 1

/-- Whether an FMAC-family word has its fixed fields 0 (R276). -/
def fmacOk (w : Nat) : Bool :=
  bitsOf w 7 5 == 0 && (if rvF3 w < 3 then rvRs1 w == 0 else bitsOf w 24 2 == 0 && bitsOf w 20 2 == 0)

/-- The result of an FMAC-family operation with its flags: 0 FMAC, 1 FMSC, 2 FMULA, 3 FMACF, 4 FMSCF (R269). -/
def fmacValue (kind : Nat) (sat : Bool) (acc x y : Nat) : Nat × Nat :=
  let neg := kind == 1 || kind == 4
  let a := if neg then fpNegVal (fv x) else fv x
  let r := if kind == 2 then fpFinish .rne (fpMulVal a (fv y)) else fpFinish .rne (fpFmaExact .rne a (fv y) (fv acc))
  let v := r.1.toNat
  (if sat && bitOf r.2 2 && bitsOf v 0 31 == 0x7F800000 then v - 1 else v, r.2)

/-- The FMAC family (R269, R270). -/
def fmacExec (s0 : State) (n w len kind : Nat) : State :=
  let usesF := kind == 3 || kind == 4
  let s := issueAt s0 n (if usesF then [fKey (rvRs1 w)] else [])
  let c := coreOf s n
  let xi := bitsOf w 26 2
  let yj := bitsOf w 24 2
  let k := match c.rep with | some p => p.2 | none => 0
  let i := (bitsOf w 29 2 + (if bitOf w 28 then k else 0)) % 4
  if !fmacOk w || fsOff c then illegal s n w
  else
    match postModify c 0 xi (bitsOf w 22 2), (if usesF then some 0 else postModify c 1 yj (bitsOf w 20 2)) with
    | some px, some py =>
      let x := localLoad s n (xyOffset 0 (dspPtr c 0 xi)) 4
      let y := if usesF then fr c (rvRs1 w) else localLoad s n (xyOffset 1 (dspPtr c 1 yj)) 4
      let r := fmacValue kind (bitOf w 31) (tabGet 0 c.acc i) x y
      let c1 := accLater s (accrue c r.2) i r.1
      let c2 := setPtr c1 0 xi px
      dspDone (setCore s n (if usesF then c2 else setPtr c2 1 yj py)) n len
    | _, _ => illegal s n w

/-- Whether the unused fields of a move are 0 (R277). -/
def moveOk (w : Nat) : Bool :=
  let zeros := bitsOf w 31 1 == 0 && bitsOf w 20 3 == 0
  let mask := bitsOf w 27 4 == 0
  let index := bitsOf w 25 2 == 0
  let mode := bitsOf w 23 2 == 0
  let fs := rvRs1 w == 0
  let fd := rvRd w == 0
  zeros && match rvF3 w with
  | 0 | 1 => mask && fs
  | 2 | 3 => mask && fd
  | 4 => mask && mode && fs
  | 5 => mask && mode && fd
  | 6 => index && mode && fs && fd
  | _ => mask && index && mode && fs

/-- XLD and YLD (R267). -/
def xyLoad (s0 : State) (n w len m : Nat) : State :=
  let s := issueAt s0 n []
  let c := coreOf s n
  let i := bitsOf w 25 2
  if !moveOk w || fsOff c then illegal s n w
  else
    match postModify c m i (bitsOf w 23 2) with
    | none => illegal s n w
    | some p =>
      let v := localLoad s n (xyOffset m (dspPtr c m i)) 4
      let c1 := setPtr (readyIn s (setF (fsDirty c) (rvRd w) v) (fKey (rvRd w)) 2) m i p
      dspDone (setCore s n c1) n len

/-- XST and YST (R267). -/
def xyStore (s0 : State) (n w len m : Nat) : State :=
  let s := issueAt s0 n [fKey (rvRs1 w)]
  let c := coreOf s n
  let i := bitsOf w 25 2
  if !moveOk w || fsOff c then illegal s n w
  else
    match postModify c m i (bitsOf w 23 2) with
    | none => illegal s n w
    | some p =>
      let s1 := localStore s n (xyOffset m (dspPtr c m i)) 4 (fr c (rvRs1 w))
      dspDone (setCore s1 n (setPtr (coreOf s1 n) m i p)) n len

/-- FMVAF (R271). -/
def fmvafExec (s0 : State) (n w len : Nat) : State :=
  let s := issueAt s0 n []
  let c := coreOf s n
  if !moveOk w || fsOff c then illegal s n w else finishF s n len (rvRd w) (tabGet 0 c.acc (bitsOf w 25 2)) 2

/-- FMVFA (R271). -/
def fmvfaExec (s0 : State) (n w len : Nat) : State :=
  let s := issueAt s0 n [fKey (rvRs1 w)]
  let c := coreOf s n
  if !moveOk w || fsOff c then illegal s n w
  else retire (setCore s n (accLater s c (bitsOf w 25 2) (fr c (rvRs1 w)))) n len

/-- ACCZ (R271). -/
def acczExec (s0 : State) (n w len : Nat) : State :=
  let s := issueAt s0 n []
  let c := coreOf s n
  if !moveOk w then illegal s n w
  else retire (setCore s n ((List.range 4).foldl (fun x i => if bitOf w (27 + i) then accLater s x i 0 else x) c)) n len

/-- ACCSUM (R271). -/
def accsumExec (s0 : State) (n w len : Nat) : State :=
  let s := issueAt s0 n []
  let c := coreOf s n
  let add := fun (a b : Nat) => (fpFinish .rne (fpAddVal .rne (fv a) (fv b))).1.toNat
  let acc := fun (i : Nat) => tabGet 0 c.acc i
  if !moveOk w || fsOff c then illegal s n w
  else finishF s n len (rvRd w) (add (add (acc 0) (acc 1)) (add (acc 2) (acc 3))) 8

/-! REP and LOOP. -/

/-- The instruction is one that REP may repeat (R272). -/
def repeatable (w : Nat) : Bool :=
  (rvOp w == 0x2B && decide (rvF3 w < 5) && fmacOk w) || (rvOp w == 0x5B && decide (rvF3 w < 4) && moveOk w)

/-- An active loop ends at an address. -/
def atLoopEnd (c : Core) (a : Nat) : Bool := (List.range (csrWord c 0x7DE)).any (fun d => csrWord c (0x7DA + 3 * d) == a)

/-- REP and REPR with their count (R272). -/
def repStart (s : State) (n w count : Nat) : State :=
  let c := coreOf s n
  let after := addW c.pc 4
  let ok := match fetch s n after with | (_, .instr v _) => repeatable v | _ => false
  if !ok || decide (4096 < count) || atLoopEnd c c.pc || atLoopEnd c after then illegal s n w
  else if count == 0 then retire s n 8
  else
    let s1 := retire s n 4
    setCore s1 n { coreOf s1 n with rep := some (count, 0) }

/-- REP. -/
def repExec (s0 : State) (n w : Nat) : State :=
  let s := issueAt s0 n []
  if rvRd w != 0 || rvRs1 w != 0 then illegal s n w else repStart s n w (bitsOf w 20 12 + 1)

/-- REPR. -/
def reprExec (s0 : State) (n w : Nat) : State :=
  let s := issueAt s0 n [xKey (coreOf s0 n) (rvRs1 w)]
  if rvRd w != 0 || bitsOf w 20 12 != 0 then illegal s n w else repStart s n w (xr (coreOf s n) (rvRs1 w))

/-- LOOP (R273). -/
def loopExec (s0 : State) (n w : Nat) : State :=
  let s := issueAt s0 n [xKey (coreOf s0 n) (rvRs1 w)]
  let c := coreOf s n
  let imm := bitsOf w 20 12
  let d := csrWord c 0x7DE
  let le := addW c.pc (2 * imm)
  let count := xr c (rvRs1 w)
  if rvRd w != 0 || decide (imm < 2) || decide (2 ≤ d) then illegal s n w
  else
    let b := 0x7D8 + 3 * d
    let c1 := setCsrWord (setCsrWord (setCsrWord c b count) (b + 1) (addW c.pc 4)) (b + 2) le
    if count == 0 then
      match fetch s n le with
      | (s1, .instr _ l) => setCore s1 n { c1 with pc := addW le l, retired := (c1.retired + 1) % 2 ^ 64 }
      | (s1, .illegal _) => setCore s1 n { c1 with pc := addW le 2, retired := (c1.retired + 1) % 2 ^ 64 }
      | (s1, .fault a) => trap s1 n 1 a
    else
      retire (setCore s n (setCsrWord c1 0x7DE (d + 1))) n 4

end Sys2Proof.Machine
end

