-- ==== Sys2Proof/Machine/Noc.lean ====
section
/-! DEFINITION. The mesh, its route tables and network interfaces, bank arbitration, the harrow, and the LPDDR5 interfaces.
Spec: 11_memory_and_network_on_chip.md R308 to R338. -/

set_option Elab.async false

namespace Sys2Proof.Machine

/-- A table as bytes. -/
def tableBytes (f : Nat → Nat) : List Byte := (List.range 64).flatMap (fun t => leBytes 8 (f t))
/-- ActiveTable, with fenced and suspended bits. -/
def activeTable (s : State) (ni : Nat) : List Byte :=
  tableBytes (fun t => clearBits (activeRoute s ni t) 0x6000000000000000 + boolNat (routeFenced s t) <<< 62 + boolNat (routeSuspended s ni t) <<< 61)

/-- ShadowTable written; fenced and suspended are read-only there (R328). -/
def shadowWrite (s : State) (ni : Nat) (b : List Byte) : State :=
  setNi s ni { niOf s ni with shadow := (List.range 64).foldl (fun a t => tabPut a t (clearBits (leAt b (8 * t) 8) 0x6000000000000000)) [] }

/-- The first entry of any shadow table that fails its check. -/
def shadowFailure (s : State) : Option (Nat × Nat) :=
  (List.range 15).findSome? (fun k => ((List.range 64).find? (fun t => !routeOk k t (shadowRoute s k t))).map (fun t => (k, t)))

/-- A route swap or a router reconfiguration runs. -/
def routesBusy (s : State) : Bool := rd s 0x5020 0x03 == 1 || s.noc.reconfig.isSome

/-- The shadow table of an interface as a swap installs it, in the form of the active tables. -/
def checkedTable (s : State) (k : Nat) : Tab Nat := (List.range 64).foldl (fun a t => tabSet (resetRoute k t) a t (shadowRoute s k t)) []

/-- Go of a route swap: the tables checked are those that the swap installs (R331). -/
def swapGo (s : State) : State × Status :=
  if routesBusy s then (s, .state)
  else
    match shadowFailure s with
    | some (k, t) => (setCause (wr (wr (wr s 0x5020 0x03 3) 0x5020 0x04 k) 0x5020 0x05 t) .noc 6, .ok)
    | none =>
      let s1 := setNoc (wr s 0x5020 0x03 1) { s.noc with swapGen := rd s 0x5020 0x01, swapFrom := nclk s }
      ((List.range 15).foldl (fun x k => setNi x k { niOf x k with swapping := true, checked := checkedTable s k }) s1, .ok)

/-- An interface swaps at its first idle NCLK to the table that Go has checked (R331). -/
def niSwap (s : State) (k : Nat) : Option State :=
  let x := niOf s k
  if !x.swapping || !sysRuns s then none
  else
    let s1 := wr (setNi s k { x with active := x.checked, checked := [], swapping := false }) (0x5010 + k) 0x01 s.noc.swapGen
    some (if (List.range 15).any (fun j => (niOf s1 j).swapping) then s1 else setCause (wr s1 0x5020 0x03 2) .noc 4)

/-- All interfaces have swapped within 64 NCLK (R331). -/
def swapsDue (s : State) : State :=
  if rd s 0x5020 0x03 == 1 && decide (s.noc.swapFrom + 64 ≤ nclk s) then (List.range 15).foldl (fun x k => (niSwap x k).getD x) s else s

/-! Router weights (R337, R338). -/

/-- RouterWeights written: staged for the selected router. -/
def weightsWrite (s : State) (b : List Byte) : State × Status :=
  let r := rd s 0x5021 0x01
  if b.any (fun x => x == 0 || decide (15 < x.toNat)) then (s, .range)
  else (setRouter s r { routerOf s r with staged := b }, .ok)

/-- Go of a reconfiguration. -/
def routerGo (s : State) : State × Status :=
  if routesBusy s then (s, .state)
  else (setNoc (wr s 0x5021 0x04 1) { s.noc with reconfig := some (rd s 0x5021 0x01, s.now, s.now) }, .ok)

/-- ReconfigState: SUSPENDING in the NCLK of Go, DRAINING from the next, as the register stands otherwise (R338). -/
def reconfigState (s : State) : Nat :=
  match s.noc.reconfig with
  | some (_, t0, _) => if t0 + 2000 ≤ s.now then 2 else 1
  | none => rd s 0x5021 0x04

/-- The router has drained: its weights apply and the routes resume. -/
def routerApply (s : State) : Option State :=
  match s.noc.reconfig with
  | none => none
  | some (r, t0, idle) =>
    let busy := (List.range 15).any (fun k => (niOf s k).tags.any (fun e => routeThrough k e.2.route r))
    if busy then none
    else if decide (s.now < idle + 32000) then none
    else
      let x := routerOf s r
      let s1 := setRouter s r { x with active := if x.staged.isEmpty then x.active else x.staged }
      let s2 := wr (wr (setNoc s1 { s1.noc with reconfig := none }) 0x5021 0x04 3) 0x5021 0x05 ((s.now - t0) / 2000)
      some (setCause s2 .noc 5)

/-! Requests (R325 to R327, R332 to R335). -/

/-- Flits that a response needs in the buffer of its interface. -/
def responseFlits (r : NetReq) : Nat := if r.write then 1 else 1 + (r.size + 15) / 16

/-- A free tag with room for the response. -/
def freeTag (x : NetIf) (r : NetReq) : Option Nat :=
  if 32 < (x.tags.foldl (fun a e => a + responseFlits e.2.req) 0) + responseFlits r then none
  else (List.range 32).find? (fun k => (tabFind x.tags k).isNone)

/-- An address lies in the spill region of a queue that is not OFF. -/
def inSpillRegion (s : State) (a : Nat) : Bool :=
  (List.range 64).any (fun q => qState s q != 0 && decide (qSpillBase s q ≤ a) && decide (a < qSpillBase s q + qSpillLength s q))

/-- The master code of an interface's access to a bank address (R311): of the queues' interface, spill regions are the spill's and rings the DMA's. -/
def niMaster (s : State) (k a : Nat) : Nat :=
  if k < 8 then 6 + k
  else match k with
    | 8 => if inSpillRegion s a then 4 else 14
    | 9 => 2 | 10 => 3 | 11 => 5 | 12 => 1 | _ => 14

/-- The answer to a request reaches its initiator: the core that waits, or the unit. -/
def netDeliver (s : State) (ni : Nat) (r : NetReq) (st v : Nat) : State :=
  if ni < 8 then coreAnswer s ni st v r
  else { s with answer := { s.answer with status := some (if st == 0 then .ok else if st == 0x06 then .range else if st == 0x07 then .state else if st == 0x0D then .timeout else if st == 0x0E then .absorbed else if st == 0x0F then .fenced else .type), value := v } }

/-- Whether a fence that began less than 8 NCLK ago has reached this interface yet is open (R334). -/
def fenceApplied (s : State) (t : Nat) : State × Bool :=
  let d := targetDomain t
  if domState s d == 3 && decide (s.now < stamp s 0x1511 (d + 1) + 16000) then
    let (s1, k) := freeNat s 2
    (s1, k == 1)
  else (s, true)

/-- A request put under a tag and on its way: at a bank it waits from when it has made its hops, one NCLK each (R314; log 65). -/
def netSend (s : State) (ni k t : Nat) (r : NetReq) : State :=
  let e := activeRoute s ni t
  let h := bitsOf e 56 4
  let x := niOf s ni
  let s1 := setNi s ni { x with issued := x.issued + 1, tags := tabPut x.tags k { req := r, target := t, since := s.now, order := x.issued, route := e, place := physAddr s ni r.addr } }
  let s2 := setNoc s1 { s1.noc with heardAt := tabSet 0 s1.noc.heardAt (targetDomain t) (nclk s + h) }
  if decide (24 ≤ t) && decide (t < 56) then
    setNoc s2 { s2.noc with banks := tabPut s2.noc.banks (t - 24) (tabGet [] s2.noc.banks (t - 24) ++ [{ code := niMaster s ni r.addr, ni := ni, tag := k, since := nclk s + h }]) }
  else s2

/-- A request with its target injected, answered by the interface itself, or left waiting. -/
def netInjectAt (s : State) (ni : Nat) (r : NetReq) (t : Nat) (drop : State → State) : Option State :=
  let n := 0x5010 + ni
  let e := activeRoute s ni t
  let (s1, fence) := if routeFenced s t then fenceApplied s t else (s, false)
  if fence then some (netDeliver (setCause (bump (drop s1) n 0x06) .noc 3) ni r Status.fenced.code 0)
  else if !routeValid e then some (netDeliver (bump (drop s1) n 0x08) ni r Status.range.code 0)
  else if routeSuspended s1 ni t then none
  else (freeTag (niOf s1 ni) r).map fun k => netSend (drop s1) ni k t r

/-- A request leaves its interface (R325, R327, R328, R335); `drop` takes it from the waiting list. -/
def netInject (s : State) (ni : Nat) (r : NetReq) (drop : State → State) : Option State :=
  match targetOf s ni r.addr with
  | none => some (netDeliver (drop s) ni r Status.range.code 0)
  | some t =>
    if inLpddrWindow r.addr && decide (lpddrInstalled s < lpddrExternal s ni r.addr + r.size) then
      some (netDeliver (setCause (drop s) .lpddr 6) ni r Status.range.code 0)
    else netInjectAt s ni r t drop

/-- A request fits its packets: up to four data flits of 16 bytes (R325). -/
def requestFits (size : Nat) : Bool := decide (1 ≤ size) && decide (size ≤ 64)

/-- An interface may inject: it runs, and its domain is ON (R334). -/
def niInjects (s : State) (ni : Nat) : Bool := sysRuns s && decide (ni < 15) && domOn s (niDomain ni)

/-- A request joins those that wait in its interface. -/
def netJoin (s : State) (ni : Nat) (r : NetReq) : State := setNi s ni { niOf s ni with waiting := (niOf s ni).waiting ++ [r] }

/-- The waiting request at a place of the list is answered FENCED where its target is fenced and the interface has applied the fence; nothing else happens to it (R335). -/
def fencedAnswer (s : State) (ni : Nat) (r : NetReq) : State :=
  match targetOf s ni r.addr with
  | some t =>
    if !routeFenced s t then s
    else
      let (s1, fence) := fenceApplied s t
      if fence then netDeliver (setCause (bump (setNi s1 ni { niOf s1 ni with waiting := (niOf s1 ni).waiting.erase r }) (0x5010 + ni) 0x06) .noc 3) ni r Status.fenced.code 0 else s1
  | none => s

/-- Every request that waits in an interface for a fenced target is answered by it, wherever it stands (R335). -/
def fencedWaiting (s : State) (ni : Nat) : State := (niOf s ni).waiting.foldl (fun x r => fencedAnswer x ni r) s

/-- A request that the unit of an interface makes now joins those that wait, and the request at the front leaves where it can; with none made the front is tried again (R325, R327, R335, R338). -/
def netRequest (s0 : State) (ni addr size : Nat) (write : Bool) (v : Nat) : Option State :=
  let s := swapsDue s0
  let made := decide (8 ≤ ni) && requestFits size
  if !niInjects s ni || (!made && (niOf s ni).waiting.isEmpty) then none
  else
    let s1 := fencedWaiting (if made then netJoin s ni { addr := addr, size := size, write := write, value := v } else s) ni
    match (niOf s1 ni).waiting with
    | r :: rest => some ((netInject s1 ni r (fun x => setNi x ni { niOf x ni with waiting := rest })).getD s1)
    | [] => some s1

/-- A request on the routes of a router that is being reconfigured has ended now (R338). -/
def routeIdle (s : State) (ni route : Nat) : State :=
  match s.noc.reconfig with
  | some (r, t0, idle) => if routeThrough ni route r then setNoc s { s.noc with reconfig := some (r, t0, max idle s.now) } else s
  | none => s

/-- The name of the request under a tag at a port of field memory. -/
def netId (ni k : Nat) : Nat := 1 + 32 * ni + k

/-- The request that ends under a tag waits for no port of field memory any more (R70). -/
def netWaitDrop (s : State) (ni k : Nat) (e : NetTag) : State :=
  if decide (e.target < 24) && !(fieldOf s e.target).netWait.isEmpty then
    let x := fieldOf s e.target
    setField s e.target { x with netWait := x.netWait.map (fun w => (w.1, w.2.filter (fun u => u.id != netId ni k))) }
  else s

/-- A tag freed; its generation advances where the interface gave up waiting (R332). -/
def dropTag (s0 : State) (ni k : Nat) (late : Bool) : State :=
  let x := niOf s0 ni
  let s := match tabFind x.tags k with | some e => netWaitDrop (routeIdle s0 ni e.route) ni k e | none => s0
  let x1 := { x with tags := tabErase x.tags k, gens := if late then tabSet 0 x.gens k ((tabGet 0 x.gens k + 1) % 8) else x.gens }
  let s1 := setNi s ni x1
  setNoc s1 { s1.noc with banks := s1.noc.banks.map (fun b => (b.1, b.2.filter (fun w => !(w.ni == ni && w.tag == k)))) }

/-- The domain's ports answer ABSORBED (R334, R336): from STOPPING until it is ON again, or its target is isolated (R333). -/
def absorbs (s : State) (t : Nat) : Bool :=
  let d := domState s (targetDomain t)
  s.noc.isolated.contains t || !(d == 2 || d == 3 || d == 4)

/-- A port answers a request that it has held for PortStallLimit with TIMEOUT; the third in a row isolates its target (R333). The limit never applies at target 61 (R370). -/
def portStall (s : State) (ni k : Nat) : Option State :=
  match tabFind (niOf s ni).tags k with
  | none => none
  | some x =>
    if x.target == 61 || x.waits || x.result.isSome || absorbs s x.target || decide (s.now < x.since + 2000 * (bitsOf x.route 56 4 + rd s 0x5000 0x04)) then none
    else
      let n := tabGet 0 s.noc.stalls x.target + 1
      let s1 := setNoc s { s.noc with stalls := tabSet 0 s.noc.stalls x.target n }
      let s2 := if 3 ≤ n then setNoc s1 { s1.noc with isolated := x.target :: s1.noc.isolated } else s1
      some (netDeliver (dropTag s2 ni k false) ni x.req Status.timeout.code 0)

/-- A target has answered: its run of stalls ends. -/
def stallEnd (s : State) (t : Nat) : State := setNoc s { s.noc with stalls := tabErase s.noc.stalls t }

/-! Banks (R310 to R315). -/

/-- The owner of a bank in an NCLK: the one before a write of BankOwner up to its end (R312). -/
def bankOwnerAt (s : State) (b n : Nat) : Nat :=
  match tabFind s.noc.ownerWas b with
  | some (k, o) => if k == n + 1 then o else rd s 0x5001 (b + 1)
  | none => rd s 0x5001 (b + 1)

/-- The owner of a bank in the present NCLK. -/
def bankOwner (s : State) (b : Nat) : Nat := bankOwnerAt s b (nclk s)

/-- The pair agent may take every NCLK of the banks it owns while the capo is held for its cut; its copy goes to the banks as the cut ends, so it keeps this for as long as a hold may last from then (R315; notes/assumptions/71.md). -/
def cutHeld (s : State) : Bool :=
  (capoHeld s && rd s 0x1302 0x02 == 4) || (rd s 0x1302 0x02 == 5 && decide (s.now ≤ s.pair.cutAt + rd s 0x1302 0x06 * psUs))

/-- The duty that the engine keeps for a code at a bank, in any 256 NCLK (R313). -/
def dutyLimit (s : State) (b code n : Nat) : Option Nat :=
  if code == bankOwnerAt s b n then (if code ≤ 5 then (if code == 1 && cutHeld s then none else some 64) else none)
  else match code with
    | 1 => some 32 | 2 => some 8 | 3 => some 8 | 4 => some 48 | 5 => some 16 | _ => none

/-- The grants of a code at a bank in the 255 NCLK before one. -/
def dutyOf (s : State) (b code n : Nat) : List Nat := (tabGet [] s.noc.duty (8 * b + code)).filter (fun m => decide (n < m + 256))

/-- The code has used its duty at the bank. -/
def dutySpent (s : State) (b code n : Nat) : Bool :=
  match dutyLimit s b code n with
  | some k => decide (k ≤ (dutyOf s b code n).length)
  | none => false

/-- A grant counted in the duty of its code. -/
def dutyCount (s : State) (b code n : Nat) : State :=
  if code ≤ 5 then setNoc s { s.noc with duty := tabPut s.noc.duty (8 * b + code) (dutyOf s b code n ++ [n]) } else s

/-- The request that waits. -/
def bankReq (s : State) (w : BankWait) : Option NetTag := tabFind (niOf s w.ni).tags w.tag

/-- The address that an access asks for next: a spill access's own, or the next 16-byte unit of a request or of a unit's step (R310). -/
def bankNext (s : State) (w : BankWait) : Option Nat :=
  match w.spill, w.unit with
  | some a, _ => some a.addr
  | none, some u => some u.1
  | none, none => (bankReq s w).map (fun x => x.req.addr + w.pos)

/-- The harrow stands in the way of an access in an NCLK: it asks for a borrowed byte, or it is not the owner's in the bank of the borrowed window (R312, R317, R318). -/
def harrowHolds (s : State) (b n : Nat) (w : BankWait) (a : Nat) : Bool :=
  match s.noc.borrowed with
  | some (v, t0, o) =>
    decide (t0 ≤ n) && ((decide (n < t0 + o + 780) && decide (v ≤ a) && decide (a < v + 1024)) || (bankOf v == b && decide (n < t0 + o + 768) && w.code != bankOwnerAt s b n))
  | none => false

/-- An access can be granted at a bank in an NCLK: it has reached it, the harrow lets it, and its code's duty is not spent (R312, R313, R317, R318). -/
def bankAsks (s : State) (b n : Nat) (w : BankWait) : Bool :=
  match bankNext s w with
  | some a => decide (w.since ≤ n) && !dutySpent s b w.code n && !harrowHolds s b n w a
  | none => false

/-- The access of a code that comes next at a bank: a master's own are granted in issue order (R312). -/
def bankFirst (l : List BankWait) (code : Nat) : Option BankWait := l.find? (fun w => w.code == code)

/-- The access that a bank grants in an NCLK: the owner's, else the first in the order of codes; of one code the first issued (R312). -/
def bankChoiceAt (s : State) (b n : Nat) : Option BankWait :=
  let l := tabGet [] s.noc.banks b
  let own := bankOwnerAt s b n
  (own :: List.range 15).findSome? (fun c => (bankFirst l c).filter (bankAsks s b n))

/-- The access that a bank grants in the present NCLK. -/
def bankChoice (s : State) (b : Nat) : Option BankWait := bankChoiceAt s b (nclk s)

/-- A bank's group serves accesses, and its port is not isolated (R333, R334). -/
def bankServes (s : State) (b : Nat) : Bool := let d := domState s (32 + b / 8); (d == 2 || d == 3 || d == 4) && !s.noc.isolated.contains (24 + b)

/-- The wait of an access that was not the owner's, up to its grant in an NCLK, is kept and compared with the alarm (R314). -/
def bankWaited (s : State) (b n : Nat) (w : BankWait) : State :=
  if w.code == bankOwnerAt s b n then s
  else
    let wait := n - w.since
    let s1 := if rd s 0x5004 (b + 1) < min 0xFFFF wait then wr s 0x5004 (b + 1) (min 0xFFFF wait) else s
    if rd s 0x5000 0x03 < wait then setCause s1 .noc 7 else s1

/-- A bank's waiting accesses set. -/
def setBank (s : State) (b : Nat) (l : List BankWait) : State := setNoc s { s.noc with banks := tabSet [] s.noc.banks b l }

/-- The first of a list's accesses equal to one, replaced, or taken out. -/
def waitPut (w : BankWait) (v : Option BankWait) : List BankWait → List BankWait
  | [] => []
  | u :: r => if u = w then v.toList ++ r else u :: waitPut w v r

/-- The grant of the next unit of a request: the bytes up to the end of its aligned 16-byte unit are read or written; the next one waits from the NCLK after, and with the last the answer is there at the end of the next NCLK (R310, R314). -/
def unitGrant (s : State) (b : Nat) (w : BankWait) (x : NetTag) : State :=
  let a := x.req.addr + w.pos
  let n := min (x.req.size - w.pos) (16 - a % 16)
  let acc := if x.req.write then 0 else w.acc + memNat s a n <<< (8 * w.pos)
  let s1 := if x.req.write then memWrite s a (leBytes n (x.req.value >>> (8 * w.pos))) else s
  let l := tabGet [] s1.noc.banks b
  if w.pos + n < x.req.size then setBank s1 b (waitPut w (some { w with pos := w.pos + n, acc := acc, since := nclk s + 1 }) l)
  else
    let s2 := setNi s1 w.ni { niOf s1 w.ni with tags := tabPut (niOf s1 w.ni).tags w.tag { x with result := some (0, acc), readyAt := nclk s + 2 } }
    setBank s2 b (waitPut w none l)

/-- The bank's NCLK is taken, and an owner's grant is one that the harrow of this bank does not get. -/
def bankTaken (s : State) (b n : Nat) (w : BankWait) : State :=
  let owner := match s.noc.borrowed with
    | some (v, t0, o) => some (v, t0, if bankOf v == b && decide (t0 ≤ n) && w.code == bankOwnerAt s b n then o + 1 else o)
    | none => none
  setNoc s { s.noc with borrowed := owner, grantAt := tabPut s.noc.grantAt b (n + 1) }

/-- What every grant does in its NCLK. -/
def bankCount (s : State) (b n : Nat) (w : BankWait) : State := dutyCount (bankTaken (bankWaited s b n w) b n w) b w.code n

/-- A unit of 16 bytes of a unit's larger step is granted in an NCLK; its bytes were read or written with the step (notes/assumptions/71.md). -/
def stepGrant (s : State) (b n : Nat) (w : BankWait) (u : Nat × Nat) : State :=
  let s1 := bankCount s b n w
  setBank s1 b (waitPut w (if u.2 ≤ 1 then none else some { w with since := n + 1, unit := some (u.1 + 16, u.2 - 1) }) (tabGet [] s1.noc.banks b))

/-- What a grant does. -/
def bankGrantTo (s : State) (b : Nat) (w : BankWait) : State :=
  match w.spill, w.unit with
  | some a, _ => let s1 := bankCount s b (nclk s) w; spillDone (setBank s1 b (waitPut w none (tabGet [] s1.noc.banks b))) a
  | none, some u => stepGrant s b (nclk s) w u
  | none, none =>
    let s1 := bankCount s b (nclk s) w
    match bankReq s1 w with
    | some x => unitGrant s1 b w x
    | none => s1

/-- The accesses of larger steps that wait at a bank. -/
def bankSteps (s : State) (b : Nat) : List BankWait := (tabGet [] s.noc.banks b).filter (fun w => w.unit.isSome)

/-- The NCLK that have passed at a bank go to the accesses of larger steps, as far as one asks in them (R310, R312), with fuel. -/
def stepsRun (b : Nat) : Nat → State → State
  | 0, s => s
  | k + 1, s =>
    match bankSteps s b with
    | [] => s
    | l =>
      let n := max (tabGet 0 s.noc.grantAt b) (l.foldl (fun m w => min m w.since) (nclk s))
      if nclk s ≤ n then s
      else stepsRun b k (match (bankChoiceAt s b n).bind (fun w => w.unit.map (fun u => (w, u))) with
        | some (w, u) => stepGrant s b n w u
        | none => setNoc s { s.noc with grantAt := tabPut s.noc.grantAt b (n + 1) })

/-- A bank at the present NCLK. -/
def bankNow (s : State) (b : Nat) : State :=
  if bankServes s b then stepsRun b (2000 + 300 * (bankSteps s b).foldl (fun m w => m + (w.unit.getD (0, 0)).2) 0) s else s

/-- HarrowState: 0 IDLE, 1 SAVE, 2 TEST, 3 RESTORE (R317). -/
def harrowPhase (s0 : State) : Nat :=
  let s := match s0.noc.borrowed with | some (w, _) => bankNow s0 (bankOf w) | none => s0
  match s.noc.borrowed with
  | some (_, t0, o) => let k := harrowDone s t0 o; if k < 64 then 1 else if k < 704 then 2 else if k < 780 then 3 else 0
  | none => 0

/-- Every bank at which something waits, at the present NCLK. -/
def banksNow (s : State) : State := s.noc.banks.foldl (fun x e => bankNow x e.1) s

/-- BankOwner written: it applies from the next NCLK (R312). -/
def bankOwnerWrite (s0 : State) (b v : Nat) : State × Status :=
  let s := bankNow s0 b
  (wr (setNoc s { s.noc with ownerWas := tabPut s.noc.ownerWas b (nclk s + 1, bankOwner s b) }) 0x5001 (b + 1) v, .ok)

/-! The harrow (R316 to R319). -/

/-- The harrow keeps off a window. -/
def harrowBarred (s : State) (a : Nat) : Bool :=
  let b := bankOf a
  bitOf (rd s 0x5002 (b + 1)) ((a / 0x10000) % 16) || !domOn s (32 + b / 8) || (bankOwner s b == 1 && rd s 0x1300 0x01 == 1)

/-- The window after one, with a pass counted at the wrap. -/
def harrowNext (s : State) (a : Nat) : State × Nat :=
  if a < 0x22000000 then (s, a)
  else (setCause (wr s 0x5003 0x05 ((rd s 0x5003 0x05 + 1) % 2 ^ 32)) .noc 1, 0x20000000)

/-- The first window from an address that the harrow may borrow, region by region. -/
def harrowFind : Nat → State → Nat → State × Option Nat
  | 0, s, _ => (s, none)
  | k + 1, s, a =>
    let (s1, a1) := harrowNext s a
    if harrowBarred s1 a1 then harrowFind k s1 (0x10000 * (a1 / 0x10000 + 1)) else (s1, some a1)

/-- The wait of a functional access for a borrowed window, up to the NCLK in which RESTORE ended (R318). -/
def harrowWait (s : State) (w t0 ended : Nat) (u : BankWait) : Nat :=
  match bankNext s u with
  | some a => if decide (w ≤ a) && decide (a < w + 1024) then min 0xFFFF (ended - max u.since t0) else 0
  | none => 0

/-- The wait of a unit's larger step for the borrowed window (R318). -/
def heldWait (s : State) (ended : Nat) : Nat := match s.noc.heldSince with | some n => min 0xFFFF (ended - n) | none => 0

/-- The borrowed window is returned (R318). -/
def harrowReturn (s0 : State) : State :=
  let s := match s0.noc.borrowed with | some (w, _) => bankNow s0 (bankOf w) | none => s0
  match s.noc.borrowed with
  | none => s
  | some (w, t0, o) =>
    let ended := min (nclk s) (t0 + o + 780)
    let longest := (tabGet [] s.noc.banks (bankOf w)).foldl (fun m u => max m (harrowWait s w t0 ended u)) (max (rd s 0x5003 0x09) (heldWait s ended))
    let s1 := wr (setNoc s { s.noc with borrowed := none, heldSince := none }) 0x5003 0x09 longest
    let (s2, a) := harrowNext s1 (w + 1024)
    wr s2 0x5003 0x04 a

/-- A window that was due back is returned. -/
def harrowNow (s : State) : State := if harrowLate s then harrowReturn s else s

/-- HARROW_RESTORE_COMPLETE: RESTORE ends with the 768th access, and the window is returned (R317, R318). -/
def harrowRestore (s : State) : Option State :=
  match s.noc.borrowed with
  | some (_, t0, o) => if 768 ≤ harrowDone s t0 o then some (harrowReturn s) else none
  | none => none

/-- A bank grants one waiting access (R310, R312, R314). -/
def bankGrant (s : State) (b : Nat) : Option State :=
  let z := bankNow (harrowNow s) b
  if !bankServes z b || tabGet 0 z.noc.grantAt b == nclk z + 1 then none
  else (bankChoice z b).map (bankGrantTo z b)

/-- A TEST read that was wrong: counted, with the unit's address and the XOR (R319). -/
def harrowFault (w : Nat) (s : State) (f : Nat × List Byte) : State :=
  if f.1 < 64 then wrBytes (wr (setCause (bump s 0x5003 0x06) .noc 0) 0x5003 0x07 (w + 16 * f.1)) 0x5003 0x08 (bytesAt f.2 0 16) else s

/-- The harrow borrows a window with its first SAVE read, which the bank grants after every other access; `faults` names the units whose TEST reads will be wrong, with their XOR (R316, R317, R319; log 67). -/
def harrowTake (s : State) (w : Nat) (faults : List (Nat × List Byte)) : State :=
  let s1 := setNoc s { s.noc with borrowed := some (w, nclk s, 0), borrowAt := s.now, grantAt := tabPut s.noc.grantAt (bankOf w) (nclk s + 1) }
  faults.foldl (harrowFault w) (wr s1 0x5003 0x04 w)

/-- HARROW_BORROW: every HarrowPeriod the next window is borrowed, in an NCLK that no other access of its bank takes (R312, R316). -/
def harrowBorrow (s : State) (faults : List (Nat × List Byte)) : Option State :=
  let z := harrowNow s
  if rd z 0x5003 0x01 == 0 || z.noc.borrowed.isSome || !sysRuns z || decide (z.now < z.noc.borrowAt + rd z 0x5003 0x02 * psUs) then none
  else
    match harrowFind 514 z (rd z 0x5003 0x04) with
    | (_, none) => none
    | (s2, some w) =>
      let s1 := bankNow s2 (bankOf w)
      if tabGet 0 s1.noc.grantAt (bankOf w) == nclk s1 + 1 || (bankChoice s1 (bankOf w)).isSome then none
      else some (harrowTake s1 w faults)

/-! LPDDR5 (R320 to R324). -/

/-- 0 OFF, 1 INIT, 2 TRAINING, 3 READY, 4 FAILED, 5 SELF_REFRESH. -/
def lpddrState (s : State) (i : Nat) : Nat := rd s (0x5030 + i) 0x04
def lpddrSupplyOn (s : State) (i : Nat) : Bool := bitOf (rd s 0x1501 0x07) (2 + i)

/-- The content of an interface's devices is lost. -/
def lpddrForget (s : State) (i : Nat) : State :=
  { s with mem := s.mem.filter (fun c => decide (c.1 < externalBase) || lpddrInterface s (c.1 - externalBase) != i), memEpoch := s.memEpoch + 1 }

/-- The domain enters STARTING. -/
def lpddrStart (s : State) (i : Nat) : State := enter s (0x5030 + i) 0x04 (if lpddrState s i == 5 then 2 else 1)

/-- The channel of an external address: bit 8 of it, or of the place within interface 1 without interleaving (R322). -/
def lpddrChannel (s : State) (e : Nat) : Nat :=
  if rd s 0x5032 0x00 == 1 || lpddrInterface s e == 0 then (e >>> 8) % 2 else ((e - lpddrSize s 0) >>> 8) % 2

/-- The sequence of JESD209-5 is done. -/
def lpddrInit (s : State) (i : Nat) : Option State := if lpddrState s i == 1 then some (enter s (0x5030 + i) 0x04 2) else none

/-- The bytes that Ranks and DieDensity install on two channels (R320). -/
def lpddrBytes (s : State) (i : Nat) : Nat := 2 * rd s (0x5030 + i) 0x02 * rd s (0x5030 + i) 0x03 * 0x8000000

/-- Every step passes. -/
def lpddrTrained (s : State) (i : Nat) : State :=
  setCause (wr (enter s (0x5030 + i) 0x04 3) (0x5030 + i) 0x06 (lpddrBytes s i)) .lpddr i

/-- A step, 1 to 5, fails. -/
def lpddrTrainFail (s : State) (i step : Nat) : State :=
  setCause (bump (wr (enter s (0x5030 + i) 0x04 4) (0x5030 + i) 0x05 step) (0x5030 + i) 0x08) .lpddr (2 + i)

/-- TRAINING ends: every step has passed, or one of the steps 1 to 5 has failed (R323). -/
def lpddrTrainEnd (s : State) (i failStep : Nat) : Option State :=
  if lpddrState s i != 2 || decide (5 < failStep) then none
  else some (if failStep == 0 then lpddrTrained s i else lpddrTrainFail s i failStep)

/-- The domain leaves ON: self refresh, entered with an all-bank refresh, while the supply outputs are on (R320, R323). -/
def lpddrDown (s : State) (i : Nat) : State :=
  if lpddrState s i == 3 && lpddrSupplyOn s i then
    setCause (enter (setNoc s { s.noc with refreshAt := tabSet 0 s.noc.refreshAt i s.now }) (0x5030 + i) 0x04 5) .lpddr 7
  else s

/-- The supply outputs are switched off: OFF, and the content is lost. -/
def lpddrUnpowered (s : State) (i : Nat) : State := lpddrForget (enter s (0x5030 + i) 0x04 0) i

/-- MR4 read every 32 ms: refresh above nominal is a code above 9 (R320). -/
def lpddrMr4 (s : State) (i code : Nat) : Option State :=
  if lpddrState s i == 3 && decide (tabGet 0 s.noc.mr4At i + 32 * psMs ≤ s.now) then
    let s1 := wr (setNoc s { s.noc with mr4At := tabSet 0 s.noc.mr4At i s.now }) (0x5030 + i) 0x07 (code % 32)
    some (if 9 < code % 32 then setCause s1 .lpddr 4 else s1)
  else none

/-- ZQ calibration latched every 64 ms. -/
def lpddrZq (s : State) (i : Nat) : Option State :=
  if lpddrState s i == 3 && decide (tabGet 0 s.noc.zqAt i + 64 * psMs ≤ s.now) then some (setNoc s { s.noc with zqAt := tabSet 0 s.noc.zqAt i s.now }) else none

/-- WCK2DQ oscillator tracking every 100 ms. -/
def lpddrWck (s : State) (i : Nat) : Option State :=
  if lpddrState s i == 3 && decide (tabGet 0 s.noc.wckAt i + 100 * psMs ≤ s.now) then some (setNoc s { s.noc with wckAt := tabSet 0 s.noc.wckAt i s.now }) else none

/-- Thousandths of the nominal refresh interval that an MR4 code asks for. PRESUMED (unsafe), log 69: JESD209-5; code 0 counts as nominal before the first MR4 read. -/
def refreshScale (code : Nat) : Nat := [1000, 8000, 6000, 4000, 3300, 2500, 2000, 1700, 1300, 1000, 700, 500, 250, 250, 125, 125].getD code 125

/-- The per-bank refresh interval of an interface in ps: an eighth of 3.90625 us, scaled to its refresh rate. PRESUMED (unsafe), log 69. -/
def refreshInterval (s : State) (i : Nat) : Nat := 488281 * refreshScale (rd s (0x5030 + i) 0x07) / 1000

/-- LPDDR_REFRESH: a per-bank refresh of operation, when its interval has passed (R320). -/
def lpddrRefreshDue (s : State) (i : Nat) : Option State :=
  if lpddrState s i == 3 && decide (tabGet 0 s.noc.refreshAt i + refreshInterval s i ≤ s.now) then some (setNoc s { s.noc with refreshAt := tabSet 0 s.noc.refreshAt i s.now }) else none

/-! Fencing (R334, R336). -/

/-- The fence of a domain begins. -/
def fenceBegin (s : State) (d : Nat) : State := setNoc s { s.noc with fenced := if s.noc.fenced.contains d then s.noc.fenced else d :: s.noc.fenced }

/-- The domain is ON again: the fence lifts, stall counts return to 0, and isolation ends where the domain comes from OFF (R333, R336). -/
def fenceEnd (s : State) (d : Nat) (fromOff : Bool) : State :=
  setNoc s { s.noc with fenced := s.noc.fenced.filter (fun x => x != d), isolated := if fromOff then s.noc.isolated.filter (fun t => targetDomain t != d) else s.noc.isolated, stalls := s.noc.stalls.filter (fun e => targetDomain e.1 != d) }

/-- The targets of a domain have received nothing for 64 NCLK (R334). -/
def domainQuiet (s : State) (d : Nat) : Bool := decide (tabGet 0 s.noc.heardAt d + 64 ≤ nclk s)

/-- The network has drained for a domain: no request at its targets and none for 64 NCLK, no tag of its interfaces, no borrowed window, no access waiting at its banks (R334). -/
def networkDrained (s0 : State) (d : Nat) : Bool :=
  let s := banksNow (harrowNow s0)
  (List.range 15).all (fun k => (niOf s k).tags.all (fun e => targetDomain e.2.target != d && niDomain k != d)) && domainQuiet s d
    && s.noc.banks.all (fun e => e.2.isEmpty || 32 + e.1 / 8 != d)
    && (match s.noc.borrowed with | some (w, _) => 32 + bankOf w / 8 != d | none => true)

/-- The accesses waiting at the banks of a group are gone with it, and a borrowed window too. -/
def banksLost (s : State) (d : Nat) : State :=
  let gone := s.noc.banks.filter (fun e => 32 + e.1 / 8 == d)
  let s1 := gone.foldl (fun x e => e.2.foldl (fun y w => match w.spill with | some a => wr y (qs a.queue) 0x09 (rd y (qs a.queue) 0x09 - 1) | none => y) x) s
  setNoc s1 { s1.noc with banks := s1.noc.banks.filter (fun e => 32 + e.1 / 8 != d), borrowed := s1.noc.borrowed.filter (fun e => 32 + bankOf e.1 / 8 != d) }

/-- SYS leaves ON: requests, tables and weights are lost. -/
def nocLost (s : State) : State :=
  setNoc s { mr4At := s.noc.mr4At, zqAt := s.noc.zqAt, wckAt := s.noc.wckAt, refreshAt := s.noc.refreshAt }

end Sys2Proof.Machine
end

