-- ==== Sys2Proof/Machine/Security.lean ====
section
/-! DEFINITION. The boot flash, firmware images, the key store, attestation, the TRNG, the core mailboxes and the tuning cache.
Spec: 15_boot_and_security.md R417 to R436. -/

set_option Elab.async false

namespace Sys2Proof.Machine

def setSecurity (s : State) (x : SecurityState) : State := { s with security := x }

/-- The security unit and the NVM are ON. -/
def securityOn (s : State) : Bool := domOn s 38

/-! Buffers in memory (R371, R427). -/

/-- Where a buffer of core n lies: its X or Y memory, bank memory, or the LPDDR5 window through interface `ni`; RANGE where it lies elsewhere; the answer of the network where it turns the access away (R13, R321, R335). -/
def bufferAddr (s : State) (ni n a len : Nat) : Except Status Nat :=
  match localOffset n a with
  | some o =>
    if decide (0x100000 ≤ o) && decide (o + len ≤ 0x120000) then .ok (coreWindow n + o) else .error .range
  | none =>
    if (decide (0x20000000 ≤ a) && decide (a + len ≤ 0x22000000)) || (decide (0x80000000 ≤ a) && decide (a + len ≤ 0xF0000000)) then
      (match gateStatus (unitGate s ni a len) with
       | some st => .error st
       | none => .ok (physAddr s ni a))
    else .error .range

/-- The accesses to such a buffer go to their banks as master 14, or leave what their answer leaves (R311, R335). -/
def bufferUse (s : State) (ni n a len : Nat) : State :=
  match localOffset n a with
  | some _ => s
  | none =>
    let g := unitGate s ni a len
    if (gateStatus g).isSome then unitTurned s ni g else unitUse s 14 ni a len

/-! The boot flash and its directory (R417, R418). -/

/-- A flash region: the bytes placed there, then erased bytes. -/
def flashRead (s : State) (off len : Nat) : List Byte :=
  let b := (tabGet [] s.nvm.flash off).take len
  b ++ List.replicate (len - b.length) 0xFF

/-- "GFLD". -/
def dirMagic : Nat := 0x444C4647

/-- A copy of the directory: header and entries. -/
def dirCopy (s : State) (k : Nat) : List Byte :=
  let h := flashRead s (0x1000 * k) 0x1000
  h.take (0x20 + 16 * leAt h 7 1)

/-- The copy in use: its number and its bytes. -/
def dirBest (s : State) : Option (Nat × List Byte) :=
  let a := dirCopy s 0
  let b := dirCopy s 1
  (newerBank dirMagic a b).map fun k => (k, if k == 0 then a else b)

/-- A directory entry (R418). -/
structure DirEntry where
  ty : Nat
  slot : Nat
  flags : Nat
  offset : Nat
  length : Nat
  deriving DecidableEq, Repr

def dirEntries (d : List Byte) : List DirEntry :=
  (List.range (leAt d 7 1)).map fun i =>
    let o := 0x20 + 16 * i
    { ty := leAt d o 1, slot := leAt d (o + 1) 1, flags := leAt d (o + 2) 2, offset := leAt d (o + 4) 4, length := leAt d (o + 8) 4 }

def dirPreferred (d : List Byte) : Nat := leAt d 6 1

/-- A directory's bytes. -/
def dirBytes (preferred seq : Nat) (es : List DirEntry) : List Byte :=
  bankBytes (leBytes 4 dirMagic ++ leBytes 2 1 ++ leBytes 1 preferred ++ leBytes 1 es.length ++ leBytes 4 seq)
    (es.flatMap fun e => leBytes 1 e.ty ++ leBytes 1 e.slot ++ leBytes 2 e.flags ++ leBytes 4 e.offset ++ leBytes 4 e.length ++ leBytes 4 0)

/-! Firmware images (R419, R420). -/

def fwSize (b : List Byte) : Nat := leAt b 0x08 4
def fwRollback (b : List Byte) : Nat := leAt b 0x10 4
def fwKeyId (b : List Byte) : Nat := leAt b 0x14 4
def fwSectionCount (b : List Byte) : Nat := leAt b 0x18 2
def fwVersion (b : List Byte) : List Byte := (bytesAt b 0x1C 32).takeWhile (fun c => c != 0)
def fwStart (b : List Byte) (n : Nat) : Nat := leAt b (0x3C + 4 * n) 4
/-- The bytes before the digest. -/
def fwBodySize (b : List Byte) : Nat := lessBy (fwSize b) (64 + 4627)
def fwDigest (b : List Byte) : List Byte := bytesAt b (fwBodySize b) 64

/-- Step 1 of R420; `len` is the length that the image must have. -/
def fwHeaderOk (b : List Byte) (len : Nat) : Bool :=
  leAt b 0 4 == 0x49574647 && leAt b 4 2 == 1 && leAt b 6 2 == 128 && leAt b 0x7C 4 == crc32c (bytesAt b 0 0x7C) && leAt b 0x0C 4 == 0xB0
    && leAt b 0x1A 2 == 0 && (bytesAt b 0x5C 32).all (fun c => c == 0) && fwSize b == len && decide (len ≤ 0x200000)
    && decide (128 + 64 + 4627 ≤ len) && decide (1 ≤ fwSectionCount b) && decide (fwSectionCount b ≤ 64)

/-- A section: target, length, and the offset of its data; none where it is a fill. -/
structure FwSection where
  target : Nat
  length : Nat
  data : Option Nat
  deriving DecidableEq, Repr

/-- The sections from an offset; none where they do not end at the digest or a descriptor's reserved bits are not 0 (R5; notes/assumptions/89.md). -/
def fwSections (b : List Byte) : Nat → Nat → Option (List FwSection)
  | 0, off => if off == fwBodySize b then some [] else none
  | n + 1, off =>
    if fwBodySize b < off + 16 || 1 < leAt b (off + 8) 4 || leAt b (off + 12) 4 != 0 then none
    else
      let len := leAt b (off + 4) 4
      let fill := bitOf (leAt b (off + 8) 4) 0
      let size := if fill then 0 else (len + 15) / 16 * 16
      (fwSections b n (off + 16 + size)).map fun r => { target := leAt b off 4, length := len, data := if fill then none else some (off + 16) } :: r

def fwSectionList (b : List Byte) : Option (List FwSection) := fwSections b (fwSectionCount b) 128

/-- A section's target is allowed (step 5). -/
def fwTargetOk (s : State) (x : FwSection) : Bool :=
  let e := x.target + x.length
  let inCore := decide (0x10000000 ≤ x.target) && decide (e ≤ 0x18000000) && (x.length == 0 || x.target / 0x1000000 == (e - 1) / 0x1000000)
  let inBank := decide (0x20200000 ≤ x.target) && decide (e ≤ 0x22000000) && !overlaps x.target x.length (rd s 0x2605 0x01) (rd s 0x2605 0x02)
  inCore || inBank

/-- No two sections share a byte. -/
def fwDisjoint : List FwSection → Bool
  | [] => true
  | x :: r => r.all (fun y => !overlaps x.target x.length y.target y.length) && fwDisjoint r

/-- Step 5 of R420. -/
def fwSectionsOk (s : State) (b : List Byte) : Bool :=
  match fwSectionList b with
  | none => false
  | some l => l.all (fwTargetOk s) && fwDisjoint l && (List.range 8).all (fun n => let a := fwStart b n; decide (a < 0x20000) || a == 0xFFFFFFFF)

/-- The type of a key slot as KeySlotType gives it. -/
def keyType (s : State) (k : Nat) : Nat := if k < 48 then (tabGet ({} : KeySlot) s.keys k).ty else 0
def keyBytes (s : State) (k : Nat) : List Byte := (tabGet ({} : KeySlot) s.keys k).bytes

/-- The step of R420 that fails first, with its code. -/
def fwCheck (s : State) (b : List Byte) (len : Nat) : Option (Nat × Status) :=
  if !fwHeaderOk b len then some (1, .range)
  else if keyType s (fwKeyId b) != 2 || decide (fwRollback b < s.nvm.firmwareFloor) then some (2, .auth)
  else if sha3_512 (b.take (fwBodySize b)) != fwDigest b then some (3, .auth)
  else if !Config.mldsaVerify (keyBytes s (fwKeyId b)) (fwDigest b) [] (b.drop (fwBodySize b + 64)) then some (4, .auth)
  else if !fwSectionsOk s b then some (5, .range)
  else none

/-- AUTH_FAIL is set where a check of an image or a key update refuses with AUTH. -/
def authFail (s : State) (st : Status) : State := if st == .auth then setCause s .boot 5 else s

/-! Updating firmware in service (R424). -/

/-- The directory that an update starts from: the copy in use, or one that gives both slots a place where there is none. -/
def updateDir (s : State) : Nat × Nat × List DirEntry × Nat :=
  match dirBest s with
  | some (k, d) => (k, dirPreferred d, dirEntries d, leAt d 8 4)
  | none => (1, 1, [{ ty := 1, slot := 0, flags := 0, offset := 0x2000, length := 0 }, { ty := 2, slot := 0, flags := 0, offset := 0x202000, length := 0 }], 0)

/-- A write of FirmwareImage with its turn come: checked, and its write to the slot that the directory does not prefer begins. FlashState tells of a check that fails too: DESIGN CHOICE, log 172. -/
def firmwareImage (s : State) (b : List Byte) : State × Status :=
  if s.security.updating.isSome then (s, .state)
  else
    match fwCheck s b b.length with
    | some (_, st) => (wr (enter (authFail s st) 0x1403 0x01 7) 0x1403 0x02 st.code, st)
    | none => (wr (setSecurity (enter s 0x1403 0x01 2) { s.security with updating := some b }) 0x1403 0x02 0, .ok)

/-- How far an update is: 2 ERASE, 3 WRITE, 4 VERIFY or 5 DIRECTORY; how long each lasts is free (R424; DESIGN CHOICE, log 172). -/
def flashStage (s : State) : Nat :=
  let dt := s.now - stamp s 0x1403 0x01
  let ends := fun (k : Nat) => ((List.range (k + 1)).map (Config.flashTime (stamp s 0x1403 0x01))).foldl (· + ·) 0
  2 + ((List.range 3).filter (fun k => decide (ends k ≤ dt))).length

/-- FlashState as it reads. -/
def flashState (s : State) : Nat := if s.security.updating.isSome then flashStage s else rd s 0x1403 0x01

/-- The flash as a reset leaves it in an update: its slot as it was, not valid, or written, and the directory written or not, as far as the update is. The directory names a verified image in each (R424). -/
def flashCut (s : State) : Tab (List Byte) :=
  match s.security.updating with
  | none => s.nvm.flash
  | some b =>
    let (k, preferred, es, seq) := updateDir s
    let ty := if preferred == 0 then 2 else 1
    match es.find? (fun e => e.ty == ty) with
    | none => s.nvm.flash
    | some e =>
      let written := tabPut s.nvm.flash e.offset b
      let es' := es.map (fun x => if x.ty == ty then { x with length := b.length } else x)
      let gone := tabErase s.nvm.flash e.offset
      let free := (Config.freeByte s.memEpoch (2 ^ 64 + 2)).toNat % 2 == 0
      match flashStage s with
      | 2 => if free then s.nvm.flash else gone
      | 3 => if free then gone else written
      | 4 => written
      | _ => if free then written else tabPut written (0x1000 * (1 - k)) (dirBytes (1 - preferred) (seq + 1) es')

/-- The slot and the older directory copy are written; a read-back that differs ends the update FAILED. -/
def flashEnd (s : State) (ok : Bool) : Option State :=
  match s.security.updating with
  | none => none
  | some b =>
    let (k, preferred, es, seq) := updateDir s
    let ty := if preferred == 0 then 2 else 1
    let s1 := setSecurity s { s.security with updating := none }
    some (setCause (match es.find? (fun e => e.ty == ty) with
      | some e =>
        if ok then
          let es' := es.map (fun x => if x.ty == ty then { x with length := b.length } else x)
          let s2 := setNvm s1 { s1.nvm with flash := tabPut (tabPut s1.nvm.flash e.offset b) (0x1000 * (1 - k)) (dirBytes (1 - preferred) (seq + 1) es') }
          wr (wr s2 0x1403 0x01 6) 0x1403 0x02 0
        else wr (wr (setNvm s1 { s1.nvm with flash := tabErase s1.nvm.flash e.offset }) 0x1403 0x01 7) 0x1403 0x02 Status.storeFail.code
      | none => wr (wr s1 0x1403 0x01 7) 0x1403 0x02 Status.storeFail.code) .boot 7)

/-- A write of FirmwareRollbackFloor (R423). -/
def firmwareFloor (s : State) (v : Nat) : State × Status :=
  if decide (v < s.nvm.firmwareFloor) || decide (rd s 0x1401 0x02 < v) then (s, .range)
  else if !domOn s 40 then (s, .storeFail)
  else (setNvm (wr s 0x1401 0x01 v) { s.nvm with firmwareFloor := v }, .ok)

/-! Keys (R430 to R432). -/

def setKey (s : State) (k : Nat) (x : KeySlot) : State := { s with keys := tabSet {} s.keys k x }

/-- A write of OwnerInstall; `nvm` tells whether the key store takes it, which it does not with PD40 OFF. -/
def ownerInstall (s : State) (b : List Byte) (nvm : Bool) : State × Status :=
  if keyType s 1 != 0 then (s, .state) else if !nvm || !domOn s 40 then (s, .storeFail) else (setKey s 1 { ty := 1, bytes := b }, .ok)

/-- The types that a slot may hold (R430), public keys among them. -/
def keyTypeAllowed (slot ty : Nat) : Bool :=
  if slot == 1 then ty == 1 else if slot < 16 then decide (2 ≤ slot) && decide (2 ≤ ty) && decide (ty ≤ 4) else decide (slot < 48) && ty == 5

def kuOp (b : List Byte) : Nat := leAt b 6 1
def kuSlot (b : List Byte) : Nat := leAt b 7 1
def kuType (b : List Byte) : Nat := leAt b 8 1
def kuKeyLength (b : List Byte) : Nat := leAt b 0x0C 4

/-- Step 1 of R432. -/
def kuFormOk (b : List Byte) : Bool :=
  let scope := leAt b 9 1
  let op := kuOp b
  b.length == 32 + kuKeyLength b + 4627 && leAt b 0 4 == 0x59454B47 && leAt b 4 2 == 1 && leAt b 0x18 8 == 0
    && (scope == 0 || (scope == 1 && leAt b 0x0A 2 == 0)) && decide (1 ≤ op) && decide (op ≤ 3) && decide (1 ≤ kuSlot b) && keyTypeAllowed (kuSlot b) (kuType b)
    && (op != 3 || kuSlot b == 1) && (op != 2 || kuSlot b != 1)
    && kuKeyLength b == (if op == 2 then 0 else if kuType b == 5 then 32 else 2592)

/-- A stream slot is named by an allotment that is not EMPTY. -/
def streamNamed (s : State) (k : Nat) : Bool :=
  (List.range 32).any (fun a => rd s (0x4021 + 2 * a) 0x01 != 0 && leAt (tabGet [] s.serial.grants a) 0x16 1 == k)

/-- The step of R432 that fails first, with its status. -/
def kuCheck (s : State) (b : List Byte) : Option Status :=
  if !kuFormOk b then some .range
  else
    let n := 32 + kuKeyLength b
    if keyType s 1 != 1 || !Config.mldsaVerify (keyBytes s 1) (sha3_512 (b.take n)) [] (b.drop n) then some .auth
    else if decide (leAt b 0x10 8 ≤ s.nvm.keyFloor) || (leAt b 9 1 == 0 && leAt b 0x0A 2 != rd s 0x1200 0x01) then some .auth
    else if (kuOp b == 1 && keyType s (kuSlot b) != 0) || (kuOp b == 2 && kuType b == 5 && streamNamed s (kuSlot b)) then some .state
    else none

/-- A key update with its check made: refused, or applied. -/
def keyUpdateChecked (s : State) (b : List Byte) (nvm : Bool) : Option Status → State × Status
  | some st => (authFail (wr s 0x1406 0x32 st.code) st, st)
  | none =>
    if !nvm || !domOn s 40 then (wr s 0x1406 0x32 Status.storeFail.code, .storeFail)
    else
      let key : KeySlot := if kuOp b == 2 then {} else { ty := kuType b, bytes := bytesAt b 32 (kuKeyLength b) }
      let s1 := wr (wr (setKey s (kuSlot b) key) 0x1406 0x31 (leAt b 0x10 8)) 0x1406 0x32 0
      (setCause (setNvm s1 { s1.nvm with keyFloor := leAt b 0x10 8 }) .boot 4, .ok)

/-- A write of KeyUpdate. -/
def keyUpdate (s : State) (b : List Byte) (nvm : Bool) : State × Status := keyUpdateChecked s b nvm (kuCheck s b)

/-- PublicKey of the selected slot (`0x1408`). -/
def publicKey (s : State) : Except Status (List Byte) :=
  let k := rd s 0x1408 0x01
  if keyType s k == 0 || keyType s k == 5 then .error .state else .ok (bytesAt (keyBytes s k) 0 2592)

/-! Identity and attestation (R433 to R435). -/

def deviceUid : List Byte := (List.range 16).map Config.deviceUid

/-- "AN6480B0-FC1728-I". -/
def orderingCode : List Byte := [0x41, 0x4E, 0x36, 0x34, 0x38, 0x30, 0x42, 0x30, 0x2D, 0x46, 0x43, 0x31, 0x37, 0x32, 0x38, 0x2D, 0x49]

/-- IdentityCertificate. -/
def certificate (s : State) : List Byte :=
  leBytes 4 0x54524347 ++ leBytes 2 1 ++ leBytes 2 0 ++ deviceUid ++ (List.range 8).map (fun i => Config.certificateByte (0x18 + i))
    ++ bytesAt orderingCode 0 32 ++ bytesAt (keyBytes s 0) 0 2592 ++ (List.range 4627).map (fun i => Config.certificateByte (0xA60 + i))

/-- FirmwareDigest: 64 bytes of 0 while no verified image runs. -/
def runningDigest (s : State) : List Byte := bytesAt (rdBytes s 0x1020 0x04) 0 64

/-- tuning_digest (R435). -/
def tuningDigest (s : State) : List Byte :=
  sha3_512 ((List.range 24).flatMap fun f =>
    (List.range 8).flatMap fun k =>
      let x := slotOf (fieldOf s f) k
      if x.st == 2 || x.st == 3 || x.st == 4 then
        leBytes 1 f ++ leBytes 1 k ++ leBytes 1 x.st ++ List.replicate 5 0 ++ leBytes 8 x.tuningId ++ bytesAt x.digest 0 64
      else [])

/-- key_digest. -/
def keyDigest (s : State) : List Byte :=
  sha3_512 ((List.range 48).flatMap fun k => leBytes 1 (keyType s k) ++ (if keyType s k == 5 then [] else bytesAt (keyBytes s k) 0 2592))

/-- parameter_digest. -/
def parameterDigest (s : State) : List Byte :=
  if rd s 0x1102 0x06 == 0 then List.replicate 64 0 else sha3_512 (if rd s 0x1102 0x04 == 0 then s.nvm.paramA else s.nvm.paramB)

/-- Bytes 0x000 to 0x14F of a report. -/
def reportBody (s : State) (nonce : List Byte) : List Byte :=
  leBytes 4 0x54544147 ++ leBytes 2 1 ++ leBytes 2 (rd s 0x1200 0x01) ++ deviceUid ++ bytesAt nonce 0 32 ++ leBytes 8 (ptpTime s)
    ++ leBytes 4 (boolNat s.security.paramsDirty + 2 * (rd s 0x1400 0x03 % 2) + 4 * boolNat (rd s 0x1230 0x08 != 4) + 8 * boolNat (rd s 0x140B 0x01 == 2))
    ++ leBytes 4 (rd s 0x1401 0x02) ++ leBytes 4 (rd s 0x2606 0x00) ++ leBytes 4 0
    ++ runningDigest s ++ tuningDigest s ++ parameterDigest s ++ keyDigest s

/-- A write of AttestNonce: the state is captured. -/
def attestNonce (s : State) (nonce : List Byte) : State × Status :=
  if rd s 0x140A 0x02 == 1 || !securityOn s then (s, .state)
  else (signAsk (setSecurity (enter s 0x140A 0x02 1) { s.security with attesting := reportBody s nonce }) .attest, .ok)

/-- The report has been hashed, and its turn at the ML-DSA-87 engine has come (R426). -/
def attestServed (s : State) : Bool := rd s 0x140A 0x02 == 1 && securityOn s && s.security.signing.head? == some .attest && hashFree s (stamp s 0x140A 0x02)

/-- The report is signed. -/
def attestEnd (s : State) : Option State :=
  if !attestServed s then none
  else
    let (s1, rnd) := signRandom s
    let b := s.security.attesting
    let sig := bytesAt (Config.mldsaSign (keyBytes s 0) (sha3_512 b) [] rnd) 0 4627
    some (setCause (signNext (setSecurity (enter s1 0x140A 0x02 2) { s1.security with attesting := [], report := b ++ sig })) .boot 6)

/-! The TRNG (R429). -/

/-- Random output: the SHA3-512 of samples, `n` bytes of it. -/
def trngBytes (s : State) (n : Nat) : State × List Byte := freeBytes n s

/-- A health test fails. -/
def trngFail (s : State) : State := setCause (bump (enter s 0x140B 0x01 2) 0x140B 0x03) .boot 2

/-- A write of 1 to TrngRestart. -/
def trngRestart (s : State) : State := enter s 0x140B 0x01 0

/-- The start-up test ends. -/
def trngStarted (s : State) (ok : Bool) : Option State :=
  if rd s 0x140B 0x01 != 0 || !securityOn s then none else some (if ok then enter s 0x140B 0x01 1 else trngFail s)

/-- A read of Random. -/
def randomRead (s : State) : State × Except Status (List Byte) :=
  if rd s 0x140B 0x01 == 2 || !securityOn s then (s, .error .state)
  else let (s1, b) := trngBytes s 32; (s1, .ok b)

/-! The tuning cache (R436). -/

/-- Bytes of the cache region. -/
def cacheSize : Nat := 3200 * 1024

def cacheFree (s : State) : Nat := cacheSize - s.cache.foldl (fun a e => a + e.2.length) 0

/-- A write of CacheInstall. -/
def cacheInstall (s : State) (b : List Byte) : State × Status :=
  let r : State × Status := match imgAuthCheck s b b.length (rd s 0x2605 0x02) with
    | some (_, st) => (authFail s st, st)
    | none =>
      match (List.range 63).find? (fun k => (tabFind s.cache k).isNone) with
      | none => (s, .range)
      | some k =>
        if cacheFree s < b.length then (s, .range)
        else if !domOn s 40 then (s, .storeFail)
        else ({ s with cache := tabPut s.cache k b }, .ok)
  (wr r.1 0x140C 0x03 r.2.code, r.2)

/-- A write of CacheErase. -/
def cacheErase (s : State) (k : Nat) : State × Status :=
  let r : State × Status :=
    if loadState s == 1 && rd s 0x2603 0x01 == 1 && rd s 0x2603 0x03 == k then (s, .state)
    else if !domOn s 40 then (s, .storeFail)
    else ({ s with cache := tabErase s.cache k }, .ok)
  (wr r.1 0x140C 0x03 r.2.code, r.2)

/-! Checks of images and key updates (R426). -/

/-- A check with its turn come. -/
def secCheck (s : State) (fn : ObjFn) (b : List Byte) (nvm : Bool) : State × Status :=
  match fn with
  | .firmwareImage => firmwareImage s b
  | .keyUpdate => keyUpdate s b nvm
  | _ => cacheInstall s b

/-- A write that asks for a check: made at once while neither engine serves a request, else it waits; a firmware image that waits shows CHECK. -/
def secCheckAsk (s : State) (fn : ObjFn) (b : List Byte) (nvm : Bool) : State × Option Status :=
  if s.security.hashing.isEmpty && s.security.signing.isEmpty then
    let r := secCheck s fn b nvm
    (r.1, some r.2)
  else (if fn == .firmwareImage && s.security.updating.isNone then enter s 0x1403 0x01 1 else s, none)

/-! Core mailboxes (R425 to R428). -/

def mailboxOf (s : State) (n : Nat) : Mailbox := tabGet {} s.security.mailboxes n
def setMailbox (s : State) (n : Nat) (x : Mailbox) : State := setSecurity s { s.security with mailboxes := tabSet {} s.security.mailboxes n x }

/-- Core n's request joins those of the engine that its command needs: RANDOM needs neither (R426; notes/assumptions/145.md). -/
def mailboxAsk (s : State) (n v : Nat) : State :=
  if v ≤ 2 then hashAsk s (.mailbox n) else if v ≤ 4 then signAsk s (.mailbox n) else s

/-- COMMAND written (R427, R429). -/
def mailboxCommand (s : State) (n v : Nat) : State × Status :=
  let x := mailboxOf s n
  if x.status % 256 == 1 then (s, .state)
  else if v == 0 || decide (5 < v) then (s, .range)
  else if v == 5 && rd s 0x140B 0x01 == 2 then (s, .state)
  else (mailboxAsk (setMailbox s n { x with command := v, status := 1 }) n v, .ok)

/-- A store to core n's mailbox. -/
def mailboxWrite (s : State) (n off v : Nat) : State × Status :=
  let x := mailboxOf s n
  match off with
  | 0x00 => mailboxCommand s n v
  | 0x04 => (s, .readOnly)
  | 0x08 => (setMailbox s n { x with source := v }, .ok)
  | 0x0C => (setMailbox s n { x with length := v }, .ok)
  | 0x10 => (setMailbox s n { x with dest := v }, .ok)
  | 0x14 => (setMailbox s n { x with outLength := v }, .ok)
  | 0x18 => (setMailbox s n { x with key := v }, .ok)
  | 0x1C => (setMailbox s n { x with sig := v }, .ok)
  | _ => (s, .range)

/-- A load from core n's mailbox. -/
def mailboxRead (s : State) (n off : Nat) : Except Status Nat :=
  let x := mailboxOf s n
  match off with
  | 0x00 => .error .writeOnly
  | 0x04 => .ok x.status
  | 0x08 => .ok x.source
  | 0x0C => .ok x.length
  | 0x10 => .ok x.dest
  | 0x14 => .ok x.outLength
  | 0x18 => .ok x.key
  | 0x1C => .ok x.sig
  | _ => .error .range

/-- "GAPP". -/
def mailboxContext : List Byte := [0x47, 0x41, 0x50, 0x50]

/-- The bytes of a buffer of core n. -/
def mailboxBuffer (s : State) (n a len : Nat) : Except Status (List Byte) := (bufferAddr s 14 n a len).map fun p => netLoad (len + 1) s p len

/-- What a command writes to DEST. -/
def mailboxResult (s : State) (n : Nat) (x : Mailbox) : State × Except Status (List Byte) :=
  let outOk := decide (1 ≤ x.outLength) && decide (x.outLength ≤ 65536)
  match x.command with
  | 1 => (s, (mailboxBuffer s n x.source x.length).map sha3_512)
  | 2 => (s, if outOk then (mailboxBuffer s n x.source x.length).map (fun m => shake256 m x.outLength) else .error .range)
  | 3 =>
    let k := keyType s x.key
    if decide (48 ≤ x.key) || !(x.key == 0 || k == 2 || k == 3 || k == 4) then (s, .error .range)
    else (s, do
      let m ← mailboxBuffer s n x.source x.length
      let g ← mailboxBuffer s n x.sig 4627
      if Config.mldsaVerify (keyBytes s x.key) m mailboxVerifyContext g then .ok [] else .error .auth)
  | 4 =>
    let (s1, rnd) := signRandom s
    (s1, (mailboxBuffer s n x.source x.length).map (fun m => bytesAt (Config.mldsaSign (keyBytes s 0) m mailboxContext rnd) 0 4627))
  | 5 =>
    if !outOk then (s, .error .range)
    else if rd s 0x140B 0x01 == 2 then (s, .error .state)
    else let (s1, b) := trngBytes s x.outLength; (s1, .ok b)
  | _ => (s, .error .range)
where
  /-- The context of a mailbox VERIFY: empty, as R87 makes the signatures of images. -/
  mailboxVerifyContext : List Byte := []

/-- Core n's mailbox is BUSY and its turn at its engine has come (R426). -/
def mailboxServed (s : State) (n : Nat) : Bool :=
  let x := mailboxOf s n
  x.status % 256 == 1 && securityOn s
    && (if x.command ≤ 2 then s.security.hashing.head? == some (.mailbox n) else if x.command ≤ 4 then s.security.signing.head? == some (.mailbox n) else true)

/-- The engine that core n's command needed takes its next request. -/
def mailboxNext (s : State) (v : Nat) : State := if v ≤ 2 then hashNext s else if v ≤ 4 then signNext s else s

/-- The bytes that a command reads from SOURCE and SIG. -/
def mailboxUse (s : State) (n : Nat) (x : Mailbox) : State :=
  if 5 ≤ x.command then s
  else
    let s1 := bufferUse s 14 n x.source x.length
    if x.command == 3 then bufferUse s1 14 n x.sig 4627 else s1

/-- A mailbox operation ends DONE or FAILED; one with a buffer in a borrowed window waits (R318). -/
def mailboxEnd (s : State) (n : Nat) : Option State :=
  let x := mailboxOf s n
  if !mailboxServed s n then none
  else if rangeBorrowed s x.source x.length || rangeBorrowed s x.dest x.outLength then turned s 14 .borrowed
  else
    let (s0, r) := mailboxResult (mailboxUse s n x) n x
    let s1 := mailboxNext s0 x.command
    some (match r with
      | .error e => setMailbox s1 n { x with status := 3 + 256 * e.code }
      | .ok b =>
        match bufferAddr s1 14 n x.dest b.length with
        | .error e => if b.isEmpty then setMailbox s1 n { x with status := 2 } else setMailbox (bufferUse s1 14 n x.dest b.length) n { x with status := 3 + 256 * e.code }
        | .ok p => setMailbox (netStore b.length (bufferUse s1 14 n x.dest b.length) p b) n { x with status := 2 })

end Sys2Proof.Machine
end

