-- ==== Sys2Proof/Machine/Power.lean ====
section
/-! DEFINITION. Supplies, domains, power modes, clocks and resets.
Spec: 14_power_and_clocks.md R395 to R413; 17_balls_and_electrical.md R451, R458. -/

set_option Elab.async false

namespace Sys2Proof.Machine

def setPower (s : State) (x : PowerState) : State := { s with power := x }

/-- BootState (R414). -/
def bootState (s : State) : Nat := rd s 0x1400 0x01

/-- The dictionary can be reached: SYS is ON and boot has passed step 2 (R414, R415). -/
def dictOn (s : State) : Bool := domOn s 41 && decide (2 ≤ bootState s)

/-! Functions that a domain houses (R401). -/

/-- Every function housed in a domain stopped as by a write of 0 to its enable, with the queues of R116. -/
def housedStop (s : State) (d : Nat) : State :=
  if d < 24 then retuneWithdraw (loadTargetGone (fieldRunWrite s d 0).1 (fun f => f == d)) d
  else if d < 28 then (coreRunWrite (coreRunWrite s (2 * (d - 24)) 0).1 (2 * (d - 24) + 1) 0).1
  else if d < 32 then moveOrdered (lanesFenced s d)
  else if d < 38 then queuesFenced s d
  else if d == 39 then
    (List.range 2).foldl (fun x p => wr (wr (wr x (0x1210 + p) 0x01 0) (0x1220 + p) 0x01 0) (0x1220 + p) 0x05 0) s
  else s

/-- Every function housed in a domain is OFF, and every queue that R116 has stopped. -/
def housedOff (s : State) (d : Nat) : Bool :=
  if d < 24 then fieldRunReg s d == 0
  else if d < 28 then coreState s (2 * (d - 24)) != 2 && coreState s (2 * (d - 24) + 1) != 2
  else if d < 32 then (List.range 40).all (fun n => laneDomain n != d || laneState s n == 0)
  else if d < 38 then (List.range 64).all (fun q => qState s q == 0 || !queueIn s q d)
  else true

/-- Requests of the interfaces of a domain are gone with it. -/
def nisLost (s : State) (d : Nat) : State :=
  (List.range 15).foldl (fun x k =>
    if niDomain k == d then (niOf x k).tags.foldl (fun y e => dropTag y k e.1 false) (setNi x k { niOf x k with waiting := [] }) else x) s

/-- What a domain that leaves ON loses, in OFF or, for a field, in RETAINED. -/
def domainLost (s : State) (d : Nat) (retained : Bool) : State :=
  if d < 24 then (if retained then fieldRetained s d else fieldLost s d)
  else if d < 28 then nisLost (corePairOff s (d - 24)) d
  else if d < 32 then lanesLost s d
  else if d < 36 then memForget (banksLost s d) (0x20000000 + (d - 32) * 0x800000) (0x20000000 + (d - 31) * 0x800000)
  else if d < 38 then lpddrDown s (d - 36)
  else if d == 38 then nisLost (wr (wr (setSecurity s { s.security with mailboxes := [], hashing := [], signing := [], attesting := [], report := [] }) 0x140B 0x01 0) 0x140A 0x02 0) 38
  else if d == 39 then (List.range 2).foldl (fun x p => wr x (0x1210 + p) 0x0D 0) { s with plant := { s.plant with eth := [], can := [] } }
  else if d == 40 then ((storeEnd s false).getD s |> fun x => journalOff ((snapEnd x false).getD x))
  else s

/-! The states of a domain (R400 to R402). -/

def domRequest (s : State) (d : Nat) : Nat := rd s 0x1510 (d + 1)
def setDomRequest (s : State) (d v : Nat) : State := wr s 0x1510 (d + 1) v
def setDomState (s : State) (d v : Nat) : State := enter s 0x1511 (d + 1) v
def setDomPending (s : State) (d v : Nat) : State := wr s 0x1512 (d + 1) v
def setDomResult (s : State) (d : Nat) (st : Status) : State := wr s 0x1513 (d + 1) st.code
/-- Where a latched stop or a shutdown of the domain ends. -/
def stopTarget (s : State) (d : Nat) : Nat := tabGet 0 s.power.stopTo d
def setStopTarget (s : State) (d v : Nat) : State := setPower s { s.power with stopTo := tabPut s.power.stopTo d v }
def clearStop (s : State) (d : Nat) : State := setPower s { s.power with stopTo := tabErase s.power.stopTo d }

/-- Entry to STARTING. -/
def domainStart (s : State) (d : Nat) (fromRetained : Bool) : State :=
  let s1 := setDomState (setDomPending (clearStop s d) d 0) d 1
  let s2 := setPower s1 { s1.power with fromRetained := if fromRetained then d :: s1.power.fromRetained else s1.power.fromRetained.filter (fun x => x != d) }
  if d == 36 || d == 37 then lpddrStart s2 (d - 36) else s2

/-- Entry to FENCING. -/
def domainFence (s : State) (d target : Nat) : State :=
  fenceBegin (housedStop (setStopTarget (setDomState s d 3) d target) d) d

/-- A domain at once OFF, with no fence (R396, R401). -/
def domainDrop (s : State) (d : Nat) : State :=
  if domState s d == 0 then s
  else
    let s0 := if d < 24 then retuneWithdraw (loadTargetGone s (fun f => f == d)) d else s
    setDomState (setDomPending (clearStop (domainLost s0 d false) d) d 0) d 0

/-- Entry to ON. -/
def domainUp (s : State) (d : Nat) : State :=
  let s1 := setCause (fenceEnd (setDomState s d 2) d (!s.power.fromRetained.contains d)) .power 2
  if decide (24 ≤ d) && decide (d < 28) then corePairOn s1 (d - 24) else s1

/-- A start ends (R401); `ok` tells whether the rail came good and the bring-up passed. -/
def domainStarted (s : State) (d : Nat) (ok : Bool) : Option State :=
  if domState s d != 1 then none
  else
    let lp := d == 36 || d == 37
    if lp && ok && lpddrState s (d - 36) != 3 && lpddrState s (d - 36) != 4 then none
    else if ok && (!lp || lpddrState s (d - 36) == 3) then
      let s1 := domainUp s d
      some (match tabFind s1.power.stopTo d with
        | some t => domainFence s1 d t
        | none => s1)
    else
      let s1 := if s.power.fromRetained.contains d then fieldLost s d else s
      some (setCause (wr (bump (setDomState (setDomPending (clearStop s1 d) d 0) d 0) 0x1514 0x01) 0x1514 0x02 d) .power 3)

/-- Every interface has applied the fence and every housed function is OFF: DRAINING. -/
def domainFenced (s : State) (d : Nat) : Option State :=
  if domState s d == 3 && housedOff s d then some (setDomState s d 4) else none

/-- The drain condition of R334: STOPPING. -/
def domainDrained (s : State) (d : Nat) : Option State :=
  if domState s d == 4 && networkDrained s d && elapsed s 0x1511 (d + 1) 128000 then some (setDomState s d 5) else none

/-- The check of a request of ON that a restart repeats. -/
def domainOnCheck (s : State) (d : Nat) : Status :=
  if (d == 36 || d == 37) && !bitOf (rd s 0x1501 0x06) (d - 36) then .state else .ok

/-- STOPPING ends in OFF or RETAINED, or goes on to a restart (R401, R402). -/
def domainStopped (s : State) (d : Nat) : Option State :=
  if domState s d != 5 then none
  else
    let retained := d < 24 && stopTarget s d == 2
    let pending := rd s 0x1512 (d + 1) == 1
    let s1 := setDomState (clearStop (domainLost s d retained) d) d (if retained then 6 else 0)
    some (if pending then
      match domainOnCheck s1 d with
      | .ok => setCause (setDomResult (domainStart s1 d retained) d .ok) .power 7
      | st => setDomResult (setDomPending s1 d 0) d st
    else setCause s1 .power 2)

/-- Domains that boot holds ON until BootState is READY (R414). -/
def bootHeld (s : State) (d : Nat) : Bool :=
  bootState s != 5 && (d == 24 || d == 32 || d == 38 || d == 40 || d == 41 || d == 32 + rd s 0x2605 0x01 % 0x20000000 / 0x800000)

/-- A request applied to a domain (R401). -/
def domainApply (s : State) (d v : Nat) : State × Status :=
  match domState s d with
  | 0 => (if v == 1 then domainStart s d false else s, .ok)
  | 6 =>
    if v == 1 then (domainStart s d true, .ok)
    else if v == 0 then (setDomState (fieldLost s d) d 0, .ok)
    else (s, .ok)
  | 1 => (if v == 1 then clearStop s d else setStopTarget s d v, .ok)
  | 2 => (if v == 1 then s else domainFence s d v, .ok)
  | _ =>
    if v == 1 then (setDomPending s d 1, .restartPending)
    else (setStopTarget (setDomPending s d 0) d v, .ok)

/-- A write to DomainRequest (R400, R401). -/
def domainRequest (s : State) (d v : Nat) : State × Status :=
  if v == 2 && decide (24 ≤ d) then (setDomResult s d .range, .range)
  else if v == 1 && domainOnCheck s d != .ok then (setDomResult s d .state, .state)
  else if v == 0 && ((d == 38 && holder s 0x72 == 0x0700) || (d == 40 && holder s 0x73 == 0x0700)) then (setDomResult s d .state, .state)
  else
    let s1 := setDomRequest s d v
    if bootHeld s d then (setDomResult s1 d .ok, .ok)
    else
      let (s2, st) := domainApply s1 d v
      (setDomResult s2 d st, st)

/-! Supplies (R395 to R398). -/

def supplyBit (s : State) (i : Nat) (b : Bool) : State := wr s 0x1501 0x07 (setBit (rd s 0x1501 0x07) i b)

/-- A board supply output is on: VOUT_3V3 (0) in every mode, VOUT_1V8 (1) in SLEEP and DEEP_SLEEP only in mode 1. -/
def boardOn (s : State) (o : Nat) : Bool :=
  s.power.vinUp && !s.power.tripped.contains o && (o == 0 || s.power.asleep == 0 || s.power.boardMode == 1)

/-- A board supply output has been in current limit for 1 ms: it is off; while SYS is off nothing counts it: DESIGN CHOICE, log 169. -/
def supplyTrip (s : State) (o : Nat) : State :=
  let s1 := setPower s { s.power with tripped := o :: s.power.tripped }
  if domOn s 41 then setCause (bump (supplyBit s1 o false) 0x1501 0x0A) .power 6 else s1

/-- A write to BoardSupplyMode: a tripped output starts again. -/
def boardSupplyWrite (s : State) (v : Nat) : State :=
  let s1 := wr s 0x1501 0x05 v
  s1.power.tripped.foldl (fun x o => supplyBit x o true) (setPower s1 { s1.power with tripped := [] })

/-- A write to LpddrSupplyEnable (R398). -/
def lpddrSupplyWrite (s : State) (v : Nat) : State × Status :=
  let old := rd s 0x1501 0x06
  if (List.range 2).any (fun i => bitOf old i && !bitOf v i && domState s (36 + i) != 0) then (s, .state)
  else
    let s1 := (List.range 2).foldl (fun x i =>
      if bitOf v i then supplyBit x (2 + i) true
      else if bitOf old i then lpddrUnpowered (supplyBit x (2 + i) false) i else x) s
    (wr s1 0x1501 0x06 v, .ok)

/-- An output fault of an LPDDR5 interface. -/
def lpddrSupplyTrip (s : State) (i : Nat) : State :=
  setCause (lpddrUnpowered (domainDrop (supplyBit s (2 + i) false) (36 + i)) i) .power 6

/-! Resets (R411, R412). -/

/-- What a reset of SYS leaves of a RETAINED field: its bypass stages, its retune and the network's accesses go with SYS (R57). -/
def fieldKept (x : Field) : Field :=
  { x with stages := [], stageMoved := [], retune := none, ended := {}, netWait := [], capoRaw := [], lutSelect := 0 }

/-- The PLLs' clock stands still from now on, and runs again from now on (R404). -/
def clockStop (s : State) : State := setPower s { s.power with clockStopAt := some s.now }
def clockRun (x : PowerState) (now : Nat) : PowerState :=
  match x.clockStopAt with
  | some t => { x with clockStopAt := none, clockLost := x.clockLost + (now - t) }
  | none => x

/-- What every reset of SYS leaves: the reset state, with NVM, the commands that wait, the time and the balls' straps; `aon` tells whether AON survives, `fields` whether RETAINED fields do. -/
def systemReset (s : State) (cause : Nat) (aon fields : Bool) : State :=
  let kept := fun (f : Nat) => fields && domState s f == 6
  let enc := (List.range 4).foldl (fun (t : Tab Encoder) e =>
    let x : Encoder := tabGet {} s.print.encoders e
    if x.aon.isSome then tabPut t e { x with stopLatched := false, times := [] } else t) []
  let s0 : State := { State.reset with
    pending := s.pending, now := s.now, fresh := s.fresh, memEpoch := s.memEpoch + 1,
    mem := s.mem.filter (fun c => decide (0x30000000 ≤ c.1) && decide (c.1 < 0x30600000) && kept (c.1 % 0x10000000 / 0x40000)),
    keys := s.keys, cache := s.cache, straps := s.straps,
    arr := { fields := (s.arr.fields.filter (fun e => kept e.1)).map (fun e => (e.1, fieldKept e.2)) },
    print := { encoders := if aon then enc else [] },
    serial := { bankA := (journalCut s).1, bankB := (journalCut s).2 },
    pair := if aon then { firmwareKickAt := s.pair.firmwareKickAt, expired := s.pair.expired } else {},
    nvm := { s.nvm with storing := none, snapping := none, paramA := (paramCut s).1, paramB := (paramCut s).2, snap0 := (snapCut s).1, snap1 := (snapCut s).2, flash := flashCut s },
    power := { clockRun s.power s.now with stopTo := [], fromRetained := [], lineStopAt := none, shutdown := none, keptOn := [], asleep := 0, thermalHeld := false, booting := true, releasedAt := s.now, resetOut := false, gated := [], wakeTriggers := [], vinWarn := 10000 },
    ptpAt := s.now }
  let s1 := wr (wr (wr s0 0x1502 0x02 cause) 0x1401 0x01 s.nvm.firmwareFloor) 0x1406 0x31 s.nvm.keyFloor
  let s2 := if aon then wr s1 0x1500 0x04 (rd s 0x1500 0x04) else s1
  (List.range 24).foldl (fun x f => if kept f then wr (setDomState x f 6) (0x2000 + 0x40 * f) 0x03 (rd s (0x2000 + 0x40 * f) 0x03) else x) s2

/-- Every switched domain OFF at once and the engine at rest, boot not running. -/
def systemOff (s : State) (cause : Nat) (aon fields : Bool) : State :=
  let x := systemReset s cause aon fields
  setPower x { x.power with booting := false }

/-- VIN rises through 4.4 V; the flash is what the board holds. The straps are sampled and boot starts with the reset release, which waits for PORST_L (R395, R411, R414, R451). -/
def powerOn (s : State) (straps : Straps) (flash : Tab (List Byte)) : State :=
  if s.power.vinUp then s
  else
    let x := systemReset s 1 false false
    setPower { x with straps := if s.power.porstLow then {} else straps, nvm := { x.nvm with flash := flash } } { x.power with vinUp := true, tripped := [], boardMode := 1, booting := !s.power.porstLow, lfxoStopped := false }

/-- VIN falls below 4.2 V (R395, R411). -/
def brownOut (s : State) : State :=
  let x := systemOff s 3 false false
  setPower x { x.power with vinUp := false }

/-- PORST_L is low and stays low: without VIN the level alone is noted, and with it the engine is reset and held (R411, R414, R458). -/
def porstHeld (s : State) : State :=
  if s.power.porstLow then s
  else if s.power.vinUp then
    let x := systemOff s 2 false false
    setPower x { x.power with porstLow := true }
  else setPower s { s.power with porstLow := true }

/-- PORST_L rises after it was held low: with VIN present this is the reset release, at which the straps are sampled (R414, R451). -/
def porstRelease (s : State) (straps : Straps) : State :=
  let x := setPower s { s.power with porstLow := false }
  if s.power.vinUp then setPower { x with straps := straps } { x.power with booting := true, releasedAt := s.now } else x

/-- PORST_L stays low, or rises after a time (R411, R458): under 1 µs nothing, under 10 µs perhaps a reset. -/
def porst (s : State) (low : Option Nat) (straps : Straps) : State :=
  match low with
  | none => porstHeld s
  | some ps =>
    let reset := fun (x : State) => porstRelease (systemOff x 2 false false) straps
    if s.power.porstLow then porstRelease s straps
    else if !s.power.vinUp || decide (ps < psUs) then s
    else if decide (10 * psUs ≤ ps) then reset s
    else let (s1, k) := freeNat s 2; if k == 1 then reset s1 else s1

/-! The orderly shutdown of SYS, and what follows it (R208, R396, R404, R411). -/

/-- The encoders that are ON go on counting in AON (R406). -/
def encodersToAon (s : State) : State := (List.range 4).foldl toAon s

/-- The enabled triggers as they are at entry to a low-power mode. -/
def triggersNow (s : State) : List WakeTrigger :=
  (indicesWhere 24 (fun t => rd s (tx t) 0x01 == 1)).map fun t =>
    let e := trigEncoder s t
    { trigger := t, input := rd s (tx t) 0x02, edge := rd s (tx t) 0x03, enc := e, pos := encPos s e, high := encHigh s e, lockout := rd s (tx t) 0x08, accepted := tabFind s.print.accepted t }

/-- What the wake sources are judged by, noted at entry to a low-power mode (R395, R397, R405). -/
def noteEntry (s : State) : State :=
  let pos := (List.range 4).foldl (fun (t : Tab Nat) e => match (encoderOf s e).aon with | some v => tabPut t e v | none => if encState s e == 2 then tabPut t e (encPos s e) else t) []
  setPower s { s.power with entryPositions := pos, enteredAt := s.now, wakeEnable := rd s 0x1500 0x03, wakeCounts := rd s 0x1500 0x05, wakeAfter := rd s 0x1500 0x06, wakeTriggers := triggersNow s, boardMode := rd s 0x1501 0x05 }

/-- A field's domain is RETAINED where a mode retains the fields: it is ON, on its way there, or on its way to RETAINED (R401, R404). -/
def retainable (s : State) (f : Nat) : Bool :=
  match domState s f with
  | 0 => false
  | 1 => (tabFind s.power.stopTo f).isNone || stopTarget s f == 2
  | 2 => true
  | 6 => true
  | _ => stopTarget s f == 2 || rd s 0x1512 (f + 1) == 1

/-- A field goes to RETAINED with its clocks: a load into it fails, and its retune is withdrawn (R72, R75, R465). -/
def fieldSleep (s : State) (f : Nat) : State :=
  setDomState (setDomPending (clearStop (fieldRetained (retuneWithdraw (loadTargetGone s (fun g => g == f)) f) f) f) f 0) f 6

/-- The fields as LINE_STOP and SLEEP leave them: RETAINED, and OFF where they were on their way there (R404). -/
def fieldsSleep (s : State) : State :=
  (List.range 24).foldl (fun x f => if domState x f == 6 then x else if retainable x f then fieldSleep x f else domainDrop x f) s

/-- SLEEP (2) or DEEP_SLEEP (3) is reached: fields RETAINED in SLEEP, everything else OFF; FAULT_L stays as it is (R404, R412). -/
def sleepNow (s : State) (mode : Nat) : State :=
  let s1 := noteEntry (encodersToAon s)
  let s2 := if mode == 2 then fieldsSleep s1 else s1
  let x := systemOff s2 (rd s2 0x1502 0x02) true (mode == 2)
  setPower { x with faultL := s.faultL } { x.power with asleep := mode, wakeTriggers := s2.power.wakeTriggers, vinWarn := rd s 0x1501 0x02 }

/-- The shutdown of SYS is complete: what it leads to follows. -/
def shutdownSettle (s : State) : State :=
  match s.power.shutdown with
  | none => s
  | some k =>
    if !serialDown s || (k != .powerFail && s.nvm.snapping.isSome) then s
    else match k with
      | .powerFail =>
        let s1 := systemOff s (rd s 0x1502 0x02) true false
        { s1 with faultL := true }
      | .sleep => sleepNow s 2
      | .deepSleep => sleepNow s 3
      | .reset => systemReset s 5 true false

/-- An orderly shutdown begins; a snapshot of the trouble counters comes first, but not at POWER_FAIL (R208, R438). -/
def shutdownBegin (s : State) (k : AfterShutdown) : State :=
  let s1 := if k == .powerFail || !domOn s 40 then s else snapStart s
  let s2 := serialShutdown (setPower s1 { s1.power with shutdown := some k })
  shutdownSettle s2

/-- An LPDDR5 interface holds a byte of the ledger ring or of the checkpoint ring. -/
def holdsLedger (s : State) (i : Nat) : Bool :=
  regionIn s 9 (rd s 0x4008 0x01) (rd s 0x4008 0x02) (36 + i) || regionIn s 9 (rd s 0x4009 0x01) (rd s 0x4009 0x02) (36 + i)

/-- Every lane stopped as by a write of 0 to its enable. -/
def lanesDisabled (s : State) : State := (List.range 40).foldl (fun x n => (laneDisable x n).1) s

/-- Bars, cameras and lanes stopped as by a write of 0 to their enables. -/
def lineStopped (s : State) : State :=
  let s1 := (List.range 24).foldl (fun x b => (barDisable x b).1) s
  let s2 := (List.range 6).foldl (fun x k => (camDisable x k).1) s1
  moveOrdered (lanesDisabled s2)

/-- POWER_FAIL while SYS is off: fields go from RETAINED to OFF, a boot that has not brought SYS up ends, and a low-power mode stays: DESIGN CHOICE, log 169. -/
def powerFailOff (s : State) : State :=
  let s1 := (List.range 24).foldl domainDrop s
  { setPower s1 { s1.power with booting := false } with faultL := true }

/-- The clocks that LINE_STOP stopped run again. -/
def clocksBack (s : State) : State :=
  let s1 := setPower s (clockRun s.power s.now)
  wr (wr s1 0x1500 0x01 0) 0x1503 0x01 (rd s1 0x1503 0x01 ||| 3)

/-- POWER_FAIL while SYS is ON: load is shed, and the orderly shutdown runs, with the clocks of LINE_STOP running again: DESIGN CHOICE, log 169. -/
def powerFailOn (s : State) : State :=
    let s0 := if sysRuns s then s else clocksBack s
    let s1 := setPower s0 { s0.power with lineStopAt := none }
    let s2 := lineStopped (setCause (bump { s1 with faultL := true } 0x1501 0x08) .power 0)
    let kept := (List.range 2).filter (fun i => holdsLedger s2 i && domState s2 (36 + i) == 2)
    let s3 := (List.range 24).foldl domainDrop s2
    let s4 := (List.range 2).foldl (fun x i => if kept.contains i then x else domainDrop x (36 + i)) s3
    let s5 := (List.range 8).foldl (fun x n => if coreState x n == 2 then coreHaltNow x n else x) s4
    shutdownBegin (setPower s5 { s5.power with keptOn := kept }) .powerFail

/-- VIN is read, in mV: below VinWarnLevel it is POWER_FAIL, in every mode (R395, R396, R412); while SYS is ON VinLevel shows it. -/
def powerFail (s : State) (mv : Nat) : State :=
  if !s.power.vinUp then s
  else if domOn s 41 then
    let s1 := wr s 0x1501 0x01 mv
    if decide (rd s 0x1501 0x02 ≤ mv) || s.power.shutdown == some .powerFail then s1 else powerFailOn s1
  else if decide (s.power.vinWarn ≤ mv) then s
  else powerFailOff s

/-- A write of "boot" to EngineReset (R411). -/
def engineReset (s : State) : State × Status :=
  if rd s 0x1300 0x01 == 1 then (s, .state) else (shutdownBegin s .reset, .ok)

/-! Power modes (R404 to R406). -/

/-- The entry condition of LINE_STOP. -/
def lineStopOk (s : State) : Bool :=
  (List.range 24).all (fun b => barState s b == 0) && (List.range 6).all (fun k => camState s k == 0) && (List.range 40).all (fun n => laneState s n == 0)
    && rd s 0x1300 0x01 == 0 && !loadRunning s && (List.range 24).all (fun f => retuneState s f != 1 && retuneState s f != 2) && !routesBusy s

/-- A write to PowerMode. -/
def powerModeWrite (s : State) (v : Nat) : State × Status :=
  let r : State × Status := match v with
    | 0 => (setPower s { s.power with lineStopAt := none }, .ok)
    | 1 => if lineStopOk s then (setPower s { s.power with lineStopAt := some s.now }, .ok) else (s, .state)
    | 2 => if rd s 0x1300 0x01 == 0 then (shutdownBegin s .sleep, .ok) else (s, .state)
    | _ => if rd s 0x1300 0x01 == 0 then (shutdownBegin s .deepSleep, .ok) else (s, .state)
  (wr r.1 0x1500 0x02 r.2.code, r.2)

/-- No interface holds a tag and no bank access waits. -/
def networkQuiet (s : State) : Bool :=
  (List.range 15).all (fun k => (niOf s k).tags.isEmpty) && (banksNow s).noc.banks.all (fun b => b.2.isEmpty)

/-- The clocks stop in the first quiet NCLK of a LINE_STOP entry. Where the entry condition holds no longer, the entry is abandoned as at its end: DESIGN CHOICE, log 126. -/
def lineStopEnter (s : State) : Option State :=
  match s.power.lineStopAt with
  | some t =>
    if !networkQuiet s || decide (t + psMs < s.now) then none
    else if !lineStopOk s || s.power.shutdown.isSome then some (wr (setPower s { s.power with lineStopAt := none }) 0x1500 0x02 Status.state.code)
    else
      let s1 := noteEntry (setPower s { s.power with lineStopAt := none })
      let s2 := fieldsSleep s1
      let s3 := [28, 29, 30, 31, 36, 37].foldl (fun x d => if domState x d == 0 then x else setDomState (setDomPending (clearStop (domainLost x d false) d) d 0) d 0) s2
      some (clockStop (wr (wr s3 0x1503 0x01 (rd s3 0x1503 0x01 &&& 4)) 0x1500 0x01 1))
  | none => none

/-- No quiet NCLK within 1 ms. -/
def lineStopExpire (s : State) : Option State :=
  match s.power.lineStopAt with
  | some t => if decide (t + psMs ≤ s.now) then some (wr (setPower s { s.power with lineStopAt := none }) 0x1500 0x02 Status.timeout.code) else none
  | none => none

/-- Whether a wake source has come that no other command carries: the rise of WAKE is what the command says; counts and the timer are judged here. An edge of a trigger and a frame wake with their own commands (notes/assumptions/110.md). -/
def wakeDue (s : State) (src : Nat) : Bool :=
  match src with
  | 0 => true
  | 1 => (List.range 4).any (fun e =>
      match (encoderOf s e).aon, tabFind s.power.entryPositions e with
      | some v, some p => decide (s.power.wakeCounts ≤ (posDiff v p).natAbs)
      | _, _ => false)
  | 3 => s.power.wakeAfter != 0 && decide (s.power.enteredAt + s.power.wakeAfter * psS ≤ s.now)
  | _ => false

/-- A new level of an input, TRIGt (0) or ENC0_Z to ENC3_Z (1 to 4), is an accepted edge of a trigger that was enabled at entry, at its encoder's position in AON (R129, R405); filters run on no clock here (notes/assumptions/110.md). -/
def wakeEdge (s : State) (input trig : Nat) (rising : Bool) : Bool :=
  s.power.wakeTriggers.any fun w =>
    w.input == input && (input != 0 || w.trigger == trig) && rising == (w.edge == 0) && !edgeIgnored ((encoderOf s w.enc).aon.getD w.pos) w.high w.lockout w.accepted

/-- The levels that the balls of triggers have while the clocks stand, so that the return to RUN finds no edge in them. -/
def levelNoted (s : State) (input trig : Nat) (level : Bool) : State :=
  let s1 := (List.range 24).foldl (fun x t => if rd x (tx t) 0x02 == input && (input != 0 || t == trig) then setTrigLevel x t level else x) s
  if input == 0 then s1 else setEncoder s1 (input - 1) { encoderOf s1 (input - 1) with z := level }

/-- The return from LINE_STOP. -/
def lineStopWake (s : State) (src : Nat) : State :=
  let s0 := clocksBack s
  let s1 := wr (setPower s0 { s0.power with wakeTriggers := [] }) 0x1500 0x04 (2 ^ src)
  let s3 := (List.range 24).foldl (fun x f => if domState x f == 6 && domRequest x f == 1 then domainStart x f true else x) s1
  let s4 := [28, 29, 30, 31, 36, 37].foldl (fun x d => if domState x d == 0 && domRequest x d == 1 && domainOnCheck x d == .ok then domainStart x d false else x) s3
  setCause s4 .power 4

/-- A wake source ends a low-power mode that has it enabled. -/
def wakeFrom (s : State) (src : Nat) : Option State :=
  if !bitOf s.power.wakeEnable src || !s.power.vinUp || s.power.thermalHeld then none
  else if s.power.asleep != 0 then
    let x := systemReset s (if s.power.asleep == 2 then 6 else 7) true (s.power.asleep == 2)
    some (wr x 0x1500 0x04 (2 ^ src))
  else if rd s 0x1500 0x01 == 1 && domOn s 41 then some (lineStopWake s src)
  else none

/-! Clocks and temperature (R407 to R413). -/

/-- The lock of the ACLK and NCLK PLLs as it now is; a loss while SYS is ON counts. -/
def pllLocks (s : State) (aclkOk nclkOk : Bool) : State :=
  let old := rd s 0x1503 0x01
  let lost := (bitOf old 0 && !aclkOk) || (bitOf old 1 && !nclkOk)
  let s1 := wr s 0x1503 0x01 (setBit (setBit old 0 aclkOk) 1 nclkOk)
  if lost && domOn s 41 then setCause (bump s1 0x1503 0x04) .power 5 else s1

/-- The RC trim of every 10 ms while NCLK runs; `err` is the error found, in 0.01 %. -/
def rcTrim (s : State) (err : Int) : Option State :=
  if !sysRuns s || decide (s.now < s.power.rcTrimAt + 10 * psMs) then none
  else some (wr (setPower s { s.power with rcTrimAt := s.now }) 0x1503 0x02 (wrapInt 16 err))

/-- LFXO stops, in any mode; ClockState shows it while SYS is ON (R409). -/
def lfxoStop (s : State) : Option State :=
  if !s.power.vinUp then none
  else
    let s1 := setPower s { s.power with lfxoStopped := true }
    some (if domOn s 41 then wr s1 0x1503 0x01 (setBit (rd s 0x1503 0x01) 2 false) else s1)

/-- Thermal shutdown: every switched domain OFF at once, and the engine held until PORST_L. -/
def thermalShutdown (s : State) : State :=
  let x := systemOff s 4 true false
  { setPower x { x.power with thermalHeld := true } with faultL := true }

/-- The junction temperature read every 1 ms, in 0.1 °C. -/
def tempSample (s : State) (t : Int) : Option State :=
  if !domOn s 41 || decide (s.now < s.power.tempAt + psMs) then none
  else
    let level := signedOf 16 (rd s 0x1501 0x04)
    let old := signedOf 16 (rd s 0x1501 0x03)
    let s1 := wr (setPower s { s.power with tempAt := s.now }) 0x1501 0x03 (wrapInt 16 t)
    if decide (1200 ≤ t) then some (thermalShutdown s1)
    else if decide (old < level) && decide (level ≤ t) then some (setCause (bump s1 0x1501 0x09) .power 1)
    else some s1

/-- No cell of a furrow holds a token, and none has for 16 ACLK, in which no drill stream of the field has moved (R410). -/
def furrowIdle (s : State) (f u : Nat) : Bool :=
  let x := fieldOf (fieldNow s f) f
  let past := fun (n : Nat) => decide (n + 16 ≤ aclk s + 1)
  (busOf x u).toks.isEmpty && past (busOf x u).leftAt
    && x.streams.all (fun e => past e.2.movedAt && past e.2.storedAt && e.2.buf.all (fun i => past (i.since + 1))) &&
    (List.range 8).all (fun v =>
      let y := cellOf x (8 * u + v)
      y.win.isEmpty && y.skids.all (fun e => e.2.isEmpty) && y.popped.all (fun e => past e.2) && past y.deliveredAt && past y.goneAt)

/-- The clock of an idle furrow stops. -/
def furrowGate (s : State) (f u : Nat) : Option State :=
  if bitOf (rd s 0x1503 0x03) f && domOn s f && sysRuns s && furrowIdle s f u then
    some (setPower s { s.power with gated := (8 * f + u, aclk s) :: s.power.gated.filter (fun k => k.1 != 8 * f + u) })
  else none

/-- No token has been delivered to any cell of a furrow since an ACLK. -/
def furrowStill (x : Field) (u n : Nat) : Bool :=
  (busOf x u).toks.isEmpty && decide ((busOf x u).leftAt ≤ n) &&
    (List.range 8).all (fun v =>
      let y := cellOf x (8 * u + v)
      y.win.isEmpty && y.skids.all (fun e => e.2.isEmpty) && y.popped.all (fun e => decide (e.2 ≤ n)) && decide (y.deliveredAt ≤ n) && decide (y.goneAt ≤ n))

/-- Whether the cells of a furrow are without a clock: the first token delivered since starts it again in the same ACLK, and so does its bit of FurrowGating cleared. -/
def furrowGated (s : State) (f u : Nat) : Bool :=
  s.power.gated.any (fun k => k.1 == 8 * f + u && furrowStill (fieldOf s f) u k.2)

/-- A write to FurrowGating: the furrows of a field whose bit it clears have their clocks (R410). -/
def furrowGatingWrite (s : State) (v : Nat) : State :=
  setPower (wr s 0x1503 0x03 v) { s.power with gated := s.power.gated.filter (fun k => bitOf v (k.1 / 8)) }

/-- RESET_OUT_L rises 1 ms after SYS enters ON (R412). -/
def resetOutRise (s : State) : Option State :=
  if domOn s 41 && !s.power.resetOut && decide (s.power.sysOnAt + psMs ≤ s.now) then some (setPower s { s.power with resetOut := true }) else none

/-- REFCLK_IN is lost (R347): the monitor runs on AON, in every mode, and while SYS is ON RefState shows it and the lanes follow. -/
def refclkGone (s : State) : Option State :=
  if !s.power.vinUp || s.power.refGone then none
  else
    let s1 := setPower s { s.power with refGone := true }
    some (if domOn s 41 then moveOrdered (refclkLost (bump s1 0x1700 0x07)) else s1)

/-- REFCLK_IN is within limits again (R347). -/
def refclkBack (s : State) : Option State :=
  if s.power.refGone then
    let s1 := setPower s { s.power with refGone := false }
    some (if domOn s 41 then wr s1 0x48A0 0x06 0 else s1)
  else none

end Sys2Proof.Machine
end

