-- ==== Sys2Proof/Machine/DictRead.lean ====
section
/-! DEFINITION. Reads of the object dictionary, and the checks that every write takes before its own.
Spec: 13_object_dictionary.md R362 to R364, R368, R369, R371; the object tables of every chapter. -/

set_option Elab.async false

namespace Sys2Proof.Machine

/-! What a read returns. -/

/-- ASCII text. -/
def ascii (t : List Nat) : List Byte := t.map (BitVec.ofNat 8)

/-- The values of const and manufacture objects that are not numbers (R1, R433). -/
def constBytes (s : State) (idx sub : Nat) : Option (List Byte) :=
  if idx == 0x1008 then some (ascii [0x41, 0x4E, 0x36, 0x34, 0x38, 0x30])
  else if idx == 0x1009 then some (ascii [0x42, 0x30])
  else if idx == 0x1020 && sub == 2 then some orderingCode
  else if idx == 0x1020 && sub == 3 then some deviceUid
  else if idx == 0x1020 && sub == 4 then some (runningDigest s)
  else if (idx == 0x1210 || idx == 0x1211) && sub == 3 then some ((List.range 6).map (Config.macAddress (idx - 0x1210)))
  else if idx == 0x1409 then some (certificate s)
  else none

/-- A map copy as bytes. -/
def mapImageBytes (s : State) (b : Nat) : List Byte := (List.range (nozzles s b)).flatMap (fun k => leBytes 4 (mapEntry s b (activeCopy s b) k))

/-- The record that a select object names, when it lives (`0x3201:01`, `0x4004:01`). -/
def selectedEntry (s : State) : Except Status (Option SerialEntry) :=
  let id := rd s 0x4004 0x01
  match findProduct s id with
  | none => .error .range
  | some _ => .ok ((entryOf s id).map (·.2))

/-- Next address of drill stream `t` of unit `d` in the active slot. -/
def drillNext (s : State) (f d t : Nat) : Nat :=
  let k := activeSlot s f
  let x := fieldOf (fieldNow s f) f
  if k == 0xFF then 0 else ddAddr (drillDesc (slotOf x k) d t) (drillCount x k d t)

/-- RunState of a field. -/
def runStateOf (s : State) (f : Nat) : Nat := if fieldRunReg s f == 0 then 0 else if capoHeld s then 2 else 1

/-- A 16-bit count that stops at its end. -/
def sat16 (n : Nat) : Nat := min n 0xFFFF

/-- The value of an object whose reading is computed; a U8 to U64 value as a number. -/
def computed (s : State) (o : ObjRef) : Nat :=
  let u := o.unit
  match o.desc.rd with
  | .bankWaitMax => rd (bankNow s (o.sub - 1)) o.idx o.sub
  | .reconfigState => reconfigState s
  | .cacheEntries => s.cache.length
  | .cacheFree => cacheFree s
  | .cacheTuningId => imgTuningId (tabGet [] s.cache o.place)
  | .claimHolder => holder s o.place
  | .coreCycles => mcycle s u
  | .corePc => (coreOf s u).pc
  | .coreRetired => (coreOf s u).retired
  | .countRate => 1000 * (lastMs s (encoderOf s u).times).length
  | .drainedCores => drainedCores s
  | .drillReadAddr => drillNext s u o.place 0
  | .drillWriteAddr => drillNext s u o.place 1
  | .failedNozzles => ((List.range (nozzles s u)).filter (fun k => bitsOf (mapEntry s u (activeCopy s u) k) 30 2 == 2)).length
  | .flashState => flashState s
  | .gateDue => (gateOf s u).entries.length
  | .gateNextDue => match (gateOf s u).entries with | e :: _ => e.1 | [] => 0
  | .gateOutput => boolNat (gateOutput s u)
  | .harrowState => harrowPhase s
  | .holdState => (barOf s u).hold
  | .ctlePeak => ctlePeak s u
  | .eyeMargin => eyeMargin s u
  | .keySlotType => keyType s o.place
  | .lengthPending => boolNat (qLengthPending (queueNow s u) u)
  | .lineRate => 1000 * (lastMs s (tabGet [] s.print.strobeTimes u)).length
  | .logicalField => logicalField s u
  | .newestId => match s.print.products.getLast? with | some p => p.id | none => 0
  | .oldestId => match s.print.products with | p :: _ => p.id | [] => 0
  | .nextBoundary => boundary s u (genNext s u)
  | .nextWindow => match firstWindow s u with | some w => w.start | none => 0
  | .windowsPending => sat16 (barWindows s u).length
  | .niOutstanding => (niOf s u).tags.length
  | .nonZeroCounters => troubleCount s (fun v => v != 0)
  | .saturatedCounters => troubleCount s (fun v => v == 0xFFFF)
  | .orderedPending => sat16 s.pair.unanswered.length
  | .prbsBits => prbsBits s u
  | .productsLive => s.print.products.length
  | .ptpTime => ptpTime s
  | .queueFlush => boolNat (qFlushing s u)
  | .queueOccupancy => qWords (queueOf s u)
  | .queueSpace => qSpace s u
  | .readyTasks => readyTasks s
  | .runState => runStateOf s u
  | .slotState => (slotOf (fieldOf s u) o.place).st
  | .slotTuningId => (slotOf (fieldOf s u) o.place).tuningId
  | .statusAge => match (barOf s u).statusAt with | some t => sat16 ((s.now - t) / psMs) | none => 0xFFFF
  | .traceEntries => s.sched.trace.length
  | _ => rd s o.idx o.sub

/-- The bytes of an object of type VSTRING, OCTETS or DOMAIN, or a value that a read may refuse. -/
def longValue (s : State) (o : ObjRef) : Except Status (List Byte) :=
  let u := o.unit
  match o.desc.rd with
  | .activeTable => .ok (activeTable s u)
  | .attestReport => if rd s 0x140A 0x02 == 2 then .ok s.security.report else .error .state
  | .coalescedMap => .ok (leBytes 40 s.coalesced)
  | .dfeTaps => .ok ((laneOf s u).taps.map (fun v => BitVec.ofNat 8 (wrapInt 8 v)))
  | .mapImage => .ok (mapImageBytes s u)
  | .pendingMap => .ok (leBytes 40 (pendingMap s))
  | .productRecord => match findProduct s (rd s 0x3201 0x01) with | some p => .ok (productBytes p) | none => .error .range
  | .productTable => .ok (s.print.products.flatMap productBytes)
  | .publicKey => publicKey s
  | .resyncCut => .ok s.pair.cut
  | .routerWeights => .ok (routerWeights s (rd s 0x5021 0x01))
  | .shadowTable => .ok (tableBytes (shadowRoute s u))
  | .snapshotImage => .ok (snapNewest s)
  | .taskRecord => .ok (taskRecord s (rd s 0x1604 0x01))
  | .traceImage => .ok (s.sched.trace.flatMap (leBytes 8))
  | .serialStatus => (selectedEntry s).map (fun e => leBytes 1 (match e with | some x => x.state | none => 0))
  | .serialText =>
    match selectedEntry s with
    | .ok (some e) => if e.state == 2 then .ok (serialText e) else .error .state
    | .ok none => .error .state
    | .error e => .error e
  | .serialValue =>
    match selectedEntry s with
    | .ok (some e) => .ok (leBytes 8 e.v)
    | .ok none => .error .state
    | .error e => .error e
  | .serialIndex =>
    match selectedEntry s with
    | .ok (some e) => .ok (leBytes 8 e.n)
    | .ok none => .error .state
    | .error e => .error e
  | _ =>
    match constBytes s o.idx o.sub with
    | some b => .ok b
    | none => .ok (if o.desc.ty == .octets then bytesAt (rdBytes s o.idx o.sub) 0 o.desc.size else rdBytes s o.idx o.sub)

/-- The value of an object, as its bytes, with what the read itself changes. -/
def readValue (s : State) (src : Source) (o : ObjRef) : State × Except Status (List Byte) :=
  match o.desc.rd with
  | .eventPop =>
    (match src with
     | .core n => if n.val == o.place then let (s1, v) := inboxPop s o.place; (s1, .ok (leBytes 4 v)) else (s, .error .state)
     | _ => (s, .error .state))
  | .random => randomRead s
  | .serialStatus | .serialValue | .serialIndex => (s, longValue s o)
  | _ =>
    if o.desc.ty.bytes == 0 then (s, longValue s o)
    else if o.idx == 0x1018 && o.sub == 4 then (s, .ok (deviceUid.take 4))
    else (s, .ok (leBytes o.desc.ty.bytes (computed s o)))

/-- A read of an object (R364): the object and its value, or the status that refuses it. -/
def dictRead (s : State) (src : Source) (idx sub : Nat) : State × Except Status (ObjRef × List Byte) :=
  match resolveObj idx sub with
  | .error e => (s, .error e)
  | .ok o =>
    if o.desc.acc == .wo then (s, .error .writeOnly)
    else
      match readValue s src o with
      | (s1, .ok b) => (s1, .ok (o, b))
      | (s1, .error e) => (s1, .error e)

/-! Checks of a write (R364). -/

/-- WriteEnable of the plant port that carries a write. -/
def portWritable (s : State) (src : Source) : Bool :=
  match src with
  | .eth p => rd s (0x1210 + p.val) 0x07 == 1
  | .can p => rd s (0x1220 + p.val) 0x07 == 1
  | _ => true

/-- Roles in which writes of class M and P come from the pair agent alone (R233). -/
def roleClosed (s : State) : Bool := let r := pairRole s; r == 1 || r == 3 || r == 5 || r == 6 || r == 7

/-- Steps 3 to 5 of R364: what refuses a write before its value is looked at. -/
def writeAccess (s : State) (src : Source) (o : ObjRef) : Option Status :=
  if o.desc.acc == .ro || o.desc.acc == .cst || (o.idx == 0x1510 && o.sub == 0x2A) then some .readOnly
  else if !portWritable s src then some .auth
  else if roleClosed s && (o.desc.cls == .m || o.desc.cls == .p || o.desc.fn == .retuneGo || o.desc.fn == .groupGo) && src != .pairAgent && src != .boot then some .role
  else none

/-- Step 6: type and length. -/
def writeTypeOk (o : ObjRef) (v : ObjVal) : Bool :=
  (v.ty == 0 || v.ty == o.desc.ty.code) &&
    (if o.desc.ty.bytes != 0 then v.bytes.length == o.desc.ty.bytes else if o.desc.ty == .octets then v.bytes.length == o.desc.size else true)

/-- An LPDDR5 interface is OFF: its domain is OFF and its devices hold nothing in self refresh; one that FAILED has returned its domain to OFF (R323). -/
def lpddrOff (s : State) (i : Nat) : Bool := domState s (36 + i) == 0 && (lpddrState s i == 0 || lpddrState s i == 4)

/-- The function that owns an rws object is OFF or disabled (step 7). -/
def ownerOff (s : State) (o : ObjRef) : Bool :=
  let u := o.unit
  match o.desc.own with
  | .free => true
  | .archive => rd s 0x3803 0x01 == 0
  | .bar => barState s u == 0
  | .camera => camState s u == 0
  | .canPort => rd s (0x1220 + u) 0x01 == 0
  | .core => coreState s u == 0 || coreState s u == 1 || coreState s u == 3 || coreState s u == 4
  | .encoder => encState s u == 0
  | .ethPort => rd s (0x1210 + u) 0x01 == 0
  | .fieldRow => true
  | .gate => !gateEnabled s u
  | .inspection => rd s (tx u) 0x01 == 0
  | .interleave => lpddrOff s 0 && lpddrOff s 1
  | .lane => laneState s u == 0
  | .ledger => allotmentsEmpty s
  | .lineGen => !genEnabled s u
  | .lpddr => lpddrOff s u
  | .nodeId => allotmentsEmpty s && rd s 0x1300 0x01 == 0
  | .pair => o.sub == 1 || rd s 0x1300 0x01 == 0
  | .pairSnapshot => let r := resyncState s; r == 0 || decide (8 ≤ r)
  | .pdo => bitOf (rd s o.idx 0x02) 31
  | .ptp => rd s 0x1230 0x01 == 0
  | .queue => qState s u == 0
  | .ssc => (List.range 36).all (fun n => laneState s n == 0) && rd s 0x48A0 0x05 == 0
  | .staging => s.plant.assembly.isNone
  | .tick => (delayList s 0).isEmpty && (List.range 6).all (fun i => rd s (0x1620 + i) 0x01 == 0 || timerBase s i != 0)
  | .timer => rd s (0x1620 + u) 0x01 == 0
  | .trigger => rd s (tx u) 0x01 == 0
  | .tuningLoader => !loadRunning s

/-- Writes that boot keeps to itself (R415, R416). -/
def bootRefuses (s : State) (src : Source) (o : ObjRef) : Bool :=
  src != .boot &&
    ((bootState s == 7 && !(o.idx == 0x1502 && o.sub == 1)) ||
     (decide (bootState s < 5) &&
      ((decide (0x5800 ≤ o.idx) && decide (o.idx < 0x5810) && o.idx % 2 == 0 && decide (1 ≤ o.sub) && decide (o.sub ≤ 3)) || (o.idx == 0x2603 && o.sub == 5)
        || o.idx == 0x1402 || o.idx == 0x1405 || o.idx == 0x140C)))

/-- Step 8: range, reserved bits, listed encodings and lengths. -/
def writeRangeOk (o : ObjRef) (v : ObjVal) : Bool :=
  let n := leNat v.bytes
  match o.desc.kind with
  | .trouble => n == 0
  | _ =>
    (o.desc.ty != .bool || decide (n ≤ 1)) && rngOk o.desc.rng o.unit (if o.desc.ty.signed then 8 * o.desc.ty.bytes else 0) n v.bytes.length

/-- Steps 3 to 8 of R364; boot writes with the owning function stopped (R376). -/
def writeCheck (s : State) (src : Source) (o : ObjRef) (v : ObjVal) : Option Status :=
  match writeAccess s src o with
  | some e => some e
  | none =>
    if !writeTypeOk o v then some .type
    else if bootRefuses s src o || (o.desc.acc == .rws && src != .boot && !ownerOff s o) then some .state
    else if !writeRangeOk o v then some .range
    else none

end Sys2Proof.Machine
end

