-- ==== Sys2Proof/Machine/CanPorts.lean ====
section
/-! DEFINITION. The CAN FD ports: NMT states, heartbeat, bus state, transmit PDOs, and the mapping of PDOs.
Spec: 13_object_dictionary.md R388, R390. -/

set_option Elab.async false

namespace Sys2Proof.Machine

def setPlant (s : State) (x : PlantState) : State := { s with plant := x }

/-! NMT (R388). -/

def canK (p : Nat) : Nat := 0x1220 + p
/-- 0x00 OFF, 0x7F PRE-OPERATIONAL, 0x05 OPERATIONAL, 0x04 STOPPED. -/
def nmtState (s : State) (p : Nat) : Nat := rd s (canK p) 0x05
def canNode (s : State) (p : Nat) : Nat := rd s (canK p) 0x02
def canOf (s : State) (p : Nat) : CanPort := tabGet {} s.plant.can p
def setCan (s : State) (p : Nat) (x : CanPort) : State := setPlant s { s.plant with can := tabSet {} s.plant.can p x }

/-- The transfers of a source are gone. -/
def dropTransfers (s : State) (src : Source) : State :=
  setPlant s { s.plant with
    assembly := match s.plant.assembly with | some a => if a.src == src then none else some a | none => none,
    captures := s.plant.captures.filter (fun c => c.src != src) }

/-- The PDOs of a port that are valid, of the 8 from index 0x1240 + `first` on. -/
def pdosOf (s : State) (p first : Nat) : List Nat :=
  ((List.range 8).map (fun i => first + i)).filter (fun i => rd s (0x1240 + i) 0x01 == p && !bitOf (rd s (0x1240 + i) 0x02) 31)

/-- A PDO begins to run: its period and its count of SYNCs start. -/
def pdoBegin (s : State) (i : Nat) : State :=
  setPlant s { s.plant with pdoAt := tabPut s.plant.pdoAt i s.now, pdoSync := tabSet 0 s.plant.pdoSync i 0 }

/-- The boot-up message and PRE-OPERATIONAL, as the port's communication starts (CiA 301: identifier 0x700 + node, one byte 0). -/
def canStart (s : State) (p : Nat) : State :=
  let s1 := setCan (dropTransfers s (.can (Fin.ofNat 2 p))) p { heartbeatAt := s.now }
  wr (canSend s1 p (0x700 + canNode s1 p) [0]) (canK p) 0x05 0x7F

/-- A write to a port's Enable. -/
def canEnable (s : State) (p v : Nat) : State :=
  let s1 := wr s (canK p) 0x01 v
  if v == 0 then wr (setCan (dropTransfers s1 (.can (Fin.ofNat 2 p))) p {}) (canK p) 0x05 0
  else if nmtState s p == 0 && domOn s 39 then canStart s1 p else s1

/-- An NMT command reaches the port: it is enabled and addressed, by its own node ID or by 0, and the bus is not off. -/
def nmtHeard (s : State) (p node : Nat) : Bool := nmtState s p != 0 && rd s (canK p) 0x09 != 2 && (node == 0 || node == canNode s p)

/-- A move between PRE-OPERATIONAL, OPERATIONAL and STOPPED. -/
def nmtMove (s : State) (p node goal : Nat) : Option State :=
  if !nmtHeard s p node then none
  else
    let s1 := wr s (canK p) 0x05 goal
    some (if goal == 5 && nmtState s p != 5 then (pdosOf s1 p 8).foldl pdoBegin s1 else s1)

/-- Reset-node and reset-communication: only this port's communication starts again. -/
def nmtReset (s : State) (p node : Nat) : Option State := if nmtHeard s p node then some (canStart s p) else none

/-- A write to HeartbeatTime: the period starts anew. -/
def heartbeatWrite (s : State) (p v : Nat) : State := setCan (wr s (canK p) 0x06 v) p { canOf s p with heartbeatAt := s.now }

/-- The heartbeat, every HeartbeatTime ms. -/
def canBeat (s : State) (p : Nat) : Option State :=
  let h := rd s (canK p) 0x06 * psMs
  if nmtState s p == 0 || h == 0 || decide (s.now < (canOf s p).heartbeatAt + h) then none
  else some (canSend (setCan s p { canOf s p with heartbeatAt := (canOf s p).heartbeatAt + (s.now - (canOf s p).heartbeatAt) / h * h }) p (0x700 + canNode s p) [BitVec.ofNat 8 (nmtState s p)])

/-- BusState changes: CAN_STATE. -/
def busState (s : State) (p v : Nat) : Option State :=
  if rd s (canK p) 0x01 == 0 || rd s (canK p) 0x09 == v then none else some (setCause (wr s (canK p) 0x09 v) .plant 1)

/-- Bus-off, counted; the port recovers by itself. -/
def busOff (s : State) (p : Nat) : Option State := (busState s p 2).map fun x => bump x (canK p) 0x0A

/-! PDOs (R390). -/

/-- The mapping of a PDO: index, sub-index and bits of each entry. -/
def pdoEntries (s : State) (i : Nat) : List (Nat × Nat × Nat) :=
  (List.range (rd s (0x1240 + i) 0x06)).map fun j =>
    let e := rd s (0x1240 + i) (0x07 + j)
    (bitsOf e 16 16, bitsOf e 8 8, bitsOf e 0 8)

/-- The status with which a mapping entry fails, as a read or as a write from the port, and at its full size. -/
def entryCheck (s : State) (src : Source) (rx : Bool) (e : Nat × Nat × Nat) : Option Status :=
  match resolveObj e.1 e.2.1 with
  | .error st => some st
  | .ok o =>
    match (if rx then writeAccess s src o else if o.desc.acc == .wo then some .writeOnly else none) with
    | some st => some st
    | none =>
      if o.desc.ty.bytes == 0 || e.2.2 != 8 * o.desc.ty.bytes then some .type
      else if rx && o.desc.acc == .rws && !ownerOff s o then some .state
      else none

/-- A write to CobId: with bit 31 clear the mapping is checked, and a failure refuses it. -/
def cobIdWrite (s : State) (i v : Nat) : State × Status :=
  if bitOf v 31 then (wr s (0x1240 + i) 0x02 v, .ok)
  else
    let p := rd s (0x1240 + i) 0x01
    let es := pdoEntries s i
    match es.findSome? (entryCheck s (.can (Fin.ofNat 2 p)) (decide (i < 8))) with
    | some st => (s, st)
    | none =>
      if 512 < es.foldl (fun a e => a + e.2.2) 0 then (s, .range)
      else
        let s1 := wr s (0x1240 + i) 0x02 v
        (if nmtState s1 p == 5 then pdoBegin s1 i else s1, .ok)

/-- The entries of a transmit PDO sampled in one read; none where one cannot be read. -/
def pdoSample (s : State) (src : Source) : List (Nat × Nat × Nat) → Option (State × List Byte)
  | [] => some (s, [])
  | e :: rest =>
    match dictRead s src e.1 e.2.1 with
    | (s1, .ok (_, b)) => (pdoSample s1 src rest).map fun r => (r.1, b ++ r.2)
    | (_, .error _) => none

/-- A transmit PDO sent. -/
def pdoSend (s : State) (i : Nat) : State :=
  let p := rd s (0x1240 + i) 0x01
  match pdoSample s (.can (Fin.ofNat 2 p)) (pdoEntries s i) with
  | some (s1, b) => canSend s1 p (bitsOf (rd s (0x1240 + i) 0x02) 0 11) b
  | none => s

/-- A transmit PDO with this trigger runs. -/
def pdoRuns (s : State) (i trigger : Nat) : Bool :=
  decide (8 ≤ i) && !bitOf (rd s (0x1240 + i) 0x02) 31 && rd s (0x1240 + i) 0x03 == trigger && nmtState s (rd s (0x1240 + i) 0x01) == 5

/-- Trigger 1: every Period ms. -/
def pdoCyclic (s : State) (i : Nat) : Option State :=
  let per := rd s (0x1240 + i) 0x04 * psMs
  let t0 := tabGet 0 s.plant.pdoAt i
  if !pdoRuns s i 1 || per == 0 || decide (s.now < t0 + per) then none
  else some (pdoSend (setPlant s { s.plant with pdoAt := tabPut s.plant.pdoAt i (t0 + (s.now - t0) / per * per) }) i)

/-- A SYNC counted by a transmit PDO of Trigger 2, which sends at every Period-th. -/
def pdoSyncOne (s : State) (i : Nat) : State :=
  if !pdoRuns s i 2 then s
  else
    let n := tabGet 0 s.plant.pdoSync i + 1
    let due := n == rd s (0x1240 + i) 0x04
    let s1 := setPlant s { s.plant with pdoSync := tabSet 0 s.plant.pdoSync i (if due then 0 else n) }
    if due then pdoSend s1 i else s1

/-- A SYNC is heard by the port: it is OPERATIONAL. -/
def syncHeard (s : State) (p : Nat) : Bool := nmtState s p == 5 && rd s (canK p) 0x09 != 2

/-- A SYNC received by a port. -/
def pdoSync (s : State) (p : Nat) : Option State :=
  if syncHeard s p then some ((pdosOf s p 8).foldl pdoSyncOne s) else none

/-- A write of 1 to TpdoTrigger. -/
def pdoTrigger (s : State) (i : Nat) : State × Status :=
  if i < 8 || rd s (0x1240 + i) 0x03 != 3 then (s, .state)
  else (if pdoRuns s i 3 then pdoSend s i else s, .ok)

/-! PTP (R393). -/

/-- A move of PtpState; a move out of LOCKED counts and sets PTP. -/
def ptpMove (s : State) (v : Nat) : State :=
  let s1 := wr s 0x1230 0x08 v
  if rd s 0x1230 0x08 == 4 && v != 4 then setCause (bump s1 0x1230 0x0D) .plant 2 else s1

/-- A write to PtpEnable: DISABLED, or LISTENING with no master known. -/
def ptpEnable (s : State) (v : Nat) : State :=
  let s1 := wr s 0x1230 0x01 v
  if v == 0 then ptpMove (setPlant s1 { s1.plant with ptp := { locked := s1.plant.ptp.locked } }) 0
  else if rd s 0x1230 0x08 == 0 then ptpMove s1 1 else s1

end Sys2Proof.Machine
end

