-- ==== Sys2Proof/Machine/DictWrite.lean ====
section
/-! DEFINITION. Writes of the object dictionary: the object's own checks, what a write does, and the mirroring of class M writes.
Spec: 13_object_dictionary.md R364, R366; 08_pair_operation.md R231 to R233; the object tables and the rules of each control object. -/

set_option Elab.async false

namespace Sys2Proof.Machine

/-! What a write of each object does (step 9 of R364 and the write itself). -/

/-- A value stored under a condition, else RANGE. -/
def storeIf (s : State) (o : ObjRef) (v : Nat) (ok : Bool) : State × Status := if ok then (wr s o.idx o.sub v, .ok) else (s, .range)

/-- The size register of the ring that a host index belongs to, and the step of the index. -/
def hostIndexOk (size unit v : Nat) : Bool := v % unit == 0 && decide (v < size)

/-- A base in bank memory or in the LPDDR5 window. -/
def ringBaseOk (v : Nat) : Bool := (decide (0x20000000 ≤ v) && decide (v < 0x22000000)) || inLpddrWindow v

/-- The tuning staging region lies in bank memory, aligned (R73). -/
def stagingOk (base size : Nat) : Bool :=
  base % 4096 == 0 && size % 4096 == 0 && decide (8192 ≤ size) && decide (size ≤ 0x200000) && decide (0x20000000 ≤ base) && decide (base + size ≤ 0x22000000)

/-- A value of a numeric object applied: its own checks, and its effect. -/
def numberApply (s : State) (o : ObjRef) (v : Nat) : State × Status :=
  let u := o.unit
  let store := (wr s o.idx o.sub v, Status.ok)
  let then_ := fun (x : State) => (x, Status.ok)
  match o.desc.fn with
  | .activateSlot => activateSlot s o.place v
  | .archiveBase => storeIf s o v (v % 16 == 0 && inLpddrWindow v)
  | .archiveHost => storeIf s o v (hostIndexOk (rd s 0x3803 0x03) 16 v)
  | .archiveMode => archiveModeWrite s v
  | .bankOwner => bankOwnerWrite s (o.sub - 1) v
  | .bankWaitMax => (wr (bankNow s (o.sub - 1)) o.idx o.sub v, .ok)
  | .barEnable => if v == 1 then barEnable s u else barDisable s u
  | .boardSupply => then_ (boardSupplyWrite s v)
  | .cacheErase => cacheErase s v
  | .cameraEnable => if v == 1 then camEnable s u else camDisable s u
  | .canEnable => then_ (canEnable s u v)
  | .capoHold => capoHoldWrite s v
  | .clearCounters => then_ (clearCounters s)
  | .cobId => cobIdWrite s u v
  | .coreCommand => coreCommand s o.place v
  | .coreReset => coreResetWrite s u
  | .coreRun => coreRunWrite s u v
  | .cpBase => if ringBaseOk v then then_ (ringSet s 0x4009 0x01 v) else (s, .range)
  | .cpHost => storeIf s o v (hostIndexOk (rd s 0x4009 0x02) 4864 v)
  | .cpSize => then_ (ringSet s 0x4009 0x02 v)
  | .dmaHostIndex => dmaHostWrite s u v
  | .domainRequest => domainRequest s o.place v
  | .encoderEnable => if v == 1 then encEnable s u else encDisable s u
  | .engineReset => engineReset s
  | .eventRaise => eventRaise s v
  | .ffePost => storeIf s o v (ffeOk (rd s o.idx 0x05) v)
  | .ffePre => storeIf s o v (ffeOk v (rd s o.idx 0x06))
  | .fieldClear => fieldClearWrite s u
  | .fieldRun => fieldRunWrite s u v
  | .firmwareKick => then_ (firmwareKick s)
  | .forceReject => forceReject s v
  | .furrowGating => then_ (furrowGatingWrite s v)
  | .fwFloor => firmwareFloor s v
  | .gateEnable => gateEnable s u v
  | .gatePolarity => store
  | .gateWidth => storeIf s o v (decide (1 ≤ v) && decide (v ≤ 1000000))
  | .groupGo => groupGo s
  | .healthPost => healthPost s v
  | .laneEnable => if v == 0 then laneMovedWith u (laneDisable s u) else
      let (s1, st) := laneEnable s u v
      (pairArbitrate s1, st)
  | .laneRetrain => laneMovedWith u (laneRetrain s u)
  | .ledgerBase => if ringBaseOk v then then_ (ringSet s 0x4008 0x01 v) else (s, .range)
  | .ledgerHost => storeIf s o v (hostIndexOk (rd s 0x4008 0x02) 64 v)
  | .ledgerSize => then_ (ringSet s 0x4008 0x02 v)
  | .heartbeat => then_ (heartbeatWrite s u v)
  | .lineGenEnable => genEnable s u v
  | .lpddrSupply => lpddrSupplyWrite s v
  | .lpddrWindow => storeIf s o v (v % 0x10000000 == 0)
  | .mapBase => storeIf s o v (mapBaseOk v (nozzles s u))
  | .mapEdit => mapEdit s u v
  | .nozzleCount => storeIf s o v (mapBaseOk (rd s (bx u 4) 0x02) v)
  | .pairEnable => pairEnable s v
  | .positionPreset => positionPreset s u v
  | .powerMode => powerModeWrite s v
  | .prbsClear => then_ (prbsClear s u)
  | .prbsInject => prbsInject s u
  | .prbsPattern => prbsPattern s u o.idx o.sub v
  | .ptpEnable => then_ (ptpEnable s v)
  | .queueEnable => if v == 1 then queueEnable s u else queueDisable s u
  | .queueFarEnd => storeIf s o v (decide (v ≤ 5))
  | .queueFlush => queueFlush s u v
  | .regionHost => let size := rd s (cc u) 0x0D; storeIf s o v (if size == 0 then v == 0 else hostIndexOk size 32 v)
  | .restoreDefaults => storeCommand s true
  | .resyncRequest => resyncRequest s
  | .retuneCancel => retuneCancel s u
  | .retuneGo => retuneGo s u
  | .rollbackFloor => storeIf s o v (decide (rd s 0x2606 0x00 ≤ v))
  | .routerGo => routerGo s
  | .rowBypass => rowBypassWrite s o.place v
  | .schedCores => then_ (schedCoresWrite s v)
  | .snapshot => snapCommand s
  | .spillBase => spillRegionWrite s u 5 v
  | .spillLength => spillRegionWrite s u 6 v
  | .stagingBase => storeIf s o v (stagingOk v (rd s 0x2605 0x02))
  | .stagingSize => storeIf s o v (stagingOk (rd s 0x2605 0x01) v)
  | .startAddress => storeIf s o v (fetchAddr u v).isSome
  | .storeParams => storeCommand s false
  | .swapGo => swapGo s
  | .taskCommand => taskCommand s v
  | .taskSetup => taskSetup s v
  | .timerEnable => then_ (timerWrite s u v)
  | .tpdoTrigger => pdoTrigger s u
  | .traceMode => then_ (traceModeWrite s v)
  | .triggerEnable => trigEnable s u v
  | .trngRestart => then_ (trngRestart s)
  | .tuningGo => tuningGo s
  | .verdictPost => verdictPost s v
  | _ => store

/-- A value of a VSTRING, OCTETS or DOMAIN object applied; none where its answer waits for the journal. `nvm` tells whether the key store takes a write. -/
def bytesApply (s : State) (agent : Bool) (o : ObjRef) (b : List Byte) (nvm : Bool) : State × Option Status :=
  let u := o.unit
  let put := fun (r : State × Status) => (r.1, some r.2)
  match o.desc.fn with
  | .attestNonce => put (attestNonce s b)
  | .cacheInstall => secCheckAsk s .cacheInstall b nvm
  | .coalescedMap => ({ s with coalesced := s.coalesced &&& leNat b }, some .ok)
  | .firmwareImage => secCheckAsk s .firmwareImage b nvm
  | .firmwareState => (let x := wrBytes s o.idx o.sub b; setPair x { x.pair with firmwareAt := some x.now }, some .ok)
  | .grant => grantWrite s b agent
  | .keyUpdate => secCheckAsk s .keyUpdate b nvm
  | .mapImage => put (mapImage s u b)
  | .mgmtRequest => put (if o.idx < 0x3800 then barMgmt s u b else camMgmt s u b)
  | .ownerInstall => put (ownerInstall s b nvm)
  | .routerWeights => put (weightsWrite s b)
  | .shadowTable => (shadowWrite s u b, some .ok)
  | .tuningImage => put (if loadRunning s then (s, .state) else ({ s with arr := { s.arr with load := { s.arr.load with domainImage := b } } }, .ok))
  | _ => (wrBytes s o.idx o.sub b, some .ok)

/-- The source is core n itself. -/
def isCore (src : Source) (n : Nat) : Bool :=
  match src with
  | .core k => k.val == n
  | _ => false

/-- A write that has passed steps 1 to 8 of R364: the status, or none while it waits for the journal (R196). -/
def dictApply (s : State) (src : Source) (o : ObjRef) (v : ObjVal) (nvm : Bool) : State × Option Status :=
  let n := leNat v.bytes
  let r : State × Option Status :=
    match o.desc.kind with
    | .trouble => (wr s o.idx o.sub 0, some .ok)
    | .cause => (wr s o.idx o.sub (clearBits (rd s o.idx o.sub) n), some .ok)
    | .plain =>
      if o.desc.fn == .retire then (let (x, st) := allotmentRetire s o.unit (src == .pairAgent); (x, some st))
      else if o.desc.fn == .coreCommand && !isCore src o.place then (commandRefused s, some .state)
      else if o.desc.fn == .coalescedMap || o.desc.ty.bytes == 0 then bytesApply s (src == .pairAgent) o v.bytes nvm
      else (let (x, st) := numberApply s o n; (x, some st))
  if o.desc.pers && (r.2 == some .ok || r.2 == some .restartPending) && src != .boot then
    (setSecurity r.1 { r.1.security with paramsDirty := true }, r.2)
  else r

/-! Order and mirroring (R232, R366). -/

/-- The objects that a waiting access writes. -/
def accessTouches (m : MirrorWait) : List (Nat × Nat) :=
  match m.kind with
  | .write => [(m.idx, m.sub)]
  | .pdo ws => ws.map (fun w => (w.1, w.2.1))
  | _ => []

/-- An access waits behind an earlier one of its own source, and a write behind an earlier one to the same object (R366). -/
def waitsBehind (m x : MirrorWait) : Bool := x.src == m.src || (accessTouches m).any (accessTouches x).contains

/-- A source has a write under way that waits for the journal or for the engines of the security unit (R196, R426). -/
def answerOwed (s : State) (src : Source) : Bool := s.plant.granting.any (fun x => x.src == src) || s.security.checks.any (fun x => x.1.src == src)

/-- An access is held up by those that wait; a grant that waits for the journal holds up its own source alone, and later grants are checked beside it (R196, R366). -/
def heldUp (s : State) (m : MirrorWait) : Bool :=
  m.src != .pairAgent && m.src != .boot
    && ((s.pair.mirror ++ s.pair.ready ++ s.plant.blocked).any (waitsBehind m) || answerOwed s m.src)

/-- An access that waits for its turn. -/
def block (s : State) (m : MirrorWait) : State := setPlant s { s.plant with blocked := s.plant.blocked ++ [m] }

/-- MIRROR_WRITE frames of a value, in chunks of up to 4,096 bytes (R224), and the number of the last. -/
def mirrorFrames (idx sub : Nat) (b : List Byte) : Nat → Nat → State → State × Nat
  | 0, _, s => (s, 0)
  | k + 1, off, s =>
    let chunk := (b.drop off).take 4096
    let last := b.length ≤ off + 4096
    let (s1, seq) := sendOrdered s 0x12 (leBytes 2 idx ++ leBytes 1 sub ++ leBytes 1 (boolNat last) ++ leBytes 4 off ++ chunk)
    if last then (s1, seq) else mirrorFrames idx sub b k (off + 4096) s1

/-- A status that R232 counts as a refusal. -/
def refuses (r : Option Status) : Bool :=
  match r with
  | some .ok | some .restartPending | none => false
  | _ => true

/-- A write with its turn come: checked in order, then applied, refused, or sent to the partner first. -/
def dictWriteNow (s : State) (m : MirrorWait) (nvm : Bool) : State × Option Status :=
  match resolveObj m.idx m.sub with
  | .error e => (s, some e)
  | .ok o =>
    match writeCheck s m.src o m.value with
    | some e => (s, some e)
    | none =>
      let r := dictApply s m.src o m.value nvm
      if o.desc.cls == .m && pairRole s == 2 && m.src != .pairAgent && m.src != .boot && !m.value.bytes.isEmpty && !refuses r.2 then
        let (s1, seq) := mirrorFrames m.idx m.sub m.value.bytes (m.value.bytes.length / 4096 + 1) 0 s
        (setPair s1 { s1.pair with mirror := s1.pair.mirror ++ [{ m with seq := seq }] }, none)
      else if r.2 == none then
        (if o.desc.fn == .grant then setPlant r.1 { r.1.plant with granting := r.1.plant.granting ++ [m] }
         else setSecurity r.1 { r.1.security with checks := r.1.security.checks ++ [(m, r.1.now, nvm)] }, none)
      else r

/-- A write of an object by a source (R364, R366): its status, or none while it waits. -/
def dictWriteWith (s : State) (src : Source) (direct : Bool) (idx sub : Nat) (v : ObjVal) (nvm : Bool) : State × Option Status :=
  let m : MirrorWait := { seq := 0, src := src, direct := direct, idx := idx, sub := sub, value := v }
  if heldUp s m then (block s m, none) else dictWriteNow s m nvm

/-- A write through a port of the dictionary. -/
def dictWrite (s : State) (src : Source) (idx sub : Nat) (v : ObjVal) : State × Option Status := dictWriteWith s src false idx sub v true

/-! MIRROR_WRITE on the standby (R224, R232). -/

/-- The chunks of a value are collected; with the last the standby applies the write, and answers with its status. -/
def mirrorReceived (s : State) (p : List Byte) : State × Nat × Bool :=
  let idx := leAt p 0 2
  let sub := leAt p 2 1
  let off := leAt p 4 4
  let old := match s.pair.assembly with | some (i, j, b) => if i == idx && j == sub then b else [] | none => []
  let b := (if off == 0 then [] else old.take off) ++ p.drop 8
  if leAt p 3 1 % 2 == 0 then (setPair s { s.pair with assembly := some (idx, sub, b) }, 0, false)
  else
    let (s1, st) := dictWrite (setPair s { s.pair with assembly := none }) .pairAgent idx sub { ty := 0, bytes := b }
    (s1, (st.getD .ok).code, refuses st)

/-- A MIRROR_WRITE frame; a status that differs from the primary's makes the standby ORPHANED. -/
def mirrorFrame (s : State) (i seq role : Nat) (p : List Byte) (ok : Bool) : State :=
  let s1 := pairOrdered s i 0x12 seq role p ok (fun x => if pairRole x == 3 then (let (y, st, _) := mirrorReceived x p; (y, true, st)) else (x, true, 0))
  match tabFind s1.pair.answers seq with
  | some (true, st) => if pairRole s1 == 3 && s.pair.rxSeq + 1 == seq && s1.pair.rxSeq == seq && !(st == 0 || st == 0x09) then orphan s1 4 else s1
  | _ => s1

end Sys2Proof.Machine
end

