-- ==== Sys2Proof/Machine/Window.lean ====
section
/-! DEFINITION. The dictionary as Peg cores see it: the memory-mapped view, the halves of 64-bit objects, and the domain transfer ports.
Spec: 13_object_dictionary.md R368 to R372. -/

set_option Elab.async false

namespace Sys2Proof.Machine

/-! Domain transfers (R371, R372). -/

def domPort (s : State) (n : Nat) : DomainPort := tabGet {} s.plant.domains n
def setDomPort (s : State) (n : Nat) (x : DomainPort) : State := setPlant s { s.plant with domains := tabSet {} s.plant.domains n x }

def stagingBase (s : State) : Nat := rd s 0x1201 0x03
def stagingSize (s : State) : Nat := rd s 0x1201 0x04

/-- The answer of the network where it turns an access to the staging region away (R321, R335). -/
def stagingStatus (s : State) : Option Status := gateStatus (unitGate s 13 (stagingBase s) (stagingSize s))

/-- Bytes of a value being assembled, put into the staging region by the interface of the plant ports as master 14 (R311, R372). -/
def stagingPut (s : State) (off : Nat) (b : List Byte) : State := memWrite (unitUse s 14 13 (stagingBase s + off) b.length) (stagingBase s + off) b

/-- What an access to the staging region that is turned away leaves. -/
def stagingTurned (s : State) : State := unitTurned s 13 (unitGate s 13 (stagingBase s) (stagingSize s))

/-- CONTROL written: 1 READ, 2 WRITE. -/
def domControl (s : State) (n v : Nat) : State × Status :=
  let x := domPort s n
  let idx := bitsOf x.object 16 16
  let sub := bitsOf x.object 8 8
  if v == 0 || 2 < v then (s, .range)
  else if x.job.isSome then (s, .state)
  else if v == 1 then
    let (s1, r) := dictRead s (.transfer (Fin.ofNat 8 n)) idx sub
    let job : DomainJob := match r with
      | .ok (_, b) => { write := false, object := x.object, buffer := x.buffer, length := x.length, value := b }
      | .error e => { write := false, object := x.object, buffer := x.buffer, length := x.length, failed := some e }
    (setDomPort s1 n { domPort s1 n with status := 1, count := 0, job := some job }, .ok)
  else if s.plant.assembly.isSome then (s, .state)
  else if stagingSize s < x.length then (s, .range)
  else
    let a : Assembly := { src := .transfer (Fin.ofNat 8 n), node := 0, idx := idx, sub := sub, bytes := [], lastAt := s.now }
    let s1 := setPlant s { s.plant with assembly := some a }
    (setDomPort s1 n { x with status := 1, count := 0, job := some { write := true, object := x.object, buffer := x.buffer, length := x.length } }, .ok)

/-- A store to core n's port. -/
def domPortWrite (s : State) (n sub v : Nat) : State × Status :=
  let x := domPort s n
  match sub with
  | 0 => if v % 256 == 0 then (setDomPort s n { x with object := v }, .ok) else (s, .range)
  | 1 => if v % 4 == 0 then (setDomPort s n { x with buffer := v }, .ok) else (s, .range)
  | 2 => (setDomPort s n { x with length := v }, .ok)
  | 3 => domControl s n v
  | 4 => (s, .readOnly)
  | 5 => (s, .readOnly)
  | _ => (s, .noSub)

/-- A load from core n's port. -/
def domPortRead (s : State) (n sub : Nat) : Except Status Nat :=
  let x := domPort s n
  match sub with
  | 0 => .ok x.object
  | 1 => .ok x.buffer
  | 2 => .ok x.length
  | 3 => .error .writeOnly
  | 4 => .ok x.status
  | 5 => .ok x.count
  | _ => .error .noSub

/-- A transfer ends DONE or FAILED. -/
def domEnd (s : State) (n count : Nat) (st : Status) : State :=
  let good := st == .ok || st == .restartPending
  setDomPort s n { domPort s n with status := (if good then 2 else 3) + 256 * st.code, count := count, job := none }

/-- The write of a domain transfer is held up, by the partner, by the journal or by an earlier write. -/
def sourceWaits (s : State) (src : Source) : Bool :=
  (s.pair.mirror ++ s.pair.ready ++ s.plant.granting ++ s.plant.blocked).any (fun m => m.src == src && !m.direct)

/-- The assembly that is under way is over. -/
def endAssembly (s : State) : State := setPlant s { s.plant with assembly := none }

/-- A domain transfer has moved its bytes: a READ has filled the buffer, a WRITE gives the object its value whole. -/
def domFinish (s : State) (n : Nat) : Option State :=
  let src : Source := .transfer (Fin.ofNat 8 n)
  match (domPort s n).job with
  | none => none
  | some j =>
    if sourceWaits s src then none
    else if rangeBorrowed s j.buffer (if j.write then j.length else j.value.length) then turned s 13 .borrowed
    else if !j.write then
      match j.failed with
      | some e => some (domEnd s n 0 e)
      | none =>
        if j.length < j.value.length then some (domEnd s n j.value.length .range)
        else match bufferAddr s 13 n j.buffer j.value.length with
          | .ok a => some (domEnd (netStore j.value.length.succ (bufferUse s 13 n j.buffer j.value.length) a j.value) n j.value.length .ok)
          | .error e => some (domEnd (bufferUse s 13 n j.buffer j.value.length) n 0 e)
    else
      let s0 := bufferUse (endAssembly s) 13 n j.buffer j.length
      match bufferAddr s0 13 n j.buffer j.length with
      | .error e => some (domEnd s0 n 0 e)
      | .ok a =>
        match stagingStatus s0 with
        | some st => some (domEnd (stagingTurned s0) n 0 st)
        | none =>
          let b := netLoad (j.length + 1) s0 a j.length
          let (s1, r) := dictWrite (stagingPut s0 0 b) src (bitsOf j.object 16 16) (bitsOf j.object 8 8) { ty := 0, bytes := b }
          match r with
          | some st => some (domEnd s1 n j.length st)
          | none => some s1

/-! The memory-mapped view (R368, R369, R371). -/

/-- Index and sub-index of a window address. -/
def windowIndex (a : Nat) : Nat := a % 0x40000000 / 0x400
def windowSub (a : Nat) : Nat := a % 0x400 / 4

/-- The held or captured word of a core for an object. -/
def halfOf (l : List (Nat × Nat × Nat)) (n key : Nat) : Option Nat := (l.find? (fun e => e.1 == n && e.2.1 == key)).map (·.2.2)
def halfDrop (l : List (Nat × Nat × Nat)) (n key : Nat) : List (Nat × Nat × Nat) := l.filter (fun e => !(e.1 == n && e.2.1 == key))

/-- A type of 64 bits. -/
def wideType (ty : ObjTy) : Bool := ty == .u64 || ty == .i64

/-- A load of core n from the dictionary window. -/
def windowLoad (s : State) (n a size : Nat) : State × Except Status Nat :=
  let idx := windowIndex a
  let sub := windowSub a
  let src : Source := .core (Fin.ofNat 8 n)
  if size != 4 || a % 4 != 0 then (s, .error .type)
  else if 0x7F00 ≤ idx && idx < 0x7F08 then (s, if idx == 0x7F00 + n then domPortRead s n sub else .error .state)
  else if 0x8000 ≤ idx then
    match resolveObj (lessBy idx 0x8000) sub with
    | .error e => (s, .error e)
    | .ok o =>
      if !wideType o.desc.ty then (s, .error .noObject)
      else
        let key := objKey o.idx o.sub
        match halfOf s.plant.captured n key with
        | some v => (setPlant s { s.plant with captured := halfDrop s.plant.captured n key }, .ok (v >>> 32))
        | none =>
          match dictRead s src o.idx o.sub with
          | (s1, .ok (_, b)) => (s1, .ok (leAt b 4 4))
          | (s1, .error e) => (s1, .error e)
  else
    match dictRead s src idx sub with
    | (s1, .error e) => (s1, .error e)
    | (s1, .ok (o, b)) =>
      if o.desc.ty.bytes == 0 then (s1, .ok b.length)
      else if wideType o.desc.ty then
        (setPlant s1 { s1.plant with captured := halfDrop s1.plant.captured n (objKey idx sub) ++ [(n, objKey idx sub, leNat b)] }, .ok (leAt b 0 4))
      else (s1, .ok (if o.desc.ty.signed then wrapInt 32 (signedOf (8 * b.length) (leNat b)) else leNat b))

/-- A 32-bit word holds a value that fits a type. -/
def wordFits (ty : ObjTy) (v : Nat) : Bool :=
  let n := 8 * ty.bytes
  if ty.signed then decide (-(2 ^ (n - 1) : Int) ≤ signedOf 32 v) && decide (signedOf 32 v < (2 ^ (n - 1) : Int)) else decide (v < 2 ^ n)

/-- A store of core n to the dictionary window; none while the write waits. -/
def windowStore (s : State) (n a size v : Nat) : State × Option Status :=
  let idx := windowIndex a
  let sub := windowSub a
  let src : Source := .core (Fin.ofNat 8 n)
  if size != 4 || a % 4 != 0 then (s, some .type)
  else if 0x7F00 ≤ idx && idx < 0x7F08 then
    (if idx == 0x7F00 + n then (let (x, st) := domPortWrite s n sub v; (x, some st)) else (s, some .state))
  else if 0x8000 ≤ idx then
    match resolveObj (lessBy idx 0x8000) sub with
    | .error e => (s, some e)
    | .ok o =>
      if !wideType o.desc.ty then (s, some .noObject)
      else
        let key := objKey o.idx o.sub
        (setPlant s { s.plant with heldHigh := halfDrop s.plant.heldHigh n key ++ [(n, key, v)] }, some .ok)
  else
    match resolveObj idx sub with
    | .error e => (s, some e)
    | .ok o =>
      if wideType o.desc.ty then
        let key := objKey idx sub
        let high := (halfOf s.plant.heldHigh n key).getD 0
        dictWrite (setPlant s { s.plant with heldHigh := halfDrop s.plant.heldHigh n key }) src idx sub { ty := o.desc.ty.code, bytes := leBytes 8 (v + high * 2 ^ 32) }
      else if o.desc.ty.bytes == 0 || !wordFits o.desc.ty v then (s, some ((writeAccess s src o).getD .type))
      else dictWrite s src idx sub { ty := o.desc.ty.code, bytes := leBytes o.desc.ty.bytes v }

end Sys2Proof.Machine
end

