-- ==== Sys2Proof/Machine/Opral.lean ====
section
/-! DEFINITION. The Ethernet ports: Opral datagrams and their ops, segmented transfers, stored responses, ARP and ICMP echo.
Spec: 13_object_dictionary.md R372, R381 to R386. -/

set_option Elab.async false

namespace Sys2Proof.Machine

def ethOf (s : State) (p : Nat) : EthPort := tabGet {} s.plant.eth p
def setEth (s : State) (p : Nat) (x : EthPort) : State := setPlant s { s.plant with eth := tabSet {} s.plant.eth p x }
def ethE (p : Nat) : Nat := 0x1210 + p

/-- A port takes what its link brings: it is on, with PD39 ON, the link is up, and boot has passed the step that enables the plant ports (R414). -/
def ethUp (s : State) (p : Nat) : Bool := dictOn s && domOn s 39 && decide (3 ≤ bootState s) && rd s (ethE p) 0x01 == 1 && rd s (ethE p) 0x0D == 1

/-! Segmented transfers (R372, R385). -/

/-- SegmentTimeout. -/
def segmentLimit (s : State) : Nat := rd s 0x1201 0x05 * psMs

/-- Whether an assembly is of this sender and object. -/
def sameAssembly (a : Assembly) (src : Source) (node idx sub : Nat) : Bool := a.src == src && a.node == node && a.idx == idx && a.sub == sub

/-- A segment of a long write. The bytes go to the staging region; with the last segment the object takes the value whole. None is a write that waits. -/
def segWrite (s : State) (src : Source) (node idx sub ty off : Nat) (last : Bool) (data : List Byte) : State × Option Status :=
  let go := fun (old : List Byte) =>
    let b := old ++ data
    if stagingSize s < b.length then (endAssembly s, some Status.range)
    else if (stagingStatus s).isSome then (endAssembly (stagingTurned s), stagingStatus s)
    else
      let s1 := stagingPut s off data
      if last then dictWrite (endAssembly s1) src idx sub { ty := ty, bytes := b }
      else (setPlant s1 { s1.plant with assembly := some { src := src, node := node, idx := idx, sub := sub, bytes := b, lastAt := s.now } }, some .ok)
  match s.plant.assembly with
  | none => if off == 0 then go [] else (s, some .range)
  | some a =>
    if !sameAssembly a src node idx sub then (s, some .state)
    else if off != a.bytes.length then (endAssembly s, some .range)
    else go a.bytes

/-- The captures of a sender for an object, gone. -/
def dropCapture (s : State) (src : Source) (node : Nat) : State :=
  setPlant s { s.plant with captures := s.plant.captures.filter (fun c => !(c.src == src && c.node == node)) }

/-- A segment of a long read: at offset 0 the value is captured, and later offsets read the captured value, until SegmentTimeout. The total and the bytes. -/
def segRead (s : State) (src : Source) (node idx sub off max : Nat) : State × Except Status (Nat × List Byte) :=
  let give := fun (x : State) (b : List Byte) =>
    if b.length < off then (x, Except.error Status.range)
    else
      let d := (b.drop off).take max
      let x1 := dropCapture x src node
      (setPlant x1 { x1.plant with captures := x1.plant.captures ++ [{ src := src, node := node, idx := idx, sub := sub, bytes := b, lastAt := x.now }] }, .ok (b.length, d))
  if off == 0 then
    match dictRead s src idx sub with
    | (s1, .ok (_, b)) => give s1 b
    | (s1, .error e) => (s1, .error e)
  else
    match s.plant.captures.find? (fun c => c.src == src && c.node == node && c.idx == idx && c.sub == sub) with
    | some c => give s c.bytes
    | none => (s, .error .state)

/-- A source of an Ethernet port. -/
def isEth (src : Source) : Bool := match src with | .eth _ => true | _ => false
def isCan (src : Source) (p : Nat) : Bool := match src with | .can q => q.val == p | _ => false

/-- Assemblies and captures of Ethernet ports unused for SegmentTimeout are discarded, each counted. -/
def segExpire (s : State) : Option State :=
  let due := fun (src : Source) (t : Nat) => isEth src && decide (t + segmentLimit s ≤ s.now)
  let lost := match s.plant.assembly with | some a => boolNat (due a.src a.lastAt) | none => 0
  let old := (s.plant.captures.filter (fun c => due c.src c.lastAt)).length
  if lost + old == 0 then none
  else
    let s1 := if lost == 1 then endAssembly s else s
    let s2 := setPlant s1 { s1.plant with captures := s1.plant.captures.filter (fun c => !due c.src c.lastAt) }
    some ((List.range (lost + old)).foldl (fun x _ => bump x 0x1201 0x06) s2)

/-! Ops (R383 to R385). -/

def padded (b : List Byte) : List Byte := b ++ List.replicate ((4 - b.length % 4) % 4) 0

/-- An op of a datagram. -/
structure Op where
  code : Nat
  idx : Nat
  sub : Nat
  ty : Nat
  value : List Byte
  deriving DecidableEq, Repr

/-- The first op of a list of bytes. -/
def opAt (b : List Byte) : Op :=
  { code := leAt b 0 1, idx := leAt b 2 2, sub := leAt b 4 1, ty := leAt b 5 1, value := bytesAt b 8 (leAt b 6 2) }

/-- Bytes of an op with its padding. -/
def opSize (b : List Byte) : Nat := 8 + (leAt b 6 2 + 3) / 4 * 4

/-- `n` ops lie within the bytes. -/
def opsFit : Nat → List Byte → Bool
  | 0, _ => true
  | n + 1, b => decide (8 ≤ b.length) && decide (opSize b ≤ b.length) && opsFit n (b.drop (opSize b))

/-- The response to an op. -/
def opAnswer (o : Op) (ty : Nat) (st : Status) (v : List Byte) : List Byte :=
  leBytes 1 o.code ++ leBytes 1 st.code ++ leBytes 2 o.idx ++ leBytes 1 o.sub ++ leBytes 1 ty ++ leBytes 2 v.length ++ padded v

/-- A READ: the object's type and value; a DOMAIN value, one above 1,024 bytes or one of another type is refused with TYPE. -/
def opRead (s : State) (src : Source) (idx sub ty : Nat) : State × Except Status (Nat × List Byte) :=
  match resolveObj idx sub with
  | .error e => (s, .error e)
  | .ok o =>
    if o.desc.acc == .wo then (s, .error .writeOnly)
    else if (ty != 0 && ty != o.desc.ty.code) || o.desc.ty == .domain then (s, .error .type)
    else
      match dictRead s src idx sub with
      | (s1, .ok (_, b)) => if 1024 < b.length then (s, .error .type) else (s1, .ok (o.desc.ty.code, b))
      | (s1, .error e) => (s1, .error e)

/-- The type of a SEG_WRITE as step 6 of R364 takes it: the code 0 is any type in a READ only, and matches no object here (R383). -/
def segTy (ty : Nat) : Nat := if ty == 0 then 0xFF else ty

/-- The type of a WRITE as step 6 of R364 takes it: a DOMAIN value, one above 1,024 bytes and the code 0 match no object. -/
def writeTy (ty len : Nat) : Nat := if ty == 0x0D || 1024 < len then 0xFF else segTy ty

/-- An op performed for a sender, with `room` bytes left for the value of its response: its response, or none while its write waits. Bits [31:1] of SEG_WRITE's flags are taken as reserved, and ignored (R5; notes/assumptions/168.md). -/
def opRun (s : State) (src : Source) (node : Nat) (broadcast : Bool) (room : Nat) (o : Op) : State × Option (List Byte) :=
  let fail := fun (x : State) (st : Status) => (x, some (opAnswer o o.ty st []))
  let wrote := fun (r : State × Option Status) => (r.1, r.2.map (fun st => opAnswer o o.ty st []))
  match o.code with
  | 1 =>
    if broadcast then (s, some []) else
    match opRead s src o.idx o.sub o.ty with
    | (s1, .ok (ty, b)) => if room < b.length then fail s1 .range else (s1, some (opAnswer o ty .ok b))
    | (s1, .error e) => fail s1 e
  | 2 => wrote (dictWrite s src o.idx o.sub { ty := writeTy o.ty o.value.length, bytes := o.value })
  | 3 =>
    if broadcast then (s, some []) else
    match resolveObj o.idx o.sub with
    | .error e => fail s e
    | .ok r =>
      if o.value.length != 8 || o.ty != r.desc.ty.code then fail s .type
      else if room < 8 then fail s .range
      else
        match segRead s src node o.idx o.sub (leAt o.value 0 4) (min (leAt o.value 4 2) (room - 8)) with
        | (s1, .ok (total, d)) => (s1, some (opAnswer o r.desc.ty.code .ok (o.value.take 4 ++ leBytes 4 total ++ d)))
        | (s1, .error e) => fail s1 e
  | 4 =>
    if o.value.length < 8 then fail s .type
    else wrote (segWrite s src node o.idx o.sub (segTy o.ty) (leAt o.value 0 4) (bitOf (leAt o.value 4 4) 0) (o.value.drop 8))
  | _ => fail s .range

/-! Datagrams (R382, R384, R386). -/

/-- "OP", version 1. -/
def opralHeader (flags dst src seq count : Nat) : List Byte :=
  [0x4F, 0x50, 0x01] ++ leBytes 1 flags ++ leBytes 2 dst ++ leBytes 2 src ++ leBytes 4 seq ++ leBytes 2 count ++ leBytes 2 0

/-- What R384 discards and counts; the reserved flags [7:3] are ignored (R5). -/
def opralBad (b : List Byte) : Bool :=
  let flags := leAt b 3 1
  let count := leAt b 0x0C 2
  leAt b 0 2 != 0x504F || leAt b 2 1 != 1 || leAt b 0x0E 2 != 0 || bitOf flags 0
    || decide (64 < count) || (count == 0 && !bitOf flags 2) || !opsFit count (b.drop 16)

/-- A response kept for its pair of sender address and node, of the last 16 pairs. -/
def keepReply (l : List Reply) (r : Reply) : List Reply :=
  let rest := l.filter (fun x => !(x.ip == r.ip && x.node == r.node))
  (if rest.length < 16 then rest else rest.drop 1) ++ [r]

/-- The ops of the request in progress performed in order, each with room left for the ops behind it (R381); at the end the response goes to the sender. -/
def opralGo (p : Nat) : Nat → State → State
  | 0, s => s
  | k + 1, s =>
    match (ethOf s p).request with
    | none => s
    | some r =>
      if r.count == 0 then
        let s1 := setEth s p { ethOf s p with request := none }
        if r.broadcast then s1
        else
          let b := opralHeader 1 r.node (nodeId s1) r.seq ((leAt r.resp 0 2)) ++ r.resp.drop 2
          let s2 := setEth s1 p { ethOf s1 p with replies := keepReply (ethOf s1 p).replies { ip := r.ip, node := r.node, seq := r.seq, bytes := b } }
          udpSend s2 p r.ip r.port b
      else
        let (s1, a) := opRun s (.eth (Fin.ofNat 2 p)) r.node r.broadcast (1472 - 16 - 8 * r.count - (r.resp.length - 2)) (opAt r.ops)
        match a with
        | none => s1
        | some b => opralGo p k (setEth s1 p { ethOf s1 p with request := some { r with count := r.count - 1, ops := r.ops.drop (opSize r.ops), resp := r.resp ++ b } })

/-- A datagram is for this node, or for all. -/
def opralMine (s : State) (b : List Byte) : Bool := bitOf (leAt b 3 1) 1 || leAt b 4 2 == nodeId s

/-- A datagram taken from the buffer: discarded, answered from the stored response, or made the request in progress. -/
def opralTake (s : State) (p ip port : Nat) (b : List Byte) : State :=
  let flags := leAt b 3 1
  if !opralMine s b then s
  else if opralBad b then setCause (bump s 0x1201 0x01) .plant 3
  else
    let s1 := count64 s (ethE p) 0x0E 1
    if leAt b 0x0C 2 == 0 then s1
    else
      let node := leAt b 6 2
      let seq := leAt b 8 4
      match (ethOf s1 p).replies.find? (fun r => r.ip == ip && r.node == node && r.seq == seq && !bitOf flags 1) with
      | some r => udpSend (bump s1 0x1201 0x02) p ip port r.bytes
      | none =>
        let count := leAt b 0x0C 2
        let q : Request := { ip := ip, port := port, node := node, seq := seq, broadcast := bitOf flags 1, count := count, ops := b.drop 16, resp := leBytes 2 count }
        opralGo p 65 (setEth s1 p { ethOf s1 p with request := some q })

/-- Datagrams that wait are taken while no request is in progress. -/
def opralDrain (p : Nat) : Nat → State → State
  | 0, s => s
  | k + 1, s =>
    if (ethOf s p).request.isSome then s
    else match (ethOf s p).buffer with
      | [] => s
      | (ip, port, b) :: rest => opralDrain p k (opralTake (setEth s p { ethOf s p with buffer := rest }) p ip port b)

/-- The datagrams held while the clocks were stopped are taken (R404). -/
def opralHeld (s : State) : State := if sysRuns s then opralDrain 1 33 (opralDrain 0 33 s) else s

/-- A wake source has come: the engine leaves a low-power mode that has it enabled, and takes the datagrams held (R404, R405). -/
def woken (s : State) (src : Nat) : State :=
  match wakeFrom s src with
  | some y => opralHeld y
  | none => s

/-- A datagram received at UDP port 47110: buffered, or dropped where 32 wait (R381). While the clocks are stopped it is held, and one for this node is wake source 4 (R404, R405). -/
def opralReceive (s : State) (p ip port : Nat) (b : List Byte) : State :=
  if !ethUp s p || decide (1472 < b.length) then s
  else
    let x := ethOf s p
    let full := decide (32 ≤ x.buffer.length)
    let s1 := if full then bump s (ethE p) 0x0F else setEth s p { x with buffer := x.buffer ++ [(ip, port, b)] }
    if sysRuns s then (if full then s1 else opralDrain p 33 s1)
    else if opralMine s b then woken s1 4
    else s1

/-- The write that the request in progress waited for has its status: its response op, and on. -/
def opralAnswered (s : State) (p : Nat) (st : Status) : State :=
  match (ethOf s p).request with
  | none => s
  | some r =>
    let o := opAt r.ops
    let s1 := setEth s p { ethOf s p with request := some { r with count := r.count - 1, ops := r.ops.drop (opSize r.ops), resp := r.resp ++ opAnswer o o.ty st [] } }
    opralDrain p 33 (opralGo p 65 s1)

/-! ARP and ICMP echo (R381), laid out as RFC 826 and RFC 792 give. -/

/-- Big-endian bytes. -/
def beBytes (n v : Nat) : List Byte := (leBytes n v).reverse

/-- A frame of an Ethernet port that carries no UDP: the destination address, UDP port 0, and the packet. -/
def ethSend (s : State) (p ip : Nat) (b : List Byte) : State := udpSend s p ip 0 b

/-- An ARP request for the port's address is answered with its MAC address. -/
def arpReply (s : State) (p senderMac senderIp targetIp : Nat) : Option State :=
  if !ethUp s p || targetIp != rd s (ethE p) 0x04 then none
  else
    let mac := (List.range 6).map (Config.macAddress p)
    some (ethSend s p senderIp (beBytes 2 1 ++ beBytes 2 0x0800 ++ [6, 4] ++ beBytes 2 2 ++ mac ++ beBytes 4 targetIp ++ beBytes 6 senderMac ++ beBytes 4 senderIp))

/-- Sum of 16-bit big-endian words. -/
def sum16 : List Byte → Nat
  | [] => 0
  | [a] => a.toNat * 256
  | a :: b :: rest => a.toNat * 256 + b.toNat + sum16 rest

/-- The Internet checksum. -/
def inetChecksum (b : List Byte) : Nat :=
  let x := sum16 b
  let y := x % 65536 + x / 65536
  let z := y % 65536 + y / 65536
  65535 - z

/-- An ICMP echo request to the port's address is answered with its identifier, sequence number and data. -/
def icmpReply (s : State) (p senderIp targetIp : Nat) (rest : List Byte) : Option State :=
  if !ethUp s p || targetIp != rd s (ethE p) 0x04 then none
  else some (ethSend s p senderIp ([0, 0] ++ beBytes 2 (inetChecksum ([0, 0, 0, 0] ++ rest)) ++ rest))

end Sys2Proof.Machine
end

