-- ==== Sys2Proof/Machine/CanServe.lean ====
section
/-! DEFINITION. The SDO server of the CAN FD ports, and receive PDOs.
Spec: 13_object_dictionary.md R389, R390. -/

set_option Elab.async false

namespace Sys2Proof.Machine

/-- The abort code of a status (R389). -/
def abortCode (st : Status) : Nat :=
  match st with
  | .noObject => 0x06020000
  | .noSub => 0x06090011
  | .readOnly => 0x06010002
  | .writeOnly => 0x06010001
  | .type => 0x06070010
  | .range => 0x06090030
  | .state | .resourceInUse => 0x08000022
  | .auth | .role => 0x08000021
  | .storeFail => 0x08000020
  | .timeout | .absorbed | .fenced => 0x06060000
  | .ok | .restartPending => 0

/-- The port serves SDO: in PRE-OPERATIONAL and OPERATIONAL. -/
def sdoServed (s : State) (p : Nat) : Bool := (nmtState s p == 0x7F || nmtState s p == 0x05) && rd s (canK p) 0x09 != 2

/-- An SDO transfer answered: confirmed, or aborted with its code, which is counted. -/
def sdoAnswer (s : State) (p : Nat) (st : Status) : State :=
  let s1 := { s with answer := { s.answer with status := some st, value := abortCode st } }
  if st == .ok || st == .restartPending then s1
  else setCause (wr (bump s1 (canK p) 0x0B) (canK p) 0x0C st.code) .plant 4

/-- A download: expedited at once, or a segment of a value that the object takes whole with the last. -/
def sdoDownload (s : State) (p idx sub off : Nat) (last : Bool) (b : List Byte) : State :=
  if !sdoServed s p then s
  else
    let src : Source := .can (Fin.ofNat 2 p)
    let (s1, r) := if off == 0 && last then dictWrite s src idx sub { ty := 0, bytes := b } else segWrite s src 0 idx sub 0 off last b
    match r with
    | some st => sdoAnswer s1 p st
    | none => s1

/-- An upload whose turn has come: the bytes from an offset of a value captured at offset 0, and its length. -/
def sdoUploadNow (s : State) (p idx sub off max : Nat) : State :=
  match segRead s (.can (Fin.ofNat 2 p)) 0 idx sub off max with
  | (s1, .ok (total, d)) => { s1 with answer := { s1.answer with status := some .ok, value := total, bytes := d } }
  | (s1, .error e) => sdoAnswer s1 p e

/-- An upload; it waits behind a write of its port that waits (R366). -/
def sdoUpload (s : State) (p idx sub off max : Nat) : State :=
  let m : MirrorWait := { seq := 0, src := .can (Fin.ofNat 2 p), direct := false, idx := idx, sub := sub, value := { ty := 0, bytes := [] }, kind := .upload off max }
  if !sdoServed s p then s
  else if heldUp s m then block s m
  else sdoUploadNow s p idx sub off max

/-- A transfer of the port idle for SegmentTimeout: aborted with 0x05040000. -/
def sdoExpire (s : State) (p : Nat) : Option State :=
  let due := fun (src : Source) (t : Nat) => isCan src p && decide (t + segmentLimit s ≤ s.now)
  let lost := match s.plant.assembly with | some a => due a.src a.lastAt | none => false
  let old := s.plant.captures.any (fun c => due c.src c.lastAt)
  if !lost && !old then none
  else
    let s1 := if lost then endAssembly s else s
    let s2 := setPlant s1 { s1.plant with captures := s1.plant.captures.filter (fun c => !due c.src c.lastAt) }
    let s3 := setCause (bump s2 (canK p) 0x0B) .plant 4
    some { s3 with answer := { s3.answer with value := 0x05040000 } }

/-- The writes of a receive PDO: object and value of each entry. -/
def rpdoWrites : List (Nat × Nat × Nat) → List Byte → List (Nat × Nat × List Byte)
  | [], _ => []
  | e :: rest, b => (e.1, e.2.1, b.take (e.2.2 / 8)) :: rpdoWrites rest (b.drop (e.2.2 / 8))

/-- The status with which a write would be refused, every check of R364 taken. -/
def writeRefusal (s : State) (src : Source) (idx sub : Nat) (b : List Byte) : Option Status :=
  match resolveObj idx sub with
  | .error e => some e
  | .ok o =>
    match writeCheck s src o { ty := 0, bytes := b } with
    | some e => some e
    | none =>
      let r := (dictApply s src o { ty := 0, bytes := b } true).2
      if refuses r then r else none

/-- The object is of class M (R231). -/
def classM (idx sub : Nat) : Bool := match resolveObj idx sub with | .ok o => o.desc.cls == .m | .error _ => false

/-- The writes of a PDO on a primary with a class M object among them: each of those goes to the partner, and all wait until the last is answered, to be applied together (R232, R390). -/
def pdoMirror (s : State) (src : Source) (ws : List (Nat × Nat × List Byte)) : State :=
  let g := s.pair.txSeq + 1
  ws.foldl (fun x w =>
    let m : MirrorWait := { seq := 0, src := src, direct := true, idx := w.1, sub := w.2.1, value := { ty := 0, bytes := w.2.2 }, group := some g }
    if classM w.1 w.2.1 then
      let (x1, seq) := mirrorFrames w.1 w.2.1 w.2.2 1 0 x
      setPair x1 { x1.pair with mirror := x1.pair.mirror ++ [{ m with seq := seq }] }
    else setPair x { x.pair with ready := x.pair.ready ++ [m] }) s

/-- A receive PDO of port p whose turn has come: every entry is checked, and all are applied one after another with no other access between them, or none (R390). -/
def pdoNow (s : State) (p : Nat) (ws : List (Nat × Nat × List Byte)) : State :=
  let src : Source := .can (Fin.ofNat 2 p)
  match ws.findSome? (fun w => writeRefusal s src w.1 w.2.1 w.2.2) with
  | some st => setCause (wr (bump s (canK p) 0x0D) (canK p) 0x0E st.code) .plant 4
  | none =>
    if pairRole s == 2 && ws.any (fun w => classM w.1 w.2.1) then pdoMirror s src ws
    else ws.foldl (fun x w => (dictWriteNow x { seq := 0, src := src, direct := true, idx := w.1, sub := w.2.1, value := { ty := 0, bytes := w.2.2 } } true).1) s

/-- A receive PDO is taken by its port: it is valid, and the port is OPERATIONAL (R390). -/
def rpdoHeard (s : State) (i : Nat) : Bool :=
  let p := rd s (0x1240 + i) 0x01
  decide (i < 8) && !bitOf (rd s (0x1240 + i) 0x02) 31 && nmtState s p == 5 && rd s (canK p) 0x09 != 2

/-- A received PDO; it waits behind the accesses that hold it up (R366, R390). -/
def rpdoReceive (s : State) (i : Nat) (b : List Byte) : State :=
  let p := rd s (0x1240 + i) 0x01
  if !rpdoHeard s i then s
  else
    let ws := rpdoWrites (pdoEntries s i) b
    let m : MirrorWait := { seq := 0, src := .can (Fin.ofNat 2 p), direct := true, idx := 0, sub := 0, value := { ty := 0, bytes := [] }, kind := .pdo ws }
    if heldUp s m then block s m else pdoNow s p ws

end Sys2Proof.Machine
end

