-- ==== Sys2Proof/Machine/Settle.lean ====
section
/-! DEFINITION. Writes whose wait is over: for the partner's answer (R232), for the journal (R196), or for an earlier write (R366).
Spec: 07_serials_and_ledger.md R196; 08_pair_operation.md R232; 13_object_dictionary.md R366. -/

set_option Elab.async false

namespace Sys2Proof.Machine

/-- The core's request at target 61 that waits for its write is answered (R325). -/
def coreWritten (s : State) (n : Nat) (st : Status) : State :=
  let x := niOf s n
  setNi s n { x with tags := x.tags.map (fun e => (e.1, if e.2.waits then { e.2 with waits := false, result := some (st.code, 0) } else e.2)) }

/-- The status of a write that waited reaches its writer. -/
def writeAnswer (s : State) (m : MirrorWait) (st : Status) : State :=
  let s1 := { s with answer := { s.answer with late := s.answer.late ++ [(m.src, m.idx, m.sub, st, [])] } }
  if m.direct then s1
  else match m.src with
    | .core n => coreWritten s1 n.val st
    | .transfer n => (match (domPort s1 n.val).job with
      | some j => domEnd s1 n.val j.length st
      | none => s1)
    | .eth p => opralAnswered s1 p.val st
    | .can p => sdoAnswer s1 p.val st
    | .pairAgent => s1
    | .boot => s1

/-- The standby's status of a mirrored write held against the primary's own: where they differ, an ORPHAN frame makes the standby ORPHANED (R232; notes/assumptions/95.md). -/
def mirrorCompare (s : State) (m : MirrorWait) (st : Status) : State :=
  match m.acked with
  | some a => if pairRole s == 2 && a != st.code then (sendOrdered s 0x16 [4, 0, 0, 0]).1 else s
  | none => s

/-- A write applied once its partner has answered, or alone (steps 4 of R232). -/
def applyReady (s : State) (m : MirrorWait) : State :=
  match resolveObj m.idx m.sub with
  | .error e => writeAnswer s m e
  | .ok o =>
    match dictApply s m.src o m.value true with
    | (s1, some st) => writeAnswer (mirrorCompare s1 m st) m st
    | (s1, none) => setPlant s1 { s1.plant with granting := s1.plant.granting ++ [m] }

/-- The writes that are ready next, which are all of a PDO's once the partner has answered each of them, and those that stay (R390). -/
def readyNext (s : State) : Option (List MirrorWait × List MirrorWait) :=
  match s.pair.ready.find? (fun m => m.group.isNone || !s.pair.mirror.any (fun x => x.group == m.group)) with
  | none => none
  | some m =>
    if m.group.isNone then some ([m], s.pair.ready.erase m)
    else some (s.pair.ready.filter (fun x => x.group == m.group), s.pair.ready.filter (fun x => x.group != m.group))

/-- The first blocked access with nothing before it that holds it up. -/
def nextBlocked (s : State) : List MirrorWait → List MirrorWait → Option (MirrorWait × List MirrorWait)
  | _, [] => none
  | before, m :: rest =>
    if (s.pair.mirror ++ s.pair.ready ++ before).any (waitsBehind m) || answerOwed s m.src then nextBlocked s (before ++ [m]) rest
    else some (m, before ++ rest)

/-- A read that waited is answered. -/
def readAnswer (s : State) (m : MirrorWait) (st : Status) (b : List Byte) : State :=
  { s with answer := { s.answer with late := s.answer.late ++ [(m.src, m.idx, m.sub, st, b)] } }

/-- An access whose turn has come. -/
def blockedRun (s : State) (m : MirrorWait) : State :=
  match m.kind with
  | .write =>
    (match dictWriteNow s m true with
    | (s1, some r) => writeAnswer s1 m r
    | (s1, none) => s1)
  | .read =>
    (match dictRead s m.src m.idx m.sub with
    | (s1, .ok (_, b)) => readAnswer s1 m .ok b
    | (s1, .error e) => readAnswer s1 m e [])
  | .load =>
    (match m.src with
    | .core n =>
      (match windowLoad s n.val (0x40000000 + m.idx * 0x400 + 4 * m.sub) 4 with
      | (s1, .ok v) => readAnswer s1 m .ok (leBytes 4 v)
      | (s1, .error e) => readAnswer s1 m e [])
    | _ => s)
  | .upload off max =>
    (match m.src with
    | .can p => sdoUploadNow s p.val m.idx m.sub off max
    | _ => s)
  | .pdo ws =>
    (match m.src with
    | .can p => pdoNow s p.val ws
    | _ => s)

/-- A grant whose journal write has ended. -/
def endedGrant (s : State) : Option (MirrorWait × List MirrorWait) :=
  match s.plant.granting.find? (fun m => !(pendingGrants s).any (fun g => g.grant == m.value.bytes)) with
  | some m => some (m, s.plant.granting.filter (fun x => x != m))
  | none => none

/-- The first check whose turn at the engines has come, and those that stay (R426). -/
def checkNext (s : State) : Option ((MirrorWait × Nat × Bool) × List (MirrorWait × Nat × Bool)) :=
  match s.security.checks with
  | [] => none
  | c :: rest => if checkFree s c.2.1 then some (c, rest) else none

/-- A check is made, and answered; a request that the ML-DSA-87 engine holds begins after it. -/
def checkRun (s : State) (c : MirrorWait × Nat × Bool) : State :=
  match resolveObj c.1.idx c.1.sub with
  | .error e => writeAnswer s c.1 e
  | .ok o =>
    let (s1, st) := secCheck s o.desc.fn c.1.value.bytes c.2.2
    writeAnswer (signAgain s1) c.1 st

/-- One access goes on, or the writes of one PDO. -/
def settleOne (s : State) (st : Status) : Option State :=
  match readyNext s with
  | some (ms, rest) => some (ms.foldl applyReady (setPair s { s.pair with ready := rest }))
  | none =>
    match endedGrant s with
    | some (m, rest) => some (writeAnswer (mirrorCompare (setPlant s { s.plant with granting := rest }) m st) m st)
    | none =>
      match checkNext s with
      | some (c, rest) => some (checkRun (setSecurity s { s.security with checks := rest }) c)
      | none =>
        match nextBlocked s [] s.plant.blocked with
        | some (m, rest) => some (blockedRun (setPlant s { s.plant with blocked := rest }) m)
        | none => none

/-- Writes go on, with fuel for each. -/
def settleFrom (st : Status) : Nat → State → State
  | 0, s => s
  | k + 1, s =>
    match settleOne s st with
    | some s1 => settleFrom st k s1
    | none => s

/-- After every command: writes whose wait is over are applied and answered, in order. `st` is the answer of a grant whose journal write has ended. -/
def settle (s : State) : State :=
  if s.pair.ready.isEmpty && s.plant.granting.isEmpty && s.plant.blocked.isEmpty && s.security.checks.isEmpty then s
  else settleFrom (s.answer.status.getD .ok) (s.pair.ready.length + s.plant.granting.length + s.security.checks.length + s.plant.blocked.length + 130) s

end Sys2Proof.Machine
end

