-- ==== Sys2Proof/Machine/Ptp.lean ====
section
/-! DEFINITION. The PTP slave, its servo, and the pulse-per-second balls.
Spec: 13_object_dictionary.md R392 to R394. -/

set_option Elab.async false

namespace Sys2Proof.Machine

def ptpState (s : State) : Nat := rd s 0x1230 0x08
def setPtp (s : State) (x : PtpState) : State := setPlant s { s.plant with ptp := x }

/-- The port that PTP uses: PtpPort, or with 2 port 0 while its link is up and else port 1 (R392). -/
def ptpPort (s : State) : Nat :=
  match rd s 0x1230 0x02 with
  | 0 => 0
  | 1 => 1
  | _ => if rd s 0x1210 0x0D == 1 then 0 else 1

/-- A PTP message on a port of the engine's domain is heard. -/
def ptpHears (s : State) (p domain : Nat) : Bool :=
  ethUp s p && rd s 0x1230 0x01 == 1 && ptpState s != 0 && p == ptpPort s && domain == rd s 0x1230 0x03

/-- 2 to the power of an I8 exponent of seconds, in picoseconds. -/
def logSeconds (v : Nat) : Nat :=
  let e := signedOf 8 v
  if e < 0 then psS / 2 ^ (-e).toNat else psS * 2 ^ e.toNat

/-- The announce receipt timeout. -/
def receiptTimeout (s : State) : Nat := rd s 0x1230 0x07 * logSeconds (rd s 0x1230 0x04)

/-- Engine time now, timestamped to within ±16 ns (R392). -/
def ptpStamp (s : State) : State × Int :=
  let (s1, k) := freeNat s 33
  (s1, (ptpTime s : Int) + (k : Int) - 16)

/-- Engine time goes on from a value at a rate, in parts per billion off REFCLK. -/
def ptpSet (s : State) (v : Int) (rate : Int) : State := { s with ptpBase := v.toNat, ptpAt := s.now, ptpRate := rate, ptpFor := none }

/-- The servo's slew: a correction of the frequency by up to 500 ppm, which the spec leaves open. -/
def ptpSlew (s : State) : State :=
  let (s1, k) := freeNat s 1000001
  ptpSet s1 (ptpTime s1) ((k : Int) - 500000)

/-! The best master (R392). -/

/-- Whether one master is better than another by the comparison of IEEE 1588. -/
def masterLess (a b : Master) : Bool :=
  let ka := [a.priority1, a.quality, a.priority2, a.gm, a.steps, a.id]
  let kb := [b.priority1, b.quality, b.priority2, b.gm, b.steps, b.id]
  decide (ka < kb)

/-- The best of the masters. -/
def bestMaster : List Master → Option Master
  | [] => none
  | m :: rest =>
    match bestMaster rest with
    | some x => if masterLess x m then some x else some m
    | none => some m

/-- Masters heard on the port in use within the receipt timeout. -/
def liveMasters (s : State) : List Master :=
  s.plant.ptp.masters.filter (fun m => m.port == ptpPort s && decide (s.now ≤ m.heardAt + receiptTimeout s))

/-- The selection looked at again; with a first master LISTENING becomes UNCALIBRATED. -/
def ptpChoose (s : State) : State :=
  let l := liveMasters s
  let s1 := setPtp s { s.plant.ptp with masters := l }
  match bestMaster l with
  | none => s1
  | some m =>
    let s2 := wrBytes (setPtp s1 { s1.plant.ptp with selected := some m.id }) 0x1230 0x0C (beBytes 8 m.gm)
    if ptpState s2 == 1 then ptpMove s2 2 else s2

/-- An Announce received. -/
def ptpAnnounce (s : State) (p domain id gm priority1 quality priority2 steps : Nat) : State :=
  if !ptpHears s p domain then s
  else
    let m : Master := { id := id, port := p, gm := gm, priority1 := priority1, quality := quality, priority2 := priority2, steps := steps, heardAt := s.now }
    ptpChoose (setPtp s { s.plant.ptp with masters := s.plant.ptp.masters.filter (fun x => !(x.id == id && x.port == p)) ++ [m] })

/-! The servo (R393). -/

/-- OffsetFromMaster, saturating. -/
def offsetShown (x : Int) : Nat := wrapInt 32 (clampInt (-2147483648) 2147483647 x)

/-- A Sync complete with its sending time t1 and its receiving time t2: the offset, and what follows. -/
def ptpOffset (s : State) (t1 t2 : Int) : State :=
  let off := t2 - t1 - (rd s 0x1230 0x0B : Int)
  let mag := off.natAbs
  let s0 := setPtp (wr s 0x1230 0x0A (offsetShown off)) { s.plant.ptp with t1 := t1.toNat, t2 := t2.toNat, syncAt := s.now }
  let streak := if mag < 1000 then s0.plant.ptp.streak + 1 else 0
  let follow := fun (x : State) => ptpSlew (setPtp x { x.plant.ptp with streak := streak })
  match ptpState s0 with
  | 2 =>
    if 1000000 ≤ mag then (if s0.plant.ptp.locked then ptpSlew s0 else ptpSet s0 ((ptpTime s0 : Int) - off) 0)
    else ptpMove (follow s0) 3
  | 3 =>
    if 10000 ≤ mag then ptpSet (ptpMove (setPtp s0 { s0.plant.ptp with streak := 0 }) 5) (ptpTime s0) 0
    else
      let s1 := follow s0
      if 16 ≤ streak then setPtp (ptpMove s1 4) { s1.plant.ptp with locked := true } else s1
  | 4 =>
    if 10000 ≤ mag then ptpSet (ptpMove (setPtp s0 { s0.plant.ptp with streak := 0 }) 5) (ptpTime s0) 0 else follow s0
  | 5 => if mag < 10000 then ptpMove (follow s0) 3 else s0
  | _ => s0

/-- A message of the selected master. -/
def fromSelected (s : State) (p domain id : Nat) : Bool := ptpHears s p domain && s.plant.ptp.selected == some id

/-- A Sync: one-step with its sending time, or two-step, which waits for its Follow_Up. -/
def ptpSync (s : State) (p domain id seq : Nat) (origin : Option Nat) : State :=
  if !fromSelected s p domain id then s
  else
    let (s1, t2) := ptpStamp s
    match origin with
    | some t1 => ptpOffset s1 t1 t2
    | none => setPtp s1 { s1.plant.ptp with pendingSync := some (seq, t2.toNat) }

/-- The Follow_Up of a two-step Sync. -/
def ptpFollowUp (s : State) (p domain id seq origin : Nat) : State :=
  if !fromSelected s p domain id then s
  else match s.plant.ptp.pendingSync with
    | some (q, t2) => if q == seq then ptpOffset (setPtp s { s.plant.ptp with pendingSync := none }) origin t2 else s
    | none => s

/-- The identity of the engine's PTP port: the EUI-64 of the Ethernet port's MAC address, and port number 1 (notes/assumptions/106.md). -/
def ptpIdentity (p : Nat) : List Byte :=
  let mac := (List.range 6).map (Config.macAddress p)
  mac.take 3 ++ [0xFF, 0xFE] ++ mac.drop 3 ++ beBytes 2 1

/-- A Delay_Req message of IEEE 1588-2019: the 34-byte header and an originTimestamp of 0 (notes/assumptions/106.md). -/
def delayReqBytes (p domain seq : Nat) : List Byte :=
  [0x01, 0x12] ++ beBytes 2 44 ++ beBytes 1 domain ++ List.replicate 15 0 ++ ptpIdentity p ++ beBytes 2 seq ++ [0x01, 0x7F] ++ List.replicate 10 0

/-- A Delay_Req sent to 224.0.1.129, UDP port 319, at its interval, with its sending time kept (R392). -/
def ptpDelayReq (s : State) : Option State :=
  let st := ptpState s
  let x := s.plant.ptp
  if !ethUp s (ptpPort s) || !(decide (2 ≤ st)) || x.syncAt == 0 || decide (s.now < x.delayAt + logSeconds (rd s 0x1230 0x06)) then none
  else
    let (s1, t3) := ptpStamp s
    let seq := (x.delaySeq + 1) % 65536
    some (udpSend (setPtp s1 { x with delaySeq := seq, delayPending := some (seq, t3.toNat), delayAt := s.now }) (ptpPort s) 0xE0000181 319
      (delayReqBytes (ptpPort s) (rd s 0x1230 0x03) seq))

/-- A Delay_Resp: the mean path delay from the last Sync and the request. -/
def ptpDelayResp (s : State) (p domain id seq t4 : Nat) : State :=
  if !fromSelected s p domain id then s
  else match s.plant.ptp.delayPending with
    | some (q, t3) =>
      if q != seq then s
      else
        let x := s.plant.ptp
        let d : Int := ((x.t2 : Int) - x.t1 + (t4 - t3)) / 2
        wr (setPtp s { x with delayPending := none }) 0x1230 0x0B (clampInt 0 4294967295 d).toNat
    | none => s

/-- No Sync within the receipt timeout: HOLDOVER from SLAVE or LOCKED, on REFCLK. -/
def ptpExpire (s : State) : Option State :=
  let st := ptpState s
  if !(st == 3 || st == 4) || decide (s.now < s.plant.ptp.syncAt + receiptTimeout s) then none
  else some (ptpSet (ptpMove (setPtp s { s.plant.ptp with streak := 0 }) 5) (ptpTime s) 0)

/-- A link goes up or down: ETH_LINK, and under PtpPort 2 PTP may change its port. -/
def linkChange (s : State) (p : Nat) (up : Bool) : Option State :=
  if !dictOn s || !domOn s 39 || rd s (ethE p) 0x0D == boolNat up then none
  else some (ptpChoose (setCause (wr s (ethE p) 0x0D (boolNat up)) .plant 0))

/-! Pulse per second (R394). -/

/-- How far engine time stands past the nearest whole second, in ns. -/
def ppsPhase (v : Nat) : Int := let r := v % 1000000000; if r ≤ 500000000 then (r : Int) else (r : Int) - 1000000000

/-- An edge on PPS_IN steers the phase: for one second the frequency is slewed, by no more than 500 ppm, towards the nearest whole second and not past it (notes/assumptions/105.md). -/
def ppsSteer (s : State) : State :=
  let d := ppsPhase (ptpTime s)
  if d == 0 then ptpSet s (ptpTime s) 0
  else
    let (s1, k) := freeNat s (min d.natAbs 500000)
    let x := ptpSet s1 (ptpTime s1) (if 0 < d then -(k + 1 : Int) else (k + 1 : Int))
    { x with ptpFor := some psS }

/-- A rising edge on PPS_IN: its time, and with PpsDiscipline a slew towards the nearest whole second while PTP is not locked. -/
def ppsIn (s : State) : Option State :=
  if !sysRuns s || rd s 0x1231 0x03 == 0 then none
  else
    let s1 := wr s 0x1231 0x04 (ptpTime s % 2 ^ 64)
    some (if rd s 0x1231 0x05 == 1 && ptpState s1 != 4 then ppsSteer s1 else s1)

/-- PPS_OUT rises within 20 ns of a whole second. -/
def ppsOut (s : State) : Option State :=
  let v := ptpTime s + 20
  if !sysRuns s || rd s 0x1231 0x01 == 0 || decide (40 < v % 1000000000) || s.plant.ppsSecond == v / 1000000000 + 1 then none
  else some (setPlant s { s.plant with ppsHigh := some s.now, ppsSecond := v / 1000000000 + 1 })

/-- PPS_OUT falls after PpsOutWidth ms. -/
def ppsFall (s : State) : Option State :=
  match s.plant.ppsHigh with
  | some t => if s.now < t + rd s 0x1231 0x02 * psMs then none else some (setPlant s { s.plant with ppsHigh := none })
  | none => none

end Sys2Proof.Machine
end

