-- ==== Sys2Proof/Machine/NetServe.lean ====
section
/-! DEFINITION. How the targets of the on-chip network serve requests, and how a request ends.
Spec: 11_memory_and_network_on_chip.md R309, R326, R332, R334 to R336; 03_fields_and_tunings.md R63, R70, R71; 04_stream_queues.md R100; 13_object_dictionary.md R368 to R371; 15_boot_and_security.md R427. -/

set_option Elab.async false

namespace Sys2Proof.Machine

/-- Two network accesses at a port are one: an access asked for again is the one that waits. DESIGN CHOICE, log 148. -/
def netSame (a u : NetWait) : Bool := a.id == u.id && a.off == u.off && a.size == u.size && a.value == u.value

/-- The port of a sub-bank serves network access `a` in the present ACLK: the port has served nothing in it, and the access has waited 32 ACLK and is the oldest such, or none such waits and no stream asks for the port (R70). -/
def netServed (s : State) (x : Field) (bank : Nat) (write : Bool) (a : NetWait) : Bool :=
  (if write then tabGet 0 x.netWriteAt bank else tabGet 0 x.netReadAt bank) != aclk s + 1
  && (match netDue x bank write (aclk s) with
      | some u => netSame a u
      | none => !write || !(List.range 4).any (storeWants s x bank))

/-- The waiting accesses without one. -/
def netUnwait (a : NetWait) : List NetWait → List NetWait
  | [] => []
  | u :: r => if netSame a u then r else u :: netUnwait a r

/-- What a served network access to field memory does: the value read. -/
def fieldNetTo (s : State) (f : Nat) (a : NetWait) (write : Bool) : State × Nat :=
  let x := fieldOf s f
  let bank := a.off / 0x10000
  let x1 := { x with netWait := tabSet [] x.netWait (2 * bank + boolNat write) (netUnwait a (netWaitOf x bank write)) }
  let p := 0x30000000 + f * 0x40000 + a.off
  if write then (memWrite (setField s f { x1 with netWriteAt := tabPut x.netWriteAt bank (aclk s + 1) }) p (leBytes a.size a.value), 0)
  else (setField s f { x1 with netReadAt := tabPut x.netReadAt bank (aclk s + 1) }, memNat s p a.size)

/-- Network access `a` to the field memory of field `f`, through the port of its sub-bank (R63, R70): the value read, or none while it waits for the port. -/
def fieldNetAccess (s : State) (f : Nat) (a : NetWait) (write : Bool) : State × Option Nat :=
  let z := fieldNow s f
  let x := fieldOf z f
  let bank := a.off / 0x10000
  if netServed z x bank write a then let p := fieldNetTo z f a write; (p.1, some p.2)
  else if (netWaitOf x bank write).any (netSame a) then (z, none)
  else (setField z f { x with netWait := tabPut x.netWait (2 * bank + boolNat write) (netWaitOf x bank write ++ [{ a with since := aclk z }]) }, none)

/-- An access as served: the state, with the status code and the value, or none while it waits. -/
abbrev Served := State × Option (Nat × Nat)

/-- A read's result. -/
def servedRead (r : State × Except Status Nat) : Served :=
  match r.2 with
  | .ok v => (r.1, some (0, v))
  | .error e => (r.1, some (e.code, 0))

/-- A write's result. -/
def servedWrite (r : State × Status) : Served := (r.1, some (r.2.code, 0))

/-- The target of a field: field memory, or its configuration port. -/
def serveField (s : State) (f id : Nat) (r : NetReq) : Option Served :=
  if r.addr < 0x38000000 then
    if 0x40000 < r.addr % 0x40000 + r.size then none
    else let p := fieldNetAccess s f { id := id, off := r.addr % 0x40000, size := r.size, value := r.value } r.write; some (p.1, p.2.map (fun v => (0, v)))
  else
    let off := r.addr % 0x10000
    if r.size != 4 || off % 4 != 0 then some (servedWrite (portRefused s f (s, .type)))
    else if r.write then some (servedWrite (configPortWrite s f off r.value))
    else some (servedRead (configPortLoad s f off))

/-- The memories of a core, through port B, word by word; I-memory only while the core is stopped (R250, R282). The words of one request all fall in the NCLK in which it is served: DESIGN CHOICE, log 164. -/
def serveCore (s : State) (r : NetReq) : Served :=
  let n := r.addr % 0x10000000 / 0x01000000
  let o := r.addr % 0x01000000
  if r.write then
    if decide (o < 0x20000) && (coreState s n == 2 || coreState s n == 0) then (s, some (Status.state.code, 0))
    else (netStore (r.size + 1) s r.addr (leBytes r.size r.value), some (0, 0))
  else (s, some (0, leNat (netLoad (r.size + 1) s r.addr r.size)))

/-- The boot ROM, which cannot be written, and the mailboxes, each for its own core (R427). -/
def serveSecurity (s : State) (ni : Nat) (r : NetReq) : Served :=
  if r.addr < 0xF0010000 then (if r.write then (s, some (Status.readOnly.code, 0)) else (s, some (0, memNat s r.addr r.size)))
  else
    let n := r.addr % 0x100000 / 0x100 - 0x100
    let off := r.addr % 0x100
    if 8 ≤ n then (s, some (Status.range.code, 0))
    else if n != ni then (s, some (Status.state.code, 0))
    else if r.size != 4 || off % 4 != 0 then (s, some (Status.type.code, 0))
    else if r.write then servedWrite (mailboxWrite s n off r.value) else servedRead (s, mailboxRead s n off)

/-- The queue data ports, for every initiator as R101 says, and the dictionary window, which Peg cores use. -/
def serveDictionary (s : State) (ni : Nat) (r : NetReq) : Served :=
  if 0x44000000 ≤ r.addr then
    let q := r.addr % 0x4000000 / 0x1000
    let off := r.addr % 0x1000
    if r.write then servedWrite (portStore s q ni off r.size r.value) else servedRead (portLoad s q ni off r.size)
  else if 8 ≤ ni then (s, some (Status.state.code, 0))
  else if r.write then
    match windowStore s ni r.addr r.size r.value with
    | (s1, some st) => (s1, some (st.code, 0))
    | (s1, none) => (s1, none)
  else servedRead (windowLoad s ni r.addr r.size)

/-- An LPDDR5 interface: external memory, at the place that the window base of the issue gives (R321). -/
def serveLpddr (s : State) (a : Nat) (r : NetReq) : Served :=
  if r.write then (memWrite s a (leBytes r.size r.value), some (0, 0)) else (s, some (0, memNat s a r.size))

/-- The queue of a spill access that bank b grants next goes on: intake writes the items that now have room (R108, R175). -/
def bankResume (x : State) (b : Nat) (y : State) : State :=
  match (bankChoice (bankNow (harrowNow x) b) b).bind (·.spill) with
  | some a => intakeResume y a.queue
  | none => y

/-- A request that has reached its target is served; none where it cannot be yet. -/
def serve (s : State) (ni k : Nat) (x : NetTag) : Option Served :=
  let t := x.target
  match x.result with
  | some r => some (s, some r)
  | none =>
    if absorbs s t then some (s, some (Status.absorbed.code, 0))
    else if t < 24 then serveField s t (netId ni k) x.req
    else if t < 56 then none
    else if t < 60 then some (serveCore s x.req)
    else if t == 60 then some (serveSecurity s ni x.req)
    else if t == 61 then (if x.waits then none else some (serveDictionary s ni x.req))
    else some (serveLpddr s x.place x.req)

/-- A response can have come: no earlier than 2h + 8 NCLK after the injection, h as routed then, nor before a bank's data are there, and behind the flits of the response before it (R310, R326, R327, R331). -/
def responseDue (s : State) (ni : Nat) (x : NetTag) : Bool :=
  decide (x.since + 2000 * (2 * bitsOf x.route 56 4 + 8) ≤ s.now) && decide (x.readyAt ≤ nclk s) && decide ((niOf s ni).acceptTo ≤ nclk s)

/-- The way of a request: its channel and its hops (R325, R328). -/
def tagWay (x : NetTag) : Nat × Nat × Nat × Nat := (x.target, bitsOf x.route 60 1, bitsOf x.route 56 4, bitsOf x.route 24 24)

/-- A request's target has it, and holds it for its own reasons: a write that waits for the mirror, or an access that waits for its port of field memory. -/
def tagHeld (s : State) (ni k : Nat) (x : NetTag) : Bool :=
  x.waits || (decide (x.target < 24) && (fieldOf s x.target).netWait.any (fun w => w.2.any (fun u => u.id == netId ni k)))

/-- Packets of one interface on one channel and one route stay in order, and so do the answers: a request is answered behind those that went the same way before it, but for those that their target holds (R325). -/
def tagTurn (s : State) (ni : Nat) (x : NetTag) : Bool :=
  !(niOf s ni).tags.any (fun e => tagWay e.2 == tagWay x && decide (e.2.order < x.order) && !tagHeld s ni e.1 e.2)

/-- The interface takes the flits of a response, one each NCLK (R327). -/
def responseTaken (s : State) (ni : Nat) (r : NetReq) : State :=
  setNi s ni { niOf s ni with acceptTo := nclk s + responseFlits r }

/-- The response to a request arrives. -/
def netRespond (s : State) (ni k : Nat) : Option State :=
  match tabFind (niOf s ni).tags k with
  | none => none
  | some x =>
    if !responseDue s ni x || !tagTurn s ni x then none
    else
      (serve s ni k x).map fun r =>
        let s1 := stallEnd r.1 x.target
        match r.2 with
        | some (st, v) => netDeliver (responseTaken (dropTag s1 ni k false) ni x.req) ni x.req st v
        | none => setNi s1 ni { niOf s1 ni with tags := tabPut (niOf s1 ni).tags k { x with waits := decide (24 ≤ x.target) } }

/-- A request unanswered within the timeout of its entry: the interface answers it with TIMEOUT. A write that its target has not yet served may or may not have been performed. -/
def netTimeout (s : State) (ni k : Nat) : Option State :=
  match tabFind (niOf s ni).tags k with
  | none => none
  | some x =>
    if decide (s.now < x.since + 2000 * routeTimeout x.route) then none
    else
      let (s1, done) := if x.req.write && x.result.isNone && !x.waits && !absorbs s x.target then freeNat s 2 else (s, 0)
      let s2 := if done == 1 then
          (if decide (24 ≤ x.target) && decide (x.target < 56) then memWrite s1 x.req.addr (leBytes x.req.size x.req.value)
           else match serve s1 ni k x with
             | some r => r.1
             | none => s1)
        else s1
      some (netDeliver (setCause (bump (dropTag s2 ni k true) (0x5010 + ni) 0x05) .noc 2) ni x.req Status.timeout.code 0)

end Sys2Proof.Machine
end

