-- ==== Sys2Proof/Machine/Boot.lean ====
section
/-! DEFINITION. Boot, from reset release to READY, RECOVERY or SECURITY_FAILED.
Spec: 15_boot_and_security.md R414 to R422; 13_object_dictionary.md R376; 16_faults_and_repair.md R438. -/

set_option Elab.async false

namespace Sys2Proof.Machine

/-- A set of domains goes ON that is not. -/
def domainsUp (s : State) (p : Nat → Bool) : State :=
  (List.range 42).foldl (fun x d => if p d && domState x d != 2 then domainUp x d else x) s

/-- Step 1 ends: the rails are up, the PLLs locked, SYS and the domains that boot holds are ON, and PC0 runs the boot ROM. -/
def bootPowerUp (s : State) : State :=
  let supply := (List.range 2).foldl (fun a i => if s.power.tripped.contains i then a else a + 2 ^ i) 0 + 4 * rd s 0x1501 0x06
  let s1 := wr (wr (wr s 0x1501 0x07 supply) 0x1503 0x01 (3 + 4 * boolNat (!s.power.lfxoStopped))) 0x48A0 0x06 (boolNat s.power.refGone)
  let s2 := schedStart (domainsUp s1 (bootHeld s1))
  let s3 := setPower s2 { s2.power with sysOnAt := s2.now }
  let s4 := enter (setCore s3 0 { coreInReset s3 0 with pc := 0xF0000000 }) (cS 0) 0x01 2
  wr s4 0x1400 0x01 1

/-- The CAN FD ports that are enabled start, with PD39 ON. -/
def portsUp (s : State) : State :=
  (List.range 2).foldl (fun x p => if rd x (canK p) 0x01 == 1 && nmtState x p == 0 && domOn x 39 then canStart x p else x) s

/-- Step 2 ends: the tests pass, or boot stops with the plant ports at their defaults, so that the dictionary can be reached (R415). Key slots that fail authentication read EMPTY (R430). -/
def bootSelfTest (s : State) (ok : Bool) (badSlots : List Nat) : State :=
  if !ok then
    let s1 := setCause (wr (domainsUp s (fun d => d == 39)) 0x1400 0x01 7) .boot 3
    portsUp { s1 with faultL := true }
  else
    let s1 := badSlots.foldl (fun x k => if decide (1 ≤ k) && decide (k < 48) && keyType x k != 0 then bump (setKey x k {}) 0x1406 0x33 else x) s
    wr s1 0x1400 0x01 2

/-! Step 3: parameters (R376). -/

/-- The entries of a bank from an offset, `n` of them. -/
def paramEntries (b : List Byte) : Nat → Nat → List (Nat × Nat × Nat × List Byte)
  | 0, _ => []
  | n + 1, off =>
    match paramEntryAt b off with
    | some (i, j, ty, v, next) => (i, j, ty, v) :: paramEntries b n next
    | none => []

/-- Objects whose write starts a function, or checks other objects: they are applied once every setting stands. -/
def startsFunction (idx sub : Nat) : Bool :=
  (decide (0x1210 ≤ idx) && decide (idx < 0x1222) && sub == 1) || (idx == 0x1230 && sub == 1) || (decide (0x1240 ≤ idx) && decide (idx < 0x1250) && sub == 2)
    || (idx == 0x1300 && sub == 1) || idx == 0x1510 || (idx == 0x3803 && sub == 1)

/-- An entry applied as a write; one that is refused counts. -/
def applyEntry (s : State) (e : Nat × Nat × Nat × List Byte) : State :=
  match dictWrite s .boot e.1 e.2.1 { ty := e.2.2.1, bytes := e.2.2.2 } with
  | (s1, some .ok) => s1
  | (s1, some .restartPending) => s1
  | (_, some _) => bump s 0x1102 0x07
  | (s1, none) => s1

/-- The bank in use applied. -/
def applyBank (s : State) (k : Nat) : State :=
  let b := if k == 0 then s.nvm.paramA else s.nvm.paramB
  let es := paramEntries b (leAt b 0x0C 4) 32
  let s1 := (es.filter (fun e => !startsFunction e.1 e.2.1)).foldl applyEntry s
  let s2 := (es.filter (fun e => startsFunction e.1 e.2.1)).foldl applyEntry s1
  wr (wr (wr s2 0x1102 0x03 (leAt b 8 4)) 0x1102 0x04 k) 0x1102 0x06 (if leAt b 6 2 % 2 == 1 then 3 else 1 + k)

/-- Step 3 ends: parameters applied, requests of the domains that boot does not hold applied, and the plant ports enabled. -/
def bootParameters (s : State) : State :=
  let s1 := wr s 0x1700 0x03 (leAt (snapNewest s) 8 4)
  let s2 := match paramBank s1 with
    | some k => applyBank s1 k
    | none => s1
  let s3 := domainsUp s2 (fun d => bootHeld s2 d || (d == 39 && domRequest s2 d == 1))
  let s4 := (List.range 42).foldl (fun x d => if bootHeld x d then x else if (domRequest x d == 1 && domState x d == 0) || domState x d == 6 then (domainApply x d (domRequest x d)).1 else x) s3
  let s5 := portsUp s4
  let s6 := ptpEnable s5 (rd s5 0x1230 0x01)
  setSecurity (wr s6 0x1400 0x01 3) { s6.security with paramsDirty := false }

/-! Step 4: firmware (R418 to R421). -/

/-- The directory entry of a firmware slot. -/
def slotEntry (s : State) (slot : Nat) : Option DirEntry :=
  match dirBest s with
  | none => none
  | some (_, d) => (dirEntries d).find? (fun e => e.ty == slot + 1)

/-- A slot's bytes copied from the flash into bank memory at 0x20000000, as far as the copy area goes. -/
def slotCopy (s : State) (e : DirEntry) : State := memWrite s 0x20000000 (flashRead s e.offset (min e.length 0x200000))

/-- The copy of an image of a length. -/
def copiedImage (s : State) (len : Nat) : List Byte := memRead s 0x20000000 (min len 0x200000)

/-- A slot copied and its copy checked: the step of R420 at which it fails, or the verified copy. -/
def slotCheck (s : State) (slot : Nat) : State × Except (Nat × Status) (List Byte) :=
  match slotEntry s slot with
  | none => (s, .error (1, .range))
  | some e =>
    let s1 := slotCopy s e
    let b := copiedImage s1 e.length
    (s1, match fwCheck s1 b e.length with
    | some f => .error f
    | none => .ok b)

/-- A failure of a slot noted. -/
def bootFail (s : State) (f : Nat × Status) : State := authFail (wr (wr s 0x1400 0x05 f.1) 0x1400 0x06 f.2.code) f.2

/-- RECOVERY: no firmware runs. -/
def bootRecovery (s : State) : State := setCause (wr s 0x1400 0x01 6) .boot 1

/-- The bytes that a section puts at its target. -/
def sectionBytes (b : List Byte) (x : FwSection) : List Byte :=
  match x.data with
  | some off => bytesAt b off x.length
  | none => List.replicate x.length 0

/-- A section written; one for a core whose domain is OFF is skipped and flagged. -/
def sectionPut (s : State) (b : List Byte) (x : FwSection) : State :=
  if x.target < 0x20000000 && domState s (24 + x.target % 0x10000000 / 0x02000000) == 0 then wr s 0x1400 0x03 (setBit (rd s 0x1400 0x03) 2 true)
  else memWrite s x.target (sectionBytes b x)

/-- A passing image is written to its targets. -/
def bootImage (s : State) (slot : Nat) (b : List Byte) : State :=
  let s1 := ((fwSectionList b).getD []).foldl (fun x e => sectionPut x b e) s
  let s2 := wrBytes (wrBytes s1 0x1020 0x04 (fwDigest b)) 0x100A 0x00 (fwVersion b)
  let s3 := wr (wr s2 0x1401 0x02 (fwRollback b)) 0x1400 0x02 slot
  setSecurity (wr s3 0x1400 0x01 4) { s3.security with image := b }

/-- Step 4 ends: the preferred slot, else the other, with the flag of the fallback set as it is tried, else RECOVERY; with BOOT_RECOVERY no image is tried. -/
def bootFirmware (s : State) : State :=
  if s.straps.bootRecovery then bootRecovery s
  else match dirBest s with
    | none => bootRecovery s
    | some (_, d) =>
      let a := dirPreferred d % 2
      match slotCheck s a with
      | (s1, .ok b) => bootImage s1 a b
      | (s1, .error f) =>
        let s2 := bootFail s1 f
        match slotCheck (wr s2 0x1400 0x03 (setBit (rd s2 0x1400 0x03) 0 true)) (1 - a) with
        | (s3, .ok b) => bootImage s3 (1 - a) b
        | (s3, .error g) => bootRecovery (bootFail s3 g)

/-! Step 5: tunings and start (R421, R422). -/

/-- A default tuning has failed. -/
def tuningMissed (s : State) : State := wr (bump s 0x1400 0x09) 0x1400 0x03 (setBit (rd s 0x1400 0x03) 1 true)

/-- A default tuning copied to 0x20000000 and loaded with Source 0; in a target field with no ACTIVE slot it becomes ACTIVE. -/
def bootTuning (s : State) (e : DirEntry) : State :=
  let s1 := memWrite s 0x20000000 (flashRead s e.offset e.length)
  let s2 := wr (wr (wr s1 0x2603 0x01 0) 0x2603 0x02 0x20000000) 0x2603 0x04 (e.slot % 8)
  match if e.slot < 8 then tuningGo s2 else (s2, .range) with
  | (s3, .ok) =>
    let s4 := (tuningChecked s3).getD s3
    let fields := s4.arr.load.targets.map (·.1)
    let s5 := (tuningComplete s4).getD s4
    if loadState s5 == 4 then fields.foldl (fun x f => if activeSlot x f == 0xFF then (activateSlot x f (e.slot % 8)).1 else x) s5 else tuningMissed s5
  | (_, _) => tuningMissed s2

/-- A core started at its start address: PC0 goes on from the ROM, or into RESET where the image leaves it there. -/
def bootCore (s : State) (n : Nat) : State :=
  let a := fwStart s.security.image n
  if !domOn s (24 + n / 2) then s
  else if a == 0xFFFFFFFF then (if n == 0 then coreToReset s 0 else s)
  else enter (setCore (wr s (cP n) 0x01 1) n { coreInReset s n with pc := a }) (cS n) 0x01 2

/-- Step 5 ends: READY. The copy area is undefined from here on, and the requests of the domains that boot held apply. -/
def bootReady (s : State) : State :=
  let es := match dirBest s with | some (_, d) => dirEntries d | none => []
  let s1 := (es.filter (fun e => e.ty == 3 && e.flags % 2 == 1)).foldl bootTuning s
  let s2 := memForget s1 0x20000000 0x20200000
  let s3 := schedSettle ([1, 2, 3, 4, 5, 6, 7, 0].foldl bootCore s2)
  let held := (List.range 41).filter (fun d => bootHeld s3 d && domRequest s3 d != 1)
  let s4 := setCause (wr (wr s3 0x1400 0x04 ((s3.now - s3.power.releasedAt) / psMs)) 0x1400 0x01 5) .boot 0
  let s5 := setPower (setSecurity s4 { s4.security with image := [] }) { s4.power with booting := false }
  held.foldl (fun x d => (domainApply x d (domRequest x d)).1) s5

/-- A core pair's domain is starting: boot waits for it before it writes or starts its cores (notes/assumptions/171.md). -/
def coresStarting (s : State) : Bool := (List.range 4).any (fun k => domState s (24 + k) == 1)

/-- The step of boot in progress ends. `ok` is the result of the tests of step 2, and `badSlots` the key slots that fail authentication. -/
def bootStep (s : State) (ok : Bool) (badSlots : List Nat) : Option State :=
  if !s.power.booting || s.power.thermalHeld then none
  else match bootState s with
    | 0 => some (bootPowerUp s)
    | 1 => some (bootSelfTest s ok badSlots)
    | 2 => some (bootParameters s)
    | 3 => if coresStarting s then none else some (bootFirmware s)
    | 4 => if coresStarting s then none else some (bootReady s)
    | _ => none

end Sys2Proof.Machine
end

