-- ==== Sys2Proof/Machine/Flags.lean ====
section
/-! DEFINITION. The levels the engine drives on its balls: faults, reset, the pair sidebands, reject outputs and the second pulse.
Spec: 06_verification_path.md R165, R167; 08_pair_operation.md R221; 13_object_dictionary.md R394; 14_power_and_clocks.md R412; 17_balls_and_electrical.md. -/

set_option Elab.async false

namespace Sys2Proof.Machine

/-- FAULT_L, low while a fault is shown (R412). -/
def faultLevel (s : State) : Bool := !s.faultL

/-- RESET_OUT_L, high from 1 ms after SYS enters ON (R412). -/
def resetOutLevel (s : State) : Bool := s.power.resetOut

/-- ALIVE_OUT (R221). -/
def aliveLevel (s : State) : Bool := aliveOut s

/-- ROLE_OUT (R221). -/
def roleLevel (s : State) : Bool := roleOut s

/-- REJj (R165, R167). -/
def rejectLevel (s : State) (j : Nat) : Bool := rejLevel s j

/-- PPS_OUT (R394). -/
def ppsLevel (s : State) : Bool := s.plant.ppsHigh.isSome

/-- The trouble counter at an object. -/
def isTrouble (idx sub : Nat) : Bool :=
  match resolveObj idx sub with
  | .ok o => o.desc.kind == .trouble
  | .error _ => false

/-- The EventCause register at an object. -/
def isCause (idx sub : Nat) : Bool :=
  match resolveObj idx sub with
  | .ok o => o.desc.kind == .cause
  | .error _ => false

end Sys2Proof.Machine
end

