-- ==== Sys2Proof/Machine/Operands.lean ====
section
/-! DEFINITION. The forms a command takes: an event at a time, a frame or a token that arrives, a write or a read of an object by a source.
Spec: 13_object_dictionary.md R364 to R372; 14_power_and_clocks.md R404. -/

set_option Elab.async false

namespace Sys2Proof.Machine

/-- What follows a command that can end a wait: writes whose wait is over go on, and an orderly shutdown that is complete ends. -/
def finish (s : State) : Out := .next (shutdownSettle (settle s))

/-- An event at a time: where its condition fails, nothing changes but the time and what the print path had in hand. -/
def tick (t : Nat) (s : State) (f : State → Option State) : Out := .next ((f (arrive t s)).getD (arrive t s))

/-- An event of ACLK, NCLK or a clock derived from them, which happens only while they run. -/
def clocked (t : Nat) (s : State) (f : State → Option State) : Out := tick t s (fun x => if sysRuns x then f x else none)

/-- Something arrives or happens at a time while the clocks run. -/
def arrives (t : Nat) (s : State) (f : State → State) : Out := clocked t s (fun x => some (f x))

/-- An event that can end a wait. -/
def settled (t : Nat) (s : State) (f : State → Option State) : Out :=
  let x := arrive t s
  finish (if sysRuns x then (f x).getD x else x)

/-- A datagram reaches an Ethernet port, which holds it while the clocks are stopped (R404). -/
def datagram (t : Nat) (s : State) (f : State → State) : Out := finish (f (arrive t s))

/-- A wake source that has come ends a low-power mode (R405). -/
def wakeBy (t src : Nat) (s : State) : Out :=
  let x := arrive t s
  finish (if wakeDue x src then woken x src else x)

/-- SYS is ON with its clocks stopped: LINE_STOP (R404). -/
def inLineStop (s : State) : Bool := domOn s 41 && !sysRuns s

/-- A CAN FD frame: while the clocks run it is taken, and in LINE_STOP one to this node is wake source 4 and is not kept (R405; notes/assumptions/110.md). -/
def canFrame (t : Nat) (s : State) (mine : State → Bool) (f : State → Option State) : Out :=
  let x := arrive t s
  finish (if sysRuns x then (f x).getD x else if inLineStop x && mine x then woken x 4 else x)

/-- The level of a trigger's input (TRIGt, or a Z ball) as it is sampled: taken while the clocks run, and in a low-power mode looked at for wake source 2 (R129, R405). -/
def ballEdge (t : Nat) (s : State) (input trig : Nat) (level : Bool) (f : State → State) : Out :=
  let x := arrive t s
  if sysRuns x then .next (f x)
  else
    let y := levelNoted x input trig level
    finish (if (input == 0 || (encoderOf x (input - 1)).z != level) && wakeEdge x input trig level then woken y 2 else y)

/-! Accesses. -/

/-- A source can make an access: its port runs. The pair agent and boot make theirs inside other commands. -/
def sourceUp (s : State) (src : Source) : Bool :=
  match src with
  | .core n => domOn s (24 + n.val / 2)
  | .transfer n => domOn s (24 + n.val / 2)
  | .eth p => ethUp s p.val
  | .can p => sdoServed s p.val
  | .pairAgent => false
  | .boot => false

/-- The dictionary serves a source (R366). -/
def served (s : State) (src : Source) : Bool := sysRuns s && dictOn s && sourceUp s src

/-- The answer to an access. -/
def reply (s : State) (st : Option Status) (v : Nat) (b : List Byte) : State :=
  { s with answer := { s.answer with status := st, value := v, bytes := b } }

/-- A value that no op carries whole is assembled in the domain staging region before its object takes it: STATE while another is, RANGE where it does not fit (R372, R383). -/
def assembled (s : State) (idx sub : Nat) (b : List Byte) : State × Option Status :=
  match resolveObj idx sub with
  | .error _ => (s, none)
  | .ok o =>
    if o.desc.ty != .domain && decide (b.length ≤ 1024) then (s, none)
    else if s.plant.assembly.isSome then (s, some .state)
    else if stagingSize s < b.length then (s, some .range)
    else if (stagingStatus s).isSome then (stagingTurned s, stagingStatus s)
    else (stagingPut s 0 b, none)

/-- A write of an object by a source, whose status is the answer; none while it waits. `nvm` tells whether the key store takes a write it leads to. -/
def accessWith (src : Source) (idx sub : Nat) (v : ObjVal) (nvm : Bool) (s : State) : Out :=
  let x := start s
  if served x src then
    match assembled x idx sub v.bytes with
    | (x0, some st) => finish (reply x0 (some st) 0 [])
    | (x0, none) =>
      let (x1, st) := dictWriteWith x0 src true idx sub v nvm
      finish (reply x1 st 0 [])
  else .next x

/-- A write of an object by a source. -/
def access (src : Source) (idx sub : Nat) (v : ObjVal) (s : State) : Out := accessWith src idx sub v true s

/-- A write of a number to an object of a fixed size. -/
def setNum (src : Source) (idx sub n : Nat) (s : State) : Out :=
  match resolveObj idx sub with
  | .ok o => access src idx sub { ty := 0, bytes := leBytes o.desc.ty.bytes n } s
  | .error _ => access src idx sub { ty := 0, bytes := [] } s

/-- A write of a string of bytes to an object. -/
def setBytes (src : Source) (idx sub : Nat) (b : List Byte) (s : State) : Out := access src idx sub { ty := 0, bytes := b } s

/-- A read that waits for its turn. -/
def readWait (src : Source) (idx sub : Nat) (kind : AccessKind) : MirrorWait :=
  { seq := 0, src := src, direct := true, idx := idx, sub := sub, value := { ty := 0, bytes := [] }, kind := kind }

/-- A read of an object by a source: its status, and its value as bytes and as a number; none while it waits behind a write of its source (R366). -/
def readObj (src : Source) (idx sub : Nat) (s : State) : Out :=
  let x := start s
  if served x src && heldUp x (readWait src idx sub .read) then finish (block x (readWait src idx sub .read))
  else if served x src then
    match dictRead x src idx sub with
    | (x1, .ok (_, b)) => finish (reply x1 (some .ok) (leNat b) b)
    | (x1, .error e) => finish (reply x1 (some e) 0 [])
  else .next x

/-- An access that is answered with a status, while the clocks run. -/
def port (t : Nat) (s : State) (f : State → State × Status) : Out :=
  clocked t s (fun x => let (y, st) := f x; some (reply y (some st) 0 []))

/-- A read that is answered with a value or a refusal, while the clocks run. -/
def portLoadOf (t : Nat) (s : State) (f : State → State × Except Status Nat) : Out :=
  clocked t s (fun x =>
    match f x with
    | (y, .ok v) => some (reply y (some .ok) v [])
    | (y, .error e) => some (reply y (some e) 0 []))

/-- A store of core n to the dictionary window (R368 to R371); its status is the answer, none while the write waits. -/
def coreStoreObj (n : CoreId) (a v : Nat) (s : State) : Out :=
  let x := start s
  if served x (.core n) then
    let (x1, st) := windowStore x n.val a 4 v
    finish (reply x1 st 0 [])
  else .next x

/-- A load of core n from the dictionary window. -/
def coreLoadObj (n : CoreId) (a : Nat) (s : State) : Out :=
  let x := start s
  let m := readWait (.core n) (windowIndex a) (windowSub a) .load
  if served x (.core n) && heldUp x m then finish (block x m)
  else if served x (.core n) then
    match windowLoad x n.val a 4 with
    | (x1, .ok v) => finish (reply x1 (some .ok) v [])
    | (x1, .error e) => finish (reply x1 (some e) 0 [])
  else .next x

/-- The address of an object's word in the window, or of its high word (R368, R369). -/
def windowAddr (idx sub : Nat) (high : Bool) : Nat := 0x40000000 + (idx + (if high then 0x8000 else 0)) * 0x400 + 4 * sub

/-- The offset of register k of a cell's slot in the configuration port (R34, R71): R0 to R3 of each slot, then the registers that the slots share. -/
def cellRegOffset (c slot k : Nat) : Nat := if k < 4 then 0x4000 + 0x400 * slot + 0x10 * c + 4 * k else 0x6000 + 0x10 * c + 4 * (k - 4)

/-- The index of a unit's management objects: bars 0 to 23, then the bridges of cameras 0 to 5 (R155, R169). -/
def mgmtIndex (unit : Nat) : Nat := if unit < 24 then bx unit 5 else cc (unit - 24)

/-- A source behind a plant port. -/
def plantSource (src : Source) : Bool :=
  match src with
  | .eth _ => true
  | .can _ => true
  | _ => false

/-- The content of the boot flash, by place. -/
def flashTable (l : List (Nat × List Byte)) : Tab (List Byte) := l.foldl (fun t e => tabPut t e.1 e.2) []

/-- The type code of an object (R383); 0 where there is none. -/
def objCode (idx sub : Nat) : Nat :=
  match resolveObj idx sub with
  | .ok o => o.desc.ty.code
  | .error _ => 0

/-- A datagram with one op from a node to this engine (R382, R383). -/
def opralOne (s : State) (p ip udp node seq code idx sub ty : Nat) (value : List Byte) : State :=
  opralReceive s p ip udp (opralHeader 0 (nodeId s) node seq 1 ++ leBytes 1 code ++ [0] ++ leBytes 2 idx ++ leBytes 1 sub ++ leBytes 1 ty ++ leBytes 2 value.length ++ padded value)

end Sys2Proof.Machine
end

