-- ==== Sys2Proof/Machine/CmdArray.lean ====
section
/-! DEFINITION. Commands of the stream array: firings, deliveries, drill units and the configuration ports.
Spec: 02_array_cells.md R25 to R70; 03_fields_and_tunings.md R71, R86. -/

set_option Elab.async false

namespace Sys2Proof.Machine

/-- CELL_FIRE (R25): A cell whose operands, register and output conditions hold fires, pops its inputs and places a result window entry. -/
def execCellFire (t : Nat) (f : FieldId) (c : CellId) (s : State) : Out :=
  clocked t s (fun x => cellFire x f.val c.val)

/-- OPERATION_COMPLETE (R28): An operation of latency L completes, and its register write happens. -/
def execOperationComplete (t : Nat) (f : FieldId) (c : CellId) (k : Nat) (s : State) : Out :=
  clocked t s (fun x => operationComplete x f.val c.val k)

/-- RESULT_DELIVERY (R29): The head window entry is delivered to its links and bus when they are ready. -/
def execResultDelivery (t : Nat) (f : FieldId) (c : CellId) (s : State) : Out :=
  clocked t s (fun x => resultDeliver x f.val c.val)

/-- CONFIG_REGISTER_WRITE (R34): A configuration-port write to c0–c7, accepted only while the field is stopped or held by the capo. -/
def execConfigRegisterWrite (t : Nat) (f : FieldId) (c : CellId) (slot : Fin 8) (k : Fin 8) (v : Nat) (s : State) : Out :=
  port t s (fun x => configPortWrite x f.val (cellRegOffset c.val slot.val k.val) (v % 2 ^ 32))

/-- LUT_ENTRY_WRITE (R37): A configuration-port write of one lookup-table entry, refused on the active page. -/
def execLutEntryWrite (t : Nat) (f : FieldId) (j : Fin 256) (v : Nat) (s : State) : Out :=
  port t s (fun x => configPortWrite x f.val (0x7400 + 4 * j.val) (v % 2 ^ 32))

/-- CAPO_STATE_WRITE (R86): A write to the capo-state regions replaces the field's moving state. -/
def execCapoStateWrite (t : Nat) (f : FieldId) (j : Fin 8704) (v : Nat) (s : State) : Out :=
  port t s (fun x => configPortWrite x f.val (0x7800 + 4 * j.val) (v % 2 ^ 32))

/-- ROW_BYPASS_WRITE (R58): A RowBypass write remaps a field row, empties its slots and discards bypass-stage tokens. -/
def execRowBypassWrite (src : Source) (r : Fin 4) (v : Nat) (s : State) : Out :=
  setNum src 0x2600 (r.val + 1) v s

/-- BYPASS_STAGE_TRANSFER (R57): A bypass stage passes a token between the facing ports of a bypassed field. -/
def execBypassStageTransfer (t : Nat) (f : FieldId) (u : Furrow) (west : Bool) (s : State) : Out :=
  clocked t s (fun x => stageTransfer x f.val u.val (boolNat west))

/-- DRILL_READ_ITEM (R64): A drill read stream delivers its next item from field memory. -/
def execDrillReadItem (t : Nat) (f : FieldId) (d : DrillId) (s : State) : Out :=
  clocked t s (fun x => drillRead x f.val d.val)

/-- DRILL_WRITE_ACCEPT (R65): A drill write stream accepts a token for its next address. -/
def execDrillWriteAccept (t : Nat) (f : FieldId) (d : DrillId) (s : State) : Out :=
  clocked t s (fun x => drillAccept x f.val d.val)

/-- DRILL_WRITE_STORE (R70): An accepted drill write token is written to its sub-bank when the write port is granted. -/
def execDrillWriteStore (t : Nat) (f : FieldId) (d : DrillId) (s : State) : Out :=
  clocked t s (fun x => drillStore x f.val d.val)

/-- FIELD_MEMORY_NETWORK_ACCESS (R70): A network access to field memory is served by the sub-bank port, or waits for it. -/
def execFieldMemoryNetworkAccess (t : Nat) (f : FieldId) (off : Nat) (size : Nat) (write : Bool) (v : Nat) (s : State) : Out :=
  clocked t s (fun x =>
    if domOn x f.val && decide (off + size ≤ 0x40000) then
      match fieldNetAccess x f.val { off := off, size := size, value := v } write with
      | (y, some w) => some (reply y (some .ok) w [])
      | (y, none) => some y
    else none)

end Sys2Proof.Machine
end

