-- ==== Sys2Proof/Machine/CmdBoot.lean ====
section
/-! DEFINITION. Commands of boot, the stores, firmware, keys, mailboxes and the counters.
Spec: 13_object_dictionary.md R373, R374; 15_boot_and_security.md R414 to R436; 16_faults_and_repair.md R438, R439. -/

set_option Elab.async false

namespace Sys2Proof.Machine

/-- BOOT (R414): From reset release, boot runs its steps to READY, RECOVERY or SECURITY_FAILED. -/
def execBoot (t : Nat) (ok : Bool) (badSlots : List Nat) (s : State) : Out :=
  tick t s (fun x => bootStep x ok badSlots)

/-- STORE_PARAMETERS (R373): The "save" command captures every P object and starts a store. -/
def execStoreParameters (src : Source) (s : State) : Out :=
  setNum src 0x1100 0x01 0x65766173 s

/-- STORE_COMPLETE (R373): A parameter-store write ends DONE or FAILED after read-back. -/
def execStoreComplete (t : Nat) (ok : Bool) (s : State) : Out :=
  clocked t s (fun x => storeEnd x ok)

/-- RESTORE_DEFAULTS (R374): The "load" command writes an empty defaults bank. -/
def execRestoreDefaults (src : Source) (s : State) : Out :=
  setNum src 0x1101 0x01 0x64616F6C s

/-- FIRMWARE_UPDATE (R424): A FirmwareImage write is checked and written into the non-preferred flash slot. -/
def execFirmwareUpdate (src : Source) (bytes : List Byte) (s : State) : Out :=
  setBytes src 0x1402 0x00 bytes s

/-- FLASH_UPDATE_COMPLETE (R424): The flash slot and directory writes finish and FlashState ends. -/
def execFlashUpdateComplete (t : Nat) (ok : Bool) (s : State) : Out :=
  clocked t s (fun x => flashEnd x ok)

/-- FIRMWARE_ROLLBACK_FLOOR_WRITE (R423): A FirmwareRollbackFloor write is checked and written to the key store. -/
def execFirmwareRollbackFloorWrite (src : Source) (v : Nat) (s : State) : Out :=
  setNum src 0x1401 0x01 v s

/-- MAILBOX_SHA3_512 (R427): A mailbox SHA3_512 command hashes a message. -/
def execMailboxSha3512 (t : Nat) (n : CoreId) (s : State) : Out :=
  port t s (fun x => if securityOn x then mailboxWrite x n.val 0x00 1 else (x, .absorbed))

/-- MAILBOX_SHAKE256 (R427): A mailbox SHAKE256 command produces output bytes. -/
def execMailboxShake256 (t : Nat) (n : CoreId) (s : State) : Out :=
  port t s (fun x => if securityOn x then mailboxWrite x n.val 0x00 2 else (x, .absorbed))

/-- MAILBOX_VERIFY (R427): A mailbox VERIFY command checks an ML-DSA-87 signature. -/
def execMailboxVerify (t : Nat) (n : CoreId) (s : State) : Out :=
  port t s (fun x => if securityOn x then mailboxWrite x n.val 0x00 3 else (x, .absorbed))

/-- MAILBOX_SIGN (R428): A mailbox SIGN command signs with the identity key under context "GAPP". -/
def execMailboxSign (t : Nat) (n : CoreId) (s : State) : Out :=
  port t s (fun x => if securityOn x then mailboxWrite x n.val 0x00 4 else (x, .absorbed))

/-- MAILBOX_RANDOM (R427): A mailbox RANDOM command delivers TRNG bytes. -/
def execMailboxRandom (t : Nat) (n : CoreId) (s : State) : Out :=
  port t s (fun x => if securityOn x then mailboxWrite x n.val 0x00 5 else (x, .absorbed))

/-- MAILBOX_COMPLETE (R427): A mailbox operation ends DONE or FAILED. -/
def execMailboxComplete (t : Nat) (n : CoreId) (s : State) : Out :=
  settled t s (fun x => mailboxEnd x n.val)

/-- TRNG_HEALTH_FAIL (R429): A TRNG health-test failure sets TrngState FAILED. -/
def execTrngHealthFail (t : Nat) (s : State) : Out :=
  clocked t s (fun x => (if securityOn x && rd x 0x140B 0x01 != 2 then some (trngFail x) else none))

/-- TRNG_RESTART (R429): A TrngRestart write reruns the start-up test. -/
def execTrngRestart (src : Source) (s : State) : Out :=
  setNum src 0x140B 0x02 1 s

/-- TRNG_STARTUP_COMPLETE (R429): The TRNG start-up test over 1,024 samples ends and TrngState leaves STARTUP. -/
def execTrngStartupComplete (t : Nat) (ok : Bool) (s : State) : Out :=
  clocked t s (fun x => trngStarted x ok)

/-- RANDOM_READ (R429): A read of Random returns 32 fresh bytes, or STATE while the TRNG has failed. -/
def execRandomRead (src : Source) (s : State) : Out :=
  readObj src 0x140B 0x04 s

/-- OWNER_INSTALL (R431): An OwnerInstall write fills an empty owner key slot. -/
def execOwnerInstall (src : Source) (bytes : List Byte) (nvmOk : Bool) (s : State) : Out :=
  accessWith src 0x1404 0x00 { ty := 0, bytes := bytes } nvmOk s

/-- KEY_INSTALL (R432): A signed key update INSTALL writes a key into an empty slot. -/
def execKeyInstall (src : Source) (bytes : List Byte) (nvmOk : Bool) (s : State) : Out :=
  accessWith src 0x1405 0x00 { ty := 0, bytes := bytes } nvmOk s

/-- KEY_ERASE (R432): A signed key update ERASE empties a key slot. -/
def execKeyErase (src : Source) (bytes : List Byte) (nvmOk : Bool) (s : State) : Out :=
  accessWith src 0x1405 0x00 { ty := 0, bytes := bytes } nvmOk s

/-- KEY_REPLACE_OWNER (R432): A signed key update REPLACE_OWNER replaces the owner key. -/
def execKeyReplaceOwner (src : Source) (bytes : List Byte) (nvmOk : Bool) (s : State) : Out :=
  accessWith src 0x1405 0x00 { ty := 0, bytes := bytes } nvmOk s

/-- ATTEST_NONCE (R434): An AttestNonce write captures state and starts an attestation report. -/
def execAttestNonce (src : Source) (bytes : List Byte) (s : State) : Out :=
  setBytes src 0x140A 0x01 bytes s

/-- ATTEST_DONE (R434): The signed attestation report is ready and AttestState becomes DONE. -/
def execAttestDone (t : Nat) (s : State) : Out :=
  settled t s (fun x => attestEnd x)

/-- CACHE_INSTALL (R436): A CacheInstall write checks a tuning image and stores it in the lowest free cache entry. -/
def execCacheInstall (src : Source) (bytes : List Byte) (s : State) : Out :=
  setBytes src 0x140C 0x01 bytes s

/-- CACHE_ERASE (R436): A CacheErase write frees a tuning cache entry. -/
def execCacheErase (src : Source) (v : Nat) (s : State) : Out :=
  setNum src 0x140C 0x02 v s

/-- SNAPSHOT_COUNTERS (R438): The "snap" command captures every trouble counter into NVM. -/
def execSnapshotCounters (src : Source) (s : State) : Out :=
  setNum src 0x1700 0x01 0x70616E73 s

/-- SNAPSHOT_WRITE_COMPLETE (R438): The counter snapshot write into its NVM half ends. -/
def execSnapshotWriteComplete (t : Nat) (ok : Bool) (s : State) : Out :=
  settled t s (fun x => snapEnd x ok)

/-- CLEAR_COUNTERS (R439): The "clr" command sets every trouble counter to 0. -/
def execClearCounters (src : Source) (s : State) : Out :=
  setNum src 0x1700 0x06 0x726C63 s

end Sys2Proof.Machine
end

