-- ==== Sys2Proof/Machine/CmdCore.lean ====
section
/-! DEFINITION. Commands of the Peg cores: each command issues the next instruction of a core, where it is of the row.
Spec: 09_peg_cores.md R249 to R283. -/

set_option Elab.async false

namespace Sys2Proof.Machine

/-- BASE_INSTRUCTION (R249): A Peg core issues an RV32IMFC, Zicsr or Zifencei instruction. -/
def execBaseInstruction (t : Nat) (n : CoreId) (s : State) : Out :=
  clocked t s (fun x => coreIssue x n.val .base (fun y w len => baseExec y n.val w len))

/-- CALLW (R254): CALLW opens a new register window and jumps by a J-type offset. -/
def execCallw (t : Nat) (n : CoreId) (s : State) : Out :=
  clocked t s (fun x => coreIssue x n.val .callw (fun y w len => callwExec y n.val w len))

/-- CALLWR (R254): CALLWR opens a new register window and jumps to rs1 + imm. -/
def execCallwr (t : Nat) (n : CoreId) (s : State) : Out :=
  clocked t s (fun x => coreIssue x n.val .callwr (fun y w len => callwrExec y n.val w len))

/-- RETW (R255): RETW returns to the window link and closes the window. -/
def execRetw (t : Nat) (n : CoreId) (s : State) : Out :=
  clocked t s (fun x => coreIssue x n.val .retw (fun y w len => let _ := len; retwExec y n.val w))

/-- SMM (R258): SMM stores the registers named by a mask. -/
def execSmm (t : Nat) (n : CoreId) (regs : Nat) (s : State) : Out :=
  clocked t s (fun x => coreIssue x n.val .smm (fun y w len => multiExec y n.val w len regs false false))

/-- SMM_O (R258): SMM.O stores the oldest window's ins, locals and link. -/
def execSmmO (t : Nat) (n : CoreId) (regs : Nat) (s : State) : Out :=
  clocked t s (fun x => coreIssue x n.val .smmO (fun y w len => multiExec y n.val w len regs false true))

/-- LMM (R258): LMM loads the registers named by a mask. -/
def execLmm (t : Nat) (n : CoreId) (regs : Nat) (s : State) : Out :=
  clocked t s (fun x => coreIssue x n.val .lmm (fun y w len => multiExec y n.val w len regs true false))

/-- LMM_O (R258): LMM.O loads the oldest window's ins, locals and link. -/
def execLmmO (t : Nat) (n : CoreId) (regs : Nat) (s : State) : Out :=
  clocked t s (fun x => coreIssue x n.val .lmmO (fun y w len => multiExec y n.val w len regs true true))

/-- SPILLW (R257): SPILLW stores the oldest window's frame at gwsp. -/
def execSpillw (t : Nat) (n : CoreId) (s : State) : Out :=
  clocked t s (fun x => coreIssue x n.val .spillw (fun y w len => spillwExec y n.val w len))

/-- FILLW (R257): FILLW loads the frame below gwsp into the window below WB. -/
def execFillw (t : Nat) (n : CoreId) (s : State) : Out :=
  clocked t s (fun x => coreIssue x n.val .fillw (fun y w len => fillwExec y n.val w len))

/-- REP (R272): REP issues the next instruction imm + 1 times. -/
def execRep (t : Nat) (n : CoreId) (s : State) : Out :=
  clocked t s (fun x => coreIssue x n.val .rep (fun y w len => let _ := len; repExec y n.val w))

/-- REPR (R272): REPR issues the next instruction x[rs1] times. -/
def execRepr (t : Nat) (n : CoreId) (s : State) : Out :=
  clocked t s (fun x => coreIssue x n.val .repr (fun y w len => let _ := len; reprExec y n.val w))

/-- LOOP (R273): LOOP starts a hardware loop level. -/
def execLoop (t : Nat) (n : CoreId) (s : State) : Out :=
  clocked t s (fun x => coreIssue x n.val .loop (fun y w len => let _ := len; loopExec y n.val w))

/-- FMAC (R269): FMAC adds X × Y to an accumulator. -/
def execFmac (t : Nat) (n : CoreId) (s : State) : Out :=
  clocked t s (fun x => coreIssue x n.val .fmac (fun y w len => repeats (fun z => fmacExec z n.val w len 0) n.val (repsLeft y n.val) y))

/-- FMSC (R269): FMSC subtracts X × Y from an accumulator. -/
def execFmsc (t : Nat) (n : CoreId) (s : State) : Out :=
  clocked t s (fun x => coreIssue x n.val .fmsc (fun y w len => repeats (fun z => fmacExec z n.val w len 1) n.val (repsLeft y n.val) y))

/-- FMULA (R269): FMULA sets an accumulator to X × Y. -/
def execFmula (t : Nat) (n : CoreId) (s : State) : Out :=
  clocked t s (fun x => coreIssue x n.val .fmula (fun y w len => repeats (fun z => fmacExec z n.val w len 2) n.val (repsLeft y n.val) y))

/-- FMACF (R269): FMACF adds X × f[rs] to an accumulator. -/
def execFmacf (t : Nat) (n : CoreId) (s : State) : Out :=
  clocked t s (fun x => coreIssue x n.val .fmacf (fun y w len => repeats (fun z => fmacExec z n.val w len 3) n.val (repsLeft y n.val) y))

/-- FMSCF (R269): FMSCF subtracts X × f[rs] from an accumulator. -/
def execFmscf (t : Nat) (n : CoreId) (s : State) : Out :=
  clocked t s (fun x => coreIssue x n.val .fmscf (fun y w len => repeats (fun z => fmacExec z n.val w len 4) n.val (repsLeft y n.val) y))

/-- XLD (R267): XLD loads an f register from X memory with post-modify. -/
def execXld (t : Nat) (n : CoreId) (s : State) : Out :=
  clocked t s (fun x => coreIssue x n.val .xld (fun y w len => repeats (fun z => xyLoad z n.val w len 0) n.val (repsLeft y n.val) y))

/-- YLD (R267): YLD loads an f register from Y memory with post-modify. -/
def execYld (t : Nat) (n : CoreId) (s : State) : Out :=
  clocked t s (fun x => coreIssue x n.val .yld (fun y w len => repeats (fun z => xyLoad z n.val w len 1) n.val (repsLeft y n.val) y))

/-- XST (R267): XST stores an f register into X memory with post-modify. -/
def execXst (t : Nat) (n : CoreId) (s : State) : Out :=
  clocked t s (fun x => coreIssue x n.val .xst (fun y w len => repeats (fun z => xyStore z n.val w len 0) n.val (repsLeft y n.val) y))

/-- YST (R267): YST stores an f register into Y memory with post-modify. -/
def execYst (t : Nat) (n : CoreId) (s : State) : Out :=
  clocked t s (fun x => coreIssue x n.val .yst (fun y w len => repeats (fun z => xyStore z n.val w len 1) n.val (repsLeft y n.val) y))

/-- FMVAF (R271): FMVAF copies an accumulator into an f register. -/
def execFmvaf (t : Nat) (n : CoreId) (s : State) : Out :=
  clocked t s (fun x => coreIssue x n.val .fmvaf (fun y w len => fmvafExec y n.val w len))

/-- FMVFA (R271): FMVFA writes an f register into an accumulator. -/
def execFmvfa (t : Nat) (n : CoreId) (s : State) : Out :=
  clocked t s (fun x => coreIssue x n.val .fmvfa (fun y w len => fmvfaExec y n.val w len))

/-- ACCZ (R271): ACCZ writes +0 to the masked accumulators. -/
def execAccz (t : Nat) (n : CoreId) (s : State) : Out :=
  clocked t s (fun x => coreIssue x n.val .accz (fun y w len => acczExec y n.val w len))

/-- ACCSUM (R271): ACCSUM sums the four accumulators into an f register. -/
def execAccsum (t : Nat) (n : CoreId) (s : State) : Out :=
  clocked t s (fun x => coreIssue x n.val .accsum (fun y w len => accsumExec y n.val w len))

/-- ACCUMULATOR_WRITE (R268): An accumulator write lands at the end of NCLK t + 3. -/
def execAccumulatorWrite (t : Nat) (n : CoreId) (s : State) : Out :=
  clocked t s (fun x => accumulatorDue x n.val)

/-- MRET (R262): MRET leaves trap context and resumes at mepc. -/
def execMret (t : Nat) (n : CoreId) (s : State) : Out :=
  clocked t s (fun x => coreIssue x n.val .mret (fun y w len => let _ := len; mretDo (issueAt y n.val []) n.val w))

/-- INTERRUPT (R281): A pending DISPATCH or EVENT interrupt is taken at the next allowed boundary. -/
def execInterrupt (t : Nat) (n : CoreId) (s : State) : Out :=
  clocked t s (fun x => interruptDue x n.val)

/-- CORE_RUN (R283): Run 1 starts a core from RESET or continues it from HALTED. -/
def execCoreRun (src : Source) (n : CoreId) (s : State) : Out :=
  setNum src (cP n.val) 0x01 1 s

/-- CORE_HALT (R283): Run 0 requests a halt of a running core. -/
def execCoreHalt (src : Source) (n : CoreId) (s : State) : Out :=
  setNum src (cP n.val) 0x01 0 s

/-- CORE_HALTED (R283): A core stops at the next allowed boundary after a halt request. -/
def execCoreHalted (t : Nat) (n : CoreId) (s : State) : Out :=
  clocked t s (fun x => coreHaltDue x n.val)

/-- CORE_RESET (R283): Reset 1 puts a halted or double-faulted core into RESET. -/
def execCoreReset (src : Source) (n : CoreId) (s : State) : Out :=
  setNum src (cP n.val) 0x03 1 s

end Sys2Proof.Machine
end

