-- ==== Sys2Proof/Machine/CmdDict.lean ====
section
/-! DEFINITION. Commands of accesses to the object dictionary.
Spec: 13_object_dictionary.md R364 to R372; 00_scope.md R7; 04_stream_queues.md R117. -/

set_option Elab.async false

namespace Sys2Proof.Machine

/-- OBJECT_WRITE (R364): A write, by any path, to a dictionary object that has no row of its own; it is checked in order and applied or refused. -/
def execObjectWrite (src : Source) (idx : Nat) (sub : Nat) (v : ObjVal) (s : State) : Out :=
  access src idx sub v s

/-- TROUBLE_COUNTER_CLEAR (R7): A write of 0 clears a trouble counter; any other value is refused with RANGE. -/
def execTroubleCounterClear (src : Source) (idx : Nat) (sub : Nat) (v : Nat) (s : State) : Out :=
  if isTrouble idx sub then setNum src idx sub v s else .next (start s)

/-- EVENT_CAUSE_CLEAR (R117): Writing 1 to cause bits of a unit's EventCause clears those bits. -/
def execEventCauseClear (src : Source) (idx : Nat) (sub : Nat) (v : Nat) (s : State) : Out :=
  if isCause idx sub then setNum src idx sub v s else .next (start s)

/-- U64_LOW_WORD_READ (R369): A core's read of the low word of a 64-bit object captures the whole value for that core. -/
def execU64LowWordRead (n : CoreId) (idx : Nat) (sub : Nat) (s : State) : Out :=
  coreLoadObj n (windowAddr idx sub false) s

/-- U64_HIGH_WORD_WRITE (R369): A core's write of the high word of a 64-bit object is held for that core and changes nothing. -/
def execU64HighWordWrite (n : CoreId) (idx : Nat) (sub : Nat) (v : Nat) (s : State) : Out :=
  coreStoreObj n (windowAddr idx sub true) v s

/-- U64_LOW_WORD_WRITE (R369): A core's write of the low word applies both halves as one write. -/
def execU64LowWordWrite (n : CoreId) (idx : Nat) (sub : Nat) (v : Nat) (s : State) : Out :=
  coreStoreObj n (windowAddr idx sub false) v s

/-- DOMAIN_TRANSFER_READ (R372): A CONTROL command 1 starts a copy of a long value into the core's buffer. -/
def execDomainTransferRead (n : CoreId) (s : State) : Out :=
  coreStoreObj n (windowAddr (0x7F00 + n.val) 3 false) 1 s

/-- DOMAIN_TRANSFER_WRITE (R372): A CONTROL command 2 starts assembly of a long value in the domain staging region. -/
def execDomainTransferWrite (n : CoreId) (s : State) : Out :=
  coreStoreObj n (windowAddr (0x7F00 + n.val) 3 false) 2 s

/-- DOMAIN_TRANSFER_COMPLETE (R372): A domain transfer finishes; the object takes the value whole, or the transfer ends FAILED. -/
def execDomainTransferComplete (t : Nat) (n : CoreId) (s : State) : Out :=
  settled t s (fun x => domFinish x n.val)

end Sys2Proof.Machine
end

