-- ==== Sys2Proof/Machine/CmdLane.lean ====
section
/-! DEFINITION. Commands of the serial lanes.
Spec: 12_serial_lanes.md R340 to R361. -/

set_option Elab.async false

namespace Sys2Proof.Machine

/-- LANE_ENABLE_DATA (R356): Enable 1 starts a lane towards DATA. -/
def execLaneEnableData (src : Source) (n : LaneId) (s : State) : Out :=
  setNum src (lx n.val 0) 0x01 1 s

/-- LANE_ENABLE_TEST (R356): Enable 2 starts a lane in PRBS TEST and takes its test claims. -/
def execLaneEnableTest (src : Source) (n : LaneId) (s : State) : Out :=
  setNum src (lx n.val 0) 0x01 2 s

/-- LANE_DISABLE (R357): Enable 0 stops a lane. -/
def execLaneDisable (src : Source) (n : LaneId) (s : State) : Out :=
  setNum src (lx n.val 0) 0x01 0 s

/-- LANE_PLL_LOCK (R357): The group PLL locks and the lane enters ACQUIRING or TEST. -/
def execLanePllLock (t : Nat) (n : LaneId) (s : State) : Out :=
  clocked t s (fun x => laneLocked x n.val)

/-- LANE_DATA_ENTRY (R355): A lane meets its entry conditions and enters DATA. -/
def execLaneDataEntry (t : Nat) (n : LaneId) (s : State) : Out :=
  clocked t s (fun x => (laneEnterData x n.val).map (laneMoved n.val))

/-- LANE_LINK_DROP (R355): Block lock loss, hi_ber or RX_READY 0 sends a lane from DATA to RETRAINING: here the receiver finds 16 invalid headers among 64; each single header comes as BLOCK_ERROR and RX_READY 0 as LANE_STATUS_SET, and does the same. -/
def execLaneLinkDrop (t : Nat) (n : LaneId) (inFrame : Bool) (s : State) : Out :=
  clocked t s (fun x => (laneLockLost x n.val inFrame).map (laneMoved n.val))

/-- LANE_STATUS_SET (R345): A received lane status ordered set updates RemoteReady. -/
def execLaneStatusSet (t : Nat) (n : LaneId) (ready : Bool) (s : State) : Out :=
  arrives t s (fun x => laneMoved n.val (laneHeard x n.val ready))

/-- LANE_STATUS_SEND (R345): A lane status set is sent between frames after 1,024 blocks or a change of RX_READY. -/
def execLaneStatusSend (t : Nat) (n : LaneId) (ready : Bool) (s : State) : Out :=
  clocked t s (fun x => laneTell x n.val ready)

/-- LANE_STATUS_SILENCE (R355): 8,192 blocks with no lane status set send the lane out of DATA. -/
def execLaneStatusSilence (t : Nat) (n : LaneId) (s : State) : Out :=
  clocked t s (fun x => (laneSilent x n.val).map (laneMoved n.val))

/-- ACQUIRE_TIMEOUT (R357): A lane not in DATA after AcquireLimit restarts adaptation. -/
def execAcquireTimeout (t : Nat) (n : LaneId) (s : State) : Out :=
  clocked t s (fun x => laneAcquireExpire x n.val)

/-- LANE_RETRAIN (R357): A Retrain write forces a lane in DATA to RETRAINING. -/
def execLaneRetrain (src : Source) (n : LaneId) (s : State) : Out :=
  setNum src (lx n.val 0) 0x09 1 s

/-- LANE_STOP_COMPLETE (R357): A stopping lane reaches OFF, or restarts, after its frame and 1 µs. -/
def execLaneStopComplete (t : Nat) (n : LaneId) (s : State) : Out :=
  clocked t s (fun x => laneStopped x n.val)

/-- REFCLK_LOST (R347): REFCLK_IN missing or far off frequency holds lane PLLs unlocked and returns lanes to STARTING. -/
def execRefclkLost (t : Nat) (s : State) : Out :=
  tick t s refclkGone

/-- REFCLK_RESTORED (R347): REFCLK_IN returns within limits, RefState goes to 0 and the lane and core PLLs may lock again. -/
def execRefclkRestored (t : Nat) (s : State) : Out :=
  tick t s refclkBack

/-- DFE_ADAPT (R353): Every 1,024 UI, each DFE tap moves by sign-sign LMS. -/
def execDfeAdapt (t : Nat) (n : LaneId) (sums : List Int) (s : State) : Out :=
  clocked t s (fun x => dfeStep x n.val sums)

/-- PRBS_LOCK (R361): The PRBS checker locks after 64 correct predicted bits. -/
def execPrbsLock (t : Nat) (n : LaneId) (s : State) : Out :=
  clocked t s (fun x => prbsLock x n.val)

/-- PRBS_LOCK_LOSS (R361): The PRBS checker sees 16 or more wrong bits in 64, clears PrbsLock and seeds again. -/
def execPrbsLockLoss (t : Nat) (n : LaneId) (s : State) : Out :=
  clocked t s (fun x => prbsUnlock x n.val)

/-- PRBS_BIT_ERROR (R361): A wrong bit arrives at the locked PRBS checker, adds to PrbsErrors and sets PRBS_ERROR on the first error after lock. -/
def execPrbsBitError (t : Nat) (n : LaneId) (s : State) : Out :=
  clocked t s (fun x => prbsError x n.val)

/-- PRBS_INJECT (R361): A PrbsInject write inverts one transmitted bit. -/
def execPrbsInject (src : Source) (n : LaneId) (s : State) : Out :=
  setNum src (lx n.val 3) 0x07 1 s

/-- PRBS_COUNTER_CLEAR (R361): Writing 0 to PrbsErrors clears both PRBS counters. -/
def execPrbsCounterClear (src : Source) (n : LaneId) (s : State) : Out :=
  setNum src (lx n.val 3) 0x05 0 s

/-- BLOCK_ERROR (R344): A lane receiver takes an errored block or invalid sync header, counts it and discards any frame it cuts. -/
def execBlockError (t : Nat) (n : LaneId) (header : Bool) (inFrame : Bool) (s : State) : Out :=
  arrives t s (fun x => laneMoved n.val (laneBlockError x n.val header inFrame))

end Sys2Proof.Machine
end

