-- ==== Sys2Proof/Machine/CmdNoc.lean ====
section
/-! DEFINITION. Commands of banks, the harrow, the LPDDR5 interfaces and the on-chip network.
Spec: 11_memory_and_network_on_chip.md R309 to R338. -/

set_option Elab.async false

namespace Sys2Proof.Machine

/-- BANK_ACCESS_GRANT (R312): A bank grants one waiting access per NCLK by owner and master order. -/
def execBankAccessGrant (t : Nat) (b : Fin 32) (s : State) : Out :=
  clocked t s (fun x => (bankGrant x b.val).map (bankResume x b.val))

/-- HARROW_BORROW (R316): Every HarrowPeriod, the harrow borrows the next bank window and starts its march. -/
def execHarrowBorrow (t : Nat) (faults : List (Nat × List Byte)) (s : State) : Out :=
  clocked t s (fun x => harrowBorrow x faults)

/-- HARROW_RESTORE_COMPLETE (R318): RESTORE ends and the borrowed window is returned to its accesses. -/
def execHarrowRestoreComplete (t : Nat) (s : State) : Out :=
  clocked t s (fun x => harrowRestore x)

/-- LPDDR_INIT_DONE (R323): The LPDDR5 power-up and reset sequence ends and training starts. -/
def execLpddrInitDone (t : Nat) (i : LpId) (s : State) : Out :=
  clocked t s (fun x => lpddrInit x i.val)

/-- LPDDR_TRAINING_DONE (R323): LPDDR5 training ends; the interface becomes READY or FAILED. -/
def execLpddrTrainingDone (t : Nat) (i : LpId) (failStep : Fin 16) (s : State) : Out :=
  clocked t s (fun x => lpddrTrainEnd x i.val failStep.val)

/-- LPDDR_MR4_READ (R320): MR4 is read every 32 ms and the refresh interval scaled. -/
def execLpddrMr4Read (t : Nat) (i : LpId) (code : Nat) (s : State) : Out :=
  clocked t s (fun x => lpddrMr4 x i.val code)

/-- LPDDR_ZQ_LATCH (R320): Background ZQ calibration is latched every 64 ms. -/
def execLpddrZqLatch (t : Nat) (i : LpId) (s : State) : Out :=
  clocked t s (fun x => lpddrZq x i.val)

/-- LPDDR_WCK2DQ_TRACKING (R320): WCK2DQ oscillator tracking runs every 100 ms. -/
def execLpddrWck2dqTracking (t : Nat) (i : LpId) (s : State) : Out :=
  clocked t s (fun x => lpddrWck x i.val)

/-- LPDDR_REFRESH (R320): A per-bank refresh is issued when due. -/
def execLpddrRefresh (t : Nat) (i : LpId) (s : State) : Out :=
  clocked t s (fun x => lpddrRefreshDue x i.val)

/-- LPDDR_WRITE_REFUSED (R324): A history or archive write waiting 20 µs is refused and dropped. -/
def execLpddrWriteRefused (t : Nat) (history : Option (CamId × Nat)) (s : State) : Out :=
  clocked t s (fun x => (match history with | some (k, n) => historyRefused x k.val n | none => archiveRefused x))

/-- NETWORK_REQUEST (R325): An NI injects a request packet after reserving its response space. -/
def execNetworkRequest (t : Nat) (ni : NiId) (addr : Nat) (size : Nat) (write : Bool) (v : Nat) (s : State) : Out :=
  clocked t s (fun x => netRequest x ni.val addr size write v)

/-- NETWORK_RESPONSE (R326): A response arrives at its NI and completes the request. -/
def execNetworkResponse (t : Nat) (ni : NiId) (tag : Nat) (s : State) : Out :=
  settled t s (fun x => netRespond x ni.val tag)

/-- REQUEST_TIMEOUT (R332): A request unanswered within its timeout is answered TIMEOUT by its NI. -/
def execRequestTimeout (t : Nat) (ni : NiId) (tag : Nat) (s : State) : Out :=
  settled t s (fun x => netTimeout x ni.val tag)

/-- PORT_STALL_TIMEOUT (R333): A target port answers a stalled request TIMEOUT. -/
def execPortStallTimeout (t : Nat) (ni : NiId) (tag : Nat) (s : State) : Out :=
  clocked t s (fun x => portStall x ni.val tag)

/-- ROUTE_SWAP_GO (R331): A Go write checks every shadow route table and starts the swap. -/
def execRouteSwapGo (src : Source) (s : State) : Out :=
  setNum src 0x5020 0x02 1 s

/-- NI_TABLE_SWAP (R331): An NI swaps to its new table at its first idle NCLK. -/
def execNiTableSwap (t : Nat) (ni : NiId) (s : State) : Out :=
  clocked t s (fun x => niSwap x ni.val)

/-- ROUTER_RECONFIG_GO (R338): A Go write suspends the routes through a router to change its weights. -/
def execRouterReconfigGo (src : Source) (s : State) : Out :=
  setNum src 0x5021 0x03 1 s

/-- ROUTER_RECONFIG_APPLY (R338): Once the router has drained, its weights apply and routes resume. -/
def execRouterReconfigApply (t : Nat) (s : State) : Out :=
  clocked t s (fun x => routerApply x)

end Sys2Proof.Machine
end

