-- ==== Sys2Proof/Machine/Snapshot.lean ====
section
/-! DEFINITION. What a resync snapshot and a PRECOPY pass carry, and their bytes: a code of every part of the state that they take with them, and the bytes of the wire over it, which the spec does not give (R243; notes/assumptions/4.md).
Spec: 08_pair_operation.md R243 to R247. -/

set_option Elab.async false

namespace Sys2Proof

/-- What is laid over the bytes of a snapshot (0) and of a PRECOPY pass (1), by place, and how many bytes follow what it carries, by the length of that: the spec gives no layout (notes/assumptions/4.md). -/
opaque Config.snapshotMask : (kind place : Nat) → Byte
opaque Config.snapshotPad : (kind length : Nat) → Nat

end Sys2Proof

namespace Sys2Proof.Machine

/-- What a PRECOPY pass carries (R243): the class M values, each field's slots, the journal state, and blocks of field memory and lookup-table pages with their words. -/
structure Precopy where
  values : Tab Nat := []
  texts : Tab (List Byte) := []
  slots : Tab (Tab Slot) := []
  journal : JournalImage := {}
  blocks : List Nat := []
  words : Tab Nat := []
  deriving DecidableEq, Repr, Inhabited

/-- What a cut copies (R243): the capo state of every field and what its edge ports hold, which fields run, the queues, the generators, the product table with its windows, the gate lists, the bars with their hold buffers and skip debts, the cameras' intake, the serial entries, the registers of these, and the dirty blocks. -/
structure CutState where
  fields : Tab Field := []
  edgeOut : Tab Held := []
  edgeMoved : Tab Nat := []
  running : List Nat := []
  queues : Tab Queue := []
  nextLine : Tab Int := []
  lastId : Nat := 0
  products : List Product := []
  gates : Tab Gate := []
  bars : Tab Bar := []
  cameras : Tab Camera := []
  entries : Tab SerialEntry := []
  registers : Tab Nat := []
  blocks : List Nat := []
  words : Tab Nat := []
  deriving DecidableEq, Repr, Inhabited

/-- A code of a type in bytes: what is written for a value, and the value read from the front of a list with what follows it. -/
structure Code (α : Type) where
  enc : α → List Byte
  dec : List Byte → Option (α × List Byte)

/-- A code reads back what it writes, whatever follows. -/
def Law {α : Type} (c : Code α) : Prop := ∀ (a : α) (r : List Byte), c.dec (c.enc a ++ r) = some (a, r)

/-- A number in bytes of 7 bits, the lowest first; the last byte is below 128. -/
def natEnc : Nat → Nat → List Byte
  | 0, _ => []
  | k + 1, n => if n < 128 then [BitVec.ofNat 8 n] else BitVec.ofNat 8 (128 + n % 128) :: natEnc k (n / 128)

def natDec : List Byte → Option (Nat × List Byte)
  | [] => none
  | b :: r =>
    if b.toNat < 128 then some (b.toNat, r)
    else match natDec r with
      | some (m, q) => some (b.toNat - 128 + 128 * m, q)
      | none => none

def codeNat : Code Nat := { enc := fun n => natEnc (n + 1) n, dec := natDec }

/-- Two values, one behind the other. -/
def codePair {α β : Type} (a : Code α) (b : Code β) : Code (α × β) where
  enc := fun x => a.enc x.1 ++ b.enc x.2
  dec := fun l => match a.dec l with
    | some (x, r) => (match b.dec r with
      | some (y, q) => some ((x, y), q)
      | none => none)
    | none => none

/-- A type by another that holds its parts. -/
def codeIso {α β : Type} (f : α → β) (g : β → α) (c : Code β) : Code α where
  enc := fun a => c.enc (f a)
  dec := fun l => match c.dec l with
    | some (x, r) => some (g x, r)
    | none => none

/-- So many values. -/
def listDec {α : Type} (c : Code α) : Nat → List Byte → Option (List α × List Byte)
  | 0, l => some ([], l)
  | k + 1, l => match c.dec l with
    | some (x, r) => (match listDec c k r with
      | some (xs, q) => some (x :: xs, q)
      | none => none)
    | none => none

def codeList {α : Type} (c : Code α) : Code (List α) where
  enc := fun xs => codeNat.enc xs.length ++ xs.flatMap c.enc
  dec := fun l => match codeNat.dec l with
    | some (k, r) => listDec c k r
    | none => none

def codeTab {α : Type} (c : Code α) : Code (Tab α) := codeList (codePair codeNat c)

def codeByte : Code Byte where
  enc := fun b => [b]
  dec := fun l => match l with
    | b :: r => some (b, r)
    | [] => none

def codeBytes : Code (List Byte) := codeList codeByte

def codeBool : Code Bool := codeIso boolNat (fun n => n == 1) codeNat

def codeWord : Code Word := codeIso BitVec.toNat (BitVec.ofNat 32) codeNat

def codeInt : Code Int := codeIso (fun i => (decide (i < 0), i.natAbs)) (fun e => if e.1 then -(e.2 : Int) else e.2) (codePair codeBool codeNat)

def codeOption {α : Type} (c : Code α) : Code (Option α) := codeIso (fun o => o.toList) (fun l => l.head?) (codeList c)

/-- The code of `MapChange`. -/
def codeMapChange : Code MapChange :=
  codeIso
    (fun x => match x with | .entry n v => (0, n, v) | .report n s => (1, n, s) | .failed n => (2, n, 0))
    (fun e => match e.1 with | 0 => .entry e.2.1 e.2.2 | 1 => .report e.2.1 e.2.2 | _ => .failed e.2.1)
    (codePair codeNat (codePair codeNat codeNat))

/-- The code of `Token`. -/
def codeToken : Code Token :=
  codeIso (fun x => (x.data, x.last)) (fun (x0, x1) => { data := x0, last := x1 })
    (codePair codeWord codeBool)

/-- The code of `Held`. -/
def codeHeld : Code Held :=
  codeIso (fun x => (x.tok, x.since, x.drill)) (fun (x0, x1, x2) => { tok := x0, since := x1, drill := x2 })
    (codePair codeToken (codePair codeNat (codeOption (codePair codeNat codeNat))))

/-- The code of `WinEntry`. -/
def codeWinEntry : Code WinEntry :=
  codeIso (fun x => (x.result, x.passN, x.passE, x.passS, x.passW, x.regVal, x.deliver, x.we, x.reg, x.written, x.bankSlot, x.dueAt)) (fun (x0, x1, x2, x3, x4, x5, x6, x7, x8, x9, x10, x11) => { result := x0, passN := x1, passE := x2, passS := x3, passW := x4, regVal := x5, deliver := x6, we := x7, reg := x8, written := x9, bankSlot := x10, dueAt := x11 })
    (codePair codeToken (codePair codeToken (codePair codeToken (codePair codeToken (codePair codeToken (codePair codeNat (codePair codeNat (codePair codeBool (codePair codeNat (codePair codeBool (codePair codeNat codeNat)))))))))))

/-- The code of `Cell`. -/
def codeCell : Code Cell :=
  codeIso (fun x => (x.skids, x.popped, x.win, x.firedAt, x.deliveredAt, x.goneAt, x.gone, x.banked, x.shared, x.wroteAt, x.side, x.count, x.lut, x.endAt, x.switchedAt)) (fun (x0, x1, x2, x3, x4, x5, x6, x7, x8, x9, x10, x11, x12, x13, x14) => { skids := x0, popped := x1, win := x2, firedAt := x3, deliveredAt := x4, goneAt := x5, gone := x6, banked := x7, shared := x8, wroteAt := x9, side := x10, count := x11, lut := x12, endAt := x13, switchedAt := x14 })
    (codePair (codeTab (codeList codeHeld)) (codePair (codeTab codeNat) (codePair (codeList codeWinEntry) (codePair codeNat (codePair codeNat (codePair codeNat (codePair codeNat (codePair (codeTab codeNat) (codePair (codeTab codeNat) (codePair (codeTab codeNat) (codePair (codeTab codeNat) (codePair (codeTab codeNat) (codePair (codeTab codeNat) (codePair codeNat codeNat))))))))))))))

/-- The code of `FurrowBus`. -/
def codeFurrowBus : Code FurrowBus :=
  codeIso (fun x => (x.toks, x.leftAt, x.drivenAt)) (fun (x0, x1, x2) => { toks := x0, leftAt := x1, drivenAt := x2 })
    (codePair (codeList (codePair codeHeld codeNat)) (codePair codeNat codeNat))

/-- The code of `Slot`. -/
def codeSlot : Code Slot :=
  codeIso (fun x => (x.st, x.tuningId, x.digest, x.words, x.headland, x.drill)) (fun (x0, x1, x2, x3, x4, x5) => { st := x0, tuningId := x1, digest := x2, words := x3, headland := x4, drill := x5 })
    (codePair codeNat (codePair codeNat (codePair codeBytes (codePair (codeTab codeNat) (codePair (codeTab codeNat) codeBytes)))))

/-- The code of `DrillItem`. -/
def codeDrillItem : Code DrillItem :=
  codeIso (fun x => (x.addr, x.tok, x.since)) (fun (x0, x1, x2) => { addr := x0, tok := x1, since := x2 })
    (codePair codeNat (codePair codeToken codeNat))

/-- The code of `DrillStream`. -/
def codeDrillStream : Code DrillStream :=
  codeIso (fun x => (x.buf, x.movedAt, x.storedAt, x.endAt, x.switchedAt, x.drop)) (fun (x0, x1, x2, x3, x4, x5) => { buf := x0, movedAt := x1, storedAt := x2, endAt := x3, switchedAt := x4, drop := x5 })
    (codePair (codeList codeDrillItem) (codePair codeNat (codePair codeNat (codePair codeNat (codePair codeNat (codeOption (codePair codeNat codeNat)))))))

/-- The code of `Retune`. -/
def codeRetune : Code Retune :=
  codeIso (fun x => (x.target, x.mode, x.cuePort, x.cueValue, x.cueMask, x.startAclk)) (fun (x0, x1, x2, x3, x4, x5) => { target := x0, mode := x1, cuePort := x2, cueValue := x3, cueMask := x4, startAclk := x5 })
    (codePair codeNat (codePair codeNat (codePair codeNat (codePair codeNat (codePair codeNat codeNat)))))

/-- The code of `RetuneEnded`. -/
def codeRetuneEnded : Code RetuneEnded :=
  codeIso (fun x => (x.at_, x.slot, x.start, x.mode)) (fun (x0, x1, x2, x3) => { at_ := x0, slot := x1, start := x2, mode := x3 })
    (codePair codeNat (codePair codeNat (codePair codeNat codeNat)))

/-- The code of `NetWait`. -/
def codeNetWait : Code NetWait :=
  codeIso (fun x => (x.id, x.off, x.size, x.value, x.since)) (fun (x0, x1, x2, x3, x4) => { id := x0, off := x1, size := x2, value := x3, since := x4 })
    (codePair codeNat (codePair codeNat (codePair codeNat (codePair codeNat codeNat))))

/-- The code of `Field`. -/
def codeField : Code Field :=
  codeIso (fun x => (x.cells, x.bus, x.slots, x.streams, x.counter, x.stages, x.stageMoved, x.retune, x.ended, x.lutSelect, x.frozenAt, x.capoRaw, x.netReadAt, x.netWriteAt, x.fetchAt, x.netWait)) (fun (x0, x1, x2, x3, x4, x5, x6, x7, x8, x9, x10, x11, x12, x13, x14, x15) => { cells := x0, bus := x1, slots := x2, streams := x3, counter := x4, stages := x5, stageMoved := x6, retune := x7, ended := x8, lutSelect := x9, frozenAt := x10, capoRaw := x11, netReadAt := x12, netWriteAt := x13, fetchAt := x14, netWait := x15 })
    (codePair (codeTab codeCell) (codePair (codeTab codeFurrowBus) (codePair (codeTab codeSlot) (codePair (codeTab codeDrillStream) (codePair (codeTab codeNat) (codePair (codeTab (codeList codeHeld)) (codePair (codeTab codeNat) (codePair (codeOption codeRetune) (codePair codeRetuneEnded (codePair codeNat (codePair (codeOption codeNat) (codePair (codeTab codeNat) (codePair (codeTab codeNat) (codePair (codeTab codeNat) (codePair codeNat (codeTab (codeList codeNetWait)))))))))))))))))

/-- The code of `QWord`. -/
def codeQWord : Code QWord :=
  codeIso (fun x => (x.data, x.valid, x.last, x.readable)) (fun (x0, x1, x2, x3) => { data := x0, valid := x1, last := x2, readable := x3 })
    (codePair codeNat (codePair codeNat (codePair codeBool codeNat)))

/-- The code of `Queue`. -/
def codeQueue : Code Queue :=
  codeIso (fun x => (x.head, x.spill, x.spillRead, x.spillWrite, x.tail, x.partData, x.partBytes, x.flushSeen, x.dmaFlushSeen, x.latch, x.rest, x.portAt, x.flushing, x.stopLatched, x.dmaStopped, x.dmaPos, x.writing, x.reading)) (fun (x0, x1, x2, x3, x4, x5, x6, x7, x8, x9, x10, x11, x12, x13, x14, x15, x16, x17) => { head := x0, spill := x1, spillRead := x2, spillWrite := x3, tail := x4, partData := x5, partBytes := x6, flushSeen := x7, dmaFlushSeen := x8, latch := x9, rest := x10, portAt := x11, flushing := x12, stopLatched := x13, dmaStopped := x14, dmaPos := x15, writing := x16, reading := x17 })
    (codePair (codeList codeQWord) (codePair (codeList codeQWord) (codePair codeNat (codePair codeNat (codePair (codeList codeQWord) (codePair codeNat (codePair codeNat (codePair codeBool (codePair codeBool (codePair codeNat (codePair (codeList (codePair codeWord codeBool)) (codePair codeNat (codePair codeNat (codePair codeBool (codePair codeBool (codePair codeNat (codePair codeBool codeBool)))))))))))))))))

/-- The code of `Window`. -/
def codeWindow : Code Window :=
  codeIso (fun x => (x.bar, x.start, x.len, x.finished)) (fun (x0, x1, x2, x3) => { bar := x0, start := x1, len := x2, finished := x3 })
    (codePair codeNat (codePair codeNat (codePair codeNat codeBool)))

/-- The code of `Product`. -/
def codeProduct : Code Product :=
  codeIso (fun x => (x.id, x.lane, x.trigger, x.enc, x.gen, x.pos, x.line, x.due, x.gate, x.duePos, x.retirePos, x.printStatus, x.verifyStatus, x.serialRef, x.done, x.incomplete, x.verdict, x.forceReject, x.decided, x.rejected, x.windows, x.launched, x.grade, x.camera, x.firstLine, x.lastLine, x.imagedAt, x.createdAt, x.packets, x.renderSent)) (fun (x0, x1, x2, x3, x4, x5, x6, x7, x8, x9, x10, x11, x12, x13, x14, x15, x16, x17, x18, x19, x20, x21, x22, x23, x24, x25, x26, x27, x28, x29) => { id := x0, lane := x1, trigger := x2, enc := x3, gen := x4, pos := x5, line := x6, due := x7, gate := x8, duePos := x9, retirePos := x10, printStatus := x11, verifyStatus := x12, serialRef := x13, done := x14, incomplete := x15, verdict := x16, forceReject := x17, decided := x18, rejected := x19, windows := x20, launched := x21, grade := x22, camera := x23, firstLine := x24, lastLine := x25, imagedAt := x26, createdAt := x27, packets := x28, renderSent := x29 })
    (codePair codeNat (codePair codeNat (codePair codeNat (codePair codeNat (codePair codeNat (codePair codeNat (codePair codeNat (codePair codeNat (codePair codeNat (codePair codeNat (codePair codeNat (codePair codeNat (codePair codeNat (codePair codeNat (codePair codeNat (codePair codeNat (codePair codeNat (codePair codeBool (codePair codeBool (codePair codeBool (codePair (codeList codeWindow) (codePair codeBool (codePair codeNat (codePair codeNat (codePair codeNat (codePair codeNat (codePair codeNat (codePair codeNat (codePair (codeTab codeBytes) codeBool)))))))))))))))))))))))))))))

/-- The code of `Launch`. -/
def codeLaunch : Code Launch :=
  codeIso (fun x => (x.line, x.payload, x.blank, x.enterAt, x.owner, x.products, x.last)) (fun (x0, x1, x2, x3, x4, x5, x6) => { line := x0, payload := x1, blank := x2, enterAt := x3, owner := x4, products := x5, last := x6 })
    (codePair codeNat (codePair codeBytes (codePair codeBool (codePair codeNat (codePair codeNat (codePair (codeList codeNat) (codeList codeNat)))))))

/-- The code of `Bar`. -/
def codeBar : Code Bar :=
  codeIso (fun x => (x.hold, x.buf, x.owed, x.launches, x.stopLatched, x.changes, x.mgmtSeq, x.silentFrom, x.statusAt, x.recent, x.clean)) (fun (x0, x1, x2, x3, x4, x5, x6, x7, x8, x9, x10) => { hold := x0, buf := x1, owed := x2, launches := x3, stopLatched := x4, changes := x5, mgmtSeq := x6, silentFrom := x7, statusAt := x8, recent := x9, clean := x10 })
    (codePair codeNat (codePair codeBytes (codePair (codeList codeNat) (codePair (codeList codeLaunch) (codePair codeBool (codePair (codeList codeMapChange) (codePair codeNat (codePair codeNat (codePair (codeOption codeNat) (codePair (codeList (codePair codeNat codeNat)) codeNat))))))))))

/-- The code of `Pulse`. -/
def codePulse : Code Pulse :=
  codeIso (fun x => (x.start, x.endPos, x.endAt)) (fun (x0, x1, x2) => { start := x0, endPos := x1, endAt := x2 })
    (codePair codeNat (codePair (codeOption codeNat) codeNat))

/-- The code of `Gate`. -/
def codeGate : Code Gate :=
  codeIso (fun x => (x.entries, x.pulses, x.endedIn)) (fun (x0, x1, x2) => { entries := x0, pulses := x1, endedIn := x2 })
    (codePair (codeList (codePair codeNat (codeOption codeNat))) (codePair (codeList codePulse) codeNat))

/-- The code of `HistoryWrite`. -/
def codeHistoryWrite : Code HistoryWrite :=
  codeIso (fun x => (x.line, x.since, x.oldLine, x.oldBytes)) (fun (x0, x1, x2, x3) => { line := x0, since := x1, oldLine := x2, oldBytes := x3 })
    (codePair codeNat (codePair codeNat (codePair (codeOption codeNat) codeBytes)))

/-- The code of `Camera`. -/
def codeCamera : Code Camera :=
  codeIso (fun x => (x.held, x.replay, x.overflowed, x.expired, x.seenEven, x.seenOdd, x.strobes, x.items, x.writing, x.writingHeld, x.history, x.waiting, x.stopLatched, x.mgmtSeq, x.silentFrom)) (fun (x0, x1, x2, x3, x4, x5, x6, x7, x8, x9, x10, x11, x12, x13, x14) => { held := x0, replay := x1, overflowed := x2, expired := x3, seenEven := x4, seenOdd := x5, strobes := x6, items := x7, writing := x8, writingHeld := x9, history := x10, waiting := x11, stopLatched := x12, mgmtSeq := x13, silentFrom := x14 })
    (codePair (codeList (codePair codeNat codeBytes)) (codePair (codeList (codePair codeNat codeBytes)) (codePair (codeList codeNat) (codePair (codeList codeNat) (codePair (codeOption codeNat) (codePair (codeOption codeNat) (codePair (codeList (codePair codeNat codeNat)) (codePair (codeList (codePair codeNat codeBool)) (codePair codeBool (codePair codeBool (codePair (codeTab codeNat) (codePair (codeList codeHistoryWrite) (codePair codeBool (codePair codeNat codeNat))))))))))))))

/-- The code of `SerialEntry`. -/
def codeSerialEntry : Code SerialEntry :=
  codeIso (fun x => (x.product, x.slot, x.n, x.v, x.state, x.viaPartner, x.solo, x.grantId, x.stream, x.digits, x.lead)) (fun (x0, x1, x2, x3, x4, x5, x6, x7, x8, x9, x10) => { product := x0, slot := x1, n := x2, v := x3, state := x4, viaPartner := x5, solo := x6, grantId := x7, stream := x8, digits := x9, lead := x10 })
    (codePair codeNat (codePair codeNat (codePair codeNat (codePair codeNat (codePair codeNat (codePair codeBool (codePair codeBool (codePair codeNat (codePair codeNat (codePair codeNat codeBytes))))))))))

/-- The code of `JournalSlot`. -/
def codeJournalSlot : Code JournalSlot :=
  codeIso (fun x => (x.state, x.grantId, x.reserve, x.ledgered, x.returnedFrom, x.printed, x.voided)) (fun (x0, x1, x2, x3, x4, x5, x6) => { state := x0, grantId := x1, reserve := x2, ledgered := x3, returnedFrom := x4, printed := x5, voided := x6 })
    (codePair codeNat (codePair codeNat (codePair codeNat (codePair codeNat (codePair codeNat (codePair codeNat codeNat))))))

/-- The code of `JournalImage`. -/
def codeJournalImage : Code JournalImage :=
  codeIso (fun x => (x.clean, x.seq, x.nodeId, x.floor, x.lastSeq, x.checkpointSeq, x.segment, x.head, x.slots, x.grants)) (fun (x0, x1, x2, x3, x4, x5, x6, x7, x8, x9) => { clean := x0, seq := x1, nodeId := x2, floor := x3, lastSeq := x4, checkpointSeq := x5, segment := x6, head := x7, slots := x8, grants := x9 })
    (codePair codeBool (codePair codeNat (codePair codeNat (codePair codeNat (codePair codeNat (codePair codeNat (codePair codeNat (codePair codeBytes (codePair (codeTab codeJournalSlot) (codeTab codeBytes))))))))))

/-- The code of `CutState`. -/
def codeCutState : Code CutState :=
  codeIso (fun x => (x.fields, x.edgeOut, x.edgeMoved, x.running, x.queues, x.nextLine, x.lastId, x.products, x.gates, x.bars, x.cameras, x.entries, x.registers, x.blocks, x.words)) (fun (x0, x1, x2, x3, x4, x5, x6, x7, x8, x9, x10, x11, x12, x13, x14) => { fields := x0, edgeOut := x1, edgeMoved := x2, running := x3, queues := x4, nextLine := x5, lastId := x6, products := x7, gates := x8, bars := x9, cameras := x10, entries := x11, registers := x12, blocks := x13, words := x14 })
    (codePair (codeTab codeField) (codePair (codeTab codeHeld) (codePair (codeTab codeNat) (codePair (codeList codeNat) (codePair (codeTab codeQueue) (codePair (codeTab codeInt) (codePair codeNat (codePair (codeList codeProduct) (codePair (codeTab codeGate) (codePair (codeTab codeBar) (codePair (codeTab codeCamera) (codePair (codeTab codeSerialEntry) (codePair (codeTab codeNat) (codePair (codeList codeNat) (codeTab codeNat)))))))))))))))

/-- The code of `Precopy`. -/
def codePrecopy : Code Precopy :=
  codeIso (fun x => (x.values, x.texts, x.slots, x.journal, x.blocks, x.words)) (fun (x0, x1, x2, x3, x4, x5) => { values := x0, texts := x1, slots := x2, journal := x3, blocks := x4, words := x5 })
    (codePair (codeTab codeNat) (codePair (codeTab codeBytes) (codePair (codeTab (codeTab codeSlot)) (codePair codeJournalImage (codePair (codeList codeNat) (codeTab codeNat))))))

/-! The bytes of the wire and of the snapshot region. -/

/-- The mask laid over bytes, and taken off again. -/
def maskBytes (kind : Nat) : Nat → List Byte → List Byte
  | _, [] => []
  | i, b :: r => (b ^^^ Config.snapshotMask kind i) :: maskBytes kind (i + 1) r

/-- A snapshot's bytes: what it carries, then what pads it. -/
def snapshotBytes (c : CutState) : List Byte :=
  let b := codeCutState.enc c
  maskBytes 0 0 (codeNat.enc (Config.snapshotPad 0 b.length) ++ b ++ List.replicate (Config.snapshotPad 0 b.length) 0)

/-- The cut that a snapshot's bytes carry, and the bytes behind it. -/
def snapshotCut (b : List Byte) : Option (CutState × List Byte) :=
  match codeNat.dec (maskBytes 0 0 b) with
  | some (pad, r) => (match codeCutState.dec r with
    | some (c, q) => if q.length < pad then none else some (c, b.drop (b.length - (q.length - pad)))
    | none => none)
  | none => none

/-- The bytes of a PRECOPY pass. -/
def precopyBytes (p : Precopy) : List Byte := maskBytes 1 0 (codePrecopy.enc p)

/-- What the bytes of a PRECOPY pass carry, once they are all there. -/
def precopyRead (b : List Byte) : Option Precopy := (codePrecopy.dec (maskBytes 1 0 b)).map (·.1)

end Sys2Proof.Machine
end

