-- ==== Sys2Proof/Machine/Resync.lean ====
section
/-! DEFINITION. Resync of a joiner from a SOLO source: alignment, PRECOPY, the cut, its transfer, the restore and the catch-up.
Spec: 08_pair_operation.md R243 to R248. -/

set_option Elab.async false

namespace Sys2Proof.Machine

/-! ALIGN. -/

/-- The joiner is aligned on every ON encoder: PRECOPY. -/
def alignCheck (s : State) : State :=
  if resyncState s == 2 && (List.range 4).all (fun e => encState s e != 2 || s.pair.aligned.contains e) then setResync s 3 else s

/-- An encoder's position moved to the source's. -/
def alignTo (s : State) (e pos high : Nat) : State :=
  let s1 := skipToHigh (wr (wr s (ex e) 0x06 pos) (ex e) 0x08 high) e
  alignCheck (setPair s1 { s1.pair with aligned := e :: s1.pair.aligned.filter (fun x => x != e) })

/-- A POSITION_MARK paired with this engine's own latched position; after 8 equal differences in a row the encoder is moved by it. -/
def positionMarkApply (s : State) (p : List Byte) : State :=
  let e := leAt p 0 1
  let pos := leAt p 8 8
  let t := leAt p 16 8
  let win := rd s 0x1302 0x08 * 1000
  match s.pair.latched.find? (fun l => l.1 == e && decide (l.2.2 ≤ t + win) && decide (t ≤ l.2.2 + win)) with
  | none => s
  | some l =>
    let d := posDiff pos l.2.1
    let n := match tabFind s.pair.marks e with | some (d', k) => if d == d' then k + 1 else 1 | none => 1
    let s1 := setPair s { s.pair with marks := tabPut s.pair.marks e (d, n), latched := s.pair.latched.filter (fun x => x != l) }
    if 8 ≤ n && decide (e ≤ 3) && !s1.pair.aligned.contains e then
      alignTo s1 e (wrapInt 48 ((encPos s1 e : Int) + d)) (wrapInt 48 ((encHigh s1 e : Int) + d))
    else s1

def positionMarkFrame (s : State) (i seq role : Nat) (p : List Byte) (ok : Bool) : State :=
  pairOrdered s i 0x17 seq role p ok (fun x => (if pairRole x == 6 && resyncState x == 2 then positionMarkApply x p else x, true, 0))

/-- An encoder has not counted for 10 ms on this engine. -/
def encIdle (s : State) (e : Nat) : Bool :=
  match (encoderOf s e).times.getLast? with
  | some t => decide (t + 10 * psMs ≤ s.now)
  | none => true

/-- An encoder that has not counted for 10 ms on this engine, nor on the source's, takes the source's position directly: `pos`, none where the source's has counted (R243; notes/assumptions/143.md). -/
def idleAlign (s : State) (e : Nat) (pos : Option Nat) : Option State :=
  match pos with
  | some p => if pairRole s == 6 && resyncState s == 2 && encIdle s e && decide (e ≤ 3) then some (alignTo s e (p % 2 ^ 48) (p % 2 ^ 48)) else none
  | none => none

/-! PRECOPY. -/

/-- Field memory and the lookup-table pages as words: a byte of memory by its address, an entry of a page by 2^32 and its field, cell and place. -/
def precopyWords (s : State) : Tab Nat :=
  (s.mem.filter (fun c => decide (0x30000000 ≤ c.1) && decide (c.1 < 0x30600000))).map (fun c => (c.1, c.2.toNat))
    ++ s.arr.fields.flatMap (fun f => f.2.cells.flatMap (fun c => c.2.lut.map (fun e => (2 ^ 32 + (f.1 * 64 + c.1) * 2 ^ 16 + e.1, e.2))))

/-- The 1 KiB block that a word lies in: bytes of memory, or entries of 4 bytes. -/
def precopyBlock (key : Nat) : Nat := if key < 2 ^ 32 then key / 1024 else key / 256

/-- The blocks that hold a word of one table that the other does not hold equal. -/
def changedBlocks (x y : Tab Nat) : List Nat := (((x.filter (fun e => !y.contains e)) ++ y.filter (fun e => !x.contains e)).map (fun e => precopyBlock e.1)).eraseDups

/-- The blocks that differ from what the last pass sent; in the first pass every block (R243). -/
def dirtyBlocks (s : State) : List Nat := changedBlocks (precopyWords s) (s.pair.precopied.getD [])

/-- The dirty bytes that CutBudget bounds: of the blocks whose content has changed, and of those that writes since the last pass left as they were (R243; notes/assumptions/143.md). -/
def dirtyBytes (s : State) (rewritten : Nat) : Nat := 1024 * ((dirtyBlocks s).length + rewritten)

/-- The words that lie in some blocks. -/
def wordsIn (blocks : List Nat) (w : Tab Nat) : Tab Nat := w.filter (fun e => blocks.contains (precopyBlock e.1))

/-- A number that the primary's writes set and a pair mirrors: class M, writable and readable (R231). -/
def mirroredValue (key : Nat) : Bool :=
  match resolveObj (key / 256) (key % 256) with
  | .ok o => o.desc.cls == .m && (o.desc.acc == .rw || o.desc.acc == .rws) && o.desc.kind == .plain
  | .error _ => false

/-- What the source sends in a pass (R243). -/
def precopyOf (s : State) : Precopy :=
  { values := s.obj.filter (fun e => mirroredValue e.1), texts := s.blobs.filter (fun e => mirroredValue e.1),
    slots := s.arr.fields.map (fun f => (f.1, f.2.slots.filter (fun e => e.2.st != 0))), journal := journalImage s {} false,
    blocks := dirtyBlocks s, words := wordsIn (dirtyBlocks s) (precopyWords s) }

/-- SNAPSHOT frames of up to 8,184 bytes, over the lanes in their data state in turn (R224, R243). -/
def snapshotSend : Nat → Nat → List Byte → State → State
  | 0, _, _, s => s
  | n + 1, off, b, s =>
    if b.isEmpty then s
    else
      let up := (List.range 4).filter (plUp s)
      let chunk := b.take 8184
      let s1 := match up[(off / 8184) % max 1 up.length]? with
        | some i => sendPair s i 0x30 (off / 8184) (leBytes 8 off ++ chunk)
        | none => s
      snapshotSend n (off + 8184) (b.drop 8184) s1

/-- A PRECOPY pass of the source. -/
def precopyPass (s : State) : State :=
  let b := precopyBytes (precopyOf s)
  let s1 := setPair (setResync s 3) { s.pair with precopied := some (precopyWords s) }
  snapshotSend (b.length / 8184 + 1) 0 b s1

/-- Words of field memory put in place of the blocks they come from. -/
def blocksPut (s : State) (blocks : List Nat) (w : Tab Nat) : State :=
  let s1 := { s with mem := s.mem.filter (fun c => !(decide (c.1 < 2 ^ 32) && blocks.contains (precopyBlock c.1) && decide (0x30000000 ≤ c.1) && decide (c.1 < 0x30600000))) }
  w.foldl (fun x e => if decide (0x30000000 ≤ e.1) && decide (e.1 < 0x30600000) then memWrite x e.1 [BitVec.ofNat 8 e.2] else x) s1

/-- Entries of lookup-table pages put in place of the pages they come from. -/
def pagesPut (s : State) (blocks : List Nat) (w : Tab Nat) : State :=
  (List.range 24).foldl (fun x f =>
    let y := fieldOf x f
    let cells := y.cells.map (fun c =>
      let base := 2 ^ 32 + (f * 64 + c.1) * 2 ^ 16
      let kept := c.2.lut.filter (fun e => !blocks.contains (precopyBlock (base + e.1)))
      (c.1, { c.2 with lut := (w.filter (fun e => decide (base ≤ e.1) && decide (e.1 < base + 2 ^ 16))).foldl (fun t e => tabSet 0 t (e.1 - base) e.2) kept }))
    setField x f { y with cells := cells }) s

/-- A mirrored value applied by the joiner, where it differs. -/
def precopyValue (s : State) (key v : Nat) : State :=
  if tabGet (objDefault (key / 256) (key % 256)) s.obj key == v then s
  else match resolveObj (key / 256) (key % 256) with
    | .ok o => (dictWrite s .pairAgent o.idx o.sub { ty := 0, bytes := leBytes o.desc.ty.bytes v }).1
    | .error _ => s

/-- The mirrored values applied, and what the source does not list put back to its default: settings first, then the Enables, which are sub-indices 0x01 (notes/assumptions/143.md). -/
def precopyValues (s : State) (t : Tab Nat) : State :=
  let all : Tab Nat := t ++ (s.obj.filter (fun e => (tabFind t e.1).isNone)).map (fun e => (e.1, objDefault (e.1 / 256) (e.1 % 256)))
  (all.filter (fun e => mirroredValue e.1 && e.1 % 256 == 1)).foldl (fun x e => precopyValue x e.1 e.2)
    ((all.filter (fun e => mirroredValue e.1 && e.1 % 256 != 1)).foldl (fun x e => precopyValue x e.1 e.2) s)

/-- An image taken into the same slot: what is ACTIVE on the source is READY here until the restore. -/
def slotCopied (x : Slot) : Slot := { x with st := if x.st == 3 then 2 else if x.st == 1 then 0 else x.st }

/-- The source's journal state taken over and journalled, under this engine's own sequence and bank (R243). -/
def journalMirror (s : State) (i : JournalImage) : State :=
  let s1 := bankLoad s (rd s 0x4000 0x09) i
  let s2 := setSerial (wr s1 0x4000 0x08 (rd s 0x4000 0x08)) { s1.serial with lastBank := s.serial.lastBank }
  journalRequest s2 (fun w => w)

/-- A mirrored text put in place, or taken back to its default where the source lists none. -/
def precopyTexts (s : State) (t : Tab (List Byte)) : State :=
  let all : Tab (List Byte) := t ++ (s.blobs.filter (fun e => (tabFind t e.1).isNone)).map (fun e => (e.1, []))
  all.foldl (fun x e => if mirroredValue e.1 then wrBytes x (e.1 / 256) (e.1 % 256) e.2 else x) s

/-- The joiner applies what a PRECOPY pass carries: values, images, the journal state and blocks (R243). -/
def precopyApply (s : State) (p : Precopy) : State :=
  let s1 := precopyTexts (precopyValues s p.values) p.texts
  let s2 := p.slots.foldl (fun x f =>
    if f.1 < 24 then
      let y := fieldOf x f.1
      setField x f.1 { y with slots := f.2.foldl (fun t e => tabSet {} t e.1 (slotCopied e.2)) y.slots }
    else x) s1
  let s3 := if p.journal == {} then s2 else journalMirror s2 p.journal
  pagesPut (blocksPut s3 p.blocks p.words) p.blocks p.words

/-! CUT and TRANSFER on the source. -/

/-- The registers that a cut takes with it: those of the active slots, of triggers, of bars and their maps, and of allotments. Position and line numbers are this engine's own, which alignment has made equal (notes/assumptions/142.md). -/
def cutRegisters : List (Nat × Nat) :=
  (List.range 24).map (fun f => (0x2000 + 0x40 * f, 0x03))
    ++ (List.range 24).flatMap (fun t => [(tx t, 0x0E), (tx t, 0x0F)])
    ++ (List.range 24).flatMap (fun b => [(bx b 4, 0x03), (bx b 4, 0x04), (bx b 4, 0x05)])
    ++ (List.range 64).map (fun q => (qs q, 0x04))
    ++ (List.range 32).flatMap (fun a => (List.range 13).map (fun k => (0x4021 + 2 * a, k + 1)))

/-- LineNumber of the line generators. -/
def genLines : List (Nat × Nat) := (List.range 4).map (fun g => (0x3010 + g, 0x05))

/-- A field at the cut, its times counted from the ACLK in which the capo froze it. -/
def fieldCut (x : Field) : Field :=
  let k := x.frozenAt.getD 0
  { x with
    cells := x.cells.map (fun e => (e.1, { e.2 with win := e.2.win.map (fun w => { w with dueAt := w.dueAt - k }) }))
    streams := x.streams.map (fun e => (e.1, { e.2 with buf := e.2.buf.map (fun d => { d with since := 0 }) }))
    frozenAt := some 0 }

/-- The state at the cut. -/
def cutOf (s : State) : CutState :=
  { fields := s.arr.fields.map (fun f => (f.1, fieldCut f.2)), edgeOut := s.arr.edgeOut, edgeMoved := s.arr.edgeMoved, running := (List.range 24).filter (fun f => fieldRunReg s f == 1), queues := s.queues,
    nextLine := s.print.nextLine, lastId := s.print.lastId, products := s.print.products, gates := s.print.gates, bars := s.print.bars, cameras := s.print.cameras, entries := s.serial.entries,
    registers := (cutRegisters ++ genLines).foldl (fun t (e : Nat × Nat) => tabPut t (objKey e.1 e.2) (rd s e.1 e.2)) [],
    blocks := dirtyBlocks s, words := wordsIn (dirtyBlocks s) (precopyWords s) }

/-- Items of a queue: those in its words and in the partly filled one. -/
def queueItems (s : State) (q : Nat) : Nat :=
  let x := queueOf s q
  ((x.head ++ x.spill ++ x.tail).foldl (fun a w => a + w.valid) 0 + x.partBytes) / qItemBytes s q

/-- The payload of CUT (R224). -/
def cutPayload (s : State) : List Byte :=
  leBytes 8 (aclk s) ++ (List.range 4).flatMap (fun e => leBytes 8 (encPos s e)) ++ (List.range 6).flatMap (fun k => leBytes 4 (nextLine s k))
    ++ (List.range 32).flatMap (fun q => leBytes 4 (qPackets s q) ++ leBytes 4 (queueItems s q))

/-- µs that the capo has been held for the cut, as LastHold shows them. -/
def holdTime (s : State) : Nat := min 0xFFFF ((s.now - s.pair.holdAt) / psUs)

/-- The pair agent's accesses to a part of the snapshot region go to their banks as master 1, or are turned away and counted (R311, R335). -/
def snapshotUse (s : State) (off len : Nat) : State :=
  let a := rd s 0x1302 0x04 + off
  let g := unitGate s 12 a len
  if (gateStatus g).isSome then unitTurned s 12 g else unitUse s 1 12 a len

/-- The copy within the hold: the snapshot in its region, the capo released, CUT sent; the firmware is told (R243, R244, R247). -/
def cutCopy (s : State) : State :=
  let b := (snapshotBytes (cutOf s)).take (rd s 0x1302 0x05)
  let s1 := memWrite (snapshotUse s 0 b.length) (rd s 0x1302 0x04) b
  let s2 := wr (capoHoldWrite s1 0).1 0x1302 0x0A (holdTime s)
  let s3 := (sendOrdered (setResync s2 5) 0x18 (cutPayload s)).1
  setCause (setPair s3 { s3.pair with snapshotLen := b.length, cutAt := s.now, firmwareAt := none }) .pair 6

/-- The snapshot sent, with the FirmwareState that the firmware has written since the cut, then SNAPSHOT_END (R243, R247). -/
def cutTransfer (s : State) : State :=
  let b := memRead s (rd s 0x1302 0x04) s.pair.snapshotLen ++ rdBytes s 0x1304 0x00
  let s1 := snapshotSend (b.length / 8184 + 1) 0 b (setResync (snapshotUse s 0 s.pair.snapshotLen) 6)
  (sendOrdered s1 0x19 (leBytes 8 b.length ++ sha3_512 b)).1

/-- The next step of the source: a PRECOPY pass until the dirty bytes are within CutBudget; the capo hold; the copy, once the capo is held and while ResyncHoldLimit lasts; and the transfer, once the firmware has written its state or its 5 ms have passed (R243, R244, R247). -/
def resyncCut (s : State) (rewritten : Nat) : Option State :=
  if pairRole s != 4 then none
  else match resyncState s with
    | 2 => some (precopyPass s)
    | 3 =>
      if dirtyBytes s rewritten ≤ rd s 0x1302 0x07 then some (setPair (setResync (capoHoldWrite s 1).1 4) { s.pair with holdAt := s.now })
      else some (precopyPass s)
    | 4 => if capoHeld s && rangeBorrowed s (rd s 0x1302 0x04) (rd s 0x1302 0x05) then turned s 12 .borrowed
      else if capoHeld s && decide (s.now ≤ s.pair.holdAt + rd s 0x1302 0x06 * psUs) then some (cutCopy s) else none
    | 5 => if s.pair.firmwareAt.isSome || decide (s.pair.cutAt + 5 * psMs ≤ s.now) then some (cutTransfer s) else none
    | _ => none

/-- The cut hold reaches ResyncHoldLimit: the capo is released and PRECOPY goes on (R244). -/
def resyncHold (s : State) : Option State :=
  if pairRole s == 4 && resyncState s == 4 && decide (s.pair.holdAt + rd s 0x1302 0x06 * psUs ≤ s.now) then
    some (bump (wr (setResync (capoHoldWrite s 0).1 3) 0x1302 0x0A (holdTime s)) 0x1306 0x09)
  else none

/-! CUT, TRANSFER and RESTORE on the joiner. -/

/-- A camera's lines from NextLine n of the frame on replayed from its history: those that history lacks are written as lost (R246). -/
def cameraReplay (s : State) (k n : Nat) : State :=
  let x := camOf s k
  let lines := (x.history.filter (fun e => decide (0 ≤ lineDiff e.2 n))).map (fun e => (e.2, memRead s (physAddr s 10 (historyAddr s k e.2)) (pixels s k * pixelBits s k / 8)))
  let gone := (regionLines n ((nextLine s k + (2 ^ 32 - 1)) % 2 ^ 32)).filter (fun m => !lines.any (fun l => l.1 == m) && !x.held.any (fun l => l.1 == m))
  let s1 := setCam s k { x with replay := lines.filter (fun l => !x.held.any (fun h => h.1 == l.1)), expired := gone, overflowed := [], items := [], writing := false }
  intakePump k (lines.length + gone.length + 8) (wr s1 (cs k) 0x04 n)

/-- The joiner at CUT: fields halted, input queues flushed, camera lines replayed, the lines owed until now forgotten, and the counts published (R246). -/
def cutApply (s : State) (p : List Byte) : State :=
  let s1 := (List.range 24).foldl (fun x f => (fieldRunWrite x f 0).1) s
  let s2 := (List.range 32).foldl (fun x q => if qState x q == 2 then (queueFlush x q 1).1 else x) s1
  let s3 := (List.range 6).foldl (fun x k => if camState x k == 2 then cameraReplay x k (leAt p (40 + 4 * k) 4) else wr x (cs k) 0x04 (leAt p (40 + 4 * k) 4)) s2
  let s4 := (List.range 24).foldl (fun x b => setOwed x b []) s3
  setCause (setResync (setPair s4 { s4.pair with cut := p.drop 64, cutAt := s.now, sinceCut := [], passChunks := [] }) 5) .pair 6

/-- The joiner has compared the digests of the source's HELLO, and has not yet restored (R243, R442). -/
def joined (s : State) : Bool := decide (2 ≤ resyncState s) && decide (resyncState s ≤ 5)

def cutFrame (s : State) (i seq role : Nat) (p : List Byte) (ok : Bool) : State :=
  pairOrdered s i 0x18 seq role p ok (fun x => (if pairRole x == 6 && joined x then cutApply x p else x, true, 0))

/-- The chunks of a PRECOPY pass, one behind the other from offset 0. -/
def passBytes : Nat → Tab (List Byte) → List Byte
  | _, [] => []
  | at_, (off, b) :: r => if off == at_ then b ++ passBytes (at_ + b.length) r else []

/-- A chunk of a PRECOPY pass: with the last of them the pass is applied (notes/assumptions/4.md). -/
def passChunk (s : State) (off : Nat) (b : List Byte) : State :=
  let t := tabPut s.pair.passChunks off b
  match precopyRead (passBytes 0 t) with
  | some p => precopyApply (setPair s { s.pair with passChunks := [] }) p
  | none => setPair s { s.pair with passChunks := t }

/-- A SNAPSHOT chunk: applied in PRECOPY, stored in TRANSFER (R243). -/
def snapshotFrame (s : State) (i role : Nat) (p : List Byte) (ok : Bool) : State :=
  let (s1, go) := pairArrive s i 0x30 role p ok
  let off := leAt p 0 8
  if !go || pairRole s1 != 6 then s1
  else if !joined s1 then s1
  else if resyncState s1 ≤ 3 then passChunk s1 off (p.drop 8)
  else if rd s1 0x1302 0x05 < off + (p.length - 8) then s1
  else memWrite (snapshotUse s1 off (p.length - 8)) (rd s1 0x1302 0x04 + off) (p.drop 8)

/-- A queue after the restore: the snapshot's words ahead of what an input queue has been given since the cut (R243). -/
def queueRestored (q : Nat) (own cut : Queue) : Queue :=
  if qIsInput q then { cut with tail := cut.tail ++ own.head ++ own.tail, partData := own.partData, partBytes := own.partBytes, flushing := own.flushing } else cut

/-- The records created on this engine since the cut, with the numbers that follow the cut's last: the records, the last number, and the renumbering. -/
def renumber : Nat → List Product → List Product × Nat × List (Nat × Nat)
  | last, [] => ([], last, [])
  | last, p :: ps =>
    let n := if last == 0xFFFFFFFF then 1 else last + 1
    let r := renumber n ps
    ({ p with id := n } :: r.1, r.2.1, (p.id, n) :: r.2.2)

/-- A gate's list after the restore: the cut's, with the entries of the records created since. -/
def gateRestored (own cut : Gate) (ids : List (Nat × Nat)) : Gate :=
  let newer := own.entries.filterMap (fun e =>
    match e.2 with
    | some id => (ids.find? (fun x => x.1 == id)).map (fun x => (e.1, some x.2))
    | none => none)
  { own with entries := newer.foldl (fun l e => entryInsert l e.1 e.2) cut.entries }

/-- A bar after the restore: the cut's hold buffer and map changes, its debt with the lines owed since; it has launched no line of this resync yet (R243, R248). -/
def barRestored (own cut : Bar) : Bar := { own with hold := cut.hold, buf := cut.buf, owed := cut.owed ++ own.owed, changes := cut.changes, clean := 0 }

/-- A camera after the restore: the strobes of the cut whose lines are still to be written ahead of this engine's own since; its lines are those that it replays and receives (R243, R246; notes/assumptions/142.md). -/
def cameraRestored (own cut : Camera) : Camera := { own with strobes := cut.strobes.filter (fun e => !own.strobes.any (fun o => o.1 == e.1)) ++ own.strobes }

/-- The strobes of a camera's written lines forgotten. -/
def strobesPast (s : State) (k : Nat) : State :=
  setCam s k { camOf s k with strobes := (camOf s k).strobes.filter (fun e => decide (0 ≤ lineDiff e.1 (nextLine s k))) }

/-- A generator after the restore: the cut's next line and last line, moved on to where this engine's own strobes and its encoder have come since (R243). -/
def genRestored (s : State) (cut : Tab Int) (g line : Nat) : State :=
  let k := tabGet 0 cut g
  if !genEnabled s g then s
  else
    let s1 := if decide (genNext s g < k) then setGenNext s g k else s
    if decide (0 < lineDiff line (genLine s1 g)) then wr s1 (0x3010 + g) 0x05 line else s1

/-- The print path after the restore: the cut's records, gate lists, bars and camera intake, with what this engine has made since; its own encoders, which alignment has made equal, count on (R243; notes/assumptions/142.md). -/
def printRestored (own : PrintState) (cut : CutState) (since : Nat) : PrintState :=
  let newer := renumber cut.lastId (own.products.filter (fun p => decide (since ≤ p.createdAt)))
  { own with
    cameras := (List.range 6).foldl (fun t k => tabSet {} t k (cameraRestored (tabGet {} own.cameras k) (tabGet {} cut.cameras k))) []
    lastId := newer.2.1
    products := cut.products ++ newer.1
    gates := (List.range 12).foldl (fun t j => tabSet {} t j (gateRestored (tabGet {} own.gates j) (tabGet {} cut.gates j) newer.2.2)) []
    bars := (List.range 24).foldl (fun t b => tabSet {} t b (barRestored (tabGet {} own.bars b) (tabGet {} cut.bars b))) [] }

/-- The cut state put in place: the array, the queues with their later items behind, the print, verification and serial state, and the frames since the cut; the fields then run (R243). -/
def restore (s : State) (c : CutState) : State :=
  let qs' : Tab Queue := (List.range 64).foldl (fun t q => tabSet {} t q (queueRestored q (queueOf s q) (tabGet {} c.queues q))) []
  let s0 := blocksPut { s with arr := { fields := c.fields, edgeOut := c.edgeOut, edgeMoved := c.edgeMoved, load := s.arr.load }, queues := qs', print := printRestored s.print c s.pair.cutAt } c.blocks c.words
  let s1 := (List.range 6).foldl strobesPast ((List.range 4).foldl (fun x g => genRestored x c.nextLine g (tabGet 0 c.registers (objKey (0x3010 + g) 0x05))) s0)
  let s2 := { s1 with obj := (c.registers.filter (fun e => cutRegisters.any (fun r => objKey r.1 r.2 == e.1))).foldl (fun t (e : Nat × Nat) => tabSet (objDefault (e.1 / 256) (e.1 % 256)) t e.1 e.2) s1.obj }
  let s3 := (List.range 24).foldl (fun x b => setOwed x b (barOf x b).owed) s2
  let s4 := setSerial s3 { s3.serial with entries := c.entries, buffers := [] }
  let s5 := s4.pair.sinceCut.foldl (fun x e => if e.1 == 0x10 then (commitReceived x e.2).1 else reserveReceived x e.2) s4
  let s6 := (List.range 24).foldl (fun x f => if c.running.contains f then (fieldRunWrite x f 1).1 else x) s5
  setResync (setPair s6 { s6.pair with sinceCut := [] }) 7

/-- SNAPSHOT_END: the digest is checked and the cut restored, with the source's FirmwareState, or the resync fails; what was cut off by SnapshotSize is not restored (R243, R247; notes/assumptions/4.md). -/
def snapshotEndFrame (s : State) (i seq role : Nat) (p : List Byte) (ok : Bool) : State :=
  pairOrdered s i 0x19 seq role p ok (fun x0 =>
    if pairRole x0 != 6 || resyncState x0 != 5 then (x0, true, 0)
    else
      let x := snapshotUse x0 0 (leAt p 0 8)
      let b := memRead x (rd x 0x1302 0x04) (leAt p 0 8)
      let y := if sha3_512 b == bytesAt p 8 64 then
          (match snapshotCut b with
          | some (c, firmware) => wrBytes (restore (setResync x 6) c) 0x1304 0x00 firmware
          | none => resyncFail x .auth)
        else resyncFail x .auth
      (y, true, 0))

/-! CATCH-UP. -/

/-- The catch-up condition (R248). -/
def caughtUp (s : State) : Bool :=
  (List.range 24).all (fun b => barState s b != 2 || ((barOf s b).owed.isEmpty && decide (64 ≤ (barOf s b).clean)))
    && (List.range 6).all (fun k => camState s k != 2 || decide (0 < lineDiff (nextLine s k) (genLine s (camGen s k))))

/-- The joiner enters STANDBY and sends RESYNC_DONE (R248). -/
def catchUp (s : State) : Option State :=
  if pairRole s == 6 && resyncState s == 7 && caughtUp s then
    let s1 := setCause (wr (setResync (setRole s 3) 8) 0x1302 0x03 0) .pair 6
    let s2 := setPair s1 { s1.pair with compareFrom := nextId s1 }
    some (sendOrdered s2 0x1A []).1
  else none

/-- RESYNC_DONE makes the source PRIMARY (R228, R248). -/
def resyncDoneFrame (s : State) (i seq role : Nat) (p : List Byte) (ok : Bool) : State :=
  pairOrdered s i 0x1A seq role p ok (fun x =>
    if pairRole x == 4 then
      let y := setCause (setResync (setRole x 2) 8) .pair 6
      (setPair y { y.pair with compareFrom := nextId y }, true, 0)
    else (x, true, 0))

/-- ResyncTimeout has passed: the joiner fails, and so does the source's side (R243). -/
def resyncExpire (s : State) : Option State :=
  if !decide (s.pair.resyncAt + rd s 0x1302 0x09 * psMs ≤ s.now) then none
  else if pairRole s == 6 then some (resyncFail s .timeout)
  else if pairRole s == 4 && decide (1 ≤ resyncState s) && decide (resyncState s ≤ 7) then some (wr (sourceFail s) 0x1302 0x03 Status.timeout.code)
  else none

end Sys2Proof.Machine
end

