-- ==== Sys2Proof/Machine/CmdPair.lean ====
section
/-! DEFINITION. Commands of pair operation.
Spec: 08_pair_operation.md R217 to R248. -/

set_option Elab.async false

namespace Sys2Proof.Machine

/-- PAIR_ENABLE (R228): PairEnable 1 claims the pair lanes and starts ARBITRATING. -/
def execPairEnable (src : Source) (s : State) : Out :=
  setNum src 0x1300 0x01 1 s

/-- PAIR_DISABLE (R228): PairEnable 0 returns the engine to SINGLE, except from STOOD_DOWN. -/
def execPairDisable (src : Source) (s : State) : Out :=
  setNum src 0x1300 0x01 0 s

/-- HELLO (R228): A received HELLO drives arbitration or resync joining. -/
def execHello (t : Nat) (i : PairLane) (role : Nat) (p : List Byte) (ok : Bool) (s : State) : Out :=
  settled t s (fun x => some (helloReceived x i.val role p ok))

/-- HELLO_SEND (R224): HELLO is sent every 1 ms in ARBITRATING and RESYNC. -/
def execHelloSend (t : Nat) (s : State) : Out :=
  settled t s (fun x => helloSend x)

/-- HEARTBEAT (R224): A received HEARTBEAT keeps the link and ordered lane alive. -/
def execHeartbeat (t : Nat) (i : PairLane) (role : Nat) (p : List Byte) (ok : Bool) (s : State) : Out :=
  settled t s (fun x => some (heartbeatReceived x i.val role p ok))

/-- HEARTBEAT_SEND (R222): A HEARTBEAT is sent about every 8 µs on each lane in DATA. -/
def execHeartbeatSend (t : Nat) (i : PairLane) (s : State) : Out :=
  settled t s (fun x => heartbeatSend x i.val)

/-- ARBITRATION_TIMEOUT (R228): Link lost for ArbitrationTimeout with sidebands low lets a primary claimant become SOLO. -/
def execArbitrationTimeout (t : Nat) (s : State) : Out :=
  settled t s (fun x => arbitrationExpire x)

/-- FIRMWARE_KICK (R219): A FirmwareKick write kicks the pair watchdog. -/
def execFirmwareKick (src : Source) (s : State) : Out :=
  setNum src 0x1300 0x06 1 s

/-- WATCHDOG_EXPIRY (R220): The pair watchdog expires and the engine stands down. -/
def execWatchdogExpiry (t : Nat) (agentStopped : Bool) (s : State) : Out :=
  settled t s (fun x => watchdogExpire x agentStopped)

/-- SIDEBAND_LOW_TIMEOUT (R239): ALIVE_IN and ROLE_IN are sampled; what has read low for 20 µs takes effect. -/
def execSidebandLowTimeout (t : Nat) (alive : Bool) (role : Bool) (s : State) : Out :=
  settled t s (fun x => some (sidebands x alive role))

/-- LINK_LOST (R226): 32 µs without a valid pair frame marks the link lost. -/
def execLinkLost (t : Nat) (s : State) : Out :=
  settled t s (fun x => linkLose x)

/-- LINK_LOST_200US (R228): Link lost for 200 µs sends a PRIMARY to SOLO or a STANDBY to ORPHANED. -/
def execLinkLost200us (t : Nat) (s : State) : Out :=
  settled t s (fun x => linkLost200 x)

/-- ORDERED_ANSWER_TIMEOUT (R228): An ordered frame unanswered for 200 µs sends the primary to SOLO. -/
def execOrderedAnswerTimeout (t : Nat) (s : State) : Out :=
  settled t s (fun x => answerExpire x)

/-- MIRROR_WRITE (R232): The standby applies a mirrored class M write and answers with its status. -/
def execMirrorWrite (t : Nat) (i : PairLane) (seq : Nat) (role : Nat) (p : List Byte) (ok : Bool) (s : State) : Out :=
  settled t s (fun x => some (mirrorFrame x i.val seq role p ok))

/-- ACK (R225): A received ACK completes the ordered frame it answers. -/
def execAck (t : Nat) (i : PairLane) (seq : Nat) (role : Nat) (p : List Byte) (ok : Bool) (s : State) : Out :=
  settled t s (fun x => some (ackReceived x i.val seq role p ok))

/-- NAK (R228): A received NAK refuses the commit and sends the primary to SOLO. -/
def execNak (t : Nat) (i : PairLane) (seq : Nat) (role : Nat) (p : List Byte) (ok : Bool) (s : State) : Out :=
  settled t s (fun x => some (nakReceived x i.val seq role p ok))

/-- COMMIT (R204): The standby checks a COMMIT, advances its mirror and fills serial_ref, or answers NAK. -/
def execCommit (t : Nat) (i : PairLane) (seq : Nat) (role : Nat) (p : List Byte) (ok : Bool) (s : State) : Out :=
  settled t s (fun x => some (commitFrame x i.val seq role p ok))

/-- RESERVE (R204): The standby journals a new reserve mark and answers ACK. -/
def execReserve (t : Nat) (i : PairLane) (seq : Nat) (role : Nat) (p : List Byte) (ok : Bool) (s : State) : Out :=
  settled t s (fun x => some (reserveFrame x i.val seq role p ok))

/-- MAP_SWITCH (R236): The standby collects MAP_SWITCH entries and applies the change on the last frame. -/
def execMapSwitch (t : Nat) (i : PairLane) (seq : Nat) (role : Nat) (p : List Byte) (ok : Bool) (s : State) : Out :=
  settled t s (fun x => some (mapSwitchFrame x i.val seq role p ok))

/-- CHECKPOINT_STATE (R215): The standby journals the ledger state of a received checkpoint. -/
def execCheckpointState (t : Nat) (i : PairLane) (seq : Nat) (role : Nat) (p : List Byte) (ok : Bool) (s : State) : Out :=
  settled t s (fun x => some (checkpointStateFrame x i.val seq role p ok))

/-- DIGEST (R238): A received RENDER or VERDICT digest is compared with the local one. -/
def execDigest (t : Nat) (i : PairLane) (seq : Nat) (role : Nat) (p : List Byte) (ok : Bool) (s : State) : Out :=
  settled t s (fun x => some (digestFrame x i.val seq role p ok))

/-- ORPHAN (R228): A received ORPHAN sends the primary to SOLO. -/
def execOrphan (t : Nat) (i : PairLane) (seq : Nat) (role : Nat) (p : List Byte) (ok : Bool) (s : State) : Out :=
  settled t s (fun x => some (orphanFrame x i.val seq role p ok))

/-- POSITION_MARK (R243): The joiner pairs a received POSITION_MARK with its own latched position. -/
def execPositionMark (t : Nat) (i : PairLane) (seq : Nat) (role : Nat) (p : List Byte) (ok : Bool) (s : State) : Out :=
  settled t s (fun x => some (positionMarkFrame x i.val seq role p ok))

/-- ENCODER_IDLE_ALIGN (R243): An encoder idle for 10 ms takes the source's position directly. -/
def execEncoderIdleAlign (t : Nat) (e : EncId) (pos : Option Nat) (s : State) : Out :=
  settled t s (fun x => idleAlign x e.val pos)

/-- RESYNC_REQUEST (R243): A ResyncRequest write starts a resync from ORPHANED. -/
def execResyncRequest (src : Source) (s : State) : Out :=
  setNum src 0x1302 0x01 1 s

/-- RESYNC_CUT (R243): The source takes its next step: it precopies, holds the capo, copies the cut state into the snapshot and sends CUT, and transfers the snapshot. -/
def execResyncCut (t rewritten : Nat) (s : State) : Out :=
  settled t s (fun x => resyncCut x rewritten)

/-- RESYNC_HOLD_LIMIT (R244): A cut hold reaching ResyncHoldLimit releases the capo and returns to PRECOPY. -/
def execResyncHoldLimit (t : Nat) (s : State) : Out :=
  settled t s (fun x => resyncHold x)

/-- CUT (R246): The joiner halts fields, flushes input queues and replays camera history from the cut. -/
def execCut (t : Nat) (i : PairLane) (seq : Nat) (role : Nat) (p : List Byte) (ok : Bool) (s : State) : Out :=
  settled t s (fun x => some (cutFrame x i.val seq role p ok))

/-- SNAPSHOT (R243): The joiner stores a received snapshot chunk. -/
def execSnapshot (t : Nat) (i : PairLane) (role : Nat) (p : List Byte) (ok : Bool) (s : State) : Out :=
  settled t s (fun x => some (snapshotFrame x i.val role p ok))

/-- SNAPSHOT_END (R243): The joiner checks the snapshot digest and restores the cut state. -/
def execSnapshotEnd (t : Nat) (i : PairLane) (seq : Nat) (role : Nat) (p : List Byte) (ok : Bool) (s : State) : Out :=
  settled t s (fun x => some (snapshotEndFrame x i.val seq role p ok))

/-- CATCH_UP_COMPLETE (R248): The joiner meets the catch-up condition, enters STANDBY and sends RESYNC_DONE. -/
def execCatchUpComplete (t : Nat) (s : State) : Out :=
  settled t s (fun x => catchUp x)

/-- RESYNC_DONE (R248): The SOLO source processes RESYNC_DONE and enters PRIMARY. -/
def execResyncDone (t : Nat) (i : PairLane) (seq : Nat) (role : Nat) (p : List Byte) (ok : Bool) (s : State) : Out :=
  settled t s (fun x => some (resyncDoneFrame x i.val seq role p ok))

/-- RESYNC_TIMEOUT (R243): A resync not finished within ResyncTimeout fails and the joiner becomes ORPHANED. -/
def execResyncTimeout (t : Nat) (s : State) : Out :=
  settled t s (fun x => resyncExpire x)

/-- PAIR_LANE_HEARTBEAT_TIMEOUT (R225): A PL lane has had no valid HEARTBEAT for 32 µs, drops from LanesUp and may move the ordered lane with resends. -/
def execPairLaneHeartbeatTimeout (t : Nat) (i : PairLane) (s : State) : Out :=
  settled t s (fun x => laneBeatExpire x i.val)

end Sys2Proof.Machine
end

