-- ==== Sys2Proof/Machine/CmdPlant.lean ====
section
/-! DEFINITION. Commands of the plant network: Opral, CAN FD, PTP and the second pulses.
Spec: 13_object_dictionary.md R381 to R394. -/

set_option Elab.async false

namespace Sys2Proof.Machine

/-- OPRAL_DATAGRAM (R384): A received Opral datagram is checked, its ops applied and a response sent. -/
def execOpralDatagram (t : Nat) (p : PortId) (ip : Nat) (udp : Nat) (b : List Byte) (s : State) : Out :=
  datagram t s (fun x => opralReceive x p.val ip udp b)

/-- OPRAL_READ (R383): A READ op returns an object's value. -/
def execOpralRead (t : Nat) (p : PortId) (ip : Nat) (udp : Nat) (node : Nat) (seq : Nat) (idx : Nat) (sub : Nat) (ty : Nat) (s : State) : Out :=
  datagram t s (fun x => opralOne x p.val ip udp node seq 1 idx sub ty [])

/-- OPRAL_WRITE (R383): A WRITE op writes an object's value. -/
def execOpralWrite (t : Nat) (p : PortId) (ip : Nat) (udp : Nat) (node : Nat) (seq : Nat) (idx : Nat) (sub : Nat) (v : ObjVal) (s : State) : Out :=
  datagram t s (fun x => opralOne x p.val ip udp node seq 2 idx sub v.ty v.bytes)

/-- OPRAL_SEG_READ (R385): A SEG_READ op returns a segment of a captured long value. -/
def execOpralSegRead (t : Nat) (p : PortId) (ip : Nat) (udp : Nat) (node : Nat) (seq : Nat) (idx : Nat) (sub : Nat) (off : Nat) (len : Nat) (s : State) : Out :=
  datagram t s (fun x => opralOne x p.val ip udp node seq 3 idx sub (objCode idx sub) (leBytes 4 off ++ leBytes 2 len ++ [0, 0]))

/-- OPRAL_SEG_WRITE (R385): A SEG_WRITE op adds a segment to an assembly and applies it on the last. -/
def execOpralSegWrite (t : Nat) (p : PortId) (ip : Nat) (udp : Nat) (node : Nat) (seq : Nat) (idx : Nat) (sub : Nat) (ty : Nat) (off : Nat) (last : Bool) (b : List Byte) (s : State) : Out :=
  datagram t s (fun x => opralOne x p.val ip udp node seq 4 idx sub ty (leBytes 4 off ++ leBytes 4 (boolNat last) ++ b))

/-- SEGMENT_TIMEOUT (R385): An unused assembly or capture is discarded after SegmentTimeout. -/
def execSegmentTimeout (t : Nat) (s : State) : Out :=
  clocked t s (fun x => segExpire x)

/-- ARP_REQUEST (R381): A port answers an ARP request. -/
def execArpRequest (t : Nat) (p : PortId) (mac : Nat) (ip : Nat) (target : Nat) (s : State) : Out :=
  clocked t s (fun x => arpReply x p.val mac ip target)

/-- ICMP_ECHO (R381): A port answers an ICMP echo request. -/
def execIcmpEcho (t : Nat) (p : PortId) (ip : Nat) (target : Nat) (rest : List Byte) (s : State) : Out :=
  clocked t s (fun x => icmpReply x p.val ip target rest)

/-- CAN_PORT_ENABLE (R388): Enabling a CAN FD port sends boot-up and enters PRE-OPERATIONAL. -/
def execCanPortEnable (src : Source) (p : PortId) (s : State) : Out :=
  setNum src (canK p.val) 0x01 1 s

/-- NMT_START (R388): The NMT start command moves the port to OPERATIONAL. -/
def execNmtStart (t : Nat) (p : PortId) (node : Nat) (s : State) : Out :=
  canFrame t s (fun x => nmtHeard x p.val node) (fun x => nmtMove x p.val node 0x05)

/-- NMT_STOP (R388): The NMT stop command moves the port to STOPPED. -/
def execNmtStop (t : Nat) (p : PortId) (node : Nat) (s : State) : Out :=
  canFrame t s (fun x => nmtHeard x p.val node) (fun x => nmtMove x p.val node 0x04)

/-- NMT_ENTER_PRE_OPERATIONAL (R388): The NMT command moves the port to PRE-OPERATIONAL. -/
def execNmtEnterPreOperational (t : Nat) (p : PortId) (node : Nat) (s : State) : Out :=
  canFrame t s (fun x => nmtHeard x p.val node) (fun x => nmtMove x p.val node 0x7F)

/-- NMT_RESET_NODE (R388): Reset-node restarts only that port's communication. -/
def execNmtResetNode (t : Nat) (p : PortId) (node : Nat) (s : State) : Out :=
  canFrame t s (fun x => nmtHeard x p.val node) (fun x => nmtReset x p.val node)

/-- NMT_RESET_COMMUNICATION (R388): Reset-communication restarts only that port's communication. -/
def execNmtResetCommunication (t : Nat) (p : PortId) (node : Nat) (s : State) : Out :=
  canFrame t s (fun x => nmtHeard x p.val node) (fun x => nmtReset x p.val node)

/-- CAN_HEARTBEAT (R388): The port produces a heartbeat every HeartbeatTime ms. -/
def execCanHeartbeat (t : Nat) (p : PortId) (s : State) : Out :=
  clocked t s (fun x => canBeat x p.val)

/-- CAN_BUS_OFF (R388): The port goes bus-off, recovers automatically and counts BusOffs. -/
def execCanBusOff (t : Nat) (p : PortId) (s : State) : Out :=
  clocked t s (fun x => busOff x p.val)

/-- CAN_BUS_STATE_CHANGE (R388): A CAN FD port moves between error active and error passive, updating BusState and setting CAN_STATE. -/
def execCanBusStateChange (t : Nat) (p : PortId) (passive : Bool) (s : State) : Out :=
  clocked t s (fun x => busState x p.val (boolNat passive))

/-- SDO_DOWNLOAD (R389): An SDO download writes an object, expedited or segmented. -/
def execSdoDownload (t : Nat) (p : PortId) (idx : Nat) (sub : Nat) (off : Nat) (last : Bool) (b : List Byte) (s : State) : Out :=
  canFrame t s (fun x => sdoServed x p.val) (fun x => some (sdoDownload x p.val idx sub off last b))

/-- SDO_UPLOAD (R389): An SDO upload reads an object, expedited or segmented. -/
def execSdoUpload (t : Nat) (p : PortId) (idx : Nat) (sub : Nat) (off : Nat) (max : Nat) (s : State) : Out :=
  canFrame t s (fun x => sdoServed x p.val) (fun x => some (sdoUpload x p.val idx sub off max))

/-- SDO_TIMEOUT (R389): An SDO transfer idle for SegmentTimeout is aborted. -/
def execSdoTimeout (t : Nat) (p : PortId) (s : State) : Out :=
  settled t s (fun x => sdoExpire x p.val)

/-- RPDO (R390): A received PDO checks all its entries and applies them together or none. -/
def execRpdo (t : Nat) (i : PdoId) (b : List Byte) (s : State) : Out :=
  canFrame t s (fun x => rpdoHeard x i.val) (fun x => some (rpdoReceive x i.val b))

/-- TPDO_CYCLIC (R390): A transmit PDO sends every Period ms. -/
def execTpdoCyclic (t : Nat) (i : PdoId) (s : State) : Out :=
  clocked t s (fun x => pdoCyclic x i.val)

/-- CAN_SYNC (R390): A received SYNC sends the transmit PDOs due at that count. -/
def execCanSync (t : Nat) (p : PortId) (s : State) : Out :=
  canFrame t s (fun x => syncHeard x p.val) (fun x => pdoSync x p.val)

/-- TPDO_TRIGGER (R390): A TpdoTrigger write sends a software-triggered PDO. -/
def execTpdoTrigger (src : Source) (i : PdoId) (s : State) : Out :=
  setNum src (0x1240 + i.val) 0x05 1 s

/-- COBID_WRITE (R390): A CobId write validates or invalidates a PDO and checks its mapping. -/
def execCobidWrite (src : Source) (i : PdoId) (v : Nat) (s : State) : Out :=
  setNum src (0x1240 + i.val) 0x02 v s

/-- PTP_SYNC (R393): A received Sync updates the servo and PtpState. -/
def execPtpSync (t : Nat) (p : PortId) (domain : Nat) (id : Nat) (seq : Nat) (origin : Option Nat) (s : State) : Out :=
  arrives t s (fun x => ptpSync x p.val domain id seq origin)

/-- PTP_FOLLOW_UP (R392): A received Follow_Up completes a two-step Sync. -/
def execPtpFollowUp (t : Nat) (p : PortId) (domain : Nat) (id : Nat) (seq : Nat) (origin : Nat) (s : State) : Out :=
  arrives t s (fun x => ptpFollowUp x p.val domain id seq origin)

/-- PTP_ANNOUNCE (R392): A received Announce feeds the best master clock algorithm. -/
def execPtpAnnounce (t : Nat) (p : PortId) (domain : Nat) (id : Nat) (gm : Nat) (priority1 : Nat) (quality : Nat) (priority2 : Nat) (steps : Nat) (s : State) : Out :=
  arrives t s (fun x => ptpAnnounce x p.val domain id gm priority1 quality priority2 steps)

/-- PTP_DELAY_REQ (R392): The engine sends a Delay_Req at its interval. -/
def execPtpDelayReq (t : Nat) (s : State) : Out :=
  clocked t s (fun x => ptpDelayReq x)

/-- PTP_DELAY_RESP (R392): A received Delay_Resp updates the mean path delay. -/
def execPtpDelayResp (t : Nat) (p : PortId) (domain : Nat) (id : Nat) (seq : Nat) (t4 : Nat) (s : State) : Out :=
  arrives t s (fun x => ptpDelayResp x p.val domain id seq t4)

/-- ANNOUNCE_RECEIPT_TIMEOUT (R393): No Sync within the receipt timeout moves PtpState to HOLDOVER. -/
def execAnnounceReceiptTimeout (t : Nat) (s : State) : Out :=
  clocked t s (fun x => ptpExpire x)

/-- PPS_IN_EDGE (R394): A PPS_IN rising edge is timestamped and may steer phase. -/
def execPpsInEdge (t : Nat) (s : State) : Out :=
  clocked t s (fun x => ppsIn x)

/-- PPS_OUT_SECOND (R394): PPS_OUT rises at each whole second of engine time. -/
def execPpsOutSecond (t : Nat) (s : State) : Out :=
  clocked t s (fun x => ppsOut x)

/-- PPS_OUT_WIDTH_END (R394): PPS_OUT falls after PpsOutWidth ms. -/
def execPpsOutWidthEnd (t : Nat) (s : State) : Out :=
  clocked t s (fun x => ppsFall x)

/-- ETH_LINK_CHANGE (R392): An Ethernet port's link goes up or down, updating LinkState, setting ETH_LINK and moving PTP between ports under PtpPort 2. -/
def execEthLinkChange (t : Nat) (p : PortId) (up : Bool) (s : State) : Out :=
  clocked t s (fun x => linkChange x p.val up)

end Sys2Proof.Machine
end

