-- ==== Sys2Proof/Machine/CmdPower.lean ====
section
/-! DEFINITION. Commands of supplies, power domains, power modes, clocks and resets.
Spec: 14_power_and_clocks.md R395 to R413; 17_balls_and_electrical.md R458. -/

set_option Elab.async false

namespace Sys2Proof.Machine

/-- POWER_ON (R411): VIN rising through 4.4 V resets everything and starts the engine. -/
def execPowerOn (t : Nat) (pairRole : Bool) (jtagEnable : Bool) (bootRecovery : Bool) (coreDebug : Bool) (flash : List (Nat × List Byte)) (s : State) : Out :=
  tick t s (fun x => some (powerOn x { pairRole := pairRole, jtagEnable := jtagEnable, bootRecovery := bootRecovery, coreDebug := coreDebug } (flashTable flash)))

/-- BROWN_OUT (R395): VIN falling below 4.2 V removes every rail. -/
def execBrownOut (t : Nat) (s : State) : Out :=
  tick t s (fun x => some (brownOut x))

/-- POWER_FAIL (R396): VIN below VinWarnLevel sheds load, runs the orderly shutdown and turns domains off. -/
def execPowerFail (t : Nat) (mv : Nat) (s : State) : Out :=
  tick t s (fun x => some (powerFail x mv))

/-- SUPPLY_OVERCURRENT (R397): A board supply output in current limit for 1 ms switches off. -/
def execSupplyOvercurrent (t : Nat) (o : Fin 2) (s : State) : Out :=
  tick t s (fun x => (if boardOn x o.val then some (supplyTrip x o.val) else none))

/-- BOARD_SUPPLY_MODE_WRITE (R397): A BoardSupplyMode write sets the 1.8 V output mode and restarts a tripped output. -/
def execBoardSupplyModeWrite (src : Source) (v : Nat) (s : State) : Out :=
  setNum src 0x1501 0x05 v s

/-- LPDDR_SUPPLY_ENABLE_WRITE (R398): An LpddrSupplyEnable write switches an interface's supply outputs. -/
def execLpddrSupplyEnableWrite (src : Source) (v : Nat) (s : State) : Out :=
  setNum src 0x1501 0x06 v s

/-- LPDDR_SUPPLY_FAULT (R398): An LPDDR5 output fault switches off the interface's outputs and loses its content. -/
def execLpddrSupplyFault (t : Nat) (i : LpId) (s : State) : Out :=
  tick t s (fun x => (if domOn x 41 && lpddrSupplyOn x i.val then some (lpddrSupplyTrip x i.val) else none))

/-- DOMAIN_REQUEST_ON (R401): A DomainRequest of ON starts a domain or latches a restart. -/
def execDomainRequestOn (src : Source) (d : DomainId) (s : State) : Out :=
  setNum src 0x1510 (d.val + 1) 1 s

/-- DOMAIN_REQUEST_OFF (R401): A DomainRequest of OFF begins fencing of an ON domain. -/
def execDomainRequestOff (src : Source) (d : DomainId) (s : State) : Out :=
  setNum src 0x1510 (d.val + 1) 0 s

/-- DOMAIN_REQUEST_RETAINED (R401): A DomainRequest of RETAINED takes a field domain down with its state kept. -/
def execDomainRequestRetained (src : Source) (d : DomainId) (s : State) : Out :=
  setNum src 0x1510 (d.val + 1) 2 s

/-- DOMAIN_START_COMPLETE (R401): A starting domain's rail, clocks and bring-up finish, and it enters ON or fails to OFF. -/
def execDomainStartComplete (t : Nat) (d : DomainId) (ok : Bool) (s : State) : Out :=
  clocked t s (fun x => domainStarted x d.val ok)

/-- DOMAIN_FENCE_APPLIED (R334): Every NI has applied the fence and the domain enters DRAINING. -/
def execDomainFenceApplied (t : Nat) (d : DomainId) (s : State) : Out :=
  clocked t s (fun x => domainFenced x d.val)

/-- DOMAIN_DRAIN_COMPLETE (R334): The domain's network drain condition is met and it enters STOPPING. -/
def execDomainDrainComplete (t : Nat) (d : DomainId) (s : State) : Out :=
  clocked t s (fun x => domainDrained x d.val)

/-- DOMAIN_STOP_COMPLETE (R401): Clamps and absorb mode apply and the domain reaches OFF or RETAINED, or restarts. -/
def execDomainStopComplete (t : Nat) (d : DomainId) (s : State) : Out :=
  clocked t s (fun x => domainStopped x d.val)

/-- POWER_MODE_RUN (R404, R405): A PowerMode write of 0 selects RUN; over a plant port in LINE_STOP it is wake source 4. -/
def execPowerModeRun (src : Source) (s : State) : Out :=
  setNum src 0x1500 0x01 0 (if inLineStop s && plantSource src && sourceUp s src then woken (start s) 4 else s)

/-- POWER_MODE_LINE_STOP (R404): A PowerMode write of 1 starts entry to LINE_STOP. -/
def execPowerModeLineStop (src : Source) (s : State) : Out :=
  setNum src 0x1500 0x01 1 s

/-- POWER_MODE_SLEEP (R404): A PowerMode write of 2 enters SLEEP. -/
def execPowerModeSleep (src : Source) (s : State) : Out :=
  setNum src 0x1500 0x01 2 s

/-- POWER_MODE_DEEP_SLEEP (R404): A PowerMode write of 3 enters DEEP_SLEEP. -/
def execPowerModeDeepSleep (src : Source) (s : State) : Out :=
  setNum src 0x1500 0x01 3 s

/-- LINE_STOP_CLOCK_STOP (R404): The clocks stop at the first quiet NCLK of a LINE_STOP entry. -/
def execLineStopClockStop (t : Nat) (s : State) : Out :=
  clocked t s (fun x => lineStopEnter x)

/-- LINE_STOP_ENTRY_TIMEOUT (R404): No quiet NCLK within 1 ms abandons LINE_STOP entry. -/
def execLineStopEntryTimeout (t : Nat) (s : State) : Out :=
  clocked t s (fun x => lineStopExpire x)

/-- WAKE (R405): An enabled wake source brings the engine out of a low-power mode. -/
def execWake (t : Nat) (cause : Fin 5) (s : State) : Out :=
  wakeBy t cause.val s

/-- PLL_LOCK_LOSS (R407): An ACLK or NCLK PLL loses lock and counts PllLockLosses. -/
def execPllLockLoss (t : Nat) (aclkOk : Bool) (nclkOk : Bool) (s : State) : Out :=
  clocked t s (fun x => some (pllLocks x aclkOk nclkOk))

/-- RC_TRIM (R409): The AON RC is trimmed against REFCLK every 10 ms. -/
def execRcTrim (t : Nat) (err : Int) (s : State) : Out :=
  clocked t s (fun x => rcTrim x err)

/-- LFXO_STOP (R409): The 32.768 kHz crystal stops, ClockState bit 2 reads 0 and the wake timer moves to the AON RC. -/
def execLfxoStop (t : Nat) (s : State) : Out :=
  tick t s (fun x => lfxoStop x)

/-- TEMP_SAMPLE (R413): The junction temperature is read every 1 ms and checked against its limits. -/
def execTempSample (t : Nat) (temp : Int) (s : State) : Out :=
  tick t s (fun x => tempSample x temp)

/-- FURROW_CLOCK_GATE (R410): A furrow idle for 16 ACLK stops its cells' clock. -/
def execFurrowClockGate (t : Nat) (f : FieldId) (u : Furrow) (s : State) : Out :=
  clocked t s (fun x => furrowGate x f.val u.val)

/-- ENGINE_RESET (R411): The "boot" command runs the orderly shutdown and reboots the engine. -/
def execEngineReset (src : Source) (s : State) : Out :=
  setNum src 0x1502 0x01 0x746F6F62 s

/-- PORST (R414, R458): PORST_L held low for 10 µs resets the engine; its rise is the reset release. -/
def execPorst (t : Nat) (low : Option Nat) (pairRole : Bool) (jtagEnable : Bool) (bootRecovery : Bool) (coreDebug : Bool) (s : State) : Out :=
  tick t s (fun x => some (porst x low { pairRole := pairRole, jtagEnable := jtagEnable, bootRecovery := bootRecovery, coreDebug := coreDebug }))

/-- RESET_OUT_RELEASE (R412): RESET_OUT_L rises 1 ms after SYS enters ON. -/
def execResetOutRelease (t : Nat) (s : State) : Out :=
  tick t s (fun x => resetOutRise x)

end Sys2Proof.Machine
end

