-- ==== Sys2Proof/Machine/CmdPrint.lean ====
section
/-! DEFINITION. Commands of encoders, line generators, triggers, products, bars and heads.
Spec: 05_print_path.md R118 to R158. -/

set_option Elab.async false

namespace Sys2Proof.Machine

/-- QUADRATURE_COUNT (R119): A sampled A or B level change counts the encoder position up or down. -/
def execQuadratureCount (t : Nat) (e : EncId) (a : Bool) (b : Bool) (s : State) : Out :=
  arrives t s (fun x => quadrature x e.val a b)

/-- ENCODER_INDEX (R122): A rising level on ENCe_Z copies the position into IndexPosition. -/
def execEncoderIndex (t : Nat) (e : EncId) (z : Bool) (s : State) : Out :=
  ballEdge t s (e.val + 1) 0 z (fun x => zSampled x e.val z)

/-- ENCODER_ENABLE (R123): Enable 1 starts an encoder. -/
def execEncoderEnable (src : Source) (e : EncId) (s : State) : Out :=
  setNum src (ex e.val) 0x01 1 s

/-- ENCODER_DISABLE (R123): Enable 0 stops an encoder. -/
def execEncoderDisable (src : Source) (e : EncId) (s : State) : Out :=
  setNum src (ex e.val) 0x01 0 s

/-- ENCODER_START_COMPLETE (R123): An encoder leaves STARTING after 16 ACLK. -/
def execEncoderStartComplete (t : Nat) (e : EncId) (s : State) : Out :=
  clocked t s (fun x => encStarted x e.val)

/-- ENCODER_STOP_COMPLETE (R123): An encoder leaves STOPPING after 4 ACLK. -/
def execEncoderStopComplete (t : Nat) (e : EncId) (s : State) : Out :=
  clocked t s (fun x => encStopped x e.val)

/-- POSITION_PRESET (R123): A PositionPreset write sets Position and HighWater of an OFF encoder and moves its generators' next lines. -/
def execPositionPreset (src : Source) (e : EncId) (v : Nat) (s : State) : Out :=
  setNum src (ex e.val) 0x07 v s

/-- HANDOFF_TO_AON (R124): When ACLK stops with SYS retained, each ON encoder's position is copied to its AON counter. -/
def execHandoffToAon (t : Nat) (e : EncId) (s : State) : Out :=
  tick t s (fun x => handoffToAon x e.val)

/-- AON_COUNT (R124): An encoder edge is counted by the AON counter on the 8 MHz RC clock. -/
def execAonCount (t : Nat) (e : EncId) (a : Bool) (b : Bool) (s : State) : Out :=
  tick t s (fun x => aonQuadrature x e.val a b)

/-- HANDOFF_FROM_AON (R124): On wake, the ACLK counter takes the AON value and counts on. -/
def execHandoffFromAon (t : Nat) (e : EncId) (s : State) : Out :=
  tick t s (fun x => handoffFromAon x e.val)

/-- LINE_GEN_ENABLE (R128): Enabling a line generator sets its first line above HighWater. -/
def execLineGenEnable (src : Source) (g : GenId) (s : State) : Out :=
  setNum src (gx g.val) 0x01 1 s

/-- LINE_GEN_DISABLE (R128): Disabling a line generator, refused while a user of it is not OFF. -/
def execLineGenDisable (src : Source) (g : GenId) (s : State) : Out :=
  setNum src (gx g.val) 0x01 0 s

/-- TRIGGER_EDGE (R129): An accepted trigger edge creates a product record, or is ignored under lockout. -/
def execTriggerEdge (t : Nat) (k : TrigId) (rising : Bool) (s : State) : Out :=
  ballEdge t s 0 k.val rising (fun x => trigSampled x k.val rising)

/-- TRIGGER_ENABLE (R134): Enable 1 on a trigger is checked and claims its input ball. -/
def execTriggerEnable (src : Source) (k : TrigId) (s : State) : Out :=
  setNum src (tx k.val) 0x01 1 s

/-- TRIGGER_DISABLE (R134): Enable 0 disables a trigger at once and releases its claim. -/
def execTriggerDisable (src : Source) (k : TrigId) (s : State) : Out :=
  setNum src (tx k.val) 0x01 0 s

/-- PRODUCT_RETIRE (R133): A record retires when the encoder reaches retire_pos, and its serial is ledgered. -/
def execProductRetire (t : Nat) (id : Nat) (s : State) : Out :=
  clocked t s (fun x => productRetire x id)

/-- MAP_EDIT (R143): A MapEdit write changes one nozzle-map entry through the map manager. -/
def execMapEdit (src : Source) (b : BarId) (v : Nat) (s : State) : Out :=
  setNum src (bx b.val 4) 0x07 v s

/-- MAP_IMAGE_WRITE (R143): A MapImage write replaces every entry through the map manager. -/
def execMapImageWrite (src : Source) (b : BarId) (bytes : List Byte) (s : State) : Out :=
  setBytes src (bx b.val 4) 0x08 bytes s

/-- ACTIVE_COPY_SWITCH (R143): The strobe of SwitchLine changes ActiveCopy and sets MAP_SWITCH. -/
def execActiveCopySwitch (t : Nat) (b : BarId) (s : State) : Out :=
  clocked t s (fun x => mapSwitch x b.val)

/-- FORMATTER_WORD (R146): A fire formatter takes a word of its queue into the hold buffer. -/
def execFormatterWord (t : Nat) (b : BarId) (s : State) : Out :=
  clocked t s (fun x => formatterWord x b.val)

/-- FIRE_FRAME_LAUNCH (R149): A held line's fire frame enters the head-lane transmitter. -/
def execFireFrameLaunch (t : Nat) (b : BarId) (s : State) : Out :=
  clocked t s (fun x => fireLaunch x b.val)

/-- BAR_ENABLE (R150): Enable 1 on a bar is checked and the bar enters STARTING. -/
def execBarEnable (src : Source) (b : BarId) (s : State) : Out :=
  setNum src (bx b.val 0) 0x01 1 s

/-- BAR_DISABLE (R151): Enable 0 stops a bar and drops its windows. -/
def execBarDisable (src : Source) (b : BarId) (s : State) : Out :=
  setNum src (bx b.val 0) 0x01 0 s

/-- BAR_START_COMPLETE (R151): A starting bar enters ON once its head lane is in DATA. -/
def execBarStartComplete (t : Nat) (b : BarId) (s : State) : Out :=
  clocked t s (fun x => barStarted x b.val)

/-- BAR_STOP_COMPLETE (R151): A stopping bar reaches OFF, or restarts, once its frame in progress is sent. -/
def execBarStopComplete (t : Nat) (b : BarId) (s : State) : Out :=
  clocked t s (fun x => barStopped x b.val)

/-- MGMT_REQUEST (R155): A MgmtRequest write sends one MGMT frame to a head or bridge. -/
def execMgmtRequest (src : Source) (unit : Fin 30) (bytes : List Byte) (s : State) : Out :=
  setBytes src (mgmtIndex unit.val) (if unit.val < 24 then 0x01 else 0x11) bytes s

/-- MGMT_REPLY (R155): A MGMT_REPLY with the pending seq makes MgmtState REPLIED. -/
def execMgmtReply (t : Nat) (unit : Fin 30) (hdr : Nat) (p : List Byte) (crcOk : Bool) (s : State) : Out :=
  arrives t s (fun x => (if unit.val < 24 then headFrame x unit.val hdr p crcOk else bridgeFrame x (unit.val - 24) false hdr p crcOk))

/-- MGMT_TIMEOUT (R155): No reply within MgmtTimeout makes MgmtState TIMEOUT. -/
def execMgmtTimeout (t : Nat) (unit : Fin 30) (s : State) : Out :=
  clocked t s (fun x => mgmtExpire x (mgmtIndex unit.val) (if unit.val < 24 then 0x01 else 0x11))

/-- HEAD_STATUS (R157): A received HEAD_STATUS frame updates the bar's head objects. -/
def execHeadStatus (t : Nat) (b : BarId) (hdr : Nat) (p : List Byte) (crcOk : Bool) (s : State) : Out :=
  arrives t s (fun x => headFrame x b.val hdr p crcOk)

/-- NOZZLE_REPORT (R157): A received NOZZLE_REPORT frame goes to the map manager. -/
def execNozzleReport (t : Nat) (b : BarId) (hdr : Nat) (p : List Byte) (crcOk : Bool) (s : State) : Out :=
  arrives t s (fun x => headFrame x b.val hdr p crcOk)

/-- HEAD_SILENT (R158): 5 ms without a valid HEAD_STATUS counts HeadSilent. -/
def execHeadSilent (t : Nat) (b : BarId) (s : State) : Out :=
  clocked t s (fun x => headSilence x b.val)

end Sys2Proof.Machine
end

