-- ==== Sys2Proof/Machine/CmdQueue.lean ====
section
/-! DEFINITION. Commands of the stream queues.
Spec: 04_stream_queues.md R93 to R117. -/

set_option Elab.async false

namespace Sys2Proof.Machine

/-- QUEUE_ITEM_WRITE (R100): An ITEM store writes one item with end mark 0 into an input queue. -/
def execQueueItemWrite (t : Nat) (q : QueueId) (n : CoreId) (v : Nat) (s : State) : Out :=
  port t s (fun x => portStore x q.val n.val 0x000 (qItemBytes x q.val) v)

/-- QUEUE_ITEM_END_WRITE (R100): An ITEM_END store writes one item with end mark 1, closing a packet. -/
def execQueueItemEndWrite (t : Nat) (q : QueueId) (n : CoreId) (v : Nat) (s : State) : Out :=
  port t s (fun x => portStore x q.val n.val 0x004 (qItemBytes x q.val) v)

/-- QUEUE_POP (R100): A POP load moves the head word into the latch and returns its tag. -/
def execQueuePop (t : Nat) (q : QueueId) (n : CoreId) (s : State) : Out :=
  portLoadOf t s (fun x => portLoad x q.val n.val 0x010 4)

/-- QUEUE_PEEK (R100): A PEEK load returns the head word's tag without removing it. -/
def execQueuePeek (t : Nat) (q : QueueId) (n : CoreId) (s : State) : Out :=
  portLoadOf t s (fun x => portLoad x q.val n.val 0x014 4)

/-- EDGE_PORT_INPUT_TOKEN (R97): An input edge port delivers the next token of its queue's head word to the array. -/
def execEdgePortInputToken (t : Nat) (q : QueueId) (s : State) : Out :=
  clocked t s (fun x => (edgeInput x q.val).map (fun y => intakeResume y q.val))

/-- EDGE_PORT_OUTPUT_TOKEN (R98): An output edge port writes an accepted token as one item of its queue. -/
def execEdgePortOutputToken (t : Nat) (p : Fin 32) (s : State) : Out :=
  clocked t s (fun x => edgeOutput x p.val)

/-- DMA_INPUT_RECORD (R104): An input DMA reads a ring record and writes its items into the queue. -/
def execDmaInputRecord (t : Nat) (q : QueueId) (s : State) : Out :=
  clocked t s (fun x => dmaInput x q.val)

/-- DMA_OUTPUT_RECORD (R104): An output DMA writes a packet as a ring record and advances DmaEngineIndex. -/
def execDmaOutputRecord (t : Nat) (q : QueueId) (s : State) : Out :=
  clocked t s (fun x => dmaOutput x q.val)

/-- DMA_HOST_INDEX_WRITE (R105): A DmaHostIndex write moves software's offset and retries a stopped record. -/
def execDmaHostIndexWrite (src : Source) (q : QueueId) (v : Nat) (s : State) : Out :=
  setNum src (qc q.val) 0x0B v s

/-- SPILL_WRITE (R108): A queue word is written from the tail into the spill region. -/
def execSpillWrite (t : Nat) (q : QueueId) (s : State) : Out :=
  clocked t s (fun x => spillWrite x q.val)

/-- SPILL_READ (R108): A queue word is read from the spill region into the head stage. -/
def execSpillRead (t : Nat) (q : QueueId) (s : State) : Out :=
  clocked t s (fun x => spillRead x q.val)

/-- QUEUE_FLUSH (R109): Writing 1 to Flush empties the queue and starts four NCLK of dropping. -/
def execQueueFlush (src : Source) (q : QueueId) (s : State) : Out :=
  setNum src (qc q.val) 0x07 1 s

/-- QUEUE_FLUSH_APPLY (R112): Writing 2 to Flush flushes and applies the staged spill region at NCLK f + 3. -/
def execQueueFlushApply (src : Source) (q : QueueId) (s : State) : Out :=
  setNum src (qc q.val) 0x07 2 s

/-- FLUSH_COMPLETE (R109): A flush completes at the start of NCLK f + 4 and the write side accepts again. -/
def execFlushComplete (t : Nat) (q : QueueId) (s : State) : Out :=
  clocked t s (fun x => (flushComplete x q.val).map (fun y => intakeResume y q.val))

/-- SPILL_REGION_WRITE (R111): A SpillBase or SpillLength write is checked and applied at once or staged. -/
def execSpillRegionWrite (src : Source) (q : QueueId) (length : Bool) (v : Nat) (s : State) : Out :=
  setNum src (qc q.val) (if length then 0x06 else 0x05) v s

/-- STAGED_REGION_APPLY (R112): A staged spill region is applied in the first NCLK in which the queue is empty. -/
def execStagedRegionApply (t : Nat) (q : QueueId) (s : State) : Out :=
  clocked t s (fun x => (stagedApply x q.val).map (fun y => intakeResume y q.val))

/-- QUEUE_ENABLE (R114): Enable 1 on a queue is checked and the queue enters STARTING with its claim. -/
def execQueueEnable (src : Source) (q : QueueId) (s : State) : Out :=
  setNum src (qc q.val) 0x01 1 s

/-- QUEUE_DISABLE (R115): Enable 0 on a queue stops it or latches the stop. -/
def execQueueDisable (src : Source) (q : QueueId) (s : State) : Out :=
  setNum src (qc q.val) 0x01 0 s

/-- QUEUE_START_COMPLETE (R115): A queue leaves STARTING 8 NCLK after entry. -/
def execQueueStartComplete (t : Nat) (q : QueueId) (s : State) : Out :=
  clocked t s (fun x => queueStarted x q.val)

/-- QUEUE_STOP_COMPLETE (R115): A queue leaves STOPPING for OFF or a restart once its spill accesses are done. -/
def execQueueStopComplete (t : Nat) (q : QueueId) (s : State) : Out :=
  clocked t s (fun x => queueStopped x q.val)

end Sys2Proof.Machine
end

