-- ==== Sys2Proof/Machine/CmdSched.lean ====
section
/-! DEFINITION. Commands of events, tasks and timers.
Spec: 10_events_and_scheduler.md R285 to R307. -/

set_option Elab.async false

namespace Sys2Proof.Machine

/-- EVENT_GRANT (R288): The concentrator grants a pending event, counts it and performs its route. -/
def execEventGrant (t : Nat) (s : State) : Out :=
  clocked t s (fun x => eventGrant x)

/-- CORE_EVENT_POP (R291): A core's CoreEventPop read removes and returns its oldest inbox entry. -/
def execCoreEventPop (src : Source) (n : CoreId) (s : State) : Out :=
  readObj src 0x1602 (n.val + 1) s

/-- EVENT_RAISE_WRITE (R293): An EventRaise write raises a software event 284–319. -/
def execEventRaiseWrite (src : Source) (v : Nat) (s : State) : Out :=
  setNum src 0x1601 0x00 v s

/-- COALESCED_MAP_CLEAR (R285): Writing 0 bits to CoalescedMap clears them. -/
def execCoalescedMapClear (src : Source) (bytes : List Byte) (s : State) : Out :=
  setBytes src 0x1618 0x02 bytes s

/-- TASK_SETUP (R295): A TaskSetup write sets a task's priority, affinity and flags. -/
def execTaskSetup (src : Source) (v : Nat) (s : State) : Out :=
  setNum src 0x1605 0x00 v s

/-- TASK_CREATE (R296): CREATE makes a FREE task BLOCKED. -/
def execTaskCreate (src : Source) (task : Nat) (s : State) : Out :=
  setNum src 0x1606 0x00 (task % 512 + 1 * 2 ^ 24) s

/-- TASK_POST (R297): POST wakes a task or adds to its pending posts. -/
def execTaskPost (src : Source) (task : Nat) (s : State) : Out :=
  setNum src 0x1606 0x00 (task % 512 + 2 * 2 ^ 24) s

/-- TASK_SUSPEND (R296): SUSPEND removes a task from every list. -/
def execTaskSuspend (src : Source) (task : Nat) (s : State) : Out :=
  setNum src 0x1606 0x00 (task % 512 + 3 * 2 ^ 24) s

/-- TASK_RESUME (R296): RESUME makes a SUSPENDED task BLOCKED or READY. -/
def execTaskResume (src : Source) (task : Nat) (s : State) : Out :=
  setNum src 0x1606 0x00 (task % 512 + 4 * 2 ^ 24) s

/-- TASK_DELETE (R296): DELETE frees a BLOCKED or SUSPENDED task. -/
def execTaskDelete (src : Source) (task : Nat) (s : State) : Out :=
  setNum src 0x1606 0x00 (task % 512 + 5 * 2 ^ 24) s

/-- TASK_OFFER (R298): The scheduler places an offer of a ready task to a core, perhaps displacing another. -/
def execTaskOffer (t : Nat) (s : State) : Out :=
  clocked t s (fun x => taskOffer x)

/-- CORE_ACCEPT (R300): ACCEPT makes the offered task RUNNING and preempts the previous one. -/
def execCoreAccept (src : Source) (n : CoreId) (task : Nat) (s : State) : Out :=
  setNum src 0x1603 (n.val + 1) (1 + task % 512 * 128) s

/-- CORE_DONE (R300): DONE ends the running task's activation. -/
def execCoreDone (src : Source) (n : CoreId) (s : State) : Out :=
  setNum src 0x1603 (n.val + 1) 2 s

/-- CORE_YIELD (R300): YIELD puts the running task at the tail of its ready list. -/
def execCoreYield (src : Source) (n : CoreId) (s : State) : Out :=
  setNum src 0x1603 (n.val + 1) 3 s

/-- CORE_DELAY (R302): DELAY puts the running task on a time or encoder delay list. -/
def execCoreDelay (src : Source) (n : CoreId) (list : Fin 8) (arg : Nat) (s : State) : Out :=
  setNum src 0x1603 (n.val + 1) (4 + list.val * 16 + arg * 65536) s

/-- CORE_ATTACH (R298): ATTACH makes a core eligible for dispatch. -/
def execCoreAttach (src : Source) (n : CoreId) (s : State) : Out :=
  setNum src 0x1603 (n.val + 1) 5 s

/-- CORE_DETACH (R305): DETACH withdraws offers to a core and lets its task finish. -/
def execCoreDetach (src : Source) (n : CoreId) (s : State) : Out :=
  setNum src 0x1603 (n.val + 1) 6 s

/-- DISPATCH_TIMEOUT (R301): An offer not accepted within DispatchTimeout is withdrawn. -/
def execDispatchTimeout (t : Nat) (n : CoreId) (s : State) : Out :=
  clocked t s (fun x => dispatchTimeout x n.val)

/-- DELAY_DUE (R302): A delayed task falls due and becomes READY. -/
def execDelayDue (t : Nat) (list : Fin 5) (s : State) : Out :=
  clocked t s (fun x => delayDue x list.val)

/-- TICK (R303): TickCount advances every TickPeriod µs. -/
def execTick (t : Nat) (s : State) : Out :=
  tick t s (fun x => tickStep x)

/-- INTERVAL_TIMER_DUE (R304): An interval timer reaches NextDue, raises its event and advances. -/
def execIntervalTimerDue (t : Nat) (i : TimerId) (s : State) : Out :=
  clocked t s (fun x => timerDue x i.val)

/-- TIMER_ENABLE (R304): Enabling an interval timer sets NextDue. -/
def execTimerEnable (src : Source) (i : TimerId) (s : State) : Out :=
  setNum src (0x1620 + i.val) 0x01 1 s

/-- TIMER_DISABLE (R304): Disabling an interval timer stops its events. -/
def execTimerDisable (src : Source) (i : TimerId) (s : State) : Out :=
  setNum src (0x1620 + i.val) 0x01 0 s

/-- SCHED_CORES_WRITE (R305): A SchedCores write makes cores eligible or acts as DETACH for offers. -/
def execSchedCoresWrite (src : Source) (v : Nat) (s : State) : Out :=
  setNum src 0x1600 0x01 v s

/-- TRACE_MODE_WRITE (R307): A TraceMode write empties the trace and sets its recording mode. -/
def execTraceModeWrite (src : Source) (v : Nat) (s : State) : Out :=
  setNum src 0x1607 0x01 v s

end Sys2Proof.Machine
end

