-- ==== Sys2Proof/Machine/CmdSerial.lean ====
section
/-! DEFINITION. Commands of serials, the journal, the ledger and its checkpoints.
Spec: 07_serials_and_ledger.md R195 to R216. -/

set_option Elab.async false

namespace Sys2Proof.Machine

/-- SERIAL_VALUE_COMPUTED (R200): The serial unit finishes a permutation walk and places the next serial value into the allotment's 8-value buffer. -/
def execSerialValueComputed (t : Nat) (a : AllotId) (s : State) : Out :=
  settled t s (fun x => valueComputed x a.val)

/-- ALLOTMENT_GRANT (R196): An AllotmentGrant write is checked and journalled. -/
def execAllotmentGrant (src : Source) (bytes : List Byte) (s : State) : Out :=
  setBytes src 0x4001 0x00 bytes s

/-- RESET_GRANT (R209): A RESET grant is checked and clears a JOURNAL_LOST serial unit. -/
def execResetGrant (src : Source) (bytes : List Byte) (s : State) : Out :=
  setBytes src 0x4001 0x00 bytes s

/-- JOURNAL_WRITE_COMPLETE (R205): A journal bank write ends with its read-back, making pending grants and marks take effect. -/
def execJournalWriteComplete (t : Nat) (ok : Bool) (s : State) : Out :=
  settled t s (fun x => journalEnd x ok)

/-- SERIAL_TEXT_READ (R203): A SerialText read returns the text of a COMMITTED serial, otherwise STATE. -/
def execSerialTextRead (src : Source) (s : State) : Out :=
  readObj src 0x4004 0x03 s

/-- ALLOTMENT_RETIRE (R197): A Retire write retires an ACTIVE or EXHAUSTED allotment. -/
def execAllotmentRetire (src : Source) (a : AllotId) (s : State) : Out :=
  setNum src (0x4020 + 2 * a.val) 0x01 1 s

/-- SERIAL_RECOVERY (R207): Once the pair role is settled, the serial unit recovers from the newest valid journal bank. -/
def execSerialRecovery (t : Nat) (s : State) : Out :=
  settled t s (fun x => serialRecover x)

/-- LEDGER_RECORD_WRITE (R213): A ledger record is written to the ring when it has room, and the chain head advances. -/
def execLedgerRecordWrite (t : Nat) (s : State) : Out :=
  settled t s (fun x => ledgerWrite x)

/-- CHECKPOINT_START (R214): A checkpoint starts at 4,096 uncovered records or after 1 s, and the security unit signs it. -/
def execCheckpointStart (t : Nat) (s : State) : Out :=
  settled t s (fun x => checkpointStart x)

/-- CHECKPOINT_PUBLISH (R214): After its journal write, a signed checkpoint is written to the checkpoint ring and sent to the partner. -/
def execCheckpointPublish (t : Nat) (s : State) : Out :=
  settled t s (fun x => checkpointPublish x)

/-- LEDGER_RING_WRITE (R213): An accepted write of a ledger or checkpoint ring base or size empties that ring. -/
def execLedgerRingWrite (src : Source) (checkpoint : Bool) (size : Bool) (v : Nat) (s : State) : Out :=
  setNum src (if checkpoint then 0x4009 else 0x4008) (if size then 0x02 else 0x01) v s

end Sys2Proof.Machine
end

