-- ==== Sys2Proof/Machine/Wire.lean ====
section
/-! DEFINITION. What stands on the wire: the blocks of a frame, the scrambler, the blocks a receiver accepts, the bits of a PRBS test; the balls by coordinate, and their states. No command computes these: the state holds frames, not blocks.
Spec: 00_scope.md R4; 05_print_path.md R152; 12_serial_lanes.md R341, R342, R345, R348, R360, R361; 17_balls_and_electrical.md R445, R448, R452. -/

set_option Elab.async false

namespace Sys2Proof.Machine

/-- A block: its sync header (1 data, 2 control) and its 64 payload bits (R341). -/
structure Block where
  sync : Nat
  payload : Nat
  deriving DecidableEq, Repr

/-- The types of the terminate blocks with 0 to 7 data octets (R342). -/
def terminateTypes : List Nat := [0x87, 0x99, 0xAA, 0xB4, 0xCC, 0xD2, 0xE1, 0xFF]

/-- A control block of a type, with the octets after it (R342). -/
def controlBlock (ty : Nat) (octets : List Byte) : Block := { sync := 2, payload := ty + 256 * leNat octets }

/-- The start block (R152). -/
def startBlock : Block := controlBlock 0x78 [0x55, 0x55, 0x55, 0x55, 0x55, 0x55, 0xD1]

/-- Eight /I/ (R342). -/
def idleBlock : Block := controlBlock 0x1E []

/-- Eight /E/: 7-bit characters 0x1E (R342, R343). -/
def errorBlock : Block := { sync := 2, payload := (List.range 8).foldl (fun v k => v + 0x1E <<< (8 + 7 * k)) 0x1E }

/-- The lane status set (R345). -/
def statusBlock (rxReady : Bool) : Block := controlBlock 0x4B [0x47, BitVec.ofNat 8 (boolNat rxReady), 0x00]

/-- Data blocks, and the terminate block with the octets left over; `n` is at least the number of data blocks (R152). -/
def bodyBlocks : Nat → List Byte → List Block
  | 0, b => [controlBlock (terminateTypes.getD b.length 0x87) b]
  | n + 1, b => if b.length < 8 then [controlBlock (terminateTypes.getD b.length 0x87) b] else { sync := 1, payload := leNat (b.take 8) } :: bodyBlocks n (b.drop 8)

/-- The blocks of a frame (R152). -/
def frameOnWire (hdr : Nat) (payload : List Byte) : List Block := startBlock :: bodyBlocks ((payload.length + 12) / 8) (frameBytes hdr payload)

/-- What a received block is; none is an errored block (R341, R342, R345). -/
inductive BlockKind
  | idle | error | status (rxReady : Bool) | start | data (v : Nat) | terminate (octets : Nat)
  deriving DecidableEq, Repr

/-- A 0x1E block holds idle and error characters only (R342); one that is not all idle is an error block. -/
def blockKind (b : Block) : Option BlockKind :=
  if b.sync == 1 then some (.data b.payload)
  else if b.sync != 2 then none
  else
    let ty := b.payload % 256
    let ctl := (List.range 8).map (fun k => bitsOf b.payload (8 + 7 * k) 7)
    if ty == 0x1E then
      if ctl.all (fun c => c == 0) then some .idle else if ctl.all (fun c => c == 0 || c == 0x1E) then some .error else none
    else if ty == 0x78 then some .start
    else if ty == 0x4B then
      if b == statusBlock true then some (.status true) else if b == statusBlock false then some (.status false) else none
    else (terminateTypes.findIdx? (fun t => t == ty)).map .terminate

/-- The payload bits of a block, the first on the wire first (R4). -/
def blockBits (b : Block) : List Bool := (List.range 64).map (bitOf b.payload)

/-- The scrambler 1 + x^39 + x^58: `st` holds the last 58 bits sent, the latest first (R341). -/
def scramble (st : List Bool) : List Bool → List Bool
  | [] => []
  | b :: r =>
    let o := xor b (xor (st.getD 38 false) (st.getD 57 false))
    o :: scramble (o :: st.take 57) r

/-- The descrambler: `st` holds the last 58 bits received (R341). -/
def descramble (st : List Bool) : List Bool → List Bool
  | [] => []
  | b :: r => xor b (xor (st.getD 38 false) (st.getD 57 false)) :: descramble (b :: st.take 57) r

/-- The last 58 scrambled bits, the latest first, once more have gone by (R341). -/
def scramblerAfter (st bits : List Bool) : List Bool := (bits.reverse ++ st).take 58

/-- A block on the wire: the sync header, which is not scrambled, bit 0 first, then the scrambled payload; and the scrambler after it (R4, R341). -/
def blockWire (st : List Bool) (b : Block) : List Bool × List Bool :=
  let p := scramble st (blockBits b)
  ([bitOf b.sync 0, bitOf b.sync 1] ++ p, scramblerAfter st p)

/-- The number whose bits these are, bit 0 first. -/
def bitsNat : List Bool → Nat
  | [] => 0
  | b :: r => boolNat b + 2 * bitsNat r

/-- A block taken from 66 bits of the wire; none where the sync header is invalid (R341, R344). -/
def blockOfWire (st bits : List Bool) : Option Block × List Bool :=
  let h := bitsNat (bits.take 2)
  let p := (bits.drop 2).take 64
  (if h == 1 || h == 2 then some { sync := h, payload := bitsNat (descramble st p) } else none, scramblerAfter st p)

/-- Blocks on the wire one after another. -/
def blocksWire : List Bool → List Block → List Bool
  | _, [] => []
  | st, b :: r => let w := blockWire st b; w.1 ++ blocksWire w.2 r

/-! The PRBS test (R360, R361). -/

/-- `k` further bits of a PRBS generator: `st` holds the bits before them, the latest first, and each bit is the sum of two of them. -/
def prbsNext (taps : Nat × Nat) (st : List Bool) : Nat → List Bool
  | 0 => []
  | k + 1 =>
    let b := xor (st.getD (taps.1 - 1) false) (st.getD (taps.2 - 1) false)
    b :: prbsNext taps (b :: st) k

/-- PRBS15 and above are inverted, and PrbsInvert reverses that. -/
def prbsInverted (s : State) (n code : Nat) : Bool := xor (decide (3 ≤ code)) (rd s (lx n 3) 0x03 == 1)

/-- The bits that a lane in TEST transmits from its entry on, from the generator's state then, or with pattern 0 the scrambler's: the pattern, or scrambled idle blocks, with the bits of PrbsInject inverted. -/
def testBits (s : State) (n : Nat) (st : List Bool) (k : Nat) : List Bool :=
  let code := rd s (lx n 3) 0x01
  let raw := if code == 0 then (blocksWire st (List.replicate (k / 66 + 1) idleBlock)).take k else (prbsNext (prbsTaps code) st k).map (xor (prbsInverted s n code))
  raw.zipIdx.map (fun e => xor e.1 ((laneOf s n).injects.contains e.2))

/-- The bit that the checker predicts from those received before it, the latest first. -/
def prbsPredicts (s : State) (n : Nat) (received : List Bool) : Bool :=
  let code := rd s (lx n 3) 0x02
  let inv := prbsInverted s n code
  xor inv (((prbsNext (prbsTaps code) (received.map (xor inv)) 1).head?).getD false)

/-! Balls. -/

/-- The designator of a row of the grid, rows from 1 (R445). -/
def rowDesignator (row : Nat) : String :=
  (["A", "B", "C", "D", "E", "F", "G", "H", "J", "K", "L", "M", "N", "P", "T", "U", "V", "W", "Y"]
    ++ ["AA", "AB", "AC", "AD", "AE", "AF", "AG", "AH", "AJ", "AK", "AL", "AM", "AN", "AP", "AT", "AU", "AV"]).getD (lessBy row 1) ""

/-- The four balls of a lane. -/
inductive LaneLeg
  | txP | txN | rxP | rxN
  deriving DecidableEq, Repr

/-- How far a leg's ball lies from the first of the four. -/
def legStep (l : LaneLeg) : Nat :=
  match l with
  | .txP => 0
  | .txN => 1
  | .rxP => 3
  | .rxN => 4

/-- Row and column of a ball of lane n: 0 to 23 are head lanes, 24 to 35 image lanes, 36 to 39 pair lanes (R448). -/
def laneBall (n : Nat) (l : LaneLeg) : Nat × Nat :=
  if n < 12 then (3 * n + 2, 2 + legStep l)
  else if n < 24 then (3 * lessBy n 12 + 2, lessBy 47 (legStep l))
  else if n < 36 then (2 + legStep l, 14 + 2 * lessBy n 24)
  else (lessBy 35 (legStep l), 14 + 2 * lessBy n 36)

/-- Row and column of REFCLK_OUTj_P or REFCLK_OUTj_N (R448). -/
def refclkOutBall (j : Nat) (neg : Bool) : Nat × Nat := (32, 24 + 2 * j + boolNat neg)

/-- Row and column of REFCLK_IN_P, at AU24, or REFCLK_IN_N, at AU25 (R448). -/
def refclkInBall (neg : Bool) : Nat × Nat := (35, 24 + boolNat neg)

/-- A coordinate as R444 writes it. -/
def ballName (p : Nat × Nat) : String := rowDesignator p.1 ++ toString p.2

/-- The coordinate of a ball of a lane, as R444 writes it. -/
def laneBallName (n : Nat) (l : LaneLeg) : String := ballName (laneBall n l)

/-- The balls that R452 names. -/
inductive BallGroup
  | laneTx | refclkOut | reject | canTx | ppsOut | gpio | encoder | trigger | wake | porst | aliveIn | roleIn | aliveOut | roleOut | resetOut
  | xspiCs | xspiClk | xspiReset | tdo
  deriving DecidableEq, Repr

/-- What a ball does: `pulledDown` is high impedance with a 50 kΩ pull-down, `recessive` the same of CAN TX, held recessive, and `sampledPulledDown` an AON input with a 50 kΩ pull-down. -/
inductive BallState
  | commonMode | pulledDown | recessive | sampledPulledDown | level (high : Bool) | highImpedance
  deriving DecidableEq, Repr

/-- The state of a ball while SYS is not ON; none while it is (R452). -/
def ballWhileOff (s : State) (g : BallGroup) : Option BallState :=
  if domOn s 41 then none
  else
    match g with
    | .laneTx => some .commonMode
    | .refclkOut => some .commonMode
    | .reject => some .pulledDown
    | .canTx => some .recessive
    | .ppsOut => some .pulledDown
    | .gpio => some .pulledDown
    | .encoder => some .sampledPulledDown
    | .trigger => some .sampledPulledDown
    | .wake => some .sampledPulledDown
    | .porst => some .sampledPulledDown
    | .aliveIn => some .sampledPulledDown
    | .roleIn => some .sampledPulledDown
    | .aliveOut => some (.level (aliveLevel s))
    | .roleOut => some (.level (roleLevel s))
    | .resetOut => some (.level false)
    | .xspiCs => some (.level true)
    | .xspiClk => some (.level false)
    | .xspiReset => some (.level false)
    | .tdo => some .highImpedance

/-- REFCLK_OUTj repeats REFCLK_IN (R348). -/
def refclkOutDrives (s : State) (j : Nat) : Bool := domOn s 41 && bitOf (rd s 0x48A0 0x05) j

end Sys2Proof.Machine
end

