-- ==== Sys2Proof/Machine/Tap.lean ====
section
/-! DEFINITION. The test access port: its instructions, each with one scan of the register that it selects (IEEE 1149.1), the balls of the boundary-scan register, and what a debugger reads of a core.
Spec: 09_peg_cores.md R263; 17_balls_and_electrical.md R451, R452, R454, R460; 14_power_and_clocks.md R411. -/

set_option Elab.async false

namespace Sys2Proof.Machine

def setTap (s : State) (x : TapState) : State := { s with tap := x }

/-- The port operates: the engine is powered and JTAG_ENABLE was sampled 1 (R451). -/
def tapOn (s : State) : Bool := s.power.vinUp && s.straps.jtagEnable

/-- Bits shifted out on TDO, one in each byte, first bit first; while SYS is not ON TDO is high impedance, and none is seen (R452). -/
def tdo (s : State) (l : List Bool) : State := if domOn s 41 then reply s (some .ok) 0 (l.map (fun b => BitVec.ofNat 8 (boolNat b))) else s

/-! The balls of the boundary-scan register (R454, R460). -/

/-- The balls of the 3.3 V and the 1.8 V groups. -/
inductive IoBall
  | encoder (e : Fin 4) (i : Fin 3) | trigger (t : Fin 24) | reject (j : Fin 12) | aliveOut | aliveIn | roleOut | roleIn | ppsIn | ppsOut | strap (i : Fin 4)
  | porst | resetOut | wake | canTx (p : Fin 2) | canRx (p : Fin 2) | mdc | mdio | gpio (i : Fin 96)
  | xspiClk | xspiCs | xspiDqs | xspiDq (i : Fin 8) | xspiReset | jtag (i : Fin 5)
  deriving DecidableEq, Repr

/-- The number of a ball among the 180. -/
def ioNumber (b : IoBall) : Nat :=
  match b with
  | .encoder e i => 3 * e.val + i.val
  | .trigger t => 12 + t.val
  | .reject j => 36 + j.val
  | .aliveOut => 48 | .aliveIn => 49 | .roleOut => 50 | .roleIn => 51 | .ppsIn => 52 | .ppsOut => 53
  | .strap i => 54 + i.val
  | .porst => 58 | .resetOut => 59 | .wake => 60
  | .canTx p => 61 + p.val
  | .canRx p => 63 + p.val
  | .mdc => 65 | .mdio => 66
  | .gpio i => 67 + i.val
  | .xspiClk => 163 | .xspiCs => 164 | .xspiDqs => 165
  | .xspiDq i => 166 + i.val
  | .xspiReset => 174
  | .jtag i => 175 + i.val

/-- The cells of the boundary-scan register: one for each ball of the two groups. -/
def boundaryCells : Nat := 180

/-- The cell of a ball; its place is the BSDL description's, which the spec does not print (notes/assumptions/166.md). -/
def boundaryPlace (b : IoBall) : Nat := Config.boundaryCell (ioNumber b) % boundaryCells

/-- The level that the engine drives on a ball as its functions have it, where it drives one. -/
def ioDrives (s : State) (b : IoBall) : Option Bool :=
  match b with
  | .reject j => if domOn s 41 then some (rejectLevel s j.val) else none
  | .aliveOut => some (aliveLevel s)
  | .roleOut => some (roleLevel s)
  | .ppsOut => if domOn s 41 then some (ppsLevel s) else none
  | .resetOut => some (resetOutLevel s)
  | _ => none

/-- The level on a ball: under EXTEST that of its cell, else that of its function (R460). -/
def ioLevel (s : State) (b : IoBall) : Option Bool :=
  if tapOn s && s.tap.instr == .extest then s.tap.boundary[boundaryPlace b]? else ioDrives s b

/-- Test-logic reset: IDCODE is selected, and nothing is driven. -/
def tapReset (s : State) : State := setTap s {}

/-- BYPASS: one bit, captured as 0, lies between TDI and TDO. -/
def tapBypass (s : State) (tdi : List Bool) : Option State :=
  if tapOn s then some (tdo (setTap s { s.tap with instr := .bypass }) ((false :: tdi).take tdi.length)) else none

/-- The boundary-scan register captures the levels of the balls and is shifted by as many places as bits come in: what leaves on TDO, and what stands in it then. -/
def boundaryShift (balls scan : List Bool) : List Bool × List Bool :=
  let l := (balls ++ List.replicate boundaryCells false).take boundaryCells ++ scan
  (l.take scan.length, l.drop scan.length)

/-- One scan of the boundary-scan register. -/
def tapScan (s : State) (i : TapInstr) (balls scan : List Bool) : State :=
  let r := boundaryShift balls scan
  tdo (setTap s { instr := i, boundary := r.2, captured := (balls ++ List.replicate boundaryCells false).take boundaryCells }) r.1

/-- SAMPLE/PRELOAD: the balls go on as the engine drives them. -/
def tapSample (s : State) (balls scan : List Bool) : Option State := if tapOn s then some (tapScan s .samplePreload balls scan) else none

/-- EXTEST: the balls are driven from the register. -/
def tapExtest (s : State) (balls scan : List Bool) : Option State := if tapOn s then some (tapScan s .extest balls scan) else none

/-- IDCODE: 0x1648_0A71. -/
def tapIdcode (s : State) : Option State :=
  if !tapOn s then none
  else
    let x := setTap s { s.tap with instr := .idcode }
    some (if domOn s 41 then reply x (some .ok) 0x16480A71 (leBytes 4 0x16480A71) else x)

/-! Core debug access (R263, R451, R460). -/

/-- Debug access to the cores through the TAP is allowed: CORE_DEBUG was sampled 1. -/
def debugAllowed (s : State) : Bool := tapOn s && s.straps.coreDebug && domOn s 41

/-- What a debugger reads of core n's hart, by the register numbers of the RISC-V External Debug Support specification 0.13.2 (notes/assumptions/166.md): CSRs, with dpc for the pc, then x and f registers; none where access is refused or the register does not exist. In DOUBLE_FAULT the windowed registers read 0 (R263). -/
def debugRead (s : State) (n reg : Nat) : Option Nat :=
  let c := coreOf s n
  if !debugAllowed s || coreState s n == 0 then none
  else if reg == 0x7B1 then some c.pc
  else if reg < 0x1000 then readCsr s n reg
  else if reg < 0x1020 then some (xr c (reg - 0x1000))
  else if reg < 0x1040 then some (fr c (reg - 0x1020))
  else none

end Sys2Proof.Machine
end

