-- ==== Sys2Proof/Machine/CmdTap.lean ====
section
/-! DEFINITION. Commands of the test access port.
Spec: 17_balls_and_electrical.md R460; 14_power_and_clocks.md R411. -/

set_option Elab.async false

namespace Sys2Proof.Machine

/-- JTAG_TEST_LOGIC_RESET (R411): A JTAG test-logic reset resets the TAP and debug logic. -/
def execJtagTestLogicReset (t : Nat) (s : State) : Out :=
  tick t s (fun x => some (tapReset x))

/-- TAP_BYPASS (R460): The TAP BYPASS instruction. -/
def execTapBypass (t : Nat) (tdi : List Bool) (s : State) : Out :=
  tick t s (fun x => tapBypass x tdi)

/-- TAP_SAMPLE_PRELOAD (R460): The TAP SAMPLE/PRELOAD instruction. -/
def execTapSamplePreload (t : Nat) (balls : List Bool) (scan : List Bool) (s : State) : Out :=
  tick t s (fun x => tapSample x balls scan)

/-- TAP_EXTEST (R460): The TAP EXTEST instruction drives the boundary-scan register. -/
def execTapExtest (t : Nat) (balls : List Bool) (scan : List Bool) (s : State) : Out :=
  tick t s (fun x => tapExtest x balls scan)

/-- TAP_IDCODE (R460): The TAP IDCODE instruction reads 0x1648_0A71. -/
def execTapIdcode (t : Nat) (s : State) : Out :=
  tick t s (fun x => tapIdcode x)

end Sys2Proof.Machine
end

