-- ==== Sys2Proof/Machine/CmdTuning.lean ====
section
/-! DEFINITION. Commands of tuning loads, retunes, the capo and field control.
Spec: 03_fields_and_tunings.md R73 to R85; 15_boot_and_security.md R441. -/

set_option Elab.async false

namespace Sys2Proof.Machine

/-- TUNING_LOAD_GO (R73): A TuningLoad Go write starts copying an image into the staging region. -/
def execTuningLoadGo (src : Source) (s : State) : Out :=
  setNum src 0x2603 0x05 1 s

/-- TUNING_LOAD_COPY_DONE (R74): The copy into staging ends; the loader checks the image and starts writing the slots. -/
def execTuningLoadCopyDone (t : Nat) (s : State) : Out :=
  clocked t s (fun x => tuningCopyDone x)

/-- TUNING_LOAD_COMPLETE (R75): The slot writes end; the second digest is compared and the slots become READY or EMPTY. -/
def execTuningLoadComplete (t : Nat) (s : State) : Out :=
  clocked t s (fun x => tuningComplete x)

/-- RETUNE_GO (R77): A retune request is checked and armed on CUE or started on NOW. -/
def execRetuneGo (src : Source) (f : FieldId) (s : State) : Out :=
  setNum src (0x2005 + 0x40 * f.val) 0x07 1 s

/-- GROUP_RETUNE_GO (R77): A group retune is armed or started in every field of the mask in the same ACLK. -/
def execGroupRetuneGo (src : Source) (s : State) : Out :=
  setNum src 0x2602 0x08 1 s

/-- RETUNE_CUE_TOKEN (R77): The cue port admits a matching end-marked token and the armed retune starts. -/
def execRetuneCueToken (t : Nat) (f : FieldId) (s : State) : Out :=
  clocked t s (fun x => retuneCue x f.val)

/-- DRAIN_SWITCH (R80): A draining field is found empty, discards peeked and read-stream tokens and switches slot. -/
def execDrainSwitch (t : Nat) (f : FieldId) (s : State) : Out :=
  clocked t s (fun x => drainSwitch x f.val)

/-- RETUNE_LIMIT_EXPIRY (R82): A running retune reaches RetuneLimit and ends TIMEOUT or FORCED. -/
def execRetuneLimitExpiry (t : Nat) (f : FieldId) (s : State) : Out :=
  clocked t s (fun x => retuneExpire x f.val)

/-- RETUNE_CANCEL (R82): A Cancel write withdraws an armed retune. -/
def execRetuneCancel (src : Source) (f : FieldId) (s : State) : Out :=
  setNum src (0x2005 + 0x40 * f.val) 0x08 1 s

/-- CAPO_HOLD (R84): Writing 1 to CapoHold requests an array-wide freeze. -/
def execCapoHold (src : Source) (s : State) : Out :=
  setNum src 0x2601 0x01 1 s

/-- CAPO_RELEASE (R84): Writing 0 to CapoHold requests release of every field. -/
def execCapoRelease (src : Source) (s : State) : Out :=
  setNum src 0x2601 0x01 0 s

/-- CAPO_BOUNDARY (R84): The freeze or release applies to all fields at one ACLK boundary. -/
def execCapoBoundary (t : Nat) (s : State) : Out :=
  clocked t s (fun x => capoBoundary x)

/-- FIELD_HALT (R85): Writing 0 to FieldRun freezes one field at the next ACLK. -/
def execFieldHalt (src : Source) (f : FieldId) (s : State) : Out :=
  setNum src (0x2001 + 0x40 * f.val) 0x00 0 s

/-- FIELD_RUN (R85): Writing 1 to FieldRun resumes a field whose domain is ON and which has an ACTIVE slot. -/
def execFieldRun (src : Source) (f : FieldId) (s : State) : Out :=
  setNum src (0x2001 + 0x40 * f.val) 0x00 1 s

/-- FIELD_CLEAR (R85): FieldClear discards every token of a halted field and resets its stream state. -/
def execFieldClear (src : Source) (f : FieldId) (s : State) : Out :=
  setNum src (0x2002 + 0x40 * f.val) 0x00 1 s

/-- ACTIVATE_SLOT (R441): ActivateSlot makes a READY slot ACTIVE in a halted field with no active slot. -/
def execActivateSlot (src : Source) (f : FieldId) (slot : Nat) (s : State) : Out :=
  setNum src 0x1702 (f.val + 1) slot s

end Sys2Proof.Machine
end

