-- ==== Sys2Proof/Machine/CmdVerify.lean ====
section
/-! DEFINITION. Commands of reject gates, cameras, verdicts and the archive.
Spec: 06_verification_path.md R164 to R194. -/

set_option Elab.async false

namespace Sys2Proof.Machine

/-- REJECT_DECISION (R165): The gate's encoder reaches an entry's position and the gate decides whether to fire. -/
def execRejectDecision (t : Nat) (j : GateId) (s : State) : Out :=
  clocked t s (fun x => gateDecide x j.val)

/-- REJECT_PULSE_END (R166): A reject pulse ends at its width, position or PulseTimeout. -/
def execRejectPulseEnd (t : Nat) (j : GateId) (s : State) : Out :=
  clocked t s (fun x => gatePulseEnd x j.val)

/-- GATE_ENABLE (R167): Enable 1 enables a reject gate. -/
def execGateEnable (src : Source) (j : GateId) (s : State) : Out :=
  setNum src (gc j.val) 0x01 1 s

/-- GATE_DISABLE (R167): Enable 0 discards the gate's list and drives REJj inactive. -/
def execGateDisable (src : Source) (j : GateId) (s : State) : Out :=
  setNum src (gc j.val) 0x01 0 s

/-- POLARITY_WRITE (R167): A Polarity write to a disabled gate moves REJj to the new inactive level. -/
def execPolarityWrite (src : Source) (j : GateId) (v : Nat) (s : State) : Out :=
  setNum src (gc j.val) 0x06 v s

/-- FORCE_REJECT (R165): A ForceReject write sets force_reject in a live product's record. -/
def execForceReject (src : Source) (id : Nat) (s : State) : Out :=
  setNum src 0x3201 0x03 id s

/-- IMAGE_LINE (R175): A received IMAGE_LINE is checked and held in the intake reorder buffer. -/
def execImageLine (t : Nat) (k : CamId) (odd : Bool) (hdr : Nat) (p : List Byte) (crcOk : Bool) (s : State) : Out :=
  arrives t s (fun x => bridgeFrame x k.val odd hdr p crcOk)

/-- LINE_LOST_TIMEOUT (R175): LostTimeout after the strobe of NextLine without its frame marks the line lost. -/
def execLineLostTimeout (t : Nat) (k : CamId) (s : State) : Out :=
  clocked t s (fun x => lineLost x k.val)

/-- BRIDGE_STATUS (R174): A received BRIDGE_STATUS frame updates BridgeFlags. -/
def execBridgeStatus (t : Nat) (k : CamId) (hdr : Nat) (p : List Byte) (crcOk : Bool) (s : State) : Out :=
  arrives t s (fun x => bridgeFrame x k.val false hdr p crcOk)

/-- BRIDGE_SILENT (R174): 5 ms with no valid BRIDGE_STATUS counts BridgeSilent. -/
def execBridgeSilent (t : Nat) (k : CamId) (s : State) : Out :=
  clocked t s (fun x => bridgeSilence x k.val)

/-- CAMERA_ENABLE (R178): Enable 1 on a camera is checked and the camera enters STARTING. -/
def execCameraEnable (src : Source) (k : CamId) (s : State) : Out :=
  setNum src (cc k.val) 0x01 1 s

/-- CAMERA_DISABLE (R179): Enable 0 stops a camera and ends its WAITING regions. -/
def execCameraDisable (src : Source) (k : CamId) (s : State) : Out :=
  setNum src (cc k.val) 0x01 0 s

/-- CAMERA_START_COMPLETE (R179): A starting camera enters ON once IL(2k) is in DATA, and sets NextLine. -/
def execCameraStartComplete (t : Nat) (k : CamId) (s : State) : Out :=
  clocked t s (fun x => camStarted x k.val)

/-- CAMERA_STOP_COMPLETE (R179): A stopping camera reaches OFF or restarts. -/
def execCameraStopComplete (t : Nat) (k : CamId) (s : State) : Out :=
  clocked t s (fun x => camStopped x k.val)

/-- VERDICT_POST (R186): A VerdictPost write stores a verdict for an IMAGED or MISSED product. -/
def execVerdictPost (src : Source) (v : Nat) (s : State) : Out :=
  setNum src 0x3801 0x01 v s

/-- HEALTH_POST (R192): A HealthPost write asks the map manager to mark a nozzle FAILED. -/
def execHealthPost (src : Source) (v : Nat) (s : State) : Out :=
  setNum src 0x3802 0x1D v s

/-- ARCHIVE_RECORD (R194): The archive unit copies a region's lines from history into the archive ring. -/
def execArchiveRecord (t : Nat) (s : State) : Out :=
  clocked t s (fun x => archiveRecord x)

end Sys2Proof.Machine
end

