-- ==== Sys2Proof/Machine/Dispatch.lean ====
section
/-! DEFINITION. The meaning of every command: one arm for each constructor of `Instr`, each a direct call of its meaning. -/

namespace Sys2Proof.Machine

def exec (i : Instr) (s : State) : Host.Outcome State Fault Refusal :=
  match i with
  | .objectWrite src idx sub v => Sys2Proof.Machine.execObjectWrite src idx sub v s
  | .troubleCounterClear src idx sub v => Sys2Proof.Machine.execTroubleCounterClear src idx sub v s
  | .eventCauseClear src idx sub v => Sys2Proof.Machine.execEventCauseClear src idx sub v s
  | .u64LowWordRead n idx sub => Sys2Proof.Machine.execU64LowWordRead n idx sub s
  | .u64HighWordWrite n idx sub v => Sys2Proof.Machine.execU64HighWordWrite n idx sub v s
  | .u64LowWordWrite n idx sub v => Sys2Proof.Machine.execU64LowWordWrite n idx sub v s
  | .domainTransferRead n => Sys2Proof.Machine.execDomainTransferRead n s
  | .domainTransferWrite n => Sys2Proof.Machine.execDomainTransferWrite n s
  | .domainTransferComplete t n => Sys2Proof.Machine.execDomainTransferComplete t n s
  | .cellFire t f c => Sys2Proof.Machine.execCellFire t f c s
  | .operationComplete t f c k => Sys2Proof.Machine.execOperationComplete t f c k s
  | .resultDelivery t f c => Sys2Proof.Machine.execResultDelivery t f c s
  | .configRegisterWrite t f c slot k v => Sys2Proof.Machine.execConfigRegisterWrite t f c slot k v s
  | .lutEntryWrite t f j v => Sys2Proof.Machine.execLutEntryWrite t f j v s
  | .capoStateWrite t f j v => Sys2Proof.Machine.execCapoStateWrite t f j v s
  | .rowBypassWrite src r v => Sys2Proof.Machine.execRowBypassWrite src r v s
  | .bypassStageTransfer t f u west => Sys2Proof.Machine.execBypassStageTransfer t f u west s
  | .drillReadItem t f d => Sys2Proof.Machine.execDrillReadItem t f d s
  | .drillWriteAccept t f d => Sys2Proof.Machine.execDrillWriteAccept t f d s
  | .drillWriteStore t f d => Sys2Proof.Machine.execDrillWriteStore t f d s
  | .fieldMemoryNetworkAccess t f off size write v => Sys2Proof.Machine.execFieldMemoryNetworkAccess t f off size write v s
  | .tuningLoadGo src => Sys2Proof.Machine.execTuningLoadGo src s
  | .tuningLoadCopyDone t => Sys2Proof.Machine.execTuningLoadCopyDone t s
  | .tuningLoadComplete t => Sys2Proof.Machine.execTuningLoadComplete t s
  | .retuneGo src f => Sys2Proof.Machine.execRetuneGo src f s
  | .groupRetuneGo src => Sys2Proof.Machine.execGroupRetuneGo src s
  | .retuneCueToken t f => Sys2Proof.Machine.execRetuneCueToken t f s
  | .drainSwitch t f => Sys2Proof.Machine.execDrainSwitch t f s
  | .retuneLimitExpiry t f => Sys2Proof.Machine.execRetuneLimitExpiry t f s
  | .retuneCancel src f => Sys2Proof.Machine.execRetuneCancel src f s
  | .capoHold src => Sys2Proof.Machine.execCapoHold src s
  | .capoRelease src => Sys2Proof.Machine.execCapoRelease src s
  | .capoBoundary t => Sys2Proof.Machine.execCapoBoundary t s
  | .fieldHalt src f => Sys2Proof.Machine.execFieldHalt src f s
  | .fieldRun src f => Sys2Proof.Machine.execFieldRun src f s
  | .fieldClear src f => Sys2Proof.Machine.execFieldClear src f s
  | .activateSlot src f slot => Sys2Proof.Machine.execActivateSlot src f slot s
  | .queueItemWrite t q n v => Sys2Proof.Machine.execQueueItemWrite t q n v s
  | .queueItemEndWrite t q n v => Sys2Proof.Machine.execQueueItemEndWrite t q n v s
  | .queuePop t q n => Sys2Proof.Machine.execQueuePop t q n s
  | .queuePeek t q n => Sys2Proof.Machine.execQueuePeek t q n s
  | .edgePortInputToken t q => Sys2Proof.Machine.execEdgePortInputToken t q s
  | .edgePortOutputToken t p => Sys2Proof.Machine.execEdgePortOutputToken t p s
  | .dmaInputRecord t q => Sys2Proof.Machine.execDmaInputRecord t q s
  | .dmaOutputRecord t q => Sys2Proof.Machine.execDmaOutputRecord t q s
  | .dmaHostIndexWrite src q v => Sys2Proof.Machine.execDmaHostIndexWrite src q v s
  | .spillWrite t q => Sys2Proof.Machine.execSpillWrite t q s
  | .spillRead t q => Sys2Proof.Machine.execSpillRead t q s
  | .queueFlush src q => Sys2Proof.Machine.execQueueFlush src q s
  | .queueFlushApply src q => Sys2Proof.Machine.execQueueFlushApply src q s
  | .flushComplete t q => Sys2Proof.Machine.execFlushComplete t q s
  | .spillRegionWrite src q length v => Sys2Proof.Machine.execSpillRegionWrite src q length v s
  | .stagedRegionApply t q => Sys2Proof.Machine.execStagedRegionApply t q s
  | .queueEnable src q => Sys2Proof.Machine.execQueueEnable src q s
  | .queueDisable src q => Sys2Proof.Machine.execQueueDisable src q s
  | .queueStartComplete t q => Sys2Proof.Machine.execQueueStartComplete t q s
  | .queueStopComplete t q => Sys2Proof.Machine.execQueueStopComplete t q s
  | .quadratureCount t e a b => Sys2Proof.Machine.execQuadratureCount t e a b s
  | .encoderIndex t e z => Sys2Proof.Machine.execEncoderIndex t e z s
  | .encoderEnable src e => Sys2Proof.Machine.execEncoderEnable src e s
  | .encoderDisable src e => Sys2Proof.Machine.execEncoderDisable src e s
  | .encoderStartComplete t e => Sys2Proof.Machine.execEncoderStartComplete t e s
  | .encoderStopComplete t e => Sys2Proof.Machine.execEncoderStopComplete t e s
  | .positionPreset src e v => Sys2Proof.Machine.execPositionPreset src e v s
  | .handoffToAon t e => Sys2Proof.Machine.execHandoffToAon t e s
  | .aonCount t e a b => Sys2Proof.Machine.execAonCount t e a b s
  | .handoffFromAon t e => Sys2Proof.Machine.execHandoffFromAon t e s
  | .lineGenEnable src g => Sys2Proof.Machine.execLineGenEnable src g s
  | .lineGenDisable src g => Sys2Proof.Machine.execLineGenDisable src g s
  | .triggerEdge t k rising => Sys2Proof.Machine.execTriggerEdge t k rising s
  | .triggerEnable src k => Sys2Proof.Machine.execTriggerEnable src k s
  | .triggerDisable src k => Sys2Proof.Machine.execTriggerDisable src k s
  | .productRetire t id => Sys2Proof.Machine.execProductRetire t id s
  | .mapEdit src b v => Sys2Proof.Machine.execMapEdit src b v s
  | .mapImageWrite src b bytes => Sys2Proof.Machine.execMapImageWrite src b bytes s
  | .activeCopySwitch t b => Sys2Proof.Machine.execActiveCopySwitch t b s
  | .formatterWord t b => Sys2Proof.Machine.execFormatterWord t b s
  | .fireFrameLaunch t b => Sys2Proof.Machine.execFireFrameLaunch t b s
  | .barEnable src b => Sys2Proof.Machine.execBarEnable src b s
  | .barDisable src b => Sys2Proof.Machine.execBarDisable src b s
  | .barStartComplete t b => Sys2Proof.Machine.execBarStartComplete t b s
  | .barStopComplete t b => Sys2Proof.Machine.execBarStopComplete t b s
  | .mgmtRequest src unit bytes => Sys2Proof.Machine.execMgmtRequest src unit bytes s
  | .mgmtReply t unit hdr p crcOk => Sys2Proof.Machine.execMgmtReply t unit hdr p crcOk s
  | .mgmtTimeout t unit => Sys2Proof.Machine.execMgmtTimeout t unit s
  | .headStatus t b hdr p crcOk => Sys2Proof.Machine.execHeadStatus t b hdr p crcOk s
  | .nozzleReport t b hdr p crcOk => Sys2Proof.Machine.execNozzleReport t b hdr p crcOk s
  | .headSilent t b => Sys2Proof.Machine.execHeadSilent t b s
  | .rejectDecision t j => Sys2Proof.Machine.execRejectDecision t j s
  | .rejectPulseEnd t j => Sys2Proof.Machine.execRejectPulseEnd t j s
  | .gateEnable src j => Sys2Proof.Machine.execGateEnable src j s
  | .gateDisable src j => Sys2Proof.Machine.execGateDisable src j s
  | .polarityWrite src j v => Sys2Proof.Machine.execPolarityWrite src j v s
  | .forceReject src id => Sys2Proof.Machine.execForceReject src id s
  | .imageLine t k odd hdr p crcOk => Sys2Proof.Machine.execImageLine t k odd hdr p crcOk s
  | .lineLostTimeout t k => Sys2Proof.Machine.execLineLostTimeout t k s
  | .bridgeStatus t k hdr p crcOk => Sys2Proof.Machine.execBridgeStatus t k hdr p crcOk s
  | .bridgeSilent t k => Sys2Proof.Machine.execBridgeSilent t k s
  | .cameraEnable src k => Sys2Proof.Machine.execCameraEnable src k s
  | .cameraDisable src k => Sys2Proof.Machine.execCameraDisable src k s
  | .cameraStartComplete t k => Sys2Proof.Machine.execCameraStartComplete t k s
  | .cameraStopComplete t k => Sys2Proof.Machine.execCameraStopComplete t k s
  | .verdictPost src v => Sys2Proof.Machine.execVerdictPost src v s
  | .healthPost src v => Sys2Proof.Machine.execHealthPost src v s
  | .archiveRecord t => Sys2Proof.Machine.execArchiveRecord t s
  | .allotmentGrant src bytes => Sys2Proof.Machine.execAllotmentGrant src bytes s
  | .resetGrant src bytes => Sys2Proof.Machine.execResetGrant src bytes s
  | .journalWriteComplete t ok => Sys2Proof.Machine.execJournalWriteComplete t ok s
  | .serialTextRead src => Sys2Proof.Machine.execSerialTextRead src s
  | .allotmentRetire src a => Sys2Proof.Machine.execAllotmentRetire src a s
  | .serialRecovery t => Sys2Proof.Machine.execSerialRecovery t s
  | .ledgerRecordWrite t => Sys2Proof.Machine.execLedgerRecordWrite t s
  | .checkpointStart t => Sys2Proof.Machine.execCheckpointStart t s
  | .checkpointPublish t => Sys2Proof.Machine.execCheckpointPublish t s
  | .ledgerRingWrite src checkpoint size v => Sys2Proof.Machine.execLedgerRingWrite src checkpoint size v s
  | .pairEnable src => Sys2Proof.Machine.execPairEnable src s
  | .pairDisable src => Sys2Proof.Machine.execPairDisable src s
  | .hello t x role p ok => Sys2Proof.Machine.execHello t x role p ok s
  | .helloSend t => Sys2Proof.Machine.execHelloSend t s
  | .heartbeat t x role p ok => Sys2Proof.Machine.execHeartbeat t x role p ok s
  | .heartbeatSend t x => Sys2Proof.Machine.execHeartbeatSend t x s
  | .arbitrationTimeout t => Sys2Proof.Machine.execArbitrationTimeout t s
  | .firmwareKick src => Sys2Proof.Machine.execFirmwareKick src s
  | .watchdogExpiry t agentStopped => Sys2Proof.Machine.execWatchdogExpiry t agentStopped s
  | .sidebandLowTimeout t alive role => Sys2Proof.Machine.execSidebandLowTimeout t alive role s
  | .linkLost t => Sys2Proof.Machine.execLinkLost t s
  | .linkLost200us t => Sys2Proof.Machine.execLinkLost200us t s
  | .orderedAnswerTimeout t => Sys2Proof.Machine.execOrderedAnswerTimeout t s
  | .mirrorWrite t x seq role p ok => Sys2Proof.Machine.execMirrorWrite t x seq role p ok s
  | .ack t x seq role p ok => Sys2Proof.Machine.execAck t x seq role p ok s
  | .nak t x seq role p ok => Sys2Proof.Machine.execNak t x seq role p ok s
  | .commit t x seq role p ok => Sys2Proof.Machine.execCommit t x seq role p ok s
  | .reserve t x seq role p ok => Sys2Proof.Machine.execReserve t x seq role p ok s
  | .mapSwitch t x seq role p ok => Sys2Proof.Machine.execMapSwitch t x seq role p ok s
  | .checkpointState t x seq role p ok => Sys2Proof.Machine.execCheckpointState t x seq role p ok s
  | .digest t x seq role p ok => Sys2Proof.Machine.execDigest t x seq role p ok s
  | .orphan t x seq role p ok => Sys2Proof.Machine.execOrphan t x seq role p ok s
  | .positionMark t x seq role p ok => Sys2Proof.Machine.execPositionMark t x seq role p ok s
  | .encoderIdleAlign t e pos => Sys2Proof.Machine.execEncoderIdleAlign t e pos s
  | .resyncRequest src => Sys2Proof.Machine.execResyncRequest src s
  | .resyncCut t rewritten => Sys2Proof.Machine.execResyncCut t rewritten s
  | .resyncHoldLimit t => Sys2Proof.Machine.execResyncHoldLimit t s
  | .cut t x seq role p ok => Sys2Proof.Machine.execCut t x seq role p ok s
  | .snapshot t x role p ok => Sys2Proof.Machine.execSnapshot t x role p ok s
  | .snapshotEnd t x seq role p ok => Sys2Proof.Machine.execSnapshotEnd t x seq role p ok s
  | .catchUpComplete t => Sys2Proof.Machine.execCatchUpComplete t s
  | .resyncDone t x seq role p ok => Sys2Proof.Machine.execResyncDone t x seq role p ok s
  | .resyncTimeout t => Sys2Proof.Machine.execResyncTimeout t s
  | .baseInstruction t n => Sys2Proof.Machine.execBaseInstruction t n s
  | .callw t n => Sys2Proof.Machine.execCallw t n s
  | .callwr t n => Sys2Proof.Machine.execCallwr t n s
  | .retw t n => Sys2Proof.Machine.execRetw t n s
  | .smm t n regs => Sys2Proof.Machine.execSmm t n regs s
  | .smmO t n regs => Sys2Proof.Machine.execSmmO t n regs s
  | .lmm t n regs => Sys2Proof.Machine.execLmm t n regs s
  | .lmmO t n regs => Sys2Proof.Machine.execLmmO t n regs s
  | .spillw t n => Sys2Proof.Machine.execSpillw t n s
  | .fillw t n => Sys2Proof.Machine.execFillw t n s
  | .rep t n => Sys2Proof.Machine.execRep t n s
  | .repr t n => Sys2Proof.Machine.execRepr t n s
  | .loop t n => Sys2Proof.Machine.execLoop t n s
  | .fmac t n => Sys2Proof.Machine.execFmac t n s
  | .fmsc t n => Sys2Proof.Machine.execFmsc t n s
  | .fmula t n => Sys2Proof.Machine.execFmula t n s
  | .fmacf t n => Sys2Proof.Machine.execFmacf t n s
  | .fmscf t n => Sys2Proof.Machine.execFmscf t n s
  | .xld t n => Sys2Proof.Machine.execXld t n s
  | .yld t n => Sys2Proof.Machine.execYld t n s
  | .xst t n => Sys2Proof.Machine.execXst t n s
  | .yst t n => Sys2Proof.Machine.execYst t n s
  | .fmvaf t n => Sys2Proof.Machine.execFmvaf t n s
  | .fmvfa t n => Sys2Proof.Machine.execFmvfa t n s
  | .accz t n => Sys2Proof.Machine.execAccz t n s
  | .accsum t n => Sys2Proof.Machine.execAccsum t n s
  | .accumulatorWrite t n => Sys2Proof.Machine.execAccumulatorWrite t n s
  | .mret t n => Sys2Proof.Machine.execMret t n s
  | .interrupt t n => Sys2Proof.Machine.execInterrupt t n s
  | .coreRun src n => Sys2Proof.Machine.execCoreRun src n s
  | .coreHalt src n => Sys2Proof.Machine.execCoreHalt src n s
  | .coreHalted t n => Sys2Proof.Machine.execCoreHalted t n s
  | .coreReset src n => Sys2Proof.Machine.execCoreReset src n s
  | .eventGrant t => Sys2Proof.Machine.execEventGrant t s
  | .coreEventPop src n => Sys2Proof.Machine.execCoreEventPop src n s
  | .eventRaiseWrite src v => Sys2Proof.Machine.execEventRaiseWrite src v s
  | .coalescedMapClear src bytes => Sys2Proof.Machine.execCoalescedMapClear src bytes s
  | .taskSetup src v => Sys2Proof.Machine.execTaskSetup src v s
  | .taskCreate src task => Sys2Proof.Machine.execTaskCreate src task s
  | .taskPost src task => Sys2Proof.Machine.execTaskPost src task s
  | .taskSuspend src task => Sys2Proof.Machine.execTaskSuspend src task s
  | .taskResume src task => Sys2Proof.Machine.execTaskResume src task s
  | .taskDelete src task => Sys2Proof.Machine.execTaskDelete src task s
  | .taskOffer t => Sys2Proof.Machine.execTaskOffer t s
  | .coreAccept src n task => Sys2Proof.Machine.execCoreAccept src n task s
  | .coreDone src n => Sys2Proof.Machine.execCoreDone src n s
  | .coreYield src n => Sys2Proof.Machine.execCoreYield src n s
  | .coreDelay src n list arg => Sys2Proof.Machine.execCoreDelay src n list arg s
  | .coreAttach src n => Sys2Proof.Machine.execCoreAttach src n s
  | .coreDetach src n => Sys2Proof.Machine.execCoreDetach src n s
  | .dispatchTimeout t n => Sys2Proof.Machine.execDispatchTimeout t n s
  | .delayDue t list => Sys2Proof.Machine.execDelayDue t list s
  | .tick t => Sys2Proof.Machine.execTick t s
  | .intervalTimerDue t x => Sys2Proof.Machine.execIntervalTimerDue t x s
  | .timerEnable src x => Sys2Proof.Machine.execTimerEnable src x s
  | .timerDisable src x => Sys2Proof.Machine.execTimerDisable src x s
  | .schedCoresWrite src v => Sys2Proof.Machine.execSchedCoresWrite src v s
  | .traceModeWrite src v => Sys2Proof.Machine.execTraceModeWrite src v s
  | .bankAccessGrant t b => Sys2Proof.Machine.execBankAccessGrant t b s
  | .harrowBorrow t faults => Sys2Proof.Machine.execHarrowBorrow t faults s
  | .harrowRestoreComplete t => Sys2Proof.Machine.execHarrowRestoreComplete t s
  | .lpddrInitDone t x => Sys2Proof.Machine.execLpddrInitDone t x s
  | .lpddrTrainingDone t x failStep => Sys2Proof.Machine.execLpddrTrainingDone t x failStep s
  | .lpddrMr4Read t x code => Sys2Proof.Machine.execLpddrMr4Read t x code s
  | .lpddrZqLatch t x => Sys2Proof.Machine.execLpddrZqLatch t x s
  | .lpddrWck2dqTracking t x => Sys2Proof.Machine.execLpddrWck2dqTracking t x s
  | .lpddrRefresh t x => Sys2Proof.Machine.execLpddrRefresh t x s
  | .lpddrWriteRefused t history => Sys2Proof.Machine.execLpddrWriteRefused t history s
  | .networkRequest t ni addr size write v => Sys2Proof.Machine.execNetworkRequest t ni addr size write v s
  | .networkResponse t ni tag => Sys2Proof.Machine.execNetworkResponse t ni tag s
  | .requestTimeout t ni tag => Sys2Proof.Machine.execRequestTimeout t ni tag s
  | .portStallTimeout t ni tag => Sys2Proof.Machine.execPortStallTimeout t ni tag s
  | .routeSwapGo src => Sys2Proof.Machine.execRouteSwapGo src s
  | .niTableSwap t ni => Sys2Proof.Machine.execNiTableSwap t ni s
  | .routerReconfigGo src => Sys2Proof.Machine.execRouterReconfigGo src s
  | .routerReconfigApply t => Sys2Proof.Machine.execRouterReconfigApply t s
  | .laneEnableData src n => Sys2Proof.Machine.execLaneEnableData src n s
  | .laneEnableTest src n => Sys2Proof.Machine.execLaneEnableTest src n s
  | .laneDisable src n => Sys2Proof.Machine.execLaneDisable src n s
  | .lanePllLock t n => Sys2Proof.Machine.execLanePllLock t n s
  | .laneDataEntry t n => Sys2Proof.Machine.execLaneDataEntry t n s
  | .laneLinkDrop t n inFrame => Sys2Proof.Machine.execLaneLinkDrop t n inFrame s
  | .laneStatusSet t n ready => Sys2Proof.Machine.execLaneStatusSet t n ready s
  | .laneStatusSend t n ready => Sys2Proof.Machine.execLaneStatusSend t n ready s
  | .laneStatusSilence t n => Sys2Proof.Machine.execLaneStatusSilence t n s
  | .acquireTimeout t n => Sys2Proof.Machine.execAcquireTimeout t n s
  | .laneRetrain src n => Sys2Proof.Machine.execLaneRetrain src n s
  | .laneStopComplete t n => Sys2Proof.Machine.execLaneStopComplete t n s
  | .refclkLost t => Sys2Proof.Machine.execRefclkLost t s
  | .dfeAdapt t n sums => Sys2Proof.Machine.execDfeAdapt t n sums s
  | .prbsLock t n => Sys2Proof.Machine.execPrbsLock t n s
  | .prbsInject src n => Sys2Proof.Machine.execPrbsInject src n s
  | .prbsCounterClear src n => Sys2Proof.Machine.execPrbsCounterClear src n s
  | .opralDatagram t p ip udp b => Sys2Proof.Machine.execOpralDatagram t p ip udp b s
  | .opralRead t p ip udp node seq idx sub ty => Sys2Proof.Machine.execOpralRead t p ip udp node seq idx sub ty s
  | .opralWrite t p ip udp node seq idx sub v => Sys2Proof.Machine.execOpralWrite t p ip udp node seq idx sub v s
  | .opralSegRead t p ip udp node seq idx sub off len => Sys2Proof.Machine.execOpralSegRead t p ip udp node seq idx sub off len s
  | .opralSegWrite t p ip udp node seq idx sub ty off last b => Sys2Proof.Machine.execOpralSegWrite t p ip udp node seq idx sub ty off last b s
  | .segmentTimeout t => Sys2Proof.Machine.execSegmentTimeout t s
  | .arpRequest t p mac ip target => Sys2Proof.Machine.execArpRequest t p mac ip target s
  | .icmpEcho t p ip target rest => Sys2Proof.Machine.execIcmpEcho t p ip target rest s
  | .canPortEnable src p => Sys2Proof.Machine.execCanPortEnable src p s
  | .nmtStart t p node => Sys2Proof.Machine.execNmtStart t p node s
  | .nmtStop t p node => Sys2Proof.Machine.execNmtStop t p node s
  | .nmtEnterPreOperational t p node => Sys2Proof.Machine.execNmtEnterPreOperational t p node s
  | .nmtResetNode t p node => Sys2Proof.Machine.execNmtResetNode t p node s
  | .nmtResetCommunication t p node => Sys2Proof.Machine.execNmtResetCommunication t p node s
  | .canHeartbeat t p => Sys2Proof.Machine.execCanHeartbeat t p s
  | .canBusOff t p => Sys2Proof.Machine.execCanBusOff t p s
  | .sdoDownload t p idx sub off last b => Sys2Proof.Machine.execSdoDownload t p idx sub off last b s
  | .sdoUpload t p idx sub off max => Sys2Proof.Machine.execSdoUpload t p idx sub off max s
  | .sdoTimeout t p => Sys2Proof.Machine.execSdoTimeout t p s
  | .rpdo t x b => Sys2Proof.Machine.execRpdo t x b s
  | .tpdoCyclic t x => Sys2Proof.Machine.execTpdoCyclic t x s
  | .canSync t p => Sys2Proof.Machine.execCanSync t p s
  | .tpdoTrigger src x => Sys2Proof.Machine.execTpdoTrigger src x s
  | .cobidWrite src x v => Sys2Proof.Machine.execCobidWrite src x v s
  | .ptpSync t p domain id seq origin => Sys2Proof.Machine.execPtpSync t p domain id seq origin s
  | .ptpFollowUp t p domain id seq origin => Sys2Proof.Machine.execPtpFollowUp t p domain id seq origin s
  | .ptpAnnounce t p domain id gm priority1 quality priority2 steps => Sys2Proof.Machine.execPtpAnnounce t p domain id gm priority1 quality priority2 steps s
  | .ptpDelayReq t => Sys2Proof.Machine.execPtpDelayReq t s
  | .ptpDelayResp t p domain id seq t4 => Sys2Proof.Machine.execPtpDelayResp t p domain id seq t4 s
  | .announceReceiptTimeout t => Sys2Proof.Machine.execAnnounceReceiptTimeout t s
  | .ppsInEdge t => Sys2Proof.Machine.execPpsInEdge t s
  | .ppsOutSecond t => Sys2Proof.Machine.execPpsOutSecond t s
  | .storeParameters src => Sys2Proof.Machine.execStoreParameters src s
  | .storeComplete t ok => Sys2Proof.Machine.execStoreComplete t ok s
  | .restoreDefaults src => Sys2Proof.Machine.execRestoreDefaults src s
  | .powerOn t pairRole jtagEnable bootRecovery coreDebug flash => Sys2Proof.Machine.execPowerOn t pairRole jtagEnable bootRecovery coreDebug flash s
  | .brownOut t => Sys2Proof.Machine.execBrownOut t s
  | .powerFail t mv => Sys2Proof.Machine.execPowerFail t mv s
  | .supplyOvercurrent t o => Sys2Proof.Machine.execSupplyOvercurrent t o s
  | .boardSupplyModeWrite src v => Sys2Proof.Machine.execBoardSupplyModeWrite src v s
  | .lpddrSupplyEnableWrite src v => Sys2Proof.Machine.execLpddrSupplyEnableWrite src v s
  | .lpddrSupplyFault t x => Sys2Proof.Machine.execLpddrSupplyFault t x s
  | .domainRequestOn src d => Sys2Proof.Machine.execDomainRequestOn src d s
  | .domainRequestOff src d => Sys2Proof.Machine.execDomainRequestOff src d s
  | .domainRequestRetained src d => Sys2Proof.Machine.execDomainRequestRetained src d s
  | .domainStartComplete t d ok => Sys2Proof.Machine.execDomainStartComplete t d ok s
  | .domainFenceApplied t d => Sys2Proof.Machine.execDomainFenceApplied t d s
  | .domainDrainComplete t d => Sys2Proof.Machine.execDomainDrainComplete t d s
  | .domainStopComplete t d => Sys2Proof.Machine.execDomainStopComplete t d s
  | .powerModeRun src => Sys2Proof.Machine.execPowerModeRun src s
  | .powerModeLineStop src => Sys2Proof.Machine.execPowerModeLineStop src s
  | .powerModeSleep src => Sys2Proof.Machine.execPowerModeSleep src s
  | .powerModeDeepSleep src => Sys2Proof.Machine.execPowerModeDeepSleep src s
  | .lineStopClockStop t => Sys2Proof.Machine.execLineStopClockStop t s
  | .lineStopEntryTimeout t => Sys2Proof.Machine.execLineStopEntryTimeout t s
  | .wake t cause => Sys2Proof.Machine.execWake t cause s
  | .pllLockLoss t aclkOk nclkOk => Sys2Proof.Machine.execPllLockLoss t aclkOk nclkOk s
  | .rcTrim t err => Sys2Proof.Machine.execRcTrim t err s
  | .tempSample t temp => Sys2Proof.Machine.execTempSample t temp s
  | .furrowClockGate t f u => Sys2Proof.Machine.execFurrowClockGate t f u s
  | .engineReset src => Sys2Proof.Machine.execEngineReset src s
  | .porst t low pairRole jtagEnable bootRecovery coreDebug => Sys2Proof.Machine.execPorst t low pairRole jtagEnable bootRecovery coreDebug s
  | .jtagTestLogicReset t => Sys2Proof.Machine.execJtagTestLogicReset t s
  | .boot t ok badSlots => Sys2Proof.Machine.execBoot t ok badSlots s
  | .firmwareUpdate src bytes => Sys2Proof.Machine.execFirmwareUpdate src bytes s
  | .flashUpdateComplete t ok => Sys2Proof.Machine.execFlashUpdateComplete t ok s
  | .firmwareRollbackFloorWrite src v => Sys2Proof.Machine.execFirmwareRollbackFloorWrite src v s
  | .mailboxSha3512 t n => Sys2Proof.Machine.execMailboxSha3512 t n s
  | .mailboxShake256 t n => Sys2Proof.Machine.execMailboxShake256 t n s
  | .mailboxVerify t n => Sys2Proof.Machine.execMailboxVerify t n s
  | .mailboxSign t n => Sys2Proof.Machine.execMailboxSign t n s
  | .mailboxRandom t n => Sys2Proof.Machine.execMailboxRandom t n s
  | .mailboxComplete t n => Sys2Proof.Machine.execMailboxComplete t n s
  | .trngHealthFail t => Sys2Proof.Machine.execTrngHealthFail t s
  | .trngRestart src => Sys2Proof.Machine.execTrngRestart src s
  | .randomRead src => Sys2Proof.Machine.execRandomRead src s
  | .ownerInstall src bytes nvmOk => Sys2Proof.Machine.execOwnerInstall src bytes nvmOk s
  | .keyInstall src bytes nvmOk => Sys2Proof.Machine.execKeyInstall src bytes nvmOk s
  | .keyErase src bytes nvmOk => Sys2Proof.Machine.execKeyErase src bytes nvmOk s
  | .keyReplaceOwner src bytes nvmOk => Sys2Proof.Machine.execKeyReplaceOwner src bytes nvmOk s
  | .attestNonce src bytes => Sys2Proof.Machine.execAttestNonce src bytes s
  | .attestDone t => Sys2Proof.Machine.execAttestDone t s
  | .cacheInstall src bytes => Sys2Proof.Machine.execCacheInstall src bytes s
  | .cacheErase src v => Sys2Proof.Machine.execCacheErase src v s
  | .snapshotCounters src => Sys2Proof.Machine.execSnapshotCounters src s
  | .snapshotWriteComplete t ok => Sys2Proof.Machine.execSnapshotWriteComplete t ok s
  | .clearCounters src => Sys2Proof.Machine.execClearCounters src s
  | .tapBypass t tdi => Sys2Proof.Machine.execTapBypass t tdi s
  | .tapSamplePreload t balls scan => Sys2Proof.Machine.execTapSamplePreload t balls scan s
  | .tapExtest t balls scan => Sys2Proof.Machine.execTapExtest t balls scan s
  | .tapIdcode t => Sys2Proof.Machine.execTapIdcode t s
  | .serialValueComputed t a => Sys2Proof.Machine.execSerialValueComputed t a s
  | .prbsLockLoss t n => Sys2Proof.Machine.execPrbsLockLoss t n s
  | .prbsBitError t n => Sys2Proof.Machine.execPrbsBitError t n s
  | .blockError t n header inFrame => Sys2Proof.Machine.execBlockError t n header inFrame s
  | .refclkRestored t => Sys2Proof.Machine.execRefclkRestored t s
  | .lfxoStop t => Sys2Proof.Machine.execLfxoStop t s
  | .ethLinkChange t p up => Sys2Proof.Machine.execEthLinkChange t p up s
  | .canBusStateChange t p passive => Sys2Proof.Machine.execCanBusStateChange t p passive s
  | .ppsOutWidthEnd t => Sys2Proof.Machine.execPpsOutWidthEnd t s
  | .resetOutRelease t => Sys2Proof.Machine.execResetOutRelease t s
  | .pairLaneHeartbeatTimeout t x => Sys2Proof.Machine.execPairLaneHeartbeatTimeout t x s
  | .trngStartupComplete t ok => Sys2Proof.Machine.execTrngStartupComplete t ok s

end Sys2Proof.Machine
end

