-- ==== Sys2Proof/Machine/Step.lean ====
section
/-! DEFINITION. A step of the engine: the command at the front of the queue. -/

set_option Elab.async false

namespace Sys2Proof.Machine

/-- The command at the front of the queue is taken and performed; with none waiting the engine idles. -/
def step (s : State) : Host.Outcome State Fault Refusal :=
  match s.pending with
  | [] => .next s
  | c :: rest => exec c { s with pending := rest }

/-- The command that a word spells put at the front of the queue; the table gives no words, so there is none. -/
def State.withFetchWord (s : State) (nbits w : Nat) : State :=
  match decodeTableWord nbits w with
  | some c => { s with pending := c :: s.pending }
  | none => s

end Sys2Proof.Machine
end

