-- ==== Sys2Proof/Safety.lean ====
section
/-! DEFINITION. Safe runs: a run in which no step ends in a fault or a refusal, and the states a run reaches; what a command leads to; when a write of an object is performed at once. -/

set_option Elab.async false

namespace Sys2Proof.Safety

open Sys2Proof.Machine

/-- The outcome is a next state. -/
def isNext (o : Out) : Bool :=
  match o with
  | .next _ => true
  | .fault _ => false
  | .refused _ => false

/-- The state after `n` steps; none where a step has no next state. -/
def after : Nat → State → Option State
  | 0, s => some s
  | n + 1, s =>
    match step s with
    | .next t => after n t
    | .fault _ => none
    | .refused _ => none

/-- Every one of the next `n` steps has a next state. -/
def Safe (n : Nat) (s : State) : Prop := (after n s).isSome

/-- A command answers a next state, and the property holds of it. -/
def Leads (c : Instr) (s : State) (P : State → Prop) : Prop := ∃ u, exec c s = .next u ∧ P u

/-- The form of the state that every step keeps: the addresses of memory and the keys of the dictionary's registers rise strictly. -/
def Inv (s : State) : Prop := Memory.wf s.mem = true ∧ tabSorted s.obj = true

/-- Nothing that the print path has in hand takes effect by time t, and no frame waits for its lane (R20, R118, R343). -/
def calm (t : Nat) (s : State) : Bool := s.print.pipe.all (fun i => decide (aclkAt s t < i.due)) && s.lanes.all (fun e => e.2.waiting.isEmpty)

/-- The clocks run, and nothing that the print path and the lanes have in hand takes effect by time t. -/
def runs (t : Nat) (s : State) : Bool := sysRuns s && calm t s

/-- No access waits for the partner, the journal, the security unit or an earlier access, and no orderly shutdown runs. -/
def quiet (s : State) : Bool := s.pair.ready.isEmpty && s.plant.granting.isEmpty && s.security.checks.isEmpty && s.plant.blocked.isEmpty && s.power.shutdown.isNone

/-- The engines of the security unit serve no request, so that a check that a write asks for is made at once (R426). -/
def checksAtOnce (s : State) : Bool := s.security.hashing.isEmpty && s.security.signing.isEmpty

/-- A read by a source is performed at once: the source is served, and nothing waits, its own writes among it (R366). -/
def canRead (s : State) (src : Source) : Bool := quiet s && served (start s) src && s.pair.mirror.all (fun m => m.src != src)

/-- The state in which a write's value has arrived whole: a value that no op carries lies in the domain staging region (R383). -/
def arrived (s : State) (idx sub : Nat) (v : ObjVal) : State := (assembled (start s) idx sub v.bytes).1

/-- A write of an object by a source is performed at once: the source is served (R366), its value arrives whole, nothing waits, steps 1 to 8 of R364 pass, and the write is not sent to a partner first (R232). -/
def canWrite (s : State) (src : Source) (idx sub : Nat) (v : ObjVal) : Bool :=
  let x := arrived s idx sub v
  quiet s && served (start s) src && (assembled (start s) idx sub v.bytes).2.isNone && !heldUp x { seq := 0, src := src, direct := true, idx := idx, sub := sub, value := v } &&
    (match resolveObj idx sub with
     | .ok o => (writeCheck x src o v).isNone && !(o.desc.cls == .m && pairRole x == 2)
     | .error _ => false)

/-- A number as a value of an object's size. -/
def numVal (idx sub n : Nat) : ObjVal :=
  match resolveObj idx sub with
  | .ok o => { ty := 0, bytes := leBytes o.desc.ty.bytes n }
  | .error _ => { ty := 0, bytes := [] }

/-- A write of a number is performed at once. -/
def canSet (s : State) (src : Source) (idx sub n : Nat) : Bool := canWrite s src idx sub (numVal idx sub n)

/-- A write of bytes is performed at once. -/
def canPut (s : State) (src : Source) (idx sub : Nat) (b : List Byte) : Bool := canWrite s src idx sub { ty := 0, bytes := b }

/-- The write was answered OK, and the object's register holds the value. -/
def Holds (idx sub n : Nat) (u : State) : Prop := u.answer.status = some .ok ∧ rd u idx sub = n

/-- No core has written a word of its X or Y memory in the NCLK of the state, so that a write from the network meets none (R282). -/
def portsFree (s : State) : Bool := (List.range 8).all (fun n => (coreOf s n).portA.all (fun e => e.2.nclk != nclk s + 1))

/-- Core n can issue an instruction, and what a fetch at its pc at time t gives is the instruction w of len bytes. -/
def Issues (t n w len : Nat) (s : State) : Prop := coreIssues s n = true ∧ calm t s = true ∧ (fetch (at_ t s) n (coreOf s n).pc).2 = .instr w len

/-- The object `o` is a number that a read answers as it stands in its register. -/
def Stored (idx sub : Nat) (o : ObjRef) : Prop :=
  resolveObj idx sub = .ok o ∧ o.desc.acc ≠ .wo ∧ o.desc.rd = .stored ∧ o.desc.ty.bytes ≠ 0 ∧ ¬ (idx = 0x1018 ∧ sub = 4)

/-- The object `o` is a number that a write stores in its register, and does no more. -/
def Plain (idx sub : Nat) (o : ObjRef) : Prop :=
  resolveObj idx sub = .ok o ∧ o.desc.kind = .plain ∧ o.desc.fn = .store ∧ o.desc.ty.bytes ≠ 0

/-- By state u a frame has gone out on lane n, or waits there for the frame in progress (R343). -/
def Goes (u : State) (n : Nat) (f : List Byte) : Prop := (n, f) ∈ u.answer.sent ∨ ∃ w, w ∈ (laneOf u n).waiting ∧ w.bytes = f

/-- By state u a token has entered the end of a path as state z had it, behind what was there (R23): a skid buffer, a bypass stage, the register of an edge port, or a write stream, for the next address of its program (R64, R65). -/
def Delivered (z u : State) (e : PathEnd) (tok : Token) (drill : Option (Nat × Nat)) : Prop :=
  match e with
  | .closed => False
  | .cell f c dir => skidOf (cellOf (fieldOf u f) c) dir = skidOf (cellOf (fieldOf z f) c) dir ++ [{ tok := tok, since := aclk z, drill := drill }]
  | .stage f w dir => stageOf (fieldOf u f) w dir = stageOf (fieldOf z f) w dir ++ [{ tok := tok, since := aclk z }]
  | .edge p => tabFind u.arr.edgeOut p = some { tok := tok, since := aclk z }
  | .drill f d =>
    let slot := streamSlot z f d 1
    (streamOf (fieldOf u f) d 1).buf = (streamOf (fieldOf z f) d 1).buf
      ++ [{ addr := ddAddr (drillDesc (slotOf (fieldOf z f) slot) d 1) (drillCount (fieldOf z f) slot d 1), tok := tok, since := aclk z }]

/-- The complete words of a queue, the next to be read first (R106). -/
def qAll (x : Queue) : List QWord := x.head ++ x.spill ++ x.tail

/-- The bytes that a queue holds, those of the partly filled word last (R92, R93). -/
def qBytes (x : Queue) : List Byte := (qAll x).flatMap (fun w => leBytes w.valid w.data) ++ leBytes x.partBytes x.partData

/-! What a command may change: lists of dictionary registers, each an index and the sub-indices there. -/

/-- Every register of the dictionary outside the list reads as before. -/
def OnlyRegs (l : List (Nat × List Nat)) (s u : State) : Prop :=
  ∀ i j, j < 256 → rd u i j ≠ rd s i j → ∃ e, e ∈ l ∧ e.1 = i ∧ j ∈ e.2

/-- An address lies outside `len` bytes from `lo`. -/
def Outside (lo len a : Nat) : Prop := a < lo ∨ lo + len ≤ a

/-- The same sub-indices of several indices. -/
def eachIndex (n : Nat) (at' : Nat → Nat) (subs : List Nat) : List (Nat × List Nat) := (List.range n).map (fun k => (at' k, subs))

def eachField (k : Nat) : List Nat → List (Nat × List Nat) := eachIndex 24 (fun f => 0x2000 + 0x40 * f + k)
def eachQueue (n : Nat) : List Nat → List (Nat × List Nat) := eachIndex n qs
def eachEncoder : List Nat → List (Nat × List Nat) := eachIndex 4 ex
def eachGen : List Nat → List (Nat × List Nat) := eachIndex 4 gx
def eachBar (k : Nat) : List Nat → List (Nat × List Nat) := eachIndex 24 (fun b => bx b k)
def eachCamera : List Nat → List (Nat × List Nat) := eachIndex 6 cs
def eachGate : List Nat → List (Nat × List Nat) := eachIndex 12 (fun j => gc j + 1)
def eachAllotment : List Nat → List (Nat × List Nat) := eachIndex 32 (fun a => 0x4021 + 2 * a)
def eachLane (k : Nat) : List Nat → List (Nat × List Nat) := eachIndex 40 (fun n => lx n k)
def eachNi : List Nat → List (Nat × List Nat) := eachIndex 15 (fun k => 0x5010 + k)

/-- The counter of events that coalesced (R285). -/
def evRegs : List (Nat × List Nat) := [(0x1600, [0x11])]

/-- The tuning state and the retune state of a field. -/
def fieldRegs (f : Nat) : List (Nat × List Nat) := [(0x2000 + 0x40 * f, [3]), (0x2006 + 0x40 * f, [1, 2, 3, 4])]

/-- The tuning state and the retune state of every field. -/
def anyField : List (Nat × List Nat) := (List.range 24).flatMap fieldRegs

/-- What the intake of lines moves in a camera's state (R175). -/
def cameraRegs : List (Nat × List Nat) := eachCamera [4, 5, 6]

/-- What an item offered to an input queue, or a queue that is brought up to its time, moves in the queues (R111, R112, R115). -/
def inputRegs : List (Nat × List Nat) := eachQueue 32 [4, 7, 8, 0xA, 0xB] ++ eachIndex 32 qc [7]

/-- The holders of resources (R378). -/
def claims : List (Nat × List Nat) := [(0x1580, (List.range 0x75))]

/-- What a claim may move: the holders, the refused claim, its cause and event. -/
def claimRegs : List (Nat × List Nat) := claims ++ [(0x1581, [1, 2]), (0x1200, [3])] ++ evRegs

/-- What a change of the pair role may move: the role, its cause, the counters of orphans and digests, the owners, and a resync that it ends (R228, R244). -/
def roleRegs : List (Nat × List Nat) :=
  [(0x1301, [1]), (0x1302, [2]), (0x1305, [2]), (0x1306, [3, 4, 5]), (0x2601, [1, 2])] ++ eachBar 0 [7] ++ eachIndex 6 cc [0x10]

/-- What a change of the ordered lane may move (R225). -/
def moveRegs : List (Nat × List Nat) := [(0x1301, [5, 6]), (0x1306, [7])]

/-- The pair agent's state, with the role and what a frame moves in the state of its lanes. -/
def pairRegs : List (Nat × List Nat) :=
  roleRegs ++ [(0x1301, [2, 3, 4, 5, 6, 7, 8]), (0x1302, [2, 3]), (0x1306, [1, 2, 6, 7, 8]), (0x1307, [1, 2])]
    ++ eachIndex 4 (fun i => lx (36 + i) 2) [3] ++ [(0x2601, [1, 2])] ++ evRegs

/-- What takes effect in the print path by a time may move: counts, strobes, products with their windows, regions, gates and serials (R20, R118 to R136). -/
def pipeRegs : List (Nat × List Nat) :=
  eachEncoder [6, 8, 9, 0xA, 0xF, 0x10] ++ eachGen [5] ++ eachIndex 24 tx [0xE, 0xF, 0x11, 0x12, 0x13] ++ [(0x3200, [4, 6]), (0x4000, [4, 5])]
    ++ eachBar 0 [1, 4, 5, 9] ++ eachBar 2 [1, 4] ++ eachBar 3 [1, 4] ++ eachBar 7 [4] ++ eachCamera [5, 9, 0xB] ++ eachGate [2, 4, 7]
    ++ eachAllotment (List.range 0x20) ++ roleRegs ++ evRegs

/-- What an instruction of core n may move: its state, and the scheduler's where the core stops. -/
def coreRegs (n : Nat) : List (Nat × List Nat) :=
  [(cS n, [1, 2, 3, 4, 5, 9, 0xA, 0xB, 0xC, 0xD]), (0x1600, [2, 3, 8, 0xA, 0x11]), (0x1607, [4])]

/-- The trouble counters that software may clear. -/
def troubleRegs : List (Nat × List Nat) := troubleObjects.map (fun e => (e.1 / 256, [e.1 % 256]))

end Sys2Proof.Safety
end

