-- ==== Sys2Proof/Certificates/Slice0/Obligations.lean ====
section
/-! DEFINITION. The statements for the provers. -/

set_option Elab.async false

open Sys2Proof Sys2Proof.Machine Sys2Proof.Safety

/-- The form of the state holds after reset.
State.reset meets Inv: the addresses of memory and the keys of the dictionary registers rise strictly. -/
def Obligations.ResetForm : Prop :=
  Inv State.reset

/-- Every step keeps the form of the state.
From every state that meets Inv, whatever command is in front, a step that answers a next state answers one that meets Inv: memory and the dictionary registers keep their one form. -/
def Obligations.StepKeepsForm : Prop :=
  ∀ s u : State, Inv s → step s = .next u → Inv u

/-- No command lowers a rollback floor held in NVM or replaces the identity key.
Whatever command is in front, and in every state: after a step the firmware rollback floor and the key-update rollback floor held in NVM are at least what they were, and key slot 0 holds what it held. -/
def Obligations.FloorsNeverDrop : Prop :=
  ∀ s u : State, step s = .next u →
    s.nvm.firmwareFloor ≤ u.nvm.firmwareFloor ∧ s.nvm.keyFloor ≤ u.nvm.keyFloor ∧ tabFind u.keys 0 = tabFind s.keys 0

/-- Time, the count of free values and the count of lost memory contents never go back.
After every step the time, the number of free values taken and the number of lost memory contents are at least what they were before it. The counts of free values and of lost contents are the model's own (log entries 1 and 2). -/
def Obligations.NothingRunsBack : Prop :=
  ∀ s u : State, step s = .next u → s.now ≤ u.now ∧ s.fresh ≤ u.fresh ∧ s.memEpoch ≤ u.memEpoch

/-- Every command answers a next state in every state, and leaves the queue of waiting commands alone.
For every command and every state, exec answers a next state, with no fault and no refusal, and that state has the same waiting commands. -/
def Obligations.EveryCommandAnswers : Prop :=
  ∀ (c : Instr) (s : State), Leads c s fun u => u.pending = s.pending

/-- A step performs the command at the front of the queue on the state with the rest of the queue; with no command waiting the block idles.
For every command c, every rest of the queue and every state s whose queue is c followed by the rest, step s is exec c of s with the rest as its queue. A step of a state whose queue is empty answers that same state: this clause is the model's choice (log entry 8). -/
def Obligations.StepTakesTheFront : Prop :=
  (∀ (c : Instr) (rest : List Instr) (s : State), s.pending = c :: rest → step s = exec c { s with pending := rest }) ∧
  (∀ s : State, s.pending = [] → step s = .next s)

/-- Firing, completion and delivery of a cell complete and do what R25 to R29 say to its window.
While the clocks run, in the field as the ACLK finds it: a cell of a moving field whose window is open, whose word may fire, whose destination register is free, whose operands and pass-through tokens are all valid, and which no drain stops, fires: it places the entry of its result at the end of its window and notes the ACLK. An entry whose operation completes at the end of the ACLK, and which writes a register that no older entry writes at that moment, writes it; one complete before the ACLK has done so since. A head entry that is complete, goes somewhere and finds every end it drives ready leaves the window in an ACLK in which none has left before, and that ACLK is noted: on every end that it drives its token enters the receiver, the skid buffer, bypass stage, edge port or write stream there, behind the tokens already in it, and a bus result enters the bus. Where an entry behind one that left in the ACLK becomes the head, that is the model's choice (log entry 149). -/
def Obligations.CellsFireAndDeliver : Prop :=
  (∀ (t : Nat) (f : FieldId) (c : CellId) (s : State), runs t s = true →
    let z := fieldNow (at_ t s) f
    let y := cellOf (fieldOf z f) c
    let slot := cellSlot z f c
    let w := wordOf (fieldOf z f) slot c
    let side := sideOf y slot
    fieldMoving z f = true → windowOpen z y = true → mayFire w side = true → (opRunning (cwOpcode w) = true → regFree z y slot (cwDestReg w) = true) →
    drainStops z f w side = false → (∀ k, k < 3 → (operand z f c slot w side k).isSome = true) → (∀ o, o < 4 → (passToken z f c slot w o).isSome = true) →
    Leads (.cellFire t f c) s fun u =>
      (cellOf (fieldOf u f) c).win = y.win ++ [fireEntry w slot (fun o => (passToken z f c slot w o).getD {}) (fireResult z f c) (aclk z + opLatency (cwOpcode w))] ∧
        (cellOf (fieldOf u f) c).firedAt = aclk (at_ t s) + 1) ∧
  (∀ (t : Nat) (f : FieldId) (c : CellId) (k : Nat) (s : State) (e : WinEntry), runs t s = true → fieldMoving (at_ t s) f = true →
    (cellOf (fieldOf s f) c).win[k]? = some e → e.we = true → e.written = false → e.dueAt = aclk (at_ t s) + 1 →
    ((cellOf (fieldOf s f) c).win.take k).any (fun d => writeDue d && sameReg d e && d.dueAt == e.dueAt) = false →
    Leads (.operationComplete t f c k) s fun u => cellReg (cellOf (fieldOf u f) c) e.bankSlot e.reg = e.regVal % 2 ^ 32) ∧
  (∀ (t : Nat) (f : FieldId) (c : CellId) (k : Nat) (s : State) (e : WinEntry), runs t s = true → fieldMoving (at_ t s) f = true →
    (cellOf (fieldOf s f) c).win[k]? = some e → (writeDue e || e.deliver == 0) = true → e.dueAt ≤ aclk (at_ t s) →
    Leads (.operationComplete t f c k) s fun u => cellOf (fieldOf u f) c = cellSettle (aclk (at_ t s)) (cellOf (fieldOf s f) c)) ∧
  (∀ (t : Nat) (f : FieldId) (c : CellId) (s : State) (e : WinEntry) (rest : List WinEntry), runs t s = true →
    let z := fieldNow (at_ t s) f
    (cellOf (fieldOf z f) c).win = e :: rest → fieldMoving z f = true → e.deliver ≠ 0 → (cellOf (fieldOf z f) c).deliveredAt ≠ aclk z + 1 →
    e.dueAt ≤ aclk z + 1 → entryEndsReady z f c e = true →
    Leads (.resultDelivery t f c) s fun u =>
      (cellOf (fieldOf u f) c).win = rest ∧ (cellOf (fieldOf u f) c).deliveredAt = aclk (at_ t s) + 1 ∧
        (∀ o, o < 4 → bitOf e.deliver o = true → Delivered z u (outEnd z f c o) (entryOut e o) none) ∧
        (busOf (fieldOf u f) (c / 8)).toks = (busOf (fieldOf z f) (c / 8)).toks ++ (if bitOf e.deliver 4 then [({ tok := e.result, since := aclk z }, 0)] else []))

/-- Writes of the configuration port of a stopped field change the cell register, the table entry or the capo-state word named.
While the clocks run and the domain of the field is ON: in a field that is stopped or held a register write sets the register of the cell and slot, and a write in the capo-state regions whose reserved bits are 0, which for the bypass-stage words needs the capo held, is read back from the word of its offset; a write with a reserved bit set is answered RANGE and changes no word (log entry 147; what a word that the state cannot hold yet reads as is the choice of log entries 19 and 125); a table write sets the entry of the cell and page that the select register names unless the active tuning uses that page. Each that is taken is answered OK. -/
def Obligations.ConfigurationPortWrites : Prop :=
  (∀ (t : Nat) (f : FieldId) (c : CellId) (slot k : Fin 8) (v : Nat) (s : State), runs t s = true → domOn s f = true → fieldHeld s f = true →
    Leads (.configRegisterWrite t f c slot k v) s fun u =>
      u.answer.status = some .ok ∧ cellReg (cellOf (fieldOf u f) c) slot k = v % 2 ^ 32) ∧
  (∀ (t : Nat) (f : FieldId) (j : Fin 256) (v : Nat) (s : State), runs t s = true → domOn s f = true →
    let c := (fieldOf s f).lutSelect % 64
    let page := bitsOf (fieldOf s f).lutSelect 8 1
    let w := wordOf (fieldOf s f) (cellSlot s f c) c
    (activeSlot s f != 0xFF && opNamesPage (cwOpcode w) && cwLutPage w == page) = false →
    Leads (.lutEntryWrite t f j v) s fun u =>
      u.answer.status = some .ok ∧ tabGet 0 (cellOf (fieldOf u f) c).lut (page * 256 + j.val) = v % 2 ^ 32) ∧
  (∀ (t : Nat) (f : FieldId) (j : Fin 8704) (v : Nat) (s : State), runs t s = true → domOn s f = true → fieldHeld s f = true →
    (256 ≤ j.val ∧ j.val < 384 → capoHeld s = true) → clearBits (v % 2 ^ 32) (capoBits (0x7800 + 4 * j.val)) = 0 →
    Leads (.capoStateWrite t f j v) s fun u =>
      u.answer.status = some .ok ∧ capoRead u f (0x7800 + 4 * j.val) = v % 2 ^ 32) ∧
  (∀ (t : Nat) (f : FieldId) (j : Fin 8704) (v : Nat) (s : State), runs t s = true → domOn s f = true → fieldHeld s f = true →
    (256 ≤ j.val ∧ j.val < 384 → capoHeld s = true) → clearBits (v % 2 ^ 32) (capoBits (0x7800 + 4 * j.val)) ≠ 0 →
    Leads (.capoStateWrite t f j v) s fun u => u.answer.status = some .range ∧ fieldOf u f = fieldOf s f)

/-- A RowBypass write in a stopped row sets the bypass and empties the slots of every field of the row.
A write of RowBypass that is performed at once, in a row whose fields are all halted, OFF or RETAINED, is answered OK; RowBypass holds the value, and every field of the row has no slot content and ActiveSlot 0xFF. -/
def Obligations.RowBypassWritten : Prop :=
  ∀ (src : Source) (r : Fin 4) (v : Nat) (s : State), canSet s src 0x2600 (r.val + 1) v = true → rowStopped s r = true →
    Leads (.rowBypassWrite src r v) s fun u =>
      u.answer.status = some .ok ∧ rowBypass u r = v % 256 ∧
        ∀ p : Fin 6, (fieldOf u (6 * r.val + p.val)).slots = [] ∧ activeSlot u (6 * r.val + p.val) = 0xFF

/-- Bypass stages, drill streams and network accesses of field memory move when their conditions hold.
While the clocks run: a stage of a bypassed field, with the capo not held, whose head token was there at the start of the ACLK and whose facing port is ready, hands that token on, once in the ACLK, and notes it: the token leaves the stage and enters what lies behind the facing port. In the field as the ACLK finds it: a read stream of a moving field that does not drain, whose next item was issued 2 ACLK before and whose cell is ready, delivers it and notes the ACLK: the item leaves the stream and its token enters the S skid buffer of the cell; the cell behind a write stream that can deliver its head entry there delivers it, and its S token stands in the stream behind the others, for the next address of the program; the oldest accepted token of a write stream of a field that is not frozen, where the write port of its sub-bank serves it, is written to its word, and to no other byte. A network access to field memory of an ON field is answered OK with what it reads or after what it writes where the port of its sub-bank serves it, and waits, with no answer, where it does not (an access asked for again is the one that waits: log entry 148). -/
def Obligations.BypassAndDrillMoves : Prop :=
  (∀ (t : Nat) (f : FieldId) (u : Furrow) (west : Bool) (h : Held) (rest : List Held) (s : State), runs t s = true →
    stageOf (fieldOf s f) u (boolNat west) = h :: rest → isBypassed s f = true → capoHeld s = false → h.since < aclk (at_ t s) →
    tabGet 0 (fieldOf s f).stageMoved (2 * u.val + boolNat west) ≠ aclk (at_ t s) + 1 → endReady (at_ t s) none (stageEnd (at_ t s) f u (boolNat west)) = true →
    Leads (.bypassStageTransfer t f u west) s fun y =>
      tabGet 0 (fieldOf y f).stageMoved (2 * u.val + boolNat west) = aclk (at_ t s) + 1 ∧ stageOf (fieldOf y f) u (boolNat west) = rest ∧
        Delivered (at_ t s) y (stageEnd (at_ t s) f u (boolNat west)) h.tok none) ∧
  (∀ (t : Nat) (f : FieldId) (d : DrillId) (v : Nat) (it : DrillItem) (rest : List DrillItem) (s : State), runs t s = true →
    let z := fieldNow (at_ t s) f
    drillPort z f d 0 = some v → (streamOf (fieldOf z f) d 0).buf = it :: rest → fieldMoving z f = true → draining z f = false →
    (streamOf (fieldOf z f) d 0).movedAt ≠ aclk z + 1 → it.since + 2 ≤ aclk z → endReady z (some f) (.cell f (56 + v) 2) = true →
    Leads (.drillReadItem t f d) s fun u =>
      (streamOf (fieldOf u f) d 0).movedAt = aclk (at_ t s) + 1 ∧ (streamOf (fieldOf u f) d 0).buf = rest ∧
        Delivered z u (.cell f (56 + v) 2) it.tok (some (d.val, streamSlot z f d 0))) ∧
  (∀ (t : Nat) (f : FieldId) (d : DrillId) (v : Nat) (e : WinEntry) (rest : List WinEntry) (s : State), runs t s = true →
    let z := fieldNow (at_ t s) f
    drillPort z f d 1 = some v → (cellOf (fieldOf z f) (56 + v)).win = e :: rest → bitOf e.deliver 2 = true → e.deliver ≠ 0 → fieldMoving z f = true →
    (cellOf (fieldOf z f) (56 + v)).deliveredAt ≠ aclk z + 1 → e.dueAt ≤ aclk z + 1 → entryEndsReady z f (56 + v) e = true →
    Leads (.drillWriteAccept t f d) s fun u =>
      (cellOf (fieldOf u f) (56 + v)).win = rest ∧ (cellOf (fieldOf u f) (56 + v)).deliveredAt = aclk (at_ t s) + 1 ∧
        Delivered z u (.drill f d) e.passS none) ∧
  (∀ (t : Nat) (f : FieldId) (d : DrillId) (it : DrillItem) (rest : List DrillItem) (s : State), runs t s = true → domOn s f = true →
    let z := fieldNow (at_ t s) f
    frozenIn (fieldOf z f) (aclk z) = false → (streamOf (fieldOf z f) d 1).buf = it :: rest → storeServed z (fieldOf z f) (it.addr / 16384) d = true →
    Leads (.drillWriteStore t f d) s fun u =>
      fieldWord u f it.addr = it.tok.data.toNat ∧ (streamOf (fieldOf u f) d 1).buf = rest ∧
        ∀ a, (a < fieldMemAddr f it.addr ∨ fieldMemAddr f it.addr + 4 ≤ a) → memByte u a = memByte s a) ∧
  (∀ (t : Nat) (f : FieldId) (off size v : Nat) (s : State), runs t s = true → domOn s f = true → off + size ≤ 0x40000 →
    let z := fieldNow (at_ t s) f
    netServed z (fieldOf z f) (off / 0x10000) false { off := off, size := size, value := v } = true →
    Leads (.fieldMemoryNetworkAccess t f off size false v) s fun u =>
      u.answer.status = some .ok ∧ u.answer.value = memNat s (0x30000000 + f * 0x40000 + off) size ∧ u.mem = s.mem) ∧
  (∀ (t : Nat) (f : FieldId) (off size v : Nat) (s : State), runs t s = true → domOn s f = true → off + size ≤ 0x40000 →
    let z := fieldNow (at_ t s) f
    netServed z (fieldOf z f) (off / 0x10000) true { off := off, size := size, value := v } = true →
    Leads (.fieldMemoryNetworkAccess t f off size true v) s fun u =>
      u.answer.status = some .ok ∧ memNat u (0x30000000 + f * 0x40000 + off) size = v % 256 ^ size ∧
        ∀ a, (a < 0x30000000 + f * 0x40000 + off ∨ 0x30000000 + f * 0x40000 + off + size ≤ a) → memByte u a = memByte s a) ∧
  (∀ (t : Nat) (f : FieldId) (off size v : Nat) (write : Bool) (s : State), runs t s = true → domOn s f = true → off + size ≤ 0x40000 →
    let z := fieldNow (at_ t s) f
    netServed z (fieldOf z f) (off / 0x10000) write { off := off, size := size, value := v } = false →
    Leads (.fieldMemoryNetworkAccess t f off size write v) s fun u =>
      u.answer.status = none ∧ u.mem = s.mem ∧ (netWaitOf (fieldOf u f) (off / 0x10000) write).any (netSame { off := off, size := size, value := v }) = true)

/-- A tuning load copies, checks and completes.
A Go that is performed while no load runs, whose source is allowed and names what exists, starts the copy: LoadState is 1, and the loader holds the image and the slot named. When the copy ends, and the engines that check it serve no request from before the Go (R426), an image that fails steps 1 to 4 of R74 ends the load FAILED with the status and step, and one that passes every step makes LoadState 3, with its target fields noted. When the slot writes end with the second digest equal to the first, LoadState is 4 with LoadStatus and LoadStep 0; with another digest it is FAILED with AUTH at step 9 and the counter of digest mismatches counts. -/
def Obligations.TuningLoadSteps : Prop :=
  (∀ (src : Source) (s : State), canSet s src 0x2603 0x05 1 = true → loadRunning s = false →
    ¬ (rd s 0x2603 0x01 = 0 ∧ rd s 0x1301 0x01 = 2) →
    (rd s 0x2603 0x01 = 1 → rd s 0x2603 0x03 ≤ 62 ∧ (tabFind s.cache (rd s 0x2603 0x03)).isSome = true) →
    Leads (.tuningLoadGo src) s fun u =>
      u.answer.status = some .ok ∧ loadState u = 1 ∧ u.arr.load.image = (loadImage s).1 ∧ u.arr.load.slot = rd s 0x2603 0x04 ∧ u.arr.fields = s.arr.fields) ∧
  (∀ (t k : Nat) (st : Status) (s : State), runs t s = true → loadState s = 1 → checkFree s s.arr.load.askedAt = true →
    imgAuthCheck s s.arr.load.image s.arr.load.received (rd s 0x2605 0x02) = some (k, st) →
    Leads (.tuningLoadCopyDone t) s fun u => loadState u = 5 ∧ rd u 0x2603 0x07 = st.code ∧ rd u 0x2603 0x08 = k) ∧
  (∀ (t : Nat) (l : List (Nat × Nat)) (s : State), runs t s = true → loadState s = 1 → checkFree s s.arr.load.askedAt = true →
    imgAuthCheck s s.arr.load.image s.arr.load.received (rd s 0x2605 0x02) = none →
    imgLoadCheck s s.arr.load.image s.arr.load.slot = .ok l →
    Leads (.tuningLoadCopyDone t) s fun u => loadState u = 3 ∧ u.arr.load.targets = l) ∧
  (∀ (t : Nat) (s : State), runs t s = true → loadState s = 3 →
    let l := s.arr.load
    let same := sha3_512 ((memRead s l.base l.image.length).take (imgBodySize l.image)) == l.digest
    Leads (.tuningLoadComplete t) s fun u =>
      loadState u = (if same then 4 else 5) ∧ rd u 0x2603 0x07 = (if same then 0 else Status.auth.code) ∧ rd u 0x2603 0x08 = (if same then 0 else 9) ∧
        rd u 0x2608 0x02 = (if same then rd s 0x2608 0x02 else satAdd 0xFFFF (rd s 0x2608 0x02) 1))

/-- Retune requests arm, start and are withdrawn.
A Go of one field that the field accepts is answered OK: on CUE its RetuneState is 1 with the target held; on NOW with mode 0 the target slot is active at once and RetuneState is 3; on NOW with mode 1 (DRAIN) RetuneState is 2 with the target held, and with mode 2 (AT_END) it is that too, or 3 with the target active where every cell and stream switches at once; until then the active slot stays. A group Go that every field of the mask accepts does the same in each of them. A Cancel of an armed retune makes RetuneState 6 and holds no retune; the active slot stays. What feeds the cue port of a field with an armed retune, and can deliver its matching end-marked token there, delivers it; such a token that enters the cell behind the cue port leaves the retune armed no more. -/
def Obligations.RetuneRequests : Prop :=
  (∀ (src : Source) (f : FieldId) (s : State), canSet s src (0x2005 + 0x40 * f.val) 0x07 1 = true →
    let g := fun k => rd s (0x2005 + 0x40 * f.val) k
    retuneCheck s f (g 1) (g 2) (g 3) (g 4) = .ok →
    Leads (.retuneGo src f) s fun u => u.answer.status = some .ok ∧
      (g 3 = 1 → retuneState u f = 1 ∧ ((fieldOf u f).retune.map (·.target)) = some (g 1) ∧ activeSlot u f = activeSlot s f) ∧
      (g 3 ≠ 1 → g 2 = 0 → retuneState u f = 3 ∧ activeSlot u f = g 1 ∧ (fieldOf u f).retune = none) ∧
      (g 3 ≠ 1 → g 2 = 1 → retuneState u f = 2 ∧ ((fieldOf u f).retune.map (·.target)) = some (g 1) ∧ activeSlot u f = activeSlot s f) ∧
      (g 3 ≠ 1 → g 2 = 2 → (retuneState u f = 2 ∧ ((fieldOf u f).retune.map (·.target)) = some (g 1) ∧ activeSlot u f = activeSlot s f) ∨
        (retuneState u f = 3 ∧ (fieldOf u f).retune = none ∧ activeSlot u f = g 1))) ∧
  (∀ (src : Source) (s : State), canSet s src 0x2602 0x08 1 = true →
    let g := fun k => rd s 0x2602 k
    (∀ f, f < 24 → bitOf (g 7) f = true → retuneCheck s f (g 1) (g 2) (g 3) (g 4) = .ok) →
    Leads (.groupRetuneGo src) s fun u => u.answer.status = some .ok ∧ ∀ f, f < 24 → bitOf (g 7) f = true →
      (g 3 = 1 → retuneState u f = 1 ∧ ((fieldOf u f).retune.map (·.target)) = some (g 1) ∧ activeSlot u f = activeSlot s f) ∧
      (g 3 ≠ 1 → g 2 = 0 → retuneState u f = 3 ∧ activeSlot u f = g 1 ∧ (fieldOf u f).retune = none) ∧
      (g 3 ≠ 1 → g 2 = 1 → retuneState u f = 2 ∧ ((fieldOf u f).retune.map (·.target)) = some (g 1) ∧ activeSlot u f = activeSlot s f) ∧
      (g 3 ≠ 1 → g 2 = 2 → (retuneState u f = 2 ∧ ((fieldOf u f).retune.map (·.target)) = some (g 1) ∧ activeSlot u f = activeSlot s f) ∨
        (retuneState u f = 3 ∧ (fieldOf u f).retune = none ∧ activeSlot u f = g 1))) ∧
  (∀ (src : Source) (f : FieldId) (s : State), canSet s src (0x2005 + 0x40 * f.val) 0x08 1 = true → retuneState s f = 1 → (fieldOf s f).retune.isSome = true →
    Leads (.retuneCancel src f) s fun u => u.answer.status = some .ok ∧ retuneState u f = 6 ∧ (fieldOf u f).retune = none ∧ activeSlot u f = activeSlot s f) ∧
  (∀ (t : Nat) (f : FieldId) (r : Retune) (x : Feed) (s : State), runs t s = true → (fieldOf s f).retune = some r → retuneState s f = 1 →
    portFeed (at_ t s) f r.cuePort = some x →
    let z := feedNow (at_ t s) x
    feedReady z x = true → cueMatches r (feedToken z x) = true →
    Leads (.retuneCueToken t f) s fun u => u = feedTo z x) ∧
  (∀ (f : FieldId) (c dir : Nat) (tok : Token) (drill : Option (Nat × Nat)) (r : Retune) (s : State), portOfInput c dir = some r.cuePort → (fieldOf s f).retune = some r →
    retuneState s f = 1 → cueMatches r tok = true →
    retuneState (endPut s (.cell f c dir) tok drill) f ≠ 1)

/-- A draining field that is empty switches, and a retune ends at its limit.
While the clocks run: a draining field that is ON, unfrozen and empty makes the target slot active, and its RetuneState is 3 with no retune held. A running retune of an ON field that has reached RetuneLimit ends: in AT_END the target slot is active and RetuneState is 5 (FORCED); otherwise RetuneState is 4 (TIMEOUT) and the active slot stays. -/
def Obligations.RetuneEnds : Prop :=
  (∀ (t : Nat) (f : FieldId) (r : Retune) (s : State), runs t s = true → (fieldOf s f).retune = some r → draining (at_ t s) f = true →
    domOn s f = true → frozenIn (fieldOf s f) (aclk (at_ t s)) = false → fieldEmpty (fieldNow (at_ t s) f) f = true →
    Leads (.drainSwitch t f) s fun u => activeSlot u f = r.target ∧ retuneState u f = 3 ∧ (fieldOf u f).retune = none) ∧
  (∀ (t : Nat) (f : FieldId) (r : Retune) (s : State), runs t s = true → (fieldOf s f).retune = some r → retuneState s f = 2 → domOn s f = true →
    r.startAclk + rd s (0x2007 + 0x40 * f.val) 0x00 ≤ aclk (at_ t s) →
    Leads (.retuneLimitExpiry t f) s fun u => (fieldOf u f).retune = none ∧
      retuneState u f = (if r.mode = 2 then 5 else 4) ∧ activeSlot u f = (if r.mode = 2 then r.target else activeSlot s f))

/-- The capo, FieldRun, FieldClear and ActivateSlot act on fields.
CapoHold 1 asks for the hold (CapoState 1 from 0) and CapoHold 0 for the release. At the boundary a hold freezes every field, makes CapoState 2 and notes the ACLK; a release makes CapoState 0 and thaws the fields whose FieldRun is 1. FieldRun 0 freezes a field. FieldRun 1 of an ON field with an active slot runs it, and thaws it unless the capo is held. FieldClear of a halted field empties every skid buffer, window and bus and keeps the registers of the cells as the ACLK finds them. ActivateSlot makes a READY slot of a halted field with no active slot ACTIVE. The writes are those performed at once, and each is answered OK. -/
def Obligations.FieldsHaltAndRun : Prop :=
  (∀ (src : Source) (s : State), canSet s src 0x2601 0x01 1 = true →
    Leads (.capoHold src) s fun u => Holds 0x2601 0x01 1 u ∧ rd u 0x2601 0x02 = (if rd s 0x2601 0x02 = 0 then 1 else rd s 0x2601 0x02)) ∧
  (∀ (src : Source) (s : State), canSet s src 0x2601 0x01 0 = true →
    Leads (.capoRelease src) s fun u => Holds 0x2601 0x01 0 u ∧ rd u 0x2601 0x02 = rd s 0x2601 0x02) ∧
  (∀ (t : Nat) (s : State), runs t s = true → rd s 0x2601 0x02 = 1 → rd s 0x2601 0x01 = 1 →
    Leads (.capoBoundary t) s fun u => rd u 0x2601 0x02 = 2 ∧ rd u 0x2601 0x03 = aclk (at_ t s) ∧ ∀ f, f < 24 → (fieldOf u f).frozenAt.isSome = true) ∧
  (∀ (t : Nat) (s : State), runs t s = true → rd s 0x2601 0x02 = 2 → rd s 0x2601 0x01 = 0 →
    Leads (.capoBoundary t) s fun u => rd u 0x2601 0x02 = 0 ∧ ∀ f, f < 24 → fieldRunReg s f = 1 → (fieldOf u f).frozenAt = none) ∧
  (∀ (src : Source) (f : FieldId) (s : State), canSet s src (0x2001 + 0x40 * f.val) 0x00 0 = true →
    Leads (.fieldHalt src f) s fun u => u.answer.status = some .ok ∧ fieldRunReg u f = 0 ∧ (fieldOf u f).frozenAt.isSome = true) ∧
  (∀ (src : Source) (f : FieldId) (s : State), canSet s src (0x2001 + 0x40 * f.val) 0x00 1 = true → domOn s f = true → activeSlot s f ≠ 0xFF →
    Leads (.fieldRun src f) s fun u => u.answer.status = some .ok ∧ fieldRunReg u f = 1 ∧ (capoHeld s = false → (fieldOf u f).frozenAt = none)) ∧
  (∀ (src : Source) (f : FieldId) (s : State), canSet s src (0x2002 + 0x40 * f.val) 0x00 1 = true → fieldRunReg s f ≠ 1 →
    Leads (.fieldClear src f) s fun u => u.answer.status = some .ok ∧ (fieldOf u f).bus = [] ∧
      ∀ c, (cellOf (fieldOf u f) c).skids = [] ∧ (cellOf (fieldOf u f) c).win = [] ∧
        (cellOf (fieldOf u f) c).banked = (cellOf (fieldOf (fieldNow (start s) f) f) c).banked ∧ (cellOf (fieldOf u f) c).shared = (cellOf (fieldOf (fieldNow (start s) f) f) c).shared) ∧
  (∀ (src : Source) (f : FieldId) (slot : Nat) (s : State), canSet s src 0x1702 (f.val + 1) slot = true → fieldRunReg s f = 0 → activeSlot s f = 0xFF →
    (slotOf (fieldOf s f) (slot % 256)).st = 2 →
    Leads (.activateSlot src f slot) s fun u =>
      u.answer.status = some .ok ∧ activeSlot u f = slot % 256 ∧ (slotOf (fieldOf u f) (slot % 256)).st = 3)

/-- ITEM, ITEM_END, POP and PEEK act on the queue that serves the core.
While the clocks run, on a queue that serves the core in the direction asked for, with what the cycles of a flush have brought by then: an ITEM store that the write side takes adds the item behind the bytes of the partly filled word, or completes that word, and ends no packet; an ITEM_END store completes the word and adds one packet; a POP of a readable word answers its tag and puts its data in the latch, and without one answers the idle tag 0x200 with latch 0; a PEEK answers the same tag and changes no queue. -/
def Obligations.QueuePortAccesses : Prop :=
  (∀ (t : Nat) (q : QueueId) (n : CoreId) (v : Nat) (s : State), runs t s = true → portServed s q n true = true →
    let z := queueNow (at_ t s) q
    qFlushing z q = false → qReady z q = true →
    let x := queueOf z q
    let w := qItemBytes s q
    Leads (.queueItemWrite t q n v) s fun u => u.answer.status = some .ok ∧ qPackets u q = qPackets s q ∧
      (x.partBytes + w < 16 → (queueOf u q).partBytes = x.partBytes + w ∧ (queueOf u q).partData = x.partData + (v % 2 ^ (8 * w)) * 2 ^ (8 * x.partBytes) ∧
        qWords (queueOf u q) = qWords x) ∧
      (16 ≤ x.partBytes + w → (queueOf u q).partBytes = 0 ∧ qWords (queueOf u q) = qWords x + 1)) ∧
  (∀ (t : Nat) (q : QueueId) (n : CoreId) (v : Nat) (s : State), runs t s = true → portServed s q n true = true →
    let z := queueNow (at_ t s) q
    qFlushing z q = false → qReady z q = true →
    Leads (.queueItemEndWrite t q n v) s fun u => u.answer.status = some .ok ∧ qPackets u q = qPackets s q + 1 ∧
      (queueOf u q).partBytes = 0 ∧ qWords (queueOf u q) = qWords (queueOf z q) + 1) ∧
  (∀ (t : Nat) (q : QueueId) (n : CoreId) (s : State), runs t s = true → portServed s q n false = true →
    Leads (.queuePop t q n) s fun u => u.answer.status = some .ok ∧
      match qHead (at_ t s) q with
      | some w => u.answer.value = qTag s q w ∧ (queueOf u q).latch = w.data ∧ qWords (queueOf u q) + 1 = qWords (queueOf s q)
      | none => u.answer.value = 0x200 ∧ (queueOf u q).latch = 0 ∧ qWords (queueOf u q) = qWords (queueOf s q)) ∧
  (∀ (t : Nat) (q : QueueId) (n : CoreId) (s : State), runs t s = true → portServed s q n false = true →
    Leads (.queuePeek t q n) s fun u => u.answer.status = some .ok ∧ u.queues = s.queues ∧ u.obj = s.obj ∧
      u.answer.value = (match qHead (at_ t s) q with | some w => qTag s q w | none => 0x200))

/-- Edge ports and the spill region move tokens and words.
While the clocks run: an input edge port of an ON queue that has a token at hand, has delivered none in the ACLK, is not held by the capo and finds the end of its path ready delivers that token, notes the ACLK, and keeps the tokens after it: the token enters what lies at the end of the path, and the first token of a word takes the word out of the queue; an output edge port whose queue is ready writes the token it holds as one item of the queue, its data as the item and its end mark as the item's, and holds none. Where the oldest word of the tail must go to the spill region, which has room, a spill write is issued to its bank, and where the head has room for the oldest word of the region a spill read is: one of each kind at a time, counted as outstanding and last in the bank's queue. What a granted spill write does: the word lies at the write pointer of the region and is listed there; what a granted spill read does: the word, with the data that bank memory holds, is the last of the head stage, from where words of the tail may follow it. -/
def Obligations.EdgePortsAndSpill : Prop :=
  (∀ (t : Nat) (q : QueueId) (k : Word × Bool) (r : List (Word × Bool)) (s : State), runs t s = true → qIsInput q = true → qState s q = 2 → capoHeld s = false →
    (queueOf s q).portAt ≠ aclk (at_ t s) + 1 → endReady (at_ t s) none (edgeInEnd (at_ t s) q) = true → edgeInTokens (at_ t s) q = k :: r →
    Leads (.edgePortInputToken t q) s fun u => (queueOf u q).portAt = aclk (at_ t s) + 1 ∧ (queueOf u q).rest = r ∧
      Delivered (at_ t s) u (edgeInEnd (at_ t s) q) { data := k.1, last := k.2 } none ∧
      (qFarEnd s q ≠ 4 → qWords (queueOf s q) = qWords (queueOf u q) + boolNat (queueOf s q).rest.isEmpty)) ∧
  (∀ (t : Nat) (p : Fin 32) (h : Held) (s : State), runs t s = true → tabFind s.arr.edgeOut p = some h → capoHeld s = false →
    let z := queueNow (at_ t s) (32 + p)
    qFlushing z (32 + p) = false → qReady z (32 + p) = true →
    let x := queueOf z (32 + p)
    let w := qItemBytes s (32 + p)
    Leads (.edgePortOutputToken t p) s fun u => tabFind u.arr.edgeOut p = none ∧
      qPackets u (32 + p) = qPackets s (32 + p) + boolNat h.tok.last ∧
      (h.tok.last = false ∧ x.partBytes + w < 16 → (queueOf u (32 + p)).partBytes = x.partBytes + w ∧ qWords (queueOf u (32 + p)) = qWords x ∧
        (queueOf u (32 + p)).partData = x.partData + (h.tok.data.toNat % 2 ^ (8 * w)) * 2 ^ (8 * x.partBytes)) ∧
      (h.tok.last = true ∨ 16 ≤ x.partBytes + w → (queueOf u (32 + p)).partBytes = 0 ∧
        qAll (queueOf u (32 + p)) = qAll x ++ [{ data := x.partData + (h.tok.data.toNat % 2 ^ (8 * w)) * 2 ^ (8 * x.partBytes), valid := x.partBytes + w, last := h.tok.last, readable := nclk (at_ t s) + 2 }])) ∧
  (∀ (t : Nat) (q : QueueId) (w : QWord) (r : List QWord) (s : State), runs t s = true → (queueOf s q).tail = w :: r → qState s q = 2 →
    let x := queueOf s q
    let a := qSpillBase s q + x.spillWrite
    let b := a % 0x20000000 / 0x100000
    qFlushing (at_ t s) q = false → x.writing = false → x.spill.length < qSpillLength s q / 16 → (x.spill ≠ [] ∨ 8 ≤ x.head.length) →
    regionOn s 8 (qSpillBase s q) (qSpillLength s q) = true →
    Leads (.spillWrite t q) s fun u => (queueOf u q).writing = true ∧ rd u (qs q) 0x09 = rd s (qs q) 0x09 + 1 ∧
      tabGet [] u.noc.banks b = tabGet [] s.noc.banks b ++ [{ code := 4, ni := 8, tag := 0xFF, since := nclk (at_ t s), spill := some { queue := q, write := true, addr := a, data := w.data } }]) ∧
  (∀ (t : Nat) (q : QueueId) (w : QWord) (r : List QWord) (s : State), runs t s = true → (queueOf s q).spill = w :: r → qState s q = 2 →
    let x := queueOf s q
    let a := qSpillBase s q + x.spillRead
    let b := a % 0x20000000 / 0x100000
    qFlushing (at_ t s) q = false → x.reading = false → x.head.length < 8 → regionOn s 8 (qSpillBase s q) (qSpillLength s q) = true →
    Leads (.spillRead t q) s fun u => (queueOf u q).reading = true ∧ rd u (qs q) 0x09 = rd s (qs q) 0x09 + 1 ∧
      tabGet [] u.noc.banks b = tabGet [] s.noc.banks b ++ [{ code := 4, ni := 8, tag := 0xFF, since := nclk (at_ t s), spill := some { queue := q, write := false, addr := a } }]) ∧
  (∀ (a : SpillAccess) (w : QWord) (r : List QWord) (s : State), a.write = true → a.stale = false → (queueOf s a.queue).tail = w :: r →
    let u := spillDone s a
    let x := queueOf s a.queue
    (queueOf u a.queue).spill = x.spill ++ [w] ∧ (queueOf u a.queue).tail = r ∧ (queueOf u a.queue).writing = false ∧
      (queueOf u a.queue).spillWrite = (x.spillWrite + 16) % qSpillLength s a.queue ∧ memNat u a.addr 16 = a.data % 256 ^ 16 ∧
      rd u (qs a.queue) 0x09 = rd s (qs a.queue) 0x09 - 1) ∧
  (∀ (a : SpillAccess) (w : QWord) (r : List QWord) (s : State), a.write = false → a.stale = false → (queueOf s a.queue).spill = w :: r →
    let u := spillDone s a
    let x := queueOf s a.queue
    (queueOf u a.queue).spill = r ∧ (queueOf u a.queue).reading = false ∧ (queueOf u a.queue).spillRead = (x.spillRead + 16) % qSpillLength s a.queue ∧
      rd u (qs a.queue) 0x09 = rd s (qs a.queue) 0x09 - 1 ∧
      ∃ l, (queueOf u a.queue).head = x.head ++ { w with data := memNat s a.addr 16, readable := nclk s + 2 } :: l)

/-- DMA far ends read and write ring records.
While the clocks run, on an ON DMA queue whose part of the ring the network lets through: an input DMA that finds a record whose length is 0 or no whole number of items, or which reaches past DmaHostIndex, stops and counts it. Otherwise, with items of the record left and a write side that takes the next one, some of those items, at least one, are written in order: the bytes that the queue holds are those it held, with the next bytes of the record behind them, as the ring holds them from 16 bytes past DmaEngineIndex on; the last item ends a packet, and DmaEngineIndex moves past the record exactly when all of them are written. During a flush all of them are dropped, and the index moves past the record. An output DMA with a readable word and room for it in the ring takes words of the packet at the head, at least one, out of the queue, and the ring holds their data one after another behind the 16-byte header of the unpublished record; once the last word of the packet is among them the header holds the length and the flush flag, and DmaEngineIndex moves past the record. A DmaHostIndex inside the ring and on 16 bytes is taken, and a stopped record is tried again. The data of a partly filled word has as many bytes as it counts: an item that is written keeps it so. -/
def Obligations.QueueRings : Prop :=
  (∀ (t : Nat) (q : QueueId) (s : State), runs t s = true → dmaReady s q = true → qIsInput q = true → (queueOf s q).dmaStopped = false → engineIndex s q ≠ hostIndex s q →
    let size := ringSize s q
    let e := engineIndex s q
    let n := leNat (ringRead s (ringBase s q) size e 4)
    let avail := (hostIndex s q + size - e) % size
    let len := 16 + (n + 15) / 16 * 16
    (n = 0 ∨ n % qItemBytes s q ≠ 0 ∨ avail < len) → dmaGate (at_ t s) q e (min len avail) = .clear →
    Leads (.dmaInputRecord t q) s fun u => (queueOf u q).dmaStopped = true ∧ engineIndex u q = e ∧ rd u (qs q) 0x0D = satAdd 0xFFFF (rd s (qs q) 0x0D) 1) ∧
  (∀ (t : Nat) (q : QueueId) (s : State), runs t s = true → dmaReady s q = true → qIsInput q = true → (queueOf s q).dmaStopped = false → engineIndex s q ≠ hostIndex s q →
    let size := ringSize s q
    let e := engineIndex s q
    let n := leNat (ringRead s (ringBase s q) size e 4)
    let avail := (hostIndex s q + size - e) % size
    let len := 16 + (n + 15) / 16 * 16
    let w := qItemBytes s q
    let pos := (queueOf s q).dmaPos
    let z := queueNow (at_ t s) q
    ¬ (n = 0 ∨ n % w ≠ 0 ∨ avail < len) → dmaGate (at_ t s) q e (min len avail) = .clear →
    pos < n / w → qFlushing z q = false → qReady z q = true → (queueOf s q).partData < 256 ^ (queueOf s q).partBytes →
    Leads (.dmaInputRecord t q) s fun u => ∃ k, 0 < k ∧ pos + k ≤ n / w ∧
      qBytes (queueOf u q) = qBytes (queueOf s q) ++ ringRead s (ringBase s q) size (e + 16 + w * pos) (w * k) ∧
      (pos + k = n / w → engineIndex u q = (e + len) % size ∧ (queueOf u q).dmaPos = 0 ∧ qPackets u q = qPackets s q + 1) ∧
      (pos + k < n / w → engineIndex u q = e ∧ (queueOf u q).dmaPos = pos + k ∧ qPackets u q = qPackets s q)) ∧
  (∀ (t : Nat) (q : QueueId) (s : State), runs t s = true → dmaReady s q = true → qIsInput q = true → (queueOf s q).dmaStopped = false → engineIndex s q ≠ hostIndex s q →
    let size := ringSize s q
    let e := engineIndex s q
    let n := leNat (ringRead s (ringBase s q) size e 4)
    let avail := (hostIndex s q + size - e) % size
    let len := 16 + (n + 15) / 16 * 16
    ¬ (n = 0 ∨ n % qItemBytes s q ≠ 0 ∨ avail < len) → dmaGate (at_ t s) q e (min len avail) = .clear →
    (queueOf s q).dmaPos < n / qItemBytes s q → qFlushing (queueNow (at_ t s) q) q = true →
    Leads (.dmaInputRecord t q) s fun u =>
      engineIndex u q = (e + len) % size ∧ (queueOf u q).dmaPos = 0 ∧ qBytes (queueOf u q) = qBytes (queueOf s q) ∧ qPackets u q = qPackets s q) ∧
  (∀ (t : Nat) (q : QueueId) (w : QWord) (s : State), runs t s = true → dmaReady s q = true → qIsInput q = false → qHead (at_ t s) q = some w →
    let size := ringSize s q
    let e := engineIndex s q
    let pos := (queueOf s q).dmaPos
    let room := (hostIndex s q + size - e - 1) % size + 1
    16 + 16 * (pos + 1) + 32 ≤ room → dmaGate (at_ t s) q e (16 + 16 * (pos + 1)) = .clear →
    Leads (.dmaOutputRecord t q) s fun u => ∃ (l : List QWord) (d : QWord), qAll (queueOf s q) = l ++ d :: qAll (queueOf u q) ∧ (∀ x, x ∈ l → x.last = false) ∧
      ringRead u (ringBase s q) size (e + 16 + 16 * pos) (16 * (l.length + 1)) = (l ++ [d]).flatMap (fun x => leBytes 16 x.data) ∧
      (d.last = true → (queueOf u q).dmaPos = 0 ∧ (queueOf u q).dmaFlushSeen = false ∧ engineIndex u q = (e + 16 + 16 * (pos + l.length + 1)) % size ∧
        ringRead u (ringBase s q) size e 16 = leBytes 4 (16 * (pos + l.length) + d.valid) ++ leBytes 4 (boolNat (queueOf s q).dmaFlushSeen) ++ leBytes 8 0) ∧
      (d.last = false → engineIndex u q = e ∧ (queueOf u q).dmaPos = pos + l.length + 1)) ∧
  (∀ (src : Source) (q : QueueId) (v : Nat) (s : State), canSet s src (qc q) 0x0B v = true → v % 2 ^ 32 % 16 = 0 → v % 2 ^ 32 < ringSize s q →
    Leads (.dmaHostIndexWrite src q v) s fun u => Holds (qc q) 0x0B (v % 2 ^ 32) u ∧ (queueOf u q).dmaStopped = false) ∧
  (∀ (q v : Nat) (last : Bool) (s : State), (queueOf s q).partData < 256 ^ (queueOf s q).partBytes →
    (queueOf (qWriteItem s q v last) q).partData < 256 ^ (queueOf (qWriteItem s q v last) q).partBytes)

/-- A flush empties the queue, and staged spill regions are applied.
A write of 1 or 2 to Flush that is performed at once, on an ON queue with no flush under way, leaves no word, no item and no packet in it, and starts the flush in the NCLK of the write. From the fourth NCLK after that one the flush completes: Flush reads 0, and a staged region is the active one where Flush was 2 or the queue holds nothing. A SpillBase or SpillLength that meets R111 is held, and is active at once while the queue is OFF; a staged region becomes active once the queue holds nothing and no spill access is outstanding, and by a write of 2 from the third NCLK after the write on, whatever the queue holds. -/
def Obligations.QueueFlushes : Prop :=
  (∀ (src : Source) (q : QueueId) (s : State), canSet s src (qc q) 0x07 1 = true → qState s q = 2 → qFlushing (start s) q = false →
    Leads (.queueFlush src q) s fun u => Holds (qc q) 0x07 1 u ∧ qTotal (queueOf u q) = 0 ∧ qPackets u q = 0 ∧ (queueOf u q).flushing = nclk s + 1) ∧
  (∀ (src : Source) (q : QueueId) (s : State), canSet s src (qc q) 0x07 2 = true → qState s q = 2 → qFlushing (start s) q = false →
    Leads (.queueFlushApply src q) s fun u => Holds (qc q) 0x07 2 u ∧ qTotal (queueOf u q) = 0 ∧ qPackets u q = 0 ∧ (queueOf u q).flushing = nclk s + 1) ∧
  (∀ (t : Nat) (q : QueueId) (s : State), runs t s = true → qState s q = 2 → (queueOf s q).flushing ≠ 0 → (queueOf s q).flushing + 3 ≤ nclk (at_ t s) →
    Leads (.flushComplete t q) s fun u => (queueOf u q).flushing = 0 ∧ rd u (qc q) 0x07 = 0 ∧
      ((rd s (qc q) 0x07 = 2 ∨ (qTotal (queueOf s q) = 0 ∧ rd s (qs q) 0x09 = 0)) → qSpillBase u q = rd s (qc q) 0x05 ∧ qSpillLength u q = rd s (qc q) 0x06)) ∧
  (∀ (src : Source) (q : QueueId) (length : Bool) (v : Nat) (s : State), canSet s src (qc q) (if length then 0x06 else 0x05) v = true →
    spillRegionOk s q (if length then rd s (qc q) 0x05 else v % 2 ^ 32) (if length then v % 2 ^ 32 else rd s (qc q) 0x06) = true →
    Leads (.spillRegionWrite src q length v) s fun u => Holds (qc q) (if length then 0x06 else 0x05) (v % 2 ^ 32) u ∧
      (if qState s q = 0 then (if length then qSpillLength u q else qSpillBase u q) = v % 2 ^ 32
       else qSpillLength u q = qSpillLength (queueNow (start s) q) q ∧ qSpillBase u q = qSpillBase (queueNow (start s) q) q)) ∧
  (∀ (t : Nat) (q : QueueId) (s : State), runs t s = true → qState s q ≠ 0 → qFlushing (at_ t s) q = false → qLengthPending s q = true →
    qTotal (queueOf s q) = 0 → rd s (qs q) 0x09 = 0 →
    Leads (.stagedRegionApply t q) s fun u => qSpillBase u q = rd s (qc q) 0x05 ∧ qSpillLength u q = rd s (qc q) 0x06) ∧
  (∀ (t : Nat) (q : QueueId) (s : State), runs t s = true → qState s q = 2 → (queueOf s q).flushing ≠ 0 → (queueOf s q).flushing + 2 ≤ nclk (at_ t s) → rd s (qc q) 0x07 = 2 →
    Leads (.stagedRegionApply t q) s fun u => qSpillBase u q = rd s (qc q) 0x05 ∧ qSpillLength u q = rd s (qc q) 0x06 ∧ rd u (qc q) 0x07 ≠ 2)

/-- Queues start and stop.
Enable 1 on an OFF queue whose checks pass and whose claim is free enters STARTING; 8 NCLK later the queue is ON, or goes on to STOPPING when a stop is latched. Enable 0 on an ON queue enters STOPPING with nothing held; on a starting queue it latches the stop. Four NCLK later a stopping queue with no restart asked for is OFF and holds no resource; with a restart whose checks pass it is STARTING. -/
def Obligations.QueuesStartAndStop : Prop :=
  (∀ (src : Source) (q : QueueId) (s : State), canSet s src (qc q) 0x01 1 = true → qState s q = 0 → queueChecks s q = .ok →
    claimConflict s (queueHolder q) (queueClaims s q) = none →
    Leads (.queueEnable src q) s fun u => u.answer.status = some .ok ∧ qState u q = 1 ∧ rd u (qc q) 0x01 = 1 ∧ rd u (qs q) 0x0E = 0 ∧
      (∀ r, r ∈ queueClaims s q → holder u r = queueHolder q)) ∧
  (∀ (src : Source) (q : QueueId) (s : State), canSet s src (qc q) 0x01 0 = true →
    Leads (.queueDisable src q) s fun u => u.answer.status = some .ok ∧ rd u (qc q) 0x01 = 0 ∧
      (qState s q = 2 → qState u q = 3 ∧ qTotal (queueOf u q) = 0 ∧ qPackets u q = 0) ∧ (qState s q = 1 → qState u q = 1 ∧ (queueOf u q).stopLatched = true)) ∧
  (∀ (t : Nat) (q : QueueId) (s : State), runs t s = true → qState s q = 1 → stamp s (qs q) 0x01 + 16000 ≤ (at_ t s).now →
    Leads (.queueStartComplete t q) s fun u => qState u q = (if (queueOf s q).stopLatched then 3 else 2)) ∧
  (∀ (t : Nat) (q : QueueId) (s : State), runs t s = true → qState s q = 3 → stamp s (qs q) 0x01 + 8000 ≤ (at_ t s).now → rd s (qs q) 0x09 = 0 →
    Leads (.queueStopComplete t q) s fun u =>
      (rd s (qs q) 0x02 ≠ 1 → qState u q = 0 ∧ ∀ r, r < 0x74 → holder u r ≠ queueHolder q) ∧
      (rd s (qs q) 0x02 = 1 → queueChecks s q = .ok → qState u q = 1))

/-- Levels pass the filter, encoders count edges and take the index, generators strobe, and counts go to AON and back.
While the clocks run, with nothing of a ball under way and no AON count: a new level of A, B or Z is on its way, to be taken Filter + 2 ACLK later. A level under way whose ACLK has come is taken first by the next command: one changed level of A or B that counts moves Position of an ON encoder by the count of the mode, turned round by Invert, modulo 2^48, and sets Direction; above HighWater it moves that too, and the line generators look at the position two ACLK later, where the one on this encoder whose boundary is reached strobes its line. A rise of Z on an ON encoder with IndexEnable 1 copies Position into IndexPosition. An ON encoder hands its position to AON once ACLK has stopped with SYS kept; the AON counter counts in the mode it took over; when ACLK runs again Position takes the AON value. A PositionPreset write of an OFF encoder sets Position and HighWater. That the highest position passed in AON does not enter HighWater is the model's choice (log entry 137). An edge is sampled by the command that sends it and acts with the next one (log entries 10 and 137), the hand-offs have commands of their own (log entry 109), and a count in AON leaves Direction as it is (log entry 135). -/
def Obligations.EncodersCount : Prop :=
  (∀ (t : Nat) (e : EncId) (a b : Bool) (s : State), runs t s = true →
    let x := encoderOf s e
    let due := aclk (at_ t s) + 2 + rd s (ex e) 0x04
    x.aon = none → s.print.pipe.all (fun i => (levelOfA e i.kind).isNone && (levelOfB e i.kind).isNone) = true → (x.a = a ∨ x.b = b) →
    Leads (.quadratureCount t e a b) s fun u => u.obj = s.obj ∧ u.print.encoders = s.print.encoders ∧ u.print.pipe = s.print.pipe ++
      (if x.a = a then [] else [{ due := due, kind := .encA e a }]) ++ (if x.b = b then [] else [{ due := due, kind := .encB e b }])) ∧
  (∀ (t : Nat) (e : EncId) (z : Bool) (s : State), runs t s = true → s.print.pipe = [] → (encoderOf s e).z ≠ z → (∀ k, k < 24 → rd s (tx k) 0x02 ≠ e.val + 1) →
    Leads (.encoderIndex t e z) s fun u => u.obj = s.obj ∧ u.print.pipe = [{ due := aclk (at_ t s) + 2 + rd s (ex e) 0x04, kind := .encZ e z }]) ∧
  (∀ (t c : Nat) (e : EncId) (a : Bool) (s : State), s.print.pipe = [{ due := c, kind := .encA e a }] → c ≤ aclkAt (start s) t → encState s e = 2 →
    let x := encoderOf s e
    let d := quadStep (rd s (ex e) 0x02) x.a x.b a x.b * (if rd s (ex e) 0x03 = 1 then -1 else 1)
    x.a ≠ a → d ≠ 0 → posDiff (wrapInt 48 ((encPos s e : Int) + d)) (encHigh s e) ≤ 0 →
    let u := arrive t s
    encPos u e = wrapInt 48 ((encPos s e : Int) + d) ∧ encHigh u e = encHigh s e ∧ rd u (ex e) 0x0A = (if 0 < d then 0 else 1) ∧ (encoderOf u e).a = a ∧ u.print.pipe = []) ∧
  (∀ (e : EncId) (a b : Bool) (s : State), encState s e = 2 →
    let x := encoderOf s e
    let d := quadStep (rd s (ex e) 0x02) x.a x.b a b * (if rd s (ex e) 0x03 = 1 then -1 else 1)
    let pos := wrapInt 48 ((encPos s e : Int) + d)
    let up := decide (0 < posDiff pos (encHigh s e))
    (x.a = a ∨ x.b = b) → d ≠ 0 →
    let u := quadTaken s e a b
    encPos u e = pos ∧ rd u (ex e) 0x0A = (if 0 < d then 0 else 1) ∧ (encoderOf u e).a = a ∧ (encoderOf u e).b = b ∧
      encHigh u e = (if up then pos else encHigh s e) ∧
      u.print.pipe = s.print.pipe ++ (if up then [{ due := aclk s + 2, kind := .strobe e pos }] else [])) ∧
  (∀ (e : EncId) (g : GenId) (pos : Nat) (s : State), genEnabled s g = true → genEncoder s g = e → reached pos (boundary s g (genNext s g)) = true →
    (∀ h, h < 4 → h ≠ g.val → genEncoder s h ≠ e.val) →
    let u := strobes s e pos
    genLine u g = wrapInt 32 (genNext s g) ∧ genNext u g = genNext s g + 1) ∧
  (∀ (e : EncId) (s : State), encState s e = 2 → (encoderOf s e).z = false → rd s (ex e) 0x05 = 1 →
    let u := indexEdge s e true
    rd u (ex e) 0x09 = encPos s e ∧ (encoderOf u e).z = true) ∧
  (∀ (t : Nat) (e : EncId) (a b : Bool) (v : Nat) (s : State), sysRuns s = false → calm t s = true →
    let x := encoderOf s e
    let d := quadStep x.aonMode x.a x.b a b * (if x.aonInvert = 1 then -1 else 1)
    x.aon = some v → (x.a = a ∨ x.b = b) → d ≠ 0 →
    Leads (.aonCount t e a b) s fun u => (encoderOf u e).aon = some (wrapInt 48 ((v : Int) + d)) ∧ (encoderOf u e).a = a ∧ (encoderOf u e).b = b ∧ u.obj = s.obj) ∧
  (∀ (t : Nat) (e : EncId) (s : State), calm t s = true → domOn s 41 = true → sysRuns s = false → encState s e = 2 → (encoderOf s e).aon = none →
    s.print.pipe.all (fun i => (levelOfA e i.kind).isNone && (levelOfB e i.kind).isNone) = true →
    Leads (.handoffToAon t e) s fun u => (encoderOf u e).aon = some (encPos s e) ∧ (encoderOf u e).aonMode = rd s (ex e) 0x02 ∧ (encoderOf u e).aonInvert = rd s (ex e) 0x03) ∧
  (∀ (t : Nat) (e : EncId) (v : Nat) (s : State), runs t s = true → encState s e = 2 → (encoderOf s e).aon = some v →
    Leads (.handoffFromAon t e) s fun u => encPos u e = v ∧ (encoderOf u e).aon = none ∧
      encHigh u e = (if 0 < posDiff v (encHigh s e) then v else encHigh s e)) ∧
  (∀ (src : Source) (e : EncId) (v : Nat) (s : State), canSet s src (ex e) 0x07 v = true → encState s e = 0 →
    Leads (.positionPreset src e v) s fun u => Holds (ex e) 0x07 (v % 2 ^ 64) u ∧ encPos u e = v % 2 ^ 64 ∧ encHigh u e = v % 2 ^ 64)

/-- Encoders start and stop.
Enable 1 on an OFF encoder whose claim is free enters STARTING; 16 ACLK later it is ON with Direction 0, or goes on to STOPPING when a stop is latched. Enable 0 on an ON encoder enters STOPPING; on a starting one it latches the stop. Four ACLK later it is OFF and holds no resource, or STARTING when a restart is pending. -/
def Obligations.EncodersStartAndStop : Prop :=
  (∀ (src : Source) (e : EncId) (s : State), canSet s src (ex e) 0x01 1 = true → encState s e = 0 →
    claimConflict s (encHolder e) (if rd s (ex e) 0x05 == 1 then [0x50 + e] else []) = none →
    Leads (.encoderEnable src e) s fun u => Holds (ex e) 0x01 1 u ∧ encState u e = 1 ∧ rd u (ex e) 0x11 = 0 ∧
      (rd s (ex e) 0x05 = 1 → holder u (0x50 + e) = encHolder e)) ∧
  (∀ (src : Source) (e : EncId) (s : State), canSet s src (ex e) 0x01 0 = true →
    Leads (.encoderDisable src e) s fun u => Holds (ex e) 0x01 0 u ∧ (encState s e = 2 → encState u e = 3) ∧
      (encState s e = 1 → encState u e = 1 ∧ (encoderOf u e).stopLatched = true)) ∧
  (∀ (t : Nat) (e : EncId) (s : State), runs t s = true → encState s e = 1 → stamp s (ex e) 0x0C + 16000 ≤ (at_ t s).now →
    Leads (.encoderStartComplete t e) s fun u => encState u e = (if (encoderOf s e).stopLatched then 3 else 2) ∧ rd u (ex e) 0x0A = 0) ∧
  (∀ (t : Nat) (e : EncId) (s : State), runs t s = true → encState s e = 3 → stamp s (ex e) 0x0C + 4000 ≤ (at_ t s).now →
    Leads (.encoderStopComplete t e) s fun u =>
      (rd s (ex e) 0x0D = 1 → encState u e = 1) ∧ (rd s (ex e) 0x0D ≠ 1 → encState u e = 0 ∧ ∀ r, r < 0x74 → holder u r ≠ encHolder e))

/-- Line generators and triggers are switched, an edge makes a record, and a record retires.
Enabling a generator whose encoder is ON sets its next line to the first above HighWater; disabling one that is not in use succeeds. An edge of TRIGt, against the level that the trigger's filter has taken last, is on its way to the trigger whose input it is, to be taken Filter + 2 ACLK later (before the first edge of a ball the opposite level counts as standing: log entry 137); a sample of the level taken last brings nothing. An edge taken by an enabled trigger in its active direction, with the table not full, adds one record with the next product_id and notes the position; one below HighWater or within Lockout of the last accepted one is counted and adds none; an edge in the other direction does nothing. Enabling a trigger whose checks pass and whose claim is free, and disabling one, succeed, and a disabled one holds no resource. A record whose encoder is seen at its retire position leaves the table; its slot is counted as in use until the next ACLK. -/
def Obligations.GeneratorsAndTriggers : Prop :=
  (∀ (src : Source) (g : GenId) (s : State), canSet s src (gx g) 0x01 1 = true → genEnabled s g = false → encState s (genEncoder s g) = 2 →
    Leads (.lineGenEnable src g) s fun u => Holds (gx g) 0x01 1 u ∧ genNext u g = lineAbove s g (encHigh s (genEncoder s g))) ∧
  (∀ (src : Source) (g : GenId) (s : State), canSet s src (gx g) 0x01 0 = true → (genEnabled s g && genInUse s g) = false →
    Leads (.lineGenDisable src g) s fun u => Holds (gx g) 0x01 0 u) ∧
  (∀ (t : Nat) (k : TrigId) (rising : Bool) (s : State), runs t s = true → rd s (tx k) 0x02 = 0 → s.print.pipe.all (fun i => (levelOfTrig k i.kind).isNone) = true →
    Leads (.triggerEdge t k rising) s fun u => u.obj = s.obj ∧ u.print.products = s.print.products ∧
      u.print.pipe = s.print.pipe ++ (if tabFind s.print.trigLevel (trigKey s k) = some (boolNat rising) then [] else [{ due := aclk (at_ t s) + 2 + rd s (tx k) 0x04, kind := .trig k rising }])) ∧
  (∀ (t c : Nat) (k : TrigId) (s : State), s.print.pipe = [{ due := c, kind := .trig k true }] → c ≤ aclkAt (start s) t → rd s (tx k) 0x01 = 1 → rd s (tx k) 0x03 = 0 →
    (posDiff (encPos s (trigEncoder s k)) (encHigh s (trigEncoder s k)) < 0) →
    let u := arrive t s
    u.print.products = s.print.products ∧ rd u (tx k) 0x12 = satAdd 0xFFFF (rd s (tx k) 0x12) 1) ∧
  (∀ (k : TrigId) (s : State), rd s (tx k) 0x01 = 1 →
    let e := trigEncoder s k
    let near := match tabFind s.print.accepted k with | some q => decide ((posDiff (encPos s e) q).natAbs ≤ rd s (tx k) 0x08) | none => false
    let u := triggerEdge s k (rd s (tx k) 0x03 == 0)
    triggerEdge s k (rd s (tx k) 0x03 != 0) = s ∧
    ((posDiff (encPos s e) (encHigh s e) < 0 ∨ near = true) →
      u.print.products = s.print.products ∧ rd u (tx k) 0x12 = satAdd 0xFFFF (rd s (tx k) 0x12) 1) ∧
    (0 ≤ posDiff (encPos s e) (encHigh s e) → near = false → liveSlots s < 1024 →
      u.print.products.length = s.print.products.length + 1 ∧ u.print.lastId = nextId s ∧ tabFind u.print.accepted k = some (encPos s e))) ∧
  (∀ (src : Source) (k : TrigId) (s : State), canSet s src (tx k) 0x01 1 = true → rd s (tx k) 0x01 ≠ 1 → trigChecks s k = .ok →
    claimConflict s (trigHolder k) (if rd s (tx k) 0x02 == 0 then [] else [0x50 + (rd s (tx k) 0x02 - 1)]) = none →
    Leads (.triggerEnable src k) s fun u => Holds (tx k) 0x01 1 u ∧ rd u (tx k) 0x14 = 0 ∧
      (rd s (tx k) 0x02 ≠ 0 → holder u (0x50 + (rd s (tx k) 0x02 - 1)) = trigHolder k)) ∧
  (∀ (src : Source) (k : TrigId) (s : State), canSet s src (tx k) 0x01 0 = true →
    Leads (.triggerDisable src k) s fun u => Holds (tx k) 0x01 0 u ∧ ∀ r, r < 0x74 → holder u r ≠ trigHolder k) ∧
  (∀ (t id : Nat) (p : Product) (s : State), runs t s = true → findProduct s id = some p → reached (encSeen (at_ t s) p.enc) p.retirePos = true →
    Leads (.productRetire t id) s fun u => findProduct u id = none ∧ u.print.retiredAt = aclk (at_ t s) + 1 ∧ 0 < u.print.retiredNow)

/-- Map writes go to the inactive copy, and the copies change at SwitchLine.
Outside a pair or SOLO, with no change waiting and no switch pending: a MapEdit of an allowed entry that differs sets the switch for MapLead lines on, and, with the field of the map ON, the inactive copy then holds the new entry and otherwise what the active copy held; a MapImage that differs does the same with every entry it carries. An edit that alters nothing starts no switch: the model's choice (log entry 134). Once the generator has strobed SwitchLine the other copy is the active one, and with nothing waiting no switch is pending. -/
def Obligations.NozzleMapChanges : Prop :=
  (∀ (src : Source) (b : BarId) (v : Nat) (s : State), canSet s src (bx b 4) 0x07 v = true → alone s = true → rd s (bx b 4) 0x05 ≠ 1 → (barOf s b).changes = [] →
    let k := bitsOf v 0 14
    let e := v % 2 ^ 64 / 2 ^ 32
    bitsOf v 14 18 = 0 → mapEntryOk e = true → k < nozzles s b →
    Leads (.mapEdit src b v) s fun u => u.answer.status = some .ok ∧ activeCopy u b = activeCopy s b ∧
      (e = mapEntry s b (activeCopy s b) k → rd u (bx b 4) 0x05 = rd s (bx b 4) 0x05 ∧ rd u (bx b 4) 0x04 = rd s (bx b 4) 0x04) ∧
      (e ≠ mapEntry s b (activeCopy s b) k → rd u (bx b 4) 0x05 = 1 ∧ rd u (bx b 4) 0x04 = (genLine s (barGen s b) + rd s (bx b 4) 0x06) % 2 ^ 32 ∧
      (domOn s (rd s (bx b 4) 0x01) = true → ∀ j, j < nozzles s b →
        mapEntry u b (1 - activeCopy s b) j = if j = k then e else mapEntry s b (activeCopy s b) j))) ∧
  (∀ (src : Source) (b : BarId) (bytes : List Byte) (s : State), canPut s src (bx b 4) 0x08 bytes = true → alone s = true → rd s (bx b 4) 0x05 ≠ 1 → (barOf s b).changes = [] →
    0 < nozzles s b → bytes.length = 4 * nozzles s b → (∀ j, j < nozzles s b → mapEntryOk (leAt bytes (4 * j) 4) = true) →
    ((List.range (nozzles s b)).any (fun j => leAt bytes (4 * j) 4 != mapEntry s b (activeCopy s b) j)) = true →
    Leads (.mapImageWrite src b bytes) s fun u => u.answer.status = some .ok ∧ rd u (bx b 4) 0x05 = 1 ∧
      (domOn s (rd s (bx b 4) 0x01) = true → ∀ j, j < nozzles s b → mapEntry u b (1 - activeCopy s b) j = leAt bytes (4 * j) 4)) ∧
  (∀ (t : Nat) (b : BarId) (s : State), runs t s = true → rd s (bx b 4) 0x05 = 1 → 0 ≤ lineDiff (genLine s (barGen s b)) (rd s (bx b 4) 0x04) →
    Leads (.activeCopySwitch t b) s fun u => activeCopy u b = 1 - activeCopy s b ∧ ((barOf s b).changes = [] → rd u (bx b 4) 0x05 = 0))

/-- The fire formatter takes words and launches frames, and bars start and stop.
While the clocks run: a word that the formatter of an ON bar can take goes behind the line in the hold buffer, and the end word of a packet completes a line of the right length, or is discarded, or pays a line of the skip debt. A strobe that an ON bar has a window for sends one frame, 2 ACLK after its header, with the Owner of the header's time: a complete hold buffer is taken, and with none the underrun is counted and the line owed. A launch whose time has come leaves the bar; with the lane in its data state FireFrames counts, otherwise the lost line is counted. Enable 1 on an OFF bar whose checks pass and whose lane is free enters STARTING with the lane held; with the lane in its data state the bar is ON, or goes on to STOPPING when a stop is latched. Enable 0 on an ON bar enters STOPPING with no window open; once its frames are sent it is OFF and holds no resource, or STARTING again. -/
def Obligations.FormatterAndBars : Prop :=
  (∀ (t : Nat) (b : BarId) (q : Nat) (w : QWord) (s : State), runs t s = true → barQueue s b = some q → qHead (at_ t s) q = some w → barState s b = 2 →
    let x := barOf s b
    x.hold ≠ 2 →
    Leads (.formatterWord t b) s fun u =>
      (w.last = false → (barOf u b).hold = 1 ∧ (barOf u b).buf = x.buf ++ leBytes w.valid w.data ∧ (barOf u b).owed = x.owed) ∧
      (w.last = true → (barOf u b).owed = x.owed.tail ∧
        (barOf u b).hold = if x.owed = [] ∧ (x.buf ++ leBytes w.valid w.data).length = nozzles s b / 4 then 2 else 0)) ∧
  (∀ (t : Nat) (b : BarId) (l : Launch) (r : List Launch) (s : State), runs t s = true → (barOf s b).launches = l :: r → l.enterAt ≤ (at_ t s).now →
    Leads (.fireFrameLaunch t b) s fun u => (barOf u b).launches.map (·.line) = r.map (·.line) ∧
      (laneInData s b = true → rd u (bx b 7) 0x01 = (rd s (bx b 7) 0x01 + 1) % 2 ^ 64) ∧
      (laneInData s b = false → rd u (bx b 3) 0x03 = satAdd 0xFFFF (rd s (bx b 3) 0x03) 1)) ∧
  (∀ (b : BarId) (line : Nat) (s : State), barState s b = 2 → (barWindows s b).any (fun e => windowHas e.2 line) = true →
    let x := barOf s b
    let u := barStrobe s b line
    rd u (bx b 2) 0x01 = line ∧ (barOf u b).launches.map (fun l => (l.line, l.enterAt, l.owner)) = x.launches.map (fun l => (l.line, l.enterAt, l.owner)) ++ [(line, s.now + 2000, rd s (bx b 0) 0x07)] ∧
      (x.hold = 2 → (barOf u b).hold = 0 ∧ (barOf u b).buf = [] ∧ (barOf u b).owed = x.owed ∧ rd u (bx b 3) 0x01 = rd s (bx b 3) 0x01) ∧
      (x.hold ≠ 2 → x.owed.length < 65535 → (barOf u b).owed = x.owed ++ [line] ∧ rd u (bx b 3) 0x01 = satAdd 0xFFFF (rd s (bx b 3) 0x01) 1)) ∧
  (∀ (src : Source) (b : BarId) (s : State), canSet s src (bx b 0) 0x01 1 = true → barState s b = 0 → barChecks s b = .ok → claimConflict s (barHolder b) [b.val] = none →
    Leads (.barEnable src b) s fun u => Holds (bx b 0) 0x01 1 u ∧ barState u b = 1 ∧ rd u (bx b 0) 0x06 = 0 ∧ holder u b = barHolder b) ∧
  (∀ (src : Source) (b : BarId) (s : State), canSet s src (bx b 0) 0x01 0 = true →
    Leads (.barDisable src b) s fun u => Holds (bx b 0) 0x01 0 u ∧ (barState s b = 2 → barState u b = 3 ∧ barWindows u b = []) ∧
      (barState s b = 1 → barState u b = 1 ∧ (barOf u b).stopLatched = true)) ∧
  (∀ (t : Nat) (b : BarId) (s : State), runs t s = true → barState s b = 1 → laneInData s b = true →
    Leads (.barStartComplete t b) s fun u => barState u b = if (barOf s b).stopLatched then 3 else 2) ∧
  (∀ (t : Nat) (b : BarId) (s : State), runs t s = true → barState s b = 3 → (barOf s b).launches = [] → laneQuiet (at_ t s) b = true →
    Leads (.barStopComplete t b) s fun u =>
      (rd s (bx b 0) 0x05 ≠ 1 → barState u b = 0 ∧ ∀ r, r < 0x74 → holder u r ≠ barHolder b) ∧
      (rd s (bx b 0) 0x05 = 1 → barChecks s b = .ok → barState u b = 1))

/-- Management requests are sent, answered and timed out, and head frames are taken.
A MgmtRequest of 8 to 256 bytes, with op 1 to 4 and table 0 to 15, with none pending makes MgmtState PENDING with the next sequence number. A MGMT_REPLY that a head lane or a bridge lane delivers, with its CRC, its unit and its length right and the pending sequence, makes it REPLIED with the payload as the reply; after MgmtTimeout it is TIMEOUT. A HEAD_STATUS of 32 bytes that passes its checks sets the status registers of the bar, a NOZZLE_REPORT that passes them sets its cause bit, a frame whose type is none of the three is discarded and counted, and 5 ms without a status on an ON bar are counted. -/
def Obligations.ManagementAndHeads : Prop :=
  (∀ (src : Source) (unit : Fin 30) (bytes : List Byte) (s : State),
    let idx := mgmtIndex unit
    let sub := if unit.val < 24 then 0x01 else 0x11
    canPut s src idx sub bytes = true → 8 ≤ bytes.length → bytes.length ≤ 256 → 1 ≤ leAt bytes 0 1 → leAt bytes 0 1 ≤ 4 → leAt bytes 1 1 ≤ 15 → rd s idx (sub + 2) ≠ 1 →
    Leads (.mgmtRequest src unit bytes) s fun u => u.answer.status = some .ok ∧ rd u idx (sub + 2) = 1 ∧
      (unit.val < 24 → (barOf u unit).mgmtSeq = ((barOf s unit).mgmtSeq + 1) % 2 ^ 32) ∧
      (24 ≤ unit.val → (camOf u (unit - 24)).mgmtSeq = ((camOf s (unit - 24)).mgmtSeq + 1) % 2 ^ 32)) ∧
  (∀ (t : Nat) (unit : Fin 30) (hdr : Nat) (p : List Byte) (s : State), runs t s = true → unit.val < 24 → laneInData s unit = true →
    bitsOf hdr 0 4 = 8 → bitsOf hdr 5 5 = unit.val → bitsOf hdr 10 14 = p.length → rd s (bx unit 5) 0x03 = 1 → bitsOf hdr 32 32 = (barOf s unit).mgmtSeq →
    Leads (.mgmtReply t unit hdr p true) s fun u => rd u (bx unit 5) 0x03 = 2 ∧ rdBytes u (bx unit 5) 0x02 = p) ∧
  (∀ (t : Nat) (unit : Fin 30) (hdr : Nat) (p : List Byte) (s : State), runs t s = true → 24 ≤ unit.val → laneInData s (camLane (unit - 24)) = true →
    bitsOf hdr 0 4 = 8 → bitsOf hdr 8 3 = unit.val - 24 → bitsOf hdr 11 15 = p.length → rd s (cc (unit - 24)) 0x13 = 1 → bitsOf hdr 32 32 = (camOf s (unit - 24)).mgmtSeq →
    Leads (.mgmtReply t unit hdr p true) s fun u => rd u (cc (unit - 24)) 0x13 = 2 ∧ rdBytes u (cc (unit - 24)) 0x12 = p) ∧
  (∀ (t : Nat) (unit : Fin 30) (s : State),
    let idx := mgmtIndex unit
    let sub := if unit.val < 24 then 0x01 else 0x11
    runs t s = true → rd s idx (sub + 2) = 1 → stamp s idx (sub + 2) + rd s idx (sub + 3) * psMs ≤ (at_ t s).now →
    Leads (.mgmtTimeout t unit) s fun u => rd u idx (sub + 2) = 3) ∧
  (∀ (t : Nat) (b : BarId) (hdr : Nat) (p : List Byte) (s : State), runs t s = true → laneInData s b = true → bitsOf hdr 0 4 = 9 → bitsOf hdr 5 5 = b.val → bitsOf hdr 10 14 = 32 → p.length = 32 →
    Leads (.headStatus t b hdr p true) s fun u => rd u (bx b 6) 0x05 = leAt p 8 2 ∧ rd u (bx b 6) 0x06 = leAt p 12 4 % 16 ∧
      rd u (bx b 6) 0x07 = bitsOf hdr 4 1 ∧ rd u (bx b 6) 0x08 = leAt p 16 4 ∧ (barOf u b).statusAt = some (at_ t s).now) ∧
  (∀ (t : Nat) (b : BarId) (hdr : Nat) (p : List Byte) (s : State), runs t s = true → laneInData s b = true → bitsOf hdr 0 4 = 10 → bitsOf hdr 5 5 = b.val → bitsOf hdr 10 14 = p.length →
    leAt p 0 2 ≤ 512 → p.length = 4 + 4 * leAt p 0 2 →
    Leads (.nozzleReport t b hdr p true) s fun u => bitOf (rd u (bx b 0) 0x09) 6 = true) ∧
  (∀ (t : Nat) (b : BarId) (hdr : Nat) (p : List Byte) (s : State), runs t s = true → laneInData s b = true → (bitsOf hdr 0 4 < 8 ∨ 10 < bitsOf hdr 0 4) →
    Leads (.headStatus t b hdr p true) s fun u => rd u (bx b 3) 0x05 = satAdd 0xFFFF (rd s (bx b 3) 0x05) 1 ∧ bitOf (rd u (bx b 0) 0x09) 10 = true) ∧
  (∀ (t : Nat) (b : BarId) (s : State), runs t s = true → barState s b = 2 → (barOf s b).silentFrom + 5 * psMs ≤ (at_ t s).now →
    Leads (.headSilent t b) s fun u => rd u (bx b 3) 0x06 = satAdd 0xFFFF (rd s (bx b 3) 0x06) 1 ∧ (barOf u b).silentFrom = (barOf s b).silentFrom + 5 * psMs)

/-- Gates decide their entries, pulse, and are switched.
While the clocks run: an enabled gate that sees its encoder at or past its first entry takes it off the list; an untracked entry, and one whose product is to be rejected, starts a pulse one ACLK later, in the time of ACLK, which is counted (an entry passed while the gate was disabled is decided once it is enabled: log entry 159). When a running pulse has come to its position or its time it is gone, and no timed pulse that has ended stays. Enabling a gate of a named encoder and basis, disabling one (its entries and pulses go), setting its polarity, and forcing the rejection of a product not yet decided succeed. -/
def Obligations.GatesDecide : Prop :=
  (∀ (t : Nat) (j : GateId) (pos : Nat) (e : Option Nat) (r : List (Nat × Option Nat)) (s : State), runs t s = true →
    (gateOf s j).entries = (pos, e) :: r → gateEnabled s j = true → reached (encSeen (at_ t s) (rd s (gc j) 0x02)) pos = true →
    Leads (.rejectDecision t j) s fun u => (gateOf u j).entries = r ∧ rd u (gc j + 1) 0x02 = r.length ∧
      ((e = none ∨ ∃ id p, e = some id ∧ findProduct s id = some p ∧ (p.forceReject = true ∨ p.printStatus = 4 ∨ verdictValue p.verdict = 3)) →
        (∃ x : Pulse, (gateOf u j).pulses = (gateOf s j).pulses ++ [x] ∧ x.start = pllTime (at_ t s) + 1000) ∧
          rd u (gc j + 1) 0x05 = (rd s (gc j + 1) 0x05 + 1) % 2 ^ 64) ∧
      ((∃ id, e = some id ∧ findProduct s id = none) → (gateOf u j).pulses = (gateOf s j).pulses)) ∧
  (∀ (t : Nat) (j : GateId) (s : State), runs t s = true →
    ((gateOf s j).pulses.any fun p => decide (p.start ≤ pllTime (at_ t s)) && (decide (p.endAt ≤ pllTime (at_ t s)) ||
      (p.endPos.any fun e => reached (encSeen (at_ t s) (rd s (gc j) 0x02)) e))) = true →
    Leads (.rejectPulseEnd t j) s fun u => (gateOf u j).pulses.length < (gateOf s j).pulses.length ∧
      ∀ p, p ∈ (gateOf u j).pulses → p.endPos = none → p.start ≤ pllTime (at_ t s) → pllTime (at_ t s) < p.endAt) ∧
  (∀ (src : Source) (j : GateId) (s : State), canSet s src (gc j) 0x01 1 = true → rd s (gc j) 0x02 ≤ 3 → rd s (gc j) 0x03 ≤ 1 →
    Leads (.gateEnable src j) s fun u => Holds (gc j) 0x01 1 u ∧ rd u (gc j + 1) 0x09 = 0) ∧
  (∀ (src : Source) (j : GateId) (s : State), canSet s src (gc j) 0x01 0 = true →
    Leads (.gateDisable src j) s fun u => Holds (gc j) 0x01 0 u ∧ (gateOf u j).entries = [] ∧ (gateOf u j).pulses = [] ∧ rd u (gc j + 1) 0x02 = 0) ∧
  (∀ (src : Source) (j : GateId) (v : Nat) (s : State), canSet s src (gc j) 0x06 v = true →
    Leads (.polarityWrite src j v) s fun u => Holds (gc j) 0x06 (v % 256) u) ∧
  (∀ (src : Source) (id : Nat) (p : Product) (s : State), canSet s src 0x3201 0x03 id = true → findProduct s (id % 2 ^ 32) = some p → p.decided = false →
    Leads (.forceReject src id) s fun u => u.answer.status = some .ok ∧ findProduct u (id % 2 ^ 32) = some { p with forceReject := true })

/-- Image lines, bridge status and silence are taken and counted.
While the clocks run: an IMAGE_LINE that an ON camera's lane delivers, that passes its checks, is neither below NextLine nor lost nor held already, and finds the reorder buffer with room, counts in LinesIn. When LostTimeout has passed since the strobe of NextLine, that line is counted lost. A BRIDGE_STATUS of 32 bytes that passes its checks sets the bridge flags, and 5 ms without one on an ON camera are counted. -/
def Obligations.BridgeFramesTaken : Prop :=
  (∀ (t : Nat) (k : CamId) (odd : Bool) (hdr : Nat) (p : List Byte) (s : State),
    let n := bitsOf hdr 32 32
    let x := camOf s k
    runs t s = true → laneInData s (camLane k + boolNat odd) = true → camState s k = 2 → bitsOf hdr 0 4 = 10 → bitsOf hdr 8 3 = k.val → bitsOf hdr 11 15 = pixels s k →
    bitsOf hdr 26 2 = rd s (cc k) 0x04 → (n % 2 == 1) = odd → p.length = pixels s k * pixelBits s k / 8 →
    0 ≤ lineDiff n (nextLine s k) → n ∉ x.overflowed → n ∉ x.expired → ¬ (n = nextLine s k ∧ (x.writing = true ∨ lineGone s k = true)) →
    ((x.replay ++ x.held).any fun e => e.1 == n) = false → x.held.length + boolNat (x.writing && x.writingHeld) < 4 →
    Leads (.imageLine t k odd hdr p true) s fun u => rd u (cs k) 0x0A = (rd s (cs k) 0x0A + 1) % 2 ^ 64) ∧
  (∀ (t : Nat) (k : CamId) (s : State), runs t s = true → camState s k = 2 →
    let x := camOf s k
    let n := nextLine s k
    x.writing = false → ((x.replay ++ x.held).any fun e => e.1 == n) = false → n ∉ x.expired →
    (x.strobes.any fun e => e.1 == n && decide (e.2 + rd s (cc k) 0x09 * psUs ≤ (at_ t s).now)) = true →
    Leads (.lineLostTimeout t k) s fun u => satAdd 0xFFFF (rd s (cs k) 0x06) 1 ≤ rd u (cs k) 0x06) ∧
  (∀ (t : Nat) (k : CamId) (hdr : Nat) (p : List Byte) (s : State), runs t s = true → laneInData s (camLane k) = true → bitsOf hdr 0 4 = 9 → bitsOf hdr 8 3 = k.val → bitsOf hdr 11 15 = 32 → p.length = 32 →
    Leads (.bridgeStatus t k hdr p true) s fun u => rd u (cs k) 0x0E = leAt p 4 4 % 16 ∧ (camState s k = 2 → (camOf u k).silentFrom = (at_ t s).now)) ∧
  (∀ (t : Nat) (k : CamId) (s : State), runs t s = true → camState s k = 2 → (camOf s k).silentFrom + 5 * psMs ≤ (at_ t s).now →
    Leads (.bridgeSilent t k) s fun u => rd u (cs k) 0x0C = satAdd 0xFFFF (rd s (cs k) 0x0C) 1 ∧ (camOf u k).silentFrom = (camOf s k).silentFrom + 5 * psMs)

/-- Cameras start and stop.
Enable 1 on an OFF camera whose checks pass and whose claims are free enters STARTING, with both offsets of its region ring 0; with the first lane in its data state the camera is ON with NextLine after the line last strobed, or goes on to STOPPING when a stop is latched. Enable 0 on an ON camera enters STOPPING with no line held; once the frame in progress is sent it is OFF and holds no resource, or STARTING again. -/
def Obligations.CamerasStartAndStop : Prop :=
  (∀ (src : Source) (k : CamId) (s : State), canSet s src (cc k) 0x01 1 = true → camState s k = 0 → camChecks s k = .ok →
    claimConflict s (camHolder k) [camLane k, 0x28 + camLane k, 0x29 + camLane k] = none →
    Leads (.cameraEnable src k) s fun u => Holds (cc k) 0x01 1 u ∧ camState u k = 1 ∧ rd u (cs k) 0x03 = 0 ∧ rd u (cs k) 0x0B = 0 ∧ rd u (cc k) 0x0E = 0 ∧ holder u (camLane k) = camHolder k) ∧
  (∀ (src : Source) (k : CamId) (s : State), canSet s src (cc k) 0x01 0 = true → alone s = true →
    Leads (.cameraDisable src k) s fun u => Holds (cc k) 0x01 0 u ∧ (camState s k = 2 → camState u k = 3 ∧ (camOf u k).held = []) ∧
      (camState s k = 1 → camState u k = 1 ∧ (camOf u k).stopLatched = true)) ∧
  (∀ (t : Nat) (k : CamId) (s : State), runs t s = true → camState s k = 1 → laneInData s (camLane k) = true →
    Leads (.cameraStartComplete t k) s fun u => camState u k = (if (camOf s k).stopLatched then 3 else 2) ∧ nextLine u k = (genLine s (camGen s k) + 1) % 2 ^ 32) ∧
  (∀ (t : Nat) (k : CamId) (s : State), runs t s = true → camState s k = 3 → laneQuiet (at_ t s) (camLane k) = true →
    Leads (.cameraStopComplete t k) s fun u =>
      (rd s (cs k) 0x02 ≠ 1 → camState u k = 0 ∧ ∀ r, r < 0x74 → holder u r ≠ camHolder k) ∧
      (rd s (cs k) 0x02 = 1 → camChecks s k = .ok → camState u k = 1))

/-- Verdict posts, health posts and archive records.
Outside a pair or SOLO: a VerdictPost of PASS or REJECT for a product that waits for its verdict, or missed it, and whose gate has no decision due, stores the verdict and the grade with status DONE or LATE and counts it; where its gate decides it in the same ACLK, the decision comes first and the post is LATE; a HealthPost of a nozzle of an ON bar that is GOOD or SUSPECT and within its budget counts it and begins a map switch. The archive unit takes the oldest job: with no ring its record counts as dropped, and where the ring has room for it, no nearer than 16 bytes to the host's offset, and the network lets it through, the ring holds the bytes of the record from the engine's offset on, which moves past it (that both offsets are 0 when ArchiveMode leaves 0 is log entry 152). -/
def Obligations.VerdictsAndHealth : Prop :=
  (∀ (src : Source) (v : Nat) (p : Product) (s : State), canSet s src 0x3801 0x01 v = true → alone s = true → findProduct s (v % 2 ^ 32) = some p →
    let w := v % 2 ^ 64
    let b := bitsOf w 32 8
    let g := gateOf s p.gate
    bitsOf w 56 8 = 0 → (verdictValue b = 2 ∨ verdictValue b = 3) → verdictCause b < 6 → (p.verifyStatus = 2 ∨ p.verifyStatus = 4) →
    (11 < p.gate ∨ (g.entries.head?.any fun e => gateEnabled s p.gate && reached (encSeen s (rd s (gc p.gate) 0x02)) e.1) = false) →
    Leads (.verdictPost src v) s fun u => u.answer.status = some .ok ∧
      findProduct u (v % 2 ^ 32) = some { p with verifyStatus := if p.verifyStatus = 4 then 5 else 3, verdict := b, grade := bitsOf w 40 8 } ∧
      rd u 0x3800 (if verdictValue b = 2 then 0x05 else 0x06) = (rd s 0x3800 (if verdictValue b = 2 then 0x05 else 0x06) + 1) % 2 ^ 64) ∧
  (∀ (src : Source) (v pos : Nat) (p : Product) (r : List (Nat × Option Nat)) (s : State), canSet s src 0x3801 0x01 v = true → alone s = true → findProduct s (v % 2 ^ 32) = some p →
    let w := v % 2 ^ 64
    let b := bitsOf w 32 8
    bitsOf w 56 8 = 0 → (verdictValue b = 2 ∨ verdictValue b = 3) → verdictCause b < 6 → p.verifyStatus = 2 → p.decided = false → p.gate ≤ 11 →
    (gateOf s p.gate).entries = (pos, some p.id) :: r → gateEnabled s p.gate = true → reached (encSeen s (rd s (gc p.gate) 0x02)) pos = true →
    Leads (.verdictPost src v) s fun u => u.answer.status = some .ok ∧ (gateOf u p.gate).entries = r ∧
      (findProduct u (v % 2 ^ 32)).map (fun q => (q.verifyStatus, q.verdict, q.decided)) = some (5, b, true)) ∧
  (∀ (src : Source) (v : Nat) (s : State), canSet s src 0x3802 0x1D v = true → alone s = true →
    let w := v % 2 ^ 32
    let k := bitsOf w 0 14
    let b := bitsOf w 16 5
    bitsOf w 14 2 = 0 → bitsOf w 21 11 = 0 → b ≤ 23 → barState s b = 2 → k < nozzles s b → bitsOf (mapEntry s b (activeCopy s b) k) 30 2 < 2 →
    rd s 0x3802 (5 + b) < rd s 0x3802 0x04 → rd s (bx b 4) 0x05 ≠ 1 →
    Leads (.healthPost src v) s fun u => u.answer.status = some .ok ∧ rd u 0x3802 (5 + b) = rd s 0x3802 (5 + b) + 1 ∧ rd u (bx b 4) 0x05 = 1) ∧
  (∀ (t : Nat) (j : ArchiveJob) (r : List ArchiveJob) (s : State), runs t s = true → s.print.archive = j :: r → rd s 0x3803 0x03 = 0 →
    Leads (.archiveRecord t) s fun u => u.print.archive = r ∧
      rd u 0x3803 0x06 = satAdd 0xFFFF (rd s 0x3803 0x06) 1 ∧ rd u 0x3803 0x05 = rd s 0x3803 0x05) ∧
  (∀ (t : Nat) (j : ArchiveJob) (r : List ArchiveJob) (s : State), runs t s = true → s.print.archive = j :: r →
    let b := (archiveBytes { at_ t s with print := { (at_ t s).print with archive := r } } j).1
    let size := rd s 0x3803 0x03
    let e := rd s 0x3803 0x05
    size ≠ 0 → b.length + 32 ≤ (rd s 0x3803 0x04 + size - e - 1) % size + 1 → ringGate (at_ t s) 10 (rd s 0x3803 0x02) size e b.length = .clear →
    regionOn s 10 (rd s 0x3803 0x02) size = true →
    Leads (.archiveRecord t) s fun u => u.print.archive = r ∧
      ringRead u (physAddr s 10 (rd s 0x3803 0x02)) size e b.length = b ∧ rd u 0x3803 0x05 = (e + b.length) % size)

/-- Serial values are computed ahead, grants go to the journal, journal writes end, and allotments retire.
While the clocks run and nothing waits: a walk that ends puts the value of the next index behind the buffer of an ACTIVE allotment with room. A grant, or a reset grant, that passes its checks is taken to the journal and not yet answered. A journal write that the NVM has not lost and that reads back, with no shutdown under way, ends with its marks in force, its image in its bank and its sequence shown; one that fails, or that a store with PD40 OFF has lost, is counted and tried once more on the other bank, and a second failure stops the journal. An AllotmentRetire of an ACTIVE or EXHAUSTED allotment retires it and notes the index it is returned from. A read of the serial text of a committed entry answers that text. -/
def Obligations.SerialsAndGrants : Prop :=
  (∀ (t : Nat) (a : AllotId) (s : State),
    let b := tabGet [] s.serial.buffers a
    runs t s = true → quiet s = true → alState s a = 1 → b.length < 8 → alNext s a + b.length < alCount s a →
    Leads (.serialValueComputed t a) s fun u => tabGet [] u.serial.buffers a = b ++ [serialValue s a (alNext s a + b.length)]) ∧
  (∀ (src : Source) (g : List Byte) (s : State), canPut s src 0x4001 0x00 g = true → src ≠ .pairAgent → leAt g 7 1 ≠ 0xFF → grantCheck3 s g = none → grantCheck7 s g false = none →
    Leads (.allotmentGrant src g) s fun u => u.answer.status = none ∧ (pendingGrants u).any (fun p => p.grant == g) = true) ∧
  (∀ (src : Source) (g : List Byte) (s : State), canPut s src 0x4001 0x00 g = true → leAt g 7 1 = 0xFF → grantCheck3 s g = none → resetCheck s g = none →
    Leads (.resetGrant src g) s fun u => u.answer.status = none ∧ (pendingGrants u).any (fun p => p.grant == g) = true) ∧
  (∀ (t : Nat) (w : JournalWrite) (s : State), runs t s = true → quiet s = true → s.serial.running = some w → w.grants = [] → w.checkpoint = false → w.lost = false → s.serial.waiting = none → s.serial.shutdown = 0 →
    Leads (.journalWriteComplete t true) s fun u => u.serial.running = none ∧ u.serial.stopped = false ∧ rd u 0x4000 0x08 = w.image.seq ∧
      rd u 0x4000 0x09 = journalBankOf s w ∧ u.serial.lastBank = some (journalBankOf s w) ∧ (if journalBankOf s w = 0 then u.serial.bankA else u.serial.bankB) = .image w.image ∧
      ∀ e, e ∈ w.marks → e.2 ≤ alReserve u e.1) ∧
  (∀ (t : Nat) (ok : Bool) (w : JournalWrite) (s : State), runs t s = true → quiet s = true → s.serial.running = some w → (ok = false ∨ w.lost = true) →
    Leads (.journalWriteComplete t ok) s fun u => rd u 0x4000 0x06 = satAdd 0xFFFF (rd s 0x4000 0x06) 1 ∧
      (w.retry = false → u.serial.running = some { w with retry := true, lost := !domOn s 40 } ∧ journalBankOf u { w with retry := true } = 1 - journalBankOf s w) ∧ (w.retry = true → u.serial.stopped = true)) ∧
  (∀ (src : Source) (a : AllotId) (s : State), canSet s src (0x4020 + 2 * a.val) 0x01 1 = true → serialStandby s = false → (alState s a = 1 ∨ alState s a = 2) →
    Leads (.allotmentRetire src a) s fun u => u.answer.status = some .ok ∧ alState u a = 3 ∧ al u a 0x0D = (if alState s a = 1 then alNext s a else alCount s a)) ∧
  (∀ (src : Source) (i : Nat) (e : SerialEntry) (s : State), canRead s src = true →
    (findProduct s (rd s 0x4004 0x01)).isSome = true → entryOf s (rd s 0x4004 0x01) = some (i, e) → e.state = 2 →
    Leads (.serialTextRead src) s fun u => u.answer.status = some .ok ∧ u.answer.bytes = serialText e)

/-- Recovery, ledger records, checkpoints and the rings.
While the clocks run and nothing waits: recovery of an engine whose journal was never written ends READY, one whose banks are not valid ends JOURNAL_LOST, one with a clean newest bank ends READY, and one with an unclean bank asks for a checkpoint first. The retire of a product with a serial, outside a standby, appends one record with the grant, the value, the product, its kind, slot, verdict, grade and position, the encoder and the stream. A ledger record with room in its ring that the network lets through is numbered, moves DmaEngineIndex of the ring on by 64, counts as uncovered, stands in the ring with its number, the time and whether PTP is not locked, and moves the head of the chain over its bytes. A checkpoint that is due starts; one asked for stays asked for where records are still unwritten. A journalled checkpoint that is signed, with room in its ring that the network lets through, is published: its bytes, its signature and padding stand in the ring. A base or size of either ring that is written empties that ring. -/
def Obligations.LedgerAndCheckpoints : Prop :=
  (∀ (t : Nat) (s : State), runs t s = true → quiet s = true → serialState s = 0 → pairRole s ≠ 1 → s.serial.resume ≠ 1 → domOn s 41 = true →
    Leads (.serialRecovery t) s fun u =>
      (s.serial.bankA = .erased → s.serial.bankB = .erased → serialState u = 1) ∧
      (newestBank s = none → ¬ (s.serial.bankA = .erased ∧ s.serial.bankB = .erased) → serialState u = 2) ∧
      (∀ k i, newestBank s = some (k, i) → (i.clean = true ∨ serialStandby s = true) → serialState u = 1 ∧ ledgerSeq u = i.lastSeq) ∧
      (∀ k i, newestBank s = some (k, i) → i.clean = false → serialStandby s = false → serialState u = 0 ∧ u.serial.wanted = true ∧ u.serial.resume = 1)) ∧
  (∀ (t : Nat) (x : LedgerItem) (r : List LedgerItem) (s : State), runs t s = true → quiet s = true → s.serial.unwritten = x :: r → ledgerFree s ≠ 0 →
    regionOn s 9 (rd s 0x4008 0x01) (rd s 0x4008 0x02) = true → unitGate (at_ t s) 9 (rd s 0x4008 0x01 + rd s 0x4008 0x04) 64 = .clear → x.link = none →
    let a := physAddr s 9 (rd s 0x4008 0x01) + rd s 0x4008 0x04
    Leads (.ledgerRecordWrite t) s fun u => u.serial.unwritten = r ∧ ledgerSeq u = ledgerSeq s + 1 ∧ uncovered u = uncovered s + 1 ∧
      rd u 0x4008 0x04 = (rd s 0x4008 0x04 + 64) % rd s 0x4008 0x02 ∧
      (x.body.length = 64 → rdBytes u 0x4008 0x06 = sha3_512 (bytesAt (rdBytes s 0x4008 0x06) 0 64 ++ memRead u a 64) ∧
        memRead u a 64 = leBytes 8 (ledgerSeq s + 1) ++ bytesAt x.body 0x08 32 ++ leBytes 8 (ptpTime (at_ t s))
          ++ leBytes 4 (leAt x.body 0x30 4 + (if rd s 0x1230 0x08 = 4 then 0 else 16)) ++ bytesAt x.body 0x34 12)) ∧
  (∀ (i : Nat) (p : Product) (e : SerialEntry) (s : State), entryOf s p.id = some (i, e) → serialStandby s = false →
    (e.state = 3 ∨ p.launched = false ∨ productRejected p = true ∨ p.printStatus = 3 ∨ p.printStatus = 4) →
    ∃ x, (serialRetire s p).serial.unwritten = s.serial.unwritten ++ [x] ∧ x.serial = some (e.slot, e.n) ∧ x.link = none ∧ x.body.length = 64 ∧
      leAt x.body 0x08 8 = e.grantId % 2 ^ 64 ∧ leAt x.body 0x10 8 = e.v % 2 ^ 64 ∧ leAt x.body 0x18 4 = p.id % 2 ^ 32 ∧
      leAt x.body 0x1C 1 = (if e.state = 3 ∨ p.launched = false then 3 else if productRejected p = true ∨ p.printStatus = 4 then 2 else 1) ∧
      leAt x.body 0x1D 1 = e.slot % 256 ∧ leAt x.body 0x1E 1 = p.verdict % 256 ∧ leAt x.body 0x1F 1 = p.grade % 256 ∧ leAt x.body 0x20 8 = p.pos % 2 ^ 64 ∧
      leAt x.body 0x34 2 = nodeId s % 2 ^ 16 ∧ leAt x.body 0x36 2 = e.stream % 2 ^ 16) ∧
  (∀ (t : Nat) (s : State), runs t s = true → quiet s = true → checkpointDue (at_ t s) = true →
    Leads (.checkpointStart t) s fun u => u.serial.wanted = (s.serial.wanted && !s.serial.unwritten.isEmpty) ∧ u.serial.lastCheckpointAt = (at_ t s).now ∧
      ∃ c, u.serial.checkpoint = some c ∧ c.firstSeq = s.serial.lastSeq + 1 ∧ c.lastSeq = ledgerSeq s ∧ c.number = checkpointSeq s + 1 ∧ c.journalled = false) ∧
  (∀ (t : Nat) (c : Checkpoint) (s : State), runs t s = true → quiet s = true → s.serial.checkpoint = some c → c.journalled = true → cpFree s ≠ 0 → hashFree s s.serial.lastCheckpointAt = true →
    regionOn s 9 (rd s 0x4009 0x01) (rd s 0x4009 0x02) = true → unitGate (at_ t s) 9 (rd s 0x4009 0x01 + rd s 0x4009 0x04) 4864 = .clear →
    Leads (.checkpointPublish t) s fun u => u.serial.checkpoint = none ∧ rd u 0x4009 0x04 = (rd s 0x4009 0x04 + 4864) % rd s 0x4009 0x02 ∧
      (c.signature.length = 4627 → memRead u (physAddr s 9 (rd s 0x4009 0x01) + rd s 0x4009 0x04) 4864 = checkpointBytes s c ++ c.signature ++ List.replicate 45 0)) ∧
  (∀ (src : Source) (checkpoint size : Bool) (v : Nat) (s : State),
    let idx := if checkpoint then 0x4009 else 0x4008
    canSet s src idx (if size then 0x02 else 0x01) v = true → (size = false → ringBaseOk (v % 2 ^ 32) = true) →
    Leads (.ledgerRingWrite src checkpoint size v) s fun u => Holds idx (if size then 0x02 else 0x01) (v % 2 ^ 32) u ∧ rd u idx 0x03 = 0 ∧ rd u idx 0x04 = 0)

/-- The pair agent is switched on and off, and its role moves on the events of R228.
PairEnable 1 with the claims free, in RUN or on the way to it (log entry 163), is held and takes the claims; PairEnable 0 in any role but STOOD_DOWN makes the role SINGLE and frees them, and the link stays as it is seen; FirmwareKick notes its time. Where nothing waits for the partner, and while the clocks run: an arbitration timeout, an alive input low for 20 µs on a primary, a link lost for 200 µs on a primary and an ordered frame unanswered for 200 µs make the engine SOLO with the reason; both sidebands low for 20 µs on a standby with no owner heartbeat in that time make it SOLO with reason 6; a sample of the sidebands notes the first low of each, and while no low has lasted 20 µs no role moves and no fault counts; a link lost for 200 µs on a standby whose partner's sidebands are not both low, and an alive input low for 20 µs on a joiner, make it ORPHANED; the watchdog makes it STOOD_DOWN with FAULT_L low and allocation stopped; 32 µs without a frame take the link down. -/
def Obligations.PairRolesMove : Prop :=
  (∀ (src : Source) (s : State), canSet s src 0x1300 0x01 1 = true → pairRole s ≠ 7 → rd s 0x1500 0x01 ≠ 1 → pairEnabled s = false → claimConflict s 0x0600 pairClaims = none →
    Leads (.pairEnable src) s fun u => Holds 0x1300 0x01 1 u ∧ (∀ r, r ∈ pairClaims → holder u r = 0x0600) ∧
      (pairRole s = 0 → ((List.range 4).any fun i => laneState s (36 + i) != 0) = true → pairRole u = 1)) ∧
  (∀ (src : Source) (s : State), canSet s src 0x1300 0x01 0 = true → pairRole s ≠ 7 → s.pair.mirror = [] →
    Leads (.pairDisable src) s fun u => Holds 0x1300 0x01 0 u ∧ pairRole u = 0 ∧ resyncState u = 0 ∧ linkUp u = linkUp s ∧ ∀ r, r < 0x74 → holder u r ≠ 0x0600) ∧
  (∀ (src : Source) (s : State), canSet s src 0x1300 0x06 1 = true →
    Leads (.firmwareKick src) s fun u => u.answer.status = some .ok ∧ u.pair.firmwareKickAt = s.now) ∧
  (∀ (t : Nat) (s : State), runs t s = true → quiet s = true → s.pair.mirror = [] → pairRole s = 1 → linkUp s = false →
    stamp s 0x1301 0x04 + rd s 0x1300 0x04 * psMs ≤ (at_ t s).now → stamp s 0x1301 0x01 + rd s 0x1300 0x04 * psMs ≤ (at_ t s).now →
    rd s 0x1301 0x07 = 0 → rd s 0x1301 0x08 = 0 → claimsPrimary s = true →
    Leads (.arbitrationTimeout t) s fun u => pairRole u = 4 ∧ rd u 0x1307 0x02 = 7) ∧
  (∀ (t : Nat) (agentStopped : Bool) (s : State), runs t s = true → quiet s = true → pairRole s ≠ 0 → pairRole s ≠ 7 →
    (agentStopped = true ∨ (rd s 0x1300 0x05 ≠ 0 ∧ s.pair.firmwareKickAt + rd s 0x1300 0x05 * psMs ≤ (at_ t s).now)) →
    Leads (.watchdogExpiry t agentStopped) s fun u => pairRole u = 7 ∧ u.faultL = true ∧ u.serial.halted = true ∧ u.pair.expired = true) ∧
  (∀ (t : Nat) (alive role : Bool) (s : State), runs t s = true → quiet s = true → s.pair.mirror = [] →
    Leads (.sidebandLowTimeout t alive role) s fun u => rd u 0x1301 0x07 = boolNat alive ∧ rd u 0x1301 0x08 = boolNat role ∧
      u.pair.aliveLow = sideSample s.pair.aliveLow alive (at_ t s).now ∧ u.pair.roleLow = sideSample s.pair.roleLow role (at_ t s).now ∧
      ((alive = true ∨ ∀ k, s.pair.aliveLow = some k → (at_ t s).now < k + 20 * psUs) → (role = true ∨ ∀ k, s.pair.roleLow = some k → (at_ t s).now < k + 20 * psUs) →
        pairRole u = pairRole s ∧ rd u 0x1306 0x08 = rd s 0x1306 0x08)) ∧
  (∀ (t k : Nat) (role : Bool) (s : State), runs t s = true → quiet s = true → s.pair.mirror = [] → s.pair.aliveLow = some k → k + 20 * psUs ≤ (at_ t s).now →
    Leads (.sidebandLowTimeout t false role) s fun u => (pairRole s = 2 → pairRole u = 4 ∧ rd u 0x1307 0x02 = 5) ∧ (pairRole s = 6 → pairRole u = 5) ∧
      (∀ k', s.pair.roleLow = some k' → k' + 20 * psUs ≤ (at_ t s).now → pairRole s = 3 → role = false →
        (s.pair.ownerBeatAt.all fun b => decide (b + 20 * psUs ≤ (at_ t s).now)) = true → pairRole u = 4 ∧ rd u 0x1307 0x02 = 6)) ∧
  (∀ (t : Nat) (s : State), runs t s = true → quiet s = true → linkUp s = true → s.pair.frameAt + 32 * psUs ≤ (at_ t s).now →
    Leads (.linkLost t) s fun u => linkUp u = false) ∧
  (∀ (t : Nat) (s : State), runs t s = true → quiet s = true → s.pair.mirror = [] → linkUp s = false → stamp s 0x1301 0x04 + 200 * psUs ≤ (at_ t s).now →
    Leads (.linkLost200us t) s fun u => (pairRole s = 2 → pairRole u = 4 ∧ rd u 0x1307 0x02 = 2) ∧
      (pairRole s = 3 → (rd s 0x1301 0x07 = 1 ∨ rd s 0x1301 0x08 = 1) → pairRole u = 5) ∧ (pairRole s = 6 → pairRole u = 5)) ∧
  (∀ (t : Nat) (f : Ordered) (s : State), runs t s = true → quiet s = true → s.pair.mirror = [] → pairRole s = 2 → f ∈ s.pair.unanswered → f.since + 200 * psUs ≤ (at_ t s).now →
    Leads (.orderedAnswerTimeout t) s fun u => pairRole u = 4 ∧ rd u 0x1307 0x02 = 1)

/-- HELLO, HEARTBEAT and SNAPSHOT frames are sent and taken, and answers end their frames.
While the clocks run and nothing waits: a HELLO that is due goes out, or waits for the frame in progress, on every lane in its data state, and a HEARTBEAT that is due on its lane, each with its type, the role and the payload of R224. A HEARTBEAT taken notes its lane and the partner's role; a lane without one for 32 µs is forgotten. A HELLO taken by an arbitrating engine notes the partner's node; with a partner that owns the line the engine joins it, and with an equal arbitrating partner it becomes SOLO if it wins and joins otherwise; with any partner of another silicon or firmware that does not own the line it goes on arbitrating. An ACK leaves no frame of its number unanswered; a NAK to a primary with no write mirrored makes it SOLO with reason 3. A SNAPSHOT chunk of the transfer that lies inside the buffer of a joiner is stored at its offset. -/
def Obligations.PairFramesUnordered : Prop :=
  (∀ (t : Nat) (s : State), runs t s = true → quiet s = true → (pairRole s = 1 ∨ pairRole s = 6) → s.pair.helloAt + psMs ≤ (at_ t s).now →
    Leads (.helloSend t) s fun u => u.pair.helloAt = (at_ t s).now ∧
      ∀ i, i < 4 → plUp s i = true → Goes u (36 + i) (frameBytes (48 * 2 ^ 18 + pairRole s * 2 ^ 15 + 0x02) (leBytes 2 (nodeId s) ++ leBytes 1 (boolNat (!claimsPrimary s)) ++
        leBytes 1 (boolNat ((List.range 24).any (fun b => barState s b == 2) || !allotmentsEmpty s)) ++ leBytes 4 (rd s 0x1020 0x01) ++ firmwareDigest s ++ List.replicate 8 0))) ∧
  (∀ (t : Nat) (i : PairLane) (s : State), runs t s = true → quiet s = true → pairRole s ≠ 0 → plUp s i = true → tabGet 0 s.pair.sentAt i + 7900000 ≤ (at_ t s).now →
    Leads (.heartbeatSend t i) s fun u => tabFind u.pair.sentAt i = some (at_ t s).now ∧ u.pair.heartbeats = (s.pair.heartbeats + 1) % 2 ^ 32 ∧
      Goes u (36 + i.val) (frameBytes (u.pair.heartbeats * 2 ^ 32 + 16 * 2 ^ 18 + pairRole s * 2 ^ 15 + 0x01)
        (leBytes 2 (nodeId s) ++ leBytes 2 (boolNat (aliveOut s) + 2 * boolNat (pairRole s == 7)) ++ leBytes 4 s.pair.rxSeq ++ List.replicate 8 0))) ∧
  (∀ (t : Nat) (i : PairLane) (role : Nat) (p : List Byte) (s : State), runs t s = true → quiet s = true → laneInData s (36 + i) = true → pairRole s ≠ 0 →
    ¬ (pairRole s = 6 ∧ partnerRole s = 4 ∧ role ≠ 4) → p.length = 16 →
    Leads (.heartbeat t i role p true) s fun u => tabFind u.pair.heardAt i = some (at_ t s).now ∧ partnerRole u = role ∧ linkUp u = true ∧ u.pair.frameAt = (at_ t s).now) ∧
  (∀ (t : Nat) (i : PairLane) (k : Nat) (s : State), runs t s = true → quiet s = true → tabFind s.pair.heardAt i = some k → k + 32 * psUs ≤ (at_ t s).now →
    Leads (.pairLaneHeartbeatTimeout t i) s fun u => tabFind u.pair.heardAt i = none) ∧
  (∀ (t : Nat) (i : PairLane) (role : Nat) (p : List Byte) (s : State), runs t s = true → quiet s = true → s.pair.mirror = [] → laneInData s (36 + i) = true → pairRole s = 1 → p.length = 48 →
    let same := leAt p 4 4 = rd s 0x1020 0x01 ∧ bytesAt p 8 32 = firmwareDigest s
    Leads (.hello t i role p true) s fun u => rd u 0x1301 0x03 = leAt p 0 2 ∧ partnerRole u = role ∧
      (role = 2 ∨ role = 4 → pairRole u = 6 ∧ resyncState u = 1) ∧
      (role = 1 → same → pairRole u = if wins s (leAt p 2 1 == 1) (leAt p 0 2) then 4 else 6) ∧
      (role ≠ 2 → role ≠ 4 → ¬ same → pairRole u = 1)) ∧
  (∀ (t : Nat) (i : PairLane) (seq role : Nat) (p : List Byte) (s : State), runs t s = true → quiet s = true → laneInData s (36 + i) = true → pairRole s ≠ 0 →
    ¬ (pairRole s = 6 ∧ partnerRole s = 4 ∧ role ≠ 4) → p.length = 4 → (s.pair.mirror.any fun m => m.seq == seq) = false →
    Leads (.ack t i seq role p true) s fun u => ∀ f, f ∈ u.pair.unanswered → f.seq ≠ seq) ∧
  (∀ (t : Nat) (i : PairLane) (seq role : Nat) (p : List Byte) (s : State), runs t s = true → quiet s = true → s.pair.mirror = [] → laneInData s (36 + i) = true → pairRole s = 2 → p.length = 4 →
    Leads (.nak t i seq role p true) s fun u => pairRole u = 4 ∧ rd u 0x1307 0x02 = 3) ∧
  (∀ (t : Nat) (i : PairLane) (role : Nat) (p : List Byte) (s : State), runs t s = true → quiet s = true → laneInData s (36 + i) = true → pairRole s = 6 → (partnerRole s = 4 → role = 4) → (resyncState s = 4 ∨ resyncState s = 5) →
    9 ≤ p.length → p.length ≤ 8192 → leAt p 0 8 + (p.length - 8) ≤ rd s 0x1302 0x05 →
    Leads (.snapshot t i role p true) s fun u => memRead u (rd s 0x1302 0x04 + leAt p 0 8) (p.length - 8) = p.drop 8)

/-- Ordered frames that are new are processed by role and answered.
While the clocks run and nothing waits, an ordered frame whose number is the next one, on a lane in its data state, with its CRC and size right, and not one that ends a resync, is processed, its number is the last processed, and an ACK of its number, with status 0 in the clauses below, goes out on the ordered lane, or waits there for the frame in progress. A standby collects the chunks of a mirrored write, takes a COMMIT that its product, slot and index fit, with the mirror advanced and the serial_ref of the record filled, journals a RESERVE, collects the entries of a map switch and sets the switch with the last of them in time, takes a CHECKPOINT_STATE, and holds a DIGEST that its own has not met. A primary with no write mirrored that receives ORPHAN becomes SOLO with reason 4, a standby that receives it is ORPHANED (log entry 95), and a source that receives RESYNC_DONE becomes PRIMARY. A joiner that has compared the digests of the source's HELLO halts every field at CUT. -/
def Obligations.PairFramesOrdered : Prop :=
  (∀ (t : Nat) (i : PairLane) (seq role : Nat) (p : List Byte) (s : State), runs t s = true → quiet s = true → laneInData s (36 + i) = true → pairRole s ≠ 0 → ¬ (pairRole s = 6 ∧ partnerRole s = 4 ∧ role ≠ 4) → pairSizeOk 0x12 p.length = true → seq = s.pair.rxSeq + 1 →
    pairRole s = 3 → leAt p 3 1 % 2 = 0 → leAt p 4 4 = 0 → Leads (.mirrorWrite t i seq role p true) s fun u => u.pair.rxSeq = seq ∧ u.pair.assembly = some (leAt p 0 2, leAt p 2 1, p.drop 8) ∧
      (∀ j, orderedLane (at_ t s) = some j → Goes u (36 + j) (frameBytes (seq * 2 ^ 32 + 4 * 2 ^ 18 + pairRole u * 2 ^ 15 + 0x20) [0, 0, 0, 0]))) ∧
  (∀ (t : Nat) (i : PairLane) (seq role : Nat) (p : List Byte) (x : Product) (s : State), runs t s = true → quiet s = true → laneInData s (36 + i) = true → pairRole s ≠ 0 → ¬ (pairRole s = 6 ∧ partnerRole s = 4 ∧ role ≠ 4) → pairSizeOk 0x10 p.length = true → seq = s.pair.rxSeq + 1 →
    pairRole s = 3 → findProduct s (leAt p 4 4) = some x → rd s (tx x.trigger) 0x0D = leAt p 0 1 → leAt p 8 8 = alNext s (leAt p 0 1) → leAt p 0 1 ≤ 31 → Leads (.commit t i seq role p true) s fun u => u.pair.rxSeq = seq ∧ alNext u (leAt p 0 1) = leAt p 8 8 + 1 ∧
      (∃ (k : Nat) (e : SerialEntry), tabFind u.serial.entries k = some e ∧ e.product = leAt p 4 4 ∧ e.slot = leAt p 0 1 ∧ e.n = leAt p 8 8 ∧ e.state = 2 ∧
        (findProduct u (leAt p 4 4)).map (·.serialRef) = some (leAt p 0 1 * 2 ^ 16 + k)) ∧
      (∀ j, orderedLane (at_ t s) = some j → Goes u (36 + j) (frameBytes (seq * 2 ^ 32 + 4 * 2 ^ 18 + pairRole u * 2 ^ 15 + 0x20) [0, 0, 0, 0]))) ∧
  (∀ (t : Nat) (i : PairLane) (seq role : Nat) (p : List Byte) (s : State), runs t s = true → quiet s = true → laneInData s (36 + i) = true → pairRole s ≠ 0 → ¬ (pairRole s = 6 ∧ partnerRole s = 4 ∧ role ≠ 4) → pairSizeOk 0x11 p.length = true → seq = s.pair.rxSeq + 1 →
    Leads (.reserve t i seq role p true) s fun u => u.pair.rxSeq = seq ∧ (pairRole s = 3 → u.serial.running.isSome = true) ∧ (pairRole s = 6 → u.pair.sinceCut = s.pair.sinceCut ++ [(0x11, p)]) ∧
      (∀ j, orderedLane (at_ t s) = some j → Goes u (36 + j) (frameBytes (seq * 2 ^ 32 + 4 * 2 ^ 18 + pairRole u * 2 ^ 15 + 0x20) [0, 0, 0, 0]))) ∧
  (∀ (t : Nat) (i : PairLane) (seq role : Nat) (p : List Byte) (s : State), runs t s = true → quiet s = true → laneInData s (36 + i) = true → pairRole s ≠ 0 → ¬ (pairRole s = 6 ∧ partnerRole s = 4 ∧ role ≠ 4) → pairSizeOk 0x13 p.length = true → seq = s.pair.rxSeq + 1 →
    pairRole s = 3 → Leads (.mapSwitch t i seq role p true) s fun u => u.pair.rxSeq = seq ∧
      (leAt p 1 1 % 2 = 0 → u.pair.mapEntries.length = s.pair.mapEntries.length + leAt p 2 2) ∧
      (leAt p 1 1 % 2 = 1 → leAt p 0 1 ≤ 23 → lineDiff (genLine s (barGen s (leAt p 0 1))) (leAt p 4 4) < 0 →
        rd u (bx (leAt p 0 1) 4) 0x05 = 1 ∧ rd u (bx (leAt p 0 1) 4) 0x04 = leAt p 4 4) ∧
      (pairRole u = 3 → ∀ j, orderedLane (at_ t s) = some j → Goes u (36 + j) (frameBytes (seq * 2 ^ 32 + 4 * 2 ^ 18 + pairRole u * 2 ^ 15 + 0x20) [0, 0, 0, 0]))) ∧
  (∀ (t : Nat) (i : PairLane) (seq role : Nat) (p : List Byte) (s : State), runs t s = true → quiet s = true → laneInData s (36 + i) = true → pairRole s ≠ 0 → ¬ (pairRole s = 6 ∧ partnerRole s = 4 ∧ role ≠ 4) → pairSizeOk 0x14 p.length = true → seq = s.pair.rxSeq + 1 →
    Leads (.checkpointState t i seq role p true) s fun u => u.pair.rxSeq = seq ∧ (pairRole s = 3 ∨ pairRole s = 6 → checkpointSeq u = leAt p 8 8 ∧ ledgerSeq u = leAt p 0 8 ∧ u.serial.lastSeq = leAt p 0 8) ∧
      (∀ j, orderedLane (at_ t s) = some j → Goes u (36 + j) (frameBytes (seq * 2 ^ 32 + 4 * 2 ^ 18 + pairRole u * 2 ^ 15 + 0x20) [0, 0, 0, 0]))) ∧
  (∀ (t : Nat) (i : PairLane) (seq role : Nat) (p : List Byte) (s : State), runs t s = true → quiet s = true → laneInData s (36 + i) = true → pairRole s ≠ 0 → ¬ (pairRole s = 6 ∧ partnerRole s = 4 ∧ role ≠ 4) → pairSizeOk 0x15 p.length = true → seq = s.pair.rxSeq + 1 →
    Leads (.digest t i seq role p true) s fun u => u.pair.rxSeq = seq ∧ (pairRole s = 2 ∨ pairRole s = 3 → tabFind s.pair.digests (digestKey (leAt p 0 4) (leAt p 4 1 % 2) 0) = none →
      tabFind u.pair.digests (digestKey (leAt p 0 4) (leAt p 4 1 % 2) 1) = some p) ∧
      (∀ j, orderedLane (at_ t s) = some j → Goes u (36 + j) (frameBytes (seq * 2 ^ 32 + 4 * 2 ^ 18 + pairRole u * 2 ^ 15 + 0x20) [0, 0, 0, 0]))) ∧
  (∀ (t : Nat) (i : PairLane) (seq role : Nat) (p : List Byte) (s : State), runs t s = true → quiet s = true → laneInData s (36 + i) = true → pairRole s ≠ 0 → ¬ (pairRole s = 6 ∧ partnerRole s = 4 ∧ role ≠ 4) → pairSizeOk 0x16 p.length = true → seq = s.pair.rxSeq + 1 →
    s.pair.mirror = [] → Leads (.orphan t i seq role p true) s fun u => u.pair.rxSeq = seq ∧ (pairRole s = 2 → pairRole u = 4 ∧ rd u 0x1307 0x02 = 4) ∧ (pairRole s = 3 → pairRole u = 5) ∧
      (pairRole s ≠ 3 → ∀ j, orderedLane (at_ t s) = some j → Goes u (36 + j) (frameBytes (seq * 2 ^ 32 + 4 * 2 ^ 18 + pairRole u * 2 ^ 15 + 0x20) [0, 0, 0, 0]))) ∧
  (∀ (t : Nat) (i : PairLane) (seq role : Nat) (p : List Byte) (s : State), runs t s = true → quiet s = true → laneInData s (36 + i) = true → pairRole s ≠ 0 → ¬ (pairRole s = 6 ∧ partnerRole s = 4 ∧ role ≠ 4) → pairSizeOk 0x18 p.length = true → seq = s.pair.rxSeq + 1 →
    Leads (.cut t i seq role p true) s fun u => u.pair.rxSeq = seq ∧ (pairRole s = 6 → 2 ≤ resyncState s → resyncState s ≤ 5 → resyncState u = 5 ∧ u.pair.cut = p.drop 64 ∧ ∀ f, f < 24 → fieldRunReg u f = 0) ∧
      (∀ j, orderedLane (at_ t s) = some j → Goes u (36 + j) (frameBytes (seq * 2 ^ 32 + 4 * 2 ^ 18 + pairRole u * 2 ^ 15 + 0x20) [0, 0, 0, 0]))) ∧
  (∀ (t : Nat) (i : PairLane) (seq role : Nat) (p : List Byte) (s : State), runs t s = true → quiet s = true → laneInData s (36 + i) = true → pairRole s ≠ 0 → ¬ (pairRole s = 6 ∧ partnerRole s = 4 ∧ role ≠ 4) → pairSizeOk 0x1A p.length = true → seq = s.pair.rxSeq + 1 →
    Leads (.resyncDone t i seq role p true) s fun u => u.pair.rxSeq = seq ∧ (pairRole s = 4 → pairRole u = 2 ∧ resyncState u = 8) ∧
      (∀ j, orderedLane (at_ t s) = some j → Goes u (36 + j) (frameBytes (seq * 2 ^ 32 + 4 * 2 ^ 18 + pairRole u * 2 ^ 15 + 0x20) [0, 0, 0, 0])))

/-- A resync aligns, cuts, restores, catches up and ends.
A ResyncRequest of an ORPHANED engine with a SOLO partner starts a resync. While the clocks run and nothing waits: a mark that pairs with a latched position notes the difference; an encoder that has not counted for 10 ms here nor on the source takes the source's position. The source sends PRECOPY passes, holds the capo once the dirty bytes are within CutBudget, copies and releases it once it is held, with the snapshot region not borrowed, and while the limit lasts, transfers once its firmware has written or 5 ms have passed, and gives the hold up at its limit with LastHold. A joiner whose snapshot has another digest fails with ORPHANED, and with the right digest and a layout that reads (log entry 4) is in CATCH_UP with the source's FirmwareState; caught up, it is the standby; at ResyncTimeout it fails, and so does the source's side, which stays SOLO (log entry 143). -/
def Obligations.ResyncMoves : Prop :=
  (∀ (src : Source) (s : State), canSet s src 0x1302 0x01 1 = true → pairRole s = 5 → partnerRole s = 4 →
    Leads (.resyncRequest src) s fun u => u.answer.status = some .ok ∧ pairRole u = 6 ∧ resyncState u = 1 ∧ u.pair.resyncAt = s.now) ∧
  (∀ (t : Nat) (i : PairLane) (seq role : Nat) (p : List Byte) (l : Nat × Nat × Nat) (s : State), runs t s = true → quiet s = true → laneInData s (36 + i) = true → pairRole s ≠ 0 → ¬ (pairRole s = 6 ∧ partnerRole s = 4 ∧ role ≠ 4) → pairSizeOk 0x17 p.length = true → seq = s.pair.rxSeq + 1 →
    pairRole s = 6 → resyncState s = 2 → (s.pair.latched.find? fun l => l.1 == leAt p 0 1 && decide (l.2.2 ≤ leAt p 16 8 + rd s 0x1302 0x08 * 1000) && decide (leAt p 16 8 ≤ l.2.2 + rd s 0x1302 0x08 * 1000)) = some l → Leads (.positionMark t i seq role p true) s fun u => u.pair.rxSeq = seq ∧ (tabFind u.pair.marks (leAt p 0 1)).map (·.1) = some (posDiff (leAt p 8 8) l.2.1) ∧
      (∀ j, orderedLane (at_ t s) = some j → Goes u (36 + j) (frameBytes (seq * 2 ^ 32 + 4 * 2 ^ 18 + pairRole u * 2 ^ 15 + 0x20) [0, 0, 0, 0]))) ∧
  (∀ (t : Nat) (e : EncId) (pos : Nat) (s : State), runs t s = true → quiet s = true → pairRole s = 6 → resyncState s = 2 → (encoderOf s e).times = [] →
    Leads (.encoderIdleAlign t e (some pos)) s fun u => encPos u e = pos % 2 ^ 48 ∧ encHigh u e = pos % 2 ^ 48 ∧ e.val ∈ u.pair.aligned) ∧
  (∀ (t rewritten : Nat) (s : State), runs t s = true → quiet s = true → pairRole s = 4 →
    Leads (.resyncCut t rewritten) s fun u =>
      (resyncState s = 2 → resyncState u = 3 ∧ u.pair.precopied = some (precopyWords s)) ∧
      (resyncState s = 3 → rd s 0x1302 0x07 < dirtyBytes s rewritten → resyncState u = 3 ∧ u.pair.precopied = some (precopyWords s)) ∧
      (resyncState s = 3 → dirtyBytes s rewritten ≤ rd s 0x1302 0x07 → resyncState u = 4 ∧ rd u 0x2601 0x01 = 1 ∧ u.pair.holdAt = (at_ t s).now) ∧
      (resyncState s = 4 → capoHeld s = true → rangeBorrowed s (rd s 0x1302 0x04) (rd s 0x1302 0x05) = false → (at_ t s).now ≤ s.pair.holdAt + rd s 0x1302 0x06 * psUs → resyncState u = 5 ∧ rd u 0x2601 0x01 = 0 ∧ u.pair.cutAt = (at_ t s).now) ∧
      (resyncState s = 5 → (s.pair.firmwareAt.isSome = true ∨ s.pair.cutAt + 5 * psMs ≤ (at_ t s).now) → resyncState u = 6)) ∧
  (∀ (t : Nat) (s : State), runs t s = true → quiet s = true → pairRole s = 4 → resyncState s = 4 → s.pair.holdAt + rd s 0x1302 0x06 * psUs ≤ (at_ t s).now →
    Leads (.resyncHoldLimit t) s fun u => resyncState u = 3 ∧ rd u 0x2601 0x01 = 0 ∧ rd u 0x1306 0x09 = satAdd 0xFFFF (rd s 0x1306 0x09) 1 ∧
      rd u 0x1302 0x0A = min 0xFFFF (((at_ t s).now - s.pair.holdAt) / psUs)) ∧
  (∀ (t : Nat) (i : PairLane) (seq role : Nat) (p : List Byte) (s : State), runs t s = true → quiet s = true → laneInData s (36 + i) = true → pairRole s ≠ 0 → ¬ (pairRole s = 6 ∧ partnerRole s = 4 ∧ role ≠ 4) → pairSizeOk 0x19 p.length = true → seq = s.pair.rxSeq + 1 →
    pairRole s = 6 → resyncState s = 5 → Leads (.snapshotEnd t i seq role p true) s fun u => u.pair.rxSeq = seq ∧
      (sha3_512 (memRead s (rd s 0x1302 0x04) (leAt p 0 8)) ≠ bytesAt p 8 64 → pairRole u = 5 ∧ resyncState u = 9) ∧
      (sha3_512 (memRead s (rd s 0x1302 0x04) (leAt p 0 8)) = bytesAt p 8 64 → ∀ c f, snapshotCut (memRead s (rd s 0x1302 0x04) (leAt p 0 8)) = some (c, f) →
        resyncState u = 7 ∧ rdBytes u 0x1304 0x00 = f) ∧
      (∀ j, orderedLane (at_ t s) = some j → Goes u (36 + j) (frameBytes (seq * 2 ^ 32 + 4 * 2 ^ 18 + pairRole u * 2 ^ 15 + 0x20) [0, 0, 0, 0]))) ∧
  (∀ (t : Nat) (s : State), runs t s = true → quiet s = true → pairRole s = 6 → resyncState s = 7 → caughtUp s = true →
    Leads (.catchUpComplete t) s fun u => pairRole u = 3 ∧ resyncState u = 8) ∧
  (∀ (t : Nat) (s : State), runs t s = true → quiet s = true → pairRole s = 6 → s.pair.resyncAt + rd s 0x1302 0x09 * psMs ≤ (at_ t s).now →
    Leads (.resyncTimeout t) s fun u => pairRole u = 5 ∧ resyncState u = 9) ∧
  (∀ (t : Nat) (s : State), runs t s = true → quiet s = true → pairRole s = 4 → 1 ≤ resyncState s → resyncState s ≤ 7 → s.pair.resyncAt + rd s 0x1302 0x09 * psMs ≤ (at_ t s).now →
    Leads (.resyncTimeout t) s fun u => pairRole u = 4 ∧ resyncState u = 9)

/-- Instructions of the base set write their results, move the pc and trap.
On a core that can issue, where the next instruction is w and no hardware loop is active: LUI, AUIPC, register-immediate, register-register, multiply and divide instructions give rd their result (x0 stays 0) and move the pc on by the length; JAL jumps and links; a branch is taken or not by its condition; a word load from and a word store to the core's own memories on a boundary move that word; CSRRW of mscratch exchanges it; FADD.S, FSUB.S, FMUL.S, FDIV.S and FMADD.S with the f state on write the rounded result, accrue its flags and make the f state dirty; FLW and FSW move a word of the core's own memories; with the f state off such an instruction is illegal; ECALL outside trap context enters the trap of cause 11, and a word of an opcode that is no instruction that of cause 2. The encodings, results and flags are those of the RISC-V and IEEE 754 specifications (log entry 20); what an f state of off makes illegal is log entry 59's reading, and the value that mtval takes at such a trap is free (log entry 58). -/
def Obligations.CoreBaseInstructions : Prop :=
  (∀ (t : Nat) (n : CoreId) (w len : Nat) (s : State),
    let c := coreOf s n
    Issues t n w len s → coreRow w = .base → (rvOp w = 0x37 ∨ rvOp w = 0x17) → csrWord c 0x7DE = 0 → 
    Leads (.baseInstruction t n) s fun u => (coreOf u n).pc = addW c.pc len ∧ xr (coreOf u n) (rvRd w) = if rvRd w = 0 then 0 else (if rvOp w = 0x37 then immU w else addW c.pc (immU w)) % 2 ^ 32) ∧
  (∀ (t : Nat) (n : CoreId) (w len : Nat) (s : State),
    let c := coreOf s n
    Issues t n w len s → coreRow w = .base → rvOp w = 0x13 → (rvF3 w = 1 → rvF7 w = 0) → (rvF3 w = 5 → rvF7 w = 0 ∨ rvF7 w = 0x20) → csrWord c 0x7DE = 0 → 
    Leads (.baseInstruction t n) s fun u => (coreOf u n).pc = addW c.pc len ∧
      xr (coreOf u n) (rvRd w) = if rvRd w = 0 then 0 else aluOp (rvF3 w) (rvF3 w == 5 && bitOf w 30) (xr c (rvRs1 w)) (immI w) % 2 ^ 32) ∧
  (∀ (t : Nat) (n : CoreId) (w len : Nat) (s : State),
    let c := coreOf s n
    Issues t n w len s → coreRow w = .base → rvOp w = 0x33 → (rvF7 w = 0 ∨ rvF7 w = 1) → csrWord c 0x7DE = 0 → 
    Leads (.baseInstruction t n) s fun u => (coreOf u n).pc = addW c.pc len ∧
      xr (coreOf u n) (rvRd w) = if rvRd w = 0 then 0 else
        (if rvF7 w = 0 then aluOp (rvF3 w) false (xr c (rvRs1 w)) (xr c (rvRs2 w)) else mulDiv (rvF3 w) (xr c (rvRs1 w)) (xr c (rvRs2 w))) % 2 ^ 32) ∧
  (∀ (t : Nat) (n : CoreId) (w len : Nat) (s : State),
    let c := coreOf s n
    Issues t n w len s → coreRow w = .base → rvOp w = 0x6F → 
    Leads (.baseInstruction t n) s fun u => (coreOf u n).pc = addW c.pc (immJ w) ∧
      xr (coreOf u n) (rvRd w) = if rvRd w = 0 then 0 else addW c.pc len) ∧
  (∀ (t : Nat) (n : CoreId) (w len : Nat) (taken : Bool) (s : State),
    let c := coreOf s n
    Issues t n w len s → coreRow w = .base → rvOp w = 0x63 → branchTaken (rvF3 w) (xr c (rvRs1 w)) (xr c (rvRs2 w)) = some taken → csrWord c 0x7DE = 0 → 
    Leads (.baseInstruction t n) s fun u => (coreOf u n).pc = if taken then addW c.pc (immB w) else addW c.pc len) ∧
  (∀ (t : Nat) (n : CoreId) (w len o : Nat) (s : State),
    let c := coreOf s n
    Issues t n w len s → coreRow w = .base → rvOp w = 0x03 → rvF3 w = 2 → addW (xr c (rvRs1 w)) (immI w) % 4 = 0 → coreAccess n (addW (xr c (rvRs1 w)) (immI w)) = .local_ o → c.portB = [] → csrWord c 0x7DE = 0 → 
    Leads (.baseInstruction t n) s fun u => (coreOf u n).pc = addW c.pc len ∧ xr (coreOf u n) (rvRd w) = if rvRd w = 0 then 0 else memNat s (coreWindow n + o) 4) ∧
  (∀ (t : Nat) (n : CoreId) (w len o : Nat) (s : State),
    let c := coreOf s n
    Issues t n w len s → coreRow w = .base → rvOp w = 0x23 → rvF3 w = 2 → addW (xr c (rvRs1 w)) (immS w) % 4 = 0 → coreAccess n (addW (xr c (rvRs1 w)) (immS w)) = .local_ o → csrWord c 0x7DE = 0 → 
    Leads (.baseInstruction t n) s fun u => (coreOf u n).pc = addW c.pc len ∧ memNat u (coreWindow n + o) 4 = xr c (rvRs2 w) % 256 ^ 4 ∧
      ∀ a, (a < coreWindow n + o ∨ coreWindow n + o + 4 ≤ a) → memByte u a = memByte s a) ∧
  (∀ (t : Nat) (n : CoreId) (w len : Nat) (s : State),
    let c := coreOf s n
    Issues t n w len s → coreRow w = .base → rvOp w = 0x73 → rvF3 w = 1 → bitsOf w 20 12 = 0x340 → csrWord c 0x7DE = 0 → 
    Leads (.baseInstruction t n) s fun u => (coreOf u n).pc = addW c.pc len ∧ csrWord (coreOf u n) 0x340 = xr c (rvRs1 w) &&& 0xFFFFFFFF ∧
      xr (coreOf u n) (rvRd w) = if rvRd w = 0 then 0 else csrWord c 0x340 % 2 ^ 32) ∧
  (∀ (t : Nat) (n : CoreId) (w len : Nat) (m : FpMode) (s : State),
    let c := coreOf s n
    let a := fv (fr c (rvRs1 w))
    let b := fv (fr c (rvRs2 w))
    let r := fpOut (if rvOp w = 0x53 then fpFinish m (if rvF7 w = 0 then fpAddVal m a b else if rvF7 w = 4 then fpAddVal m a (fpNegVal b) else if rvF7 w = 8 then fpMulVal a b else fpDivVal a b)
      else fpFinish m (fpFmaExact m a b (fv (fr c (rvRs3 w)))))
    Issues t n w len s → coreRow w = .base → (rvOp w = 0x53 ∧ (rvF7 w = 0 ∨ rvF7 w = 4 ∨ rvF7 w = 8 ∨ rvF7 w = 12)) ∨ (rvOp w = 0x43 ∧ bitsOf w 25 2 = 0) → fsOff c = false → fpMode (rvF3 w) (frm c) = some m → csrWord c 0x7DE = 0 → 
    Leads (.baseInstruction t n) s fun u => (coreOf u n).pc = addW c.pc len ∧ fr (coreOf u n) (rvRd w) = r.1 ∧ csrWord (coreOf u n) 0x003 = csrWord c 0x003 ||| r.2 ∧ bitsOf (csrWord (coreOf u n) 0x300) 13 2 = 3) ∧
  (∀ (t : Nat) (n : CoreId) (w len o : Nat) (s : State),
    let c := coreOf s n
    let a := addW (xr c (rvRs1 w)) (if rvOp w = 0x07 then immI w else immS w)
    Issues t n w len s → coreRow w = .base → (rvOp w = 0x07 ∨ rvOp w = 0x27) → rvF3 w = 2 → fsOff c = false → a % 4 = 0 → coreAccess n a = .local_ o → c.portB = [] → csrWord c 0x7DE = 0 → 
    Leads (.baseInstruction t n) s fun u => (coreOf u n).pc = addW c.pc len ∧ (rvOp w = 0x07 → fr (coreOf u n) (rvRd w) = memNat s (coreWindow n + o) 4) ∧
      (rvOp w = 0x27 → memNat u (coreWindow n + o) 4 = fr c (rvRs2 w) % 256 ^ 4)) ∧
  (∀ (t : Nat) (n : CoreId) (w len : Nat) (s : State),
    let c := coreOf s n
    Issues t n w len s → coreRow w = .base → rvOp w ∈ [0x07, 0x27, 0x43, 0x47, 0x4B, 0x4F, 0x53] → fsOff c = true → c.tc = false → csrWord c 0x305 % 4 = 0 → 
    Leads (.baseInstruction t n) s fun u => (coreOf u n).tc = true ∧ csrWord (coreOf u n) 0x341 = c.pc ∧ csrWord (coreOf u n) 0x342 = 2) ∧
  (∀ (t : Nat) (n : CoreId) (w len : Nat) (s : State),
    let c := coreOf s n
    Issues t n w len s → coreRow w = .base → (w = 0x73 ∨ rvOp w = 0x7F) → c.tc = false → csrWord c 0x305 % 4 = 0 → 
    Leads (.baseInstruction t n) s fun u => (coreOf u n).tc = true ∧ (coreOf u n).cwp = (c.cwp + 1) % 16 ∧ (coreOf u n).pc = csrWord c 0x305 ∧
      csrWord (coreOf u n) 0x341 = c.pc ∧ csrWord (coreOf u n) 0x342 = (if w = 0x73 then 11 else 2) ∧ bitOf (csrWord (coreOf u n) 0x300) 3 = false)

/-- Window calls and returns, multiple transfers, spills and fills, and the repeats and loops.
On a core that can issue and whose next instruction belongs to the row: CALLW and CALLWR with fewer than 14 windows in use open a window that holds the link and jump, and with 14 raise cause 24 outside trap context; RETW with more than one window closes it and jumps to the link. With no hardware loop active: SMM, SMM.O, LMM and LMM.O whose mask is allowed and whose addresses lie in the core's own memories complete, and each register that the mask names is moved to or from the word that stands as many words above the base as mask bits below it are set; SPILLW and FILLW in trap context move the 17 words of the oldest window so, and the base of the windows, the depth and the spill pointer; REP and REPR set the repetition of the instruction that follows, and REPR of 0 passes it; LOOP with a count sets up the next loop. After a LUI or AUIPC, the innermost loop that ends there goes back to its start with its count one less while the count is above 1, ends at a count of 1, with the outer loop that ends there looked at next, and a loop that ends elsewhere changes nothing. How REP, REPR and LOOP act on a count of 0 and on the instruction that follows is log entry 63's reading, and the registers that LMM.O may not use as base or mask that of log entry 61. -/
def Obligations.CoreWindowsAndLoops : Prop :=
  (∀ (t : Nat) (n : CoreId) (w len : Nat) (s : State),
    let c := coreOf s n
    Issues t n w len s → coreRow w = .callw → rvRd w = 31 → 
    Leads (.callw t n) s fun u => 
      (windowsUsed c < 14 → (coreOf u n).cwp = (c.cwp + 1) % 16 ∧ tabGet 0 (coreOf u n).link ((c.cwp + 1) % 16) = addW c.pc len ∧ (coreOf u n).pc = addW c.pc (immJ w)) ∧
      (14 ≤ windowsUsed c → c.tc = false → csrWord (coreOf u n) 0x342 = 24 ∧ csrWord (coreOf u n) 0x343 = c.wb ∧ (coreOf u n).tc = true)) ∧
  (∀ (t : Nat) (n : CoreId) (w len : Nat) (s : State),
    let c := coreOf s n
    Issues t n w len s → coreRow w = .callwr → rvRd w = 31 → windowsUsed c < 14 → 
    Leads (.callwr t n) s fun u => 
      (coreOf u n).cwp = (c.cwp + 1) % 16 ∧ tabGet 0 (coreOf u n).link ((c.cwp + 1) % 16) = addW c.pc len ∧
      (coreOf u n).pc = addW (xr c (rvRs1 w)) (immI w) - addW (xr c (rvRs1 w)) (immI w) % 2) ∧
  (∀ (t : Nat) (n : CoreId) (w len : Nat) (s : State),
    let c := coreOf s n
    Issues t n w len s → coreRow w = .retw → w = 0x100B → windowsUsed c ≠ 1 → 
    Leads (.retw t n) s fun u => 
      (coreOf u n).cwp = (c.cwp + 15) % 16 ∧ (coreOf u n).pc = (tabGet 0 c.link c.cwp - tabGet 0 c.link c.cwp % 2) % 2 ^ 32) ∧
  (∀ (t : Nat) (n : CoreId) (w len regs : Nat) (s : State),
    let c := coreOf s n
    let m : Multi := { load := false, mask := xr c (rvRs2 w), win := none, base := xr c (rvRs1 w) }
    Issues t n w len s → coreRow w = .smm → rvRd w = 0 → bitsOf w 26 6 = 0 → bitOf m.mask 0 = false → m.base % 4 = 0 → 32 ≤ regs →
    (∀ k, k < 32 → bitOf m.mask k = true → ∃ o, coreAccess n (multiAddr m k) = .local_ o) → csrWord c 0x7C2 = 0 → csrWord c 0x7DE = 0 → 
    Leads (.smm t n regs) s fun u => (coreOf u n).pc = addW c.pc len ∧ csrWord (coreOf u n) 0x7C2 = 0 ∧
      ∀ k o, k < 32 → bitOf m.mask k = true → coreAccess n (addW m.base (4 * popcount k m.mask)) = .local_ o → memNat u (coreWindow n + o) 4 = multiGet c m k % 256 ^ 4) ∧
  (∀ (t : Nat) (n : CoreId) (w len regs : Nat) (s : State),
    let c := coreOf s n
    let m : Multi := { load := false, mask := xr c (rvRs2 w), win := (some c.wb), base := xr c (rvRs1 w) }
    Issues t n w len s → coreRow w = .smmO → rvRd w = 0 → bitsOf w 26 6 = 0 → clearBits m.mask 0x00FFFF01 = 0 → m.base % 4 = 0 → 32 ≤ regs →
    (∀ k, k < 32 → bitOf m.mask k = true → ∃ o, coreAccess n (multiAddr m k) = .local_ o) → csrWord c 0x7C2 = 0 → csrWord c 0x7DE = 0 → 
    Leads (.smmO t n regs) s fun u => (coreOf u n).pc = addW c.pc len ∧ csrWord (coreOf u n) 0x7C2 = 0 ∧
      ∀ k o, k < 32 → bitOf m.mask k = true → coreAccess n (addW m.base (4 * popcount k m.mask)) = .local_ o → memNat u (coreWindow n + o) 4 = multiGet c m k % 256 ^ 4) ∧
  (∀ (t : Nat) (n : CoreId) (w len regs : Nat) (s : State),
    let c := coreOf s n
    let m : Multi := { load := true, mask := xr c (rvRs2 w), win := none, base := xr c (rvRs1 w) }
    Issues t n w len s → coreRow w = .lmm → rvRd w = 0 → bitsOf w 26 6 = 0 → bitOf m.mask 0 = false → (∀ r, r = rvRs1 w ∨ r = rvRs2 w → ¬ (r ≠ 0 ∧ bitOf m.mask r = true)) → m.base % 4 = 0 → 32 ≤ regs →
    (∀ k, k < 32 → bitOf m.mask k = true → ∃ o, coreAccess n (multiAddr m k) = .local_ o) → csrWord c 0x7C2 = 0 → csrWord c 0x7DE = 0 → 
    Leads (.lmm t n regs) s fun u => (coreOf u n).pc = addW c.pc len ∧ csrWord (coreOf u n) 0x7C2 = 0 ∧
      ∀ k o, k < 32 → bitOf m.mask k = true → coreAccess n (addW m.base (4 * popcount k m.mask)) = .local_ o → c.portB = [] → multiGet (coreOf u n) m k = memNat s (coreWindow n + o) 4) ∧
  (∀ (t : Nat) (n : CoreId) (w len regs : Nat) (s : State),
    let c := coreOf s n
    let m : Multi := { load := true, mask := xr c (rvRs2 w), win := (some c.wb), base := xr c (rvRs1 w) }
    Issues t n w len s → coreRow w = .lmmO → rvRd w = 0 → bitsOf w 26 6 = 0 → clearBits m.mask 0x00FFFF01 = 0 → (∀ r, r = rvRs1 w ∨ r = rvRs2 w → ¬ (r ≠ 0 ∧ bitOf m.mask r = true ∧ c.wb = c.cwp)) → m.base % 4 = 0 → 32 ≤ regs →
    (∀ k, k < 32 → bitOf m.mask k = true → ∃ o, coreAccess n (multiAddr m k) = .local_ o) → csrWord c 0x7C2 = 0 → csrWord c 0x7DE = 0 → 
    Leads (.lmmO t n regs) s fun u => (coreOf u n).pc = addW c.pc len ∧ csrWord (coreOf u n) 0x7C2 = 0 ∧
      ∀ k o, k < 32 → bitOf m.mask k = true → coreAccess n (addW m.base (4 * popcount k m.mask)) = .local_ o → c.portB = [] → multiGet (coreOf u n) m k = memNat s (coreWindow n + o) 4) ∧
  (∀ (t : Nat) (n : CoreId) (w len : Nat) (s : State),
    let c := coreOf s n
    let m : Multi := { load := false, mask := 0x00FFFF01, win := some c.wb, base := csrWord c 0x7C1, frame := 1 }
    Issues t n w len s → coreRow w = .spillw → w = 0x400B → c.tc = true → c.wb ≠ (c.tw + 15) % 16 → m.base % 4 = 0 →
    (∀ k, k < 32 → bitOf m.mask k = true → ∃ o, coreAccess n (multiAddr m k) = .local_ o) → csrWord c 0x7DE = 0 → 
    Leads (.spillw t n) s fun u => (coreOf u n).pc = addW c.pc len ∧ (coreOf u n).wb = (c.wb + 1) % 16 ∧ (coreOf u n).sd = (c.sd + 1) % 4096 ∧ csrWord (coreOf u n) 0x7C1 = addW m.base 68 ∧
      ∀ k o, k < 32 → bitOf m.mask k = true → coreAccess n (addW m.base (4 * popcount k m.mask)) = .local_ o → memNat u (coreWindow n + o) 4 = multiGet c m k % 256 ^ 4) ∧
  (∀ (t : Nat) (n : CoreId) (w len : Nat) (s : State),
    let c := coreOf s n
    let m : Multi := { load := true, mask := 0x00FFFF01, win := some ((c.wb + 15) % 16), base := addW (csrWord c 0x7C1) (2 ^ 32 - 68), frame := 2 }
    Issues t n w len s → coreRow w = .fillw → w = 0x0200400B → c.tc = true → c.sd ≠ 0 → windowsUsed c < 15 → m.base % 4 = 0 →
    (∀ k, k < 32 → bitOf m.mask k = true → ∃ o, coreAccess n (multiAddr m k) = .local_ o) → csrWord c 0x7DE = 0 → 
    Leads (.fillw t n) s fun u => (coreOf u n).pc = addW c.pc len ∧ (coreOf u n).wb = (c.wb + 15) % 16 ∧ (coreOf u n).sd = (c.sd + 4095) % 4096 ∧ csrWord (coreOf u n) 0x7C1 = m.base ∧
      ∀ k o, k < 32 → bitOf m.mask k = true → coreAccess n (addW m.base (4 * popcount k m.mask)) = .local_ o → c.portB = [] → multiGet (coreOf u n) m k = memNat s (coreWindow n + o) 4) ∧
  (∀ (t : Nat) (n : CoreId) (w len v l : Nat) (s : State),
    let c := coreOf s n
    Issues t n w len s → coreRow w = .rep → rvRd w = 0 → rvRs1 w = 0 → c.stale = [] → (fetch (at_ t s) n (addW c.pc 4)).2 = .instr v l → repeatable v = true → csrWord c 0x7DE = 0 → 
    Leads (.rep t n) s fun u => (coreOf u n).rep = some (bitsOf w 20 12 + 1, 0) ∧ (coreOf u n).pc = addW c.pc 4) ∧
  (∀ (t : Nat) (n : CoreId) (w len v l : Nat) (s : State),
    let c := coreOf s n
    Issues t n w len s → coreRow w = .repr → rvRd w = 0 → bitsOf w 20 12 = 0 → xr c (rvRs1 w) ≤ 4096 → c.stale = [] → (fetch (at_ t s) n (addW c.pc 4)).2 = .instr v l → repeatable v = true → csrWord c 0x7DE = 0 → 
    Leads (.repr t n) s fun u => (coreOf u n).pc = addW c.pc (if xr c (rvRs1 w) = 0 then 8 else 4) ∧
      (coreOf u n).rep = if xr c (rvRs1 w) = 0 then c.rep else some (xr c (rvRs1 w), 0)) ∧
  (∀ (t : Nat) (n : CoreId) (w len : Nat) (s : State),
    let c := coreOf s n
    let d := csrWord c 0x7DE
    Issues t n w len s → coreRow w = .loop → rvRd w = 0 → 2 ≤ bitsOf w 20 12 → d < 2 → xr c (rvRs1 w) ≠ 0 → c.pc < 2 ^ 32 →
    Leads (.loop t n) s fun u => (coreOf u n).pc = addW c.pc 4 ∧ csrWord (coreOf u n) 0x7DE = d + 1 ∧ csrWord (coreOf u n) (0x7D8 + 3 * d) = xr c (rvRs1 w) ∧
      csrWord (coreOf u n) (0x7D9 + 3 * d) = addW c.pc 4 ∧ csrWord (coreOf u n) (0x7DA + 3 * d) = addW c.pc (2 * bitsOf w 20 12)) ∧
  (∀ (t : Nat) (n : CoreId) (w len : Nat) (s : State),
    let c := coreOf s n
    let d := csrWord c 0x7DE
    let lc := fun (k : Nat) => csrWord c (0x7D8 + 3 * k)
    let le := fun (k : Nat) => csrWord c (0x7DA + 3 * k)
    Issues t n w len s → coreRow w = .base → (rvOp w = 0x37 ∨ rvOp w = 0x17) → 1 ≤ d → d ≤ 2 →
    Leads (.baseInstruction t n) s fun u => xr (coreOf u n) (rvRd w) = (if rvRd w = 0 then 0 else (if rvOp w = 0x37 then immU w else addW c.pc (immU w)) % 2 ^ 32) ∧
      (le (d - 1) ≠ c.pc → (coreOf u n).pc = addW c.pc len ∧ csrWord (coreOf u n) 0x7DE = d) ∧
      (le (d - 1) = c.pc → 1 < lc (d - 1) → (coreOf u n).pc = csrWord c (0x7D9 + 3 * (d - 1)) ∧ csrWord (coreOf u n) 0x7DE = d ∧ csrWord (coreOf u n) (0x7D8 + 3 * (d - 1)) = lc (d - 1) - 1) ∧
      (le (d - 1) = c.pc → lc (d - 1) = 1 → (d = 1 ∨ le 0 ≠ c.pc) → (coreOf u n).pc = addW c.pc len ∧ csrWord (coreOf u n) 0x7DE = d - 1) ∧
      (d = 2 → le 1 = c.pc → lc 1 = 1 → le 0 = c.pc → 1 < lc 0 → (coreOf u n).pc = csrWord c 0x7D9 ∧ csrWord (coreOf u n) 0x7DE = 1 ∧ csrWord (coreOf u n) 0x7D8 = lc 0 - 1))

/-- The accumulating instructions and the moves of X and Y memory.
On a core that can issue, with the f state on, no hardware loop and no use of X or Y memory by the network at the time: each of the five multiply-accumulate rows, outside a REP or in its last repetition, puts its result in flight, for four NCLK later, to its accumulator, which ROT moves on by the repetition number, and moves its pointers on, and under a REP it issues as often as repetitions are left, each moving its pointer on and counting once; without a repetition XLD and YLD give fd the word at the pointer, XST and YST store fs there, and move the pointer on; FMVAF gives fd the accumulator, FMVFA and ACCZ put a write of it in flight, and ACCSUM gives fd the sum of the four. A write in flight whose time has come reaches its accumulator. -/
def Obligations.CoreSignalInstructions : Prop :=
  (∀ (t : Nat) (n : CoreId) (w len : Nat) (px py k : Nat) (s : State),
    let c := coreOf s n
    let y := coreOf (issueAt (at_ t s) n []) n
    let i := (bitsOf w 29 2 + if bitOf w 28 then k else 0) % 4
    Issues t n w len s → coreRow w = .fmac → fmacOk w = true → fsOff c = false → c.portB = [] → ((c.rep = none ∧ k = 0) ∨ c.rep = some (1, k)) → csrWord c 0x7DE = 0 → 
    postModify c 0 (bitsOf w 26 2) (bitsOf w 22 2) = some px → postModify c 1 (bitsOf w 24 2) (bitsOf w 20 2) = some py → 
    Leads (.fmac t n) s fun u => (coreOf u n).pc = addW c.pc len ∧ (coreOf u n).rep = none ∧ dspPtr (coreOf u n) 0 (bitsOf w 26 2) = px ∧ dspPtr (coreOf u n) 1 (bitsOf w 24 2) = py ∧
      (coreOf u n).accWrites = y.accWrites ++ [(i, (fmacValue 0 (bitOf w 31) (tabGet 0 y.acc i)
        (memNat s (coreWindow n + xyOffset 0 (dspPtr c 0 (bitsOf w 26 2))) 4) (memNat s (coreWindow n + xyOffset 1 (dspPtr c 1 (bitsOf w 24 2))) 4)).1, nclk (issueAt (at_ t s) n []) + 4)]) ∧
  (∀ (t : Nat) (n : CoreId) (w len : Nat) (px py k : Nat) (s : State),
    let c := coreOf s n
    let y := coreOf (issueAt (at_ t s) n []) n
    let i := (bitsOf w 29 2 + if bitOf w 28 then k else 0) % 4
    Issues t n w len s → coreRow w = .fmsc → fmacOk w = true → fsOff c = false → c.portB = [] → ((c.rep = none ∧ k = 0) ∨ c.rep = some (1, k)) → csrWord c 0x7DE = 0 → 
    postModify c 0 (bitsOf w 26 2) (bitsOf w 22 2) = some px → postModify c 1 (bitsOf w 24 2) (bitsOf w 20 2) = some py → 
    Leads (.fmsc t n) s fun u => (coreOf u n).pc = addW c.pc len ∧ (coreOf u n).rep = none ∧ dspPtr (coreOf u n) 0 (bitsOf w 26 2) = px ∧ dspPtr (coreOf u n) 1 (bitsOf w 24 2) = py ∧
      (coreOf u n).accWrites = y.accWrites ++ [(i, (fmacValue 1 (bitOf w 31) (tabGet 0 y.acc i)
        (memNat s (coreWindow n + xyOffset 0 (dspPtr c 0 (bitsOf w 26 2))) 4) (memNat s (coreWindow n + xyOffset 1 (dspPtr c 1 (bitsOf w 24 2))) 4)).1, nclk (issueAt (at_ t s) n []) + 4)]) ∧
  (∀ (t : Nat) (n : CoreId) (w len : Nat) (px py k : Nat) (s : State),
    let c := coreOf s n
    let y := coreOf (issueAt (at_ t s) n []) n
    let i := (bitsOf w 29 2 + if bitOf w 28 then k else 0) % 4
    Issues t n w len s → coreRow w = .fmula → fmacOk w = true → fsOff c = false → c.portB = [] → ((c.rep = none ∧ k = 0) ∨ c.rep = some (1, k)) → csrWord c 0x7DE = 0 → 
    postModify c 0 (bitsOf w 26 2) (bitsOf w 22 2) = some px → postModify c 1 (bitsOf w 24 2) (bitsOf w 20 2) = some py → 
    Leads (.fmula t n) s fun u => (coreOf u n).pc = addW c.pc len ∧ (coreOf u n).rep = none ∧ dspPtr (coreOf u n) 0 (bitsOf w 26 2) = px ∧ dspPtr (coreOf u n) 1 (bitsOf w 24 2) = py ∧
      (coreOf u n).accWrites = y.accWrites ++ [(i, (fmacValue 2 (bitOf w 31) (tabGet 0 y.acc i)
        (memNat s (coreWindow n + xyOffset 0 (dspPtr c 0 (bitsOf w 26 2))) 4) (memNat s (coreWindow n + xyOffset 1 (dspPtr c 1 (bitsOf w 24 2))) 4)).1, nclk (issueAt (at_ t s) n []) + 4)]) ∧
  (∀ (t : Nat) (n : CoreId) (w len : Nat) (px k : Nat) (s : State),
    let c := coreOf s n
    let y := coreOf (issueAt (at_ t s) n [fKey (rvRs1 w)]) n
    let i := (bitsOf w 29 2 + if bitOf w 28 then k else 0) % 4
    Issues t n w len s → coreRow w = .fmacf → fmacOk w = true → fsOff c = false → c.portB = [] → ((c.rep = none ∧ k = 0) ∨ c.rep = some (1, k)) → csrWord c 0x7DE = 0 → 
    postModify c 0 (bitsOf w 26 2) (bitsOf w 22 2) = some px → 
    Leads (.fmacf t n) s fun u => (coreOf u n).pc = addW c.pc len ∧ (coreOf u n).rep = none ∧ dspPtr (coreOf u n) 0 (bitsOf w 26 2) = px ∧
      (coreOf u n).accWrites = y.accWrites ++ [(i, (fmacValue 3 (bitOf w 31) (tabGet 0 y.acc i)
        (memNat s (coreWindow n + xyOffset 0 (dspPtr c 0 (bitsOf w 26 2))) 4) (fr c (rvRs1 w))).1, nclk (issueAt (at_ t s) n [fKey (rvRs1 w)]) + 4)]) ∧
  (∀ (t : Nat) (n : CoreId) (w len : Nat) (px k : Nat) (s : State),
    let c := coreOf s n
    let y := coreOf (issueAt (at_ t s) n [fKey (rvRs1 w)]) n
    let i := (bitsOf w 29 2 + if bitOf w 28 then k else 0) % 4
    Issues t n w len s → coreRow w = .fmscf → fmacOk w = true → fsOff c = false → c.portB = [] → ((c.rep = none ∧ k = 0) ∨ c.rep = some (1, k)) → csrWord c 0x7DE = 0 → 
    postModify c 0 (bitsOf w 26 2) (bitsOf w 22 2) = some px → 
    Leads (.fmscf t n) s fun u => (coreOf u n).pc = addW c.pc len ∧ (coreOf u n).rep = none ∧ dspPtr (coreOf u n) 0 (bitsOf w 26 2) = px ∧
      (coreOf u n).accWrites = y.accWrites ++ [(i, (fmacValue 4 (bitOf w 31) (tabGet 0 y.acc i)
        (memNat s (coreWindow n + xyOffset 0 (dspPtr c 0 (bitsOf w 26 2))) 4) (fr c (rvRs1 w))).1, nclk (issueAt (at_ t s) n [fKey (rvRs1 w)]) + 4)]) ∧
  (∀ (t : Nat) (n : CoreId) (w len p : Nat) (s : State),
    let c := coreOf s n
    Issues t n w len s → coreRow w = .xld → moveOk w = true → fsOff c = false → c.portB = [] → c.rep = none → csrWord c 0x7DE = 0 → postModify c 0 (bitsOf w 25 2) (bitsOf w 23 2) = some p →
    Leads (.xld t n) s fun u => (coreOf u n).pc = addW c.pc len ∧ dspPtr (coreOf u n) 0 (bitsOf w 25 2) = p ∧ fr (coreOf u n) (rvRd w) = memNat s (coreWindow n + xyOffset 0 (dspPtr c 0 (bitsOf w 25 2))) 4) ∧
  (∀ (t : Nat) (n : CoreId) (w len p : Nat) (s : State),
    let c := coreOf s n
    Issues t n w len s → coreRow w = .yld → moveOk w = true → fsOff c = false → c.portB = [] → c.rep = none → csrWord c 0x7DE = 0 → postModify c 1 (bitsOf w 25 2) (bitsOf w 23 2) = some p →
    Leads (.yld t n) s fun u => (coreOf u n).pc = addW c.pc len ∧ dspPtr (coreOf u n) 1 (bitsOf w 25 2) = p ∧ fr (coreOf u n) (rvRd w) = memNat s (coreWindow n + xyOffset 1 (dspPtr c 1 (bitsOf w 25 2))) 4) ∧
  (∀ (t : Nat) (n : CoreId) (w len p : Nat) (s : State),
    let c := coreOf s n
    Issues t n w len s → coreRow w = .xst → moveOk w = true → fsOff c = false → c.portB = [] → c.rep = none → csrWord c 0x7DE = 0 → postModify c 0 (bitsOf w 25 2) (bitsOf w 23 2) = some p →
    Leads (.xst t n) s fun u => (coreOf u n).pc = addW c.pc len ∧ dspPtr (coreOf u n) 0 (bitsOf w 25 2) = p ∧ memNat u (coreWindow n + xyOffset 0 (dspPtr c 0 (bitsOf w 25 2))) 4 = fr c (rvRs1 w) % 256 ^ 4) ∧
  (∀ (t : Nat) (n : CoreId) (w len p : Nat) (s : State),
    let c := coreOf s n
    Issues t n w len s → coreRow w = .yst → moveOk w = true → fsOff c = false → c.portB = [] → c.rep = none → csrWord c 0x7DE = 0 → postModify c 1 (bitsOf w 25 2) (bitsOf w 23 2) = some p →
    Leads (.yst t n) s fun u => (coreOf u n).pc = addW c.pc len ∧ dspPtr (coreOf u n) 1 (bitsOf w 25 2) = p ∧ memNat u (coreWindow n + xyOffset 1 (dspPtr c 1 (bitsOf w 25 2))) 4 = fr c (rvRs1 w) % 256 ^ 4) ∧
  (∀ (t : Nat) (n : CoreId) (w len : Nat) (s : State),
    let c := coreOf s n
    Issues t n w len s → coreRow w = .fmvaf → moveOk w = true → fsOff c = false → csrWord c 0x7DE = 0 → 
    Leads (.fmvaf t n) s fun u => (coreOf u n).pc = addW c.pc len ∧ fr (coreOf u n) (rvRd w) = tabGet 0 (coreOf (issueAt (at_ t s) n []) n).acc (bitsOf w 25 2)) ∧
  (∀ (t : Nat) (n : CoreId) (w len : Nat) (s : State),
    let c := coreOf s n
    let k := [fKey (rvRs1 w)]
    Issues t n w len s → coreRow w = .fmvfa → moveOk w = true → fsOff c = false → csrWord c 0x7DE = 0 → 
    Leads (.fmvfa t n) s fun u => (coreOf u n).pc = addW c.pc len ∧ (coreOf u n).accWrites = (coreOf (issueAt (at_ t s) n k) n).accWrites ++ [(bitsOf w 25 2, fr c (rvRs1 w), nclk (issueAt (at_ t s) n k) + 4)]) ∧
  (∀ (t : Nat) (n : CoreId) (w len : Nat) (s : State),
    let c := coreOf s n
    let y := issueAt (at_ t s) n []
    Issues t n w len s → coreRow w = .accz → moveOk w = true → csrWord c 0x7DE = 0 → 
    Leads (.accz t n) s fun u => (coreOf u n).pc = addW c.pc len ∧ (coreOf u n).accWrites = (coreOf y n).accWrites ++ ((List.range 4).filter fun i => bitOf w (27 + i)).map fun i => (i, 0, nclk y + 4)) ∧
  (∀ (t : Nat) (n : CoreId) (w len : Nat) (s : State),
    let c := coreOf s n
    let acc := (coreOf (issueAt (at_ t s) n []) n).acc
    let add := fun (a b : Nat) => (fpFinish .rne (fpAddVal .rne (fv a) (fv b))).1.toNat
    Issues t n w len s → coreRow w = .accsum → moveOk w = true → fsOff c = false → csrWord c 0x7DE = 0 → 
    Leads (.accsum t n) s fun u => (coreOf u n).pc = addW c.pc len ∧ fr (coreOf u n) (rvRd w) = add (add (tabGet 0 acc 0) (tabGet 0 acc 1)) (add (tabGet 0 acc 2) (tabGet 0 acc 3))) ∧
  (∀ (t : Nat) (n : CoreId) (i v k : Nat) (s : State), runs t s = true → (coreOf s n).accWrites = [(i, v, k)] → k ≤ nclk (at_ t s) →
    Leads (.accumulatorWrite t n) s fun u => (coreOf u n).accWrites = [] ∧ tabGet 0 (coreOf u n).acc i = v) ∧
  (∀ (t : Nat) (n : CoreId) (w len left k : Nat) (e : CoreRow × Instr) (s : State),
    let c := coreOf s n
    e ∈ [(CoreRow.fmac, Instr.fmac t n), (.fmsc, .fmsc t n), (.fmula, .fmula t n), (.fmacf, .fmacf t n), (.fmscf, .fmscf t n)] →
    Issues t n w len s → coreRow w = e.1 → fmacOk w = true → fsOff c = false → c.rep = some (left, k) → 1 ≤ left → bitsOf w 22 2 = 2 → (rvF3 w < 3 → bitsOf w 20 2 = 0) → dspLen c 0 (bitsOf w 26 2) = 0 → csrWord c 0x7DE = 0 → 
    Leads e.2 s fun u => (coreOf u n).pc = addW c.pc len ∧ (coreOf u n).rep = none ∧ (coreOf u n).retired = (c.retired + left) % 2 ^ 64 ∧
      dspPtr (coreOf u n) 0 (bitsOf w 26 2) = wrapInt 16 (dspPtr c 0 (bitsOf w 26 2) + 4 * left : Nat))

/-- Cores run, halt, are reset, take interrupts and return from traps.
MRET in the trap's own window restores the interrupt enable, the window and the pc. A pending enabled interrupt of a running core outside trap context is taken: DISPATCH with cause 16 before EVENT with cause 17. While an interrupt is due at the boundary, or a halt is latched, no instruction of any row issues. Run 1 of a core in RESET starts it at StartAddress, and of a halted core resumes it; Run 0 of a running core latches a halt, which takes effect at the next boundary; Reset of a halted core or one in DOUBLE_FAULT puts it into RESET. -/
def Obligations.CoresRunAndTrap : Prop :=
  (∀ (t : Nat) (n : CoreId) (len : Nat) (s : State),
    let c := coreOf s n
    Issues t n 0x30200073 len s → c.tc = true → c.cwp = c.tw →
    Leads (.mret t n) s fun u => (coreOf u n).pc = csrWord c 0x341 ∧ (coreOf u n).tc = false ∧ (coreOf u n).cwp = (c.tw + 15) % 16 ∧
      bitOf (csrWord (coreOf u n) 0x300) 3 = bitOf (csrWord c 0x300) 7 ∧ csrWord (coreOf u n) 0x7C2 = csrWord c 0x7C3) ∧
  (∀ (t : Nat) (n : CoreId) (s : State),
    let c := coreOf s n
    let p := mip (at_ t s) n &&& csrWord c 0x304
    runs t s = true → coreState s n = 2 → bitOf (csrWord c 0x300) 3 = true → c.tc = false → c.rep = none → c.wait = none → p ≠ 0 →
    Leads (.interrupt t n) s fun u => (coreOf u n).tc = true ∧ (coreOf u n).cwp = (c.cwp + 1) % 16 ∧ csrWord (coreOf u n) 0x341 = c.pc ∧
      csrWord (coreOf u n) 0x342 = 2 ^ 31 + (if bitOf p 16 then 16 else 17) ∧ bitOf (csrWord (coreOf u n) 0x300) 3 = false ∧ bitOf (csrWord (coreOf u n) 0x300) 7 = true) ∧
  (∀ (t r : Nat) (n : CoreId) (c : Instr) (s : State), runs t s = true → (interruptsAt s n ≠ 0 ∨ ((coreOf s n).haltLatched = true ∧ (coreOf s n).rep = none)) →
    c ∈ [Instr.baseInstruction t n, .callw t n, .callwr t n, .retw t n, .smm t n r, .smmO t n r, .lmm t n r, .lmmO t n r, .spillw t n, .fillw t n, .rep t n, .repr t n, .loop t n,
        .fmac t n, .fmsc t n, .fmula t n, .fmacf t n, .fmscf t n, .xld t n, .yld t n, .xst t n, .yst t n, .fmvaf t n, .fmvfa t n, .accz t n, .accsum t n, .mret t n] →
    Leads c s fun u => u = at_ t s) ∧
  (∀ (src : Source) (n : CoreId) (s : State), canSet s src (cP n) 0x01 1 = true → (coreState s n = 1 ∨ coreState s n = 3) →
    Leads (.coreRun src n) s fun u => Holds (cP n) 0x01 1 u ∧ coreState u n = 2 ∧ (coreOf u n).pc = if coreState s n = 1 then rd s (cP n) 0x02 else (coreOf s n).pc) ∧
  (∀ (src : Source) (n : CoreId) (s : State), canSet s src (cP n) 0x01 0 = true →
    Leads (.coreHalt src n) s fun u => Holds (cP n) 0x01 0 u ∧ (coreState s n = 2 → (coreOf u n).haltLatched = true)) ∧
  (∀ (t : Nat) (n : CoreId) (s : State), runs t s = true → coreState s n = 2 → (coreOf s n).haltLatched = true → (coreOf s n).rep = none → (coreOf s n).wait = none →
    Leads (.coreHalted t n) s fun u => coreState u n = 3 ∧ (coreOf u n).haltLatched = false) ∧
  (∀ (src : Source) (n : CoreId) (s : State), canSet s src (cP n) 0x03 1 = true → (coreState s n = 3 ∨ coreState s n = 4) →
    Leads (.coreReset src n) s fun u => u.answer.status = some .ok ∧ coreState u n = 1 ∧ rd u (cP n) 0x01 = 0 ∧ (coreOf u n).pc = rd s (cP n) 0x02)

/-- TaskSetup, the task commands and offers move tasks between their states.
A TaskSetup of a FREE, BLOCKED or SUSPENDED task with its reserved bits 0 sets priority, affinity and flags. CREATE makes a FREE task BLOCKED with no posts. POST puts a BLOCKED task at the tail of its priority's ready list and adds a post to a READY, OFFERED, RUNNING or SUSPENDED task with room. SUSPEND of a BLOCKED or READY task takes it off its lists; RESUME makes a SUSPENDED task BLOCKED, or READY at the tail when posts wait; DELETE of a BLOCKED or SUSPENDED task leaves a slot like a FREE one. While the clocks run and 4 NCLK after the last offer, the first ready task with a core is offered to it, and the task that it displaces goes back to the head of its list. An offer that is DispatchTimeout NCLK old is withdrawn to the head of its list and counted. -/
def Obligations.TaskCommandsMoveTasks : Prop :=
  (∀ (src : Source) (v : Nat) (s : State), canSet s src 0x1605 0x00 v = true → v < 2 ^ 35 → bitsOf v 9 7 = 0 → bitsOf v 21 3 = 0 →
    let k := bitsOf v 0 9
    let x := taskOf s k
    (x.st = 0 ∨ x.st = 1 ∨ x.st = 6) →
    Leads (.taskSetup src v) s fun u => u.answer.status = some .ok ∧
      taskOf u k = { x with prio := bitsOf v 16 5, affinity := bitsOf v 24 8, postWakes := bitOf v 32, sticky := bitOf v 33, noMigrate := bitOf v 34 }) ∧
  (∀ (src : Source) (k : Nat) (s : State), canSet s src 0x1606 0x00 (k % 512 + 1 * 2 ^ 24) = true → (taskOf s (k % 512)).st = 0 →
    Leads (.taskCreate src k) s fun u => u.answer.status = some .ok ∧ taskOf u (k % 512) = { taskOf s (k % 512) with st := 1, posts := 0 }) ∧
  (∀ (src : Source) (k : Nat) (s : State), canSet s src 0x1606 0x00 (k % 512 + 2 * 2 ^ 24) = true →
    let x := taskOf s (k % 512)
    (x.st = 1 ∨ (x.st = 2 ∨ x.st = 3 ∨ x.st = 4 ∨ x.st = 6) ∧ x.posts < 65535) →
    Leads (.taskPost src k) s fun u => u.answer.status = some .ok ∧
      (x.st = 1 → taskOf u (k % 512) = { x with st := 2 } ∧ readyList u x.prio = readyList s x.prio ++ [k % 512]) ∧
      (x.st ≠ 1 → taskOf u (k % 512) = { x with posts := x.posts + 1 } ∧ u.sched.ready = s.sched.ready)) ∧
  (∀ (src : Source) (k : Nat) (s : State), canSet s src 0x1606 0x00 (k % 512 + 3 * 2 ^ 24) = true → offeredCore s (k % 512) = none →
    ((taskOf s (k % 512)).st = 1 ∨ (taskOf s (k % 512)).st = 2) →
    Leads (.taskSuspend src k) s fun u => u.answer.status = some .ok ∧ (taskOf u (k % 512)).st = 6 ∧
      readyList u (taskOf s (k % 512)).prio = (readyList s (taskOf s (k % 512)).prio).filter (fun j => j != k % 512)) ∧
  (∀ (src : Source) (k : Nat) (s : State), canSet s src 0x1606 0x00 (k % 512 + 4 * 2 ^ 24) = true →
    let x := taskOf s (k % 512)
    x.st = 6 →
    Leads (.taskResume src k) s fun u => u.answer.status = some .ok ∧ taskOf u (k % 512) = { x with st := if x.posts = 0 then 1 else 2 } ∧
      (x.posts ≠ 0 → readyList u x.prio = readyList s x.prio ++ [k % 512])) ∧
  (∀ (src : Source) (k : Nat) (s : State), canSet s src 0x1606 0x00 (k % 512 + 5 * 2 ^ 24) = true → ((taskOf s (k % 512)).st = 1 ∨ (taskOf s (k % 512)).st = 6) →
    Leads (.taskDelete src k) s fun u => u.answer.status = some .ok ∧ taskOf u (k % 512) = {}) ∧
  (∀ (t k n : Nat) (s : State), runs t s = true → (s.sched.offerAt = 0 ∨ s.sched.offerAt + 4 ≤ nclk (at_ t s) + 1) → nextOffer s = some (k, n) →
    Leads (.taskOffer t) s fun u => offerOf u n = some { task := k, since := nclk (at_ t s) } ∧ (taskOf u k).st = 3 ∧ k ∉ readyList u (taskOf s k).prio ∧
      u.sched.offerAt = nclk (at_ t s) + 1 ∧
      ∀ o, offerOf s n = some o → o.task ≠ k → (taskOf u o.task).st = 2 ∧ ∃ l, readyList u (taskOf s o.task).prio = o.task :: l) ∧
  (∀ (t : Nat) (n : CoreId) (o : Offer) (s : State), runs t s = true → offerOf s n = some o → o.since + rd s 0x1600 0x06 ≤ nclk (at_ t s) →
    Leads (.dispatchTimeout t n) s fun u => offerOf u n = none ∧ (taskOf u o.task).st = 2 ∧
      readyList u (taskOf s o.task).prio = o.task :: readyList s (taskOf s o.task).prio ∧ rd u 0x1600 0x09 = satAdd 0xFFFF (rd s 0x1600 0x09) 1)

/-- The commands of the dispatch protocol move tasks on and off their cores.
Written by the core itself: ACCEPT of the offered task makes it RUNNING on the core, counts an activation and puts the task that ran there, preempted, at the head of its ready list. DONE makes the running task BLOCKED, or READY at the tail with one post fewer when posts wait. YIELD puts it at the tail. DELAY by 0 puts it at the tail, and by more puts it on its delay list with its due value. ATTACH and DETACH set and clear the core's bit of AttachedCores, and DETACH withdraws its offer. DONE written by another core is refused with STATE and counted. A CoreEventPop read by the core itself answers and removes its oldest inbox entry. -/
def Obligations.CoreCommandsDispatch : Prop :=
  (∀ (n : CoreId) (k : Nat) (o : Offer) (s : State), canSet s (.core n) 0x1603 (n.val + 1) (1 + k % 512 * 128) = true →
    offerOf s n = some o → o.task = k % 512 → runningOf s n ≠ some (k % 512) →
    Leads (.coreAccept (.core n) n k) s fun u => u.answer.status = some .ok ∧ runningOf u n = some (k % 512) ∧ offerOf u n = none ∧ (taskOf u (k % 512)).st = 4 ∧
      (taskOf u (k % 512)).activations = ((taskOf s (k % 512)).activations + 1) % 2 ^ 32 ∧ (taskOf u (k % 512)).ran = n ∧
      ∀ p, runningOf s n = some p → (taskOf u p).st = 2 ∧ (taskOf u p).preempted = true ∧ readyList u (taskOf s p).prio = p :: readyList s (taskOf s p).prio) ∧
  (∀ (n : CoreId) (k : Nat) (s : State), canSet s (.core n) 0x1603 (n.val + 1) 2 = true → runningOf s n = some k →
    let x := taskOf s k
    Leads (.coreDone (.core n) n) s fun u => u.answer.status = some .ok ∧ runningOf u n = none ∧
      (x.posts = 0 → taskOf u k = { x with st := 1 }) ∧
      (x.posts ≠ 0 → taskOf u k = { x with posts := x.posts - 1, st := 2 } ∧ readyList u x.prio = readyList s x.prio ++ [k])) ∧
  (∀ (n : CoreId) (k : Nat) (s : State), canSet s (.core n) 0x1603 (n.val + 1) 3 = true → runningOf s n = some k →
    Leads (.coreYield (.core n) n) s fun u => u.answer.status = some .ok ∧ runningOf u n = none ∧
      taskOf u k = { taskOf s k with st := 2 } ∧ readyList u (taskOf s k).prio = readyList s (taskOf s k).prio ++ [k]) ∧
  (∀ (n : CoreId) (list : Fin 8) (arg k : Nat) (s : State), canSet s (.core n) 0x1603 (n.val + 1) (4 + list.val * 16 + arg * 65536) = true →
    runningOf s n = some k → list.val ≤ 4 → arg < (if list.val = 0 then 2 ^ 32 else 2 ^ 47) →
    let x := taskOf s k
    Leads (.coreDelay (.core n) n list arg) s fun u => u.answer.status = some .ok ∧ runningOf u n = none ∧
      (arg = 0 → taskOf u k = { x with st := 2 } ∧ readyList u x.prio = readyList s x.prio ++ [k]) ∧
      (arg ≠ 0 → k ∈ delayList u list ∧ taskOf u k = { x with st := 5, list := list, due := if list.val = 0 then listCount s 0 + arg else (listCount s list + arg) % 2 ^ 48 })) ∧
  (∀ (n : CoreId) (s : State), canSet s (.core n) 0x1603 (n.val + 1) 5 = true →
    Leads (.coreAttach (.core n) n) s fun u => u.answer.status = some .ok ∧ rd u 0x1600 0x02 = setBit (rd s 0x1600 0x02) n true) ∧
  (∀ (n : CoreId) (s : State), canSet s (.core n) 0x1603 (n.val + 1) 6 = true →
    Leads (.coreDetach (.core n) n) s fun u => u.answer.status = some .ok ∧ rd u 0x1600 0x02 = setBit (rd s 0x1600 0x02) n false ∧ offerOf u n = none ∧
      runningOf u n = runningOf s n) ∧
  (∀ (n m : CoreId) (s : State), canSet s (.core m) 0x1603 (n.val + 1) 2 = true → m ≠ n →
    Leads (.coreDone (.core m) n) s fun u => u.answer.status = some .state ∧ runningOf u n = runningOf s n ∧ rd u 0x1600 0x0D = satAdd 0xFFFF (rd s 0x1600 0x0D) 1) ∧
  (∀ (n : CoreId) (s : State), canRead s (.core n) = true →
    Leads (.coreEventPop (.core n) n) s fun u => u.answer.status = some .ok ∧
      match tabGet [] s.sched.inbox n with
      | [] => u.answer.value = 0xFFFFFFFF ∧ u.sched = s.sched
      | e :: r => (e < 2 ^ 32 → u.answer.value = e) ∧ tabGet [] u.sched.inbox n = r)

/-- Events are raised and granted, ticks, delays and interval timers fall due, and the trace starts.
While the clocks run: the first pending event that has arrived, with no grant in this NCLK, is granted: it is counted and, by its route, posts its task, which becomes READY or holds one more post, is placed in each core's inbox with room, sends an emergency message on every port enabled for it, or counts it as suppressed in its holdoff, and leaves its EVENT in a trace that wraps. EventRaise of 284 to 319 makes that event pending. Zeros written to CoalescedMap clear its bits. A due head of a delay list becomes READY, one in an NCLK. TickCount advances by one at each TickPeriod, with the clocks stopped too. An enabled timer that reaches NextDue raises its event and takes the next due value; TimerEnable 1 from 0 sets NextDue, and 0 disables. SchedCores is taken, with the offers to the cores cleared withdrawn. TraceMode empties the trace. -/
def Obligations.EventsAndTimers : Prop :=
  (∀ (t a e : Nat) (r : List (Nat × Nat)) (s : State), runs t s = true → s.events = (a, e) :: r → a ≤ nclk (at_ t s) → s.sched.grantAt ≠ nclk (at_ t s) + 1 → e < 320 →
    let w := eventRoute s e
    let k := bitsOf w 0 9
    let x := taskOf s k
    let tail := emcyTail (at_ t s) e
    Leads (.eventGrant t) s fun u => u.sched.grantAt = nclk (at_ t s) + 1 ∧
      (bitOf w 16 = false → u.sched.tasks = s.sched.tasks) ∧
      (bitOf w 16 = true → x.st = 1 → taskOf u k = { x with st := 2 } ∧ readyList u x.prio = readyList s x.prio ++ [k]) ∧
      (bitOf w 16 = true → (x.st = 2 ∨ x.st = 3 ∨ x.st = 4 ∨ x.st = 6) → x.posts < 65535 → taskOf u k = { x with posts := x.posts + 1 }) ∧
      (bitOf w 25 = true → eventUnit e ≠ some .sched → (∀ q, tabFind s.sched.emcyAt e = some q → q + rd s 0x1600 0x0F * psMs ≤ (at_ t s).now) →
        (∀ p, p < 2 → rd s (0x1210 + p) 0x08 = 1 → rd s (0x1210 + p) 0x01 = 1 → rd s (0x1210 + p) 0x0D = 1 →
          ∃ h, h.length = 16 ∧ (64 + p, leBytes 4 (rd s (0x1210 + p) 0x09) ++ leBytes 2 (rd s (0x1210 + p) 0x0A) ++ (h ++ tail (leBytes 2 0))) ∈ u.answer.sent) ∧
        (∀ p, p < 2 → rd s (0x1220 + p) 0x08 = 1 → rd s (0x1220 + p) 0x05 ≠ 0 → rd s (0x1220 + p) 0x05 ≠ 4 → rd s (0x1220 + p) 0x09 ≠ 2 →
          (72 + p, leBytes 2 (0x80 + rd s (0x1220 + p) 0x02) ++ (leBytes 2 0xFF00 ++ [0x80, 0, 0, 0] ++ tail [])) ∈ u.answer.sent)) ∧
      (bitOf w 25 = true → (∀ q, tabFind s.sched.emcyAt e = some q → (at_ t s).now < q + rd s 0x1600 0x0F * psMs) → tabFind s.sched.emcyAt e ≠ none →
        u.answer.sent = [] ∧ rd u 0x1600 0x10 = satAdd 0xFFFF (rd s 0x1600 0x10) 1) ∧
      (bitOf w 26 = true → rd s 0x1607 0x04 = 1 → rd s 0x1607 0x01 = 1 → s.sched.trace.length < 4000 → traceEntry (at_ t s) 8 0 0 0 e ∈ u.sched.trace) ∧
      rd u (0x1614 + e / 128) (e % 128 + 1) = (rd s (0x1614 + e / 128) (e % 128 + 1) + 1) % 2 ^ 32 ∧
      ∀ n, n < 8 → (tabGet [] s.sched.inbox n).length < 16 →
        tabGet [] u.sched.inbox n = tabGet [] s.sched.inbox n ++ (if bitOf (eventRoute s e) (17 + n) then [e] else [])) ∧
  (∀ (src : Source) (v : Nat) (s : State), canSet s src 0x1601 0x00 v = true → 284 ≤ v → v ≤ 319 →
    Leads (.eventRaiseWrite src v) s fun u => u.answer.status = some .ok ∧ u.events.any (fun x => x.2 == v) = true) ∧
  (∀ (src : Source) (b : List Byte) (s : State), canPut s src 0x1618 0x02 b = true →
    Leads (.coalescedMapClear src b) s fun u => u.answer.status = some .ok ∧ u.coalesced = s.coalesced &&& leNat b) ∧
  (∀ (t : Nat) (list : Fin 5) (k : Nat) (r : List Nat) (s : State), runs t s = true → delayList s list = k :: r → (taskOf s k).list = list →
    dueReached s list (taskOf s k).due = true → s.sched.dueAt ≠ nclk (at_ t s) + 1 →
    Leads (.delayDue t list) s fun u => u.sched.dueAt = nclk (at_ t s) + 1 ∧ (taskOf u k).st = 2 ∧ (taskOf u k).list = 0xFF ∧ k ∉ delayList u list ∧ k ∈ readyList u (taskOf s k).prio) ∧
  (∀ (t : Nat) (s : State), calm t s = true → domOn s 41 = true → stamp s 0x1600 0x05 + rd s 0x1600 0x04 * psUs ≤ (at_ t s).now →
    Leads (.tick t) s fun u => rd u 0x1600 0x05 = (rd s 0x1600 0x05 + 1) % 2 ^ 64 ∧ stamp u 0x1600 0x05 = stamp s 0x1600 0x05 + rd s 0x1600 0x04 * psUs) ∧
  (∀ (t : Nat) (i : TimerId) (s : State), runs t s = true → rd s (0x1620 + i.val) 0x01 = 1 → dueReached s (timerBase s i) (rd s (0x1620 + i.val) 0x04) = true →
    Leads (.intervalTimerDue t i) s fun u => rd u (0x1620 + i.val) 0x04 = timerNext s i (rd s (0x1620 + i.val) 0x04) ∧
      u.events.any (fun x => x.2 == 262 + i.val) = true) ∧
  (∀ (src : Source) (i : TimerId) (s : State), canSet s src (0x1620 + i.val) 0x01 1 = true →
    Leads (.timerEnable src i) s fun u => Holds (0x1620 + i.val) 0x01 1 u ∧
      (rd s (0x1620 + i.val) 0x01 = 0 → rd u (0x1620 + i.val) 0x04 = timerNext s i (listCount s (timerBase s i)))) ∧
  (∀ (src : Source) (i : TimerId) (s : State), canSet s src (0x1620 + i.val) 0x01 0 = true →
    Leads (.timerDisable src i) s fun u => Holds (0x1620 + i.val) 0x01 0 u ∧ rd u (0x1620 + i.val) 0x04 = rd s (0x1620 + i.val) 0x04) ∧
  (∀ (src : Source) (v : Nat) (s : State), canSet s src 0x1600 0x01 v = true →
    Leads (.schedCoresWrite src v) s fun u => Holds 0x1600 0x01 (v % 2 ^ 8) u ∧ ∀ n, n < 8 → bitOf v n = false → offerOf u n = none) ∧
  (∀ (src : Source) (v : Nat) (s : State), canSet s src 0x1607 0x01 v = true →
    Leads (.traceModeWrite src v) s fun u => Holds 0x1607 0x01 (v % 2 ^ 8) u ∧ u.sched.trace = [] ∧ rd u 0x1607 0x04 = if v % 2 ^ 8 = 0 then 0 else 1)

/-- Requests are injected, answered, timed out and stalled; route tables and router weights are swapped.
While the clocks run and no swap is unfinished: the only request of an interface (one that waits, or one that its unit makes) is answered RANGE where no target has its address, FENCED and counted where the fence of its target has been applied, RANGE with its cause where it lies beyond the installed external memory, RANGE and counted where its route is not valid; else it takes a tag with the route and the place of that time, and at a bank waits with its master code from when it arrives; and it waits in its interface where its route is suspended or no tag is free. A unit gets an answer as status, a core as the code in its fault CSR, and a core that loads a word gets the word. A response that has come, no earlier than its route, its data and the flits before it allow (a DESIGN CHOICE of log entry 65), and in its turn among the requests of its way, answers the request and frees its tag: with the answer of the bank, with ABSORBED from a target that absorbs, or with the bytes of external memory; out of its turn the request stays. A request past its timeout is answered TIMEOUT, frees its tag with a new generation and counts. A port that stalls for PortStallLimit after the request has reached it answers TIMEOUT, and the third in a row isolates the target. A route swap with good shadow tables starts in every interface with the tables as checked, one with a bad entry names it; an interface that swaps takes the table checked, and 64 NCLK after Go all have. A reconfiguration is noted; it drains while the route of a tag goes through the router, and 16 NCLK after that its staged weights apply. -/
def Obligations.NetworkRequestsEnd : Prop :=
  (∀ (t : Nat) (ni : NiId) (addr size : Nat) (write : Bool) (v : Nat) (r : NetReq) (s : State), runs t s = true → domOn s (niDomain ni) = true → rd s 0x5020 0x03 ≠ 1 →
    ((niOf s ni).waiting = [r] ∧ (ni.val < 8 ∨ size = 0) ∨ (niOf s ni).waiting = [] ∧ 8 ≤ ni.val ∧ 1 ≤ size ∧ size ≤ 64 ∧ r = { addr := addr, size := size, write := write, value := v }) →
    Leads (.networkRequest t ni addr size write v) s fun u =>
      let range := (niOf u ni).tags = (niOf s ni).tags ∧ (niOf u ni).waiting = [] ∧ (8 ≤ ni.val → u.answer.status = some .range) ∧ (ni.val < 8 → (coreOf u ni).wait = none ∧ csrWord (coreOf u ni) 0x7C4 = 6)
      (targetOf s ni r.addr = none → range) ∧
      ∀ g, targetOf s ni r.addr = some g →
        (routeFenced s g = true → (domState s (targetDomain g) ≠ 3 ∨ stamp s 0x1511 (targetDomain g + 1) + 16000 ≤ (at_ t s).now) →
          rd u (0x5010 + ni.val) 0x06 = satAdd 0xFFFF (rd s (0x5010 + ni.val) 0x06) 1 ∧ (niOf u ni).tags = (niOf s ni).tags ∧ (niOf u ni).waiting = [] ∧
          (8 ≤ ni.val → u.answer.status = some .fenced) ∧ (ni.val < 8 → (coreOf u ni).wait = none ∧ csrWord (coreOf u ni) 0x7C4 = 0x0F)) ∧
        (routeFenced s g = false → inLpddrWindow r.addr = true → lpddrInstalled s < lpddrExternal s ni r.addr + r.size → range ∧ bitOf (rd u 0x5033 0x02) 6 = true) ∧
        (¬ (inLpddrWindow r.addr = true ∧ lpddrInstalled s < lpddrExternal s ni r.addr + r.size) → routeFenced s g = false →
          (routeValid (activeRoute s ni g) = false → range ∧ rd u (0x5010 + ni.val) 0x08 = satAdd 0xFFFF (rd s (0x5010 + ni.val) 0x08) 1) ∧
          (routeValid (activeRoute s ni g) = true → routeSuspended s ni g = false → ∀ k, freeTag (niOf s ni) r = some k →
            tabFind (niOf u ni).tags k = some { req := r, target := g, since := (at_ t s).now, order := (niOf s ni).issued, route := activeRoute s ni g, place := physAddr s ni r.addr } ∧ (niOf u ni).waiting = [] ∧
            (24 ≤ g → g < 56 → tabGet [] u.noc.banks (g - 24) = tabGet [] s.noc.banks (g - 24) ++
              [{ code := niMaster s ni r.addr, ni := ni, tag := k, since := nclk (at_ t s) + bitsOf (activeRoute s ni g) 56 4 }])) ∧
          (routeValid (activeRoute s ni g) = true → (routeSuspended s ni g = true ∨ freeTag (niOf s ni) r = none) → (niOf u ni).tags = (niOf s ni).tags ∧ (niOf u ni).waiting = [r]))) ∧
  (∀ (t : Nat) (ni : NiId) (addr size : Nat) (write : Bool) (v : Nat) (s : State), runs t s = true → 8 ≤ ni.val → domOn s (niDomain ni) = true → 1 ≤ size → size ≤ 64 →
    rd s 0x5020 0x03 = 1 → s.noc.swapFrom + 64 ≤ nclk (at_ t s) → (niOf s 14).swapping = true →
    Leads (.networkRequest t ni addr size write v) s fun u => rd u 0x5020 0x03 = 2 ∧ ∀ k, k < 15 → (niOf u k).swapping = false) ∧
  (∀ (t : Nat) (ni : NiId) (tag st v : Nat) (x : NetTag) (s : State), runs t s = true → quiet s = true → tabFind (niOf s ni).tags tag = some x → x.result = some (st, v) →
    x.since + 2000 * (2 * bitsOf x.route 56 4 + 8) ≤ (at_ t s).now → x.readyAt ≤ nclk (at_ t s) → (niOf s ni).acceptTo ≤ nclk (at_ t s) → tagTurn s ni x = true →
    Leads (.networkResponse t ni tag) s fun u => tabFind (niOf u ni).tags tag = none ∧ (niOf u ni).acceptTo = nclk (at_ t s) + responseFlits x.req ∧
      (8 ≤ ni.val → u.answer.value = v ∧ (st = 0 → u.answer.status = some .ok)) ∧
      (ni.val < 8 → (coreOf u ni).wait = none ∧ (st = 0 → ∀ d, d < 32 → (coreOf s ni).wait = some (.load d 4 false) → xr (coreOf u ni) d = if d = 0 then 0 else v % 2 ^ 32))) ∧
  (∀ (t : Nat) (ni : NiId) (tag : Nat) (x : NetTag) (s : State), runs t s = true → quiet s = true → tabFind (niOf s ni).tags tag = some x → x.result = none →
    x.since + 2000 * (2 * bitsOf x.route 56 4 + 8) ≤ (at_ t s).now → x.readyAt ≤ nclk (at_ t s) → (niOf s ni).acceptTo ≤ nclk (at_ t s) → tagTurn s ni x = true → 8 ≤ ni.val →
    Leads (.networkResponse t ni tag) s fun u =>
      (absorbs s x.target = true → tabFind (niOf u ni).tags tag = none ∧ u.answer.status = some .absorbed) ∧
      (absorbs s x.target = false → (x.target = 62 ∨ x.target = 63) → tabFind (niOf u ni).tags tag = none ∧ u.answer.status = some .ok ∧
        (x.req.write = false → u.answer.value = memNat s x.place x.req.size) ∧ (x.req.write = true → memNat u x.place x.req.size = x.req.value % 256 ^ x.req.size))) ∧
  (∀ (t : Nat) (ni : NiId) (tag : Nat) (x : NetTag) (s : State), runs t s = true → quiet s = true → tabFind (niOf s ni).tags tag = some x → tagTurn s ni x = false →
    Leads (.networkResponse t ni tag) s fun u => tabFind (niOf u ni).tags tag = some x) ∧
  (∀ (t : Nat) (ni : NiId) (tag : Nat) (x : NetTag) (s : State), runs t s = true → quiet s = true → tabFind (niOf s ni).tags tag = some x →
    (x.target ≠ 61 ∨ x.req.write = false) → x.since + 2000 * routeTimeout x.route ≤ (at_ t s).now →
    Leads (.requestTimeout t ni tag) s fun u => tabFind (niOf u ni).tags tag = none ∧ tabGet 0 (niOf u ni).gens tag = (tabGet 0 (niOf s ni).gens tag + 1) % 8 ∧
      rd u (0x5010 + ni.val) 0x05 = satAdd 0xFFFF (rd s (0x5010 + ni.val) 0x05) 1 ∧ (8 ≤ ni.val → u.answer.status = some .timeout) ∧ (ni.val < 8 → (coreOf u ni).wait = none ∧ csrWord (coreOf u ni) 0x7C4 = 0x0D)) ∧
  (∀ (t : Nat) (ni : NiId) (tag : Nat) (x : NetTag) (s : State), runs t s = true → tabFind (niOf s ni).tags tag = some x →
    x.target ≠ 61 → x.waits = false → x.result = none → absorbs s x.target = false → x.since + 2000 * (bitsOf x.route 56 4 + rd s 0x5000 0x04) ≤ (at_ t s).now →
    Leads (.portStallTimeout t ni tag) s fun u => tabFind (niOf u ni).tags tag = none ∧ (8 ≤ ni.val → u.answer.status = some .timeout) ∧ tabGet 0 u.noc.stalls x.target = tabGet 0 s.noc.stalls x.target + 1 ∧
      (3 ≤ tabGet 0 s.noc.stalls x.target + 1 → x.target ∈ u.noc.isolated)) ∧
  (∀ (src : Source) (s : State), canSet s src 0x5020 0x02 1 = true → routesBusy s = false →
    Leads (.routeSwapGo src) s fun u => u.answer.status = some .ok ∧
      (shadowFailure s = none → rd u 0x5020 0x03 = 1 ∧ u.noc.swapGen = rd s 0x5020 0x01 ∧ u.noc.swapFrom = nclk s ∧
        ∀ k, k < 15 → (niOf u k).swapping = true ∧ ∀ g, g < 64 → tabGet (resetRoute k g) (niOf u k).checked g = shadowRoute s k g) ∧
      (∀ k g, shadowFailure s = some (k, g) → rd u 0x5020 0x03 = 3 ∧ rd u 0x5020 0x04 = k ∧ rd u 0x5020 0x05 = g)) ∧
  (∀ (t : Nat) (ni : NiId) (s : State), runs t s = true → (niOf s ni).swapping = true →
    Leads (.niTableSwap t ni) s fun u => (niOf u ni).swapping = false ∧ rd u (0x5010 + ni.val) 0x01 = s.noc.swapGen ∧
      (∀ g, g < 64 → activeRoute u ni g = tabGet (resetRoute ni g) (niOf s ni).checked g) ∧
      ((∀ k, k < 15 → k ≠ ni.val → (niOf s k).swapping = false) → rd u 0x5020 0x03 = 2)) ∧
  (∀ (src : Source) (s : State), canSet s src 0x5021 0x03 1 = true → routesBusy s = false →
    Leads (.routerReconfigGo src) s fun u => u.answer.status = some .ok ∧ rd u 0x5021 0x04 = 1 ∧ u.noc.reconfig = some (rd s 0x5021 0x01, s.now, s.now)) ∧
  (∀ (t r t0 idle : Nat) (s : State), runs t s = true → s.noc.reconfig = some (r, t0, idle) →
    let busy := (List.range 15).any fun k => (niOf s k).tags.any fun e => routeThrough k e.2.route r
    Leads (.routerReconfigApply t) s fun u =>
      (busy = true → u.noc.reconfig = some (r, t0, idle) ∧ reconfigState u = if t0 + 2000 ≤ (at_ t s).now then 2 else 1) ∧
      (busy = false → idle + 32000 ≤ (at_ t s).now → u.noc.reconfig = none ∧ rd u 0x5021 0x04 = 3 ∧
        ((routerOf s r).staged ≠ [] → routerWeights u r = (routerOf s r).staged)))

/-- Banks grant accesses, the harrow borrows and returns windows, and the LPDDR5 interfaces come up and are kept.
While the clocks run: a powered bank that has granted nothing in this NCLK grants the access that waits and asks: the next aligned 16-byte unit of its bytes is read or written, and with the last one it has its answer for the NCLK after the next and waits no more; a master's accesses come in the order of issue, and of several masters it grants the owner's first, else the lowest code; a wait that was not the owner's raises BankWaitMax. A harrow that is due borrows the next window, where it may and no access of the bank waits, and starts SAVE, and a unit that reads wrong is counted and shown; after 768 accesses RESTORE returns the window and goes on behind it. An LPDDR5 interface goes from INIT to TRAINING, and from there to READY with its installed size or to FAILED with the step; a READY one takes MR4 codes every 32 ms, ZQ latches every 64 ms, tracking every 100 ms, and refreshes at its interval (which is the family's, log entry 69). History and archive writes that have waited 20 µs are dropped and counted, and history keeps what it held. The times of a request's way are the choice of log entry 65, the single accesses of a borrow the reading of log entry 67, the line that history gets back that of log entry 32. -/
def Obligations.BanksHarrowAndLpddr : Prop :=
  (∀ (t : Nat) (b : Fin 32) (w : BankWait) (x : NetTag) (s : State), runs t s = true → bankServes s b = true → s.noc.borrowed = none →
    tabGet 0 s.noc.grantAt b ≠ nclk (at_ t s) + 1 → tabGet [] s.noc.banks b = [w] → w.spill = none → w.unit = none → w.since ≤ nclk (at_ t s) → w.code < 15 → dutySpent s b w.code (nclk (at_ t s)) = false →
    bankReq s w = some x → w.pos < x.req.size →
    let a := x.req.addr + w.pos
    let n := min (x.req.size - w.pos) (16 - a % 16)
    let acc := if x.req.write then 0 else w.acc + memNat s a n <<< (8 * w.pos)
    Leads (.bankAccessGrant t b) s fun u => tabFind u.noc.grantAt b = some (nclk (at_ t s) + 1) ∧
      (x.req.write = true → memNat u a n = x.req.value / 2 ^ (8 * w.pos) % 256 ^ n) ∧ (x.req.write = false → u.mem = s.mem) ∧
      (w.pos + n < x.req.size → tabGet [] u.noc.banks b = [{ w with pos := w.pos + n, acc := acc, since := nclk (at_ t s) + 1 }]) ∧
      (w.code ≠ bankOwner (at_ t s) b → rd u 0x5004 (b + 1) = max (rd s 0x5004 (b + 1)) (min 0xFFFF (nclk (at_ t s) - w.since))) ∧
      (w.pos + n = x.req.size → tabGet [] u.noc.banks b = [] ∧ (tabFind (niOf u w.ni).tags w.tag) = some { x with result := some (0, acc), readyAt := nclk (at_ t s) + 2 })) ∧
  (∀ (b : Fin 32) (w : BankWait) (s : State), bankChoice s b = some w → w ∈ tabGet [] s.noc.banks b ∧ bankAsks s b (nclk s) w = true ∧ bankFirst (tabGet [] s.noc.banks b) w.code = some w ∧
    (w.code ≠ bankOwner s b → ∀ e, bankFirst (tabGet [] s.noc.banks b) e.code = some e → bankAsks s b (nclk s) e = true → e.code ≠ bankOwner s b ∧ (e.code < 15 → w.code ≤ e.code))) ∧
  (∀ (t a : Nat) (faults : List (Nat × List Byte)) (s : State), runs t s = true → rd s 0x5003 0x01 ≠ 0 → s.noc.borrowed = none →
    s.noc.borrowAt + rd s 0x5003 0x02 * psUs ≤ (at_ t s).now → rd s 0x5003 0x04 = a → a < 0x22000000 → harrowBarred (at_ t s) a = false →
    tabGet 0 s.noc.grantAt (bankOf a) ≠ nclk (at_ t s) + 1 → tabGet [] s.noc.banks (bankOf a) = [] →
    Leads (.harrowBorrow t faults) s fun u => u.noc.borrowed = some (a, nclk (at_ t s), 0) ∧ u.noc.borrowAt = (at_ t s).now ∧
      rd u 0x5003 0x04 = a ∧ harrowPhase u = 1 ∧
      (∀ k b, k < 64 → faults = [(k, b)] → rd u 0x5003 0x06 = satAdd 0xFFFF (rd s 0x5003 0x06) 1 ∧ rd u 0x5003 0x07 = a + 16 * k ∧ rdBytes u 0x5003 0x08 = bytesAt b 0 16)) ∧
  (∀ (t a t0 o : Nat) (s : State), runs t s = true → s.noc.borrowed = some (a, t0, o) → t0 + o + 768 ≤ nclk (at_ t s) →
    Leads (.harrowRestoreComplete t) s fun u => u.noc.borrowed = none ∧ harrowPhase u = 0 ∧ rd s 0x5003 0x09 ≤ rd u 0x5003 0x09 ∧
      rd u 0x5003 0x04 = if a + 1024 < 0x22000000 then a + 1024 else 0x20000000) ∧
  (∀ (t : Nat) (i : LpId) (s : State), runs t s = true → lpddrState s i = 1 →
    Leads (.lpddrInitDone t i) s fun u => lpddrState u i = 2 ∧ stamp u (0x5030 + i.val) 0x04 = (at_ t s).now) ∧
  (∀ (t : Nat) (i : LpId) (step : Fin 16) (s : State), runs t s = true → lpddrState s i = 2 → step.val ≤ 5 →
    Leads (.lpddrTrainingDone t i step) s fun u =>
      (step.val = 0 → lpddrState u i = 3 ∧ lpddrSize u i = lpddrBytes s i) ∧
      (step.val ≠ 0 → lpddrState u i = 4 ∧ rd u (0x5030 + i.val) 0x05 = step ∧ rd u (0x5030 + i.val) 0x08 = satAdd 0xFFFF (rd s (0x5030 + i.val) 0x08) 1)) ∧
  (∀ (t : Nat) (i : LpId) (code : Nat) (s : State), runs t s = true → lpddrState s i = 3 → tabGet 0 s.noc.mr4At i + 32 * psMs ≤ (at_ t s).now →
    Leads (.lpddrMr4Read t i code) s fun u => rd u (0x5030 + i.val) 0x07 = code % 32 ∧ tabGet 0 u.noc.mr4At i = (at_ t s).now ∧ (9 < code % 32 → bitOf (rd u 0x5033 0x02) 4 = true)) ∧
  (∀ (t : Nat) (i : LpId) (s : State), runs t s = true → lpddrState s i = 3 → tabGet 0 s.noc.zqAt i + 64 * psMs ≤ (at_ t s).now →
    Leads (.lpddrZqLatch t i) s fun u => tabGet 0 u.noc.zqAt i = (at_ t s).now) ∧
  (∀ (t : Nat) (i : LpId) (s : State), runs t s = true → lpddrState s i = 3 → tabGet 0 s.noc.wckAt i + 100 * psMs ≤ (at_ t s).now →
    Leads (.lpddrWck2dqTracking t i) s fun u => tabGet 0 u.noc.wckAt i = (at_ t s).now) ∧
  (∀ (t : Nat) (i : LpId) (s : State), runs t s = true → lpddrState s i = 3 → tabGet 0 s.noc.refreshAt i + refreshInterval s i ≤ (at_ t s).now →
    Leads (.lpddrRefresh t i) s fun u => tabGet 0 u.noc.refreshAt i = (at_ t s).now) ∧
  (∀ (t : Nat) (k : CamId) (w : HistoryWrite) (s : State), runs t s = true → (camOf s k).waiting = [w] → w.since + 20 * psUs ≤ (at_ t s).now → historyHolds s k w.line = true →
    let l := 0x5030 + lpddrInterface s (lpddrExternal s 10 (historyAddr s k w.line))
    Leads (.lpddrWriteRefused t (some (k, w.line))) s fun u => (camOf u k).waiting = [] ∧ tabFind (camOf u k).history (w.line % historyLines s k) = w.oldLine ∧
      (lpddrInterface s (lpddrExternal s 10 (historyAddr s k w.line)) < 2 → rd u l 0x09 = satAdd 0xFFFF (rd s l 0x09) 1) ∧ bitOf (rd u 0x5033 0x02) 5 = true) ∧
  (∀ (t : Nat) (s : State), runs t s = true → (∃ j r, s.print.archive = j :: r ∧ j.since + 20 * psUs ≤ (at_ t s).now) →
    Leads (.lpddrWriteRefused t none) s fun u => u.print.archive = s.print.archive.tail ∧ rd u 0x3803 0x06 = satAdd 0xFFFF (rd s 0x3803 0x06) 1 ∧ bitOf (rd u 0x5033 0x02) 5 = true)

/-- Serial lanes start, enter and leave their data state, stop, and follow REFCLK.
Enable 1 or 2 of an OFF lane that passes its checks makes it STARTING in that mode, a test with its claims; of a STOPPING lane it latches a restart in that mode, unless one is latched already. Enable 0 stops the lane, or latches the stop of a STARTING one. While the clocks run: a STARTING lane whose PLL locks enters ACQUIRING or TEST with CTLE and DFE at their defaults, or STOPPING when a stop is latched. A lane whose entry conditions hold (the partner ready, retraining over, block lock, the DFE settled, no hi_ber) enters DATA and holds its CTLE; a loss of block lock, a lane status set with RX_READY 0 and 8,192 blocks of silence take it from DATA to RETRAINING, counted; Retrain does too. (Which of the last 64 headers a loss of block lock finds invalid is the choice of log entry 50.) Between frames a lane sends its status, with RX_READY as it is, after a change or 1,024 blocks. AcquireLimit starts adaptation again. A STOPPING lane after 1 µs with nothing in progress is OFF, or starts again. REFCLK lost, watched while VIN is up, returns every running lane to STARTING while SYS is ON; REFCLK back clears the state. When the CTLE has settled, and at which setting, is the choice of log entry 146; that REFCLK_LOST acts once, and on a STOPPING lane too, is the reading of log entries 42 and 111, and RefState with SYS off the choice of log entry 167. -/
def Obligations.LanesStartAndStop : Prop :=
  (∀ (src : Source) (n : LaneId) (s : State), canSet s src (lx n 0) 0x01 1 = true → laneState s n = 0 → laneChecks s n = .ok →
    Leads (.laneEnableData src n) s fun u => Holds (lx n 0) 0x01 1 u ∧ laneState u n = 1 ∧ (laneOf u n).mode = 1 ∧ rd u (lx n 1) 0x03 = 0) ∧
  (∀ (src : Source) (n : LaneId) (s : State), canSet s src (lx n 0) 0x01 1 = true → laneState s n = 6 →
    Leads (.laneEnableData src n) s fun u => u.answer.status = some .restartPending ∧ laneState u n = 6 ∧ rd u (lx n 1) 0x02 = 1 ∧
      (laneOf u n).mode = (if rd s (lx n 1) 0x02 = 1 then (laneOf s n).mode else 1)) ∧
  (∀ (src : Source) (n : LaneId) (s : State), canSet s src (lx n 0) 0x01 2 = true → laneState s n = 0 → laneChecks s n = .ok →
    claimConflict s (laneTestHolder n) [n.val, 0x28 + n.val] = none →
    Leads (.laneEnableTest src n) s fun u => Holds (lx n 0) 0x01 2 u ∧ laneState u n = 1 ∧ (laneOf u n).mode = 2 ∧
      holder u n = laneTestHolder n ∧ holder u (0x28 + n.val) = laneTestHolder n) ∧
  (∀ (src : Source) (n : LaneId) (s : State), canSet s src (lx n 0) 0x01 0 = true →
    Leads (.laneDisable src n) s fun u => Holds (lx n 0) 0x01 0 u ∧ (laneState s n = 0 → laneState u n = 0) ∧
      (laneState s n = 1 → laneState u n = 1 ∧ (laneOf u n).stopLatched = true) ∧ (laneState s n = 6 → laneState u n = 6 ∧ rd u (lx n 1) 0x02 = 0) ∧
      ((laneState s n = 2 ∨ laneState s n = 3 ∨ laneState s n = 4 ∨ laneState s n = 5) → laneState u n = 6 ∧ (laneOf u n).waiting = [])) ∧
  (∀ (t : Nat) (n : LaneId) (s : State), runs t s = true → laneState s n = 1 → refLost s = false →
    Leads (.lanePllLock t n) s fun u => bitOf (rd u 0x48A0 0x04) (lanePll s n) = true ∧
      laneState u n = (if (laneOf s n).stopLatched then 6 else if (laneOf s n).mode = 2 then 5 else 2) ∧
      ((laneOf s n).stopLatched = false → (laneOf u n).taps = List.replicate 10 0 ∧ rd u (lx n 1) 0x05 = 8)) ∧
  (∀ (t : Nat) (n : LaneId) (s : State), runs t s = true → (laneState s n = 2 ∨ laneState s n = 4) → remoteReady (at_ t s) n = true → (laneOf s n).retrainUntil ≤ (at_ t s).now →
    blockLock (at_ t s) n = true → dfeConverged (at_ t s) n = true → hiBer (at_ t s) n = false →
    Leads (.laneDataEntry t n) s fun u => laneState u n = 3 ∧ (laneOf u n).ctleHeld = true ∧ bitOf (rd u (lx n 1) 0x04) 0 = true) ∧
  (∀ (t : Nat) (n : LaneId) (inFrame : Bool) (s : State), runs t s = true → laneState s n = 3 →
    Leads (.laneLinkDrop t n inFrame) s fun u => laneState u n = 4 ∧ rd u (lx n 2) 0x04 = satAdd 0xFFFF (rd s (lx n 2) 0x04) 1 ∧
      rd u (lx n 2) 0x03 = (if inFrame then satAdd 0xFFFF (rd s (lx n 2) 0x03) 1 else rd s (lx n 2) 0x03)) ∧
  (∀ (t : Nat) (n : LaneId) (ready : Bool) (s : State), runs t s = true → laneDecodes s n = true →
    Leads (.laneStatusSet t n ready) s fun u => rd u (lx n 1) 0x09 = boolNat ready ∧ (laneOf u n).heardAt = (at_ t s).now ∧
      laneState u n = if ready = false ∧ laneState s n = 3 then 4 else laneState s n) ∧
  (∀ (t : Nat) (n : LaneId) (ready : Bool) (s : State), runs t s = true → laneDecodes s n = true → laneState s n ≠ 1 → laneBetween (at_ t s) n = true →
    ready = (decide ((laneOf s n).retrainUntil ≤ (at_ t s).now) && blockLock (at_ t s) n && !hiBer (at_ t s) n && dfeConverged (at_ t s) n) →
    (ready ≠ (laneOf s n).sentReady ∨ (laneOf s n).sentAt + 1024 * blockPs s n ≤ (at_ t s).now) →
    Leads (.laneStatusSend t n ready) s fun u => (laneOf u n).sentReady = ready ∧ (laneOf u n).sentAt = (at_ t s).now ∧
      u.answer.sent = [(n.val, [0x4B, 0x47, BitVec.ofNat 8 (boolNat ready), 0x00])]) ∧
  (∀ (t : Nat) (n : LaneId) (s : State), runs t s = true → laneState s n = 3 → (laneOf s n).heardAt + 8192 * blockPs s n ≤ (at_ t s).now →
    Leads (.laneStatusSilence t n) s fun u => laneState u n = 4 ∧ rd u (lx n 2) 0x04 = satAdd 0xFFFF (rd s (lx n 2) 0x04) 1) ∧
  (∀ (t : Nat) (n : LaneId) (s : State), runs t s = true → (laneState s n = 2 ∨ laneState s n = 4) →
    stamp s (lx n 1) 0x01 + rd s (lx n 0) 0x0A * psMs ≤ (at_ t s).now →
    Leads (.acquireTimeout t n) s fun u => laneState u n = 2 ∧ rd u (lx n 2) 0x05 = satAdd 0xFFFF (rd s (lx n 2) 0x05) 1 ∧ (laneOf u n).taps = List.replicate 10 0) ∧
  (∀ (src : Source) (n : LaneId) (s : State), canSet s src (lx n 0) 0x09 1 = true → laneState s n = 3 →
    Leads (.laneRetrain src n) s fun u => u.answer.status = some .ok ∧ laneState u n = 4 ∧ (laneOf u n).retrainUntil = s.now + 64 * blockPs s n) ∧
  (∀ (t : Nat) (n : LaneId) (s : State), runs t s = true → laneState s n = 6 → stamp s (lx n 1) 0x01 + psUs ≤ (at_ t s).now → laneQuiet (at_ t s) n = true →
    Leads (.laneStopComplete t n) s fun u => (rd s (lx n 1) 0x02 ≠ 1 → laneState u n = 0) ∧
      (rd s (lx n 1) 0x02 = 1 → laneChecks s n = .ok → claimConflict s (laneTestHolder n) (laneClaims n (laneOf s n).mode) = none →
        laneState u n = 1 ∧ rd u (lx n 1) 0x03 = 0)) ∧
  (∀ (t : Nat) (s : State), calm t s = true → s.power.vinUp = true → s.power.refGone = false → domOn s 41 = true →
    Leads (.refclkLost t) s fun u => u.power.refGone = true ∧ refLost u = true ∧ rd u 0x48A0 0x04 = 0 ∧ rd u 0x1700 0x07 = satAdd 0xFFFF (rd s 0x1700 0x07) 1 ∧
      ∀ n, n < 40 → laneState u n = if laneState s n = 0 ∨ laneState s n = 6 then laneState s n else 1) ∧
  (∀ (t : Nat) (s : State), calm t s = true → s.power.refGone = true → Leads (.refclkRestored t) s fun u => u.power.refGone = false ∧ (domOn s 41 = true → refLost u = false))

/-- DFE taps move, blocks and bits in error are counted, and the PRBS checker locks.
While the clocks run: adaptation that is not frozen moves each DFE tap, 1,024 UI after the last move, by the sign of its sum within its limits. An invalid sync header or an errored block that a receiver decodes is counted, and a frame that it cuts is counted; the sixteenth invalid header in 125 µs, or one that comes without block lock, takes a lane out of DATA. A lane in TEST with a pattern and no lock takes PRBS lock once it has seeded itself and predicted 64 bits; a locked one loses it, keeping its bit count; a wrong bit below the full count is counted, the first with its cause, and with the sixteenth of 64 the lock is lost. PrbsInject is answered OK in TEST, and marks one bit to be transmitted within 1 µs to be inverted, which one left open, and 0 written to PrbsErrors clears both counters. -/
def Obligations.LanesAdaptAndTest : Prop :=
  (∀ (t : Nat) (n : LaneId) (sums : List Int) (s : State), runs t s = true → laneState s n ≠ 0 → laneState s n ≠ 1 → rd s (lx n 1) 0x07 ≠ 1 → (laneOf s n).adaptAt + uiPs s n 1024 ≤ (at_ t s).now →
    Leads (.dfeAdapt t n sums) s fun u => (laneOf u n).adaptAt = (at_ t s).now ∧ ∀ k, k < 10 → (laneOf u n).taps.getD k 0 =
      clampInt (tapLimits (k + 1)).1 (tapLimits (k + 1)).2 ((laneOf s n).taps.getD k 0 + (if 0 < sums.getD k 0 then 1 else if sums.getD k 0 < 0 then -1 else 0))) ∧
  (∀ (t : Nat) (n : LaneId) (header inFrame : Bool) (s : State), runs t s = true → laneDecodes s n = true →
    Leads (.blockError t n header inFrame) s fun u =>
      rd u (lx n 2) 0x01 = (if header then satAdd 0xFFFF (rd s (lx n 2) 0x01) 1 else rd s (lx n 2) 0x01) ∧
      rd u (lx n 2) 0x02 = (if header = false ∧ inFrame = false then satAdd 0xFFFF (rd s (lx n 2) 0x02) 1 else rd s (lx n 2) 0x02) ∧
      rd u (lx n 2) 0x03 = (if inFrame then satAdd 0xFFFF (rd s (lx n 2) 0x03) 1 else rd s (lx n 2) 0x03) ∧
      laneState u n = (if header = true ∧ laneState s n = 3 ∧ (15 ≤ ((laneOf s n).badHeaders.filter fun h => decide ((at_ t s).now < h + 125 * psUs)).length ∨ blockLock (at_ t s) n = false) then 4 else laneState s n)) ∧
  (∀ (t : Nat) (n : LaneId) (s : State), runs t s = true → laneState s n = 5 → (prbsTaps (rd s (lx n 3) 0x02)).1 ≠ 0 → prbsLocked s n = false →
    (laneOf s n).seekAt + uiPs s n ((prbsTaps (rd s (lx n 3) 0x02)).1 + 64) ≤ (at_ t s).now →
    Leads (.prbsLock t n) s fun u => prbsLocked u n = true ∧ (laneOf u n).ctleHeld = true ∧ (laneOf u n).bitsFrom = (at_ t s).now ∧ bitOf (rd u (lx n 1) 0x04) 6 = true) ∧
  (∀ (t : Nat) (n : LaneId) (s : State), runs t s = true → laneState s n = 5 → prbsLocked s n = true →
    Leads (.prbsLockLoss t n) s fun u => prbsLocked u n = false ∧ prbsBits u n = prbsBits (at_ t s) n) ∧
  (∀ (t : Nat) (n : LaneId) (s : State), runs t s = true → laneState s n = 5 → prbsLocked s n = true → prbsBits (at_ t s) n < 2 ^ 48 - 1 →
    Leads (.prbsBitError t n) s fun u => rd u (lx n 3) 0x05 = satAdd 0xFFFFFFFF (rd s (lx n 3) 0x05) 1 ∧
      ((laneOf s n).erred = false → (laneOf u n).erred = true ∧ bitOf (rd u (lx n 1) 0x04) 7 = true) ∧
      (15 ≤ ((laneOf s n).wrongBits.filter fun h => decide ((at_ t s).now < h + uiPs s n 64)).length → prbsLocked u n = false)) ∧
  (∀ (src : Source) (n : LaneId) (s : State), canSet s src (lx n 3) 0x07 1 = true → laneState s n = 5 →
    Leads (.prbsInject src n) s fun u => u.answer.status = some .ok ∧ u.obj = s.obj ∧
      ∃ k, k ≤ psUs * laneRate s n / 6400 ∧ (laneOf u n).injects = ((s.now - stamp s (lx n 1) 0x01) * laneRate s n / 6400 + k) :: (laneOf s n).injects) ∧
  (∀ (src : Source) (n : LaneId) (s : State), canSet s src (lx n 3) 0x05 0 = true →
    Leads (.prbsCounterClear src n) s fun u => Holds (lx n 3) 0x05 0 u ∧ prbsBits u n = 0)

/-- Ethernet ports take Opral datagrams, answer their ops, and answer ARP and ICMP echo.
While the clocks run, on a port that is up: a datagram waits behind a request in progress, is dropped and counted where 32 wait, and is counted as bad where R384 discards it; a request already answered is answered again from its stored response. With no request in progress: a READ of a number held in a register is answered with its value; a WRITE of such an object that is performed at once stores it and is answered OK; a SEG_READ of the type of the object at a later offset is answered from the value captured, which stays; a first SEG_WRITE that fits the staging region, which nothing keeps from it, starts the assembly and stores its bytes there. Idle assemblies and captures are discarded. ARP and ICMP echo requests for the port's address are answered. The corners of R383 to R385 are read as log entries 100 and 101 say, and the layouts of ARP and ICMP are those of log entry 94; frames come as log entry 93 says. -/
def Obligations.OpralAndEthernet : Prop :=
  (∀ (t : Nat) (p : PortId) (ip udp : Nat) (b : List Byte) (s : State), runs t s = true → quiet s = true → ethUp s p = true → b.length ≤ 1472 →
    Leads (.opralDatagram t p ip udp b) s fun u =>
      (32 ≤ (ethOf s p).buffer.length → rd u (ethE p) 0x0F = satAdd 0xFFFF (rd s (ethE p) 0x0F) 1 ∧ u.plant = s.plant) ∧
      ((ethOf s p).buffer.length < 32 → (ethOf s p).request.isSome = true → (ethOf u p).buffer = (ethOf s p).buffer ++ [(ip, udp, b)]) ∧
      ((ethOf s p).buffer = [] → (ethOf s p).request = none → (bitOf (leAt b 3 1) 1 = true ∨ leAt b 4 2 = nodeId s) →
        (opralBad b = true → rd u 0x1201 0x01 = satAdd 0xFFFF (rd s 0x1201 0x01) 1 ∧ u.answer.sent = []) ∧
        (opralBad b = false → leAt b 3 1 = 0 → ∀ r, (ethOf s p).replies.find? (fun r => r.ip == ip && r.node == leAt b 6 2 && r.seq == leAt b 8 4) = some r →
          u.answer.sent = [(64 + p.val, leBytes 4 ip ++ leBytes 2 udp ++ r.bytes)] ∧ rd u 0x1201 0x02 = satAdd 0xFFFF (rd s 0x1201 0x02) 1))) ∧
  (∀ (t : Nat) (p : PortId) (ip udp node seq idx sub ty : Nat) (o : ObjRef) (s : State), runs t s = true → quiet s = true → ethUp s p = true → (ethOf s p).buffer = [] → (ethOf s p).request = none →
    nodeId s < 2 ^ 16 → node < 2 ^ 16 → seq < 2 ^ 32 → idx < 2 ^ 16 → sub < 2 ^ 8 →
    (∀ r, r ∈ (ethOf s p).replies → ¬ (r.ip = ip ∧ r.node = node ∧ r.seq = seq)) →
    Stored idx sub o → ¬ (idx = ethE p ∧ sub = 0x0E) → (ty = 0 ∨ ty = o.desc.ty.code) →
    Leads (.opralRead t p ip udp node seq idx sub ty) s fun u =>
      u.answer.sent = [(64 + p.val, leBytes 4 ip ++ leBytes 2 udp ++ (opralHeader 1 node (nodeId s) seq 1 ++ opAnswer { code := 1, idx := idx, sub := sub, ty := ty, value := [] } o.desc.ty.code .ok (leBytes o.desc.ty.bytes (rd s idx sub))))]) ∧
  (∀ (t : Nat) (p : PortId) (ip udp node seq idx sub : Nat) (v : ObjVal) (o : ObjRef) (s : State), runs t s = true → quiet s = true → ethUp s p = true → (ethOf s p).buffer = [] → (ethOf s p).request = none →
    nodeId s < 2 ^ 16 → node < 2 ^ 16 → seq < 2 ^ 32 → idx < 2 ^ 16 → sub < 2 ^ 8 →
    (∀ r, r ∈ (ethOf s p).replies → ¬ (r.ip = ip ∧ r.node = node ∧ r.seq = seq)) →
    Plain idx sub o → ¬ (idx = 0x1200 ∧ sub = 1) → v.ty = o.desc.ty.code → canWrite s (.eth p) idx sub v = true →
    Leads (.opralWrite t p ip udp node seq idx sub v) s fun u => rd u idx sub = leNat v.bytes ∧
      u.answer.sent = [(64 + p.val, leBytes 4 ip ++ leBytes 2 udp ++ (opralHeader 1 node (nodeId s) seq 1 ++ opAnswer { code := 2, idx := idx, sub := sub, ty := v.ty, value := v.bytes } v.ty .ok []))]) ∧
  (∀ (t : Nat) (p : PortId) (ip udp node seq idx sub off len : Nat) (o : ObjRef) (c : Capture) (s : State), runs t s = true → quiet s = true → ethUp s p = true → (ethOf s p).buffer = [] → (ethOf s p).request = none →
    nodeId s < 2 ^ 16 → node < 2 ^ 16 → seq < 2 ^ 32 → idx < 2 ^ 16 → sub < 2 ^ 8 →
    (∀ r, r ∈ (ethOf s p).replies → ¬ (r.ip = ip ∧ r.node = node ∧ r.seq = seq)) →
    resolveObj idx sub = .ok o →     off < 2 ^ 32 → len < 2 ^ 16 → off ≠ 0 → off ≤ c.bytes.length →
    s.plant.captures.find? (fun x => x.src == .eth p && x.node == node && x.idx == idx && x.sub == sub) = some c →
    Leads (.opralSegRead t p ip udp node seq idx sub off len) s fun u =>
      u.answer.sent = [(64 + p.val, leBytes 4 ip ++ leBytes 2 udp ++ (opralHeader 1 node (nodeId s) seq 1 ++ opAnswer { code := 3, idx := idx, sub := sub, ty := 0, value := [] } o.desc.ty.code .ok (leBytes 4 off ++ leBytes 4 c.bytes.length ++ (c.bytes.drop off).take (min len 1440))))] ∧
      { c with lastAt := (at_ t s).now } ∈ u.plant.captures) ∧
  (∀ (t : Nat) (p : PortId) (ip udp node seq idx sub ty : Nat) (b : List Byte) (s : State), runs t s = true → quiet s = true → ethUp s p = true → (ethOf s p).buffer = [] → (ethOf s p).request = none →
    nodeId s < 2 ^ 16 → node < 2 ^ 16 → seq < 2 ^ 32 → idx < 2 ^ 16 → sub < 2 ^ 8 →
    (∀ r, r ∈ (ethOf s p).replies → ¬ (r.ip = ip ∧ r.node = node ∧ r.seq = seq)) →
    ty < 2 ^ 8 → b.length ≤ 1024 → s.plant.assembly = none → b.length ≤ stagingSize s → stagingStatus (at_ t s) = none →
    Leads (.opralSegWrite t p ip udp node seq idx sub ty 0 false b) s fun u =>
      u.plant.assembly = some { src := .eth p, node := node, idx := idx, sub := sub, bytes := b, lastAt := (at_ t s).now } ∧ memRead u (stagingBase s) b.length = b) ∧
  (∀ (t : Nat) (s : State), runs t s = true →
    ((∃ a, s.plant.assembly = some a ∧ isEth a.src = true ∧ a.lastAt + segmentLimit s ≤ (at_ t s).now) ∨ ∃ c, c ∈ s.plant.captures ∧ isEth c.src = true ∧ c.lastAt + segmentLimit s ≤ (at_ t s).now) →
    Leads (.segmentTimeout t) s fun u => (∀ a, u.plant.assembly = some a → isEth a.src = true → (at_ t s).now < a.lastAt + segmentLimit s) ∧
      (∀ c, c ∈ u.plant.captures → isEth c.src = true → (at_ t s).now < c.lastAt + segmentLimit s) ∧ rd u 0x1201 0x06 ≥ min 0xFFFF (rd s 0x1201 0x06 + 1)) ∧
  (∀ (t : Nat) (p : PortId) (mac ip : Nat) (s : State), runs t s = true → ethUp s p = true →
    Leads (.arpRequest t p mac ip (rd s (ethE p) 0x04)) s fun u => u.answer.sent = [(64 + p.val, leBytes 4 ip ++ leBytes 2 0 ++
      (beBytes 2 1 ++ beBytes 2 0x0800 ++ [6, 4] ++ beBytes 2 2 ++ (List.range 6).map (Config.macAddress p) ++ beBytes 4 (rd s (ethE p) 0x04) ++ beBytes 6 mac ++ beBytes 4 ip))]) ∧
  (∀ (t : Nat) (p : PortId) (ip : Nat) (rest : List Byte) (s : State), runs t s = true → ethUp s p = true →
    Leads (.icmpEcho t p ip (rd s (ethE p) 0x04) rest) s fun u => u.answer.sent = [(64 + p.val, leBytes 4 ip ++ leBytes 2 0 ++
      ([0, 0] ++ beBytes 2 (inetChecksum ([0, 0, 0, 0] ++ rest)) ++ rest))])

/-- CAN FD ports move between their NMT states, serve SDO and exchange PDOs.
Enabling an OFF port with its domain ON sends boot-up and makes it PRE-OPERATIONAL. While the clocks run: NMT commands that a port hears move it to OPERATIONAL (its transmit PDOs begin), STOPPED or PRE-OPERATIONAL, and a reset drops its transfers and makes it PRE-OPERATIONAL. A heartbeat that is due is sent, once for the periods that have passed, and so is a transmit PDO. Bus state changes are shown, bus-off counted. An expedited SDO download that is performed at once stores the value, and an upload answers it; an idle transfer is aborted with 0x05040000. A receive PDO whose entry is refused is counted with the status and writes nothing of it; one with a single entry that is performed at once stores it. Transmit PDOs run at their period, count SYNCs, and are sent by TpdoTrigger with the value of their entry. A CobId that invalidates the PDO or whose mapping passes is taken. Identifiers, boot-up and the reset commands are those of CiA 301 (log entry 103); a mapping is checked as log entry 102 says. -/
def Obligations.CanPortsServe : Prop :=
  (∀ (src : Source) (p : PortId) (s : State), canSet s src (canK p) 0x01 1 = true → nmtState s p = 0 → domOn s 39 = true →
    Leads (.canPortEnable src p) s fun u => Holds (canK p) 0x01 1 u ∧ nmtState u p = 0x7F ∧
      (rd s (canK p) 0x09 ≠ 2 → u.answer.sent = [(72 + p.val, leBytes 2 (0x700 + canNode s p) ++ [0])])) ∧
  (∀ (t : Nat) (p : PortId) (node : Nat) (s : State), runs t s = true → nmtHeard s p node = true →
    Leads (.nmtStart t p node) s fun u => nmtState u p = 0x05 ∧ (nmtState s p ≠ 5 → ∀ i, i ∈ pdosOf s p 8 → tabFind u.plant.pdoAt i = some (at_ t s).now)) ∧
  (∀ (t : Nat) (p : PortId) (node : Nat) (s : State), runs t s = true → nmtHeard s p node = true → Leads (.nmtStop t p node) s fun u => nmtState u p = 0x04) ∧
  (∀ (t : Nat) (p : PortId) (node : Nat) (s : State), runs t s = true → nmtHeard s p node = true → Leads (.nmtEnterPreOperational t p node) s fun u => nmtState u p = 0x7F) ∧
  (∀ (t : Nat) (p : PortId) (node : Nat) (s : State), runs t s = true → nmtHeard s p node = true →
    Leads (.nmtResetNode t p node) s fun u => nmtState u p = 0x7F ∧ (∀ c, c ∈ u.plant.captures → c.src ≠ .can p) ∧ u.plant.assembly.all (fun a => a.src != .can p) = true) ∧
  (∀ (t : Nat) (p : PortId) (node : Nat) (s : State), runs t s = true → nmtHeard s p node = true →
    Leads (.nmtResetCommunication t p node) s fun u => nmtState u p = 0x7F ∧ (∀ c, c ∈ u.plant.captures → c.src ≠ .can p) ∧ u.plant.assembly.all (fun a => a.src != .can p) = true) ∧
  (∀ (t : Nat) (p : PortId) (s : State), runs t s = true → nmtState s p ≠ 0 → rd s (canK p) 0x06 ≠ 0 → rd s (canK p) 0x09 ≠ 2 →
    (canOf s p).heartbeatAt + rd s (canK p) 0x06 * psMs ≤ (at_ t s).now →
    Leads (.canHeartbeat t p) s fun u => (canOf u p).heartbeatAt = (canOf s p).heartbeatAt + ((at_ t s).now - (canOf s p).heartbeatAt) / (rd s (canK p) 0x06 * psMs) * (rd s (canK p) 0x06 * psMs) ∧
      u.answer.sent = [(72 + p.val, leBytes 2 (0x700 + canNode s p) ++ [BitVec.ofNat 8 (nmtState s p)])]) ∧
  (∀ (t : Nat) (p : PortId) (s : State), runs t s = true → rd s (canK p) 0x01 ≠ 0 → rd s (canK p) 0x09 ≠ 2 →
    Leads (.canBusOff t p) s fun u => rd u (canK p) 0x09 = 2 ∧ rd u (canK p) 0x0A = satAdd 0xFFFF (rd s (canK p) 0x0A) 1) ∧
  (∀ (t : Nat) (p : PortId) (passive : Bool) (s : State), runs t s = true → rd s (canK p) 0x01 ≠ 0 → rd s (canK p) 0x09 ≠ boolNat passive →
    Leads (.canBusStateChange t p passive) s fun u => rd u (canK p) 0x09 = boolNat passive ∧ bitOf (rd u 0x1200 0x03) 1 = true) ∧
  (∀ (t : Nat) (p : PortId) (idx sub : Nat) (b : List Byte) (o : ObjRef) (s : State), calm t s = true → canPut s (.can p) idx sub b = true → Plain idx sub o →
    Leads (.sdoDownload t p idx sub 0 true b) s fun u => u.answer.status = some .ok ∧ rd u idx sub = leNat b) ∧
  (∀ (t : Nat) (p : PortId) (idx sub max : Nat) (o : ObjRef) (s : State), runs t s = true → quiet s = true → s.pair.mirror = [] → sdoServed s p = true → Stored idx sub o →
    Leads (.sdoUpload t p idx sub 0 max) s fun u => u.answer.status = some .ok ∧ u.answer.value = o.desc.ty.bytes ∧ u.answer.bytes = (leBytes o.desc.ty.bytes (rd s idx sub)).take max) ∧
  (∀ (t : Nat) (p : PortId) (a : Assembly) (s : State), runs t s = true → quiet s = true → s.plant.assembly = some a → isCan a.src p = true → a.lastAt + segmentLimit s ≤ (at_ t s).now →
    Leads (.sdoTimeout t p) s fun u => u.plant.assembly = none ∧ u.answer.value = 0x05040000 ∧ rd u (canK p) 0x0B = satAdd 0xFFFF (rd s (canK p) 0x0B) 1) ∧
  (∀ (t : Nat) (i : PdoId) (b : List Byte) (p : PortId) (idx sub bits : Nat) (s : State), runs t s = true → quiet s = true → s.pair.mirror = [] → i.val < 8 →
    rd s (0x1240 + i.val) 0x01 = p → bitOf (rd s (0x1240 + i.val) 0x02) 31 = false → nmtState s p = 5 → rd s (canK p) 0x09 ≠ 2 → pdoEntries s i = [(idx, sub, bits)] →
    Leads (.rpdo t i b) s fun u =>
      (∀ st, writeRefusal (at_ t s) (.can p) idx sub (b.take (bits / 8)) = some st → rd u (canK p) 0x0D = satAdd 0xFFFF (rd s (canK p) 0x0D) 1 ∧ rd u (canK p) 0x0E = st.code) ∧
      (∀ o, canPut s (.can p) idx sub (b.take (bits / 8)) = true → Plain idx sub o → rd u idx sub = leNat (b.take (bits / 8)))) ∧
  (∀ (t : Nat) (i : PdoId) (s : State), runs t s = true → pdoRuns s i 1 = true → rd s (0x1240 + i.val) 0x04 ≠ 0 →
    tabGet 0 s.plant.pdoAt i + rd s (0x1240 + i.val) 0x04 * psMs ≤ (at_ t s).now →
    Leads (.tpdoCyclic t i) s fun u => tabFind u.plant.pdoAt i = some (tabGet 0 s.plant.pdoAt i + ((at_ t s).now - tabGet 0 s.plant.pdoAt i) / (rd s (0x1240 + i.val) 0x04 * psMs) * (rd s (0x1240 + i.val) 0x04 * psMs)) ∧
      ∀ idx sub bits o, pdoEntries s i = [(idx, sub, bits)] → Stored idx sub o → rd s (canK (rd s (0x1240 + i.val) 0x01)) 0x09 ≠ 2 →
        u.answer.sent = [(72 + rd s (0x1240 + i.val) 0x01, leBytes 2 (bitsOf (rd s (0x1240 + i.val) 0x02) 0 11) ++ leBytes o.desc.ty.bytes (rd s idx sub))]) ∧
  (∀ (t : Nat) (p : PortId) (s : State), runs t s = true → nmtState s p = 5 → rd s (canK p) 0x09 ≠ 2 →
    Leads (.canSync t p) s fun u => ∀ i, i ∈ pdosOf s p 8 → pdoRuns s i 2 = true →
      tabGet 0 u.plant.pdoSync i = if tabGet 0 s.plant.pdoSync i + 1 = rd s (0x1240 + i) 0x04 then 0 else tabGet 0 s.plant.pdoSync i + 1) ∧
  (∀ (src : Source) (i : PdoId) (s : State), canSet s src (0x1240 + i.val) 0x05 1 = true → 8 ≤ i.val → rd s (0x1240 + i.val) 0x03 = 3 →
    Leads (.tpdoTrigger src i) s fun u => u.answer.status = some .ok ∧
      ∀ idx sub bits o, pdoRuns s i 3 = true → pdoEntries s i = [(idx, sub, bits)] → Stored idx sub o → rd s (canK (rd s (0x1240 + i.val) 0x01)) 0x09 ≠ 2 →
        u.answer.sent = [(72 + rd s (0x1240 + i.val) 0x01, leBytes 2 (bitsOf (rd s (0x1240 + i.val) 0x02) 0 11) ++ leBytes o.desc.ty.bytes (rd s idx sub))]) ∧
  (∀ (src : Source) (i : PdoId) (v : Nat) (s : State), canSet s src (0x1240 + i.val) 0x02 v = true →
    (bitOf v 31 = true ∨ ((pdoEntries s i).findSome? (entryCheck s (.can (Fin.ofNat 2 (rd s (0x1240 + i.val) 0x01))) (decide (i.val < 8))) = none ∧
      (pdoEntries s i).foldl (fun a e => a + e.2.2) 0 ≤ 512)) →
    Leads (.cobidWrite src i v) s fun u => Holds (0x1240 + i.val) 0x02 (v % 2 ^ 32) u)

/-- PTP follows its master, and the second pulses are timed.
While the clocks run: a two-step Sync of the selected master waits for its Follow_Up with its time to within 16 ns, and a one-step Sync or a Follow_Up shows the offset and moves PtpState by it: UNCALIBRATED to SLAVE below 1 ms, SLAVE to LOCKED at the sixteenth in a row below 1 µs, SLAVE or LOCKED to HOLDOVER from 10 µs on, HOLDOVER to SLAVE below 10 µs. An Announce selects a master and leaves LISTENING. A Delay_Req message of IEEE 1588 that is due is sent (its source identity is the choice of log entry 106), and its Delay_Resp gives the mean path delay. Without a Sync for the receipt timeout SLAVE and LOCKED become HOLDOVER on REFCLK. PPS_IN is timestamped, and with PpsDiscipline and no lock steers engine time towards the nearest whole second, by at most 500 ppm and not past it (log entry 105); PPS_OUT rises at a second and falls after its width. A link change is shown. The slew that follows an offset and the error of a timestamp are free (log entry 46), and masters are ordered as IEEE 1588 does (log entry 104). -/
def Obligations.PtpAndSecondPulses : Prop :=
  (∀ (t : Nat) (p : PortId) (domain id seq : Nat) (s : State), runs t s = true → fromSelected s p domain id = true →
    Leads (.ptpSync t p domain id seq none) s fun u => ∃ k, k ≤ 32 ∧ u.plant.ptp.pendingSync = some (seq, ((ptpTime (at_ t s) : Int) + (k : Nat) - 16).toNat)) ∧
  (∀ (t : Nat) (p : PortId) (domain id seq t1 : Nat) (s : State), runs t s = true → fromSelected s p domain id = true →
    Leads (.ptpSync t p domain id seq (some t1)) s fun u => ∃ k, k ≤ 32 ∧
      let off : Int := (ptpTime (at_ t s) : Int) + (k : Nat) - 16 - t1 - (rd s 0x1230 0x0B : Int)
      rd u 0x1230 0x0A = offsetShown off ∧ u.plant.ptp.syncAt = (at_ t s).now ∧ (ptpState s = 2 → off.natAbs < 1000000 → ptpState u = 3) ∧ (ptpState s = 3 ∨ ptpState s = 4 → 10000 ≤ off.natAbs → ptpState u = 5) ∧
      (ptpState s = 3 → off.natAbs < 1000 → s.plant.ptp.streak = 15 → ptpState u = 4) ∧ (ptpState s = 5 → off.natAbs < 10000 → ptpState u = 3)) ∧
  (∀ (t : Nat) (p : PortId) (domain id seq origin t2 : Nat) (s : State), runs t s = true → fromSelected s p domain id = true → s.plant.ptp.pendingSync = some (seq, t2) →
    let off : Int := (t2 : Int) - origin - (rd s 0x1230 0x0B : Int)
    Leads (.ptpFollowUp t p domain id seq origin) s fun u =>
      rd u 0x1230 0x0A = offsetShown off ∧ u.plant.ptp.syncAt = (at_ t s).now ∧ u.plant.ptp.pendingSync = none ∧ (ptpState s = 2 → off.natAbs < 1000000 → ptpState u = 3) ∧ (ptpState s = 3 ∨ ptpState s = 4 → 10000 ≤ off.natAbs → ptpState u = 5) ∧
      (ptpState s = 3 → off.natAbs < 1000 → s.plant.ptp.streak = 15 → ptpState u = 4) ∧ (ptpState s = 5 → off.natAbs < 10000 → ptpState u = 3)) ∧
  (∀ (t : Nat) (p : PortId) (domain id gm p1 q p2 steps : Nat) (s : State), runs t s = true → ptpHears s p domain = true →
    Leads (.ptpAnnounce t p domain id gm p1 q p2 steps) s fun u => u.plant.ptp.selected.isSome = true ∧ ptpState u ≠ 1 ∧
      (s.plant.ptp.masters = [] → u.plant.ptp.selected = some id ∧ rdBytes u 0x1230 0x0C = beBytes 8 gm)) ∧
  (∀ (t : Nat) (s : State), runs t s = true → ethUp s (ptpPort s) = true → 2 ≤ ptpState s → s.plant.ptp.syncAt ≠ 0 → s.plant.ptp.delayAt + logSeconds (rd s 0x1230 0x06) ≤ (at_ t s).now →
    Leads (.ptpDelayReq t) s fun u => let q := (s.plant.ptp.delaySeq + 1) % 65536
      u.plant.ptp.delaySeq = q ∧ u.plant.ptp.delayPending.map (·.1) = some q ∧ u.plant.ptp.delayAt = (at_ t s).now ∧
      u.answer.sent = [(64 + ptpPort s, leBytes 4 0xE0000181 ++ leBytes 2 319 ++ ([0x01, 0x12] ++ beBytes 2 44 ++ beBytes 1 (rd s 0x1230 0x03) ++ List.replicate 15 0 ++ ptpIdentity (ptpPort s) ++ beBytes 2 q ++ [0x01, 0x7F] ++ List.replicate 10 0))]) ∧
  (∀ (t : Nat) (p : PortId) (domain id seq t4 t3 : Nat) (s : State), runs t s = true → fromSelected s p domain id = true → s.plant.ptp.delayPending = some (seq, t3) →
    Leads (.ptpDelayResp t p domain id seq t4) s fun u => u.plant.ptp.delayPending = none ∧
      rd u 0x1230 0x0B = (clampInt 0 4294967295 (((s.plant.ptp.t2 : Int) - s.plant.ptp.t1 + ((t4 : Int) - t3)) / 2)).toNat) ∧
  (∀ (t : Nat) (s : State), runs t s = true → (ptpState s = 3 ∨ ptpState s = 4) → s.plant.ptp.syncAt + receiptTimeout s ≤ (at_ t s).now →
    Leads (.announceReceiptTimeout t) s fun u => ptpState u = 5 ∧ u.ptpRate = 0 ∧ u.ptpAt = (at_ t s).now ∧ u.ptpBase = ptpTime (at_ t s) ∧
      rd u 0x1230 0x0D = if ptpState s = 4 then satAdd 0xFFFF (rd s 0x1230 0x0D) 1 else rd s 0x1230 0x0D) ∧
  (∀ (t : Nat) (s : State), runs t s = true → rd s 0x1231 0x03 ≠ 0 → Leads (.ppsInEdge t) s fun u => rd u 0x1231 0x04 = ptpTime (at_ t s) % 2 ^ 64 ∧
      (rd s 0x1231 0x05 = 1 → ptpState s ≠ 4 → u.ptpBase = ptpTime (at_ t s) ∧ u.ptpAt = (at_ t s).now ∧ u.ptpRate.natAbs ≤ 500000 ∧
        (ppsPhase (ptpTime (at_ t s)) ≠ 0 → u.ptpRate * ppsPhase (ptpTime (at_ t s)) < 0 ∧ u.ptpRate.natAbs ≤ (ppsPhase (ptpTime (at_ t s))).natAbs ∧ u.ptpFor = some psS))) ∧
  (∀ (t : Nat) (s : State), runs t s = true → rd s 0x1231 0x01 ≠ 0 → (ptpTime (at_ t s) + 20) % 1000000000 ≤ 40 → s.plant.ppsSecond ≠ (ptpTime (at_ t s) + 20) / 1000000000 + 1 →
    Leads (.ppsOutSecond t) s fun u => u.plant.ppsHigh = some (at_ t s).now) ∧
  (∀ (t a : Nat) (s : State), runs t s = true → s.plant.ppsHigh = some a → a + rd s 0x1231 0x02 * psMs ≤ (at_ t s).now →
    Leads (.ppsOutWidthEnd t) s fun u => u.plant.ppsHigh = none) ∧
  (∀ (t : Nat) (p : PortId) (up : Bool) (s : State), runs t s = true → dictOn s = true → domOn s 39 = true → rd s (ethE p) 0x0D ≠ boolNat up →
    Leads (.ethLinkChange t p up) s fun u => rd u (ethE p) 0x0D = boolNat up ∧ bitOf (rd u 0x1200 0x03) 0 = true)

/-- Supplies rise and fail, resets restart the engine, and clocks and temperature are watched.
Power on without VIN takes the flash and leaves every domain OFF with NVM kept; unless PORST_L is held low the straps are sampled and boot runs. PORST_L low for 10 µs resets the engine with its cause, and for under 1 µs does nothing; held low it keeps boot from running until it rises with VIN there. A brown-out leaves every domain OFF and boot not running. With VIN up, VIN below VinWarnLevel asserts FAULT_L and turns every field domain OFF, in every mode; at or above it with SYS ON only VinLevel changes, and with SYS off nothing (what else it does with SYS off is the choice of log entry 169). Overcurrent switches a board output that is on off, and with SYS ON counts; a BoardSupplyMode write starts tripped outputs again. LpddrSupplyEnable switches the outputs of each interface; a fault of one turns its domain OFF. RESET_OUT_L rises 1 ms after SYS is ON. A "boot" write ends in a reset or in its orderly shutdown. PLL locks, the RC trim, the stop of the crystal and the temperature are shown; at 120 °C every domain goes OFF and the engine is held. An idle furrow of a gated field loses its clock. The flash is an operand (log entry 75), what a reset leaves is log entry 85's reading, PORST_L that stays low is taken as log entry 170 says, a supply fault as log entry 83 says, and the lock bits of a PLL come with the command (log entry 88). -/
def Obligations.SuppliesAndResets : Prop :=
  (∀ (t : Nat) (a b c d : Bool) (flash : List (Nat × List Byte)) (s : State), calm t s = true → s.power.vinUp = false →
    Leads (.powerOn t a b c d flash) s fun u => u.power.vinUp = true ∧ u.power.booting = !s.power.porstLow ∧ (s.power.porstLow = false → u.straps = { pairRole := a, jtagEnable := b, bootRecovery := c, coreDebug := d }) ∧
      u.nvm.flash = flashTable flash ∧ u.keys = s.keys ∧ u.cache = s.cache ∧ u.mem = [] ∧ bootState u = 0 ∧ rd u 0x1502 0x02 = 1 ∧ ∀ k, k < 42 → domState u k = 0) ∧
  (∀ (t : Nat) (s : State), Leads (.brownOut t) s fun u => u.power.vinUp = false ∧ u.power.booting = false ∧ rd u 0x1502 0x02 = 3 ∧ u.mem = [] ∧ ∀ k, k < 42 → domState u k = 0) ∧
  (∀ (t lowPs : Nat) (a b c d : Bool) (s : State), calm t s = true → s.power.vinUp = true → s.power.porstLow = false →
    Leads (.porst t (some lowPs) a b c d) s fun u => (lowPs < psUs → u = at_ t s) ∧
      (10 * psUs ≤ lowPs → u.power.booting = true ∧ u.straps = { pairRole := a, jtagEnable := b, bootRecovery := c, coreDebug := d } ∧ bootState u = 0 ∧ rd u 0x1502 0x02 = 2 ∧ ∀ k, k < 42 → domState u k = 0)) ∧
  (∀ (t : Nat) (a b c d : Bool) (s : State), calm t s = true → s.power.porstLow = false →
    Leads (.porst t none a b c d) s fun u => u.power.porstLow = true ∧
      (s.power.vinUp = true → rd u 0x1502 0x02 = 2 ∧ u.power.booting = false ∧ ∀ k, k < 42 → domState u k = 0)) ∧
  (∀ (t k : Nat) (a b c d : Bool) (s : State), calm t s = true → s.power.porstLow = true →
    Leads (.porst t (some k) a b c d) s fun u => u.power.porstLow = false ∧
      (s.power.vinUp = true → u.power.booting = true ∧ u.power.releasedAt = (at_ t s).now ∧ u.straps = { pairRole := a, jtagEnable := b, bootRecovery := c, coreDebug := d })) ∧
  (∀ (t mv : Nat) (s : State), calm t s = true → s.power.vinUp = true → domOn s 41 = false →
    Leads (.powerFail t mv) s fun u => (s.power.vinWarn ≤ mv → u = at_ t s) ∧ (mv < s.power.vinWarn → u.faultL = true ∧ u.power.booting = false ∧ ∀ f, f < 24 → domState u f = 0)) ∧
  (∀ (t mv : Nat) (s : State), calm t s = true → s.power.vinUp = true → domOn s 41 = true → s.power.shutdown ≠ some .powerFail →
    Leads (.powerFail t mv) s fun u => (rd s 0x1501 0x02 ≤ mv → rd u 0x1501 0x01 = mv ∧ u.faultL = s.faultL) ∧
      (mv < rd s 0x1501 0x02 → u.faultL = true ∧ ∀ f, f < 24 → domState u f = 0)) ∧
  (∀ (t : Nat) (o : Fin 2) (s : State), calm t s = true → boardOn s o = true →
    Leads (.supplyOvercurrent t o) s fun u => o.val ∈ u.power.tripped ∧ boardOn u o = false ∧
      (domOn s 41 = true → bitOf (rd u 0x1501 0x07) o = false ∧ rd u 0x1501 0x0A = satAdd 0xFFFF (rd s 0x1501 0x0A) 1)) ∧
  (∀ (src : Source) (v : Nat) (s : State), canSet s src 0x1501 0x05 v = true →
    Leads (.boardSupplyModeWrite src v) s fun u => Holds 0x1501 0x05 (v % 2 ^ 8) u ∧ u.power.tripped = [] ∧ ∀ o, o ∈ s.power.tripped → bitOf (rd u 0x1501 0x07) o = true) ∧
  (∀ (src : Source) (v : Nat) (s : State), canSet s src 0x1501 0x06 v = true → (∀ i, i < 2 → bitOf (rd s 0x1501 0x06) i = true → bitOf v i = false → domState s (36 + i) = 0) →
    Leads (.lpddrSupplyEnableWrite src v) s fun u => Holds 0x1501 0x06 (v % 2 ^ 8) u ∧ ∀ i, i < 2 → (bitOf v i = true → lpddrSupplyOn u i = true) ∧
      (bitOf v i = false → bitOf (rd s 0x1501 0x06) i = true → lpddrSupplyOn u i = false ∧ lpddrState u i = 0)) ∧
  (∀ (t : Nat) (i : LpId) (s : State), calm t s = true → domOn s 41 = true → lpddrSupplyOn s i = true →
    Leads (.lpddrSupplyFault t i) s fun u => lpddrSupplyOn u i = false ∧ lpddrState u i = 0 ∧ domState u (36 + i.val) = 0) ∧
  (∀ (t : Nat) (s : State), calm t s = true → domOn s 41 = true → s.power.resetOut = false → s.power.sysOnAt + psMs ≤ (at_ t s).now → Leads (.resetOutRelease t) s fun u => resetOutLevel u = true) ∧
  (∀ (src : Source) (s : State), canSet s src 0x1502 0x01 0x746F6F62 = true → rd s 0x1300 0x01 ≠ 1 →
    Leads (.engineReset src) s fun u => u.answer.status = some .ok ∧ (u.power.shutdown = some .reset ∨ (rd u 0x1502 0x02 = 5 ∧ bootState u = 0 ∧ u.power.booting = true))) ∧
  (∀ (t : Nat) (a n : Bool) (s : State), runs t s = true →
    Leads (.pllLockLoss t a n) s fun u => rd u 0x1503 0x01 = setBit (setBit (rd s 0x1503 0x01) 0 a) 1 n ∧
      ((bitOf (rd s 0x1503 0x01) 0 = true ∧ a = false ∨ bitOf (rd s 0x1503 0x01) 1 = true ∧ n = false) → rd u 0x1503 0x04 = satAdd 0xFFFF (rd s 0x1503 0x04) 1)) ∧
  (∀ (t : Nat) (err : Int) (s : State), runs t s = true → s.power.rcTrimAt + 10 * psMs ≤ (at_ t s).now →
    Leads (.rcTrim t err) s fun u => rd u 0x1503 0x02 = wrapInt 16 err ∧ u.power.rcTrimAt = (at_ t s).now) ∧
  (∀ (t : Nat) (s : State), calm t s = true → s.power.vinUp = true → Leads (.lfxoStop t) s fun u => u.power.lfxoStopped = true ∧ (domOn s 41 = true → rd u 0x1503 0x01 = setBit (rd s 0x1503 0x01) 2 false)) ∧
  (∀ (t : Nat) (temp : Int) (s : State), calm t s = true → domOn s 41 = true → s.power.tempAt + psMs ≤ (at_ t s).now →
    let level := signedOf 16 (rd s 0x1501 0x04)
    Leads (.tempSample t temp) s fun u =>
      (temp < 1200 → rd u 0x1501 0x03 = wrapInt 16 temp ∧ u.power.tempAt = (at_ t s).now ∧
        rd u 0x1501 0x09 = if signedOf 16 (rd s 0x1501 0x03) < level ∧ level ≤ temp then satAdd 0xFFFF (rd s 0x1501 0x09) 1 else rd s 0x1501 0x09) ∧
      (1200 ≤ temp → u.power.thermalHeld = true ∧ u.faultL = true ∧ rd u 0x1502 0x02 = 4 ∧ ∀ k, k < 42 → domState u k = 0)) ∧
  (∀ (t : Nat) (f : FieldId) (k : Furrow) (s : State), runs t s = true → bitOf (rd s 0x1503 0x03) f = true → domOn s f = true → furrowIdle (at_ t s) f k = true →
    Leads (.furrowClockGate t f k) s fun u => (8 * f.val + k.val, aclk (at_ t s)) ∈ u.power.gated)

/-- Domains move between their states, and the power modes are entered and left.
A request of ON that passes starts an OFF or RETAINED domain, clears a stop latched in STARTING, leaves ON alone, and latches a restart while the domain goes down. A request of OFF fences an ON domain, latches a stop in STARTING, and makes a RETAINED one OFF; RETAINED fences a field. A start that ends well makes the domain ON (FENCING when a stop is latched), and one that fails makes it OFF, counted. FENCING ends in DRAINING, DRAINING in STOPPING 64 NCLK later, and STOPPING in OFF, RETAINED or a restart. PowerMode 0 is taken, or wakes the engine from LINE_STOP; 1 begins LINE_STOP, whose clocks stop when the network is quiet within 1 ms, with the fields ON or on their way there RETAINED and the rest OFF, or which is abandoned; 2 and 3 go to sleep or begin the shutdown for it. An enabled wake source ends each mode and is recorded; in LINE_STOP an accepted edge of a trigger and an SDO frame to the node are such sources (log entry 110). How PD39 stops and a drain is timed is the reading of log entry 81, a restart whose checks fail that of log entry 82, WakeCause that of log entry 84; a function that goes on before the clocks stop is the choice of log entry 126. -/
def Obligations.DomainsAndPowerModes : Prop :=
  (∀ (src : Source) (d : DomainId) (s : State), canSet s src 0x1510 (d.val + 1) 1 = true → domainOnCheck s d = .ok → bootHeld s d = false →
    Leads (.domainRequestOn src d) s fun u => domRequest u d = 1 ∧
      (domState s d = 0 ∨ domState s d = 6 → domState u d = 1 ∧ u.answer.status = some .ok) ∧
      (domState s d = 1 → domState u d = 1 ∧ tabFind u.power.stopTo d = none) ∧ (domState s d = 2 → domState u d = 2) ∧
      (domState s d = 3 ∨ domState s d = 4 ∨ domState s d = 5 → domState u d = domState s d ∧ rd u 0x1512 (d.val + 1) = 1 ∧ u.answer.status = some .restartPending)) ∧
  (∀ (src : Source) (d : DomainId) (s : State), canSet s src 0x1510 (d.val + 1) 0 = true → bootHeld s d = false →
    ¬ (d.val = 38 ∧ holder s 0x72 = 0x0700) → ¬ (d.val = 40 ∧ holder s 0x73 = 0x0700) →
    Leads (.domainRequestOff src d) s fun u => u.answer.status = some .ok ∧ domRequest u d = 0 ∧
      (domState s d = 2 → domState u d = 3 ∧ d.val ∈ u.noc.fenced) ∧ (domState s d = 1 → domState u d = 1 ∧ tabFind u.power.stopTo d = some 0) ∧
      (domState s d = 0 ∨ domState s d = 6 → domState u d = 0)) ∧
  (∀ (src : Source) (d : DomainId) (s : State), canSet s src 0x1510 (d.val + 1) 2 = true → bootHeld s d = false → d.val < 24 → domState s d = 2 →
    Leads (.domainRequestRetained src d) s fun u => u.answer.status = some .ok ∧ domState u d = 3 ∧ tabFind u.power.stopTo d = some 2) ∧
  (∀ (t : Nat) (d : DomainId) (s : State), runs t s = true → domState s d = 1 → (d.val = 36 ∨ d.val = 37 → lpddrState s (d.val - 36) = 3) →
    Leads (.domainStartComplete t d true) s fun u => domState u d = if (tabFind s.power.stopTo d).isSome then 3 else 2) ∧
  (∀ (t : Nat) (d : DomainId) (s : State), runs t s = true → domState s d = 1 →
    Leads (.domainStartComplete t d false) s fun u => domState u d = 0 ∧ rd u 0x1514 0x01 = satAdd 0xFFFF (rd s 0x1514 0x01) 1 ∧ rd u 0x1514 0x02 = d) ∧
  (∀ (t : Nat) (d : DomainId) (s : State), runs t s = true → domState s d = 3 → housedOff s d = true → Leads (.domainFenceApplied t d) s fun u => domState u d = 4) ∧
  (∀ (t : Nat) (d : DomainId) (s : State), runs t s = true → domState s d = 4 → networkDrained s d = true → stamp s 0x1511 (d.val + 1) + 128000 ≤ (at_ t s).now →
    Leads (.domainDrainComplete t d) s fun u => domState u d = 5) ∧
  (∀ (t : Nat) (d : DomainId) (s : State), runs t s = true → domState s d = 5 →
    Leads (.domainStopComplete t d) s fun u => domState u d =
      if rd s 0x1512 (d.val + 1) = 1 ∧ domainOnCheck s d = .ok then 1 else if d.val < 24 ∧ stopTarget s d = 2 then 6 else 0) ∧
  (∀ (src : Source) (s : State), canSet s src 0x1500 0x01 0 = true →
    Leads (.powerModeRun src) s fun u => u.answer.status = some .ok ∧ u.power.lineStopAt = none ∧ rd u 0x1500 0x02 = 0) ∧
  (∀ (src : Source) (s : State), calm s.now s = true → quiet s = true → (ethOf s 0).buffer = [] → (ethOf s 1).buffer = [] → inLineStop s = true → plantSource src = true → sourceUp s src = true → bitOf s.power.wakeEnable 4 = true → s.power.vinUp = true → s.power.thermalHeld = false →
    Leads (.powerModeRun src) s fun u => sysRuns u = true ∧ rd u 0x1500 0x04 = 16) ∧
  (∀ (src : Source) (s : State), canSet s src 0x1500 0x01 1 = true → lineStopOk s = true →
    Leads (.powerModeLineStop src) s fun u => u.answer.status = some .ok ∧ u.power.lineStopAt = some s.now ∧ rd u 0x1500 0x02 = 0) ∧
  (∀ (src : Source) (s : State), canSet s src 0x1500 0x01 2 = true → rd s 0x1300 0x01 = 0 →
    Leads (.powerModeSleep src) s fun u => u.answer.status = some .ok ∧ (u.power.shutdown = some .sleep ∨ u.power.asleep = 2)) ∧
  (∀ (src : Source) (s : State), canSet s src 0x1500 0x01 3 = true → rd s 0x1300 0x01 = 0 →
    Leads (.powerModeDeepSleep src) s fun u => u.answer.status = some .ok ∧ (u.power.shutdown = some .deepSleep ∨ u.power.asleep = 3)) ∧
  (∀ (t t0 : Nat) (s : State), runs t s = true → s.power.lineStopAt = some t0 → networkQuiet (at_ t s) = true → lineStopOk s = true → s.power.shutdown = none → (at_ t s).now ≤ t0 + psMs →
    Leads (.lineStopClockStop t) s fun u => sysRuns u = false ∧ rd u 0x1500 0x01 = 1 ∧ u.power.lineStopAt = none ∧
      (∀ f, f < 24 → domState u f = if retainable s f = true then 6 else 0) ∧ ∀ d, d ∈ [28, 29, 30, 31, 36, 37] → domState u d = 0) ∧
  (∀ (t t0 : Nat) (s : State), runs t s = true → s.power.lineStopAt = some t0 → t0 + psMs ≤ (at_ t s).now →
    Leads (.lineStopEntryTimeout t) s fun u => u.power.lineStopAt = none ∧ rd u 0x1500 0x02 = Status.timeout.code) ∧
  (∀ (t : Nat) (cause : Fin 5) (s : State), calm t s = true → quiet s = true → (ethOf s 0).buffer = [] → (ethOf s 1).buffer = [] → bitOf s.power.wakeEnable cause = true → wakeDue (at_ t s) cause = true → s.power.vinUp = true → s.power.thermalHeld = false →
    (s.power.asleep ≠ 0 ∨ rd s 0x1500 0x01 = 1 ∧ domOn s 41 = true) →
    Leads (.wake t cause) s fun u => rd u 0x1500 0x04 = 2 ^ cause.val ∧
      (s.power.asleep ≠ 0 → u.power.booting = true ∧ rd u 0x1502 0x02 = (if s.power.asleep = 2 then 6 else 7)) ∧ (s.power.asleep = 0 → sysRuns u = true)) ∧
  (∀ (t : Nat) (k : TrigId) (rising : Bool) (s : State), calm t s = true → quiet s = true → (ethOf s 0).buffer = [] → (ethOf s 1).buffer = [] → inLineStop s = true →
    bitOf s.power.wakeEnable 2 = true → wakeEdge s 0 k rising = true → s.power.vinUp = true → s.power.thermalHeld = false →
    Leads (.triggerEdge t k rising) s fun u => sysRuns u = true ∧ rd u 0x1500 0x04 = 4 ∧ (rd s (tx k) 0x02 = 0 → tabFind u.print.trigLevel (trigKey s k) = some (boolNat rising))) ∧
  (∀ (t : Nat) (p : PortId) (idx sub max : Nat) (s : State), calm t s = true → quiet s = true → (ethOf s 0).buffer = [] → (ethOf s 1).buffer = [] → inLineStop s = true →
    bitOf s.power.wakeEnable 4 = true → sdoServed s p = true → s.power.vinUp = true → s.power.thermalHeld = false →
    Leads (.sdoUpload t p idx sub 0 max) s fun u => sysRuns u = true ∧ rd u 0x1500 0x04 = 16)

/-- Boot goes through its steps, and parameters, firmware and counter snapshots are stored.
While boot runs: step 1 turns SYS ON, step 2 passes or ends in SECURITY_FAILED with FAULT_L and PD39 ON, step 3 always ends in 3, step 4 ends in 4 or in RECOVERY, at once with BOOT_RECOVERY, and step 5 ends READY with boot over; the last two wait for core domains that start (log entry 171). "save" and "load" with NVM ON and no store under way begin a store of their image, whose end fills the other bank or fails. A firmware image that nothing holds up is refused with the status of its first failing check, or its write begins; its end writes the slot and prefers it, or fails. "snap" captures every trouble counter, and its write ends; "clr" sets every trouble counter to 0. Boot's steps are commands whose self test is an operand (log entries 87 and 108), bank A and half 0 are the first to be written (log entry 73), "snap" is refused while one runs or with PD40 OFF (log entry 74), an update is checked and shown as log entries 76, 89 and 172 say. -/
def Obligations.BootAndStores : Prop :=
  (∀ (t : Nat) (ok : Bool) (bad : List Nat) (s : State), calm t s = true → s.power.booting = true → s.power.thermalHeld = false → bootState s ≤ 4 →
    Leads (.boot t ok bad) s fun u => (bootState s = 0 → bootState u = 1 ∧ domOn u 41 = true) ∧
      (bootState s = 1 → bootState u = (if ok then 2 else 7) ∧ (ok = false → u.faultL = true ∧ domOn u 39 = true)) ∧ (bootState s = 2 → bootState u = 3) ∧
      (bootState s = 3 → coresStarting s = false → (bootState u = 4 ∨ bootState u = 6) ∧ (s.straps.bootRecovery = true → bootState u = 6)) ∧
      (bootState s = 4 → coresStarting s = false → bootState u = 5 ∧ u.power.booting = false) ∧
      (3 ≤ bootState s → coresStarting s = true → u = at_ t s)) ∧
  (∀ (src : Source) (s : State), canSet s src 0x1100 0x01 0x65766173 = true → rd s 0x1102 0x01 ≠ 1 → domOn s 40 = true → (paramImage s false).length ≤ 0x20000 →
    Leads (.storeParameters src) s fun u => u.answer.status = some .ok ∧ rd u 0x1102 0x01 = 1 ∧ u.nvm.storing = some (paramImage s false, s.security.paramsDirty)) ∧
  (∀ (src : Source) (s : State), canSet s src 0x1101 0x01 0x64616F6C = true → rd s 0x1102 0x01 ≠ 1 → domOn s 40 = true →
    Leads (.restoreDefaults src) s fun u => u.answer.status = some .ok ∧ rd u 0x1102 0x01 = 1 ∧ u.nvm.storing = some (paramImage s true, s.security.paramsDirty)) ∧
  (∀ (t : Nat) (ok : Bool) (img : List Byte) (dirty : Bool) (s : State), runs t s = true → s.nvm.storing = some (img, dirty) →
    Leads (.storeComplete t ok) s fun u => u.nvm.storing = none ∧ rd u 0x1102 0x01 = (if ok then 2 else 3) ∧
      (if otherBank s = 0 then u.nvm.paramA else u.nvm.paramB) = (if ok then img else []) ∧ (ok = true → rd u 0x1102 0x03 = leAt img 8 4 ∧ rd u 0x1102 0x04 = otherBank s)) ∧
  (∀ (src : Source) (b : List Byte) (s : State), canPut s src 0x1402 0x00 b = true → checksAtOnce s = true → s.security.updating = none →
    Leads (.firmwareUpdate src b) s fun u => (∀ k st, fwCheck s b b.length = some (k, st) → u.answer.status = some st ∧ u.security.updating = none) ∧
      (fwCheck s b b.length = none → u.answer.status = some .ok ∧ u.security.updating = some b ∧ rd u 0x1403 0x01 = 2)) ∧
  (∀ (t k preferred seq : Nat) (es : List DirEntry) (e : DirEntry) (b : List Byte) (s : State), runs t s = true → s.security.updating = some b →
    updateDir s = (k, preferred, es, seq) → es.find? (fun x => x.ty == (if preferred == 0 then 2 else 1)) = some e → e.offset ≠ 0x1000 * (1 - k) →
    Leads (.flashUpdateComplete t true) s fun u => rd u 0x1403 0x01 = 6 ∧ u.security.updating = none ∧ tabFind u.nvm.flash e.offset = some b) ∧
  (∀ (t : Nat) (b : List Byte) (s : State), runs t s = true → s.security.updating = some b →
    Leads (.flashUpdateComplete t false) s fun u => rd u 0x1403 0x01 = 7 ∧ rd u 0x1403 0x02 = Status.storeFail.code ∧ u.security.updating = none) ∧
  (∀ (src : Source) (s : State), canSet s src 0x1700 0x01 0x70616E73 = true → rd s 0x1700 0x02 ≠ 1 → domOn s 40 = true →
    Leads (.snapshotCounters src) s fun u => u.answer.status = some .ok ∧ rd u 0x1700 0x02 = 1 ∧ u.nvm.snapping = some (snapImage s)) ∧
  (∀ (t : Nat) (ok : Bool) (img : List Byte) (s : State), runs t s = true → quiet s = true → s.nvm.snapping = some img →
    Leads (.snapshotWriteComplete t ok) s fun u => u.nvm.snapping = none ∧ rd u 0x1700 0x02 = (if ok then 2 else 3) ∧
      (if otherHalf s = 0 then u.nvm.snap0 else u.nvm.snap1) = if ok then img else []) ∧
  (∀ (src : Source) (s : State), canSet s src 0x1700 0x06 0x726C63 = true →
    Leads (.clearCounters src) s fun u => u.answer.status = some .ok ∧ ∀ e, e ∈ troubleObjects → rd u (e.1 / 256) (e.1 % 256) = 0)

/-- Keys, mailboxes, random numbers, attestation, the tuning cache and the test access port.
A mailbox that is not busy takes each command and is BUSY; its operation ends DONE with its result in DEST, or FAILED with its status. A TRNG health failure is counted; a restart runs the start-up test, which ends READY or FAILED; a read of Random takes 32 fresh bytes, and is refused while FAILED. OwnerInstall fills an EMPTY slot 1. With the key store's NVM ON and its engines idle, a key update that passes its checks installs, erases or replaces its key and raises the floor. AttestNonce captures the report, which ends signed. CacheInstall with the engines idle puts a good image in the first free entry, and CacheErase frees one. With the JTAG strap each TAP instruction is selected and, with SYS ON, shifts out what R460 gives, the boundary register with one cell for each of the 180 balls of its two groups, which EXTEST drives; a test-logic reset selects IDCODE. What the engines serve at once, and RANDOM's queue, is the choice of log entry 145; the context of VERIFY and the ends of a mailbox operation are read as log entry 80 says, a failing key store as log entry 77 says, CacheFree as log entry 79 says, and the TAP's captures and cells as log entries 91, 92 and 166 say. -/
def Obligations.KeysMailboxesAndAttestation : Prop :=
  (∀ (t : Nat) (n : CoreId) (s : State), runs t s = true → securityOn s = true → (mailboxOf s n).status % 256 ≠ 1 →
    Leads (.mailboxSha3512 t n) s fun u => u.answer.status = some .ok ∧ mailboxOf u n = { mailboxOf s n with command := 1, status := 1 }) ∧
  (∀ (t : Nat) (n : CoreId) (s : State), runs t s = true → securityOn s = true → (mailboxOf s n).status % 256 ≠ 1 →
    Leads (.mailboxShake256 t n) s fun u => u.answer.status = some .ok ∧ mailboxOf u n = { mailboxOf s n with command := 2, status := 1 }) ∧
  (∀ (t : Nat) (n : CoreId) (s : State), runs t s = true → securityOn s = true → (mailboxOf s n).status % 256 ≠ 1 →
    Leads (.mailboxVerify t n) s fun u => u.answer.status = some .ok ∧ mailboxOf u n = { mailboxOf s n with command := 3, status := 1 }) ∧
  (∀ (t : Nat) (n : CoreId) (s : State), runs t s = true → securityOn s = true → (mailboxOf s n).status % 256 ≠ 1 →
    Leads (.mailboxSign t n) s fun u => u.answer.status = some .ok ∧ mailboxOf u n = { mailboxOf s n with command := 4, status := 1 }) ∧
  (∀ (t : Nat) (n : CoreId) (s : State), runs t s = true → securityOn s = true → (mailboxOf s n).status % 256 ≠ 1 → rd s 0x140B 0x01 ≠ 2 →
    Leads (.mailboxRandom t n) s fun u => u.answer.status = some .ok ∧ mailboxOf u n = { mailboxOf s n with command := 5, status := 1 }) ∧
  (∀ (t : Nat) (n : CoreId) (r : Except Status (List Byte)) (s s1 : State), runs t s = true → quiet s = true → mailboxServed (at_ t s) n = true → portsFree (at_ t s) = true →
    rangeBorrowed (at_ t s) (mailboxOf s n).source (mailboxOf s n).length = false → rangeBorrowed (at_ t s) (mailboxOf s n).dest (mailboxOf s n).outLength = false →
    mailboxResult (mailboxUse (at_ t s) n (mailboxOf s n)) n (mailboxOf s n) = (s1, r) →
    Leads (.mailboxComplete t n) s fun u => (∀ e, r = .error e → (mailboxOf u n).status = 3 + 256 * e.code) ∧
      ∀ b a, r = .ok b → bufferAddr (mailboxNext s1 (mailboxOf s n).command) 14 n (mailboxOf s n).dest b.length = .ok a → (mailboxOf u n).status = 2 ∧ memRead u a b.length = b) ∧
  (∀ (t : Nat) (s : State), runs t s = true → securityOn s = true → rd s 0x140B 0x01 ≠ 2 →
    Leads (.trngHealthFail t) s fun u => rd u 0x140B 0x01 = 2 ∧ rd u 0x140B 0x03 = satAdd 0xFFFF (rd s 0x140B 0x03) 1) ∧
  (∀ (src : Source) (s : State), canSet s src 0x140B 0x02 1 = true → Leads (.trngRestart src) s fun u => u.answer.status = some .ok ∧ rd u 0x140B 0x01 = 0) ∧
  (∀ (t : Nat) (ok : Bool) (s : State), runs t s = true → securityOn s = true → rd s 0x140B 0x01 = 0 →
    Leads (.trngStartupComplete t ok) s fun u => rd u 0x140B 0x01 = if ok then 1 else 2) ∧
  (∀ (src : Source) (s : State), canRead s src = true → securityOn s = true →
    Leads (.randomRead src) s fun u => (rd s 0x140B 0x01 = 2 → u.answer.status = some .state ∧ u.fresh = s.fresh) ∧
      (rd s 0x140B 0x01 ≠ 2 → u.answer.status = some .ok ∧ u.answer.bytes.length = 32 ∧ u.fresh = s.fresh + 32)) ∧
  (∀ (src : Source) (b : List Byte) (s : State), canPut s src 0x1404 0x00 b = true → domOn s 40 = true → keyType s 1 = 0 →
    Leads (.ownerInstall src b true) s fun u => u.answer.status = some .ok ∧ tabFind u.keys 1 = some { ty := 1, bytes := b }) ∧
  (∀ (src : Source) (b : List Byte) (s : State), canPut s src 0x1405 0x00 b = true → checksAtOnce s = true → domOn s 40 = true → kuCheck s b = none → kuOp b = 1 →
    Leads (.keyInstall src b true) s fun u => u.answer.status = some .ok ∧ tabGet {} u.keys (kuSlot b) = { ty := kuType b, bytes := bytesAt b 32 (kuKeyLength b) } ∧ u.nvm.keyFloor = leAt b 0x10 8 ∧ rd u 0x1406 0x31 = leAt b 0x10 8 ∧ rd u 0x1406 0x32 = 0) ∧
  (∀ (src : Source) (b : List Byte) (s : State), canPut s src 0x1405 0x00 b = true → checksAtOnce s = true → domOn s 40 = true → kuCheck s b = none → kuOp b = 2 →
    Leads (.keyErase src b true) s fun u => u.answer.status = some .ok ∧ tabGet {} u.keys (kuSlot b) = {} ∧ u.nvm.keyFloor = leAt b 0x10 8 ∧ rd u 0x1406 0x31 = leAt b 0x10 8 ∧ rd u 0x1406 0x32 = 0) ∧
  (∀ (src : Source) (b : List Byte) (s : State), canPut s src 0x1405 0x00 b = true → checksAtOnce s = true → domOn s 40 = true → kuCheck s b = none → kuOp b = 3 →
    Leads (.keyReplaceOwner src b true) s fun u => u.answer.status = some .ok ∧ tabGet {} u.keys (kuSlot b) = { ty := kuType b, bytes := bytesAt b 32 (kuKeyLength b) } ∧ u.nvm.keyFloor = leAt b 0x10 8 ∧ rd u 0x1406 0x31 = leAt b 0x10 8 ∧ rd u 0x1406 0x32 = 0) ∧
  (∀ (src : Source) (b : List Byte) (s : State), canPut s src 0x140A 0x01 b = true → rd s 0x140A 0x02 ≠ 1 → securityOn s = true →
    Leads (.attestNonce src b) s fun u => u.answer.status = some .ok ∧ rd u 0x140A 0x02 = 1 ∧ u.security.attesting = reportBody s b) ∧
  (∀ (t : Nat) (s : State), runs t s = true → quiet s = true → attestServed (at_ t s) = true →
    Leads (.attestDone t) s fun u => rd u 0x140A 0x02 = 2 ∧ ∃ r, u.security.report = s.security.attesting ++ bytesAt (Config.mldsaSign (keyBytes s 0) (sha3_512 s.security.attesting) [] r) 0 4627) ∧
  (∀ (src : Source) (b : List Byte) (k : Nat) (s : State), canPut s src 0x140C 0x01 b = true → imgAuthCheck s b b.length (rd s 0x2605 0x02) = none → checksAtOnce s = true →
    (List.range 63).find? (fun k => (tabFind s.cache k).isNone) = some k → b.length ≤ cacheFree s → domOn s 40 = true →
    Leads (.cacheInstall src b) s fun u => u.answer.status = some .ok ∧ tabFind u.cache k = some b ∧ rd u 0x140C 0x03 = 0) ∧
  (∀ (src : Source) (v : Nat) (s : State), canSet s src 0x140C 0x02 v = true → v < 256 → ¬ (loadState s = 1 ∧ rd s 0x2603 0x01 = 1 ∧ rd s 0x2603 0x03 = v) → domOn s 40 = true →
    Leads (.cacheErase src v) s fun u => u.answer.status = some .ok ∧ tabFind u.cache v = none) ∧
  (∀ (t : Nat) (tdi : List Bool) (s : State), calm t s = true → tapOn s = true →
    Leads (.tapBypass t tdi) s fun u => u.tap.instr = .bypass ∧ (domOn s 41 = true → u.answer.bytes = ((false :: tdi).take tdi.length).map (fun b => BitVec.ofNat 8 (boolNat b))) ∧ (domOn s 41 = false → u.answer.bytes = [])) ∧
  (∀ (t : Nat) (balls scan : List Bool) (s : State), calm t s = true → tapOn s = true → balls.length = 180 → scan.length = 180 →
    Leads (.tapSamplePreload t balls scan) s fun u => u.tap = { instr := .samplePreload, boundary := scan, captured := balls } ∧ (domOn s 41 = true → u.answer.bytes = balls.map (fun b => BitVec.ofNat 8 (boolNat b))) ∧
      (domOn s 41 = false → u.answer.bytes = [])) ∧
  (∀ (t : Nat) (balls scan : List Bool) (s : State), calm t s = true → tapOn s = true → balls.length = 180 → scan.length = 180 →
    Leads (.tapExtest t balls scan) s fun u => u.tap = { instr := .extest, boundary := scan, captured := balls } ∧ (domOn s 41 = true → u.answer.bytes = balls.map (fun b => BitVec.ofNat 8 (boolNat b))) ∧
      (domOn s 41 = false → u.answer.bytes = []) ∧ ∀ b, ioLevel u b = scan[boundaryPlace b]?) ∧
  (∀ (t : Nat) (s : State), calm t s = true → tapOn s = true → Leads (.tapIdcode t) s fun u => u.tap.instr = .idcode ∧ u.answer.value = if domOn s 41 then 0x16480A71 else 0) ∧
  (∀ (t : Nat) (s : State), Leads (.jtagTestLogicReset t) s fun u => u.tap = {})

/-- Writes of plain objects, trouble counters and causes; the halves of 64-bit objects; domain transfers.
A write of a plain number that is performed at once is held and answered OK; 0 clears a trouble counter; the bits written to a cause register are cleared. Through the window: a core's load of the low word of a 64-bit object answers it and captures the value; a store of the high word is held for that core and changes no object; a store of the low word writes both halves at once. A domain READ that is started copies the value of its object, and a WRITE takes the staging region; a READ that fits ends DONE with the value in its buffer, and a WRITE of a plain number that is performed at once ends DONE with the object written. Accesses that name no type carry the object's own (log entry 115); domain transfers are read as log entry 97 says, and the corners of the window as log entry 98 says. -/
def Obligations.DictionaryAccesses : Prop :=
  (∀ (src : Source) (idx sub : Nat) (v : ObjVal) (o : ObjRef) (s : State), canWrite s src idx sub v = true → Plain idx sub o →
    Leads (.objectWrite src idx sub v) s (Holds idx sub (leNat v.bytes))) ∧
  (∀ (src : Source) (idx sub : Nat) (s : State), isTrouble idx sub = true → canSet s src idx sub 0 = true → Leads (.troubleCounterClear src idx sub 0) s (Holds idx sub 0)) ∧
  (∀ (src : Source) (idx sub v : Nat) (s : State), isCause idx sub = true → canSet s src idx sub v = true →
    Leads (.eventCauseClear src idx sub v) s fun u => u.answer.status = some .ok ∧ rd u idx sub = clearBits (rd s idx sub) (leNat (numVal idx sub v).bytes)) ∧
  (∀ (n : CoreId) (idx sub : Nat) (o : ObjRef) (s : State), canRead s (.core n) = true → sub < 256 → idx < 0x7F00 → Stored idx sub o → wideType o.desc.ty = true →
    Leads (.u64LowWordRead n idx sub) s fun u => u.answer.status = some .ok ∧ u.answer.value = rd s idx sub % 2 ^ 32 ∧ halfOf u.plant.captured n (objKey idx sub) = some (rd s idx sub % 2 ^ 64)) ∧
  (∀ (n : CoreId) (idx sub v : Nat) (o : ObjRef) (s : State), quiet s = true → served (start s) (.core n) = true → sub < 256 → idx < 0x7F00 → resolveObj idx sub = .ok o → wideType o.desc.ty = true →
    Leads (.u64HighWordWrite n idx sub v) s fun u => u.answer.status = some .ok ∧ halfOf u.plant.heldHigh n (objKey idx sub) = some v ∧ u.obj = s.obj) ∧
  (∀ (n : CoreId) (idx sub v : Nat) (o : ObjRef) (s : State), sub < 256 → idx < 0x7F00 → Plain idx sub o → wideType o.desc.ty = true →
    let w := v + (halfOf s.plant.heldHigh n (objKey idx sub)).getD 0 * 2 ^ 32
    canWrite s (.core n) idx sub { ty := o.desc.ty.code, bytes := leBytes 8 w } = true →
    Leads (.u64LowWordWrite n idx sub v) s fun u => Holds idx sub (w % 2 ^ 64) u ∧ halfOf u.plant.heldHigh n (objKey idx sub) = none) ∧
  (∀ (n : CoreId) (o : ObjRef) (s : State), quiet s = true → served (start s) (.core n) = true → (domPort s n).job = none →
    let x := domPort s n
    let idx := bitsOf x.object 16 16
    let sub := bitsOf x.object 8 8
    Stored idx sub o →
    Leads (.domainTransferRead n) s fun u => u.answer.status = some .ok ∧ (domPort u n).status = 1 ∧
      (domPort u n).job = some { write := false, object := x.object, buffer := x.buffer, length := x.length, value := leBytes o.desc.ty.bytes (rd s idx sub) }) ∧
  (∀ (n : CoreId) (s : State), quiet s = true → served (start s) (.core n) = true → (domPort s n).job = none → s.plant.assembly = none → (domPort s n).length ≤ stagingSize s →
    let x := domPort s n
    Leads (.domainTransferWrite n) s fun u => u.answer.status = some .ok ∧ (domPort u n).status = 1 ∧ u.plant.assembly.isSome = true ∧
      (domPort u n).job = some { write := true, object := x.object, buffer := x.buffer, length := x.length }) ∧
  (∀ (t : Nat) (n : CoreId) (j : DomainJob) (a : Nat) (s : State), runs t s = true → quiet s = true → sourceWaits s (.transfer n) = false → (domPort s n).job = some j → j.write = false →
    rangeBorrowed (at_ t s) j.buffer j.value.length = false → portsFree (at_ t s) = true →
    Leads (.domainTransferComplete t n) s fun u => (domPort u n).job = none ∧
      (∀ e, j.failed = some e → e ≠ .ok → e ≠ .restartPending → (domPort u n).status = 3 + 256 * e.code) ∧
      (j.failed = none → j.length < j.value.length → (domPort u n).status = 3 + 256 * Status.range.code ∧ (domPort u n).count = j.value.length ∧ u.mem = s.mem) ∧
      (j.failed = none → j.value.length ≤ j.length → bufferAddr s 13 n j.buffer j.value.length = .ok a →
        (domPort u n).status = 2 ∧ (domPort u n).count = j.value.length ∧ memRead u a j.value.length = j.value)) ∧
  (∀ (t : Nat) (n : CoreId) (j : DomainJob) (a : Nat) (o : ObjRef) (s : State), runs t s = true → (domPort s n).job = some j → j.write = true →
    rangeBorrowed (at_ t s) j.buffer j.length = false → portsFree (at_ t s) = true →
    let idx := bitsOf j.object 16 16
    let sub := bitsOf j.object 8 8
    bufferAddr s 13 n j.buffer j.length = .ok a → stagingStatus (at_ t s) = none → Plain idx sub o → canPut s (.transfer n) idx sub (memRead s a j.length) = true →
    Leads (.domainTransferComplete t n) s fun u => (domPort u n).job = none ∧ (domPort u n).status = 2 ∧ rd u idx sub = leNat (memRead s a j.length) ∧ u.plant.assembly = none)

/-- FirmwareRollbackFloor moves only as R423 says.
A write to FirmwareRollbackFloor that steps 1 to 8 of R364 let through is refused with RANGE when its value is below the present floor or above the running image's rollback, and then the floor, in NVM and as read, is what it was; any other such write, with the key store's domain PD40 on, is answered OK and makes the floor the value. The store and load commands, and the end of a store, leave the floor alone. -/
def Obligations.FirmwareFloorRule : Prop :=
  (∀ (src : Source) (v : Nat) (s : State), canSet s src 0x1401 1 v = true → v < 2 ^ 32 →
    ((v < s.nvm.firmwareFloor ∨ rd s 0x1401 2 < v) →
      Leads (.firmwareRollbackFloorWrite src v) s fun u => u.answer.status = some .range ∧ u.nvm.firmwareFloor = s.nvm.firmwareFloor ∧ rd u 0x1401 1 = rd s 0x1401 1) ∧
    (s.nvm.firmwareFloor ≤ v → v ≤ rd s 0x1401 2 → domOn s 40 = true →
      Leads (.firmwareRollbackFloorWrite src v) s fun u => u.answer.status = some .ok ∧ u.nvm.firmwareFloor = v ∧ rd u 0x1401 1 = v)) ∧
  (∀ (src : Source) (s : State), canSet s src 0x1100 1 0x65766173 = true →
    Leads (.storeParameters src) s fun u => u.nvm.firmwareFloor = s.nvm.firmwareFloor ∧ rd u 0x1401 1 = rd s 0x1401 1) ∧
  (∀ (src : Source) (s : State), canSet s src 0x1101 1 0x64616F6C = true →
    Leads (.restoreDefaults src) s fun u => u.nvm.firmwareFloor = s.nvm.firmwareFloor ∧ rd u 0x1401 1 = rd s 0x1401 1) ∧
  (∀ (t : Nat) (ok : Bool) (s : State), Leads (.storeComplete t ok) s fun u => u.nvm.firmwareFloor = s.nvm.firmwareFloor ∧ rd u 0x1401 1 = rd s 0x1401 1)

/-- An offer not accepted in time is withdrawn.
While the clocks run, of an offer to a core that is still open when DispatchTimeout NCLK have passed since it was made, DISPATCH_TIMEOUT withdraws it, counts it, sets its cause, and leaves the core as eligible as it was; before that time it changes nothing but the time. -/
def Obligations.DispatchTimeoutRule : Prop :=
  ∀ (t : Nat) (n : CoreId) (o : Offer) (s : State), runs t s = true → offerOf s n = some o →
    (o.since + rd s 0x1600 6 ≤ nclk (at_ t s) →
      Leads (.dispatchTimeout t n) s fun u => offerOf u n = none ∧ rd u 0x1600 9 = satAdd 0xFFFF (rd s 0x1600 9) 1 ∧ bitOf (rd u 0x1600 8) 0 = true ∧ eligible u n = eligible s n) ∧
    (nclk (at_ t s) < o.since + rd s 0x1600 6 → Leads (.dispatchTimeout t n) s fun u => u = at_ t s)

/-- What the events named here leave unchanged: the parts of the state.
What the print path has in hand at an event's time takes effect first, and may change only the parts named for it; where it has nothing due, only the time and the answer change. From there on the state after each event named here is that state with only the parts named for it changed: every other part is what it was, the dictionary registers and memory included where they are not named. The events that can end a wait are stated for states in which nothing waits, and those that can be a wake source for times at which the clocks run. The other commands, such as the writes of objects and what resets or powers the engine, have no clause here. -/
def Obligations.EventsKeepOtherParts : Prop :=
  (∀ (t : Nat) (s : State), calm t s = true → arrive t s = at_ t s) ∧
  (∀ (t : Nat) (s : State), let u := arrive t s
    u = { s with now := u.now, answer := u.answer, obj := u.obj, stamps := u.stamps, mem := u.mem, fresh := u.fresh, events := u.events, coalesced := u.coalesced, lanes := u.lanes, print := u.print, serial := u.serial, pair := u.pair, sched := u.sched, noc := u.noc }) ∧
  (∀ (t : Nat) (f : FieldId) (c : CellId) (s u : State), exec (.cellFire t f c) s = .next u →
    u = { arrive t s with obj := u.obj, fresh := u.fresh, events := u.events, coalesced := u.coalesced, arr := u.arr, sched := u.sched }) ∧
  (∀ (t : Nat) (f : FieldId) (c : CellId) (k : Nat) (s u : State), exec (.operationComplete t f c k) s = .next u →
    u = { arrive t s with arr := u.arr }) ∧
  (∀ (t : Nat) (f : FieldId) (c : CellId) (s u : State), exec (.resultDelivery t f c) s = .next u →
    u = { arrive t s with obj := u.obj, fresh := u.fresh, events := u.events, coalesced := u.coalesced, arr := u.arr, sched := u.sched }) ∧
  (∀ (t : Nat) (f : FieldId) (c : CellId) (slot : Fin 8) (k : Fin 8) (v : Nat) (s u : State), exec (.configRegisterWrite t f c slot k v) s = .next u →
    u = { arrive t s with answer := u.answer, obj := u.obj, arr := u.arr }) ∧
  (∀ (t : Nat) (f : FieldId) (j : Fin 256) (v : Nat) (s u : State), exec (.lutEntryWrite t f j v) s = .next u →
    u = { arrive t s with answer := u.answer, obj := u.obj, arr := u.arr }) ∧
  (∀ (t : Nat) (f : FieldId) (j : Fin 8704) (v : Nat) (s u : State), exec (.capoStateWrite t f j v) s = .next u →
    u = { arrive t s with answer := u.answer, obj := u.obj, arr := u.arr }) ∧
  (∀ (t : Nat) (f : FieldId) (furrow : Furrow) (west : Bool) (s u : State), exec (.bypassStageTransfer t f furrow west) s = .next u →
    u = { arrive t s with obj := u.obj, fresh := u.fresh, events := u.events, coalesced := u.coalesced, arr := u.arr, sched := u.sched }) ∧
  (∀ (t : Nat) (f : FieldId) (d : DrillId) (s u : State), exec (.drillReadItem t f d) s = .next u →
    u = { arrive t s with obj := u.obj, fresh := u.fresh, events := u.events, coalesced := u.coalesced, arr := u.arr, sched := u.sched }) ∧
  (∀ (t : Nat) (f : FieldId) (d : DrillId) (s u : State), exec (.drillWriteAccept t f d) s = .next u →
    u = { arrive t s with obj := u.obj, fresh := u.fresh, events := u.events, coalesced := u.coalesced, arr := u.arr, sched := u.sched }) ∧
  (∀ (t : Nat) (f : FieldId) (d : DrillId) (s u : State), exec (.drillWriteStore t f d) s = .next u →
    u = { arrive t s with mem := u.mem, arr := u.arr }) ∧
  (∀ (t : Nat) (f : FieldId) (off : Nat) (size : Nat) (write : Bool) (v : Nat) (s u : State), exec (.fieldMemoryNetworkAccess t f off size write v) s = .next u →
    u = { arrive t s with answer := u.answer, mem := u.mem, arr := u.arr }) ∧
  (∀ (t : Nat) (s u : State), exec (.tuningLoadCopyDone t) s = .next u →
    u = { arrive t s with obj := u.obj, stamps := u.stamps, mem := u.mem, fresh := u.fresh, events := u.events, coalesced := u.coalesced, arr := u.arr, sched := u.sched, noc := u.noc, security := u.security }) ∧
  (∀ (t : Nat) (s u : State), exec (.tuningLoadComplete t) s = .next u →
    u = { arrive t s with obj := u.obj, stamps := u.stamps, fresh := u.fresh, events := u.events, coalesced := u.coalesced, arr := u.arr, sched := u.sched, noc := u.noc }) ∧
  (∀ (t : Nat) (f : FieldId) (s u : State), exec (.retuneCueToken t f) s = .next u →
    u = { arrive t s with obj := u.obj, fresh := u.fresh, events := u.events, coalesced := u.coalesced, arr := u.arr, queues := u.queues, sched := u.sched }) ∧
  (∀ (t : Nat) (f : FieldId) (s u : State), exec (.drainSwitch t f) s = .next u →
    u = { arrive t s with obj := u.obj, fresh := u.fresh, events := u.events, coalesced := u.coalesced, arr := u.arr, sched := u.sched }) ∧
  (∀ (t : Nat) (f : FieldId) (s u : State), exec (.retuneLimitExpiry t f) s = .next u →
    u = { arrive t s with obj := u.obj, fresh := u.fresh, events := u.events, coalesced := u.coalesced, arr := u.arr, sched := u.sched }) ∧
  (∀ (t : Nat) (s u : State), exec (.capoBoundary t) s = .next u →
    u = { arrive t s with obj := u.obj, arr := u.arr }) ∧
  (∀ (t : Nat) (q : QueueId) (n : CoreId) (v : Nat) (s u : State), exec (.queueItemWrite t q n v) s = .next u →
    u = { arrive t s with answer := u.answer, obj := u.obj, fresh := u.fresh, events := u.events, coalesced := u.coalesced, queues := u.queues, sched := u.sched }) ∧
  (∀ (t : Nat) (q : QueueId) (n : CoreId) (v : Nat) (s u : State), exec (.queueItemEndWrite t q n v) s = .next u →
    u = { arrive t s with answer := u.answer, obj := u.obj, fresh := u.fresh, events := u.events, coalesced := u.coalesced, queues := u.queues, sched := u.sched }) ∧
  (∀ (t : Nat) (q : QueueId) (n : CoreId) (s u : State), exec (.queuePop t q n) s = .next u →
    u = { arrive t s with answer := u.answer, obj := u.obj, queues := u.queues }) ∧
  (∀ (t : Nat) (q : QueueId) (n : CoreId) (s u : State), exec (.queuePeek t q n) s = .next u →
    u = { arrive t s with answer := u.answer, obj := u.obj, queues := u.queues }) ∧
  (∀ (t : Nat) (q : QueueId) (s u : State), exec (.edgePortInputToken t q) s = .next u →
    u = { arrive t s with obj := u.obj, fresh := u.fresh, events := u.events, coalesced := u.coalesced, arr := u.arr, queues := u.queues, print := u.print, sched := u.sched }) ∧
  (∀ (t : Nat) (p : Fin 32) (s u : State), exec (.edgePortOutputToken t p) s = .next u →
    u = { arrive t s with obj := u.obj, fresh := u.fresh, events := u.events, coalesced := u.coalesced, arr := u.arr, queues := u.queues, sched := u.sched }) ∧
  (∀ (t : Nat) (q : QueueId) (s u : State), exec (.dmaInputRecord t q) s = .next u →
    u = { arrive t s with obj := u.obj, fresh := u.fresh, events := u.events, coalesced := u.coalesced, queues := u.queues, sched := u.sched, noc := u.noc }) ∧
  (∀ (t : Nat) (q : QueueId) (s u : State), exec (.dmaOutputRecord t q) s = .next u →
    u = { arrive t s with obj := u.obj, mem := u.mem, fresh := u.fresh, events := u.events, coalesced := u.coalesced, queues := u.queues, sched := u.sched, noc := u.noc }) ∧
  (∀ (t : Nat) (q : QueueId) (s u : State), exec (.spillWrite t q) s = .next u →
    u = { arrive t s with obj := u.obj, queues := u.queues, noc := u.noc }) ∧
  (∀ (t : Nat) (q : QueueId) (s u : State), exec (.spillRead t q) s = .next u →
    u = { arrive t s with obj := u.obj, queues := u.queues, noc := u.noc }) ∧
  (∀ (t : Nat) (q : QueueId) (s u : State), exec (.flushComplete t q) s = .next u →
    u = { arrive t s with obj := u.obj, fresh := u.fresh, events := u.events, coalesced := u.coalesced, queues := u.queues, print := u.print, sched := u.sched }) ∧
  (∀ (t : Nat) (q : QueueId) (s u : State), exec (.stagedRegionApply t q) s = .next u →
    u = { arrive t s with obj := u.obj, fresh := u.fresh, events := u.events, coalesced := u.coalesced, queues := u.queues, print := u.print, sched := u.sched }) ∧
  (∀ (t : Nat) (q : QueueId) (s u : State), exec (.queueStartComplete t q) s = .next u →
    u = { arrive t s with obj := u.obj, stamps := u.stamps, fresh := u.fresh, events := u.events, coalesced := u.coalesced, arr := u.arr, queues := u.queues, sched := u.sched, noc := u.noc }) ∧
  (∀ (t : Nat) (q : QueueId) (s u : State), exec (.queueStopComplete t q) s = .next u →
    u = { arrive t s with obj := u.obj, stamps := u.stamps, fresh := u.fresh, events := u.events, coalesced := u.coalesced, queues := u.queues, sched := u.sched }) ∧
  (∀ (t : Nat) (e : EncId) (a : Bool) (b : Bool) (s u : State), exec (.quadratureCount t e a b) s = .next u →
    u = { arrive t s with obj := u.obj, fresh := u.fresh, events := u.events, coalesced := u.coalesced, print := u.print, sched := u.sched }) ∧
  (∀ (t : Nat) (e : EncId) (s u : State), exec (.encoderStartComplete t e) s = .next u →
    u = { arrive t s with obj := u.obj, stamps := u.stamps, fresh := u.fresh, events := u.events, coalesced := u.coalesced, print := u.print, sched := u.sched }) ∧
  (∀ (t : Nat) (e : EncId) (s u : State), exec (.encoderStopComplete t e) s = .next u →
    u = { arrive t s with obj := u.obj, stamps := u.stamps, fresh := u.fresh, events := u.events, coalesced := u.coalesced, print := u.print, sched := u.sched }) ∧
  (∀ (t : Nat) (e : EncId) (s u : State), exec (.handoffToAon t e) s = .next u →
    u = { arrive t s with obj := u.obj, fresh := u.fresh, events := u.events, coalesced := u.coalesced, print := u.print, sched := u.sched }) ∧
  (∀ (t : Nat) (e : EncId) (a : Bool) (b : Bool) (s u : State), exec (.aonCount t e a b) s = .next u →
    u = { arrive t s with obj := u.obj, fresh := u.fresh, events := u.events, coalesced := u.coalesced, print := u.print, sched := u.sched }) ∧
  (∀ (t : Nat) (e : EncId) (s u : State), exec (.handoffFromAon t e) s = .next u →
    u = { arrive t s with obj := u.obj, fresh := u.fresh, events := u.events, coalesced := u.coalesced, print := u.print, sched := u.sched }) ∧
  (∀ (t : Nat) (id : Nat) (s u : State), exec (.productRetire t id) s = .next u →
    u = { arrive t s with answer := u.answer, obj := u.obj, stamps := u.stamps, fresh := u.fresh, events := u.events, coalesced := u.coalesced, lanes := u.lanes, print := u.print, serial := u.serial, pair := u.pair, sched := u.sched }) ∧
  (∀ (t : Nat) (b : BarId) (s u : State), exec (.activeCopySwitch t b) s = .next u →
    u = { arrive t s with answer := u.answer, obj := u.obj, mem := u.mem, fresh := u.fresh, events := u.events, coalesced := u.coalesced, lanes := u.lanes, print := u.print, pair := u.pair, sched := u.sched }) ∧
  (∀ (t : Nat) (b : BarId) (s u : State), exec (.formatterWord t b) s = .next u →
    u = { arrive t s with obj := u.obj, fresh := u.fresh, events := u.events, coalesced := u.coalesced, queues := u.queues, print := u.print, sched := u.sched }) ∧
  (∀ (t : Nat) (b : BarId) (s u : State), exec (.fireFrameLaunch t b) s = .next u →
    u = { arrive t s with answer := u.answer, obj := u.obj, stamps := u.stamps, fresh := u.fresh, events := u.events, coalesced := u.coalesced, lanes := u.lanes, print := u.print, pair := u.pair, sched := u.sched }) ∧
  (∀ (t : Nat) (b : BarId) (s u : State), exec (.barStartComplete t b) s = .next u →
    u = { arrive t s with obj := u.obj, stamps := u.stamps, fresh := u.fresh, events := u.events, coalesced := u.coalesced, print := u.print, sched := u.sched }) ∧
  (∀ (t : Nat) (b : BarId) (s u : State), exec (.barStopComplete t b) s = .next u →
    u = { arrive t s with obj := u.obj, stamps := u.stamps, fresh := u.fresh, events := u.events, coalesced := u.coalesced, print := u.print, sched := u.sched }) ∧
  (∀ (t : Nat) (unit : Fin 30) (hdr : Nat) (p : List Byte) (crcOk : Bool) (s u : State), exec (.mgmtReply t unit hdr p crcOk) s = .next u →
    u = { arrive t s with answer := u.answer, obj := u.obj, blobs := u.blobs, stamps := u.stamps, mem := u.mem, fresh := u.fresh, events := u.events, coalesced := u.coalesced, queues := u.queues, lanes := u.lanes, print := u.print, serial := u.serial, pair := u.pair, sched := u.sched, noc := u.noc, faultL := u.faultL }) ∧
  (∀ (t : Nat) (unit : Fin 30) (s u : State), exec (.mgmtTimeout t unit) s = .next u →
    u = { arrive t s with obj := u.obj }) ∧
  (∀ (t : Nat) (b : BarId) (hdr : Nat) (p : List Byte) (crcOk : Bool) (s u : State), exec (.headStatus t b hdr p crcOk) s = .next u →
    u = { arrive t s with answer := u.answer, obj := u.obj, blobs := u.blobs, stamps := u.stamps, mem := u.mem, fresh := u.fresh, events := u.events, coalesced := u.coalesced, lanes := u.lanes, print := u.print, serial := u.serial, pair := u.pair, sched := u.sched, faultL := u.faultL }) ∧
  (∀ (t : Nat) (b : BarId) (hdr : Nat) (p : List Byte) (crcOk : Bool) (s u : State), exec (.nozzleReport t b hdr p crcOk) s = .next u →
    u = { arrive t s with answer := u.answer, obj := u.obj, blobs := u.blobs, stamps := u.stamps, mem := u.mem, fresh := u.fresh, events := u.events, coalesced := u.coalesced, lanes := u.lanes, print := u.print, serial := u.serial, pair := u.pair, sched := u.sched, faultL := u.faultL }) ∧
  (∀ (t : Nat) (b : BarId) (s u : State), exec (.headSilent t b) s = .next u →
    u = { arrive t s with obj := u.obj, fresh := u.fresh, events := u.events, coalesced := u.coalesced, print := u.print, sched := u.sched }) ∧
  (∀ (t : Nat) (j : GateId) (s u : State), exec (.rejectDecision t j) s = .next u →
    u = { arrive t s with answer := u.answer, obj := u.obj, stamps := u.stamps, fresh := u.fresh, events := u.events, coalesced := u.coalesced, lanes := u.lanes, print := u.print, pair := u.pair, sched := u.sched }) ∧
  (∀ (t : Nat) (j : GateId) (s u : State), exec (.rejectPulseEnd t j) s = .next u →
    u = { arrive t s with obj := u.obj, fresh := u.fresh, events := u.events, coalesced := u.coalesced, print := u.print, sched := u.sched }) ∧
  (∀ (t : Nat) (k : CamId) (odd : Bool) (hdr : Nat) (p : List Byte) (crcOk : Bool) (s u : State), exec (.imageLine t k odd hdr p crcOk) s = .next u →
    u = { arrive t s with obj := u.obj, blobs := u.blobs, mem := u.mem, fresh := u.fresh, events := u.events, coalesced := u.coalesced, queues := u.queues, print := u.print, sched := u.sched, noc := u.noc }) ∧
  (∀ (t : Nat) (k : CamId) (s u : State), exec (.lineLostTimeout t k) s = .next u →
    u = { arrive t s with obj := u.obj, fresh := u.fresh, events := u.events, coalesced := u.coalesced, queues := u.queues, print := u.print, sched := u.sched }) ∧
  (∀ (t : Nat) (k : CamId) (hdr : Nat) (p : List Byte) (crcOk : Bool) (s u : State), exec (.bridgeStatus t k hdr p crcOk) s = .next u →
    u = { arrive t s with obj := u.obj, blobs := u.blobs, mem := u.mem, fresh := u.fresh, events := u.events, coalesced := u.coalesced, queues := u.queues, print := u.print, sched := u.sched, noc := u.noc }) ∧
  (∀ (t : Nat) (k : CamId) (s u : State), exec (.bridgeSilent t k) s = .next u →
    u = { arrive t s with obj := u.obj, fresh := u.fresh, events := u.events, coalesced := u.coalesced, print := u.print, sched := u.sched }) ∧
  (∀ (t : Nat) (k : CamId) (s u : State), exec (.cameraStartComplete t k) s = .next u →
    u = { arrive t s with answer := u.answer, obj := u.obj, stamps := u.stamps, fresh := u.fresh, events := u.events, coalesced := u.coalesced, lanes := u.lanes, print := u.print, pair := u.pair, sched := u.sched }) ∧
  (∀ (t : Nat) (k : CamId) (s u : State), exec (.cameraStopComplete t k) s = .next u →
    u = { arrive t s with obj := u.obj, stamps := u.stamps, fresh := u.fresh, events := u.events, coalesced := u.coalesced, print := u.print, sched := u.sched }) ∧
  (∀ (t : Nat) (s u : State), exec (.archiveRecord t) s = .next u →
    u = { arrive t s with obj := u.obj, mem := u.mem, fresh := u.fresh, events := u.events, coalesced := u.coalesced, print := u.print, sched := u.sched, noc := u.noc }) ∧
  (∀ (t : Nat) (n : CoreId) (s u : State), exec (.baseInstruction t n) s = .next u →
    u = { arrive t s with now := u.now, obj := u.obj, stamps := u.stamps, mem := u.mem, fresh := u.fresh, events := u.events, coalesced := u.coalesced, sched := u.sched, cores := u.cores, noc := u.noc }) ∧
  (∀ (t : Nat) (n : CoreId) (s u : State), exec (.callw t n) s = .next u →
    u = { arrive t s with now := u.now, obj := u.obj, stamps := u.stamps, fresh := u.fresh, events := u.events, coalesced := u.coalesced, sched := u.sched, cores := u.cores }) ∧
  (∀ (t : Nat) (n : CoreId) (s u : State), exec (.callwr t n) s = .next u →
    u = { arrive t s with now := u.now, obj := u.obj, stamps := u.stamps, fresh := u.fresh, events := u.events, coalesced := u.coalesced, sched := u.sched, cores := u.cores }) ∧
  (∀ (t : Nat) (n : CoreId) (s u : State), exec (.retw t n) s = .next u →
    u = { arrive t s with now := u.now, obj := u.obj, stamps := u.stamps, fresh := u.fresh, events := u.events, coalesced := u.coalesced, sched := u.sched, cores := u.cores }) ∧
  (∀ (t : Nat) (n : CoreId) (regs : Nat) (s u : State), exec (.smm t n regs) s = .next u →
    u = { arrive t s with now := u.now, obj := u.obj, stamps := u.stamps, mem := u.mem, fresh := u.fresh, events := u.events, coalesced := u.coalesced, sched := u.sched, cores := u.cores, noc := u.noc }) ∧
  (∀ (t : Nat) (n : CoreId) (regs : Nat) (s u : State), exec (.smmO t n regs) s = .next u →
    u = { arrive t s with now := u.now, obj := u.obj, stamps := u.stamps, mem := u.mem, fresh := u.fresh, events := u.events, coalesced := u.coalesced, sched := u.sched, cores := u.cores, noc := u.noc }) ∧
  (∀ (t : Nat) (n : CoreId) (regs : Nat) (s u : State), exec (.lmm t n regs) s = .next u →
    u = { arrive t s with now := u.now, obj := u.obj, stamps := u.stamps, mem := u.mem, fresh := u.fresh, events := u.events, coalesced := u.coalesced, sched := u.sched, cores := u.cores, noc := u.noc }) ∧
  (∀ (t : Nat) (n : CoreId) (regs : Nat) (s u : State), exec (.lmmO t n regs) s = .next u →
    u = { arrive t s with now := u.now, obj := u.obj, stamps := u.stamps, mem := u.mem, fresh := u.fresh, events := u.events, coalesced := u.coalesced, sched := u.sched, cores := u.cores, noc := u.noc }) ∧
  (∀ (t : Nat) (n : CoreId) (s u : State), exec (.spillw t n) s = .next u →
    u = { arrive t s with now := u.now, obj := u.obj, stamps := u.stamps, mem := u.mem, fresh := u.fresh, events := u.events, coalesced := u.coalesced, sched := u.sched, cores := u.cores, noc := u.noc }) ∧
  (∀ (t : Nat) (n : CoreId) (s u : State), exec (.fillw t n) s = .next u →
    u = { arrive t s with now := u.now, obj := u.obj, stamps := u.stamps, mem := u.mem, fresh := u.fresh, events := u.events, coalesced := u.coalesced, sched := u.sched, cores := u.cores, noc := u.noc }) ∧
  (∀ (t : Nat) (n : CoreId) (s u : State), exec (.rep t n) s = .next u →
    u = { arrive t s with now := u.now, obj := u.obj, stamps := u.stamps, fresh := u.fresh, events := u.events, coalesced := u.coalesced, sched := u.sched, cores := u.cores }) ∧
  (∀ (t : Nat) (n : CoreId) (s u : State), exec (.repr t n) s = .next u →
    u = { arrive t s with now := u.now, obj := u.obj, stamps := u.stamps, fresh := u.fresh, events := u.events, coalesced := u.coalesced, sched := u.sched, cores := u.cores }) ∧
  (∀ (t : Nat) (n : CoreId) (s u : State), exec (.loop t n) s = .next u →
    u = { arrive t s with now := u.now, obj := u.obj, stamps := u.stamps, fresh := u.fresh, events := u.events, coalesced := u.coalesced, sched := u.sched, cores := u.cores }) ∧
  (∀ (t : Nat) (n : CoreId) (s u : State), exec (.fmac t n) s = .next u →
    u = { arrive t s with now := u.now, obj := u.obj, stamps := u.stamps, fresh := u.fresh, events := u.events, coalesced := u.coalesced, sched := u.sched, cores := u.cores }) ∧
  (∀ (t : Nat) (n : CoreId) (s u : State), exec (.fmsc t n) s = .next u →
    u = { arrive t s with now := u.now, obj := u.obj, stamps := u.stamps, fresh := u.fresh, events := u.events, coalesced := u.coalesced, sched := u.sched, cores := u.cores }) ∧
  (∀ (t : Nat) (n : CoreId) (s u : State), exec (.fmula t n) s = .next u →
    u = { arrive t s with now := u.now, obj := u.obj, stamps := u.stamps, fresh := u.fresh, events := u.events, coalesced := u.coalesced, sched := u.sched, cores := u.cores }) ∧
  (∀ (t : Nat) (n : CoreId) (s u : State), exec (.fmacf t n) s = .next u →
    u = { arrive t s with now := u.now, obj := u.obj, stamps := u.stamps, fresh := u.fresh, events := u.events, coalesced := u.coalesced, sched := u.sched, cores := u.cores }) ∧
  (∀ (t : Nat) (n : CoreId) (s u : State), exec (.fmscf t n) s = .next u →
    u = { arrive t s with now := u.now, obj := u.obj, stamps := u.stamps, fresh := u.fresh, events := u.events, coalesced := u.coalesced, sched := u.sched, cores := u.cores }) ∧
  (∀ (t : Nat) (n : CoreId) (s u : State), exec (.xld t n) s = .next u →
    u = { arrive t s with now := u.now, obj := u.obj, stamps := u.stamps, fresh := u.fresh, events := u.events, coalesced := u.coalesced, sched := u.sched, cores := u.cores }) ∧
  (∀ (t : Nat) (n : CoreId) (s u : State), exec (.yld t n) s = .next u →
    u = { arrive t s with now := u.now, obj := u.obj, stamps := u.stamps, fresh := u.fresh, events := u.events, coalesced := u.coalesced, sched := u.sched, cores := u.cores }) ∧
  (∀ (t : Nat) (n : CoreId) (s u : State), exec (.xst t n) s = .next u →
    u = { arrive t s with now := u.now, obj := u.obj, stamps := u.stamps, mem := u.mem, fresh := u.fresh, events := u.events, coalesced := u.coalesced, sched := u.sched, cores := u.cores }) ∧
  (∀ (t : Nat) (n : CoreId) (s u : State), exec (.yst t n) s = .next u →
    u = { arrive t s with now := u.now, obj := u.obj, stamps := u.stamps, mem := u.mem, fresh := u.fresh, events := u.events, coalesced := u.coalesced, sched := u.sched, cores := u.cores }) ∧
  (∀ (t : Nat) (n : CoreId) (s u : State), exec (.fmvaf t n) s = .next u →
    u = { arrive t s with now := u.now, obj := u.obj, stamps := u.stamps, fresh := u.fresh, events := u.events, coalesced := u.coalesced, sched := u.sched, cores := u.cores }) ∧
  (∀ (t : Nat) (n : CoreId) (s u : State), exec (.fmvfa t n) s = .next u →
    u = { arrive t s with now := u.now, obj := u.obj, stamps := u.stamps, fresh := u.fresh, events := u.events, coalesced := u.coalesced, sched := u.sched, cores := u.cores }) ∧
  (∀ (t : Nat) (n : CoreId) (s u : State), exec (.accz t n) s = .next u →
    u = { arrive t s with now := u.now, obj := u.obj, stamps := u.stamps, fresh := u.fresh, events := u.events, coalesced := u.coalesced, sched := u.sched, cores := u.cores }) ∧
  (∀ (t : Nat) (n : CoreId) (s u : State), exec (.accsum t n) s = .next u →
    u = { arrive t s with now := u.now, obj := u.obj, stamps := u.stamps, fresh := u.fresh, events := u.events, coalesced := u.coalesced, sched := u.sched, cores := u.cores }) ∧
  (∀ (t : Nat) (n : CoreId) (s u : State), exec (.accumulatorWrite t n) s = .next u →
    u = { arrive t s with cores := u.cores }) ∧
  (∀ (t : Nat) (n : CoreId) (s u : State), exec (.mret t n) s = .next u →
    u = { arrive t s with now := u.now, obj := u.obj, stamps := u.stamps, fresh := u.fresh, events := u.events, coalesced := u.coalesced, sched := u.sched, cores := u.cores }) ∧
  (∀ (t : Nat) (n : CoreId) (s u : State), exec (.interrupt t n) s = .next u →
    u = { arrive t s with now := u.now, cores := u.cores }) ∧
  (∀ (t : Nat) (n : CoreId) (s u : State), exec (.coreHalted t n) s = .next u →
    u = { arrive t s with obj := u.obj, stamps := u.stamps, fresh := u.fresh, events := u.events, coalesced := u.coalesced, sched := u.sched, cores := u.cores }) ∧
  (∀ (t : Nat) (s u : State), exec (.eventGrant t) s = .next u →
    u = { arrive t s with answer := u.answer, obj := u.obj, fresh := u.fresh, events := u.events, coalesced := u.coalesced, sched := u.sched }) ∧
  (∀ (t : Nat) (s u : State), exec (.taskOffer t) s = .next u →
    u = { arrive t s with obj := u.obj, fresh := u.fresh, events := u.events, coalesced := u.coalesced, sched := u.sched }) ∧
  (∀ (t : Nat) (n : CoreId) (s u : State), exec (.dispatchTimeout t n) s = .next u →
    u = { arrive t s with obj := u.obj, fresh := u.fresh, events := u.events, coalesced := u.coalesced, sched := u.sched }) ∧
  (∀ (t : Nat) (list : Fin 5) (s u : State), exec (.delayDue t list) s = .next u →
    u = { arrive t s with obj := u.obj, fresh := u.fresh, events := u.events, coalesced := u.coalesced, sched := u.sched }) ∧
  (∀ (t : Nat) (s u : State), exec (.tick t) s = .next u →
    u = { arrive t s with obj := u.obj, stamps := u.stamps }) ∧
  (∀ (t : Nat) (i : TimerId) (s u : State), exec (.intervalTimerDue t i) s = .next u →
    u = { arrive t s with obj := u.obj, fresh := u.fresh, events := u.events, coalesced := u.coalesced, sched := u.sched }) ∧
  (∀ (t : Nat) (b : Fin 32) (s u : State), exec (.bankAccessGrant t b) s = .next u →
    u = { arrive t s with obj := u.obj, mem := u.mem, fresh := u.fresh, events := u.events, coalesced := u.coalesced, queues := u.queues, print := u.print, sched := u.sched, noc := u.noc }) ∧
  (∀ (t : Nat) (faults : List (Nat × List Byte)) (s u : State), exec (.harrowBorrow t faults) s = .next u →
    u = { arrive t s with obj := u.obj, blobs := u.blobs, fresh := u.fresh, events := u.events, coalesced := u.coalesced, sched := u.sched, noc := u.noc }) ∧
  (∀ (t : Nat) (s u : State), exec (.harrowRestoreComplete t) s = .next u →
    u = { arrive t s with obj := u.obj, fresh := u.fresh, events := u.events, coalesced := u.coalesced, sched := u.sched, noc := u.noc }) ∧
  (∀ (t : Nat) (i : LpId) (s u : State), exec (.lpddrInitDone t i) s = .next u →
    u = { arrive t s with obj := u.obj, stamps := u.stamps }) ∧
  (∀ (t : Nat) (i : LpId) (failStep : Fin 16) (s u : State), exec (.lpddrTrainingDone t i failStep) s = .next u →
    u = { arrive t s with obj := u.obj, stamps := u.stamps, fresh := u.fresh, events := u.events, coalesced := u.coalesced, sched := u.sched }) ∧
  (∀ (t : Nat) (i : LpId) (code : Nat) (s u : State), exec (.lpddrMr4Read t i code) s = .next u →
    u = { arrive t s with obj := u.obj, fresh := u.fresh, events := u.events, coalesced := u.coalesced, sched := u.sched, noc := u.noc }) ∧
  (∀ (t : Nat) (i : LpId) (s u : State), exec (.lpddrZqLatch t i) s = .next u →
    u = { arrive t s with noc := u.noc }) ∧
  (∀ (t : Nat) (i : LpId) (s u : State), exec (.lpddrWck2dqTracking t i) s = .next u →
    u = { arrive t s with noc := u.noc }) ∧
  (∀ (t : Nat) (i : LpId) (s u : State), exec (.lpddrRefresh t i) s = .next u →
    u = { arrive t s with noc := u.noc }) ∧
  (∀ (t : Nat) (history : Option (CamId × Nat)) (s u : State), exec (.lpddrWriteRefused t history) s = .next u →
    u = { arrive t s with obj := u.obj, mem := u.mem, fresh := u.fresh, events := u.events, coalesced := u.coalesced, print := u.print, sched := u.sched }) ∧
  (∀ (t : Nat) (ni : NiId) (addr : Nat) (size : Nat) (write : Bool) (v : Nat) (s u : State), exec (.networkRequest t ni addr size write v) s = .next u →
    u = { arrive t s with now := u.now, answer := u.answer, obj := u.obj, stamps := u.stamps, fresh := u.fresh, events := u.events, coalesced := u.coalesced, sched := u.sched, cores := u.cores, noc := u.noc }) ∧
  (∀ (t : Nat) (ni : NiId) (tag : Nat) (s u : State), exec (.portStallTimeout t ni tag) s = .next u →
    u = { arrive t s with now := u.now, answer := u.answer, obj := u.obj, stamps := u.stamps, fresh := u.fresh, events := u.events, coalesced := u.coalesced, arr := u.arr, sched := u.sched, cores := u.cores, noc := u.noc }) ∧
  (∀ (t : Nat) (ni : NiId) (s u : State), exec (.niTableSwap t ni) s = .next u →
    u = { arrive t s with obj := u.obj, fresh := u.fresh, events := u.events, coalesced := u.coalesced, sched := u.sched, noc := u.noc }) ∧
  (∀ (t : Nat) (s u : State), exec (.routerReconfigApply t) s = .next u →
    u = { arrive t s with obj := u.obj, fresh := u.fresh, events := u.events, coalesced := u.coalesced, sched := u.sched, noc := u.noc }) ∧
  (∀ (t : Nat) (n : LaneId) (s u : State), exec (.lanePllLock t n) s = .next u →
    u = { arrive t s with obj := u.obj, stamps := u.stamps, lanes := u.lanes }) ∧
  (∀ (t : Nat) (n : LaneId) (s u : State), exec (.laneDataEntry t n) s = .next u →
    u = { arrive t s with answer := u.answer, obj := u.obj, stamps := u.stamps, fresh := u.fresh, events := u.events, coalesced := u.coalesced, lanes := u.lanes, sched := u.sched }) ∧
  (∀ (t : Nat) (n : LaneId) (inFrame : Bool) (s u : State), exec (.laneLinkDrop t n inFrame) s = .next u →
    u = { arrive t s with answer := u.answer, obj := u.obj, stamps := u.stamps, fresh := u.fresh, events := u.events, coalesced := u.coalesced, lanes := u.lanes, sched := u.sched }) ∧
  (∀ (t : Nat) (n : LaneId) (ready : Bool) (s u : State), exec (.laneStatusSet t n ready) s = .next u →
    u = { arrive t s with answer := u.answer, obj := u.obj, stamps := u.stamps, fresh := u.fresh, events := u.events, coalesced := u.coalesced, lanes := u.lanes, sched := u.sched }) ∧
  (∀ (t : Nat) (n : LaneId) (ready : Bool) (s u : State), exec (.laneStatusSend t n ready) s = .next u →
    u = { arrive t s with answer := u.answer, lanes := u.lanes }) ∧
  (∀ (t : Nat) (n : LaneId) (s u : State), exec (.laneStatusSilence t n) s = .next u →
    u = { arrive t s with answer := u.answer, obj := u.obj, stamps := u.stamps, fresh := u.fresh, events := u.events, coalesced := u.coalesced, lanes := u.lanes, sched := u.sched }) ∧
  (∀ (t : Nat) (n : LaneId) (s u : State), exec (.acquireTimeout t n) s = .next u →
    u = { arrive t s with obj := u.obj, stamps := u.stamps, fresh := u.fresh, events := u.events, coalesced := u.coalesced, lanes := u.lanes, sched := u.sched }) ∧
  (∀ (t : Nat) (n : LaneId) (s u : State), exec (.laneStopComplete t n) s = .next u →
    u = { arrive t s with obj := u.obj, stamps := u.stamps, fresh := u.fresh, events := u.events, coalesced := u.coalesced, lanes := u.lanes, sched := u.sched }) ∧
  (∀ (t : Nat) (s u : State), exec (.refclkLost t) s = .next u →
    u = { arrive t s with answer := u.answer, obj := u.obj, stamps := u.stamps, fresh := u.fresh, events := u.events, coalesced := u.coalesced, lanes := u.lanes, sched := u.sched, power := u.power }) ∧
  (∀ (t : Nat) (n : LaneId) (sums : List Int) (s u : State), exec (.dfeAdapt t n sums) s = .next u →
    u = { arrive t s with obj := u.obj, fresh := u.fresh, events := u.events, coalesced := u.coalesced, lanes := u.lanes, sched := u.sched }) ∧
  (∀ (t : Nat) (n : LaneId) (s u : State), exec (.prbsLock t n) s = .next u →
    u = { arrive t s with obj := u.obj, fresh := u.fresh, events := u.events, coalesced := u.coalesced, lanes := u.lanes, sched := u.sched }) ∧
  (∀ (t : Nat) (s u : State), exec (.segmentTimeout t) s = .next u →
    u = { arrive t s with obj := u.obj, plant := u.plant }) ∧
  (∀ (t : Nat) (p : PortId) (mac : Nat) (ip : Nat) (target : Nat) (s u : State), exec (.arpRequest t p mac ip target) s = .next u →
    u = { arrive t s with answer := u.answer }) ∧
  (∀ (t : Nat) (p : PortId) (ip : Nat) (target : Nat) (rest : List Byte) (s u : State), exec (.icmpEcho t p ip target rest) s = .next u →
    u = { arrive t s with answer := u.answer }) ∧
  (∀ (t : Nat) (p : PortId) (s u : State), exec (.canHeartbeat t p) s = .next u →
    u = { arrive t s with answer := u.answer, plant := u.plant }) ∧
  (∀ (t : Nat) (p : PortId) (s u : State), exec (.canBusOff t p) s = .next u →
    u = { arrive t s with obj := u.obj, fresh := u.fresh, events := u.events, coalesced := u.coalesced, sched := u.sched }) ∧
  (∀ (t : Nat) (i : PdoId) (s u : State), exec (.tpdoCyclic t i) s = .next u →
    u = { arrive t s with answer := u.answer, fresh := u.fresh, sched := u.sched, plant := u.plant }) ∧
  (∀ (t : Nat) (p : PortId) (domain : Nat) (id : Nat) (seq : Nat) (origin : Option Nat) (s u : State), exec (.ptpSync t p domain id seq origin) s = .next u →
    u = { arrive t s with obj := u.obj, fresh := u.fresh, events := u.events, coalesced := u.coalesced, sched := u.sched, plant := u.plant, ptpBase := u.ptpBase, ptpAt := u.ptpAt, ptpRate := u.ptpRate, ptpFor := u.ptpFor }) ∧
  (∀ (t : Nat) (p : PortId) (domain : Nat) (id : Nat) (seq : Nat) (origin : Nat) (s u : State), exec (.ptpFollowUp t p domain id seq origin) s = .next u →
    u = { arrive t s with obj := u.obj, fresh := u.fresh, events := u.events, coalesced := u.coalesced, sched := u.sched, plant := u.plant, ptpBase := u.ptpBase, ptpAt := u.ptpAt, ptpRate := u.ptpRate, ptpFor := u.ptpFor }) ∧
  (∀ (t : Nat) (p : PortId) (domain : Nat) (id : Nat) (gm : Nat) (priority1 : Nat) (quality : Nat) (priority2 : Nat) (steps : Nat) (s u : State), exec (.ptpAnnounce t p domain id gm priority1 quality priority2 steps) s = .next u →
    u = { arrive t s with obj := u.obj, blobs := u.blobs, fresh := u.fresh, events := u.events, coalesced := u.coalesced, sched := u.sched, plant := u.plant }) ∧
  (∀ (t : Nat) (s u : State), exec (.ptpDelayReq t) s = .next u →
    u = { arrive t s with answer := u.answer, fresh := u.fresh, plant := u.plant }) ∧
  (∀ (t : Nat) (p : PortId) (domain : Nat) (id : Nat) (seq : Nat) (t4 : Nat) (s u : State), exec (.ptpDelayResp t p domain id seq t4) s = .next u →
    u = { arrive t s with obj := u.obj, plant := u.plant }) ∧
  (∀ (t : Nat) (s u : State), exec (.announceReceiptTimeout t) s = .next u →
    u = { arrive t s with obj := u.obj, fresh := u.fresh, events := u.events, coalesced := u.coalesced, sched := u.sched, plant := u.plant, ptpBase := u.ptpBase, ptpAt := u.ptpAt, ptpRate := u.ptpRate, ptpFor := u.ptpFor }) ∧
  (∀ (t : Nat) (s u : State), exec (.ppsInEdge t) s = .next u →
    u = { arrive t s with obj := u.obj, fresh := u.fresh, ptpBase := u.ptpBase, ptpAt := u.ptpAt, ptpRate := u.ptpRate, ptpFor := u.ptpFor }) ∧
  (∀ (t : Nat) (s u : State), exec (.ppsOutSecond t) s = .next u →
    u = { arrive t s with plant := u.plant }) ∧
  (∀ (t : Nat) (ok : Bool) (s u : State), exec (.storeComplete t ok) s = .next u →
    u = { arrive t s with obj := u.obj, fresh := u.fresh, events := u.events, coalesced := u.coalesced, sched := u.sched, nvm := u.nvm, security := u.security }) ∧
  (∀ (t : Nat) (o : Fin 2) (s u : State), exec (.supplyOvercurrent t o) s = .next u →
    u = { arrive t s with obj := u.obj, fresh := u.fresh, events := u.events, coalesced := u.coalesced, sched := u.sched, power := u.power }) ∧
  (∀ (t : Nat) (i : LpId) (s u : State), exec (.lpddrSupplyFault t i) s = .next u →
    u = { arrive t s with obj := u.obj, stamps := u.stamps, mem := u.mem, memEpoch := u.memEpoch, fresh := u.fresh, events := u.events, coalesced := u.coalesced, arr := u.arr, lanes := u.lanes, serial := u.serial, sched := u.sched, cores := u.cores, noc := u.noc, plant := u.plant, nvm := u.nvm, power := u.power, security := u.security }) ∧
  (∀ (t : Nat) (d : DomainId) (ok : Bool) (s u : State), exec (.domainStartComplete t d ok) s = .next u →
    u = { arrive t s with answer := u.answer, obj := u.obj, stamps := u.stamps, mem := u.mem, memEpoch := u.memEpoch, fresh := u.fresh, events := u.events, coalesced := u.coalesced, arr := u.arr, queues := u.queues, lanes := u.lanes, sched := u.sched, cores := u.cores, noc := u.noc, power := u.power }) ∧
  (∀ (t : Nat) (d : DomainId) (s u : State), exec (.domainFenceApplied t d) s = .next u →
    u = { arrive t s with obj := u.obj, stamps := u.stamps }) ∧
  (∀ (t : Nat) (d : DomainId) (s u : State), exec (.domainDrainComplete t d) s = .next u →
    u = { arrive t s with obj := u.obj, stamps := u.stamps, fresh := u.fresh, events := u.events, coalesced := u.coalesced, sched := u.sched, noc := u.noc }) ∧
  (∀ (t : Nat) (d : DomainId) (s u : State), exec (.domainStopComplete t d) s = .next u →
    u = { arrive t s with obj := u.obj, stamps := u.stamps, mem := u.mem, memEpoch := u.memEpoch, fresh := u.fresh, events := u.events, coalesced := u.coalesced, arr := u.arr, lanes := u.lanes, serial := u.serial, sched := u.sched, cores := u.cores, noc := u.noc, plant := u.plant, nvm := u.nvm, power := u.power, security := u.security }) ∧
  (∀ (t : Nat) (s u : State), exec (.lineStopClockStop t) s = .next u →
    u = { arrive t s with obj := u.obj, stamps := u.stamps, mem := u.mem, memEpoch := u.memEpoch, fresh := u.fresh, events := u.events, coalesced := u.coalesced, arr := u.arr, lanes := u.lanes, serial := u.serial, sched := u.sched, cores := u.cores, noc := u.noc, plant := u.plant, nvm := u.nvm, power := u.power, security := u.security }) ∧
  (∀ (t : Nat) (s u : State), exec (.lineStopEntryTimeout t) s = .next u →
    u = { arrive t s with obj := u.obj, power := u.power }) ∧
  (∀ (t : Nat) (aclkOk : Bool) (nclkOk : Bool) (s u : State), exec (.pllLockLoss t aclkOk nclkOk) s = .next u →
    u = { arrive t s with obj := u.obj, fresh := u.fresh, events := u.events, coalesced := u.coalesced, sched := u.sched }) ∧
  (∀ (t : Nat) (err : Int) (s u : State), exec (.rcTrim t err) s = .next u →
    u = { arrive t s with obj := u.obj, power := u.power }) ∧
  (∀ (t : Nat) (f : FieldId) (furrow : Furrow) (s u : State), exec (.furrowClockGate t f furrow) s = .next u →
    u = { arrive t s with arr := u.arr, power := u.power }) ∧
  (∀ (t : Nat) (s u : State), exec (.jtagTestLogicReset t) s = .next u →
    u = { arrive t s with tap := u.tap }) ∧
  (∀ (t : Nat) (ok : Bool) (s u : State), exec (.flashUpdateComplete t ok) s = .next u →
    u = { arrive t s with obj := u.obj, fresh := u.fresh, events := u.events, coalesced := u.coalesced, sched := u.sched, nvm := u.nvm, security := u.security }) ∧
  (∀ (t : Nat) (n : CoreId) (s u : State), exec (.mailboxSha3512 t n) s = .next u →
    u = { arrive t s with answer := u.answer, security := u.security }) ∧
  (∀ (t : Nat) (n : CoreId) (s u : State), exec (.mailboxShake256 t n) s = .next u →
    u = { arrive t s with answer := u.answer, security := u.security }) ∧
  (∀ (t : Nat) (n : CoreId) (s u : State), exec (.mailboxVerify t n) s = .next u →
    u = { arrive t s with answer := u.answer, security := u.security }) ∧
  (∀ (t : Nat) (n : CoreId) (s u : State), exec (.mailboxSign t n) s = .next u →
    u = { arrive t s with answer := u.answer, security := u.security }) ∧
  (∀ (t : Nat) (n : CoreId) (s u : State), exec (.mailboxRandom t n) s = .next u →
    u = { arrive t s with answer := u.answer, security := u.security }) ∧
  (∀ (t : Nat) (s u : State), exec (.trngHealthFail t) s = .next u →
    u = { arrive t s with obj := u.obj, stamps := u.stamps, fresh := u.fresh, events := u.events, coalesced := u.coalesced, sched := u.sched }) ∧
  (∀ (t : Nat) (tdi : List Bool) (s u : State), exec (.tapBypass t tdi) s = .next u →
    u = { arrive t s with answer := u.answer, tap := u.tap }) ∧
  (∀ (t : Nat) (balls : List Bool) (scan : List Bool) (s u : State), exec (.tapSamplePreload t balls scan) s = .next u →
    u = { arrive t s with answer := u.answer, tap := u.tap }) ∧
  (∀ (t : Nat) (balls : List Bool) (scan : List Bool) (s u : State), exec (.tapExtest t balls scan) s = .next u →
    u = { arrive t s with answer := u.answer, tap := u.tap }) ∧
  (∀ (t : Nat) (s u : State), exec (.tapIdcode t) s = .next u →
    u = { arrive t s with answer := u.answer, tap := u.tap }) ∧
  (∀ (t : Nat) (n : LaneId) (s u : State), exec (.prbsLockLoss t n) s = .next u →
    u = { arrive t s with obj := u.obj, fresh := u.fresh, events := u.events, coalesced := u.coalesced, lanes := u.lanes, sched := u.sched }) ∧
  (∀ (t : Nat) (n : LaneId) (s u : State), exec (.prbsBitError t n) s = .next u →
    u = { arrive t s with obj := u.obj, fresh := u.fresh, events := u.events, coalesced := u.coalesced, lanes := u.lanes, sched := u.sched }) ∧
  (∀ (t : Nat) (n : LaneId) (header : Bool) (inFrame : Bool) (s u : State), exec (.blockError t n header inFrame) s = .next u →
    u = { arrive t s with answer := u.answer, obj := u.obj, stamps := u.stamps, fresh := u.fresh, events := u.events, coalesced := u.coalesced, lanes := u.lanes, sched := u.sched }) ∧
  (∀ (t : Nat) (s u : State), exec (.refclkRestored t) s = .next u →
    u = { arrive t s with obj := u.obj, power := u.power }) ∧
  (∀ (t : Nat) (s u : State), exec (.lfxoStop t) s = .next u →
    u = { arrive t s with obj := u.obj, power := u.power }) ∧
  (∀ (t : Nat) (p : PortId) (up : Bool) (s u : State), exec (.ethLinkChange t p up) s = .next u →
    u = { arrive t s with obj := u.obj, blobs := u.blobs, fresh := u.fresh, events := u.events, coalesced := u.coalesced, sched := u.sched, plant := u.plant }) ∧
  (∀ (t : Nat) (p : PortId) (passive : Bool) (s u : State), exec (.canBusStateChange t p passive) s = .next u →
    u = { arrive t s with obj := u.obj, fresh := u.fresh, events := u.events, coalesced := u.coalesced, sched := u.sched }) ∧
  (∀ (t : Nat) (s u : State), exec (.ppsOutWidthEnd t) s = .next u →
    u = { arrive t s with plant := u.plant }) ∧
  (∀ (t : Nat) (s u : State), exec (.resetOutRelease t) s = .next u →
    u = { arrive t s with power := u.power }) ∧
  (∀ (t : Nat) (ok : Bool) (s u : State), exec (.trngStartupComplete t ok) s = .next u →
    u = { arrive t s with obj := u.obj, stamps := u.stamps, fresh := u.fresh, events := u.events, coalesced := u.coalesced, sched := u.sched }) ∧
  (∀ (t : Nat) (e : EncId) (z : Bool) (s u : State), sysRuns (arrive t s) = true → exec (.encoderIndex t e z) s = .next u →
    u = { arrive t s with print := u.print }) ∧
  (∀ (t : Nat) (k : TrigId) (rising : Bool) (s u : State), sysRuns (arrive t s) = true → exec (.triggerEdge t k rising) s = .next u →
    u = { arrive t s with print := u.print }) ∧
  (∀ (t : Nat) (ok : Bool) (s u : State), quiet (arrive t s) = true → (arrive t s).pair.mirror = [] → exec (.journalWriteComplete t ok) s = .next u →
    u = { arrive t s with answer := u.answer, obj := u.obj, blobs := u.blobs, fresh := u.fresh, events := u.events, coalesced := u.coalesced, lanes := u.lanes, serial := u.serial, pair := u.pair, sched := u.sched }) ∧
  (∀ (t : Nat) (s u : State), quiet (arrive t s) = true → (arrive t s).pair.mirror = [] → exec (.serialRecovery t) s = .next u →
    u = { arrive t s with answer := u.answer, obj := u.obj, blobs := u.blobs, fresh := u.fresh, events := u.events, coalesced := u.coalesced, lanes := u.lanes, serial := u.serial, pair := u.pair, sched := u.sched }) ∧
  (∀ (t : Nat) (s u : State), quiet (arrive t s) = true → (arrive t s).pair.mirror = [] → exec (.ledgerRecordWrite t) s = .next u →
    u = { arrive t s with obj := u.obj, blobs := u.blobs, mem := u.mem, fresh := u.fresh, events := u.events, coalesced := u.coalesced, serial := u.serial, sched := u.sched, noc := u.noc }) ∧
  (∀ (t : Nat) (s u : State), quiet (arrive t s) = true → (arrive t s).pair.mirror = [] → exec (.checkpointStart t) s = .next u →
    u = { arrive t s with obj := u.obj, fresh := u.fresh, serial := u.serial, security := u.security }) ∧
  (∀ (t : Nat) (s u : State), quiet (arrive t s) = true → (arrive t s).pair.mirror = [] → exec (.checkpointPublish t) s = .next u →
    u = { arrive t s with answer := u.answer, obj := u.obj, mem := u.mem, fresh := u.fresh, events := u.events, coalesced := u.coalesced, lanes := u.lanes, serial := u.serial, pair := u.pair, sched := u.sched, noc := u.noc }) ∧
  (∀ (t : Nat) (i : PairLane) (role : Nat) (p : List Byte) (ok : Bool) (s u : State), quiet (arrive t s) = true → (arrive t s).pair.mirror = [] → exec (.hello t i role p ok) s = .next u →
    u = { arrive t s with answer := u.answer, obj := u.obj, stamps := u.stamps, fresh := u.fresh, events := u.events, coalesced := u.coalesced, lanes := u.lanes, serial := u.serial, pair := u.pair, sched := u.sched }) ∧
  (∀ (t : Nat) (s u : State), quiet (arrive t s) = true → (arrive t s).pair.mirror = [] → exec (.helloSend t) s = .next u →
    u = { arrive t s with answer := u.answer, lanes := u.lanes, pair := u.pair }) ∧
  (∀ (t : Nat) (i : PairLane) (role : Nat) (p : List Byte) (ok : Bool) (s u : State), quiet (arrive t s) = true → (arrive t s).pair.mirror = [] → exec (.heartbeat t i role p ok) s = .next u →
    u = { arrive t s with answer := u.answer, obj := u.obj, stamps := u.stamps, fresh := u.fresh, events := u.events, coalesced := u.coalesced, lanes := u.lanes, pair := u.pair, sched := u.sched }) ∧
  (∀ (t : Nat) (i : PairLane) (s u : State), quiet (arrive t s) = true → (arrive t s).pair.mirror = [] → exec (.heartbeatSend t i) s = .next u →
    u = { arrive t s with answer := u.answer, lanes := u.lanes, pair := u.pair }) ∧
  (∀ (t : Nat) (s u : State), quiet (arrive t s) = true → (arrive t s).pair.mirror = [] → exec (.arbitrationTimeout t) s = .next u →
    u = { arrive t s with obj := u.obj, stamps := u.stamps, fresh := u.fresh, events := u.events, coalesced := u.coalesced, serial := u.serial, pair := u.pair, sched := u.sched }) ∧
  (∀ (t : Nat) (agentStopped : Bool) (s u : State), quiet (arrive t s) = true → (arrive t s).pair.mirror = [] → exec (.watchdogExpiry t agentStopped) s = .next u →
    u = { arrive t s with obj := u.obj, stamps := u.stamps, fresh := u.fresh, events := u.events, coalesced := u.coalesced, serial := u.serial, pair := u.pair, sched := u.sched, faultL := u.faultL }) ∧
  (∀ (t : Nat) (alive : Bool) (role : Bool) (s u : State), quiet (arrive t s) = true → (arrive t s).pair.mirror = [] → exec (.sidebandLowTimeout t alive role) s = .next u →
    u = { arrive t s with now := u.now, obj := u.obj, stamps := u.stamps, fresh := u.fresh, events := u.events, coalesced := u.coalesced, print := u.print, serial := u.serial, pair := u.pair, sched := u.sched }) ∧
  (∀ (t : Nat) (s u : State), quiet (arrive t s) = true → (arrive t s).pair.mirror = [] → exec (.linkLost t) s = .next u →
    u = { arrive t s with obj := u.obj, stamps := u.stamps, fresh := u.fresh, events := u.events, coalesced := u.coalesced, sched := u.sched }) ∧
  (∀ (t : Nat) (s u : State), quiet (arrive t s) = true → (arrive t s).pair.mirror = [] → exec (.linkLost200us t) s = .next u →
    u = { arrive t s with answer := u.answer, obj := u.obj, stamps := u.stamps, fresh := u.fresh, events := u.events, coalesced := u.coalesced, lanes := u.lanes, serial := u.serial, pair := u.pair, sched := u.sched }) ∧
  (∀ (t : Nat) (s u : State), quiet (arrive t s) = true → (arrive t s).pair.mirror = [] → exec (.orderedAnswerTimeout t) s = .next u →
    u = { arrive t s with obj := u.obj, stamps := u.stamps, fresh := u.fresh, events := u.events, coalesced := u.coalesced, serial := u.serial, pair := u.pair, sched := u.sched }) ∧
  (∀ (t : Nat) (i : PairLane) (seq : Nat) (role : Nat) (p : List Byte) (ok : Bool) (s u : State), quiet (arrive t s) = true → (arrive t s).pair.mirror = [] → exec (.ack t i seq role p ok) s = .next u →
    u = { arrive t s with obj := u.obj, stamps := u.stamps, fresh := u.fresh, events := u.events, coalesced := u.coalesced, print := u.print, serial := u.serial, pair := u.pair, sched := u.sched }) ∧
  (∀ (t : Nat) (i : PairLane) (seq : Nat) (role : Nat) (p : List Byte) (ok : Bool) (s u : State), quiet (arrive t s) = true → (arrive t s).pair.mirror = [] → exec (.nak t i seq role p ok) s = .next u →
    u = { arrive t s with obj := u.obj, stamps := u.stamps, fresh := u.fresh, events := u.events, coalesced := u.coalesced, print := u.print, serial := u.serial, pair := u.pair, sched := u.sched }) ∧
  (∀ (t : Nat) (i : PairLane) (seq : Nat) (role : Nat) (p : List Byte) (ok : Bool) (s u : State), quiet (arrive t s) = true → (arrive t s).pair.mirror = [] → exec (.commit t i seq role p ok) s = .next u →
    u = { arrive t s with answer := u.answer, obj := u.obj, stamps := u.stamps, fresh := u.fresh, events := u.events, coalesced := u.coalesced, lanes := u.lanes, print := u.print, serial := u.serial, pair := u.pair, sched := u.sched }) ∧
  (∀ (t : Nat) (i : PairLane) (seq : Nat) (role : Nat) (p : List Byte) (ok : Bool) (s u : State), quiet (arrive t s) = true → (arrive t s).pair.mirror = [] → exec (.reserve t i seq role p ok) s = .next u →
    u = { arrive t s with answer := u.answer, obj := u.obj, stamps := u.stamps, fresh := u.fresh, events := u.events, coalesced := u.coalesced, lanes := u.lanes, serial := u.serial, pair := u.pair, sched := u.sched }) ∧
  (∀ (t : Nat) (i : PairLane) (seq : Nat) (role : Nat) (p : List Byte) (ok : Bool) (s u : State), quiet (arrive t s) = true → (arrive t s).pair.mirror = [] → exec (.mapSwitch t i seq role p ok) s = .next u →
    u = { arrive t s with answer := u.answer, obj := u.obj, stamps := u.stamps, mem := u.mem, fresh := u.fresh, events := u.events, coalesced := u.coalesced, lanes := u.lanes, pair := u.pair, sched := u.sched }) ∧
  (∀ (t : Nat) (i : PairLane) (seq : Nat) (role : Nat) (p : List Byte) (ok : Bool) (s u : State), quiet (arrive t s) = true → (arrive t s).pair.mirror = [] → exec (.checkpointState t i seq role p ok) s = .next u →
    u = { arrive t s with answer := u.answer, obj := u.obj, blobs := u.blobs, stamps := u.stamps, fresh := u.fresh, events := u.events, coalesced := u.coalesced, lanes := u.lanes, serial := u.serial, pair := u.pair, sched := u.sched }) ∧
  (∀ (t : Nat) (i : PairLane) (seq : Nat) (role : Nat) (p : List Byte) (ok : Bool) (s u : State), quiet (arrive t s) = true → (arrive t s).pair.mirror = [] → exec (.digest t i seq role p ok) s = .next u →
    u = { arrive t s with answer := u.answer, obj := u.obj, stamps := u.stamps, fresh := u.fresh, events := u.events, coalesced := u.coalesced, lanes := u.lanes, print := u.print, pair := u.pair, sched := u.sched }) ∧
  (∀ (t : Nat) (i : PairLane) (seq : Nat) (role : Nat) (p : List Byte) (ok : Bool) (s u : State), quiet (arrive t s) = true → (arrive t s).pair.mirror = [] → exec (.orphan t i seq role p ok) s = .next u →
    u = { arrive t s with answer := u.answer, obj := u.obj, stamps := u.stamps, fresh := u.fresh, events := u.events, coalesced := u.coalesced, lanes := u.lanes, serial := u.serial, pair := u.pair, sched := u.sched }) ∧
  (∀ (t : Nat) (i : PairLane) (seq : Nat) (role : Nat) (p : List Byte) (ok : Bool) (s u : State), quiet (arrive t s) = true → (arrive t s).pair.mirror = [] → exec (.positionMark t i seq role p ok) s = .next u →
    u = { arrive t s with answer := u.answer, obj := u.obj, stamps := u.stamps, fresh := u.fresh, events := u.events, coalesced := u.coalesced, lanes := u.lanes, print := u.print, pair := u.pair, sched := u.sched }) ∧
  (∀ (t : Nat) (e : EncId) (pos : Option Nat) (s u : State), quiet (arrive t s) = true → (arrive t s).pair.mirror = [] → exec (.encoderIdleAlign t e pos) s = .next u →
    u = { arrive t s with obj := u.obj, print := u.print, pair := u.pair }) ∧
  (∀ (t : Nat) (rewritten : Nat) (s u : State), quiet (arrive t s) = true → (arrive t s).pair.mirror = [] → exec (.resyncCut t rewritten) s = .next u →
    u = { arrive t s with answer := u.answer, obj := u.obj, mem := u.mem, fresh := u.fresh, events := u.events, coalesced := u.coalesced, lanes := u.lanes, pair := u.pair, sched := u.sched, noc := u.noc }) ∧
  (∀ (t : Nat) (s u : State), quiet (arrive t s) = true → (arrive t s).pair.mirror = [] → exec (.resyncHoldLimit t) s = .next u →
    u = { arrive t s with obj := u.obj }) ∧
  (∀ (t : Nat) (i : PairLane) (seq : Nat) (role : Nat) (p : List Byte) (ok : Bool) (s u : State), quiet (arrive t s) = true → (arrive t s).pair.mirror = [] → exec (.cut t i seq role p ok) s = .next u →
    u = { arrive t s with answer := u.answer, obj := u.obj, stamps := u.stamps, fresh := u.fresh, events := u.events, coalesced := u.coalesced, arr := u.arr, queues := u.queues, lanes := u.lanes, print := u.print, pair := u.pair, sched := u.sched, noc := u.noc }) ∧
  (∀ (t : Nat) (i : PairLane) (role : Nat) (p : List Byte) (ok : Bool) (s u : State), quiet (arrive t s) = true → (arrive t s).pair.mirror = [] → (pairRole (arrive t s) ≠ 6 ∨ 3 < resyncState (arrive t s) ∧ role ≠ 5) → exec (.snapshot t i role p ok) s = .next u →
    u = { arrive t s with obj := u.obj, stamps := u.stamps, mem := u.mem, fresh := u.fresh, events := u.events, coalesced := u.coalesced, pair := u.pair, sched := u.sched, noc := u.noc }) ∧
  (∀ (t : Nat) (i : PairLane) (seq : Nat) (role : Nat) (p : List Byte) (ok : Bool) (s u : State), quiet (arrive t s) = true → (arrive t s).pair.mirror = [] → exec (.snapshotEnd t i seq role p ok) s = .next u →
    u = { arrive t s with answer := u.answer, obj := u.obj, blobs := u.blobs, stamps := u.stamps, mem := u.mem, fresh := u.fresh, events := u.events, coalesced := u.coalesced, arr := u.arr, queues := u.queues, lanes := u.lanes, print := u.print, serial := u.serial, pair := u.pair, sched := u.sched, noc := u.noc }) ∧
  (∀ (t : Nat) (s u : State), quiet (arrive t s) = true → (arrive t s).pair.mirror = [] → exec (.catchUpComplete t) s = .next u →
    u = { arrive t s with answer := u.answer, obj := u.obj, stamps := u.stamps, fresh := u.fresh, events := u.events, coalesced := u.coalesced, lanes := u.lanes, pair := u.pair, sched := u.sched }) ∧
  (∀ (t : Nat) (i : PairLane) (seq : Nat) (role : Nat) (p : List Byte) (ok : Bool) (s u : State), quiet (arrive t s) = true → (arrive t s).pair.mirror = [] → exec (.resyncDone t i seq role p ok) s = .next u →
    u = { arrive t s with answer := u.answer, obj := u.obj, stamps := u.stamps, fresh := u.fresh, events := u.events, coalesced := u.coalesced, lanes := u.lanes, pair := u.pair, sched := u.sched }) ∧
  (∀ (t : Nat) (s u : State), quiet (arrive t s) = true → (arrive t s).pair.mirror = [] → exec (.resyncTimeout t) s = .next u →
    u = { arrive t s with obj := u.obj, stamps := u.stamps, fresh := u.fresh, events := u.events, coalesced := u.coalesced, sched := u.sched }) ∧
  (∀ (t : Nat) (p : PortId) (node : Nat) (s u : State), quiet (arrive t s) = true → (arrive t s).pair.mirror = [] → sysRuns (arrive t s) = true → exec (.nmtStart t p node) s = .next u →
    u = { arrive t s with obj := u.obj, plant := u.plant }) ∧
  (∀ (t : Nat) (p : PortId) (node : Nat) (s u : State), quiet (arrive t s) = true → (arrive t s).pair.mirror = [] → sysRuns (arrive t s) = true → exec (.nmtStop t p node) s = .next u →
    u = { arrive t s with obj := u.obj, plant := u.plant }) ∧
  (∀ (t : Nat) (p : PortId) (node : Nat) (s u : State), quiet (arrive t s) = true → (arrive t s).pair.mirror = [] → sysRuns (arrive t s) = true → exec (.nmtEnterPreOperational t p node) s = .next u →
    u = { arrive t s with obj := u.obj, plant := u.plant }) ∧
  (∀ (t : Nat) (p : PortId) (node : Nat) (s u : State), quiet (arrive t s) = true → (arrive t s).pair.mirror = [] → sysRuns (arrive t s) = true → exec (.nmtResetNode t p node) s = .next u →
    u = { arrive t s with answer := u.answer, obj := u.obj, plant := u.plant }) ∧
  (∀ (t : Nat) (p : PortId) (node : Nat) (s u : State), quiet (arrive t s) = true → (arrive t s).pair.mirror = [] → sysRuns (arrive t s) = true → exec (.nmtResetCommunication t p node) s = .next u →
    u = { arrive t s with answer := u.answer, obj := u.obj, plant := u.plant }) ∧
  (∀ (t : Nat) (p : PortId) (idx : Nat) (sub : Nat) (off : Nat) (max : Nat) (s u : State), quiet (arrive t s) = true → (arrive t s).pair.mirror = [] → sysRuns (arrive t s) = true → exec (.sdoUpload t p idx sub off max) s = .next u →
    u = { arrive t s with answer := u.answer, obj := u.obj, fresh := u.fresh, events := u.events, coalesced := u.coalesced, sched := u.sched, plant := u.plant }) ∧
  (∀ (t : Nat) (p : PortId) (s u : State), quiet (arrive t s) = true → (arrive t s).pair.mirror = [] → exec (.sdoTimeout t p) s = .next u →
    u = { arrive t s with answer := u.answer, obj := u.obj, fresh := u.fresh, events := u.events, coalesced := u.coalesced, sched := u.sched, plant := u.plant }) ∧
  (∀ (t : Nat) (p : PortId) (s u : State), quiet (arrive t s) = true → (arrive t s).pair.mirror = [] → sysRuns (arrive t s) = true → exec (.canSync t p) s = .next u →
    u = { arrive t s with answer := u.answer, fresh := u.fresh, sched := u.sched, plant := u.plant }) ∧
  (∀ (t : Nat) (n : CoreId) (s u : State), quiet (arrive t s) = true → (arrive t s).pair.mirror = [] → exec (.mailboxComplete t n) s = .next u →
    u = { arrive t s with obj := u.obj, mem := u.mem, fresh := u.fresh, events := u.events, coalesced := u.coalesced, sched := u.sched, cores := u.cores, noc := u.noc, security := u.security }) ∧
  (∀ (t : Nat) (s u : State), quiet (arrive t s) = true → (arrive t s).pair.mirror = [] → exec (.attestDone t) s = .next u →
    u = { arrive t s with obj := u.obj, stamps := u.stamps, fresh := u.fresh, events := u.events, coalesced := u.coalesced, sched := u.sched, security := u.security }) ∧
  (∀ (t : Nat) (ok : Bool) (s u : State), quiet (arrive t s) = true → (arrive t s).pair.mirror = [] → exec (.snapshotWriteComplete t ok) s = .next u →
    u = { arrive t s with obj := u.obj, nvm := u.nvm }) ∧
  (∀ (t : Nat) (a : AllotId) (s u : State), quiet (arrive t s) = true → (arrive t s).pair.mirror = [] → exec (.serialValueComputed t a) s = .next u →
    u = { arrive t s with serial := u.serial }) ∧
  (∀ (t : Nat) (i : PairLane) (s u : State), quiet (arrive t s) = true → (arrive t s).pair.mirror = [] → exec (.pairLaneHeartbeatTimeout t i) s = .next u →
    u = { arrive t s with answer := u.answer, obj := u.obj, lanes := u.lanes, pair := u.pair })

/-- What the events named here leave unchanged: the registers of the dictionary, and units of the same kind.
For each event named here, after what the print path had in hand has taken effect, every register of the dictionary that is not named reads as before it, and what was in hand changes only the registers named for it; and where an event acts on one field, queue, core or lane, every other one is what it was. The named registers are those of the unit the event acts on, the cause registers it may set, and the counter of coalesced events. The grant of an event, what switches domains, and the snapshot frames, which can change registers of every kind, have no clause here. -/
def Obligations.EventsKeepOtherRegisters : Prop :=
  (∀ (t : Nat) (s : State), OnlyRegs pipeRegs s (arrive t s)) ∧
  (∀ (t : Nat) (f : FieldId) (c : CellId) (s u : State), exec (.cellFire t f c) s = .next u →
    OnlyRegs (fieldRegs f.val ++ evRegs) (arrive t s) u ∧ (∀ g, g ≠ f.val → fieldOf u g = fieldOf (arrive t s) g)) ∧
  (∀ (t : Nat) (f : FieldId) (c : CellId) (k : Nat) (s u : State), exec (.operationComplete t f c k) s = .next u →
    (∀ g, g ≠ f.val → fieldOf u g = fieldOf (arrive t s) g)) ∧
  (∀ (t : Nat) (f : FieldId) (c : CellId) (s u : State), exec (.resultDelivery t f c) s = .next u →
    OnlyRegs (anyField ++ evRegs) (arrive t s) u) ∧
  (∀ (t : Nat) (f : FieldId) (c : CellId) (slot : Fin 8) (k : Fin 8) (v : Nat) (s u : State), exec (.configRegisterWrite t f c slot k v) s = .next u →
    OnlyRegs ([(0x2000 + 0x40 * f.val, [3]), (0x2008 + 0x40 * f.val, [3])]) (arrive t s) u ∧ (∀ g, g ≠ f.val → fieldOf u g = fieldOf (arrive t s) g)) ∧
  (∀ (t : Nat) (f : FieldId) (j : Fin 256) (v : Nat) (s u : State), exec (.lutEntryWrite t f j v) s = .next u →
    OnlyRegs ([(0x2000 + 0x40 * f.val, [3]), (0x2008 + 0x40 * f.val, [3])]) (arrive t s) u ∧ (∀ g, g ≠ f.val → fieldOf u g = fieldOf (arrive t s) g)) ∧
  (∀ (t : Nat) (f : FieldId) (j : Fin 8704) (v : Nat) (s u : State), exec (.capoStateWrite t f j v) s = .next u →
    OnlyRegs ([(0x2000 + 0x40 * f.val, [3]), (0x2008 + 0x40 * f.val, [3])]) (arrive t s) u ∧ (∀ g, g ≠ f.val → fieldOf u g = fieldOf (arrive t s) g)) ∧
  (∀ (t : Nat) (f : FieldId) (furrow : Furrow) (west : Bool) (s u : State), exec (.bypassStageTransfer t f furrow west) s = .next u →
    OnlyRegs (anyField ++ evRegs) (arrive t s) u) ∧
  (∀ (t : Nat) (f : FieldId) (d : DrillId) (s u : State), exec (.drillReadItem t f d) s = .next u →
    OnlyRegs (fieldRegs f.val ++ evRegs) (arrive t s) u ∧ (∀ g, g ≠ f.val → fieldOf u g = fieldOf (arrive t s) g)) ∧
  (∀ (t : Nat) (f : FieldId) (d : DrillId) (s u : State), exec (.drillWriteAccept t f d) s = .next u →
    OnlyRegs (anyField ++ evRegs) (arrive t s) u) ∧
  (∀ (t : Nat) (f : FieldId) (d : DrillId) (s u : State), exec (.drillWriteStore t f d) s = .next u →
    (∀ g, g ≠ f.val → fieldOf u g = fieldOf (arrive t s) g)) ∧
  (∀ (t : Nat) (f : FieldId) (off : Nat) (size : Nat) (write : Bool) (v : Nat) (s u : State), exec (.fieldMemoryNetworkAccess t f off size write v) s = .next u →
    (∀ g, g ≠ f.val → fieldOf u g = fieldOf (arrive t s) g)) ∧
  (∀ (t : Nat) (s u : State), exec (.tuningLoadCopyDone t) s = .next u →
    OnlyRegs ([(0x2603, [6, 7, 8]), (0x2608, [1])] ++ evRegs) (arrive t s) u) ∧
  (∀ (t : Nat) (s u : State), exec (.tuningLoadComplete t) s = .next u →
    OnlyRegs ([(0x2603, [6, 7, 8]), (0x2608, [2])] ++ evRegs) (arrive t s) u) ∧
  (∀ (t : Nat) (f : FieldId) (s u : State), exec (.retuneCueToken t f) s = .next u →
    OnlyRegs (anyField ++ eachQueue 32 [4] ++ evRegs) (arrive t s) u) ∧
  (∀ (t : Nat) (f : FieldId) (s u : State), exec (.drainSwitch t f) s = .next u →
    OnlyRegs (fieldRegs f.val ++ evRegs) (arrive t s) u ∧ (∀ g, g ≠ f.val → fieldOf u g = fieldOf (arrive t s) g)) ∧
  (∀ (t : Nat) (f : FieldId) (s u : State), exec (.retuneLimitExpiry t f) s = .next u →
    OnlyRegs (fieldRegs f.val ++ [(0x2008 + 0x40 * f.val, [1, 2])] ++ evRegs) (arrive t s) u ∧ (∀ g, g ≠ f.val → fieldOf u g = fieldOf (arrive t s) g)) ∧
  (∀ (t : Nat) (s u : State), exec (.capoBoundary t) s = .next u →
    OnlyRegs ([(0x2601, [2, 3])]) (arrive t s) u) ∧
  (∀ (t : Nat) (q : QueueId) (n : CoreId) (v : Nat) (s u : State), exec (.queueItemWrite t q n v) s = .next u →
    OnlyRegs ([(qs q.val, [4, 7, 8, 0xA, 0xB, 0xC])] ++ [(qc q.val, [7])] ++ evRegs) (arrive t s) u ∧ (∀ p, p ≠ q.val → queueOf u p = queueOf (arrive t s) p)) ∧
  (∀ (t : Nat) (q : QueueId) (n : CoreId) (v : Nat) (s u : State), exec (.queueItemEndWrite t q n v) s = .next u →
    OnlyRegs ([(qs q.val, [4, 7, 8, 0xA, 0xB, 0xC])] ++ [(qc q.val, [7])] ++ evRegs) (arrive t s) u ∧ (∀ p, p ≠ q.val → queueOf u p = queueOf (arrive t s) p)) ∧
  (∀ (t : Nat) (q : QueueId) (n : CoreId) (s u : State), exec (.queuePop t q n) s = .next u →
    OnlyRegs ([(qs q.val, [4])]) (arrive t s) u ∧ (∀ p, p ≠ q.val → queueOf u p = queueOf (arrive t s) p)) ∧
  (∀ (t : Nat) (q : QueueId) (n : CoreId) (s u : State), exec (.queuePeek t q n) s = .next u →
    OnlyRegs ([(qs q.val, [4])]) (arrive t s) u ∧ (∀ p, p ≠ q.val → queueOf u p = queueOf (arrive t s) p)) ∧
  (∀ (t : Nat) (q : QueueId) (s u : State), exec (.edgePortInputToken t q) s = .next u →
    OnlyRegs (anyField ++ inputRegs ++ cameraRegs ++ evRegs) (arrive t s) u) ∧
  (∀ (t : Nat) (p : Fin 32) (s u : State), exec (.edgePortOutputToken t p) s = .next u →
    OnlyRegs ([(qs (32 + p.val), [4, 7, 8, 0xA, 0xB])] ++ [(qc (32 + p.val), [7])] ++ evRegs) (arrive t s) u ∧ (∀ q, q ≠ 32 + p.val → queueOf u q = queueOf (arrive t s) q)) ∧
  (∀ (t : Nat) (q : QueueId) (s u : State), exec (.dmaInputRecord t q) s = .next u →
    OnlyRegs ([(qs q.val, [4, 7, 8, 0xA, 0xB, 0xD]), (qc q.val, [7, 0xC])] ++ evRegs) (arrive t s) u ∧ (∀ p, p ≠ q.val → queueOf u p = queueOf (arrive t s) p)) ∧
  (∀ (t : Nat) (q : QueueId) (s u : State), exec (.dmaOutputRecord t q) s = .next u →
    OnlyRegs ([(qs q.val, [4]), (qc q.val, [0xC])]) (arrive t s) u ∧ (∀ p, p ≠ q.val → queueOf u p = queueOf (arrive t s) p)) ∧
  (∀ (t : Nat) (q : QueueId) (s u : State), exec (.spillWrite t q) s = .next u →
    OnlyRegs (inputRegs ++ [(qs q.val, [4, 9, 0xA, 0xB])] ++ cameraRegs ++ evRegs) (arrive t s) u) ∧
  (∀ (t : Nat) (q : QueueId) (s u : State), exec (.spillRead t q) s = .next u →
    OnlyRegs (inputRegs ++ [(qs q.val, [4, 9, 0xA, 0xB])] ++ cameraRegs ++ evRegs) (arrive t s) u) ∧
  (∀ (t : Nat) (q : QueueId) (s u : State), exec (.flushComplete t q) s = .next u →
    OnlyRegs (inputRegs ++ [(qs q.val, [4, 7, 8, 0xA, 0xB]), (qc q.val, [7])] ++ cameraRegs ++ evRegs) (arrive t s) u) ∧
  (∀ (t : Nat) (q : QueueId) (s u : State), exec (.stagedRegionApply t q) s = .next u →
    OnlyRegs (inputRegs ++ [(qs q.val, [4, 7, 8, 0xA, 0xB]), (qc q.val, [7])] ++ cameraRegs ++ evRegs) (arrive t s) u) ∧
  (∀ (t : Nat) (q : QueueId) (s u : State), exec (.queueStartComplete t q) s = .next u →
    OnlyRegs ([(qs q.val, [1, 4, 0xA]), (qc q.val, [7])] ++ evRegs) (arrive t s) u ∧ (∀ p, p ≠ q.val → queueOf u p = queueOf (arrive t s) p)) ∧
  (∀ (t : Nat) (q : QueueId) (s u : State), exec (.queueStopComplete t q) s = .next u →
    OnlyRegs ([(qs q.val, [1, 2, 7, 8, 0xA, 0xE]), (qc q.val, [1, 0xB, 0xC])] ++ claims ++ evRegs) (arrive t s) u ∧ (∀ p, p ≠ q.val → queueOf u p = queueOf (arrive t s) p)) ∧
  (∀ (t : Nat) (e : EncId) (a : Bool) (b : Bool) (s u : State), exec (.quadratureCount t e a b) s = .next u →
    OnlyRegs ([(ex e.val, [6, 8, 0xA, 0xF, 0x10])] ++ eachGen [5] ++ eachBar 0 [1, 4, 5, 9] ++ eachBar 2 [1, 4] ++ eachBar 3 [1] ++ eachBar 7 [4] ++ evRegs) (arrive t s) u) ∧
  (∀ (t : Nat) (e : EncId) (s u : State), exec (.encoderStartComplete t e) s = .next u →
    OnlyRegs ([(ex e.val, [6, 8, 0xA, 0xC, 0xF])] ++ eachGen [7] ++ evRegs) (arrive t s) u) ∧
  (∀ (t : Nat) (e : EncId) (s u : State), exec (.encoderStopComplete t e) s = .next u →
    OnlyRegs ([(ex e.val, [0xC, 0xD, 0xF, 0x11])] ++ claims ++ evRegs) (arrive t s) u) ∧
  (∀ (t : Nat) (e : EncId) (s u : State), exec (.handoffToAon t e) s = .next u →
    OnlyRegs ([(ex e.val, [0xF, 0x10])] ++ evRegs) (arrive t s) u) ∧
  (∀ (t : Nat) (e : EncId) (a : Bool) (b : Bool) (s u : State), exec (.aonCount t e a b) s = .next u →
    OnlyRegs ([(ex e.val, [0xF, 0x10])] ++ evRegs) (arrive t s) u) ∧
  (∀ (t : Nat) (e : EncId) (s u : State), exec (.handoffFromAon t e) s = .next u →
    OnlyRegs ([(ex e.val, [6, 8, 0xF])] ++ eachGen [7] ++ evRegs) (arrive t s) u) ∧
  (∀ (t : Nat) (id : Nat) (s u : State), exec (.productRetire t id) s = .next u →
    OnlyRegs (roleRegs ++ evRegs) (arrive t s) u) ∧
  (∀ (t : Nat) (b : BarId) (s u : State), exec (.activeCopySwitch t b) s = .next u →
    OnlyRegs ([(bx b.val 0, [9]), (bx b.val 4, [3, 4, 5])] ++ evRegs) (arrive t s) u) ∧
  (∀ (t : Nat) (b : BarId) (s u : State), exec (.formatterWord t b) s = .next u →
    OnlyRegs ([(bx b.val 0, [9]), (bx b.val 2, [4]), (bx b.val 3, [2])] ++ eachQueue 64 [4] ++ evRegs) (arrive t s) u) ∧
  (∀ (t : Nat) (b : BarId) (s u : State), exec (.fireFrameLaunch t b) s = .next u →
    OnlyRegs ([(bx b.val 0, [9]), (bx b.val 3, [3]), (bx b.val 7, [1, 2, 3, 4])] ++ roleRegs ++ evRegs) (arrive t s) u) ∧
  (∀ (t : Nat) (b : BarId) (s u : State), exec (.barStartComplete t b) s = .next u →
    OnlyRegs ([(bx b.val 0, [4, 9]), (bx b.val 7, [4])] ++ evRegs) (arrive t s) u) ∧
  (∀ (t : Nat) (b : BarId) (s u : State), exec (.barStopComplete t b) s = .next u →
    OnlyRegs ([(bx b.val 0, [1, 4, 5, 6, 9]), (bx b.val 2, [4])] ++ claims ++ evRegs) (arrive t s) u) ∧
  (∀ (t : Nat) (unit : Fin 30) (hdr : Nat) (p : List Byte) (crcOk : Bool) (s u : State), exec (.mgmtReply t unit hdr p crcOk) s = .next u →
    OnlyRegs ([(bx unit.val 0, [9]), (bx unit.val 3, [5, 7]), (bx unit.val 4, [4, 5]), (bx unit.val 6, [1, 2, 3, 4, 5, 6, 7, 8]), (mgmtIndex unit.val, [3, 0x13]), (lx unit.val 2, [3])] ++ eachIndex 6 cs [4, 5, 6, 7, 8, 0xA, 0xD, 0xE] ++ eachLane 2 [3] ++ inputRegs ++ roleRegs ++ evRegs) (arrive t s) u) ∧
  (∀ (t : Nat) (unit : Fin 30) (s u : State), exec (.mgmtTimeout t unit) s = .next u →
    OnlyRegs ([(mgmtIndex unit.val, [3, 0x13])]) (arrive t s) u) ∧
  (∀ (t : Nat) (b : BarId) (hdr : Nat) (p : List Byte) (crcOk : Bool) (s u : State), exec (.headStatus t b hdr p crcOk) s = .next u →
    OnlyRegs ([(bx b.val 0, [9]), (bx b.val 3, [5, 7]), (bx b.val 4, [4, 5]), (bx b.val 5, [3]), (bx b.val 6, [1, 2, 3, 4, 5, 6, 7, 8]), (lx b.val 2, [3])] ++ roleRegs ++ evRegs) (arrive t s) u) ∧
  (∀ (t : Nat) (b : BarId) (hdr : Nat) (p : List Byte) (crcOk : Bool) (s u : State), exec (.nozzleReport t b hdr p crcOk) s = .next u →
    OnlyRegs ([(bx b.val 0, [9]), (bx b.val 3, [5, 7]), (bx b.val 4, [4, 5]), (bx b.val 5, [3]), (bx b.val 6, [1, 2, 3, 4, 5, 6, 7, 8]), (lx b.val 2, [3])] ++ roleRegs ++ evRegs) (arrive t s) u) ∧
  (∀ (t : Nat) (b : BarId) (s u : State), exec (.headSilent t b) s = .next u →
    OnlyRegs ([(bx b.val 0, [9]), (bx b.val 3, [6])] ++ evRegs) (arrive t s) u) ∧
  (∀ (t : Nat) (j : GateId) (s u : State), exec (.rejectDecision t j) s = .next u →
    OnlyRegs ([(gc j.val + 1, [2, 4, 5, 6]), (0x3800, [3, 7])] ++ roleRegs ++ evRegs) (arrive t s) u) ∧
  (∀ (t : Nat) (j : GateId) (s u : State), exec (.rejectPulseEnd t j) s = .next u →
    OnlyRegs ([(gc j.val + 1, [4, 8])] ++ evRegs) (arrive t s) u) ∧
  (∀ (t : Nat) (k : CamId) (odd : Bool) (hdr : Nat) (p : List Byte) (crcOk : Bool) (s u : State), exec (.imageLine t k odd hdr p crcOk) s = .next u →
    OnlyRegs ([(cs k.val, [4, 5, 6, 7, 8, 0xA, 0xD, 0xE]), (cc k.val, [0x13]), (lx (camLane k.val) 2, [3]), (lx (camLane k.val + 1) 2, [3])] ++ inputRegs ++ evRegs) (arrive t s) u) ∧
  (∀ (t : Nat) (k : CamId) (s u : State), exec (.lineLostTimeout t k) s = .next u →
    OnlyRegs ([(cs k.val, [4, 5, 6])] ++ inputRegs ++ evRegs) (arrive t s) u) ∧
  (∀ (t : Nat) (k : CamId) (hdr : Nat) (p : List Byte) (crcOk : Bool) (s u : State), exec (.bridgeStatus t k hdr p crcOk) s = .next u →
    OnlyRegs ([(cs k.val, [4, 5, 6, 7, 8, 0xA, 0xD, 0xE]), (cc k.val, [0x13]), (lx (camLane k.val) 2, [3]), (lx (camLane k.val + 1) 2, [3])] ++ inputRegs ++ evRegs) (arrive t s) u) ∧
  (∀ (t : Nat) (k : CamId) (s u : State), exec (.bridgeSilent t k) s = .next u →
    OnlyRegs ([(cs k.val, [5, 0xC])] ++ evRegs) (arrive t s) u) ∧
  (∀ (t : Nat) (k : CamId) (s u : State), exec (.cameraStartComplete t k) s = .next u →
    OnlyRegs ([(cs k.val, [1, 4, 5])] ++ roleRegs ++ evRegs) (arrive t s) u) ∧
  (∀ (t : Nat) (k : CamId) (s u : State), exec (.cameraStopComplete t k) s = .next u →
    OnlyRegs ([(cs k.val, [1, 2, 3, 5]), (cc k.val, [1])] ++ claims ++ evRegs) (arrive t s) u) ∧
  (∀ (t : Nat) (s u : State), exec (.archiveRecord t) s = .next u →
    OnlyRegs ([(0x3803, [5, 6, 7]), (0x3800, [3])] ++ evRegs) (arrive t s) u) ∧
  (∀ (t : Nat) (n : CoreId) (s u : State), exec (.baseInstruction t n) s = .next u →
    OnlyRegs (coreRegs n.val) (arrive t s) u ∧ (∀ m, m ≠ n.val → coreOf u m = coreOf (arrive t s) m)) ∧
  (∀ (t : Nat) (n : CoreId) (s u : State), exec (.callw t n) s = .next u →
    OnlyRegs (coreRegs n.val) (arrive t s) u ∧ (∀ m, m ≠ n.val → coreOf u m = coreOf (arrive t s) m)) ∧
  (∀ (t : Nat) (n : CoreId) (s u : State), exec (.callwr t n) s = .next u →
    OnlyRegs (coreRegs n.val) (arrive t s) u ∧ (∀ m, m ≠ n.val → coreOf u m = coreOf (arrive t s) m)) ∧
  (∀ (t : Nat) (n : CoreId) (s u : State), exec (.retw t n) s = .next u →
    OnlyRegs (coreRegs n.val) (arrive t s) u ∧ (∀ m, m ≠ n.val → coreOf u m = coreOf (arrive t s) m)) ∧
  (∀ (t : Nat) (n : CoreId) (regs : Nat) (s u : State), exec (.smm t n regs) s = .next u →
    OnlyRegs (coreRegs n.val) (arrive t s) u ∧ (∀ m, m ≠ n.val → coreOf u m = coreOf (arrive t s) m)) ∧
  (∀ (t : Nat) (n : CoreId) (regs : Nat) (s u : State), exec (.smmO t n regs) s = .next u →
    OnlyRegs (coreRegs n.val) (arrive t s) u ∧ (∀ m, m ≠ n.val → coreOf u m = coreOf (arrive t s) m)) ∧
  (∀ (t : Nat) (n : CoreId) (regs : Nat) (s u : State), exec (.lmm t n regs) s = .next u →
    OnlyRegs (coreRegs n.val) (arrive t s) u ∧ (∀ m, m ≠ n.val → coreOf u m = coreOf (arrive t s) m)) ∧
  (∀ (t : Nat) (n : CoreId) (regs : Nat) (s u : State), exec (.lmmO t n regs) s = .next u →
    OnlyRegs (coreRegs n.val) (arrive t s) u ∧ (∀ m, m ≠ n.val → coreOf u m = coreOf (arrive t s) m)) ∧
  (∀ (t : Nat) (n : CoreId) (s u : State), exec (.spillw t n) s = .next u →
    OnlyRegs (coreRegs n.val) (arrive t s) u ∧ (∀ m, m ≠ n.val → coreOf u m = coreOf (arrive t s) m)) ∧
  (∀ (t : Nat) (n : CoreId) (s u : State), exec (.fillw t n) s = .next u →
    OnlyRegs (coreRegs n.val) (arrive t s) u ∧ (∀ m, m ≠ n.val → coreOf u m = coreOf (arrive t s) m)) ∧
  (∀ (t : Nat) (n : CoreId) (s u : State), exec (.rep t n) s = .next u →
    OnlyRegs (coreRegs n.val) (arrive t s) u ∧ (∀ m, m ≠ n.val → coreOf u m = coreOf (arrive t s) m)) ∧
  (∀ (t : Nat) (n : CoreId) (s u : State), exec (.repr t n) s = .next u →
    OnlyRegs (coreRegs n.val) (arrive t s) u ∧ (∀ m, m ≠ n.val → coreOf u m = coreOf (arrive t s) m)) ∧
  (∀ (t : Nat) (n : CoreId) (s u : State), exec (.loop t n) s = .next u →
    OnlyRegs (coreRegs n.val) (arrive t s) u ∧ (∀ m, m ≠ n.val → coreOf u m = coreOf (arrive t s) m)) ∧
  (∀ (t : Nat) (n : CoreId) (s u : State), exec (.fmac t n) s = .next u →
    OnlyRegs (coreRegs n.val) (arrive t s) u ∧ (∀ m, m ≠ n.val → coreOf u m = coreOf (arrive t s) m)) ∧
  (∀ (t : Nat) (n : CoreId) (s u : State), exec (.fmsc t n) s = .next u →
    OnlyRegs (coreRegs n.val) (arrive t s) u ∧ (∀ m, m ≠ n.val → coreOf u m = coreOf (arrive t s) m)) ∧
  (∀ (t : Nat) (n : CoreId) (s u : State), exec (.fmula t n) s = .next u →
    OnlyRegs (coreRegs n.val) (arrive t s) u ∧ (∀ m, m ≠ n.val → coreOf u m = coreOf (arrive t s) m)) ∧
  (∀ (t : Nat) (n : CoreId) (s u : State), exec (.fmacf t n) s = .next u →
    OnlyRegs (coreRegs n.val) (arrive t s) u ∧ (∀ m, m ≠ n.val → coreOf u m = coreOf (arrive t s) m)) ∧
  (∀ (t : Nat) (n : CoreId) (s u : State), exec (.fmscf t n) s = .next u →
    OnlyRegs (coreRegs n.val) (arrive t s) u ∧ (∀ m, m ≠ n.val → coreOf u m = coreOf (arrive t s) m)) ∧
  (∀ (t : Nat) (n : CoreId) (s u : State), exec (.xld t n) s = .next u →
    OnlyRegs (coreRegs n.val) (arrive t s) u ∧ (∀ m, m ≠ n.val → coreOf u m = coreOf (arrive t s) m)) ∧
  (∀ (t : Nat) (n : CoreId) (s u : State), exec (.yld t n) s = .next u →
    OnlyRegs (coreRegs n.val) (arrive t s) u ∧ (∀ m, m ≠ n.val → coreOf u m = coreOf (arrive t s) m)) ∧
  (∀ (t : Nat) (n : CoreId) (s u : State), exec (.xst t n) s = .next u →
    OnlyRegs (coreRegs n.val) (arrive t s) u ∧ (∀ m, m ≠ n.val → coreOf u m = coreOf (arrive t s) m)) ∧
  (∀ (t : Nat) (n : CoreId) (s u : State), exec (.yst t n) s = .next u →
    OnlyRegs (coreRegs n.val) (arrive t s) u ∧ (∀ m, m ≠ n.val → coreOf u m = coreOf (arrive t s) m)) ∧
  (∀ (t : Nat) (n : CoreId) (s u : State), exec (.fmvaf t n) s = .next u →
    OnlyRegs (coreRegs n.val) (arrive t s) u ∧ (∀ m, m ≠ n.val → coreOf u m = coreOf (arrive t s) m)) ∧
  (∀ (t : Nat) (n : CoreId) (s u : State), exec (.fmvfa t n) s = .next u →
    OnlyRegs (coreRegs n.val) (arrive t s) u ∧ (∀ m, m ≠ n.val → coreOf u m = coreOf (arrive t s) m)) ∧
  (∀ (t : Nat) (n : CoreId) (s u : State), exec (.accz t n) s = .next u →
    OnlyRegs (coreRegs n.val) (arrive t s) u ∧ (∀ m, m ≠ n.val → coreOf u m = coreOf (arrive t s) m)) ∧
  (∀ (t : Nat) (n : CoreId) (s u : State), exec (.accsum t n) s = .next u →
    OnlyRegs (coreRegs n.val) (arrive t s) u ∧ (∀ m, m ≠ n.val → coreOf u m = coreOf (arrive t s) m)) ∧
  (∀ (t : Nat) (n : CoreId) (s u : State), exec (.accumulatorWrite t n) s = .next u →
    (∀ m, m ≠ n.val → coreOf u m = coreOf (arrive t s) m)) ∧
  (∀ (t : Nat) (n : CoreId) (s u : State), exec (.mret t n) s = .next u →
    OnlyRegs (coreRegs n.val) (arrive t s) u ∧ (∀ m, m ≠ n.val → coreOf u m = coreOf (arrive t s) m)) ∧
  (∀ (t : Nat) (n : CoreId) (s u : State), exec (.interrupt t n) s = .next u →
    (∀ m, m ≠ n.val → coreOf u m = coreOf (arrive t s) m)) ∧
  (∀ (t : Nat) (n : CoreId) (s u : State), exec (.coreHalted t n) s = .next u →
    OnlyRegs (coreRegs n.val) (arrive t s) u ∧ (∀ m, m ≠ n.val → coreOf u m = coreOf (arrive t s) m)) ∧
  (∀ (t : Nat) (s u : State), exec (.taskOffer t) s = .next u →
    OnlyRegs ([(0x1600, [3, 8, 0x11]), (0x1607, [4])]) (arrive t s) u) ∧
  (∀ (t : Nat) (n : CoreId) (s u : State), exec (.dispatchTimeout t n) s = .next u →
    OnlyRegs ([(0x1600, [3, 8, 9, 0x11]), (0x1607, [4])]) (arrive t s) u) ∧
  (∀ (t : Nat) (list : Fin 5) (s u : State), exec (.delayDue t list) s = .next u →
    OnlyRegs ([(0x1600, [3, 8, 0x11]), (0x1607, [4])]) (arrive t s) u) ∧
  (∀ (t : Nat) (s u : State), exec (.tick t) s = .next u →
    OnlyRegs ([(0x1600, [5])]) (arrive t s) u) ∧
  (∀ (t : Nat) (i : TimerId) (s u : State), exec (.intervalTimerDue t i) s = .next u →
    OnlyRegs ([(0x1620 + i.val, [4])] ++ evRegs) (arrive t s) u) ∧
  (∀ (t : Nat) (b : Fin 32) (s u : State), exec (.bankAccessGrant t b) s = .next u →
    OnlyRegs (inputRegs ++ eachQueue 64 [4, 9, 0xA, 0xB] ++ cameraRegs ++ [(0x5003, [4, 5, 9]), (0x5004, [b.val + 1]), (0x5000, [2])] ++ evRegs) (arrive t s) u) ∧
  (∀ (t : Nat) (faults : List (Nat × List Byte)) (s u : State), exec (.harrowBorrow t faults) s = .next u →
    OnlyRegs ([(0x5003, [3, 4, 5, 6, 7, 9]), (0x5004, (List.range 33)), (0x5000, [2])] ++ evRegs) (arrive t s) u) ∧
  (∀ (t : Nat) (s u : State), exec (.harrowRestoreComplete t) s = .next u →
    OnlyRegs ([(0x5003, [3, 4, 5, 9]), (0x5004, (List.range 33)), (0x5000, [2])] ++ evRegs) (arrive t s) u) ∧
  (∀ (t : Nat) (i : LpId) (s u : State), exec (.lpddrInitDone t i) s = .next u →
    OnlyRegs ([(0x5030 + i.val, [4])]) (arrive t s) u) ∧
  (∀ (t : Nat) (i : LpId) (failStep : Fin 16) (s u : State), exec (.lpddrTrainingDone t i failStep) s = .next u →
    OnlyRegs ([(0x5030 + i.val, [4, 5, 6, 8]), (0x5033, [2])] ++ evRegs) (arrive t s) u) ∧
  (∀ (t : Nat) (i : LpId) (code : Nat) (s u : State), exec (.lpddrMr4Read t i code) s = .next u →
    OnlyRegs ([(0x5030 + i.val, [7]), (0x5033, [2])] ++ evRegs) (arrive t s) u) ∧
  (∀ (t : Nat) (history : Option (CamId × Nat)) (s u : State), exec (.lpddrWriteRefused t history) s = .next u →
    OnlyRegs ([(0x3803, [6]), (0x3800, [3]), (0x5033, [2])] ++ eachIndex 2 (0x5030 + ·) [9] ++ evRegs) (arrive t s) u) ∧
  (∀ (t : Nat) (ni : NiId) (addr : Nat) (size : Nat) (write : Bool) (v : Nat) (s u : State), exec (.networkRequest t ni addr size write v) s = .next u →
    OnlyRegs (coreRegs ni.val ++ [(0x5010 + ni.val, [6, 8]), (0x5000, [2]), (0x5033, [2]), (0x5020, [3])] ++ eachNi [1]) (arrive t s) u) ∧
  (∀ (t : Nat) (ni : NiId) (tag : Nat) (s u : State), exec (.portStallTimeout t ni tag) s = .next u →
    OnlyRegs (coreRegs ni.val) (arrive t s) u) ∧
  (∀ (t : Nat) (ni : NiId) (s u : State), exec (.niTableSwap t ni) s = .next u →
    OnlyRegs (eachNi [1] ++ [(0x5020, [3]), (0x5000, [2])] ++ evRegs) (arrive t s) u) ∧
  (∀ (t : Nat) (s u : State), exec (.routerReconfigApply t) s = .next u →
    OnlyRegs ([(0x5021, [4, 5]), (0x5000, [2])] ++ evRegs) (arrive t s) u) ∧
  (∀ (t : Nat) (n : LaneId) (s u : State), exec (.lanePllLock t n) s = .next u →
    OnlyRegs ([(0x48A0, [4]), (lx n.val 1, [1, 5]), (lx n.val 3, [4])]) (arrive t s) u) ∧
  (∀ (t : Nat) (n : LaneId) (s u : State), exec (.laneDataEntry t n) s = .next u →
    OnlyRegs ([(lx n.val 1, [1, 4, 5])] ++ moveRegs ++ evRegs) (arrive t s) u) ∧
  (∀ (t : Nat) (n : LaneId) (inFrame : Bool) (s u : State), exec (.laneLinkDrop t n inFrame) s = .next u →
    OnlyRegs ([(lx n.val 1, [1, 4]), (lx n.val 2, [1, 2, 3, 4])] ++ moveRegs ++ evRegs) (arrive t s) u) ∧
  (∀ (t : Nat) (n : LaneId) (ready : Bool) (s u : State), exec (.laneStatusSet t n ready) s = .next u →
    OnlyRegs ([(lx n.val 1, [1, 4, 9]), (lx n.val 2, [3, 4])] ++ moveRegs ++ evRegs) (arrive t s) u) ∧
  (∀ (t : Nat) (n : LaneId) (ready : Bool) (s u : State), exec (.laneStatusSend t n ready) s = .next u →
    (∀ m, m ≠ n.val → laneOf u m = laneOf (arrive t s) m)) ∧
  (∀ (t : Nat) (n : LaneId) (s u : State), exec (.laneStatusSilence t n) s = .next u →
    OnlyRegs ([(lx n.val 1, [1, 4]), (lx n.val 2, [1, 2, 3, 4])] ++ moveRegs ++ evRegs) (arrive t s) u) ∧
  (∀ (t : Nat) (n : LaneId) (s u : State), exec (.acquireTimeout t n) s = .next u →
    OnlyRegs ([(lx n.val 1, [1, 4, 5]), (lx n.val 2, [5])] ++ evRegs) (arrive t s) u) ∧
  (∀ (t : Nat) (n : LaneId) (s u : State), exec (.laneStopComplete t n) s = .next u →
    OnlyRegs ([(lx n.val 0, [1]), (lx n.val 1, [1, 2, 3, 4]), (lx n.val 3, [4]), (0x48A0, [4])] ++ claimRegs) (arrive t s) u) ∧
  (∀ (t : Nat) (s u : State), exec (.refclkLost t) s = .next u →
    OnlyRegs (eachLane 1 [1, 4] ++ eachLane 3 [4] ++ [(0x48A0, [4, 6]), (0x1700, [7])] ++ moveRegs ++ evRegs) (arrive t s) u) ∧
  (∀ (t : Nat) (n : LaneId) (sums : List Int) (s u : State), exec (.dfeAdapt t n sums) s = .next u →
    OnlyRegs ([(lx n.val 1, [4])] ++ evRegs) (arrive t s) u ∧ (∀ m, m ≠ n.val → laneOf u m = laneOf (arrive t s) m)) ∧
  (∀ (t : Nat) (n : LaneId) (s u : State), exec (.prbsLock t n) s = .next u →
    OnlyRegs ([(lx n.val 1, [4, 5]), (lx n.val 3, [4])] ++ evRegs) (arrive t s) u ∧ (∀ m, m ≠ n.val → laneOf u m = laneOf (arrive t s) m)) ∧
  (∀ (t : Nat) (s u : State), exec (.segmentTimeout t) s = .next u →
    OnlyRegs ([(0x1201, [6])]) (arrive t s) u) ∧
  (∀ (t : Nat) (p : PortId) (s u : State), exec (.canBusOff t p) s = .next u →
    OnlyRegs ([(canK p.val, [9, 0xA]), (0x1200, [3])] ++ evRegs) (arrive t s) u) ∧
  (∀ (t : Nat) (p : PortId) (domain : Nat) (id : Nat) (seq : Nat) (origin : Option Nat) (s u : State), exec (.ptpSync t p domain id seq origin) s = .next u →
    OnlyRegs ([(0x1230, [8, 0xA, 0xD]), (0x1200, [3])] ++ evRegs) (arrive t s) u) ∧
  (∀ (t : Nat) (p : PortId) (domain : Nat) (id : Nat) (seq : Nat) (origin : Nat) (s u : State), exec (.ptpFollowUp t p domain id seq origin) s = .next u →
    OnlyRegs ([(0x1230, [8, 0xA, 0xD]), (0x1200, [3])] ++ evRegs) (arrive t s) u) ∧
  (∀ (t : Nat) (p : PortId) (domain : Nat) (id : Nat) (gm : Nat) (priority1 : Nat) (quality : Nat) (priority2 : Nat) (steps : Nat) (s u : State), exec (.ptpAnnounce t p domain id gm priority1 quality priority2 steps) s = .next u →
    OnlyRegs ([(0x1230, [8, 0xD]), (0x1200, [3])] ++ evRegs) (arrive t s) u) ∧
  (∀ (t : Nat) (p : PortId) (domain : Nat) (id : Nat) (seq : Nat) (t4 : Nat) (s u : State), exec (.ptpDelayResp t p domain id seq t4) s = .next u →
    OnlyRegs ([(0x1230, [0xB])]) (arrive t s) u) ∧
  (∀ (t : Nat) (s u : State), exec (.announceReceiptTimeout t) s = .next u →
    OnlyRegs ([(0x1230, [8, 0xD]), (0x1200, [3])] ++ evRegs) (arrive t s) u) ∧
  (∀ (t : Nat) (s u : State), exec (.ppsInEdge t) s = .next u →
    OnlyRegs ([(0x1231, [4])]) (arrive t s) u) ∧
  (∀ (t : Nat) (ok : Bool) (s u : State), exec (.storeComplete t ok) s = .next u →
    OnlyRegs ([(0x1102, [1, 2, 3, 4, 5, 8]), (0x1200, [3])] ++ evRegs) (arrive t s) u) ∧
  (∀ (t : Nat) (o : Fin 2) (s u : State), exec (.supplyOvercurrent t o) s = .next u →
    OnlyRegs ([(0x1501, [7, 0xA]), (0x1500, [8])] ++ evRegs) (arrive t s) u) ∧
  (∀ (t : Nat) (d : DomainId) (s u : State), exec (.domainFenceApplied t d) s = .next u →
    OnlyRegs ([(0x1511, [d.val + 1])]) (arrive t s) u) ∧
  (∀ (t : Nat) (d : DomainId) (s u : State), exec (.domainDrainComplete t d) s = .next u →
    OnlyRegs ([(0x1511, [d.val + 1]), (0x5003, [4, 5, 9]), (0x5004, (List.range 33)), (0x5000, [2])] ++ evRegs) (arrive t s) u) ∧
  (∀ (t : Nat) (s u : State), exec (.lineStopEntryTimeout t) s = .next u →
    OnlyRegs ([(0x1500, [2])]) (arrive t s) u) ∧
  (∀ (t : Nat) (aclkOk : Bool) (nclkOk : Bool) (s u : State), exec (.pllLockLoss t aclkOk nclkOk) s = .next u →
    OnlyRegs ([(0x1503, [1, 4]), (0x1500, [8])] ++ evRegs) (arrive t s) u) ∧
  (∀ (t : Nat) (err : Int) (s u : State), exec (.rcTrim t err) s = .next u →
    OnlyRegs ([(0x1503, [2])]) (arrive t s) u) ∧
  (∀ (t : Nat) (ok : Bool) (s u : State), exec (.flashUpdateComplete t ok) s = .next u →
    OnlyRegs ([(0x1403, [1, 2]), (0x1400, [8])] ++ evRegs) (arrive t s) u) ∧
  (∀ (t : Nat) (s u : State), exec (.trngHealthFail t) s = .next u →
    OnlyRegs ([(0x140B, [1, 3]), (0x1400, [8])] ++ evRegs) (arrive t s) u) ∧
  (∀ (t : Nat) (n : LaneId) (s u : State), exec (.prbsLockLoss t n) s = .next u →
    OnlyRegs ([(lx n.val 1, [4]), (lx n.val 3, [4, 5])] ++ evRegs) (arrive t s) u ∧ (∀ m, m ≠ n.val → laneOf u m = laneOf (arrive t s) m)) ∧
  (∀ (t : Nat) (n : LaneId) (s u : State), exec (.prbsBitError t n) s = .next u →
    OnlyRegs ([(lx n.val 1, [4]), (lx n.val 3, [4, 5])] ++ evRegs) (arrive t s) u ∧ (∀ m, m ≠ n.val → laneOf u m = laneOf (arrive t s) m)) ∧
  (∀ (t : Nat) (n : LaneId) (header : Bool) (inFrame : Bool) (s u : State), exec (.blockError t n header inFrame) s = .next u →
    OnlyRegs ([(lx n.val 1, [1, 4]), (lx n.val 2, [1, 2, 3, 4])] ++ moveRegs ++ evRegs) (arrive t s) u) ∧
  (∀ (t : Nat) (s u : State), exec (.refclkRestored t) s = .next u →
    OnlyRegs ([(0x48A0, [6])]) (arrive t s) u) ∧
  (∀ (t : Nat) (s u : State), exec (.lfxoStop t) s = .next u →
    OnlyRegs ([(0x1503, [1])]) (arrive t s) u) ∧
  (∀ (t : Nat) (p : PortId) (up : Bool) (s u : State), exec (.ethLinkChange t p up) s = .next u →
    OnlyRegs ([(0x1230, [8, 0xD]), (ethE p.val, [0xD]), (0x1200, [3])] ++ evRegs) (arrive t s) u) ∧
  (∀ (t : Nat) (p : PortId) (passive : Bool) (s u : State), exec (.canBusStateChange t p passive) s = .next u →
    OnlyRegs ([(canK p.val, [9]), (0x1200, [3])] ++ evRegs) (arrive t s) u) ∧
  (∀ (t : Nat) (ok : Bool) (s u : State), exec (.trngStartupComplete t ok) s = .next u →
    OnlyRegs ([(0x140B, [1, 3]), (0x1400, [8])] ++ evRegs) (arrive t s) u) ∧
  (∀ (t : Nat) (ok : Bool) (s u : State), quiet (arrive t s) = true → (arrive t s).pair.mirror = [] → exec (.journalWriteComplete t ok) s = .next u →
    OnlyRegs ([(0x4000, [1, 2, 4, 6, 8, 9, 0xA]), (0x4002, [1, 2]), (0x4008, [8]), (0x4009, [5])] ++ eachAllotment (List.range 0x20) ++ claims ++ evRegs) (arrive t s) u) ∧
  (∀ (t : Nat) (s u : State), quiet (arrive t s) = true → (arrive t s).pair.mirror = [] → exec (.serialRecovery t) s = .next u →
    OnlyRegs ([(0x4000, [1, 2, 4, 8, 9]), (0x4008, [5, 7]), (0x4009, [5])] ++ eachAllotment (List.range 0x20) ++ claims ++ evRegs) (arrive t s) u) ∧
  (∀ (t : Nat) (s u : State), quiet (arrive t s) = true → (arrive t s).pair.mirror = [] → exec (.ledgerRecordWrite t) s = .next u →
    OnlyRegs ([(0x4000, [4]), (0x4008, [4, 5, 7, 8])] ++ eachAllotment (List.range 0x20) ++ evRegs) (arrive t s) u) ∧
  (∀ (t : Nat) (s u : State), quiet (arrive t s) = true → (arrive t s).pair.mirror = [] → exec (.checkpointStart t) s = .next u →
    OnlyRegs ([]) (arrive t s) u) ∧
  (∀ (t : Nat) (s u : State), quiet (arrive t s) = true → (arrive t s).pair.mirror = [] → exec (.checkpointPublish t) s = .next u →
    OnlyRegs ([(0x4000, [4]), (0x4009, [4, 8])] ++ evRegs) (arrive t s) u) ∧
  (∀ (t : Nat) (i : PairLane) (role : Nat) (p : List Byte) (ok : Bool) (s u : State), quiet (arrive t s) = true → (arrive t s).pair.mirror = [] → exec (.hello t i role p ok) s = .next u →
    OnlyRegs (pairRegs) (arrive t s) u) ∧
  (∀ (t : Nat) (i : PairLane) (role : Nat) (p : List Byte) (ok : Bool) (s u : State), quiet (arrive t s) = true → (arrive t s).pair.mirror = [] → exec (.heartbeat t i role p ok) s = .next u →
    OnlyRegs (pairRegs) (arrive t s) u) ∧
  (∀ (t : Nat) (s u : State), quiet (arrive t s) = true → (arrive t s).pair.mirror = [] → exec (.arbitrationTimeout t) s = .next u →
    OnlyRegs (pairRegs) (arrive t s) u) ∧
  (∀ (t : Nat) (agentStopped : Bool) (s u : State), quiet (arrive t s) = true → (arrive t s).pair.mirror = [] → exec (.watchdogExpiry t agentStopped) s = .next u →
    OnlyRegs (pairRegs) (arrive t s) u) ∧
  (∀ (t : Nat) (alive : Bool) (role : Bool) (s u : State), quiet (arrive t s) = true → (arrive t s).pair.mirror = [] → exec (.sidebandLowTimeout t alive role) s = .next u →
    OnlyRegs (pairRegs) (arrive t s) u) ∧
  (∀ (t : Nat) (s u : State), quiet (arrive t s) = true → (arrive t s).pair.mirror = [] → exec (.linkLost t) s = .next u →
    OnlyRegs (pairRegs) (arrive t s) u) ∧
  (∀ (t : Nat) (s u : State), quiet (arrive t s) = true → (arrive t s).pair.mirror = [] → exec (.linkLost200us t) s = .next u →
    OnlyRegs (pairRegs) (arrive t s) u) ∧
  (∀ (t : Nat) (s u : State), quiet (arrive t s) = true → (arrive t s).pair.mirror = [] → exec (.orderedAnswerTimeout t) s = .next u →
    OnlyRegs (pairRegs) (arrive t s) u) ∧
  (∀ (t : Nat) (i : PairLane) (seq : Nat) (role : Nat) (p : List Byte) (ok : Bool) (s u : State), quiet (arrive t s) = true → (arrive t s).pair.mirror = [] → exec (.ack t i seq role p ok) s = .next u →
    OnlyRegs (pairRegs ++ [(0x4000, [4, 7])]) (arrive t s) u) ∧
  (∀ (t : Nat) (i : PairLane) (seq : Nat) (role : Nat) (p : List Byte) (ok : Bool) (s u : State), quiet (arrive t s) = true → (arrive t s).pair.mirror = [] → exec (.nak t i seq role p ok) s = .next u →
    OnlyRegs (pairRegs ++ [(0x4000, [4, 7])]) (arrive t s) u) ∧
  (∀ (t : Nat) (i : PairLane) (seq : Nat) (role : Nat) (p : List Byte) (ok : Bool) (s u : State), quiet (arrive t s) = true → (arrive t s).pair.mirror = [] → exec (.commit t i seq role p ok) s = .next u →
    OnlyRegs (pairRegs ++ eachAllotment (List.range 0x20) ++ [(0x4000, [4])]) (arrive t s) u) ∧
  (∀ (t : Nat) (i : PairLane) (seq : Nat) (role : Nat) (p : List Byte) (ok : Bool) (s u : State), quiet (arrive t s) = true → (arrive t s).pair.mirror = [] → exec (.reserve t i seq role p ok) s = .next u →
    OnlyRegs (pairRegs) (arrive t s) u) ∧
  (∀ (t : Nat) (i : PairLane) (seq : Nat) (role : Nat) (p : List Byte) (ok : Bool) (s u : State), quiet (arrive t s) = true → (arrive t s).pair.mirror = [] → exec (.mapSwitch t i seq role p ok) s = .next u →
    OnlyRegs (pairRegs ++ eachBar 4 [4, 5]) (arrive t s) u) ∧
  (∀ (t : Nat) (i : PairLane) (seq : Nat) (role : Nat) (p : List Byte) (ok : Bool) (s u : State), quiet (arrive t s) = true → (arrive t s).pair.mirror = [] → exec (.checkpointState t i seq role p ok) s = .next u →
    OnlyRegs (pairRegs ++ eachAllotment (List.range 0x20) ++ [(0x4008, [5, 7]), (0x4009, [5])]) (arrive t s) u) ∧
  (∀ (t : Nat) (i : PairLane) (seq : Nat) (role : Nat) (p : List Byte) (ok : Bool) (s u : State), quiet (arrive t s) = true → (arrive t s).pair.mirror = [] → exec (.digest t i seq role p ok) s = .next u →
    OnlyRegs (pairRegs) (arrive t s) u) ∧
  (∀ (t : Nat) (i : PairLane) (seq : Nat) (role : Nat) (p : List Byte) (ok : Bool) (s u : State), quiet (arrive t s) = true → (arrive t s).pair.mirror = [] → exec (.orphan t i seq role p ok) s = .next u →
    OnlyRegs (pairRegs) (arrive t s) u) ∧
  (∀ (t : Nat) (i : PairLane) (seq : Nat) (role : Nat) (p : List Byte) (ok : Bool) (s u : State), quiet (arrive t s) = true → (arrive t s).pair.mirror = [] → exec (.positionMark t i seq role p ok) s = .next u →
    OnlyRegs (pairRegs ++ eachEncoder [6, 8] ++ eachGen [7]) (arrive t s) u) ∧
  (∀ (t : Nat) (e : EncId) (pos : Option Nat) (s u : State), quiet (arrive t s) = true → (arrive t s).pair.mirror = [] → exec (.encoderIdleAlign t e pos) s = .next u →
    OnlyRegs ([(ex e.val, [6, 8]), (0x1302, [2])] ++ eachGen [7]) (arrive t s) u) ∧
  (∀ (t : Nat) (rewritten : Nat) (s u : State), quiet (arrive t s) = true → (arrive t s).pair.mirror = [] → exec (.resyncCut t rewritten) s = .next u →
    OnlyRegs ([(0x1302, [2, 0xA]), (0x1305, [2]), (0x2601, [1, 2])] ++ evRegs) (arrive t s) u) ∧
  (∀ (t : Nat) (s u : State), quiet (arrive t s) = true → (arrive t s).pair.mirror = [] → exec (.resyncHoldLimit t) s = .next u →
    OnlyRegs ([(0x1302, [2, 0xA]), (0x1306, [9]), (0x2601, [1, 2])]) (arrive t s) u) ∧
  (∀ (t : Nat) (s u : State), quiet (arrive t s) = true → (arrive t s).pair.mirror = [] → exec (.catchUpComplete t) s = .next u →
    OnlyRegs (pairRegs) (arrive t s) u) ∧
  (∀ (t : Nat) (i : PairLane) (seq : Nat) (role : Nat) (p : List Byte) (ok : Bool) (s u : State), quiet (arrive t s) = true → (arrive t s).pair.mirror = [] → exec (.resyncDone t i seq role p ok) s = .next u →
    OnlyRegs (pairRegs) (arrive t s) u) ∧
  (∀ (t : Nat) (s u : State), quiet (arrive t s) = true → (arrive t s).pair.mirror = [] → exec (.resyncTimeout t) s = .next u →
    OnlyRegs (pairRegs) (arrive t s) u) ∧
  (∀ (t : Nat) (p : PortId) (node : Nat) (s u : State), quiet (arrive t s) = true → (arrive t s).pair.mirror = [] → sysRuns (arrive t s) = true → exec (.nmtStart t p node) s = .next u →
    OnlyRegs ([(canK p.val, [5])]) (arrive t s) u) ∧
  (∀ (t : Nat) (p : PortId) (node : Nat) (s u : State), quiet (arrive t s) = true → (arrive t s).pair.mirror = [] → sysRuns (arrive t s) = true → exec (.nmtStop t p node) s = .next u →
    OnlyRegs ([(canK p.val, [5])]) (arrive t s) u) ∧
  (∀ (t : Nat) (p : PortId) (node : Nat) (s u : State), quiet (arrive t s) = true → (arrive t s).pair.mirror = [] → sysRuns (arrive t s) = true → exec (.nmtEnterPreOperational t p node) s = .next u →
    OnlyRegs ([(canK p.val, [5])]) (arrive t s) u) ∧
  (∀ (t : Nat) (p : PortId) (node : Nat) (s u : State), quiet (arrive t s) = true → (arrive t s).pair.mirror = [] → sysRuns (arrive t s) = true → exec (.nmtResetNode t p node) s = .next u →
    OnlyRegs ([(canK p.val, [5])]) (arrive t s) u) ∧
  (∀ (t : Nat) (p : PortId) (node : Nat) (s u : State), quiet (arrive t s) = true → (arrive t s).pair.mirror = [] → sysRuns (arrive t s) = true → exec (.nmtResetCommunication t p node) s = .next u →
    OnlyRegs ([(canK p.val, [5])]) (arrive t s) u) ∧
  (∀ (t : Nat) (p : PortId) (idx : Nat) (sub : Nat) (off : Nat) (max : Nat) (s u : State), quiet (arrive t s) = true → (arrive t s).pair.mirror = [] → sysRuns (arrive t s) = true → exec (.sdoUpload t p idx sub off max) s = .next u →
    OnlyRegs ([(canK p.val, [0xB, 0xC]), (0x1200, [3])] ++ evRegs) (arrive t s) u) ∧
  (∀ (t : Nat) (p : PortId) (s u : State), quiet (arrive t s) = true → (arrive t s).pair.mirror = [] → exec (.sdoTimeout t p) s = .next u →
    OnlyRegs ([(canK p.val, [0xB, 0xC]), (0x1200, [3])] ++ evRegs) (arrive t s) u) ∧
  (∀ (t : Nat) (n : CoreId) (s u : State), quiet (arrive t s) = true → (arrive t s).pair.mirror = [] → exec (.mailboxComplete t n) s = .next u →
    OnlyRegs ([(cS n.val, [2, 0xC])] ++ evRegs) (arrive t s) u) ∧
  (∀ (t : Nat) (s u : State), quiet (arrive t s) = true → (arrive t s).pair.mirror = [] → exec (.attestDone t) s = .next u →
    OnlyRegs ([(0x140A, [2]), (0x1400, [8])] ++ evRegs) (arrive t s) u) ∧
  (∀ (t : Nat) (ok : Bool) (s u : State), quiet (arrive t s) = true → (arrive t s).pair.mirror = [] → exec (.snapshotWriteComplete t ok) s = .next u →
    OnlyRegs ([(0x1700, [2, 3])]) (arrive t s) u) ∧
  (∀ (t : Nat) (i : PairLane) (s u : State), quiet (arrive t s) = true → (arrive t s).pair.mirror = [] → exec (.pairLaneHeartbeatTimeout t i) s = .next u →
    OnlyRegs (pairRegs) (arrive t s) u)

/-- What the writes named here leave unchanged.
A write by a source that is not served changes nothing and has no status; one that steps 1 to 8 of R364 refuse changes nothing but its answer; and for each write named here that passes them and is performed at once, only the named parts of the state and the named registers change, with the mark that parameters have changed. Each read named here, performed at once, changes its answer and what reading takes. Writes that reset the engine, change its power mode or wait for the journal, and a partner's, have no clause here. -/
def Obligations.WritesKeepTheRest : Prop :=
  (∀ (src : Source) (idx sub : Nat) (v : ObjVal) (s u : State), served (start s) src = false → exec (.objectWrite src idx sub v) s = .next u →
    u = { s with answer := u.answer } ∧ u.answer.status = none) ∧
  (∀ (src : Source) (idx sub : Nat) (o : ObjRef) (v : ObjVal) (e : Status) (s u : State), quiet s = true → s.pair.mirror = [] → served (start s) src = true →
    resolveObj idx sub = .ok o → o.desc.ty ≠ .domain → v.bytes.length ≤ 1024 → writeCheck (start s) src o v = some e → exec (.objectWrite src idx sub v) s = .next u →
    u = { s with answer := u.answer } ∧ u.answer.status = some e) ∧
  (∀ (src : Source) (idx sub : Nat) (o : ObjRef) (v : ObjVal) (s u : State), Plain idx sub o → canWrite s src idx sub v = true → exec (.objectWrite src idx sub v) s = .next u →
    u = { s with answer := u.answer, obj := u.obj, security := { s.security with paramsDirty := u.security.paramsDirty } } ∧ OnlyRegs [(idx, [sub])] s u) ∧
  (∀ (src : Source) (idx : Nat) (sub : Nat) (v : Nat) (s u : State), isTrouble idx sub = true → canSet s src idx sub v = true → exec (.troubleCounterClear src idx sub v) s = .next u →
    u = { s with answer := u.answer, obj := u.obj, security := { s.security with paramsDirty := u.security.paramsDirty } } ∧ OnlyRegs ([(idx, [sub])]) s u) ∧
  (∀ (src : Source) (idx : Nat) (sub : Nat) (v : Nat) (s u : State), isCause idx sub = true → canSet s src idx sub v = true → exec (.eventCauseClear src idx sub v) s = .next u →
    u = { s with answer := u.answer, obj := u.obj, security := { s.security with paramsDirty := u.security.paramsDirty } } ∧ OnlyRegs ([(idx, [sub])]) s u) ∧
  (∀ (src : Source) (r : Fin 4) (v : Nat) (s u : State), canSet s src (0x2600) (r.val + 1) (v) = true → exec (.rowBypassWrite src r v) s = .next u →
    u = { s with answer := u.answer, obj := u.obj, stamps := u.stamps, fresh := u.fresh, events := u.events, coalesced := u.coalesced, arr := u.arr, sched := u.sched, security := { s.security with paramsDirty := u.security.paramsDirty } } ∧ OnlyRegs ([(0x2600, [r.val + 1]), (0x2603, [6, 7, 8]), (0x2608, [1])] ++ eachField 0 [3] ++ eachField 6 [1] ++ evRegs) s u) ∧
  (∀ (src : Source) (s u : State), canSet s src (0x2603) 5 (1) = true → exec (.tuningLoadGo src) s = .next u →
    u = { s with answer := u.answer, obj := u.obj, stamps := u.stamps, fresh := u.fresh, events := u.events, coalesced := u.coalesced, arr := u.arr, sched := u.sched, noc := u.noc, security := { s.security with paramsDirty := u.security.paramsDirty } } ∧ OnlyRegs ([(0x2603, [6])]) s u) ∧
  (∀ (src : Source) (f : FieldId) (s u : State), canSet s src (0x2005 + 0x40 * f.val) 7 (1) = true → exec (.retuneGo src f) s = .next u →
    u = { s with answer := u.answer, obj := u.obj, fresh := u.fresh, events := u.events, coalesced := u.coalesced, arr := u.arr, sched := u.sched, security := { s.security with paramsDirty := u.security.paramsDirty } } ∧ OnlyRegs (fieldRegs f.val ++ evRegs) s u) ∧
  (∀ (src : Source) (s u : State), canSet s src (0x2602) 8 (1) = true → exec (.groupRetuneGo src) s = .next u →
    u = { s with answer := u.answer, obj := u.obj, fresh := u.fresh, events := u.events, coalesced := u.coalesced, arr := u.arr, sched := u.sched, security := { s.security with paramsDirty := u.security.paramsDirty } } ∧ OnlyRegs (anyField ++ evRegs) s u) ∧
  (∀ (src : Source) (f : FieldId) (s u : State), canSet s src (0x2005 + 0x40 * f.val) 8 (1) = true → exec (.retuneCancel src f) s = .next u →
    u = { s with answer := u.answer, obj := u.obj, arr := u.arr, security := { s.security with paramsDirty := u.security.paramsDirty } } ∧ OnlyRegs ([(0x2006 + 0x40 * f.val, [1])]) s u) ∧
  (∀ (src : Source) (s u : State), canSet s src (0x2601) 1 (1) = true → exec (.capoHold src) s = .next u →
    u = { s with answer := u.answer, obj := u.obj, security := { s.security with paramsDirty := u.security.paramsDirty } } ∧ OnlyRegs ([(0x2601, [1, 2])]) s u) ∧
  (∀ (src : Source) (s u : State), canSet s src (0x2601) 1 (0) = true → exec (.capoRelease src) s = .next u →
    u = { s with answer := u.answer, obj := u.obj, security := { s.security with paramsDirty := u.security.paramsDirty } } ∧ OnlyRegs ([(0x2601, [1, 2])]) s u) ∧
  (∀ (src : Source) (f : FieldId) (s u : State), canSet s src (0x2001 + 0x40 * f.val) 0 (0) = true → exec (.fieldHalt src f) s = .next u →
    u = { s with answer := u.answer, obj := u.obj, arr := u.arr, security := { s.security with paramsDirty := u.security.paramsDirty } } ∧ OnlyRegs ([(0x2001 + 0x40 * f.val, [0])]) s u ∧ (∀ g, g ≠ f.val → fieldOf u g = fieldOf s g)) ∧
  (∀ (src : Source) (f : FieldId) (s u : State), canSet s src (0x2001 + 0x40 * f.val) 0 (1) = true → exec (.fieldRun src f) s = .next u →
    u = { s with answer := u.answer, obj := u.obj, arr := u.arr, security := { s.security with paramsDirty := u.security.paramsDirty } } ∧ OnlyRegs ([(0x2001 + 0x40 * f.val, [0])]) s u ∧ (∀ g, g ≠ f.val → fieldOf u g = fieldOf s g)) ∧
  (∀ (src : Source) (f : FieldId) (s u : State), canSet s src (0x2002 + 0x40 * f.val) 0 (1) = true → exec (.fieldClear src f) s = .next u →
    u = { s with answer := u.answer, arr := u.arr, security := { s.security with paramsDirty := u.security.paramsDirty } } ∧ (∀ g, g ≠ f.val → fieldOf u g = fieldOf s g)) ∧
  (∀ (src : Source) (f : FieldId) (slot : Nat) (s u : State), canSet s src (0x1702) (f.val + 1) (slot) = true → exec (.activateSlot src f slot) s = .next u →
    u = { s with answer := u.answer, obj := u.obj, arr := u.arr, security := { s.security with paramsDirty := u.security.paramsDirty } } ∧ OnlyRegs ([(0x2000 + 0x40 * f.val, [3])]) s u ∧ (∀ g, g ≠ f.val → fieldOf u g = fieldOf s g)) ∧
  (∀ (src : Source) (q : QueueId) (v : Nat) (s u : State), canSet s src (qc q.val) 0xB (v) = true → exec (.dmaHostIndexWrite src q v) s = .next u →
    u = { s with answer := u.answer, obj := u.obj, queues := u.queues, security := { s.security with paramsDirty := u.security.paramsDirty } } ∧ OnlyRegs ([(qc q.val, [0xB])]) s u ∧ (∀ p, p ≠ q.val → queueOf u p = queueOf s p)) ∧
  (∀ (src : Source) (q : QueueId) (s u : State), canSet s src (qc q.val) 7 (1) = true → exec (.queueFlush src q) s = .next u →
    u = { s with answer := u.answer, obj := u.obj, fresh := u.fresh, events := u.events, coalesced := u.coalesced, queues := u.queues, sched := u.sched, noc := u.noc, security := { s.security with paramsDirty := u.security.paramsDirty } } ∧ OnlyRegs ([(qc q.val, [7]), (qs q.val, [4, 7, 8, 0xA])] ++ evRegs) s u ∧ (∀ p, p ≠ q.val → queueOf u p = queueOf s p)) ∧
  (∀ (src : Source) (q : QueueId) (s u : State), canSet s src (qc q.val) 7 (2) = true → exec (.queueFlushApply src q) s = .next u →
    u = { s with answer := u.answer, obj := u.obj, fresh := u.fresh, events := u.events, coalesced := u.coalesced, queues := u.queues, sched := u.sched, noc := u.noc, security := { s.security with paramsDirty := u.security.paramsDirty } } ∧ OnlyRegs ([(qc q.val, [7]), (qs q.val, [4, 7, 8, 0xA])] ++ evRegs) s u ∧ (∀ p, p ≠ q.val → queueOf u p = queueOf s p)) ∧
  (∀ (src : Source) (q : QueueId) (length : Bool) (v : Nat) (s u : State), canSet s src (qc q.val) (if length then 6 else 5) (v) = true → exec (.spillRegionWrite src q length v) s = .next u →
    u = { s with answer := u.answer, obj := u.obj, fresh := u.fresh, events := u.events, coalesced := u.coalesced, queues := u.queues, sched := u.sched, security := { s.security with paramsDirty := u.security.paramsDirty } } ∧ OnlyRegs ([(qc q.val, [5, 6, 7]), (qs q.val, [7, 8, 0xA])] ++ evRegs) s u ∧ (∀ p, p ≠ q.val → queueOf u p = queueOf s p)) ∧
  (∀ (src : Source) (q : QueueId) (s u : State), canSet s src (qc q.val) 1 (1) = true → exec (.queueEnable src q) s = .next u →
    u = { s with answer := u.answer, obj := u.obj, stamps := u.stamps, fresh := u.fresh, events := u.events, coalesced := u.coalesced, queues := u.queues, sched := u.sched, security := { s.security with paramsDirty := u.security.paramsDirty } } ∧ OnlyRegs ([(qc q.val, [1, 0xB, 0xC]), (qs q.val, [1, 2, 7, 8, 0xE])] ++ claimRegs) s u ∧ (∀ p, p ≠ q.val → queueOf u p = queueOf s p)) ∧
  (∀ (src : Source) (q : QueueId) (s u : State), canSet s src (qc q.val) 1 (0) = true → exec (.queueDisable src q) s = .next u →
    u = { s with answer := u.answer, obj := u.obj, stamps := u.stamps, arr := u.arr, queues := u.queues, noc := u.noc, security := { s.security with paramsDirty := u.security.paramsDirty } } ∧ OnlyRegs ([(qc q.val, [1, 7]), (qs q.val, [1, 2, 4])]) s u ∧ (∀ p, p ≠ q.val → queueOf u p = queueOf s p)) ∧
  (∀ (src : Source) (e : EncId) (s u : State), canSet s src (ex e.val) 1 (1) = true → exec (.encoderEnable src e) s = .next u →
    u = { s with answer := u.answer, obj := u.obj, stamps := u.stamps, fresh := u.fresh, events := u.events, coalesced := u.coalesced, print := u.print, sched := u.sched, security := { s.security with paramsDirty := u.security.paramsDirty } } ∧ OnlyRegs ([(ex e.val, [1, 0xC, 0xD, 0x11])] ++ claimRegs) s u) ∧
  (∀ (src : Source) (e : EncId) (s u : State), canSet s src (ex e.val) 1 (0) = true → exec (.encoderDisable src e) s = .next u →
    u = { s with answer := u.answer, obj := u.obj, stamps := u.stamps, fresh := u.fresh, events := u.events, coalesced := u.coalesced, print := u.print, sched := u.sched, security := { s.security with paramsDirty := u.security.paramsDirty } } ∧ OnlyRegs ([(ex e.val, [1, 6, 8, 0xC, 0xD, 0xF])] ++ eachGen [7] ++ evRegs) s u) ∧
  (∀ (src : Source) (e : EncId) (v : Nat) (s u : State), canSet s src (ex e.val) 7 (v) = true → exec (.positionPreset src e v) s = .next u →
    u = { s with answer := u.answer, obj := u.obj, print := u.print, security := { s.security with paramsDirty := u.security.paramsDirty } } ∧ OnlyRegs ([(ex e.val, [6, 7, 8])] ++ eachGen [7]) s u) ∧
  (∀ (src : Source) (g : GenId) (s u : State), canSet s src (gx g.val) 1 (1) = true → exec (.lineGenEnable src g) s = .next u →
    u = { s with answer := u.answer, obj := u.obj, print := u.print, security := { s.security with paramsDirty := u.security.paramsDirty } } ∧ OnlyRegs ([(gx g.val, [1])]) s u) ∧
  (∀ (src : Source) (g : GenId) (s u : State), canSet s src (gx g.val) 1 (0) = true → exec (.lineGenDisable src g) s = .next u →
    u = { s with answer := u.answer, obj := u.obj, print := u.print, security := { s.security with paramsDirty := u.security.paramsDirty } } ∧ OnlyRegs ([(gx g.val, [1])]) s u) ∧
  (∀ (src : Source) (k : TrigId) (s u : State), canSet s src (tx k.val) 1 (1) = true → exec (.triggerEnable src k) s = .next u →
    u = { s with answer := u.answer, obj := u.obj, fresh := u.fresh, events := u.events, coalesced := u.coalesced, sched := u.sched, security := { s.security with paramsDirty := u.security.paramsDirty } } ∧ OnlyRegs ([(tx k.val, [1, 0x11, 0x14])] ++ claimRegs) s u) ∧
  (∀ (src : Source) (k : TrigId) (s u : State), canSet s src (tx k.val) 1 (0) = true → exec (.triggerDisable src k) s = .next u →
    u = { s with answer := u.answer, obj := u.obj, fresh := u.fresh, events := u.events, coalesced := u.coalesced, sched := u.sched, security := { s.security with paramsDirty := u.security.paramsDirty } } ∧ OnlyRegs ([(tx k.val, [1, 0x11, 0x14])] ++ claimRegs) s u) ∧
  (∀ (src : Source) (b : BarId) (v : Nat) (s u : State), canSet s src (bx b.val 4) 7 (v) = true → exec (.mapEdit src b v) s = .next u →
    u = { s with answer := u.answer, obj := u.obj, mem := u.mem, lanes := u.lanes, print := u.print, pair := u.pair, security := { s.security with paramsDirty := u.security.paramsDirty } } ∧ OnlyRegs ([(bx b.val 4, [4, 5])]) s u) ∧
  (∀ (src : Source) (b : BarId) (bytes : List Byte) (s u : State), canPut s src (bx b.val 4) 8 bytes = true → exec (.mapImageWrite src b bytes) s = .next u →
    u = { s with answer := u.answer, obj := u.obj, mem := u.mem, lanes := u.lanes, print := u.print, pair := u.pair, noc := u.noc, security := { s.security with paramsDirty := u.security.paramsDirty } } ∧ OnlyRegs ([(bx b.val 4, [4, 5])]) s u) ∧
  (∀ (src : Source) (b : BarId) (s u : State), canSet s src (bx b.val 0) 1 (1) = true → exec (.barEnable src b) s = .next u →
    u = { s with answer := u.answer, obj := u.obj, stamps := u.stamps, fresh := u.fresh, events := u.events, coalesced := u.coalesced, print := u.print, sched := u.sched, security := { s.security with paramsDirty := u.security.paramsDirty } } ∧ OnlyRegs ([(bx b.val 0, [1, 4, 5, 6]), (bx b.val 2, [4])] ++ claimRegs) s u) ∧
  (∀ (src : Source) (b : BarId) (s u : State), canSet s src (bx b.val 0) 1 (0) = true → exec (.barDisable src b) s = .next u →
    u = { s with answer := u.answer, obj := u.obj, stamps := u.stamps, print := u.print, security := { s.security with paramsDirty := u.security.paramsDirty } } ∧ OnlyRegs ([(bx b.val 0, [1, 4, 5]), (bx b.val 7, [4])]) s u) ∧
  (∀ (src : Source) (unit : Fin 30) (bytes : List Byte) (s u : State), canPut s src (mgmtIndex unit.val) (if unit.val < 24 then 1 else 0x11) bytes = true → exec (.mgmtRequest src unit bytes) s = .next u →
    u = { s with answer := u.answer, obj := u.obj, stamps := u.stamps, lanes := u.lanes, print := u.print, mem := u.mem, noc := u.noc, security := { s.security with paramsDirty := u.security.paramsDirty } } ∧ OnlyRegs ([(mgmtIndex unit.val, [if unit.val < 24 then 3 else 0x13])]) s u) ∧
  (∀ (src : Source) (j : GateId) (s u : State), canSet s src (gc j.val) 1 (1) = true → exec (.gateEnable src j) s = .next u →
    u = { s with answer := u.answer, obj := u.obj, fresh := u.fresh, events := u.events, coalesced := u.coalesced, print := u.print, sched := u.sched, security := { s.security with paramsDirty := u.security.paramsDirty } } ∧ OnlyRegs ([(gc j.val, [1]), (gc j.val + 1, [2, 4, 9])] ++ evRegs) s u) ∧
  (∀ (src : Source) (j : GateId) (s u : State), canSet s src (gc j.val) 1 (0) = true → exec (.gateDisable src j) s = .next u →
    u = { s with answer := u.answer, obj := u.obj, fresh := u.fresh, events := u.events, coalesced := u.coalesced, print := u.print, sched := u.sched, security := { s.security with paramsDirty := u.security.paramsDirty } } ∧ OnlyRegs ([(gc j.val, [1]), (gc j.val + 1, [2, 4, 9])] ++ evRegs) s u) ∧
  (∀ (src : Source) (j : GateId) (v : Nat) (s u : State), canSet s src (gc j.val) 6 (v) = true → exec (.polarityWrite src j v) s = .next u →
    u = { s with answer := u.answer, obj := u.obj, security := { s.security with paramsDirty := u.security.paramsDirty } } ∧ OnlyRegs ([(gc j.val, [6])]) s u) ∧
  (∀ (src : Source) (id : Nat) (s u : State), canSet s src (0x3201) 3 (id) = true → exec (.forceReject src id) s = .next u →
    u = { s with answer := u.answer, obj := u.obj, fresh := u.fresh, events := u.events, coalesced := u.coalesced, print := u.print, sched := u.sched, security := { s.security with paramsDirty := u.security.paramsDirty } } ∧ OnlyRegs ([(0x3200, [6])] ++ evRegs) s u) ∧
  (∀ (src : Source) (k : CamId) (s u : State), canSet s src (cc k.val) 1 (1) = true → exec (.cameraEnable src k) s = .next u →
    u = { s with answer := u.answer, obj := u.obj, stamps := u.stamps, fresh := u.fresh, events := u.events, coalesced := u.coalesced, print := u.print, sched := u.sched, security := { s.security with paramsDirty := u.security.paramsDirty } } ∧ OnlyRegs ([(cc k.val, [1]), (cs k.val, [1, 2, 3])] ++ claimRegs) s u) ∧
  (∀ (src : Source) (k : CamId) (s u : State), canSet s src (cc k.val) 1 (0) = true → exec (.cameraDisable src k) s = .next u →
    u = { s with answer := u.answer, obj := u.obj, stamps := u.stamps, fresh := u.fresh, events := u.events, coalesced := u.coalesced, lanes := u.lanes, print := u.print, pair := u.pair, sched := u.sched, security := { s.security with paramsDirty := u.security.paramsDirty } } ∧ OnlyRegs ([(cc k.val, [1]), (cs k.val, [1, 2])] ++ roleRegs ++ evRegs) s u) ∧
  (∀ (src : Source) (v : Nat) (s u : State), canSet s src (0x3801) 1 (v) = true → exec (.verdictPost src v) s = .next u →
    u = { s with answer := u.answer, obj := u.obj, stamps := u.stamps, fresh := u.fresh, events := u.events, coalesced := u.coalesced, lanes := u.lanes, print := u.print, pair := u.pair, sched := u.sched, security := { s.security with paramsDirty := u.security.paramsDirty } } ∧ OnlyRegs ([(0x3800, [3, 4, 5, 6, 7, 8, 9, 0xA])] ++ eachGate [2, 4, 5, 6] ++ roleRegs ++ evRegs) s u) ∧
  (∀ (src : Source) (v : Nat) (s u : State), canSet s src (0x3802) 0x1D (v) = true → exec (.healthPost src v) s = .next u →
    u = { s with answer := u.answer, obj := u.obj, mem := u.mem, fresh := u.fresh, events := u.events, coalesced := u.coalesced, lanes := u.lanes, print := u.print, pair := u.pair, sched := u.sched, security := { s.security with paramsDirty := u.security.paramsDirty } } ∧ OnlyRegs ([(0x3800, [3]), (0x3802, (List.range 24).map (5 + ·))] ++ eachBar 4 [4, 5] ++ evRegs) s u) ∧
  (∀ (src : Source) (a : AllotId) (s u : State), canSet s src (0x4020 + 2 * a.val) 1 (1) = true → exec (.allotmentRetire src a) s = .next u →
    u = { s with answer := u.answer, obj := u.obj, serial := u.serial, security := { s.security with paramsDirty := u.security.paramsDirty } } ∧ OnlyRegs ([(0x4021 + 2 * a.val, List.range 0x20)]) s u) ∧
  (∀ (src : Source) (checkpoint : Bool) (size : Bool) (v : Nat) (s u : State), canSet s src (if checkpoint then 0x4009 else 0x4008) (if size then 2 else 1) (v) = true → exec (.ledgerRingWrite src checkpoint size v) s = .next u →
    u = { s with answer := u.answer, obj := u.obj, security := { s.security with paramsDirty := u.security.paramsDirty } } ∧ OnlyRegs ([(if checkpoint then 0x4009 else 0x4008, [1, 2, 3, 4])]) s u) ∧
  (∀ (src : Source) (s u : State), canSet s src (0x1300) 1 (1) = true → exec (.pairEnable src) s = .next u →
    u = { s with answer := u.answer, obj := u.obj, stamps := u.stamps, fresh := u.fresh, events := u.events, coalesced := u.coalesced, serial := u.serial, pair := u.pair, sched := u.sched, security := { s.security with paramsDirty := u.security.paramsDirty } } ∧ OnlyRegs ([(0x1300, [1]), (0x1301, [1, 4, 5, 6]), (0x1302, [2]), (0x2601, [1, 2])] ++ roleRegs ++ claimRegs) s u) ∧
  (∀ (src : Source) (s u : State), canSet s src (0x1300) 6 (1) = true → exec (.firmwareKick src) s = .next u →
    u = { s with answer := u.answer, pair := u.pair, security := { s.security with paramsDirty := u.security.paramsDirty } }) ∧
  (∀ (src : Source) (s u : State), canSet s src (0x1302) 1 (1) = true → exec (.resyncRequest src) s = .next u →
    u = { s with answer := u.answer, obj := u.obj, stamps := u.stamps, fresh := u.fresh, events := u.events, coalesced := u.coalesced, pair := u.pair, sched := u.sched, security := { s.security with paramsDirty := u.security.paramsDirty } } ∧ OnlyRegs ([(0x1302, [2, 3])] ++ roleRegs ++ evRegs) s u) ∧
  (∀ (src : Source) (n : CoreId) (s u : State), canSet s src (cP n.val) 1 (1) = true → exec (.coreRun src n) s = .next u →
    u = { s with answer := u.answer, obj := u.obj, stamps := u.stamps, fresh := u.fresh, events := u.events, coalesced := u.coalesced, sched := u.sched, cores := u.cores, security := { s.security with paramsDirty := u.security.paramsDirty } } ∧ OnlyRegs ([(cP n.val, [1]), (cS n.val, [1])] ++ [(0x1600, [2, 3, 8, 0xA, 0x11]), (0x1607, [4])]) s u ∧ (∀ m, m ≠ n.val → coreOf u m = coreOf s m)) ∧
  (∀ (src : Source) (n : CoreId) (s u : State), canSet s src (cP n.val) 1 (0) = true → exec (.coreHalt src n) s = .next u →
    u = { s with answer := u.answer, obj := u.obj, stamps := u.stamps, fresh := u.fresh, events := u.events, coalesced := u.coalesced, sched := u.sched, cores := u.cores, security := { s.security with paramsDirty := u.security.paramsDirty } } ∧ OnlyRegs ([(cP n.val, [1]), (cS n.val, [1])] ++ [(0x1600, [2, 3, 8, 0xA, 0x11]), (0x1607, [4])]) s u ∧ (∀ m, m ≠ n.val → coreOf u m = coreOf s m)) ∧
  (∀ (src : Source) (n : CoreId) (s u : State), canSet s src (cP n.val) 3 (1) = true → exec (.coreReset src n) s = .next u →
    u = { s with answer := u.answer, obj := u.obj, stamps := u.stamps, fresh := u.fresh, events := u.events, coalesced := u.coalesced, sched := u.sched, cores := u.cores, security := { s.security with paramsDirty := u.security.paramsDirty } } ∧ OnlyRegs ([(cP n.val, [1]), (cS n.val, [1])] ++ [(0x1600, [2, 3, 8, 0xA, 0x11]), (0x1607, [4])]) s u ∧ (∀ m, m ≠ n.val → coreOf u m = coreOf s m)) ∧
  (∀ (src : Source) (v : Nat) (s u : State), canSet s src (0x1601) 0 (v) = true → exec (.eventRaiseWrite src v) s = .next u →
    u = { s with answer := u.answer, obj := u.obj, fresh := u.fresh, events := u.events, coalesced := u.coalesced, sched := u.sched, security := { s.security with paramsDirty := u.security.paramsDirty } } ∧ OnlyRegs (evRegs) s u) ∧
  (∀ (src : Source) (bytes : List Byte) (s u : State), canPut s src (0x1618) 2 bytes = true → exec (.coalescedMapClear src bytes) s = .next u →
    u = { s with answer := u.answer, coalesced := u.coalesced, security := { s.security with paramsDirty := u.security.paramsDirty } }) ∧
  (∀ (src : Source) (v : Nat) (s u : State), canSet s src (0x1605) 0 (v) = true → exec (.taskSetup src v) s = .next u →
    u = { s with answer := u.answer, sched := u.sched, security := { s.security with paramsDirty := u.security.paramsDirty } }) ∧
  (∀ (src : Source) (task : Nat) (s u : State), canSet s src (0x1606) 0 (task % 512 + 1 * 2 ^ 24) = true → exec (.taskCreate src task) s = .next u →
    u = { s with answer := u.answer, obj := u.obj, fresh := u.fresh, events := u.events, coalesced := u.coalesced, sched := u.sched, security := { s.security with paramsDirty := u.security.paramsDirty } } ∧ OnlyRegs ([(0x1600, [3, 8, 0xB, 0xD, 0x11]), (0x1607, [4])]) s u) ∧
  (∀ (src : Source) (task : Nat) (s u : State), canSet s src (0x1606) 0 (task % 512 + 2 * 2 ^ 24) = true → exec (.taskPost src task) s = .next u →
    u = { s with answer := u.answer, obj := u.obj, fresh := u.fresh, events := u.events, coalesced := u.coalesced, sched := u.sched, security := { s.security with paramsDirty := u.security.paramsDirty } } ∧ OnlyRegs ([(0x1600, [3, 8, 0xB, 0xD, 0x11]), (0x1607, [4])]) s u) ∧
  (∀ (src : Source) (task : Nat) (s u : State), canSet s src (0x1606) 0 (task % 512 + 3 * 2 ^ 24) = true → exec (.taskSuspend src task) s = .next u →
    u = { s with answer := u.answer, obj := u.obj, fresh := u.fresh, events := u.events, coalesced := u.coalesced, sched := u.sched, security := { s.security with paramsDirty := u.security.paramsDirty } } ∧ OnlyRegs ([(0x1600, [3, 8, 0xB, 0xD, 0x11]), (0x1607, [4])]) s u) ∧
  (∀ (src : Source) (task : Nat) (s u : State), canSet s src (0x1606) 0 (task % 512 + 4 * 2 ^ 24) = true → exec (.taskResume src task) s = .next u →
    u = { s with answer := u.answer, obj := u.obj, fresh := u.fresh, events := u.events, coalesced := u.coalesced, sched := u.sched, security := { s.security with paramsDirty := u.security.paramsDirty } } ∧ OnlyRegs ([(0x1600, [3, 8, 0xB, 0xD, 0x11]), (0x1607, [4])]) s u) ∧
  (∀ (src : Source) (task : Nat) (s u : State), canSet s src (0x1606) 0 (task % 512 + 5 * 2 ^ 24) = true → exec (.taskDelete src task) s = .next u →
    u = { s with answer := u.answer, obj := u.obj, fresh := u.fresh, events := u.events, coalesced := u.coalesced, sched := u.sched, security := { s.security with paramsDirty := u.security.paramsDirty } } ∧ OnlyRegs ([(0x1600, [3, 8, 0xB, 0xD, 0x11]), (0x1607, [4])]) s u) ∧
  (∀ (src : Source) (n : CoreId) (task : Nat) (s u : State), canSet s src (0x1603) (n.val + 1) (1 + task % 512 * 128) = true → exec (.coreAccept src n task) s = .next u →
    u = { s with answer := u.answer, obj := u.obj, fresh := u.fresh, events := u.events, coalesced := u.coalesced, sched := u.sched, security := { s.security with paramsDirty := u.security.paramsDirty } } ∧ OnlyRegs ([(0x1600, [2, 3, 8, 0xD, 0x11]), (0x1607, [4])]) s u) ∧
  (∀ (src : Source) (n : CoreId) (s u : State), canSet s src (0x1603) (n.val + 1) (2) = true → exec (.coreDone src n) s = .next u →
    u = { s with answer := u.answer, obj := u.obj, fresh := u.fresh, events := u.events, coalesced := u.coalesced, sched := u.sched, security := { s.security with paramsDirty := u.security.paramsDirty } } ∧ OnlyRegs ([(0x1600, [2, 3, 8, 0xD, 0x11]), (0x1607, [4])]) s u) ∧
  (∀ (src : Source) (n : CoreId) (s u : State), canSet s src (0x1603) (n.val + 1) (3) = true → exec (.coreYield src n) s = .next u →
    u = { s with answer := u.answer, obj := u.obj, fresh := u.fresh, events := u.events, coalesced := u.coalesced, sched := u.sched, security := { s.security with paramsDirty := u.security.paramsDirty } } ∧ OnlyRegs ([(0x1600, [2, 3, 8, 0xD, 0x11]), (0x1607, [4])]) s u) ∧
  (∀ (src : Source) (n : CoreId) (list : Fin 8) (arg : Nat) (s u : State), canSet s src (0x1603) (n.val + 1) (4 + list.val * 16 + arg * 65536) = true → exec (.coreDelay src n list arg) s = .next u →
    u = { s with answer := u.answer, obj := u.obj, fresh := u.fresh, events := u.events, coalesced := u.coalesced, sched := u.sched, security := { s.security with paramsDirty := u.security.paramsDirty } } ∧ OnlyRegs ([(0x1600, [2, 3, 8, 0xD, 0x11]), (0x1607, [4])]) s u) ∧
  (∀ (src : Source) (n : CoreId) (s u : State), canSet s src (0x1603) (n.val + 1) (5) = true → exec (.coreAttach src n) s = .next u →
    u = { s with answer := u.answer, obj := u.obj, fresh := u.fresh, events := u.events, coalesced := u.coalesced, sched := u.sched, security := { s.security with paramsDirty := u.security.paramsDirty } } ∧ OnlyRegs ([(0x1600, [2, 3, 8, 0xD, 0x11]), (0x1607, [4])]) s u) ∧
  (∀ (src : Source) (n : CoreId) (s u : State), canSet s src (0x1603) (n.val + 1) (6) = true → exec (.coreDetach src n) s = .next u →
    u = { s with answer := u.answer, obj := u.obj, fresh := u.fresh, events := u.events, coalesced := u.coalesced, sched := u.sched, security := { s.security with paramsDirty := u.security.paramsDirty } } ∧ OnlyRegs ([(0x1600, [2, 3, 8, 0xD, 0x11]), (0x1607, [4])]) s u) ∧
  (∀ (src : Source) (i : TimerId) (s u : State), canSet s src (0x1620 + i.val) 1 (1) = true → exec (.timerEnable src i) s = .next u →
    u = { s with answer := u.answer, obj := u.obj, security := { s.security with paramsDirty := u.security.paramsDirty } } ∧ OnlyRegs ([(0x1620 + i.val, [1, 4])]) s u) ∧
  (∀ (src : Source) (i : TimerId) (s u : State), canSet s src (0x1620 + i.val) 1 (0) = true → exec (.timerDisable src i) s = .next u →
    u = { s with answer := u.answer, obj := u.obj, security := { s.security with paramsDirty := u.security.paramsDirty } } ∧ OnlyRegs ([(0x1620 + i.val, [1, 4])]) s u) ∧
  (∀ (src : Source) (v : Nat) (s u : State), canSet s src (0x1600) 1 (v) = true → exec (.schedCoresWrite src v) s = .next u →
    u = { s with answer := u.answer, obj := u.obj, fresh := u.fresh, events := u.events, coalesced := u.coalesced, sched := u.sched, security := { s.security with paramsDirty := u.security.paramsDirty } } ∧ OnlyRegs ([(0x1600, [1, 3, 8, 0x11]), (0x1607, [4])]) s u) ∧
  (∀ (src : Source) (v : Nat) (s u : State), canSet s src (0x1607) 1 (v) = true → exec (.traceModeWrite src v) s = .next u →
    u = { s with answer := u.answer, obj := u.obj, sched := u.sched, security := { s.security with paramsDirty := u.security.paramsDirty } } ∧ OnlyRegs ([(0x1607, [1, 4])]) s u) ∧
  (∀ (src : Source) (s u : State), canSet s src (0x5020) 2 (1) = true → exec (.routeSwapGo src) s = .next u →
    u = { s with answer := u.answer, obj := u.obj, fresh := u.fresh, events := u.events, coalesced := u.coalesced, sched := u.sched, noc := u.noc, security := { s.security with paramsDirty := u.security.paramsDirty } } ∧ OnlyRegs ([(0x5020, [3, 4, 5]), (0x5000, [2])] ++ evRegs) s u) ∧
  (∀ (src : Source) (s u : State), canSet s src (0x5021) 3 (1) = true → exec (.routerReconfigGo src) s = .next u →
    u = { s with answer := u.answer, obj := u.obj, noc := u.noc, security := { s.security with paramsDirty := u.security.paramsDirty } } ∧ OnlyRegs ([(0x5021, [4])]) s u) ∧
  (∀ (src : Source) (n : LaneId) (s u : State), canSet s src (lx n.val 0) 1 (1) = true → exec (.laneEnableData src n) s = .next u →
    u = { s with answer := u.answer, obj := u.obj, stamps := u.stamps, fresh := u.fresh, events := u.events, coalesced := u.coalesced, lanes := u.lanes, sched := u.sched, pair := u.pair, security := { s.security with paramsDirty := u.security.paramsDirty } } ∧ OnlyRegs ([(lx n.val 0, [1]), (lx n.val 1, [1, 2, 3])] ++ claimRegs ++ roleRegs) s u) ∧
  (∀ (src : Source) (n : LaneId) (s u : State), canSet s src (lx n.val 0) 1 (2) = true → exec (.laneEnableTest src n) s = .next u →
    u = { s with answer := u.answer, obj := u.obj, stamps := u.stamps, fresh := u.fresh, events := u.events, coalesced := u.coalesced, lanes := u.lanes, sched := u.sched, pair := u.pair, security := { s.security with paramsDirty := u.security.paramsDirty } } ∧ OnlyRegs ([(lx n.val 0, [1]), (lx n.val 1, [1, 2, 3])] ++ claimRegs ++ roleRegs) s u) ∧
  (∀ (src : Source) (n : LaneId) (s u : State), canSet s src (lx n.val 0) 1 (0) = true → exec (.laneDisable src n) s = .next u →
    u = { s with answer := u.answer, obj := u.obj, stamps := u.stamps, lanes := u.lanes, security := { s.security with paramsDirty := u.security.paramsDirty } } ∧ OnlyRegs ([(lx n.val 0, [1]), (lx n.val 1, [1, 2]), (lx n.val 3, [4])] ++ moveRegs) s u) ∧
  (∀ (src : Source) (n : LaneId) (s u : State), canSet s src (lx n.val 0) 9 (1) = true → exec (.laneRetrain src n) s = .next u →
    u = { s with answer := u.answer, obj := u.obj, stamps := u.stamps, lanes := u.lanes, security := { s.security with paramsDirty := u.security.paramsDirty } } ∧ OnlyRegs ([(lx n.val 1, [1])] ++ moveRegs) s u) ∧
  (∀ (src : Source) (n : LaneId) (s u : State), canSet s src (lx n.val 3) 7 (1) = true → exec (.prbsInject src n) s = .next u →
    u = { s with answer := u.answer, fresh := u.fresh, lanes := u.lanes, security := { s.security with paramsDirty := u.security.paramsDirty } }) ∧
  (∀ (src : Source) (n : LaneId) (s u : State), canSet s src (lx n.val 3) 5 (0) = true → exec (.prbsCounterClear src n) s = .next u →
    u = { s with answer := u.answer, obj := u.obj, lanes := u.lanes, security := { s.security with paramsDirty := u.security.paramsDirty } } ∧ OnlyRegs ([(lx n.val 3, [5])]) s u) ∧
  (∀ (src : Source) (p : PortId) (s u : State), canSet s src (canK p.val) 1 (1) = true → exec (.canPortEnable src p) s = .next u →
    u = { s with answer := u.answer, obj := u.obj, plant := u.plant, security := { s.security with paramsDirty := u.security.paramsDirty } } ∧ OnlyRegs ([(canK p.val, [1, 5])]) s u) ∧
  (∀ (src : Source) (i : PdoId) (s u : State), canSet s src (0x1240 + i.val) 5 (1) = true → exec (.tpdoTrigger src i) s = .next u →
    u = { s with answer := u.answer, fresh := u.fresh, sched := u.sched, security := { s.security with paramsDirty := u.security.paramsDirty } }) ∧
  (∀ (src : Source) (i : PdoId) (v : Nat) (s u : State), canSet s src (0x1240 + i.val) 2 (v) = true → exec (.cobidWrite src i v) s = .next u →
    u = { s with answer := u.answer, obj := u.obj, plant := u.plant, security := { s.security with paramsDirty := u.security.paramsDirty } } ∧ OnlyRegs ([(0x1240 + i.val, [2])]) s u) ∧
  (∀ (src : Source) (s u : State), canSet s src (0x1100) 1 (0x65766173) = true → exec (.storeParameters src) s = .next u →
    u = { s with answer := u.answer, obj := u.obj, stamps := u.stamps, fresh := u.fresh, events := u.events, coalesced := u.coalesced, sched := u.sched, nvm := u.nvm, security := u.security } ∧ OnlyRegs ([(0x1102, [1, 2, 8]), (0x1200, [3])] ++ evRegs) s u) ∧
  (∀ (src : Source) (s u : State), canSet s src (0x1101) 1 (0x64616F6C) = true → exec (.restoreDefaults src) s = .next u →
    u = { s with answer := u.answer, obj := u.obj, stamps := u.stamps, fresh := u.fresh, events := u.events, coalesced := u.coalesced, sched := u.sched, nvm := u.nvm, security := u.security } ∧ OnlyRegs ([(0x1102, [1, 2, 8]), (0x1200, [3])] ++ evRegs) s u) ∧
  (∀ (src : Source) (v : Nat) (s u : State), canSet s src (0x1501) 5 (v) = true → exec (.boardSupplyModeWrite src v) s = .next u →
    u = { s with answer := u.answer, obj := u.obj, power := u.power, security := { s.security with paramsDirty := u.security.paramsDirty } } ∧ OnlyRegs ([(0x1501, [5, 7])]) s u) ∧
  (∀ (src : Source) (v : Nat) (s u : State), canSet s src (0x1501) 6 (v) = true → exec (.lpddrSupplyEnableWrite src v) s = .next u →
    u = { s with answer := u.answer, obj := u.obj, stamps := u.stamps, mem := u.mem, memEpoch := u.memEpoch, security := { s.security with paramsDirty := u.security.paramsDirty } } ∧ OnlyRegs ([(0x1501, [6, 7]), (0x5030, [4]), (0x5031, [4])]) s u) ∧
  (∀ (src : Source) (d : DomainId) (s u : State), canSet s src (0x1510) (d.val + 1) (1) = true → exec (.domainRequestOn src d) s = .next u →
    u = { s with answer := u.answer, obj := u.obj, stamps := u.stamps, mem := u.mem, memEpoch := u.memEpoch, fresh := u.fresh, events := u.events, coalesced := u.coalesced, arr := u.arr, queues := u.queues, lanes := u.lanes, sched := u.sched, cores := u.cores, noc := u.noc, power := u.power, security := { s.security with paramsDirty := u.security.paramsDirty } }) ∧
  (∀ (src : Source) (d : DomainId) (s u : State), canSet s src (0x1510) (d.val + 1) (0) = true → exec (.domainRequestOff src d) s = .next u →
    u = { s with answer := u.answer, obj := u.obj, stamps := u.stamps, mem := u.mem, memEpoch := u.memEpoch, fresh := u.fresh, events := u.events, coalesced := u.coalesced, arr := u.arr, queues := u.queues, lanes := u.lanes, sched := u.sched, cores := u.cores, noc := u.noc, power := u.power, security := { s.security with paramsDirty := u.security.paramsDirty } }) ∧
  (∀ (src : Source) (d : DomainId) (s u : State), canSet s src (0x1510) (d.val + 1) (2) = true → exec (.domainRequestRetained src d) s = .next u →
    u = { s with answer := u.answer, obj := u.obj, stamps := u.stamps, mem := u.mem, memEpoch := u.memEpoch, fresh := u.fresh, events := u.events, coalesced := u.coalesced, arr := u.arr, queues := u.queues, lanes := u.lanes, sched := u.sched, cores := u.cores, noc := u.noc, power := u.power, security := { s.security with paramsDirty := u.security.paramsDirty } }) ∧
  (∀ (src : Source) (s u : State), canSet s src (0x1500) 1 (1) = true → exec (.powerModeLineStop src) s = .next u →
    u = { s with answer := u.answer, obj := u.obj, power := u.power, security := { s.security with paramsDirty := u.security.paramsDirty } } ∧ OnlyRegs ([(0x1500, [1, 2])]) s u) ∧
  (∀ (src : Source) (bytes : List Byte) (s u : State), canPut s src (0x1402) 0 bytes = true → checksAtOnce s = true → exec (.firmwareUpdate src bytes) s = .next u →
    u = { s with answer := u.answer, obj := u.obj, stamps := u.stamps, fresh := u.fresh, events := u.events, coalesced := u.coalesced, sched := u.sched, security := u.security, mem := u.mem, noc := u.noc } ∧ OnlyRegs ([(0x1403, [1, 2]), (0x1400, [8])] ++ evRegs) s u) ∧
  (∀ (src : Source) (v : Nat) (s u : State), canSet s src (0x1401) 1 (v) = true → exec (.firmwareRollbackFloorWrite src v) s = .next u →
    u = { s with answer := u.answer, obj := u.obj, nvm := u.nvm, security := { s.security with paramsDirty := u.security.paramsDirty } } ∧ OnlyRegs ([(0x1401, [1])]) s u) ∧
  (∀ (src : Source) (s u : State), canSet s src (0x140B) 2 (1) = true → exec (.trngRestart src) s = .next u →
    u = { s with answer := u.answer, obj := u.obj, stamps := u.stamps, security := { s.security with paramsDirty := u.security.paramsDirty } } ∧ OnlyRegs ([(0x140B, [1])]) s u) ∧
  (∀ (src : Source) (bytes : List Byte) (nvmOk : Bool) (s u : State), canPut s src 0x1404 0 bytes = true → exec (.ownerInstall src bytes nvmOk) s = .next u →
    u = { s with answer := u.answer, keys := u.keys, mem := u.mem, noc := u.noc, security := { s.security with paramsDirty := u.security.paramsDirty } }) ∧
  (∀ (src : Source) (bytes : List Byte) (nvmOk : Bool) (s u : State), canPut s src 0x1405 0 bytes = true → checksAtOnce s = true → exec (.keyInstall src bytes nvmOk) s = .next u →
    u = { s with answer := u.answer, obj := u.obj, fresh := u.fresh, events := u.events, coalesced := u.coalesced, keys := u.keys, sched := u.sched, nvm := u.nvm, mem := u.mem, noc := u.noc, security := { s.security with paramsDirty := u.security.paramsDirty } } ∧ OnlyRegs ([(0x1406, [0x31, 0x32]), (0x1400, [8])] ++ evRegs) s u) ∧
  (∀ (src : Source) (bytes : List Byte) (nvmOk : Bool) (s u : State), canPut s src 0x1405 0 bytes = true → checksAtOnce s = true → exec (.keyErase src bytes nvmOk) s = .next u →
    u = { s with answer := u.answer, obj := u.obj, fresh := u.fresh, events := u.events, coalesced := u.coalesced, keys := u.keys, sched := u.sched, nvm := u.nvm, mem := u.mem, noc := u.noc, security := { s.security with paramsDirty := u.security.paramsDirty } } ∧ OnlyRegs ([(0x1406, [0x31, 0x32]), (0x1400, [8])] ++ evRegs) s u) ∧
  (∀ (src : Source) (bytes : List Byte) (nvmOk : Bool) (s u : State), canPut s src 0x1405 0 bytes = true → checksAtOnce s = true → exec (.keyReplaceOwner src bytes nvmOk) s = .next u →
    u = { s with answer := u.answer, obj := u.obj, fresh := u.fresh, events := u.events, coalesced := u.coalesced, keys := u.keys, sched := u.sched, nvm := u.nvm, mem := u.mem, noc := u.noc, security := { s.security with paramsDirty := u.security.paramsDirty } } ∧ OnlyRegs ([(0x1406, [0x31, 0x32]), (0x1400, [8])] ++ evRegs) s u) ∧
  (∀ (src : Source) (bytes : List Byte) (s u : State), canPut s src (0x140A) 1 bytes = true → exec (.attestNonce src bytes) s = .next u →
    u = { s with answer := u.answer, obj := u.obj, stamps := u.stamps, security := u.security } ∧ OnlyRegs ([(0x140A, [2])]) s u) ∧
  (∀ (src : Source) (bytes : List Byte) (s u : State), canPut s src (0x140C) 1 bytes = true → checksAtOnce s = true → exec (.cacheInstall src bytes) s = .next u →
    u = { s with answer := u.answer, obj := u.obj, fresh := u.fresh, events := u.events, coalesced := u.coalesced, cache := u.cache, sched := u.sched, mem := u.mem, noc := u.noc, security := { s.security with paramsDirty := u.security.paramsDirty } } ∧ OnlyRegs ([(0x140C, [3]), (0x1400, [8])] ++ evRegs) s u) ∧
  (∀ (src : Source) (v : Nat) (s u : State), canSet s src (0x140C) 2 (v) = true → exec (.cacheErase src v) s = .next u →
    u = { s with answer := u.answer, obj := u.obj, cache := u.cache, security := { s.security with paramsDirty := u.security.paramsDirty } } ∧ OnlyRegs ([(0x140C, [3])]) s u) ∧
  (∀ (src : Source) (s u : State), canSet s src (0x1700) 1 (0x70616E73) = true → exec (.snapshotCounters src) s = .next u →
    u = { s with answer := u.answer, obj := u.obj, stamps := u.stamps, nvm := u.nvm, security := { s.security with paramsDirty := u.security.paramsDirty } } ∧ OnlyRegs ([(0x1700, [2])]) s u) ∧
  (∀ (src : Source) (s u : State), canSet s src (0x1700) 6 (0x726C63) = true → exec (.clearCounters src) s = .next u →
    u = { s with answer := u.answer, obj := u.obj, security := { s.security with paramsDirty := u.security.paramsDirty } } ∧ OnlyRegs (troubleRegs) s u) ∧
  (∀ (n : CoreId) (idx : Nat) (sub : Nat) (s u : State), canRead s (.core n) = true → exec (.u64LowWordRead n idx sub) s = .next u →
    u = { s with answer := u.answer, fresh := u.fresh, sched := u.sched, plant := u.plant }) ∧
  (∀ (src : Source) (s u : State), canRead s src = true → exec (.serialTextRead src) s = .next u →
    u = { s with answer := u.answer, fresh := u.fresh, sched := u.sched }) ∧
  (∀ (src : Source) (n : CoreId) (s u : State), canRead s src = true → exec (.coreEventPop src n) s = .next u →
    u = { s with answer := u.answer, fresh := u.fresh, sched := u.sched }) ∧
  (∀ (src : Source) (s u : State), canRead s src = true → exec (.randomRead src) s = .next u →
    u = { s with answer := u.answer, fresh := u.fresh, sched := u.sched })

/-- Every byte of memory outside what the commands named here store is unchanged.
Memory reads as before outside the region rings when what the print path has in hand takes effect. For each command named here, every byte outside the bytes it stores, at the address it computes, reads as before: the word of a write stream, of a field memory access and of a bank access, the staging regions, the ring records of queues, the archive, the ledger and checkpoints, the spill word that a bank takes, the two copies of a nozzle map, history lines, the buffer of a mailbox, the snapshot staging, and the words that a core stores in its own memories. What boot, a firmware load, a snapshot of the partner, the network interfaces and a loss of power store or lose has no clause here. -/
def Obligations.MemoryKeptOutsideStores : Prop :=
  (∀ (t : Nat) (s : State), (∀ k, k < 6 → rd s (cs k) 0xB % 32 = 0 ∧ rd s (cc k) 0xD % 32 = 0 ∧ (rd s (cs k) 0xB < rd s (cc k) 0xD ∨ rd s (cc k) 0xD = 0)) →
    ∀ a, (∀ k, k < 6 → Outside (rd s (cc k) 0xC) (rd s (cc k) 0xD) a) → memByte (arrive t s) a = memByte s a) ∧
  (∀ (t : Nat) (f : FieldId) (d : DrillId) (s u : State), exec (.drillWriteStore t f d) s = .next u →
    ∀ a, (∀ it rest, (streamOf (fieldOf (fieldNow (arrive t s) f) f) d 1).buf = it :: rest → Outside (fieldMemAddr f it.addr) 4 a) → memByte u a = memByte (arrive t s) a) ∧
  (∀ (t : Nat) (f : FieldId) (off : Nat) (size : Nat) (write : Bool) (v : Nat) (s u : State), exec (.fieldMemoryNetworkAccess t f off size write v) s = .next u →
    ∀ a, Outside (0x30000000 + f.val * 0x40000 + off) (if write then size else 0) a → memByte u a = memByte (arrive t s) a) ∧
  (∀ (t : Nat) (s u : State), exec (.tuningLoadCopyDone t) s = .next u →
    ∀ a, Outside (arrive t s).arr.load.base ((arrive t s).arr.load.image.take (rd (arrive t s) 0x2605 2)).length a → memByte u a = memByte (arrive t s) a) ∧
  (∀ (t : Nat) (q : QueueId) (s u : State), exec (.dmaOutputRecord t q) s = .next u →
    ∀ a, (∀ k, k < 16 + 16 * ((queueOf (arrive t s) q).dmaPos + 8) → a ≠ ringBase (arrive t s) q + (engineIndex (arrive t s) q + k) % ringSize (arrive t s) q) → memByte u a = memByte (arrive t s) a) ∧
  (∀ (t : Nat) (q : QueueId) (s u : State), exec (.spillWrite t q) s = .next u →
    u.mem = (arrive t s).mem) ∧
  (∀ (t : Nat) (k : TrigId) (rising : Bool) (s u : State), exec (.triggerEdge t k rising) s = .next u →
    u.mem = (arrive t s).mem) ∧
  (∀ (t : Nat) (k : CamId) (s u : State), exec (.cameraStartComplete t k) s = .next u →
    u.mem = (arrive t s).mem) ∧
  (∀ (t : Nat) (n : CoreId) (regs : Nat) (s u : State), exec (.lmm t n regs) s = .next u →
    u.mem = (arrive t s).mem) ∧
  (∀ (t : Nat) (n : CoreId) (regs : Nat) (s u : State), exec (.lmmO t n regs) s = .next u →
    u.mem = (arrive t s).mem) ∧
  (∀ (t : Nat) (n : CoreId) (s u : State), exec (.fillw t n) s = .next u →
    u.mem = (arrive t s).mem) ∧
  (∀ (src : Source) (k : CamId) (s u : State), canSet s src (cc k.val) 1 (0) = true → exec (.cameraDisable src k) s = .next u →
    u.mem = s.mem) ∧
  (∀ (t : Nat) (b : BarId) (s u : State), exec (.activeCopySwitch t b) s = .next u →
    ∀ a, Outside (mapAddr (arrive t s) b 0 0) (8 * nozzles (arrive t s) b) a → memByte u a = memByte (arrive t s) a) ∧
  (∀ (t : Nat) (b : BarId) (hdr : Nat) (p : List Byte) (crcOk : Bool) (s u : State), exec (.headStatus t b hdr p crcOk) s = .next u →
    ∀ a, Outside (mapAddr (arrive t s) b 0 0) (8 * nozzles (arrive t s) b) a → memByte u a = memByte (arrive t s) a) ∧
  (∀ (t : Nat) (b : BarId) (hdr : Nat) (p : List Byte) (crcOk : Bool) (s u : State), exec (.nozzleReport t b hdr p crcOk) s = .next u →
    ∀ a, Outside (mapAddr (arrive t s) b 0 0) (8 * nozzles (arrive t s) b) a → memByte u a = memByte (arrive t s) a) ∧
  (∀ (src : Source) (b : BarId) (v : Nat) (s u : State), canSet s src (bx b.val 4) 7 (v) = true → exec (.mapEdit src b v) s = .next u →
    ∀ a, Outside (mapAddr s b 0 0) (8 * nozzles s b) a → memByte u a = memByte s a) ∧
  (∀ (src : Source) (b : BarId) (bytes : List Byte) (s u : State), canPut s src (bx b.val 4) 8 bytes = true → exec (.mapImageWrite src b bytes) s = .next u →
    ∀ a, Outside (mapAddr s b 0 0) (8 * nozzles s b) a → Outside (stagingBase s) bytes.length a → memByte u a = memByte s a) ∧
  (∀ (src : Source) (v : Nat) (s u : State), canSet s src (0x3802) 0x1D (v) = true → exec (.healthPost src v) s = .next u →
    ∀ a, Outside (mapAddr s (bitsOf v 16 5) 0 0) (8 * nozzles s (bitsOf v 16 5)) a → memByte u a = memByte s a) ∧
  (∀ (src : Source) (unit : Fin 30) (bytes : List Byte) (s u : State), canPut s src (mgmtIndex unit.val) (if unit.val < 24 then 1 else 0x11) bytes = true → exec (.mgmtRequest src unit bytes) s = .next u →
    ∀ a, Outside (stagingBase s) bytes.length a → memByte u a = memByte s a) ∧
  (∀ (src : Source) (bytes : List Byte) (s u : State), canPut s src (0x1402) 0 bytes = true → exec (.firmwareUpdate src bytes) s = .next u →
    ∀ a, Outside (stagingBase s) bytes.length a → memByte u a = memByte s a) ∧
  (∀ (src : Source) (bytes : List Byte) (nvmOk : Bool) (s u : State), canPut s src 0x1404 0 bytes = true → exec (.ownerInstall src bytes nvmOk) s = .next u →
    ∀ a, Outside (stagingBase s) bytes.length a → memByte u a = memByte s a) ∧
  (∀ (src : Source) (bytes : List Byte) (nvmOk : Bool) (s u : State), canPut s src 0x1405 0 bytes = true → exec (.keyInstall src bytes nvmOk) s = .next u →
    ∀ a, Outside (stagingBase s) bytes.length a → memByte u a = memByte s a) ∧
  (∀ (src : Source) (bytes : List Byte) (nvmOk : Bool) (s u : State), canPut s src 0x1405 0 bytes = true → exec (.keyErase src bytes nvmOk) s = .next u →
    ∀ a, Outside (stagingBase s) bytes.length a → memByte u a = memByte s a) ∧
  (∀ (src : Source) (bytes : List Byte) (nvmOk : Bool) (s u : State), canPut s src 0x1405 0 bytes = true → exec (.keyReplaceOwner src bytes nvmOk) s = .next u →
    ∀ a, Outside (stagingBase s) bytes.length a → memByte u a = memByte s a) ∧
  (∀ (src : Source) (bytes : List Byte) (s u : State), canPut s src (0x140C) 1 bytes = true → exec (.cacheInstall src bytes) s = .next u →
    ∀ a, Outside (stagingBase s) bytes.length a → memByte u a = memByte s a) ∧
  (∀ (t : Nat) (i : PairLane) (seq : Nat) (role : Nat) (p : List Byte) (ok : Bool) (s u : State), quiet (arrive t s) = true → (arrive t s).pair.mirror = [] → exec (.mapSwitch t i seq role p ok) s = .next u →
    ∀ a, Outside (mapAddr (arrive t s) (leAt p 0 1) 0 0) (8 * nozzles (arrive t s) (leAt p 0 1)) a → memByte u a = memByte (arrive t s) a) ∧
  (∀ (t : Nat) (k : CamId) (odd : Bool) (hdr : Nat) (p : List Byte) (crcOk : Bool) (s u : State), exec (.imageLine t k odd hdr p crcOk) s = .next u →
    ∀ a, Outside (physAddr (arrive t s) 10 (historyAddr (arrive t s) k (bitsOf hdr 32 32))) p.length a → memByte u a = memByte (arrive t s) a) ∧
  (∀ (t : Nat) (k : CamId) (hdr : Nat) (p : List Byte) (crcOk : Bool) (s u : State), exec (.bridgeStatus t k hdr p crcOk) s = .next u →
    ∀ a, Outside (physAddr (arrive t s) 10 (historyAddr (arrive t s) k (bitsOf hdr 32 32))) p.length a → memByte u a = memByte (arrive t s) a) ∧
  (∀ (t : Nat) (unit : Fin 30) (hdr : Nat) (p : List Byte) (crcOk : Bool) (s u : State), exec (.mgmtReply t unit hdr p crcOk) s = .next u →
    (unit.val < 24 → ∀ a, Outside (mapAddr (arrive t s) unit 0 0) (8 * nozzles (arrive t s) unit) a → memByte u a = memByte (arrive t s) a) ∧
    (24 ≤ unit.val → ∀ a, Outside (physAddr (arrive t s) 10 (historyAddr (arrive t s) (unit.val - 24) (bitsOf hdr 32 32))) p.length a → memByte u a = memByte (arrive t s) a)) ∧
  (∀ (t : Nat) (history : Option (CamId × Nat)) (s u : State), exec (.lpddrWriteRefused t history) s = .next u →
    (history = none → u.mem = (arrive t s).mem) ∧
    ∀ k n, history = some (k, n) → ∀ a, (∀ w, w ∈ (camOf (arrive t s) k).waiting → Outside (physAddr (arrive t s) 10 (historyAddr (arrive t s) k n)) w.oldBytes.length a) → memByte u a = memByte (arrive t s) a) ∧
  (∀ (t : Nat) (s u : State), exec (.archiveRecord t) s = .next u →
    ∀ a, Outside (physAddr (arrive t s) 10 (rd (arrive t s) 0x3803 2)) (rd (arrive t s) 0x3803 3) a → memByte u a = memByte (arrive t s) a) ∧
  (∀ (t : Nat) (s u : State), quiet (arrive t s) = true → (arrive t s).pair.mirror = [] → exec (.ledgerRecordWrite t) s = .next u →
    ∀ x r, (arrive t s).serial.unwritten = x :: r → x.body.length = 64 → ∀ a, Outside (physAddr (arrive t s) 9 (rd (arrive t s) 0x4008 1) + rd (arrive t s) 0x4008 4) 64 a → memByte u a = memByte (arrive t s) a) ∧
  (∀ (t : Nat) (s u : State), quiet (arrive t s) = true → (arrive t s).pair.mirror = [] → exec (.checkpointPublish t) s = .next u →
    ∀ c, (arrive t s).serial.checkpoint = some c →
      ∀ a, Outside (physAddr (arrive t s) 9 (rd (arrive t s) 0x4009 1) + rd (arrive t s) 0x4009 4) ((checkpointBytes (arrive t s) c).length + c.signature.length + 45) a → memByte u a = memByte (arrive t s) a) ∧
  (∀ (t : Nat) (rewritten : Nat) (s u : State), quiet (arrive t s) = true → (arrive t s).pair.mirror = [] → exec (.resyncCut t rewritten) s = .next u →
    ∀ a, Outside (rd (arrive t s) 0x1302 4) (rd (arrive t s) 0x1302 5) a → memByte u a = memByte (arrive t s) a) ∧
  (∀ (t : Nat) (i : PairLane) (role : Nat) (p : List Byte) (ok : Bool) (s u : State), quiet (arrive t s) = true → (arrive t s).pair.mirror = [] → (pairRole (arrive t s) ≠ 6 ∨ 3 < resyncState (arrive t s) ∧ role ≠ 5) → exec (.snapshot t i role p ok) s = .next u →
    ∀ a, Outside (rd (arrive t s) 0x1302 4 + leAt p 0 8) (p.length - 8) a → memByte u a = memByte (arrive t s) a) ∧
  (∀ (t : Nat) (b : Fin 32) (s u : State), exec (.bankAccessGrant t b) s = .next u →
    (bankChoice (bankNow (harrowNow (arrive t s)) b) b = none → u.mem = (arrive t s).mem) ∧
    ∀ w, bankChoice (bankNow (harrowNow (arrive t s)) b) b = some w →
      (w.spill = none → ∀ x, bankReq (bankNow (harrowNow (arrive t s)) b) w = some x →
        ∀ a, Outside (x.req.addr + w.pos) (min (x.req.size - w.pos) (16 - (x.req.addr + w.pos) % 16)) a → memByte u a = memByte (arrive t s) a) ∧
      ∀ p, w.spill = some p → ∀ a, Outside p.addr 16 a → memByte u a = memByte (arrive t s) a) ∧
  (∀ (t : Nat) (n : CoreId) (s u : State), quiet (arrive t s) = true → (arrive t s).pair.mirror = [] → exec (.mailboxComplete t n) s = .next u →
    let x := mailboxOf (arrive t s) n
    let r := mailboxResult (mailboxUse (arrive t s) n x) n x
    ∀ a, (∀ b p, r.2 = .ok b → bufferAddr (mailboxNext r.1 x.command) 14 n x.dest b.length = .ok p → Outside p b.length a) → memByte u a = memByte (arrive t s) a) ∧
  (∀ (t : Nat) (n : CoreId) (s u : State), exec (.baseInstruction t n) s = .next u →
    ∀ a, Outside (coreWindow n) 0x120000 a → memByte u a = memByte (arrive t s) a) ∧
  (∀ (t : Nat) (n : CoreId) (regs : Nat) (s u : State), exec (.smm t n regs) s = .next u →
    ∀ a, Outside (coreWindow n) 0x120000 a → memByte u a = memByte (arrive t s) a) ∧
  (∀ (t : Nat) (n : CoreId) (regs : Nat) (s u : State), exec (.smmO t n regs) s = .next u →
    ∀ a, Outside (coreWindow n) 0x120000 a → memByte u a = memByte (arrive t s) a) ∧
  (∀ (t : Nat) (n : CoreId) (s u : State), exec (.spillw t n) s = .next u →
    ∀ a, Outside (coreWindow n) 0x120000 a → memByte u a = memByte (arrive t s) a) ∧
  (∀ (t : Nat) (n : CoreId) (w len : Nat) (s u : State), Issues t n w len s → exec (.baseInstruction t n) s = .next u →
    (rvOp w ≠ 0x23 → rvOp w ≠ 0x27 → u.mem = s.mem) ∧
    ∀ a, (∀ o, coreAccess n (addW (xr (coreOf s n) (rvRs1 w)) (immS w)) = .local_ o → Outside (coreWindow n + o) (2 ^ rvF3 w) a) → memByte u a = memByte s a) ∧
  (∀ (t : Nat) (n : CoreId) (regs : Nat) (w len : Nat) (s u : State), Issues t n w len s → exec (.smm t n regs) s = .next u →
    let m : Multi := { load := false, mask := xr (coreOf s n) (rvRs2 w), win := none, base := xr (coreOf s n) (rvRs1 w) }
    ∀ a, (∀ k o, k < 32 → bitOf m.mask k = true → coreAccess n (multiAddr m k) = .local_ o → Outside (coreWindow n + o) 4 a) → memByte u a = memByte s a) ∧
  (∀ (t : Nat) (n : CoreId) (regs : Nat) (w len : Nat) (s u : State), Issues t n w len s → exec (.smmO t n regs) s = .next u →
    let m : Multi := { load := false, mask := xr (coreOf s n) (rvRs2 w), win := none, base := xr (coreOf s n) (rvRs1 w) }
    ∀ a, (∀ k o, k < 32 → bitOf m.mask k = true → coreAccess n (multiAddr m k) = .local_ o → Outside (coreWindow n + o) 4 a) → memByte u a = memByte s a) ∧
  (∀ (t : Nat) (n : CoreId) (w len : Nat) (s u : State), Issues t n w len s → exec (.spillw t n) s = .next u →
    let m : Multi := { load := false, mask := 0x00FFFF01, win := none, base := csrWord (coreOf s n) 0x7C1 }
    ∀ a, (∀ k o, k < 32 → bitOf m.mask k = true → coreAccess n (multiAddr m k) = .local_ o → Outside (coreWindow n + o) 4 a) → memByte u a = memByte s a) ∧
  (∀ (t : Nat) (n : CoreId) (w len : Nat) (s u : State), Issues t n w len s → exec (.xst t n) s = .next u →
    ∀ a, Outside (coreWindow n + xyOffset 0 (dspPtr (coreOf s n) 0 (bitsOf w 25 2))) 4 a → memByte u a = memByte s a) ∧
  (∀ (t : Nat) (n : CoreId) (w len : Nat) (s u : State), Issues t n w len s → exec (.yst t n) s = .next u →
    ∀ a, Outside (coreWindow n + xyOffset 1 (dspPtr (coreOf s n) 1 (bitsOf w 25 2))) 4 a → memByte u a = memByte s a)
end

