-- ==== Sys2Proof/Laws/Tables.lean ====
section
/-! SUPPORT. Laws of the key and value tables: what is read after an entry is put, erased or set, and that each keeps the keys rising. -/

set_option Elab.async false

namespace Sys2Proof.Laws

theorem beq_false {i j : Nat} (h : i ≠ j) : Nat.beq i j = false := by
  rw [Bool.eq_false_iff]; exact fun c => h (Nat.eq_of_beq_eq_true c)

theorem tabFind_put_same {α : Type} (t : Tab α) (i : Nat) (x : α) : tabFind (tabPut t i x) i = some x := by
  induction t with
  | nil => simp [tabPut, tabFind]
  | cons e r ih =>
    obtain ⟨k, v⟩ := e
    by_cases h : k = i
    · simp [tabPut, tabFind, h]
    · have hb : Nat.beq k i = false := beq_false h
      by_cases g : i < k
      · simp [tabPut, tabFind, hb, g, Nat.blt_eq]
      · have gb : Nat.blt i k = false := by rw [Bool.eq_false_iff, ne_eq, Nat.blt_eq]; exact g
        simp [tabPut, tabFind, hb, gb, ih]

theorem tabFind_put_other {α : Type} (t : Tab α) {i j : Nat} (x : α) (hij : i ≠ j) : tabFind (tabPut t i x) j = tabFind t j := by
  have hi : Nat.beq i j = false := beq_false hij
  induction t with
  | nil => simp [tabPut, tabFind, hi]
  | cons e r ih =>
    obtain ⟨k, v⟩ := e
    by_cases h : k = i
    · simp [tabPut, tabFind, h, hi]
    · have hb : Nat.beq k i = false := beq_false h
      by_cases g : i < k
      · simp [tabPut, tabFind, hb, hi, g, Nat.blt_eq]
      · have gb : Nat.blt i k = false := by rw [Bool.eq_false_iff, ne_eq, Nat.blt_eq]; exact g
        simp [tabPut, tabFind, hb, gb, ih]

theorem tabFind_erase_same {α : Type} (t : Tab α) (i : Nat) : tabFind (tabErase t i) i = none := by
  induction t with
  | nil => rfl
  | cons e r ih =>
    obtain ⟨k, v⟩ := e
    by_cases h : k = i
    · simp [tabErase, h, ih]
    · have hb : Nat.beq k i = false := beq_false h
      simp [tabErase, tabFind, hb, ih]

theorem tabFind_erase_other {α : Type} (t : Tab α) {i j : Nat} (hij : i ≠ j) : tabFind (tabErase t i) j = tabFind t j := by
  induction t with
  | nil => rfl
  | cons e r ih =>
    obtain ⟨k, v⟩ := e
    by_cases h : k = i
    · have hj : Nat.beq i j = false := beq_false hij
      simp [tabErase, tabFind, h, hj, ih]
    · have hb : Nat.beq k i = false := beq_false h
      simp [tabErase, tabFind, hb, ih]

/-- A key set to a value reads as that value. -/
theorem tabGet_set_same {α : Type} [DecidableEq α] (d : α) (t : Tab α) (i : Nat) (x : α) : tabGet d (tabSet d t i x) i = x := by
  unfold tabSet tabGet
  split
  · next h => simp [tabFind_erase_same, h]
  · simp [tabFind_put_same]

/-- Every other key reads as before. -/
theorem tabFind_set_other {α : Type} [DecidableEq α] (d : α) (t : Tab α) {i j : Nat} (x : α) (hij : i ≠ j) :
    tabFind (tabSet d t i x) j = tabFind t j := by
  unfold tabSet
  split
  · exact tabFind_erase_other t hij
  · exact tabFind_put_other t x hij

theorem tabGet_set_other {α : Type} [DecidableEq α] (d d' : α) (t : Tab α) {i j : Nat} (x : α) (hij : i ≠ j) :
    tabGet d' (tabSet d t i x) j = tabGet d' t j := by
  unfold tabGet; rw [tabFind_set_other d t x hij]

/-! The keys stay rising. -/

theorem tabAbove_mono {α : Type} {t : Tab α} {lo lo' : Nat} (h : lo' ≤ lo) (ht : tabAbove lo t = true) : tabAbove lo' t = true := by
  cases t with
  | nil => rfl
  | cons e r =>
    obtain ⟨k, v⟩ := e
    simp only [tabAbove, Bool.and_eq_true, Nat.ble_eq] at ht ⊢
    exact ⟨by omega, ht.2⟩

theorem tabAbove_put {α : Type} {t : Tab α} {lo i : Nat} (x : α) (hi : lo ≤ i) (ht : tabAbove lo t = true) : tabAbove lo (tabPut t i x) = true := by
  induction t generalizing lo with
  | nil => simpa [tabPut, tabAbove] using hi
  | cons e r ih =>
    obtain ⟨k, v⟩ := e
    simp only [tabAbove, Bool.and_eq_true, Nat.ble_eq] at ht
    unfold tabPut
    split
    · next h =>
      have h' : k = i := Nat.eq_of_beq_eq_true h
      simp only [tabAbove, Bool.and_eq_true, Nat.ble_eq]
      exact ⟨hi, h' ▸ ht.2⟩
    · split
      · next h =>
        have h' : i < k := by simpa [Nat.blt_eq] using h
        simp only [tabAbove, Bool.and_eq_true, Nat.ble_eq]
        exact ⟨hi, by omega, ht.2⟩
      · next h1 h2 =>
        have h1' : k ≠ i := fun c => h1 (by simp [c])
        have h2' : ¬ i < k := by simpa [Nat.blt_eq] using h2
        simp only [tabAbove, Bool.and_eq_true, Nat.ble_eq]
        exact ⟨ht.1, ih (by omega) ht.2⟩

theorem tabAbove_erase {α : Type} {t : Tab α} {lo : Nat} (i : Nat) (ht : tabAbove lo t = true) : tabAbove lo (tabErase t i) = true := by
  induction t generalizing lo with
  | nil => rfl
  | cons e r ih =>
    obtain ⟨k, v⟩ := e
    simp only [tabAbove, Bool.and_eq_true, Nat.ble_eq] at ht
    unfold tabErase
    split
    · exact tabAbove_mono (by omega) (ih ht.2)
    · simp only [tabAbove, Bool.and_eq_true, Nat.ble_eq]
      exact ⟨ht.1, ih ht.2⟩

theorem tabAbove_filter {α : Type} {t : Tab α} {lo : Nat} (p : Nat × α → Bool) (ht : tabAbove lo t = true) : tabAbove lo (t.filter p) = true := by
  induction t generalizing lo with
  | nil => rfl
  | cons e r ih =>
    obtain ⟨k, v⟩ := e
    simp only [tabAbove, Bool.and_eq_true, Nat.ble_eq] at ht
    rw [List.filter_cons]
    split
    · simp only [tabAbove, Bool.and_eq_true, Nat.ble_eq]
      exact ⟨ht.1, ih ht.2⟩
    · exact tabAbove_mono (by omega) (ih ht.2)

theorem tabSorted_put {α : Type} {t : Tab α} (i : Nat) (x : α) (ht : tabSorted t = true) : tabSorted (tabPut t i x) = true :=
  tabAbove_put x (Nat.zero_le _) ht

theorem tabSorted_erase {α : Type} {t : Tab α} (i : Nat) (ht : tabSorted t = true) : tabSorted (tabErase t i) = true :=
  tabAbove_erase i ht

theorem tabSorted_filter {α : Type} {t : Tab α} (p : Nat × α → Bool) (ht : tabSorted t = true) : tabSorted (t.filter p) = true :=
  tabAbove_filter p ht

theorem tabSorted_set {α : Type} [DecidableEq α] (d : α) {t : Tab α} (i : Nat) (x : α) (ht : tabSorted t = true) : tabSorted (tabSet d t i x) = true := by
  unfold tabSet
  split
  · exact tabSorted_erase i ht
  · exact tabSorted_put i x ht

theorem tabSorted_foldl_set {α β : Type} [DecidableEq α] (d : β → α) (k : β → Nat) (v : β → α) (l : List β) {t : Tab α} (ht : tabSorted t = true) :
    tabSorted (l.foldl (fun t e => tabSet (d e) t (k e) (v e)) t) = true := by
  induction l generalizing t with
  | nil => exact ht
  | cons e r ih => exact ih (tabSorted_set _ _ _ ht)

theorem tabSorted_foldl_put {α β : Type} (k : β → Nat) (v : β → α) (l : List β) {t : Tab α} (ht : tabSorted t = true) :
    tabSorted (l.foldl (fun t e => tabPut t (k e) (v e)) t) = true := by
  induction l generalizing t with
  | nil => exact ht
  | cons e r ih => exact ih (tabSorted_put _ _ ht)

theorem le_foldl_max {β : Type} (f : β → Nat) (l : List β) (n : Nat) : n ≤ l.foldl (fun m k => max m (f k)) n := by
  induction l generalizing n with
  | nil => exact Nat.le_refl n
  | cons e r ih => exact Nat.le_trans (Nat.le_max_left _ _) (ih _)

end Sys2Proof.Laws
end

