-- ==== Sys2Proof/Laws/State.lean ====
section
/-! SUPPORT. What each update of the state leaves in each field, what is read of a register after each, and what raising an event or setting a cause bit leaves alone. -/

set_option Elab.async false

namespace Sys2Proof.Laws

open Sys2Proof.Machine

/-! start -/
@[simp] theorem start_pending (s : State) : (start s).pending = s.pending := rfl
@[simp] theorem start_now (s : State) : (start s).now = s.now := rfl
@[simp] theorem start_answer (s : State) : (start s).answer = {} := rfl
@[simp] theorem start_obj (s : State) : (start s).obj = s.obj := rfl
@[simp] theorem start_blobs (s : State) : (start s).blobs = s.blobs := rfl
@[simp] theorem start_stamps (s : State) : (start s).stamps = s.stamps := rfl
@[simp] theorem start_mem (s : State) : (start s).mem = s.mem := rfl
@[simp] theorem start_memEpoch (s : State) : (start s).memEpoch = s.memEpoch := rfl
@[simp] theorem start_fresh (s : State) : (start s).fresh = s.fresh := rfl
@[simp] theorem start_events (s : State) : (start s).events = s.events := rfl
@[simp] theorem start_coalesced (s : State) : (start s).coalesced = s.coalesced := rfl
@[simp] theorem start_keys (s : State) : (start s).keys = s.keys := rfl
@[simp] theorem start_cache (s : State) : (start s).cache = s.cache := rfl
@[simp] theorem start_arr (s : State) : (start s).arr = s.arr := rfl
@[simp] theorem start_queues (s : State) : (start s).queues = s.queues := rfl
@[simp] theorem start_lanes (s : State) : (start s).lanes = s.lanes := rfl
@[simp] theorem start_print (s : State) : (start s).print = s.print := rfl
@[simp] theorem start_serial (s : State) : (start s).serial = s.serial := rfl
@[simp] theorem start_pair (s : State) : (start s).pair = s.pair := rfl
@[simp] theorem start_sched (s : State) : (start s).sched = s.sched := rfl
@[simp] theorem start_cores (s : State) : (start s).cores = s.cores := rfl
@[simp] theorem start_noc (s : State) : (start s).noc = s.noc := rfl
@[simp] theorem start_plant (s : State) : (start s).plant = s.plant := rfl
@[simp] theorem start_nvm (s : State) : (start s).nvm = s.nvm := rfl
@[simp] theorem start_power (s : State) : (start s).power = s.power := rfl
@[simp] theorem start_security (s : State) : (start s).security = s.security := rfl
@[simp] theorem start_tap (s : State) : (start s).tap = s.tap := rfl
@[simp] theorem start_straps (s : State) : (start s).straps = s.straps := rfl
@[simp] theorem start_faultL (s : State) : (start s).faultL = s.faultL := rfl
@[simp] theorem start_ptpBase (s : State) : (start s).ptpBase = s.ptpBase := rfl
@[simp] theorem start_ptpAt (s : State) : (start s).ptpAt = s.ptpAt := rfl
@[simp] theorem start_ptpRate (s : State) : (start s).ptpRate = s.ptpRate := rfl
@[simp] theorem start_ptpFor (s : State) : (start s).ptpFor = s.ptpFor := rfl
@[simp] theorem rd_start (s : State) (i' j' : Nat) : rd (start s) i' j' = rd s i' j' := rfl
@[simp] theorem rdBytes_start (s : State) (i' j' : Nat) : rdBytes (start s) i' j' = rdBytes s i' j' := rfl

/-! at_ -/
@[simp] theorem at_pending (s : State) (t : Nat) : (at_ t s).pending = s.pending := rfl
@[simp] theorem at_now (s : State) (t : Nat) : (at_ t s).now = max s.now t := rfl
@[simp] theorem at_answer (s : State) (t : Nat) : (at_ t s).answer = {} := rfl
@[simp] theorem at_obj (s : State) (t : Nat) : (at_ t s).obj = s.obj := rfl
@[simp] theorem at_blobs (s : State) (t : Nat) : (at_ t s).blobs = s.blobs := rfl
@[simp] theorem at_stamps (s : State) (t : Nat) : (at_ t s).stamps = s.stamps := rfl
@[simp] theorem at_mem (s : State) (t : Nat) : (at_ t s).mem = s.mem := rfl
@[simp] theorem at_memEpoch (s : State) (t : Nat) : (at_ t s).memEpoch = s.memEpoch := rfl
@[simp] theorem at_fresh (s : State) (t : Nat) : (at_ t s).fresh = s.fresh := rfl
@[simp] theorem at_events (s : State) (t : Nat) : (at_ t s).events = s.events := rfl
@[simp] theorem at_coalesced (s : State) (t : Nat) : (at_ t s).coalesced = s.coalesced := rfl
@[simp] theorem at_keys (s : State) (t : Nat) : (at_ t s).keys = s.keys := rfl
@[simp] theorem at_cache (s : State) (t : Nat) : (at_ t s).cache = s.cache := rfl
@[simp] theorem at_arr (s : State) (t : Nat) : (at_ t s).arr = s.arr := rfl
@[simp] theorem at_queues (s : State) (t : Nat) : (at_ t s).queues = s.queues := rfl
@[simp] theorem at_lanes (s : State) (t : Nat) : (at_ t s).lanes = s.lanes := rfl
@[simp] theorem at_print (s : State) (t : Nat) : (at_ t s).print = s.print := rfl
@[simp] theorem at_serial (s : State) (t : Nat) : (at_ t s).serial = s.serial := rfl
@[simp] theorem at_pair (s : State) (t : Nat) : (at_ t s).pair = s.pair := rfl
@[simp] theorem at_sched (s : State) (t : Nat) : (at_ t s).sched = s.sched := rfl
@[simp] theorem at_cores (s : State) (t : Nat) : (at_ t s).cores = s.cores := rfl
@[simp] theorem at_noc (s : State) (t : Nat) : (at_ t s).noc = s.noc := rfl
@[simp] theorem at_plant (s : State) (t : Nat) : (at_ t s).plant = s.plant := rfl
@[simp] theorem at_nvm (s : State) (t : Nat) : (at_ t s).nvm = s.nvm := rfl
@[simp] theorem at_power (s : State) (t : Nat) : (at_ t s).power = s.power := rfl
@[simp] theorem at_security (s : State) (t : Nat) : (at_ t s).security = s.security := rfl
@[simp] theorem at_tap (s : State) (t : Nat) : (at_ t s).tap = s.tap := rfl
@[simp] theorem at_straps (s : State) (t : Nat) : (at_ t s).straps = s.straps := rfl
@[simp] theorem at_faultL (s : State) (t : Nat) : (at_ t s).faultL = s.faultL := rfl
@[simp] theorem at_ptpBase (s : State) (t : Nat) : (at_ t s).ptpBase = s.ptpBase := rfl
@[simp] theorem at_ptpAt (s : State) (t : Nat) : (at_ t s).ptpAt = s.ptpAt := rfl
@[simp] theorem at_ptpRate (s : State) (t : Nat) : (at_ t s).ptpRate = s.ptpRate := rfl
@[simp] theorem at_ptpFor (s : State) (t : Nat) : (at_ t s).ptpFor = s.ptpFor := rfl
@[simp] theorem rd_at (s : State) (t : Nat) (i' j' : Nat) : rd (at_ t s) i' j' = rd s i' j' := rfl
@[simp] theorem rdBytes_at (s : State) (t : Nat) (i' j' : Nat) : rdBytes (at_ t s) i' j' = rdBytes s i' j' := rfl

/-! send -/
@[simp] theorem send_pending (s : State) (p : Nat) (b : List Byte) : (send s p b).pending = s.pending := rfl
@[simp] theorem send_now (s : State) (p : Nat) (b : List Byte) : (send s p b).now = s.now := rfl
@[simp] theorem send_answer (s : State) (p : Nat) (b : List Byte) : (send s p b).answer = { s.answer with sent := s.answer.sent ++ [(p, b)] } := rfl
@[simp] theorem send_obj (s : State) (p : Nat) (b : List Byte) : (send s p b).obj = s.obj := rfl
@[simp] theorem send_blobs (s : State) (p : Nat) (b : List Byte) : (send s p b).blobs = s.blobs := rfl
@[simp] theorem send_stamps (s : State) (p : Nat) (b : List Byte) : (send s p b).stamps = s.stamps := rfl
@[simp] theorem send_mem (s : State) (p : Nat) (b : List Byte) : (send s p b).mem = s.mem := rfl
@[simp] theorem send_memEpoch (s : State) (p : Nat) (b : List Byte) : (send s p b).memEpoch = s.memEpoch := rfl
@[simp] theorem send_fresh (s : State) (p : Nat) (b : List Byte) : (send s p b).fresh = s.fresh := rfl
@[simp] theorem send_events (s : State) (p : Nat) (b : List Byte) : (send s p b).events = s.events := rfl
@[simp] theorem send_coalesced (s : State) (p : Nat) (b : List Byte) : (send s p b).coalesced = s.coalesced := rfl
@[simp] theorem send_keys (s : State) (p : Nat) (b : List Byte) : (send s p b).keys = s.keys := rfl
@[simp] theorem send_cache (s : State) (p : Nat) (b : List Byte) : (send s p b).cache = s.cache := rfl
@[simp] theorem send_arr (s : State) (p : Nat) (b : List Byte) : (send s p b).arr = s.arr := rfl
@[simp] theorem send_queues (s : State) (p : Nat) (b : List Byte) : (send s p b).queues = s.queues := rfl
@[simp] theorem send_lanes (s : State) (p : Nat) (b : List Byte) : (send s p b).lanes = s.lanes := rfl
@[simp] theorem send_print (s : State) (p : Nat) (b : List Byte) : (send s p b).print = s.print := rfl
@[simp] theorem send_serial (s : State) (p : Nat) (b : List Byte) : (send s p b).serial = s.serial := rfl
@[simp] theorem send_pair (s : State) (p : Nat) (b : List Byte) : (send s p b).pair = s.pair := rfl
@[simp] theorem send_sched (s : State) (p : Nat) (b : List Byte) : (send s p b).sched = s.sched := rfl
@[simp] theorem send_cores (s : State) (p : Nat) (b : List Byte) : (send s p b).cores = s.cores := rfl
@[simp] theorem send_noc (s : State) (p : Nat) (b : List Byte) : (send s p b).noc = s.noc := rfl
@[simp] theorem send_plant (s : State) (p : Nat) (b : List Byte) : (send s p b).plant = s.plant := rfl
@[simp] theorem send_nvm (s : State) (p : Nat) (b : List Byte) : (send s p b).nvm = s.nvm := rfl
@[simp] theorem send_power (s : State) (p : Nat) (b : List Byte) : (send s p b).power = s.power := rfl
@[simp] theorem send_security (s : State) (p : Nat) (b : List Byte) : (send s p b).security = s.security := rfl
@[simp] theorem send_tap (s : State) (p : Nat) (b : List Byte) : (send s p b).tap = s.tap := rfl
@[simp] theorem send_straps (s : State) (p : Nat) (b : List Byte) : (send s p b).straps = s.straps := rfl
@[simp] theorem send_faultL (s : State) (p : Nat) (b : List Byte) : (send s p b).faultL = s.faultL := rfl
@[simp] theorem send_ptpBase (s : State) (p : Nat) (b : List Byte) : (send s p b).ptpBase = s.ptpBase := rfl
@[simp] theorem send_ptpAt (s : State) (p : Nat) (b : List Byte) : (send s p b).ptpAt = s.ptpAt := rfl
@[simp] theorem send_ptpRate (s : State) (p : Nat) (b : List Byte) : (send s p b).ptpRate = s.ptpRate := rfl
@[simp] theorem send_ptpFor (s : State) (p : Nat) (b : List Byte) : (send s p b).ptpFor = s.ptpFor := rfl
@[simp] theorem rd_send (s : State) (p : Nat) (b : List Byte) (i' j' : Nat) : rd (send s p b) i' j' = rd s i' j' := rfl
@[simp] theorem rdBytes_send (s : State) (p : Nat) (b : List Byte) (i' j' : Nat) : rdBytes (send s p b) i' j' = rdBytes s i' j' := rfl

/-! wr -/
@[simp] theorem wr_pending (s : State) (i j v : Nat) : (wr s i j v).pending = s.pending := rfl
@[simp] theorem wr_now (s : State) (i j v : Nat) : (wr s i j v).now = s.now := rfl
@[simp] theorem wr_answer (s : State) (i j v : Nat) : (wr s i j v).answer = s.answer := rfl
@[simp] theorem wr_obj (s : State) (i j v : Nat) : (wr s i j v).obj = tabSet (objDefault i j) s.obj (objKey i j) v := rfl
@[simp] theorem wr_blobs (s : State) (i j v : Nat) : (wr s i j v).blobs = s.blobs := rfl
@[simp] theorem wr_stamps (s : State) (i j v : Nat) : (wr s i j v).stamps = s.stamps := rfl
@[simp] theorem wr_mem (s : State) (i j v : Nat) : (wr s i j v).mem = s.mem := rfl
@[simp] theorem wr_memEpoch (s : State) (i j v : Nat) : (wr s i j v).memEpoch = s.memEpoch := rfl
@[simp] theorem wr_fresh (s : State) (i j v : Nat) : (wr s i j v).fresh = s.fresh := rfl
@[simp] theorem wr_events (s : State) (i j v : Nat) : (wr s i j v).events = s.events := rfl
@[simp] theorem wr_coalesced (s : State) (i j v : Nat) : (wr s i j v).coalesced = s.coalesced := rfl
@[simp] theorem wr_keys (s : State) (i j v : Nat) : (wr s i j v).keys = s.keys := rfl
@[simp] theorem wr_cache (s : State) (i j v : Nat) : (wr s i j v).cache = s.cache := rfl
@[simp] theorem wr_arr (s : State) (i j v : Nat) : (wr s i j v).arr = s.arr := rfl
@[simp] theorem wr_queues (s : State) (i j v : Nat) : (wr s i j v).queues = s.queues := rfl
@[simp] theorem wr_lanes (s : State) (i j v : Nat) : (wr s i j v).lanes = s.lanes := rfl
@[simp] theorem wr_print (s : State) (i j v : Nat) : (wr s i j v).print = s.print := rfl
@[simp] theorem wr_serial (s : State) (i j v : Nat) : (wr s i j v).serial = s.serial := rfl
@[simp] theorem wr_pair (s : State) (i j v : Nat) : (wr s i j v).pair = s.pair := rfl
@[simp] theorem wr_sched (s : State) (i j v : Nat) : (wr s i j v).sched = s.sched := rfl
@[simp] theorem wr_cores (s : State) (i j v : Nat) : (wr s i j v).cores = s.cores := rfl
@[simp] theorem wr_noc (s : State) (i j v : Nat) : (wr s i j v).noc = s.noc := rfl
@[simp] theorem wr_plant (s : State) (i j v : Nat) : (wr s i j v).plant = s.plant := rfl
@[simp] theorem wr_nvm (s : State) (i j v : Nat) : (wr s i j v).nvm = s.nvm := rfl
@[simp] theorem wr_power (s : State) (i j v : Nat) : (wr s i j v).power = s.power := rfl
@[simp] theorem wr_security (s : State) (i j v : Nat) : (wr s i j v).security = s.security := rfl
@[simp] theorem wr_tap (s : State) (i j v : Nat) : (wr s i j v).tap = s.tap := rfl
@[simp] theorem wr_straps (s : State) (i j v : Nat) : (wr s i j v).straps = s.straps := rfl
@[simp] theorem wr_faultL (s : State) (i j v : Nat) : (wr s i j v).faultL = s.faultL := rfl
@[simp] theorem wr_ptpBase (s : State) (i j v : Nat) : (wr s i j v).ptpBase = s.ptpBase := rfl
@[simp] theorem wr_ptpAt (s : State) (i j v : Nat) : (wr s i j v).ptpAt = s.ptpAt := rfl
@[simp] theorem wr_ptpRate (s : State) (i j v : Nat) : (wr s i j v).ptpRate = s.ptpRate := rfl
@[simp] theorem wr_ptpFor (s : State) (i j v : Nat) : (wr s i j v).ptpFor = s.ptpFor := rfl
@[simp] theorem rdBytes_wr (s : State) (i j v : Nat) (i' j' : Nat) : rdBytes (wr s i j v) i' j' = rdBytes s i' j' := rfl

/-! wrBytes -/
@[simp] theorem wrBytes_pending (s : State) (i j : Nat) (b : List Byte) : (wrBytes s i j b).pending = s.pending := rfl
@[simp] theorem wrBytes_now (s : State) (i j : Nat) (b : List Byte) : (wrBytes s i j b).now = s.now := rfl
@[simp] theorem wrBytes_answer (s : State) (i j : Nat) (b : List Byte) : (wrBytes s i j b).answer = s.answer := rfl
@[simp] theorem wrBytes_obj (s : State) (i j : Nat) (b : List Byte) : (wrBytes s i j b).obj = s.obj := rfl
@[simp] theorem wrBytes_blobs (s : State) (i j : Nat) (b : List Byte) : (wrBytes s i j b).blobs = tabSet [] s.blobs (objKey i j) b := rfl
@[simp] theorem wrBytes_stamps (s : State) (i j : Nat) (b : List Byte) : (wrBytes s i j b).stamps = s.stamps := rfl
@[simp] theorem wrBytes_mem (s : State) (i j : Nat) (b : List Byte) : (wrBytes s i j b).mem = s.mem := rfl
@[simp] theorem wrBytes_memEpoch (s : State) (i j : Nat) (b : List Byte) : (wrBytes s i j b).memEpoch = s.memEpoch := rfl
@[simp] theorem wrBytes_fresh (s : State) (i j : Nat) (b : List Byte) : (wrBytes s i j b).fresh = s.fresh := rfl
@[simp] theorem wrBytes_events (s : State) (i j : Nat) (b : List Byte) : (wrBytes s i j b).events = s.events := rfl
@[simp] theorem wrBytes_coalesced (s : State) (i j : Nat) (b : List Byte) : (wrBytes s i j b).coalesced = s.coalesced := rfl
@[simp] theorem wrBytes_keys (s : State) (i j : Nat) (b : List Byte) : (wrBytes s i j b).keys = s.keys := rfl
@[simp] theorem wrBytes_cache (s : State) (i j : Nat) (b : List Byte) : (wrBytes s i j b).cache = s.cache := rfl
@[simp] theorem wrBytes_arr (s : State) (i j : Nat) (b : List Byte) : (wrBytes s i j b).arr = s.arr := rfl
@[simp] theorem wrBytes_queues (s : State) (i j : Nat) (b : List Byte) : (wrBytes s i j b).queues = s.queues := rfl
@[simp] theorem wrBytes_lanes (s : State) (i j : Nat) (b : List Byte) : (wrBytes s i j b).lanes = s.lanes := rfl
@[simp] theorem wrBytes_print (s : State) (i j : Nat) (b : List Byte) : (wrBytes s i j b).print = s.print := rfl
@[simp] theorem wrBytes_serial (s : State) (i j : Nat) (b : List Byte) : (wrBytes s i j b).serial = s.serial := rfl
@[simp] theorem wrBytes_pair (s : State) (i j : Nat) (b : List Byte) : (wrBytes s i j b).pair = s.pair := rfl
@[simp] theorem wrBytes_sched (s : State) (i j : Nat) (b : List Byte) : (wrBytes s i j b).sched = s.sched := rfl
@[simp] theorem wrBytes_cores (s : State) (i j : Nat) (b : List Byte) : (wrBytes s i j b).cores = s.cores := rfl
@[simp] theorem wrBytes_noc (s : State) (i j : Nat) (b : List Byte) : (wrBytes s i j b).noc = s.noc := rfl
@[simp] theorem wrBytes_plant (s : State) (i j : Nat) (b : List Byte) : (wrBytes s i j b).plant = s.plant := rfl
@[simp] theorem wrBytes_nvm (s : State) (i j : Nat) (b : List Byte) : (wrBytes s i j b).nvm = s.nvm := rfl
@[simp] theorem wrBytes_power (s : State) (i j : Nat) (b : List Byte) : (wrBytes s i j b).power = s.power := rfl
@[simp] theorem wrBytes_security (s : State) (i j : Nat) (b : List Byte) : (wrBytes s i j b).security = s.security := rfl
@[simp] theorem wrBytes_tap (s : State) (i j : Nat) (b : List Byte) : (wrBytes s i j b).tap = s.tap := rfl
@[simp] theorem wrBytes_straps (s : State) (i j : Nat) (b : List Byte) : (wrBytes s i j b).straps = s.straps := rfl
@[simp] theorem wrBytes_faultL (s : State) (i j : Nat) (b : List Byte) : (wrBytes s i j b).faultL = s.faultL := rfl
@[simp] theorem wrBytes_ptpBase (s : State) (i j : Nat) (b : List Byte) : (wrBytes s i j b).ptpBase = s.ptpBase := rfl
@[simp] theorem wrBytes_ptpAt (s : State) (i j : Nat) (b : List Byte) : (wrBytes s i j b).ptpAt = s.ptpAt := rfl
@[simp] theorem wrBytes_ptpRate (s : State) (i j : Nat) (b : List Byte) : (wrBytes s i j b).ptpRate = s.ptpRate := rfl
@[simp] theorem wrBytes_ptpFor (s : State) (i j : Nat) (b : List Byte) : (wrBytes s i j b).ptpFor = s.ptpFor := rfl
@[simp] theorem rd_wrBytes (s : State) (i j : Nat) (b : List Byte) (i' j' : Nat) : rd (wrBytes s i j b) i' j' = rd s i' j' := rfl

/-! setStamp -/
@[simp] theorem setStamp_pending (s : State) (i j : Nat) : (setStamp s i j).pending = s.pending := rfl
@[simp] theorem setStamp_now (s : State) (i j : Nat) : (setStamp s i j).now = s.now := rfl
@[simp] theorem setStamp_answer (s : State) (i j : Nat) : (setStamp s i j).answer = s.answer := rfl
@[simp] theorem setStamp_obj (s : State) (i j : Nat) : (setStamp s i j).obj = s.obj := rfl
@[simp] theorem setStamp_blobs (s : State) (i j : Nat) : (setStamp s i j).blobs = s.blobs := rfl
@[simp] theorem setStamp_stamps (s : State) (i j : Nat) : (setStamp s i j).stamps = tabSet 0 s.stamps (objKey i j) s.now := rfl
@[simp] theorem setStamp_mem (s : State) (i j : Nat) : (setStamp s i j).mem = s.mem := rfl
@[simp] theorem setStamp_memEpoch (s : State) (i j : Nat) : (setStamp s i j).memEpoch = s.memEpoch := rfl
@[simp] theorem setStamp_fresh (s : State) (i j : Nat) : (setStamp s i j).fresh = s.fresh := rfl
@[simp] theorem setStamp_events (s : State) (i j : Nat) : (setStamp s i j).events = s.events := rfl
@[simp] theorem setStamp_coalesced (s : State) (i j : Nat) : (setStamp s i j).coalesced = s.coalesced := rfl
@[simp] theorem setStamp_keys (s : State) (i j : Nat) : (setStamp s i j).keys = s.keys := rfl
@[simp] theorem setStamp_cache (s : State) (i j : Nat) : (setStamp s i j).cache = s.cache := rfl
@[simp] theorem setStamp_arr (s : State) (i j : Nat) : (setStamp s i j).arr = s.arr := rfl
@[simp] theorem setStamp_queues (s : State) (i j : Nat) : (setStamp s i j).queues = s.queues := rfl
@[simp] theorem setStamp_lanes (s : State) (i j : Nat) : (setStamp s i j).lanes = s.lanes := rfl
@[simp] theorem setStamp_print (s : State) (i j : Nat) : (setStamp s i j).print = s.print := rfl
@[simp] theorem setStamp_serial (s : State) (i j : Nat) : (setStamp s i j).serial = s.serial := rfl
@[simp] theorem setStamp_pair (s : State) (i j : Nat) : (setStamp s i j).pair = s.pair := rfl
@[simp] theorem setStamp_sched (s : State) (i j : Nat) : (setStamp s i j).sched = s.sched := rfl
@[simp] theorem setStamp_cores (s : State) (i j : Nat) : (setStamp s i j).cores = s.cores := rfl
@[simp] theorem setStamp_noc (s : State) (i j : Nat) : (setStamp s i j).noc = s.noc := rfl
@[simp] theorem setStamp_plant (s : State) (i j : Nat) : (setStamp s i j).plant = s.plant := rfl
@[simp] theorem setStamp_nvm (s : State) (i j : Nat) : (setStamp s i j).nvm = s.nvm := rfl
@[simp] theorem setStamp_power (s : State) (i j : Nat) : (setStamp s i j).power = s.power := rfl
@[simp] theorem setStamp_security (s : State) (i j : Nat) : (setStamp s i j).security = s.security := rfl
@[simp] theorem setStamp_tap (s : State) (i j : Nat) : (setStamp s i j).tap = s.tap := rfl
@[simp] theorem setStamp_straps (s : State) (i j : Nat) : (setStamp s i j).straps = s.straps := rfl
@[simp] theorem setStamp_faultL (s : State) (i j : Nat) : (setStamp s i j).faultL = s.faultL := rfl
@[simp] theorem setStamp_ptpBase (s : State) (i j : Nat) : (setStamp s i j).ptpBase = s.ptpBase := rfl
@[simp] theorem setStamp_ptpAt (s : State) (i j : Nat) : (setStamp s i j).ptpAt = s.ptpAt := rfl
@[simp] theorem setStamp_ptpRate (s : State) (i j : Nat) : (setStamp s i j).ptpRate = s.ptpRate := rfl
@[simp] theorem setStamp_ptpFor (s : State) (i j : Nat) : (setStamp s i j).ptpFor = s.ptpFor := rfl
@[simp] theorem rd_setStamp (s : State) (i j : Nat) (i' j' : Nat) : rd (setStamp s i j) i' j' = rd s i' j' := rfl
@[simp] theorem rdBytes_setStamp (s : State) (i j : Nat) (i' j' : Nat) : rdBytes (setStamp s i j) i' j' = rdBytes s i' j' := rfl

/-! memPut -/
@[simp] theorem memPut_pending (s : State) (a : Nat) (b : Byte) : (memPut s a b).pending = s.pending := rfl
@[simp] theorem memPut_now (s : State) (a : Nat) (b : Byte) : (memPut s a b).now = s.now := rfl
@[simp] theorem memPut_answer (s : State) (a : Nat) (b : Byte) : (memPut s a b).answer = s.answer := rfl
@[simp] theorem memPut_obj (s : State) (a : Nat) (b : Byte) : (memPut s a b).obj = s.obj := rfl
@[simp] theorem memPut_blobs (s : State) (a : Nat) (b : Byte) : (memPut s a b).blobs = s.blobs := rfl
@[simp] theorem memPut_stamps (s : State) (a : Nat) (b : Byte) : (memPut s a b).stamps = s.stamps := rfl
@[simp] theorem memPut_mem (s : State) (a : Nat) (b : Byte) : (memPut s a b).mem = tabPut s.mem a b := rfl
@[simp] theorem memPut_memEpoch (s : State) (a : Nat) (b : Byte) : (memPut s a b).memEpoch = s.memEpoch := rfl
@[simp] theorem memPut_fresh (s : State) (a : Nat) (b : Byte) : (memPut s a b).fresh = s.fresh := rfl
@[simp] theorem memPut_events (s : State) (a : Nat) (b : Byte) : (memPut s a b).events = s.events := rfl
@[simp] theorem memPut_coalesced (s : State) (a : Nat) (b : Byte) : (memPut s a b).coalesced = s.coalesced := rfl
@[simp] theorem memPut_keys (s : State) (a : Nat) (b : Byte) : (memPut s a b).keys = s.keys := rfl
@[simp] theorem memPut_cache (s : State) (a : Nat) (b : Byte) : (memPut s a b).cache = s.cache := rfl
@[simp] theorem memPut_arr (s : State) (a : Nat) (b : Byte) : (memPut s a b).arr = s.arr := rfl
@[simp] theorem memPut_queues (s : State) (a : Nat) (b : Byte) : (memPut s a b).queues = s.queues := rfl
@[simp] theorem memPut_lanes (s : State) (a : Nat) (b : Byte) : (memPut s a b).lanes = s.lanes := rfl
@[simp] theorem memPut_print (s : State) (a : Nat) (b : Byte) : (memPut s a b).print = s.print := rfl
@[simp] theorem memPut_serial (s : State) (a : Nat) (b : Byte) : (memPut s a b).serial = s.serial := rfl
@[simp] theorem memPut_pair (s : State) (a : Nat) (b : Byte) : (memPut s a b).pair = s.pair := rfl
@[simp] theorem memPut_sched (s : State) (a : Nat) (b : Byte) : (memPut s a b).sched = s.sched := rfl
@[simp] theorem memPut_cores (s : State) (a : Nat) (b : Byte) : (memPut s a b).cores = s.cores := rfl
@[simp] theorem memPut_noc (s : State) (a : Nat) (b : Byte) : (memPut s a b).noc = s.noc := rfl
@[simp] theorem memPut_plant (s : State) (a : Nat) (b : Byte) : (memPut s a b).plant = s.plant := rfl
@[simp] theorem memPut_nvm (s : State) (a : Nat) (b : Byte) : (memPut s a b).nvm = s.nvm := rfl
@[simp] theorem memPut_power (s : State) (a : Nat) (b : Byte) : (memPut s a b).power = s.power := rfl
@[simp] theorem memPut_security (s : State) (a : Nat) (b : Byte) : (memPut s a b).security = s.security := rfl
@[simp] theorem memPut_tap (s : State) (a : Nat) (b : Byte) : (memPut s a b).tap = s.tap := rfl
@[simp] theorem memPut_straps (s : State) (a : Nat) (b : Byte) : (memPut s a b).straps = s.straps := rfl
@[simp] theorem memPut_faultL (s : State) (a : Nat) (b : Byte) : (memPut s a b).faultL = s.faultL := rfl
@[simp] theorem memPut_ptpBase (s : State) (a : Nat) (b : Byte) : (memPut s a b).ptpBase = s.ptpBase := rfl
@[simp] theorem memPut_ptpAt (s : State) (a : Nat) (b : Byte) : (memPut s a b).ptpAt = s.ptpAt := rfl
@[simp] theorem memPut_ptpRate (s : State) (a : Nat) (b : Byte) : (memPut s a b).ptpRate = s.ptpRate := rfl
@[simp] theorem memPut_ptpFor (s : State) (a : Nat) (b : Byte) : (memPut s a b).ptpFor = s.ptpFor := rfl
@[simp] theorem rd_memPut (s : State) (a : Nat) (b : Byte) (i' j' : Nat) : rd (memPut s a b) i' j' = rd s i' j' := rfl
@[simp] theorem rdBytes_memPut (s : State) (a : Nat) (b : Byte) (i' j' : Nat) : rdBytes (memPut s a b) i' j' = rdBytes s i' j' := rfl

/-! memForget -/
@[simp] theorem memForget_pending (s : State) (lo hi : Nat) : (memForget s lo hi).pending = s.pending := rfl
@[simp] theorem memForget_now (s : State) (lo hi : Nat) : (memForget s lo hi).now = s.now := rfl
@[simp] theorem memForget_answer (s : State) (lo hi : Nat) : (memForget s lo hi).answer = s.answer := rfl
@[simp] theorem memForget_obj (s : State) (lo hi : Nat) : (memForget s lo hi).obj = s.obj := rfl
@[simp] theorem memForget_blobs (s : State) (lo hi : Nat) : (memForget s lo hi).blobs = s.blobs := rfl
@[simp] theorem memForget_stamps (s : State) (lo hi : Nat) : (memForget s lo hi).stamps = s.stamps := rfl
@[simp] theorem memForget_mem (s : State) (lo hi : Nat) : (memForget s lo hi).mem = s.mem.filter (fun c => decide (c.1 < lo) || decide (hi ≤ c.1)) := rfl
@[simp] theorem memForget_memEpoch (s : State) (lo hi : Nat) : (memForget s lo hi).memEpoch = s.memEpoch + 1 := rfl
@[simp] theorem memForget_fresh (s : State) (lo hi : Nat) : (memForget s lo hi).fresh = s.fresh := rfl
@[simp] theorem memForget_events (s : State) (lo hi : Nat) : (memForget s lo hi).events = s.events := rfl
@[simp] theorem memForget_coalesced (s : State) (lo hi : Nat) : (memForget s lo hi).coalesced = s.coalesced := rfl
@[simp] theorem memForget_keys (s : State) (lo hi : Nat) : (memForget s lo hi).keys = s.keys := rfl
@[simp] theorem memForget_cache (s : State) (lo hi : Nat) : (memForget s lo hi).cache = s.cache := rfl
@[simp] theorem memForget_arr (s : State) (lo hi : Nat) : (memForget s lo hi).arr = s.arr := rfl
@[simp] theorem memForget_queues (s : State) (lo hi : Nat) : (memForget s lo hi).queues = s.queues := rfl
@[simp] theorem memForget_lanes (s : State) (lo hi : Nat) : (memForget s lo hi).lanes = s.lanes := rfl
@[simp] theorem memForget_print (s : State) (lo hi : Nat) : (memForget s lo hi).print = s.print := rfl
@[simp] theorem memForget_serial (s : State) (lo hi : Nat) : (memForget s lo hi).serial = s.serial := rfl
@[simp] theorem memForget_pair (s : State) (lo hi : Nat) : (memForget s lo hi).pair = s.pair := rfl
@[simp] theorem memForget_sched (s : State) (lo hi : Nat) : (memForget s lo hi).sched = s.sched := rfl
@[simp] theorem memForget_cores (s : State) (lo hi : Nat) : (memForget s lo hi).cores = s.cores := rfl
@[simp] theorem memForget_noc (s : State) (lo hi : Nat) : (memForget s lo hi).noc = s.noc := rfl
@[simp] theorem memForget_plant (s : State) (lo hi : Nat) : (memForget s lo hi).plant = s.plant := rfl
@[simp] theorem memForget_nvm (s : State) (lo hi : Nat) : (memForget s lo hi).nvm = s.nvm := rfl
@[simp] theorem memForget_power (s : State) (lo hi : Nat) : (memForget s lo hi).power = s.power := rfl
@[simp] theorem memForget_security (s : State) (lo hi : Nat) : (memForget s lo hi).security = s.security := rfl
@[simp] theorem memForget_tap (s : State) (lo hi : Nat) : (memForget s lo hi).tap = s.tap := rfl
@[simp] theorem memForget_straps (s : State) (lo hi : Nat) : (memForget s lo hi).straps = s.straps := rfl
@[simp] theorem memForget_faultL (s : State) (lo hi : Nat) : (memForget s lo hi).faultL = s.faultL := rfl
@[simp] theorem memForget_ptpBase (s : State) (lo hi : Nat) : (memForget s lo hi).ptpBase = s.ptpBase := rfl
@[simp] theorem memForget_ptpAt (s : State) (lo hi : Nat) : (memForget s lo hi).ptpAt = s.ptpAt := rfl
@[simp] theorem memForget_ptpRate (s : State) (lo hi : Nat) : (memForget s lo hi).ptpRate = s.ptpRate := rfl
@[simp] theorem memForget_ptpFor (s : State) (lo hi : Nat) : (memForget s lo hi).ptpFor = s.ptpFor := rfl
@[simp] theorem rd_memForget (s : State) (lo hi : Nat) (i' j' : Nat) : rd (memForget s lo hi) i' j' = rd s i' j' := rfl
@[simp] theorem rdBytes_memForget (s : State) (lo hi : Nat) (i' j' : Nat) : rdBytes (memForget s lo hi) i' j' = rdBytes s i' j' := rfl

/-! reply -/
@[simp] theorem reply_pending (s : State) (st : Option Status) (v : Nat) (b : List Byte) : (reply s st v b).pending = s.pending := rfl
@[simp] theorem reply_now (s : State) (st : Option Status) (v : Nat) (b : List Byte) : (reply s st v b).now = s.now := rfl
@[simp] theorem reply_answer (s : State) (st : Option Status) (v : Nat) (b : List Byte) : (reply s st v b).answer = { s.answer with status := st, value := v, bytes := b } := rfl
@[simp] theorem reply_obj (s : State) (st : Option Status) (v : Nat) (b : List Byte) : (reply s st v b).obj = s.obj := rfl
@[simp] theorem reply_blobs (s : State) (st : Option Status) (v : Nat) (b : List Byte) : (reply s st v b).blobs = s.blobs := rfl
@[simp] theorem reply_stamps (s : State) (st : Option Status) (v : Nat) (b : List Byte) : (reply s st v b).stamps = s.stamps := rfl
@[simp] theorem reply_mem (s : State) (st : Option Status) (v : Nat) (b : List Byte) : (reply s st v b).mem = s.mem := rfl
@[simp] theorem reply_memEpoch (s : State) (st : Option Status) (v : Nat) (b : List Byte) : (reply s st v b).memEpoch = s.memEpoch := rfl
@[simp] theorem reply_fresh (s : State) (st : Option Status) (v : Nat) (b : List Byte) : (reply s st v b).fresh = s.fresh := rfl
@[simp] theorem reply_events (s : State) (st : Option Status) (v : Nat) (b : List Byte) : (reply s st v b).events = s.events := rfl
@[simp] theorem reply_coalesced (s : State) (st : Option Status) (v : Nat) (b : List Byte) : (reply s st v b).coalesced = s.coalesced := rfl
@[simp] theorem reply_keys (s : State) (st : Option Status) (v : Nat) (b : List Byte) : (reply s st v b).keys = s.keys := rfl
@[simp] theorem reply_cache (s : State) (st : Option Status) (v : Nat) (b : List Byte) : (reply s st v b).cache = s.cache := rfl
@[simp] theorem reply_arr (s : State) (st : Option Status) (v : Nat) (b : List Byte) : (reply s st v b).arr = s.arr := rfl
@[simp] theorem reply_queues (s : State) (st : Option Status) (v : Nat) (b : List Byte) : (reply s st v b).queues = s.queues := rfl
@[simp] theorem reply_lanes (s : State) (st : Option Status) (v : Nat) (b : List Byte) : (reply s st v b).lanes = s.lanes := rfl
@[simp] theorem reply_print (s : State) (st : Option Status) (v : Nat) (b : List Byte) : (reply s st v b).print = s.print := rfl
@[simp] theorem reply_serial (s : State) (st : Option Status) (v : Nat) (b : List Byte) : (reply s st v b).serial = s.serial := rfl
@[simp] theorem reply_pair (s : State) (st : Option Status) (v : Nat) (b : List Byte) : (reply s st v b).pair = s.pair := rfl
@[simp] theorem reply_sched (s : State) (st : Option Status) (v : Nat) (b : List Byte) : (reply s st v b).sched = s.sched := rfl
@[simp] theorem reply_cores (s : State) (st : Option Status) (v : Nat) (b : List Byte) : (reply s st v b).cores = s.cores := rfl
@[simp] theorem reply_noc (s : State) (st : Option Status) (v : Nat) (b : List Byte) : (reply s st v b).noc = s.noc := rfl
@[simp] theorem reply_plant (s : State) (st : Option Status) (v : Nat) (b : List Byte) : (reply s st v b).plant = s.plant := rfl
@[simp] theorem reply_nvm (s : State) (st : Option Status) (v : Nat) (b : List Byte) : (reply s st v b).nvm = s.nvm := rfl
@[simp] theorem reply_power (s : State) (st : Option Status) (v : Nat) (b : List Byte) : (reply s st v b).power = s.power := rfl
@[simp] theorem reply_security (s : State) (st : Option Status) (v : Nat) (b : List Byte) : (reply s st v b).security = s.security := rfl
@[simp] theorem reply_tap (s : State) (st : Option Status) (v : Nat) (b : List Byte) : (reply s st v b).tap = s.tap := rfl
@[simp] theorem reply_straps (s : State) (st : Option Status) (v : Nat) (b : List Byte) : (reply s st v b).straps = s.straps := rfl
@[simp] theorem reply_faultL (s : State) (st : Option Status) (v : Nat) (b : List Byte) : (reply s st v b).faultL = s.faultL := rfl
@[simp] theorem reply_ptpBase (s : State) (st : Option Status) (v : Nat) (b : List Byte) : (reply s st v b).ptpBase = s.ptpBase := rfl
@[simp] theorem reply_ptpAt (s : State) (st : Option Status) (v : Nat) (b : List Byte) : (reply s st v b).ptpAt = s.ptpAt := rfl
@[simp] theorem reply_ptpRate (s : State) (st : Option Status) (v : Nat) (b : List Byte) : (reply s st v b).ptpRate = s.ptpRate := rfl
@[simp] theorem reply_ptpFor (s : State) (st : Option Status) (v : Nat) (b : List Byte) : (reply s st v b).ptpFor = s.ptpFor := rfl
@[simp] theorem rd_reply (s : State) (st : Option Status) (v : Nat) (b : List Byte) (i' j' : Nat) : rd (reply s st v b) i' j' = rd s i' j' := rfl
@[simp] theorem rdBytes_reply (s : State) (st : Option Status) (v : Nat) (b : List Byte) (i' j' : Nat) : rdBytes (reply s st v b) i' j' = rdBytes s i' j' := rfl

/-! setField -/
@[simp] theorem setField_pending (s : State) (f : Nat) (x : Field) : (setField s f x).pending = s.pending := rfl
@[simp] theorem setField_now (s : State) (f : Nat) (x : Field) : (setField s f x).now = s.now := rfl
@[simp] theorem setField_answer (s : State) (f : Nat) (x : Field) : (setField s f x).answer = s.answer := rfl
@[simp] theorem setField_obj (s : State) (f : Nat) (x : Field) : (setField s f x).obj = s.obj := rfl
@[simp] theorem setField_blobs (s : State) (f : Nat) (x : Field) : (setField s f x).blobs = s.blobs := rfl
@[simp] theorem setField_stamps (s : State) (f : Nat) (x : Field) : (setField s f x).stamps = s.stamps := rfl
@[simp] theorem setField_mem (s : State) (f : Nat) (x : Field) : (setField s f x).mem = s.mem := rfl
@[simp] theorem setField_memEpoch (s : State) (f : Nat) (x : Field) : (setField s f x).memEpoch = s.memEpoch := rfl
@[simp] theorem setField_fresh (s : State) (f : Nat) (x : Field) : (setField s f x).fresh = s.fresh := rfl
@[simp] theorem setField_events (s : State) (f : Nat) (x : Field) : (setField s f x).events = s.events := rfl
@[simp] theorem setField_coalesced (s : State) (f : Nat) (x : Field) : (setField s f x).coalesced = s.coalesced := rfl
@[simp] theorem setField_keys (s : State) (f : Nat) (x : Field) : (setField s f x).keys = s.keys := rfl
@[simp] theorem setField_cache (s : State) (f : Nat) (x : Field) : (setField s f x).cache = s.cache := rfl
@[simp] theorem setField_arr (s : State) (f : Nat) (x : Field) : (setField s f x).arr = { s.arr with fields := tabSet {} s.arr.fields f x } := rfl
@[simp] theorem setField_queues (s : State) (f : Nat) (x : Field) : (setField s f x).queues = s.queues := rfl
@[simp] theorem setField_lanes (s : State) (f : Nat) (x : Field) : (setField s f x).lanes = s.lanes := rfl
@[simp] theorem setField_print (s : State) (f : Nat) (x : Field) : (setField s f x).print = s.print := rfl
@[simp] theorem setField_serial (s : State) (f : Nat) (x : Field) : (setField s f x).serial = s.serial := rfl
@[simp] theorem setField_pair (s : State) (f : Nat) (x : Field) : (setField s f x).pair = s.pair := rfl
@[simp] theorem setField_sched (s : State) (f : Nat) (x : Field) : (setField s f x).sched = s.sched := rfl
@[simp] theorem setField_cores (s : State) (f : Nat) (x : Field) : (setField s f x).cores = s.cores := rfl
@[simp] theorem setField_noc (s : State) (f : Nat) (x : Field) : (setField s f x).noc = s.noc := rfl
@[simp] theorem setField_plant (s : State) (f : Nat) (x : Field) : (setField s f x).plant = s.plant := rfl
@[simp] theorem setField_nvm (s : State) (f : Nat) (x : Field) : (setField s f x).nvm = s.nvm := rfl
@[simp] theorem setField_power (s : State) (f : Nat) (x : Field) : (setField s f x).power = s.power := rfl
@[simp] theorem setField_security (s : State) (f : Nat) (x : Field) : (setField s f x).security = s.security := rfl
@[simp] theorem setField_tap (s : State) (f : Nat) (x : Field) : (setField s f x).tap = s.tap := rfl
@[simp] theorem setField_straps (s : State) (f : Nat) (x : Field) : (setField s f x).straps = s.straps := rfl
@[simp] theorem setField_faultL (s : State) (f : Nat) (x : Field) : (setField s f x).faultL = s.faultL := rfl
@[simp] theorem setField_ptpBase (s : State) (f : Nat) (x : Field) : (setField s f x).ptpBase = s.ptpBase := rfl
@[simp] theorem setField_ptpAt (s : State) (f : Nat) (x : Field) : (setField s f x).ptpAt = s.ptpAt := rfl
@[simp] theorem setField_ptpRate (s : State) (f : Nat) (x : Field) : (setField s f x).ptpRate = s.ptpRate := rfl
@[simp] theorem setField_ptpFor (s : State) (f : Nat) (x : Field) : (setField s f x).ptpFor = s.ptpFor := rfl
@[simp] theorem rd_setField (s : State) (f : Nat) (x : Field) (i' j' : Nat) : rd (setField s f x) i' j' = rd s i' j' := rfl
@[simp] theorem rdBytes_setField (s : State) (f : Nat) (x : Field) (i' j' : Nat) : rdBytes (setField s f x) i' j' = rdBytes s i' j' := rfl

/-! setQueue -/
@[simp] theorem setQueue_pending (s : State) (q : Nat) (x : Queue) : (setQueue s q x).pending = s.pending := rfl
@[simp] theorem setQueue_now (s : State) (q : Nat) (x : Queue) : (setQueue s q x).now = s.now := rfl
@[simp] theorem setQueue_answer (s : State) (q : Nat) (x : Queue) : (setQueue s q x).answer = s.answer := rfl
@[simp] theorem setQueue_obj (s : State) (q : Nat) (x : Queue) : (setQueue s q x).obj = s.obj := rfl
@[simp] theorem setQueue_blobs (s : State) (q : Nat) (x : Queue) : (setQueue s q x).blobs = s.blobs := rfl
@[simp] theorem setQueue_stamps (s : State) (q : Nat) (x : Queue) : (setQueue s q x).stamps = s.stamps := rfl
@[simp] theorem setQueue_mem (s : State) (q : Nat) (x : Queue) : (setQueue s q x).mem = s.mem := rfl
@[simp] theorem setQueue_memEpoch (s : State) (q : Nat) (x : Queue) : (setQueue s q x).memEpoch = s.memEpoch := rfl
@[simp] theorem setQueue_fresh (s : State) (q : Nat) (x : Queue) : (setQueue s q x).fresh = s.fresh := rfl
@[simp] theorem setQueue_events (s : State) (q : Nat) (x : Queue) : (setQueue s q x).events = s.events := rfl
@[simp] theorem setQueue_coalesced (s : State) (q : Nat) (x : Queue) : (setQueue s q x).coalesced = s.coalesced := rfl
@[simp] theorem setQueue_keys (s : State) (q : Nat) (x : Queue) : (setQueue s q x).keys = s.keys := rfl
@[simp] theorem setQueue_cache (s : State) (q : Nat) (x : Queue) : (setQueue s q x).cache = s.cache := rfl
@[simp] theorem setQueue_arr (s : State) (q : Nat) (x : Queue) : (setQueue s q x).arr = s.arr := rfl
@[simp] theorem setQueue_queues (s : State) (q : Nat) (x : Queue) : (setQueue s q x).queues = tabSet {} s.queues q x := rfl
@[simp] theorem setQueue_lanes (s : State) (q : Nat) (x : Queue) : (setQueue s q x).lanes = s.lanes := rfl
@[simp] theorem setQueue_print (s : State) (q : Nat) (x : Queue) : (setQueue s q x).print = s.print := rfl
@[simp] theorem setQueue_serial (s : State) (q : Nat) (x : Queue) : (setQueue s q x).serial = s.serial := rfl
@[simp] theorem setQueue_pair (s : State) (q : Nat) (x : Queue) : (setQueue s q x).pair = s.pair := rfl
@[simp] theorem setQueue_sched (s : State) (q : Nat) (x : Queue) : (setQueue s q x).sched = s.sched := rfl
@[simp] theorem setQueue_cores (s : State) (q : Nat) (x : Queue) : (setQueue s q x).cores = s.cores := rfl
@[simp] theorem setQueue_noc (s : State) (q : Nat) (x : Queue) : (setQueue s q x).noc = s.noc := rfl
@[simp] theorem setQueue_plant (s : State) (q : Nat) (x : Queue) : (setQueue s q x).plant = s.plant := rfl
@[simp] theorem setQueue_nvm (s : State) (q : Nat) (x : Queue) : (setQueue s q x).nvm = s.nvm := rfl
@[simp] theorem setQueue_power (s : State) (q : Nat) (x : Queue) : (setQueue s q x).power = s.power := rfl
@[simp] theorem setQueue_security (s : State) (q : Nat) (x : Queue) : (setQueue s q x).security = s.security := rfl
@[simp] theorem setQueue_tap (s : State) (q : Nat) (x : Queue) : (setQueue s q x).tap = s.tap := rfl
@[simp] theorem setQueue_straps (s : State) (q : Nat) (x : Queue) : (setQueue s q x).straps = s.straps := rfl
@[simp] theorem setQueue_faultL (s : State) (q : Nat) (x : Queue) : (setQueue s q x).faultL = s.faultL := rfl
@[simp] theorem setQueue_ptpBase (s : State) (q : Nat) (x : Queue) : (setQueue s q x).ptpBase = s.ptpBase := rfl
@[simp] theorem setQueue_ptpAt (s : State) (q : Nat) (x : Queue) : (setQueue s q x).ptpAt = s.ptpAt := rfl
@[simp] theorem setQueue_ptpRate (s : State) (q : Nat) (x : Queue) : (setQueue s q x).ptpRate = s.ptpRate := rfl
@[simp] theorem setQueue_ptpFor (s : State) (q : Nat) (x : Queue) : (setQueue s q x).ptpFor = s.ptpFor := rfl
@[simp] theorem rd_setQueue (s : State) (q : Nat) (x : Queue) (i' j' : Nat) : rd (setQueue s q x) i' j' = rd s i' j' := rfl
@[simp] theorem rdBytes_setQueue (s : State) (q : Nat) (x : Queue) (i' j' : Nat) : rdBytes (setQueue s q x) i' j' = rdBytes s i' j' := rfl

/-! setLane -/
@[simp] theorem setLane_pending (s : State) (n : Nat) (x : Lane) : (setLane s n x).pending = s.pending := rfl
@[simp] theorem setLane_now (s : State) (n : Nat) (x : Lane) : (setLane s n x).now = s.now := rfl
@[simp] theorem setLane_answer (s : State) (n : Nat) (x : Lane) : (setLane s n x).answer = s.answer := rfl
@[simp] theorem setLane_obj (s : State) (n : Nat) (x : Lane) : (setLane s n x).obj = s.obj := rfl
@[simp] theorem setLane_blobs (s : State) (n : Nat) (x : Lane) : (setLane s n x).blobs = s.blobs := rfl
@[simp] theorem setLane_stamps (s : State) (n : Nat) (x : Lane) : (setLane s n x).stamps = s.stamps := rfl
@[simp] theorem setLane_mem (s : State) (n : Nat) (x : Lane) : (setLane s n x).mem = s.mem := rfl
@[simp] theorem setLane_memEpoch (s : State) (n : Nat) (x : Lane) : (setLane s n x).memEpoch = s.memEpoch := rfl
@[simp] theorem setLane_fresh (s : State) (n : Nat) (x : Lane) : (setLane s n x).fresh = s.fresh := rfl
@[simp] theorem setLane_events (s : State) (n : Nat) (x : Lane) : (setLane s n x).events = s.events := rfl
@[simp] theorem setLane_coalesced (s : State) (n : Nat) (x : Lane) : (setLane s n x).coalesced = s.coalesced := rfl
@[simp] theorem setLane_keys (s : State) (n : Nat) (x : Lane) : (setLane s n x).keys = s.keys := rfl
@[simp] theorem setLane_cache (s : State) (n : Nat) (x : Lane) : (setLane s n x).cache = s.cache := rfl
@[simp] theorem setLane_arr (s : State) (n : Nat) (x : Lane) : (setLane s n x).arr = s.arr := rfl
@[simp] theorem setLane_queues (s : State) (n : Nat) (x : Lane) : (setLane s n x).queues = s.queues := rfl
@[simp] theorem setLane_lanes (s : State) (n : Nat) (x : Lane) : (setLane s n x).lanes = tabSet {} s.lanes n x := rfl
@[simp] theorem setLane_print (s : State) (n : Nat) (x : Lane) : (setLane s n x).print = s.print := rfl
@[simp] theorem setLane_serial (s : State) (n : Nat) (x : Lane) : (setLane s n x).serial = s.serial := rfl
@[simp] theorem setLane_pair (s : State) (n : Nat) (x : Lane) : (setLane s n x).pair = s.pair := rfl
@[simp] theorem setLane_sched (s : State) (n : Nat) (x : Lane) : (setLane s n x).sched = s.sched := rfl
@[simp] theorem setLane_cores (s : State) (n : Nat) (x : Lane) : (setLane s n x).cores = s.cores := rfl
@[simp] theorem setLane_noc (s : State) (n : Nat) (x : Lane) : (setLane s n x).noc = s.noc := rfl
@[simp] theorem setLane_plant (s : State) (n : Nat) (x : Lane) : (setLane s n x).plant = s.plant := rfl
@[simp] theorem setLane_nvm (s : State) (n : Nat) (x : Lane) : (setLane s n x).nvm = s.nvm := rfl
@[simp] theorem setLane_power (s : State) (n : Nat) (x : Lane) : (setLane s n x).power = s.power := rfl
@[simp] theorem setLane_security (s : State) (n : Nat) (x : Lane) : (setLane s n x).security = s.security := rfl
@[simp] theorem setLane_tap (s : State) (n : Nat) (x : Lane) : (setLane s n x).tap = s.tap := rfl
@[simp] theorem setLane_straps (s : State) (n : Nat) (x : Lane) : (setLane s n x).straps = s.straps := rfl
@[simp] theorem setLane_faultL (s : State) (n : Nat) (x : Lane) : (setLane s n x).faultL = s.faultL := rfl
@[simp] theorem setLane_ptpBase (s : State) (n : Nat) (x : Lane) : (setLane s n x).ptpBase = s.ptpBase := rfl
@[simp] theorem setLane_ptpAt (s : State) (n : Nat) (x : Lane) : (setLane s n x).ptpAt = s.ptpAt := rfl
@[simp] theorem setLane_ptpRate (s : State) (n : Nat) (x : Lane) : (setLane s n x).ptpRate = s.ptpRate := rfl
@[simp] theorem setLane_ptpFor (s : State) (n : Nat) (x : Lane) : (setLane s n x).ptpFor = s.ptpFor := rfl
@[simp] theorem rd_setLane (s : State) (n : Nat) (x : Lane) (i' j' : Nat) : rd (setLane s n x) i' j' = rd s i' j' := rfl
@[simp] theorem rdBytes_setLane (s : State) (n : Nat) (x : Lane) (i' j' : Nat) : rdBytes (setLane s n x) i' j' = rdBytes s i' j' := rfl

/-! setBar -/
@[simp] theorem setBar_pending (s : State) (b : Nat) (x : Bar) : (setBar s b x).pending = s.pending := rfl
@[simp] theorem setBar_now (s : State) (b : Nat) (x : Bar) : (setBar s b x).now = s.now := rfl
@[simp] theorem setBar_answer (s : State) (b : Nat) (x : Bar) : (setBar s b x).answer = s.answer := rfl
@[simp] theorem setBar_obj (s : State) (b : Nat) (x : Bar) : (setBar s b x).obj = s.obj := rfl
@[simp] theorem setBar_blobs (s : State) (b : Nat) (x : Bar) : (setBar s b x).blobs = s.blobs := rfl
@[simp] theorem setBar_stamps (s : State) (b : Nat) (x : Bar) : (setBar s b x).stamps = s.stamps := rfl
@[simp] theorem setBar_mem (s : State) (b : Nat) (x : Bar) : (setBar s b x).mem = s.mem := rfl
@[simp] theorem setBar_memEpoch (s : State) (b : Nat) (x : Bar) : (setBar s b x).memEpoch = s.memEpoch := rfl
@[simp] theorem setBar_fresh (s : State) (b : Nat) (x : Bar) : (setBar s b x).fresh = s.fresh := rfl
@[simp] theorem setBar_events (s : State) (b : Nat) (x : Bar) : (setBar s b x).events = s.events := rfl
@[simp] theorem setBar_coalesced (s : State) (b : Nat) (x : Bar) : (setBar s b x).coalesced = s.coalesced := rfl
@[simp] theorem setBar_keys (s : State) (b : Nat) (x : Bar) : (setBar s b x).keys = s.keys := rfl
@[simp] theorem setBar_cache (s : State) (b : Nat) (x : Bar) : (setBar s b x).cache = s.cache := rfl
@[simp] theorem setBar_arr (s : State) (b : Nat) (x : Bar) : (setBar s b x).arr = s.arr := rfl
@[simp] theorem setBar_queues (s : State) (b : Nat) (x : Bar) : (setBar s b x).queues = s.queues := rfl
@[simp] theorem setBar_lanes (s : State) (b : Nat) (x : Bar) : (setBar s b x).lanes = s.lanes := rfl
@[simp] theorem setBar_print (s : State) (b : Nat) (x : Bar) : (setBar s b x).print = { s.print with bars := tabSet {} s.print.bars b x } := rfl
@[simp] theorem setBar_serial (s : State) (b : Nat) (x : Bar) : (setBar s b x).serial = s.serial := rfl
@[simp] theorem setBar_pair (s : State) (b : Nat) (x : Bar) : (setBar s b x).pair = s.pair := rfl
@[simp] theorem setBar_sched (s : State) (b : Nat) (x : Bar) : (setBar s b x).sched = s.sched := rfl
@[simp] theorem setBar_cores (s : State) (b : Nat) (x : Bar) : (setBar s b x).cores = s.cores := rfl
@[simp] theorem setBar_noc (s : State) (b : Nat) (x : Bar) : (setBar s b x).noc = s.noc := rfl
@[simp] theorem setBar_plant (s : State) (b : Nat) (x : Bar) : (setBar s b x).plant = s.plant := rfl
@[simp] theorem setBar_nvm (s : State) (b : Nat) (x : Bar) : (setBar s b x).nvm = s.nvm := rfl
@[simp] theorem setBar_power (s : State) (b : Nat) (x : Bar) : (setBar s b x).power = s.power := rfl
@[simp] theorem setBar_security (s : State) (b : Nat) (x : Bar) : (setBar s b x).security = s.security := rfl
@[simp] theorem setBar_tap (s : State) (b : Nat) (x : Bar) : (setBar s b x).tap = s.tap := rfl
@[simp] theorem setBar_straps (s : State) (b : Nat) (x : Bar) : (setBar s b x).straps = s.straps := rfl
@[simp] theorem setBar_faultL (s : State) (b : Nat) (x : Bar) : (setBar s b x).faultL = s.faultL := rfl
@[simp] theorem setBar_ptpBase (s : State) (b : Nat) (x : Bar) : (setBar s b x).ptpBase = s.ptpBase := rfl
@[simp] theorem setBar_ptpAt (s : State) (b : Nat) (x : Bar) : (setBar s b x).ptpAt = s.ptpAt := rfl
@[simp] theorem setBar_ptpRate (s : State) (b : Nat) (x : Bar) : (setBar s b x).ptpRate = s.ptpRate := rfl
@[simp] theorem setBar_ptpFor (s : State) (b : Nat) (x : Bar) : (setBar s b x).ptpFor = s.ptpFor := rfl
@[simp] theorem rd_setBar (s : State) (b : Nat) (x : Bar) (i' j' : Nat) : rd (setBar s b x) i' j' = rd s i' j' := rfl
@[simp] theorem rdBytes_setBar (s : State) (b : Nat) (x : Bar) (i' j' : Nat) : rdBytes (setBar s b x) i' j' = rdBytes s i' j' := rfl

/-! setEncoder -/
@[simp] theorem setEncoder_pending (s : State) (e : Nat) (x : Encoder) : (setEncoder s e x).pending = s.pending := rfl
@[simp] theorem setEncoder_now (s : State) (e : Nat) (x : Encoder) : (setEncoder s e x).now = s.now := rfl
@[simp] theorem setEncoder_answer (s : State) (e : Nat) (x : Encoder) : (setEncoder s e x).answer = s.answer := rfl
@[simp] theorem setEncoder_obj (s : State) (e : Nat) (x : Encoder) : (setEncoder s e x).obj = s.obj := rfl
@[simp] theorem setEncoder_blobs (s : State) (e : Nat) (x : Encoder) : (setEncoder s e x).blobs = s.blobs := rfl
@[simp] theorem setEncoder_stamps (s : State) (e : Nat) (x : Encoder) : (setEncoder s e x).stamps = s.stamps := rfl
@[simp] theorem setEncoder_mem (s : State) (e : Nat) (x : Encoder) : (setEncoder s e x).mem = s.mem := rfl
@[simp] theorem setEncoder_memEpoch (s : State) (e : Nat) (x : Encoder) : (setEncoder s e x).memEpoch = s.memEpoch := rfl
@[simp] theorem setEncoder_fresh (s : State) (e : Nat) (x : Encoder) : (setEncoder s e x).fresh = s.fresh := rfl
@[simp] theorem setEncoder_events (s : State) (e : Nat) (x : Encoder) : (setEncoder s e x).events = s.events := rfl
@[simp] theorem setEncoder_coalesced (s : State) (e : Nat) (x : Encoder) : (setEncoder s e x).coalesced = s.coalesced := rfl
@[simp] theorem setEncoder_keys (s : State) (e : Nat) (x : Encoder) : (setEncoder s e x).keys = s.keys := rfl
@[simp] theorem setEncoder_cache (s : State) (e : Nat) (x : Encoder) : (setEncoder s e x).cache = s.cache := rfl
@[simp] theorem setEncoder_arr (s : State) (e : Nat) (x : Encoder) : (setEncoder s e x).arr = s.arr := rfl
@[simp] theorem setEncoder_queues (s : State) (e : Nat) (x : Encoder) : (setEncoder s e x).queues = s.queues := rfl
@[simp] theorem setEncoder_lanes (s : State) (e : Nat) (x : Encoder) : (setEncoder s e x).lanes = s.lanes := rfl
@[simp] theorem setEncoder_print (s : State) (e : Nat) (x : Encoder) : (setEncoder s e x).print = { s.print with encoders := tabSet {} s.print.encoders e x } := rfl
@[simp] theorem setEncoder_serial (s : State) (e : Nat) (x : Encoder) : (setEncoder s e x).serial = s.serial := rfl
@[simp] theorem setEncoder_pair (s : State) (e : Nat) (x : Encoder) : (setEncoder s e x).pair = s.pair := rfl
@[simp] theorem setEncoder_sched (s : State) (e : Nat) (x : Encoder) : (setEncoder s e x).sched = s.sched := rfl
@[simp] theorem setEncoder_cores (s : State) (e : Nat) (x : Encoder) : (setEncoder s e x).cores = s.cores := rfl
@[simp] theorem setEncoder_noc (s : State) (e : Nat) (x : Encoder) : (setEncoder s e x).noc = s.noc := rfl
@[simp] theorem setEncoder_plant (s : State) (e : Nat) (x : Encoder) : (setEncoder s e x).plant = s.plant := rfl
@[simp] theorem setEncoder_nvm (s : State) (e : Nat) (x : Encoder) : (setEncoder s e x).nvm = s.nvm := rfl
@[simp] theorem setEncoder_power (s : State) (e : Nat) (x : Encoder) : (setEncoder s e x).power = s.power := rfl
@[simp] theorem setEncoder_security (s : State) (e : Nat) (x : Encoder) : (setEncoder s e x).security = s.security := rfl
@[simp] theorem setEncoder_tap (s : State) (e : Nat) (x : Encoder) : (setEncoder s e x).tap = s.tap := rfl
@[simp] theorem setEncoder_straps (s : State) (e : Nat) (x : Encoder) : (setEncoder s e x).straps = s.straps := rfl
@[simp] theorem setEncoder_faultL (s : State) (e : Nat) (x : Encoder) : (setEncoder s e x).faultL = s.faultL := rfl
@[simp] theorem setEncoder_ptpBase (s : State) (e : Nat) (x : Encoder) : (setEncoder s e x).ptpBase = s.ptpBase := rfl
@[simp] theorem setEncoder_ptpAt (s : State) (e : Nat) (x : Encoder) : (setEncoder s e x).ptpAt = s.ptpAt := rfl
@[simp] theorem setEncoder_ptpRate (s : State) (e : Nat) (x : Encoder) : (setEncoder s e x).ptpRate = s.ptpRate := rfl
@[simp] theorem setEncoder_ptpFor (s : State) (e : Nat) (x : Encoder) : (setEncoder s e x).ptpFor = s.ptpFor := rfl
@[simp] theorem rd_setEncoder (s : State) (e : Nat) (x : Encoder) (i' j' : Nat) : rd (setEncoder s e x) i' j' = rd s i' j' := rfl
@[simp] theorem rdBytes_setEncoder (s : State) (e : Nat) (x : Encoder) (i' j' : Nat) : rdBytes (setEncoder s e x) i' j' = rdBytes s i' j' := rfl

/-! setGate -/
@[simp] theorem setGate_pending (s : State) (j : Nat) (x : Gate) : (setGate s j x).pending = s.pending := rfl
@[simp] theorem setGate_now (s : State) (j : Nat) (x : Gate) : (setGate s j x).now = s.now := rfl
@[simp] theorem setGate_answer (s : State) (j : Nat) (x : Gate) : (setGate s j x).answer = s.answer := rfl
@[simp] theorem setGate_obj (s : State) (j : Nat) (x : Gate) : (setGate s j x).obj = s.obj := rfl
@[simp] theorem setGate_blobs (s : State) (j : Nat) (x : Gate) : (setGate s j x).blobs = s.blobs := rfl
@[simp] theorem setGate_stamps (s : State) (j : Nat) (x : Gate) : (setGate s j x).stamps = s.stamps := rfl
@[simp] theorem setGate_mem (s : State) (j : Nat) (x : Gate) : (setGate s j x).mem = s.mem := rfl
@[simp] theorem setGate_memEpoch (s : State) (j : Nat) (x : Gate) : (setGate s j x).memEpoch = s.memEpoch := rfl
@[simp] theorem setGate_fresh (s : State) (j : Nat) (x : Gate) : (setGate s j x).fresh = s.fresh := rfl
@[simp] theorem setGate_events (s : State) (j : Nat) (x : Gate) : (setGate s j x).events = s.events := rfl
@[simp] theorem setGate_coalesced (s : State) (j : Nat) (x : Gate) : (setGate s j x).coalesced = s.coalesced := rfl
@[simp] theorem setGate_keys (s : State) (j : Nat) (x : Gate) : (setGate s j x).keys = s.keys := rfl
@[simp] theorem setGate_cache (s : State) (j : Nat) (x : Gate) : (setGate s j x).cache = s.cache := rfl
@[simp] theorem setGate_arr (s : State) (j : Nat) (x : Gate) : (setGate s j x).arr = s.arr := rfl
@[simp] theorem setGate_queues (s : State) (j : Nat) (x : Gate) : (setGate s j x).queues = s.queues := rfl
@[simp] theorem setGate_lanes (s : State) (j : Nat) (x : Gate) : (setGate s j x).lanes = s.lanes := rfl
@[simp] theorem setGate_print (s : State) (j : Nat) (x : Gate) : (setGate s j x).print = { s.print with gates := tabSet {} s.print.gates j x } := rfl
@[simp] theorem setGate_serial (s : State) (j : Nat) (x : Gate) : (setGate s j x).serial = s.serial := rfl
@[simp] theorem setGate_pair (s : State) (j : Nat) (x : Gate) : (setGate s j x).pair = s.pair := rfl
@[simp] theorem setGate_sched (s : State) (j : Nat) (x : Gate) : (setGate s j x).sched = s.sched := rfl
@[simp] theorem setGate_cores (s : State) (j : Nat) (x : Gate) : (setGate s j x).cores = s.cores := rfl
@[simp] theorem setGate_noc (s : State) (j : Nat) (x : Gate) : (setGate s j x).noc = s.noc := rfl
@[simp] theorem setGate_plant (s : State) (j : Nat) (x : Gate) : (setGate s j x).plant = s.plant := rfl
@[simp] theorem setGate_nvm (s : State) (j : Nat) (x : Gate) : (setGate s j x).nvm = s.nvm := rfl
@[simp] theorem setGate_power (s : State) (j : Nat) (x : Gate) : (setGate s j x).power = s.power := rfl
@[simp] theorem setGate_security (s : State) (j : Nat) (x : Gate) : (setGate s j x).security = s.security := rfl
@[simp] theorem setGate_tap (s : State) (j : Nat) (x : Gate) : (setGate s j x).tap = s.tap := rfl
@[simp] theorem setGate_straps (s : State) (j : Nat) (x : Gate) : (setGate s j x).straps = s.straps := rfl
@[simp] theorem setGate_faultL (s : State) (j : Nat) (x : Gate) : (setGate s j x).faultL = s.faultL := rfl
@[simp] theorem setGate_ptpBase (s : State) (j : Nat) (x : Gate) : (setGate s j x).ptpBase = s.ptpBase := rfl
@[simp] theorem setGate_ptpAt (s : State) (j : Nat) (x : Gate) : (setGate s j x).ptpAt = s.ptpAt := rfl
@[simp] theorem setGate_ptpRate (s : State) (j : Nat) (x : Gate) : (setGate s j x).ptpRate = s.ptpRate := rfl
@[simp] theorem setGate_ptpFor (s : State) (j : Nat) (x : Gate) : (setGate s j x).ptpFor = s.ptpFor := rfl
@[simp] theorem rd_setGate (s : State) (j : Nat) (x : Gate) (i' j' : Nat) : rd (setGate s j x) i' j' = rd s i' j' := rfl
@[simp] theorem rdBytes_setGate (s : State) (j : Nat) (x : Gate) (i' j' : Nat) : rdBytes (setGate s j x) i' j' = rdBytes s i' j' := rfl

/-! setCam -/
@[simp] theorem setCam_pending (s : State) (k : Nat) (x : Camera) : (setCam s k x).pending = s.pending := rfl
@[simp] theorem setCam_now (s : State) (k : Nat) (x : Camera) : (setCam s k x).now = s.now := rfl
@[simp] theorem setCam_answer (s : State) (k : Nat) (x : Camera) : (setCam s k x).answer = s.answer := rfl
@[simp] theorem setCam_obj (s : State) (k : Nat) (x : Camera) : (setCam s k x).obj = s.obj := rfl
@[simp] theorem setCam_blobs (s : State) (k : Nat) (x : Camera) : (setCam s k x).blobs = s.blobs := rfl
@[simp] theorem setCam_stamps (s : State) (k : Nat) (x : Camera) : (setCam s k x).stamps = s.stamps := rfl
@[simp] theorem setCam_mem (s : State) (k : Nat) (x : Camera) : (setCam s k x).mem = s.mem := rfl
@[simp] theorem setCam_memEpoch (s : State) (k : Nat) (x : Camera) : (setCam s k x).memEpoch = s.memEpoch := rfl
@[simp] theorem setCam_fresh (s : State) (k : Nat) (x : Camera) : (setCam s k x).fresh = s.fresh := rfl
@[simp] theorem setCam_events (s : State) (k : Nat) (x : Camera) : (setCam s k x).events = s.events := rfl
@[simp] theorem setCam_coalesced (s : State) (k : Nat) (x : Camera) : (setCam s k x).coalesced = s.coalesced := rfl
@[simp] theorem setCam_keys (s : State) (k : Nat) (x : Camera) : (setCam s k x).keys = s.keys := rfl
@[simp] theorem setCam_cache (s : State) (k : Nat) (x : Camera) : (setCam s k x).cache = s.cache := rfl
@[simp] theorem setCam_arr (s : State) (k : Nat) (x : Camera) : (setCam s k x).arr = s.arr := rfl
@[simp] theorem setCam_queues (s : State) (k : Nat) (x : Camera) : (setCam s k x).queues = s.queues := rfl
@[simp] theorem setCam_lanes (s : State) (k : Nat) (x : Camera) : (setCam s k x).lanes = s.lanes := rfl
@[simp] theorem setCam_print (s : State) (k : Nat) (x : Camera) : (setCam s k x).print = { s.print with cameras := tabSet {} s.print.cameras k x } := rfl
@[simp] theorem setCam_serial (s : State) (k : Nat) (x : Camera) : (setCam s k x).serial = s.serial := rfl
@[simp] theorem setCam_pair (s : State) (k : Nat) (x : Camera) : (setCam s k x).pair = s.pair := rfl
@[simp] theorem setCam_sched (s : State) (k : Nat) (x : Camera) : (setCam s k x).sched = s.sched := rfl
@[simp] theorem setCam_cores (s : State) (k : Nat) (x : Camera) : (setCam s k x).cores = s.cores := rfl
@[simp] theorem setCam_noc (s : State) (k : Nat) (x : Camera) : (setCam s k x).noc = s.noc := rfl
@[simp] theorem setCam_plant (s : State) (k : Nat) (x : Camera) : (setCam s k x).plant = s.plant := rfl
@[simp] theorem setCam_nvm (s : State) (k : Nat) (x : Camera) : (setCam s k x).nvm = s.nvm := rfl
@[simp] theorem setCam_power (s : State) (k : Nat) (x : Camera) : (setCam s k x).power = s.power := rfl
@[simp] theorem setCam_security (s : State) (k : Nat) (x : Camera) : (setCam s k x).security = s.security := rfl
@[simp] theorem setCam_tap (s : State) (k : Nat) (x : Camera) : (setCam s k x).tap = s.tap := rfl
@[simp] theorem setCam_straps (s : State) (k : Nat) (x : Camera) : (setCam s k x).straps = s.straps := rfl
@[simp] theorem setCam_faultL (s : State) (k : Nat) (x : Camera) : (setCam s k x).faultL = s.faultL := rfl
@[simp] theorem setCam_ptpBase (s : State) (k : Nat) (x : Camera) : (setCam s k x).ptpBase = s.ptpBase := rfl
@[simp] theorem setCam_ptpAt (s : State) (k : Nat) (x : Camera) : (setCam s k x).ptpAt = s.ptpAt := rfl
@[simp] theorem setCam_ptpRate (s : State) (k : Nat) (x : Camera) : (setCam s k x).ptpRate = s.ptpRate := rfl
@[simp] theorem setCam_ptpFor (s : State) (k : Nat) (x : Camera) : (setCam s k x).ptpFor = s.ptpFor := rfl
@[simp] theorem rd_setCam (s : State) (k : Nat) (x : Camera) (i' j' : Nat) : rd (setCam s k x) i' j' = rd s i' j' := rfl
@[simp] theorem rdBytes_setCam (s : State) (k : Nat) (x : Camera) (i' j' : Nat) : rdBytes (setCam s k x) i' j' = rdBytes s i' j' := rfl

/-! setGenNext -/
@[simp] theorem setGenNext_pending (s : State) (g : Nat) (k : Int) : (setGenNext s g k).pending = s.pending := rfl
@[simp] theorem setGenNext_now (s : State) (g : Nat) (k : Int) : (setGenNext s g k).now = s.now := rfl
@[simp] theorem setGenNext_answer (s : State) (g : Nat) (k : Int) : (setGenNext s g k).answer = s.answer := rfl
@[simp] theorem setGenNext_obj (s : State) (g : Nat) (k : Int) : (setGenNext s g k).obj = s.obj := rfl
@[simp] theorem setGenNext_blobs (s : State) (g : Nat) (k : Int) : (setGenNext s g k).blobs = s.blobs := rfl
@[simp] theorem setGenNext_stamps (s : State) (g : Nat) (k : Int) : (setGenNext s g k).stamps = s.stamps := rfl
@[simp] theorem setGenNext_mem (s : State) (g : Nat) (k : Int) : (setGenNext s g k).mem = s.mem := rfl
@[simp] theorem setGenNext_memEpoch (s : State) (g : Nat) (k : Int) : (setGenNext s g k).memEpoch = s.memEpoch := rfl
@[simp] theorem setGenNext_fresh (s : State) (g : Nat) (k : Int) : (setGenNext s g k).fresh = s.fresh := rfl
@[simp] theorem setGenNext_events (s : State) (g : Nat) (k : Int) : (setGenNext s g k).events = s.events := rfl
@[simp] theorem setGenNext_coalesced (s : State) (g : Nat) (k : Int) : (setGenNext s g k).coalesced = s.coalesced := rfl
@[simp] theorem setGenNext_keys (s : State) (g : Nat) (k : Int) : (setGenNext s g k).keys = s.keys := rfl
@[simp] theorem setGenNext_cache (s : State) (g : Nat) (k : Int) : (setGenNext s g k).cache = s.cache := rfl
@[simp] theorem setGenNext_arr (s : State) (g : Nat) (k : Int) : (setGenNext s g k).arr = s.arr := rfl
@[simp] theorem setGenNext_queues (s : State) (g : Nat) (k : Int) : (setGenNext s g k).queues = s.queues := rfl
@[simp] theorem setGenNext_lanes (s : State) (g : Nat) (k : Int) : (setGenNext s g k).lanes = s.lanes := rfl
@[simp] theorem setGenNext_print (s : State) (g : Nat) (k : Int) : (setGenNext s g k).print = { s.print with nextLine := tabSet 0 s.print.nextLine g k } := rfl
@[simp] theorem setGenNext_serial (s : State) (g : Nat) (k : Int) : (setGenNext s g k).serial = s.serial := rfl
@[simp] theorem setGenNext_pair (s : State) (g : Nat) (k : Int) : (setGenNext s g k).pair = s.pair := rfl
@[simp] theorem setGenNext_sched (s : State) (g : Nat) (k : Int) : (setGenNext s g k).sched = s.sched := rfl
@[simp] theorem setGenNext_cores (s : State) (g : Nat) (k : Int) : (setGenNext s g k).cores = s.cores := rfl
@[simp] theorem setGenNext_noc (s : State) (g : Nat) (k : Int) : (setGenNext s g k).noc = s.noc := rfl
@[simp] theorem setGenNext_plant (s : State) (g : Nat) (k : Int) : (setGenNext s g k).plant = s.plant := rfl
@[simp] theorem setGenNext_nvm (s : State) (g : Nat) (k : Int) : (setGenNext s g k).nvm = s.nvm := rfl
@[simp] theorem setGenNext_power (s : State) (g : Nat) (k : Int) : (setGenNext s g k).power = s.power := rfl
@[simp] theorem setGenNext_security (s : State) (g : Nat) (k : Int) : (setGenNext s g k).security = s.security := rfl
@[simp] theorem setGenNext_tap (s : State) (g : Nat) (k : Int) : (setGenNext s g k).tap = s.tap := rfl
@[simp] theorem setGenNext_straps (s : State) (g : Nat) (k : Int) : (setGenNext s g k).straps = s.straps := rfl
@[simp] theorem setGenNext_faultL (s : State) (g : Nat) (k : Int) : (setGenNext s g k).faultL = s.faultL := rfl
@[simp] theorem setGenNext_ptpBase (s : State) (g : Nat) (k : Int) : (setGenNext s g k).ptpBase = s.ptpBase := rfl
@[simp] theorem setGenNext_ptpAt (s : State) (g : Nat) (k : Int) : (setGenNext s g k).ptpAt = s.ptpAt := rfl
@[simp] theorem setGenNext_ptpRate (s : State) (g : Nat) (k : Int) : (setGenNext s g k).ptpRate = s.ptpRate := rfl
@[simp] theorem setGenNext_ptpFor (s : State) (g : Nat) (k : Int) : (setGenNext s g k).ptpFor = s.ptpFor := rfl
@[simp] theorem rd_setGenNext (s : State) (g : Nat) (k : Int) (i' j' : Nat) : rd (setGenNext s g k) i' j' = rd s i' j' := rfl
@[simp] theorem rdBytes_setGenNext (s : State) (g : Nat) (k : Int) (i' j' : Nat) : rdBytes (setGenNext s g k) i' j' = rdBytes s i' j' := rfl

/-! setSerial -/
@[simp] theorem setSerial_pending (s : State) (x : SerialState) : (setSerial s x).pending = s.pending := rfl
@[simp] theorem setSerial_now (s : State) (x : SerialState) : (setSerial s x).now = s.now := rfl
@[simp] theorem setSerial_answer (s : State) (x : SerialState) : (setSerial s x).answer = s.answer := rfl
@[simp] theorem setSerial_obj (s : State) (x : SerialState) : (setSerial s x).obj = s.obj := rfl
@[simp] theorem setSerial_blobs (s : State) (x : SerialState) : (setSerial s x).blobs = s.blobs := rfl
@[simp] theorem setSerial_stamps (s : State) (x : SerialState) : (setSerial s x).stamps = s.stamps := rfl
@[simp] theorem setSerial_mem (s : State) (x : SerialState) : (setSerial s x).mem = s.mem := rfl
@[simp] theorem setSerial_memEpoch (s : State) (x : SerialState) : (setSerial s x).memEpoch = s.memEpoch := rfl
@[simp] theorem setSerial_fresh (s : State) (x : SerialState) : (setSerial s x).fresh = s.fresh := rfl
@[simp] theorem setSerial_events (s : State) (x : SerialState) : (setSerial s x).events = s.events := rfl
@[simp] theorem setSerial_coalesced (s : State) (x : SerialState) : (setSerial s x).coalesced = s.coalesced := rfl
@[simp] theorem setSerial_keys (s : State) (x : SerialState) : (setSerial s x).keys = s.keys := rfl
@[simp] theorem setSerial_cache (s : State) (x : SerialState) : (setSerial s x).cache = s.cache := rfl
@[simp] theorem setSerial_arr (s : State) (x : SerialState) : (setSerial s x).arr = s.arr := rfl
@[simp] theorem setSerial_queues (s : State) (x : SerialState) : (setSerial s x).queues = s.queues := rfl
@[simp] theorem setSerial_lanes (s : State) (x : SerialState) : (setSerial s x).lanes = s.lanes := rfl
@[simp] theorem setSerial_print (s : State) (x : SerialState) : (setSerial s x).print = s.print := rfl
@[simp] theorem setSerial_serial (s : State) (x : SerialState) : (setSerial s x).serial = x := rfl
@[simp] theorem setSerial_pair (s : State) (x : SerialState) : (setSerial s x).pair = s.pair := rfl
@[simp] theorem setSerial_sched (s : State) (x : SerialState) : (setSerial s x).sched = s.sched := rfl
@[simp] theorem setSerial_cores (s : State) (x : SerialState) : (setSerial s x).cores = s.cores := rfl
@[simp] theorem setSerial_noc (s : State) (x : SerialState) : (setSerial s x).noc = s.noc := rfl
@[simp] theorem setSerial_plant (s : State) (x : SerialState) : (setSerial s x).plant = s.plant := rfl
@[simp] theorem setSerial_nvm (s : State) (x : SerialState) : (setSerial s x).nvm = s.nvm := rfl
@[simp] theorem setSerial_power (s : State) (x : SerialState) : (setSerial s x).power = s.power := rfl
@[simp] theorem setSerial_security (s : State) (x : SerialState) : (setSerial s x).security = s.security := rfl
@[simp] theorem setSerial_tap (s : State) (x : SerialState) : (setSerial s x).tap = s.tap := rfl
@[simp] theorem setSerial_straps (s : State) (x : SerialState) : (setSerial s x).straps = s.straps := rfl
@[simp] theorem setSerial_faultL (s : State) (x : SerialState) : (setSerial s x).faultL = s.faultL := rfl
@[simp] theorem setSerial_ptpBase (s : State) (x : SerialState) : (setSerial s x).ptpBase = s.ptpBase := rfl
@[simp] theorem setSerial_ptpAt (s : State) (x : SerialState) : (setSerial s x).ptpAt = s.ptpAt := rfl
@[simp] theorem setSerial_ptpRate (s : State) (x : SerialState) : (setSerial s x).ptpRate = s.ptpRate := rfl
@[simp] theorem setSerial_ptpFor (s : State) (x : SerialState) : (setSerial s x).ptpFor = s.ptpFor := rfl
@[simp] theorem rd_setSerial (s : State) (x : SerialState) (i' j' : Nat) : rd (setSerial s x) i' j' = rd s i' j' := rfl
@[simp] theorem rdBytes_setSerial (s : State) (x : SerialState) (i' j' : Nat) : rdBytes (setSerial s x) i' j' = rdBytes s i' j' := rfl

/-! setPair -/
@[simp] theorem setPair_pending (s : State) (x : PairState) : (setPair s x).pending = s.pending := rfl
@[simp] theorem setPair_now (s : State) (x : PairState) : (setPair s x).now = s.now := rfl
@[simp] theorem setPair_answer (s : State) (x : PairState) : (setPair s x).answer = s.answer := rfl
@[simp] theorem setPair_obj (s : State) (x : PairState) : (setPair s x).obj = s.obj := rfl
@[simp] theorem setPair_blobs (s : State) (x : PairState) : (setPair s x).blobs = s.blobs := rfl
@[simp] theorem setPair_stamps (s : State) (x : PairState) : (setPair s x).stamps = s.stamps := rfl
@[simp] theorem setPair_mem (s : State) (x : PairState) : (setPair s x).mem = s.mem := rfl
@[simp] theorem setPair_memEpoch (s : State) (x : PairState) : (setPair s x).memEpoch = s.memEpoch := rfl
@[simp] theorem setPair_fresh (s : State) (x : PairState) : (setPair s x).fresh = s.fresh := rfl
@[simp] theorem setPair_events (s : State) (x : PairState) : (setPair s x).events = s.events := rfl
@[simp] theorem setPair_coalesced (s : State) (x : PairState) : (setPair s x).coalesced = s.coalesced := rfl
@[simp] theorem setPair_keys (s : State) (x : PairState) : (setPair s x).keys = s.keys := rfl
@[simp] theorem setPair_cache (s : State) (x : PairState) : (setPair s x).cache = s.cache := rfl
@[simp] theorem setPair_arr (s : State) (x : PairState) : (setPair s x).arr = s.arr := rfl
@[simp] theorem setPair_queues (s : State) (x : PairState) : (setPair s x).queues = s.queues := rfl
@[simp] theorem setPair_lanes (s : State) (x : PairState) : (setPair s x).lanes = s.lanes := rfl
@[simp] theorem setPair_print (s : State) (x : PairState) : (setPair s x).print = s.print := rfl
@[simp] theorem setPair_serial (s : State) (x : PairState) : (setPair s x).serial = s.serial := rfl
@[simp] theorem setPair_pair (s : State) (x : PairState) : (setPair s x).pair = x := rfl
@[simp] theorem setPair_sched (s : State) (x : PairState) : (setPair s x).sched = s.sched := rfl
@[simp] theorem setPair_cores (s : State) (x : PairState) : (setPair s x).cores = s.cores := rfl
@[simp] theorem setPair_noc (s : State) (x : PairState) : (setPair s x).noc = s.noc := rfl
@[simp] theorem setPair_plant (s : State) (x : PairState) : (setPair s x).plant = s.plant := rfl
@[simp] theorem setPair_nvm (s : State) (x : PairState) : (setPair s x).nvm = s.nvm := rfl
@[simp] theorem setPair_power (s : State) (x : PairState) : (setPair s x).power = s.power := rfl
@[simp] theorem setPair_security (s : State) (x : PairState) : (setPair s x).security = s.security := rfl
@[simp] theorem setPair_tap (s : State) (x : PairState) : (setPair s x).tap = s.tap := rfl
@[simp] theorem setPair_straps (s : State) (x : PairState) : (setPair s x).straps = s.straps := rfl
@[simp] theorem setPair_faultL (s : State) (x : PairState) : (setPair s x).faultL = s.faultL := rfl
@[simp] theorem setPair_ptpBase (s : State) (x : PairState) : (setPair s x).ptpBase = s.ptpBase := rfl
@[simp] theorem setPair_ptpAt (s : State) (x : PairState) : (setPair s x).ptpAt = s.ptpAt := rfl
@[simp] theorem setPair_ptpRate (s : State) (x : PairState) : (setPair s x).ptpRate = s.ptpRate := rfl
@[simp] theorem setPair_ptpFor (s : State) (x : PairState) : (setPair s x).ptpFor = s.ptpFor := rfl
@[simp] theorem rd_setPair (s : State) (x : PairState) (i' j' : Nat) : rd (setPair s x) i' j' = rd s i' j' := rfl
@[simp] theorem rdBytes_setPair (s : State) (x : PairState) (i' j' : Nat) : rdBytes (setPair s x) i' j' = rdBytes s i' j' := rfl

/-! setSched -/
@[simp] theorem setSched_pending (s : State) (x : SchedState) : (setSched s x).pending = s.pending := rfl
@[simp] theorem setSched_now (s : State) (x : SchedState) : (setSched s x).now = s.now := rfl
@[simp] theorem setSched_answer (s : State) (x : SchedState) : (setSched s x).answer = s.answer := rfl
@[simp] theorem setSched_obj (s : State) (x : SchedState) : (setSched s x).obj = s.obj := rfl
@[simp] theorem setSched_blobs (s : State) (x : SchedState) : (setSched s x).blobs = s.blobs := rfl
@[simp] theorem setSched_stamps (s : State) (x : SchedState) : (setSched s x).stamps = s.stamps := rfl
@[simp] theorem setSched_mem (s : State) (x : SchedState) : (setSched s x).mem = s.mem := rfl
@[simp] theorem setSched_memEpoch (s : State) (x : SchedState) : (setSched s x).memEpoch = s.memEpoch := rfl
@[simp] theorem setSched_fresh (s : State) (x : SchedState) : (setSched s x).fresh = s.fresh := rfl
@[simp] theorem setSched_events (s : State) (x : SchedState) : (setSched s x).events = s.events := rfl
@[simp] theorem setSched_coalesced (s : State) (x : SchedState) : (setSched s x).coalesced = s.coalesced := rfl
@[simp] theorem setSched_keys (s : State) (x : SchedState) : (setSched s x).keys = s.keys := rfl
@[simp] theorem setSched_cache (s : State) (x : SchedState) : (setSched s x).cache = s.cache := rfl
@[simp] theorem setSched_arr (s : State) (x : SchedState) : (setSched s x).arr = s.arr := rfl
@[simp] theorem setSched_queues (s : State) (x : SchedState) : (setSched s x).queues = s.queues := rfl
@[simp] theorem setSched_lanes (s : State) (x : SchedState) : (setSched s x).lanes = s.lanes := rfl
@[simp] theorem setSched_print (s : State) (x : SchedState) : (setSched s x).print = s.print := rfl
@[simp] theorem setSched_serial (s : State) (x : SchedState) : (setSched s x).serial = s.serial := rfl
@[simp] theorem setSched_pair (s : State) (x : SchedState) : (setSched s x).pair = s.pair := rfl
@[simp] theorem setSched_sched (s : State) (x : SchedState) : (setSched s x).sched = x := rfl
@[simp] theorem setSched_cores (s : State) (x : SchedState) : (setSched s x).cores = s.cores := rfl
@[simp] theorem setSched_noc (s : State) (x : SchedState) : (setSched s x).noc = s.noc := rfl
@[simp] theorem setSched_plant (s : State) (x : SchedState) : (setSched s x).plant = s.plant := rfl
@[simp] theorem setSched_nvm (s : State) (x : SchedState) : (setSched s x).nvm = s.nvm := rfl
@[simp] theorem setSched_power (s : State) (x : SchedState) : (setSched s x).power = s.power := rfl
@[simp] theorem setSched_security (s : State) (x : SchedState) : (setSched s x).security = s.security := rfl
@[simp] theorem setSched_tap (s : State) (x : SchedState) : (setSched s x).tap = s.tap := rfl
@[simp] theorem setSched_straps (s : State) (x : SchedState) : (setSched s x).straps = s.straps := rfl
@[simp] theorem setSched_faultL (s : State) (x : SchedState) : (setSched s x).faultL = s.faultL := rfl
@[simp] theorem setSched_ptpBase (s : State) (x : SchedState) : (setSched s x).ptpBase = s.ptpBase := rfl
@[simp] theorem setSched_ptpAt (s : State) (x : SchedState) : (setSched s x).ptpAt = s.ptpAt := rfl
@[simp] theorem setSched_ptpRate (s : State) (x : SchedState) : (setSched s x).ptpRate = s.ptpRate := rfl
@[simp] theorem setSched_ptpFor (s : State) (x : SchedState) : (setSched s x).ptpFor = s.ptpFor := rfl
@[simp] theorem rd_setSched (s : State) (x : SchedState) (i' j' : Nat) : rd (setSched s x) i' j' = rd s i' j' := rfl
@[simp] theorem rdBytes_setSched (s : State) (x : SchedState) (i' j' : Nat) : rdBytes (setSched s x) i' j' = rdBytes s i' j' := rfl

/-! setCore -/
@[simp] theorem setCore_pending (s : State) (n : Nat) (x : Core) : (setCore s n x).pending = s.pending := rfl
@[simp] theorem setCore_now (s : State) (n : Nat) (x : Core) : (setCore s n x).now = s.now := rfl
@[simp] theorem setCore_answer (s : State) (n : Nat) (x : Core) : (setCore s n x).answer = s.answer := rfl
@[simp] theorem setCore_obj (s : State) (n : Nat) (x : Core) : (setCore s n x).obj = s.obj := rfl
@[simp] theorem setCore_blobs (s : State) (n : Nat) (x : Core) : (setCore s n x).blobs = s.blobs := rfl
@[simp] theorem setCore_stamps (s : State) (n : Nat) (x : Core) : (setCore s n x).stamps = s.stamps := rfl
@[simp] theorem setCore_mem (s : State) (n : Nat) (x : Core) : (setCore s n x).mem = s.mem := rfl
@[simp] theorem setCore_memEpoch (s : State) (n : Nat) (x : Core) : (setCore s n x).memEpoch = s.memEpoch := rfl
@[simp] theorem setCore_fresh (s : State) (n : Nat) (x : Core) : (setCore s n x).fresh = s.fresh := rfl
@[simp] theorem setCore_events (s : State) (n : Nat) (x : Core) : (setCore s n x).events = s.events := rfl
@[simp] theorem setCore_coalesced (s : State) (n : Nat) (x : Core) : (setCore s n x).coalesced = s.coalesced := rfl
@[simp] theorem setCore_keys (s : State) (n : Nat) (x : Core) : (setCore s n x).keys = s.keys := rfl
@[simp] theorem setCore_cache (s : State) (n : Nat) (x : Core) : (setCore s n x).cache = s.cache := rfl
@[simp] theorem setCore_arr (s : State) (n : Nat) (x : Core) : (setCore s n x).arr = s.arr := rfl
@[simp] theorem setCore_queues (s : State) (n : Nat) (x : Core) : (setCore s n x).queues = s.queues := rfl
@[simp] theorem setCore_lanes (s : State) (n : Nat) (x : Core) : (setCore s n x).lanes = s.lanes := rfl
@[simp] theorem setCore_print (s : State) (n : Nat) (x : Core) : (setCore s n x).print = s.print := rfl
@[simp] theorem setCore_serial (s : State) (n : Nat) (x : Core) : (setCore s n x).serial = s.serial := rfl
@[simp] theorem setCore_pair (s : State) (n : Nat) (x : Core) : (setCore s n x).pair = s.pair := rfl
@[simp] theorem setCore_sched (s : State) (n : Nat) (x : Core) : (setCore s n x).sched = s.sched := rfl
@[simp] theorem setCore_cores (s : State) (n : Nat) (x : Core) : (setCore s n x).cores = tabSet {} s.cores n x := rfl
@[simp] theorem setCore_noc (s : State) (n : Nat) (x : Core) : (setCore s n x).noc = s.noc := rfl
@[simp] theorem setCore_plant (s : State) (n : Nat) (x : Core) : (setCore s n x).plant = s.plant := rfl
@[simp] theorem setCore_nvm (s : State) (n : Nat) (x : Core) : (setCore s n x).nvm = s.nvm := rfl
@[simp] theorem setCore_power (s : State) (n : Nat) (x : Core) : (setCore s n x).power = s.power := rfl
@[simp] theorem setCore_security (s : State) (n : Nat) (x : Core) : (setCore s n x).security = s.security := rfl
@[simp] theorem setCore_tap (s : State) (n : Nat) (x : Core) : (setCore s n x).tap = s.tap := rfl
@[simp] theorem setCore_straps (s : State) (n : Nat) (x : Core) : (setCore s n x).straps = s.straps := rfl
@[simp] theorem setCore_faultL (s : State) (n : Nat) (x : Core) : (setCore s n x).faultL = s.faultL := rfl
@[simp] theorem setCore_ptpBase (s : State) (n : Nat) (x : Core) : (setCore s n x).ptpBase = s.ptpBase := rfl
@[simp] theorem setCore_ptpAt (s : State) (n : Nat) (x : Core) : (setCore s n x).ptpAt = s.ptpAt := rfl
@[simp] theorem setCore_ptpRate (s : State) (n : Nat) (x : Core) : (setCore s n x).ptpRate = s.ptpRate := rfl
@[simp] theorem setCore_ptpFor (s : State) (n : Nat) (x : Core) : (setCore s n x).ptpFor = s.ptpFor := rfl
@[simp] theorem rd_setCore (s : State) (n : Nat) (x : Core) (i' j' : Nat) : rd (setCore s n x) i' j' = rd s i' j' := rfl
@[simp] theorem rdBytes_setCore (s : State) (n : Nat) (x : Core) (i' j' : Nat) : rdBytes (setCore s n x) i' j' = rdBytes s i' j' := rfl

/-! setNoc -/
@[simp] theorem setNoc_pending (s : State) (x : NocState) : (setNoc s x).pending = s.pending := rfl
@[simp] theorem setNoc_now (s : State) (x : NocState) : (setNoc s x).now = s.now := rfl
@[simp] theorem setNoc_answer (s : State) (x : NocState) : (setNoc s x).answer = s.answer := rfl
@[simp] theorem setNoc_obj (s : State) (x : NocState) : (setNoc s x).obj = s.obj := rfl
@[simp] theorem setNoc_blobs (s : State) (x : NocState) : (setNoc s x).blobs = s.blobs := rfl
@[simp] theorem setNoc_stamps (s : State) (x : NocState) : (setNoc s x).stamps = s.stamps := rfl
@[simp] theorem setNoc_mem (s : State) (x : NocState) : (setNoc s x).mem = s.mem := rfl
@[simp] theorem setNoc_memEpoch (s : State) (x : NocState) : (setNoc s x).memEpoch = s.memEpoch := rfl
@[simp] theorem setNoc_fresh (s : State) (x : NocState) : (setNoc s x).fresh = s.fresh := rfl
@[simp] theorem setNoc_events (s : State) (x : NocState) : (setNoc s x).events = s.events := rfl
@[simp] theorem setNoc_coalesced (s : State) (x : NocState) : (setNoc s x).coalesced = s.coalesced := rfl
@[simp] theorem setNoc_keys (s : State) (x : NocState) : (setNoc s x).keys = s.keys := rfl
@[simp] theorem setNoc_cache (s : State) (x : NocState) : (setNoc s x).cache = s.cache := rfl
@[simp] theorem setNoc_arr (s : State) (x : NocState) : (setNoc s x).arr = s.arr := rfl
@[simp] theorem setNoc_queues (s : State) (x : NocState) : (setNoc s x).queues = s.queues := rfl
@[simp] theorem setNoc_lanes (s : State) (x : NocState) : (setNoc s x).lanes = s.lanes := rfl
@[simp] theorem setNoc_print (s : State) (x : NocState) : (setNoc s x).print = s.print := rfl
@[simp] theorem setNoc_serial (s : State) (x : NocState) : (setNoc s x).serial = s.serial := rfl
@[simp] theorem setNoc_pair (s : State) (x : NocState) : (setNoc s x).pair = s.pair := rfl
@[simp] theorem setNoc_sched (s : State) (x : NocState) : (setNoc s x).sched = s.sched := rfl
@[simp] theorem setNoc_cores (s : State) (x : NocState) : (setNoc s x).cores = s.cores := rfl
@[simp] theorem setNoc_noc (s : State) (x : NocState) : (setNoc s x).noc = x := rfl
@[simp] theorem setNoc_plant (s : State) (x : NocState) : (setNoc s x).plant = s.plant := rfl
@[simp] theorem setNoc_nvm (s : State) (x : NocState) : (setNoc s x).nvm = s.nvm := rfl
@[simp] theorem setNoc_power (s : State) (x : NocState) : (setNoc s x).power = s.power := rfl
@[simp] theorem setNoc_security (s : State) (x : NocState) : (setNoc s x).security = s.security := rfl
@[simp] theorem setNoc_tap (s : State) (x : NocState) : (setNoc s x).tap = s.tap := rfl
@[simp] theorem setNoc_straps (s : State) (x : NocState) : (setNoc s x).straps = s.straps := rfl
@[simp] theorem setNoc_faultL (s : State) (x : NocState) : (setNoc s x).faultL = s.faultL := rfl
@[simp] theorem setNoc_ptpBase (s : State) (x : NocState) : (setNoc s x).ptpBase = s.ptpBase := rfl
@[simp] theorem setNoc_ptpAt (s : State) (x : NocState) : (setNoc s x).ptpAt = s.ptpAt := rfl
@[simp] theorem setNoc_ptpRate (s : State) (x : NocState) : (setNoc s x).ptpRate = s.ptpRate := rfl
@[simp] theorem setNoc_ptpFor (s : State) (x : NocState) : (setNoc s x).ptpFor = s.ptpFor := rfl
@[simp] theorem rd_setNoc (s : State) (x : NocState) (i' j' : Nat) : rd (setNoc s x) i' j' = rd s i' j' := rfl
@[simp] theorem rdBytes_setNoc (s : State) (x : NocState) (i' j' : Nat) : rdBytes (setNoc s x) i' j' = rdBytes s i' j' := rfl

/-! setPlant -/
@[simp] theorem setPlant_pending (s : State) (x : PlantState) : (setPlant s x).pending = s.pending := rfl
@[simp] theorem setPlant_now (s : State) (x : PlantState) : (setPlant s x).now = s.now := rfl
@[simp] theorem setPlant_answer (s : State) (x : PlantState) : (setPlant s x).answer = s.answer := rfl
@[simp] theorem setPlant_obj (s : State) (x : PlantState) : (setPlant s x).obj = s.obj := rfl
@[simp] theorem setPlant_blobs (s : State) (x : PlantState) : (setPlant s x).blobs = s.blobs := rfl
@[simp] theorem setPlant_stamps (s : State) (x : PlantState) : (setPlant s x).stamps = s.stamps := rfl
@[simp] theorem setPlant_mem (s : State) (x : PlantState) : (setPlant s x).mem = s.mem := rfl
@[simp] theorem setPlant_memEpoch (s : State) (x : PlantState) : (setPlant s x).memEpoch = s.memEpoch := rfl
@[simp] theorem setPlant_fresh (s : State) (x : PlantState) : (setPlant s x).fresh = s.fresh := rfl
@[simp] theorem setPlant_events (s : State) (x : PlantState) : (setPlant s x).events = s.events := rfl
@[simp] theorem setPlant_coalesced (s : State) (x : PlantState) : (setPlant s x).coalesced = s.coalesced := rfl
@[simp] theorem setPlant_keys (s : State) (x : PlantState) : (setPlant s x).keys = s.keys := rfl
@[simp] theorem setPlant_cache (s : State) (x : PlantState) : (setPlant s x).cache = s.cache := rfl
@[simp] theorem setPlant_arr (s : State) (x : PlantState) : (setPlant s x).arr = s.arr := rfl
@[simp] theorem setPlant_queues (s : State) (x : PlantState) : (setPlant s x).queues = s.queues := rfl
@[simp] theorem setPlant_lanes (s : State) (x : PlantState) : (setPlant s x).lanes = s.lanes := rfl
@[simp] theorem setPlant_print (s : State) (x : PlantState) : (setPlant s x).print = s.print := rfl
@[simp] theorem setPlant_serial (s : State) (x : PlantState) : (setPlant s x).serial = s.serial := rfl
@[simp] theorem setPlant_pair (s : State) (x : PlantState) : (setPlant s x).pair = s.pair := rfl
@[simp] theorem setPlant_sched (s : State) (x : PlantState) : (setPlant s x).sched = s.sched := rfl
@[simp] theorem setPlant_cores (s : State) (x : PlantState) : (setPlant s x).cores = s.cores := rfl
@[simp] theorem setPlant_noc (s : State) (x : PlantState) : (setPlant s x).noc = s.noc := rfl
@[simp] theorem setPlant_plant (s : State) (x : PlantState) : (setPlant s x).plant = x := rfl
@[simp] theorem setPlant_nvm (s : State) (x : PlantState) : (setPlant s x).nvm = s.nvm := rfl
@[simp] theorem setPlant_power (s : State) (x : PlantState) : (setPlant s x).power = s.power := rfl
@[simp] theorem setPlant_security (s : State) (x : PlantState) : (setPlant s x).security = s.security := rfl
@[simp] theorem setPlant_tap (s : State) (x : PlantState) : (setPlant s x).tap = s.tap := rfl
@[simp] theorem setPlant_straps (s : State) (x : PlantState) : (setPlant s x).straps = s.straps := rfl
@[simp] theorem setPlant_faultL (s : State) (x : PlantState) : (setPlant s x).faultL = s.faultL := rfl
@[simp] theorem setPlant_ptpBase (s : State) (x : PlantState) : (setPlant s x).ptpBase = s.ptpBase := rfl
@[simp] theorem setPlant_ptpAt (s : State) (x : PlantState) : (setPlant s x).ptpAt = s.ptpAt := rfl
@[simp] theorem setPlant_ptpRate (s : State) (x : PlantState) : (setPlant s x).ptpRate = s.ptpRate := rfl
@[simp] theorem setPlant_ptpFor (s : State) (x : PlantState) : (setPlant s x).ptpFor = s.ptpFor := rfl
@[simp] theorem rd_setPlant (s : State) (x : PlantState) (i' j' : Nat) : rd (setPlant s x) i' j' = rd s i' j' := rfl
@[simp] theorem rdBytes_setPlant (s : State) (x : PlantState) (i' j' : Nat) : rdBytes (setPlant s x) i' j' = rdBytes s i' j' := rfl

/-! setNvm -/
@[simp] theorem setNvm_pending (s : State) (x : NvmState) : (setNvm s x).pending = s.pending := rfl
@[simp] theorem setNvm_now (s : State) (x : NvmState) : (setNvm s x).now = s.now := rfl
@[simp] theorem setNvm_answer (s : State) (x : NvmState) : (setNvm s x).answer = s.answer := rfl
@[simp] theorem setNvm_obj (s : State) (x : NvmState) : (setNvm s x).obj = s.obj := rfl
@[simp] theorem setNvm_blobs (s : State) (x : NvmState) : (setNvm s x).blobs = s.blobs := rfl
@[simp] theorem setNvm_stamps (s : State) (x : NvmState) : (setNvm s x).stamps = s.stamps := rfl
@[simp] theorem setNvm_mem (s : State) (x : NvmState) : (setNvm s x).mem = s.mem := rfl
@[simp] theorem setNvm_memEpoch (s : State) (x : NvmState) : (setNvm s x).memEpoch = s.memEpoch := rfl
@[simp] theorem setNvm_fresh (s : State) (x : NvmState) : (setNvm s x).fresh = s.fresh := rfl
@[simp] theorem setNvm_events (s : State) (x : NvmState) : (setNvm s x).events = s.events := rfl
@[simp] theorem setNvm_coalesced (s : State) (x : NvmState) : (setNvm s x).coalesced = s.coalesced := rfl
@[simp] theorem setNvm_keys (s : State) (x : NvmState) : (setNvm s x).keys = s.keys := rfl
@[simp] theorem setNvm_cache (s : State) (x : NvmState) : (setNvm s x).cache = s.cache := rfl
@[simp] theorem setNvm_arr (s : State) (x : NvmState) : (setNvm s x).arr = s.arr := rfl
@[simp] theorem setNvm_queues (s : State) (x : NvmState) : (setNvm s x).queues = s.queues := rfl
@[simp] theorem setNvm_lanes (s : State) (x : NvmState) : (setNvm s x).lanes = s.lanes := rfl
@[simp] theorem setNvm_print (s : State) (x : NvmState) : (setNvm s x).print = s.print := rfl
@[simp] theorem setNvm_serial (s : State) (x : NvmState) : (setNvm s x).serial = s.serial := rfl
@[simp] theorem setNvm_pair (s : State) (x : NvmState) : (setNvm s x).pair = s.pair := rfl
@[simp] theorem setNvm_sched (s : State) (x : NvmState) : (setNvm s x).sched = s.sched := rfl
@[simp] theorem setNvm_cores (s : State) (x : NvmState) : (setNvm s x).cores = s.cores := rfl
@[simp] theorem setNvm_noc (s : State) (x : NvmState) : (setNvm s x).noc = s.noc := rfl
@[simp] theorem setNvm_plant (s : State) (x : NvmState) : (setNvm s x).plant = s.plant := rfl
@[simp] theorem setNvm_nvm (s : State) (x : NvmState) : (setNvm s x).nvm = x := rfl
@[simp] theorem setNvm_power (s : State) (x : NvmState) : (setNvm s x).power = s.power := rfl
@[simp] theorem setNvm_security (s : State) (x : NvmState) : (setNvm s x).security = s.security := rfl
@[simp] theorem setNvm_tap (s : State) (x : NvmState) : (setNvm s x).tap = s.tap := rfl
@[simp] theorem setNvm_straps (s : State) (x : NvmState) : (setNvm s x).straps = s.straps := rfl
@[simp] theorem setNvm_faultL (s : State) (x : NvmState) : (setNvm s x).faultL = s.faultL := rfl
@[simp] theorem setNvm_ptpBase (s : State) (x : NvmState) : (setNvm s x).ptpBase = s.ptpBase := rfl
@[simp] theorem setNvm_ptpAt (s : State) (x : NvmState) : (setNvm s x).ptpAt = s.ptpAt := rfl
@[simp] theorem setNvm_ptpRate (s : State) (x : NvmState) : (setNvm s x).ptpRate = s.ptpRate := rfl
@[simp] theorem setNvm_ptpFor (s : State) (x : NvmState) : (setNvm s x).ptpFor = s.ptpFor := rfl
@[simp] theorem rd_setNvm (s : State) (x : NvmState) (i' j' : Nat) : rd (setNvm s x) i' j' = rd s i' j' := rfl
@[simp] theorem rdBytes_setNvm (s : State) (x : NvmState) (i' j' : Nat) : rdBytes (setNvm s x) i' j' = rdBytes s i' j' := rfl

/-! setPower -/
@[simp] theorem setPower_pending (s : State) (x : PowerState) : (setPower s x).pending = s.pending := rfl
@[simp] theorem setPower_now (s : State) (x : PowerState) : (setPower s x).now = s.now := rfl
@[simp] theorem setPower_answer (s : State) (x : PowerState) : (setPower s x).answer = s.answer := rfl
@[simp] theorem setPower_obj (s : State) (x : PowerState) : (setPower s x).obj = s.obj := rfl
@[simp] theorem setPower_blobs (s : State) (x : PowerState) : (setPower s x).blobs = s.blobs := rfl
@[simp] theorem setPower_stamps (s : State) (x : PowerState) : (setPower s x).stamps = s.stamps := rfl
@[simp] theorem setPower_mem (s : State) (x : PowerState) : (setPower s x).mem = s.mem := rfl
@[simp] theorem setPower_memEpoch (s : State) (x : PowerState) : (setPower s x).memEpoch = s.memEpoch := rfl
@[simp] theorem setPower_fresh (s : State) (x : PowerState) : (setPower s x).fresh = s.fresh := rfl
@[simp] theorem setPower_events (s : State) (x : PowerState) : (setPower s x).events = s.events := rfl
@[simp] theorem setPower_coalesced (s : State) (x : PowerState) : (setPower s x).coalesced = s.coalesced := rfl
@[simp] theorem setPower_keys (s : State) (x : PowerState) : (setPower s x).keys = s.keys := rfl
@[simp] theorem setPower_cache (s : State) (x : PowerState) : (setPower s x).cache = s.cache := rfl
@[simp] theorem setPower_arr (s : State) (x : PowerState) : (setPower s x).arr = s.arr := rfl
@[simp] theorem setPower_queues (s : State) (x : PowerState) : (setPower s x).queues = s.queues := rfl
@[simp] theorem setPower_lanes (s : State) (x : PowerState) : (setPower s x).lanes = s.lanes := rfl
@[simp] theorem setPower_print (s : State) (x : PowerState) : (setPower s x).print = s.print := rfl
@[simp] theorem setPower_serial (s : State) (x : PowerState) : (setPower s x).serial = s.serial := rfl
@[simp] theorem setPower_pair (s : State) (x : PowerState) : (setPower s x).pair = s.pair := rfl
@[simp] theorem setPower_sched (s : State) (x : PowerState) : (setPower s x).sched = s.sched := rfl
@[simp] theorem setPower_cores (s : State) (x : PowerState) : (setPower s x).cores = s.cores := rfl
@[simp] theorem setPower_noc (s : State) (x : PowerState) : (setPower s x).noc = s.noc := rfl
@[simp] theorem setPower_plant (s : State) (x : PowerState) : (setPower s x).plant = s.plant := rfl
@[simp] theorem setPower_nvm (s : State) (x : PowerState) : (setPower s x).nvm = s.nvm := rfl
@[simp] theorem setPower_power (s : State) (x : PowerState) : (setPower s x).power = x := rfl
@[simp] theorem setPower_security (s : State) (x : PowerState) : (setPower s x).security = s.security := rfl
@[simp] theorem setPower_tap (s : State) (x : PowerState) : (setPower s x).tap = s.tap := rfl
@[simp] theorem setPower_straps (s : State) (x : PowerState) : (setPower s x).straps = s.straps := rfl
@[simp] theorem setPower_faultL (s : State) (x : PowerState) : (setPower s x).faultL = s.faultL := rfl
@[simp] theorem setPower_ptpBase (s : State) (x : PowerState) : (setPower s x).ptpBase = s.ptpBase := rfl
@[simp] theorem setPower_ptpAt (s : State) (x : PowerState) : (setPower s x).ptpAt = s.ptpAt := rfl
@[simp] theorem setPower_ptpRate (s : State) (x : PowerState) : (setPower s x).ptpRate = s.ptpRate := rfl
@[simp] theorem setPower_ptpFor (s : State) (x : PowerState) : (setPower s x).ptpFor = s.ptpFor := rfl
@[simp] theorem rd_setPower (s : State) (x : PowerState) (i' j' : Nat) : rd (setPower s x) i' j' = rd s i' j' := rfl
@[simp] theorem rdBytes_setPower (s : State) (x : PowerState) (i' j' : Nat) : rdBytes (setPower s x) i' j' = rdBytes s i' j' := rfl

/-! setSecurity -/
@[simp] theorem setSecurity_pending (s : State) (x : SecurityState) : (setSecurity s x).pending = s.pending := rfl
@[simp] theorem setSecurity_now (s : State) (x : SecurityState) : (setSecurity s x).now = s.now := rfl
@[simp] theorem setSecurity_answer (s : State) (x : SecurityState) : (setSecurity s x).answer = s.answer := rfl
@[simp] theorem setSecurity_obj (s : State) (x : SecurityState) : (setSecurity s x).obj = s.obj := rfl
@[simp] theorem setSecurity_blobs (s : State) (x : SecurityState) : (setSecurity s x).blobs = s.blobs := rfl
@[simp] theorem setSecurity_stamps (s : State) (x : SecurityState) : (setSecurity s x).stamps = s.stamps := rfl
@[simp] theorem setSecurity_mem (s : State) (x : SecurityState) : (setSecurity s x).mem = s.mem := rfl
@[simp] theorem setSecurity_memEpoch (s : State) (x : SecurityState) : (setSecurity s x).memEpoch = s.memEpoch := rfl
@[simp] theorem setSecurity_fresh (s : State) (x : SecurityState) : (setSecurity s x).fresh = s.fresh := rfl
@[simp] theorem setSecurity_events (s : State) (x : SecurityState) : (setSecurity s x).events = s.events := rfl
@[simp] theorem setSecurity_coalesced (s : State) (x : SecurityState) : (setSecurity s x).coalesced = s.coalesced := rfl
@[simp] theorem setSecurity_keys (s : State) (x : SecurityState) : (setSecurity s x).keys = s.keys := rfl
@[simp] theorem setSecurity_cache (s : State) (x : SecurityState) : (setSecurity s x).cache = s.cache := rfl
@[simp] theorem setSecurity_arr (s : State) (x : SecurityState) : (setSecurity s x).arr = s.arr := rfl
@[simp] theorem setSecurity_queues (s : State) (x : SecurityState) : (setSecurity s x).queues = s.queues := rfl
@[simp] theorem setSecurity_lanes (s : State) (x : SecurityState) : (setSecurity s x).lanes = s.lanes := rfl
@[simp] theorem setSecurity_print (s : State) (x : SecurityState) : (setSecurity s x).print = s.print := rfl
@[simp] theorem setSecurity_serial (s : State) (x : SecurityState) : (setSecurity s x).serial = s.serial := rfl
@[simp] theorem setSecurity_pair (s : State) (x : SecurityState) : (setSecurity s x).pair = s.pair := rfl
@[simp] theorem setSecurity_sched (s : State) (x : SecurityState) : (setSecurity s x).sched = s.sched := rfl
@[simp] theorem setSecurity_cores (s : State) (x : SecurityState) : (setSecurity s x).cores = s.cores := rfl
@[simp] theorem setSecurity_noc (s : State) (x : SecurityState) : (setSecurity s x).noc = s.noc := rfl
@[simp] theorem setSecurity_plant (s : State) (x : SecurityState) : (setSecurity s x).plant = s.plant := rfl
@[simp] theorem setSecurity_nvm (s : State) (x : SecurityState) : (setSecurity s x).nvm = s.nvm := rfl
@[simp] theorem setSecurity_power (s : State) (x : SecurityState) : (setSecurity s x).power = s.power := rfl
@[simp] theorem setSecurity_security (s : State) (x : SecurityState) : (setSecurity s x).security = x := rfl
@[simp] theorem setSecurity_tap (s : State) (x : SecurityState) : (setSecurity s x).tap = s.tap := rfl
@[simp] theorem setSecurity_straps (s : State) (x : SecurityState) : (setSecurity s x).straps = s.straps := rfl
@[simp] theorem setSecurity_faultL (s : State) (x : SecurityState) : (setSecurity s x).faultL = s.faultL := rfl
@[simp] theorem setSecurity_ptpBase (s : State) (x : SecurityState) : (setSecurity s x).ptpBase = s.ptpBase := rfl
@[simp] theorem setSecurity_ptpAt (s : State) (x : SecurityState) : (setSecurity s x).ptpAt = s.ptpAt := rfl
@[simp] theorem setSecurity_ptpRate (s : State) (x : SecurityState) : (setSecurity s x).ptpRate = s.ptpRate := rfl
@[simp] theorem setSecurity_ptpFor (s : State) (x : SecurityState) : (setSecurity s x).ptpFor = s.ptpFor := rfl
@[simp] theorem rd_setSecurity (s : State) (x : SecurityState) (i' j' : Nat) : rd (setSecurity s x) i' j' = rd s i' j' := rfl
@[simp] theorem rdBytes_setSecurity (s : State) (x : SecurityState) (i' j' : Nat) : rdBytes (setSecurity s x) i' j' = rdBytes s i' j' := rfl

/-! setKey -/
@[simp] theorem setKey_pending (s : State) (k : Nat) (x : KeySlot) : (setKey s k x).pending = s.pending := rfl
@[simp] theorem setKey_now (s : State) (k : Nat) (x : KeySlot) : (setKey s k x).now = s.now := rfl
@[simp] theorem setKey_answer (s : State) (k : Nat) (x : KeySlot) : (setKey s k x).answer = s.answer := rfl
@[simp] theorem setKey_obj (s : State) (k : Nat) (x : KeySlot) : (setKey s k x).obj = s.obj := rfl
@[simp] theorem setKey_blobs (s : State) (k : Nat) (x : KeySlot) : (setKey s k x).blobs = s.blobs := rfl
@[simp] theorem setKey_stamps (s : State) (k : Nat) (x : KeySlot) : (setKey s k x).stamps = s.stamps := rfl
@[simp] theorem setKey_mem (s : State) (k : Nat) (x : KeySlot) : (setKey s k x).mem = s.mem := rfl
@[simp] theorem setKey_memEpoch (s : State) (k : Nat) (x : KeySlot) : (setKey s k x).memEpoch = s.memEpoch := rfl
@[simp] theorem setKey_fresh (s : State) (k : Nat) (x : KeySlot) : (setKey s k x).fresh = s.fresh := rfl
@[simp] theorem setKey_events (s : State) (k : Nat) (x : KeySlot) : (setKey s k x).events = s.events := rfl
@[simp] theorem setKey_coalesced (s : State) (k : Nat) (x : KeySlot) : (setKey s k x).coalesced = s.coalesced := rfl
@[simp] theorem setKey_keys (s : State) (k : Nat) (x : KeySlot) : (setKey s k x).keys = tabSet {} s.keys k x := rfl
@[simp] theorem setKey_cache (s : State) (k : Nat) (x : KeySlot) : (setKey s k x).cache = s.cache := rfl
@[simp] theorem setKey_arr (s : State) (k : Nat) (x : KeySlot) : (setKey s k x).arr = s.arr := rfl
@[simp] theorem setKey_queues (s : State) (k : Nat) (x : KeySlot) : (setKey s k x).queues = s.queues := rfl
@[simp] theorem setKey_lanes (s : State) (k : Nat) (x : KeySlot) : (setKey s k x).lanes = s.lanes := rfl
@[simp] theorem setKey_print (s : State) (k : Nat) (x : KeySlot) : (setKey s k x).print = s.print := rfl
@[simp] theorem setKey_serial (s : State) (k : Nat) (x : KeySlot) : (setKey s k x).serial = s.serial := rfl
@[simp] theorem setKey_pair (s : State) (k : Nat) (x : KeySlot) : (setKey s k x).pair = s.pair := rfl
@[simp] theorem setKey_sched (s : State) (k : Nat) (x : KeySlot) : (setKey s k x).sched = s.sched := rfl
@[simp] theorem setKey_cores (s : State) (k : Nat) (x : KeySlot) : (setKey s k x).cores = s.cores := rfl
@[simp] theorem setKey_noc (s : State) (k : Nat) (x : KeySlot) : (setKey s k x).noc = s.noc := rfl
@[simp] theorem setKey_plant (s : State) (k : Nat) (x : KeySlot) : (setKey s k x).plant = s.plant := rfl
@[simp] theorem setKey_nvm (s : State) (k : Nat) (x : KeySlot) : (setKey s k x).nvm = s.nvm := rfl
@[simp] theorem setKey_power (s : State) (k : Nat) (x : KeySlot) : (setKey s k x).power = s.power := rfl
@[simp] theorem setKey_security (s : State) (k : Nat) (x : KeySlot) : (setKey s k x).security = s.security := rfl
@[simp] theorem setKey_tap (s : State) (k : Nat) (x : KeySlot) : (setKey s k x).tap = s.tap := rfl
@[simp] theorem setKey_straps (s : State) (k : Nat) (x : KeySlot) : (setKey s k x).straps = s.straps := rfl
@[simp] theorem setKey_faultL (s : State) (k : Nat) (x : KeySlot) : (setKey s k x).faultL = s.faultL := rfl
@[simp] theorem setKey_ptpBase (s : State) (k : Nat) (x : KeySlot) : (setKey s k x).ptpBase = s.ptpBase := rfl
@[simp] theorem setKey_ptpAt (s : State) (k : Nat) (x : KeySlot) : (setKey s k x).ptpAt = s.ptpAt := rfl
@[simp] theorem setKey_ptpRate (s : State) (k : Nat) (x : KeySlot) : (setKey s k x).ptpRate = s.ptpRate := rfl
@[simp] theorem setKey_ptpFor (s : State) (k : Nat) (x : KeySlot) : (setKey s k x).ptpFor = s.ptpFor := rfl
@[simp] theorem rd_setKey (s : State) (k : Nat) (x : KeySlot) (i' j' : Nat) : rd (setKey s k x) i' j' = rd s i' j' := rfl
@[simp] theorem rdBytes_setKey (s : State) (k : Nat) (x : KeySlot) (i' j' : Nat) : rdBytes (setKey s k x) i' j' = rdBytes s i' j' := rfl

/-! setTap -/
@[simp] theorem setTap_pending (s : State) (x : TapState) : (setTap s x).pending = s.pending := rfl
@[simp] theorem setTap_now (s : State) (x : TapState) : (setTap s x).now = s.now := rfl
@[simp] theorem setTap_answer (s : State) (x : TapState) : (setTap s x).answer = s.answer := rfl
@[simp] theorem setTap_obj (s : State) (x : TapState) : (setTap s x).obj = s.obj := rfl
@[simp] theorem setTap_blobs (s : State) (x : TapState) : (setTap s x).blobs = s.blobs := rfl
@[simp] theorem setTap_stamps (s : State) (x : TapState) : (setTap s x).stamps = s.stamps := rfl
@[simp] theorem setTap_mem (s : State) (x : TapState) : (setTap s x).mem = s.mem := rfl
@[simp] theorem setTap_memEpoch (s : State) (x : TapState) : (setTap s x).memEpoch = s.memEpoch := rfl
@[simp] theorem setTap_fresh (s : State) (x : TapState) : (setTap s x).fresh = s.fresh := rfl
@[simp] theorem setTap_events (s : State) (x : TapState) : (setTap s x).events = s.events := rfl
@[simp] theorem setTap_coalesced (s : State) (x : TapState) : (setTap s x).coalesced = s.coalesced := rfl
@[simp] theorem setTap_keys (s : State) (x : TapState) : (setTap s x).keys = s.keys := rfl
@[simp] theorem setTap_cache (s : State) (x : TapState) : (setTap s x).cache = s.cache := rfl
@[simp] theorem setTap_arr (s : State) (x : TapState) : (setTap s x).arr = s.arr := rfl
@[simp] theorem setTap_queues (s : State) (x : TapState) : (setTap s x).queues = s.queues := rfl
@[simp] theorem setTap_lanes (s : State) (x : TapState) : (setTap s x).lanes = s.lanes := rfl
@[simp] theorem setTap_print (s : State) (x : TapState) : (setTap s x).print = s.print := rfl
@[simp] theorem setTap_serial (s : State) (x : TapState) : (setTap s x).serial = s.serial := rfl
@[simp] theorem setTap_pair (s : State) (x : TapState) : (setTap s x).pair = s.pair := rfl
@[simp] theorem setTap_sched (s : State) (x : TapState) : (setTap s x).sched = s.sched := rfl
@[simp] theorem setTap_cores (s : State) (x : TapState) : (setTap s x).cores = s.cores := rfl
@[simp] theorem setTap_noc (s : State) (x : TapState) : (setTap s x).noc = s.noc := rfl
@[simp] theorem setTap_plant (s : State) (x : TapState) : (setTap s x).plant = s.plant := rfl
@[simp] theorem setTap_nvm (s : State) (x : TapState) : (setTap s x).nvm = s.nvm := rfl
@[simp] theorem setTap_power (s : State) (x : TapState) : (setTap s x).power = s.power := rfl
@[simp] theorem setTap_security (s : State) (x : TapState) : (setTap s x).security = s.security := rfl
@[simp] theorem setTap_tap (s : State) (x : TapState) : (setTap s x).tap = x := rfl
@[simp] theorem setTap_straps (s : State) (x : TapState) : (setTap s x).straps = s.straps := rfl
@[simp] theorem setTap_faultL (s : State) (x : TapState) : (setTap s x).faultL = s.faultL := rfl
@[simp] theorem setTap_ptpBase (s : State) (x : TapState) : (setTap s x).ptpBase = s.ptpBase := rfl
@[simp] theorem setTap_ptpAt (s : State) (x : TapState) : (setTap s x).ptpAt = s.ptpAt := rfl
@[simp] theorem setTap_ptpRate (s : State) (x : TapState) : (setTap s x).ptpRate = s.ptpRate := rfl
@[simp] theorem setTap_ptpFor (s : State) (x : TapState) : (setTap s x).ptpFor = s.ptpFor := rfl
@[simp] theorem rd_setTap (s : State) (x : TapState) (i' j' : Nat) : rd (setTap s x) i' j' = rd s i' j' := rfl
@[simp] theorem rdBytes_setTap (s : State) (x : TapState) (i' j' : Nat) : rdBytes (setTap s x) i' j' = rdBytes s i' j' := rfl

/-! Registers. -/

/-- A register reads as the value set. -/
@[simp] theorem rd_wr_same (s : State) (i j v : Nat) : rd (wr s i j v) i j = v := tabGet_set_same _ s.obj _ v

/-- Every other register reads as before. -/
theorem rd_wr_other (s : State) {i j i' j' : Nat} (v : Nat) (h : objKey i j ≠ objKey i' j') : rd (wr s i j v) i' j' = rd s i' j' :=
  congrArg (fun o => o.getD (objDefault i' j')) (tabFind_set_other _ s.obj v h)

/-- Keys of different objects differ. -/
theorem objKey_ne {i j i' j' : Nat} (hj : j < 256) (hj' : j' < 256) (h : i ≠ i' ∨ j ≠ j') : objKey i j ≠ objKey i' j' := by
  unfold objKey; omega

@[simp] theorem rd_enter_same (s : State) (i j v : Nat) : rd (enter s i j v) i j = v := rd_wr_same s i j v
@[simp] theorem rd_bump_same (s : State) (i j : Nat) : rd (bump s i j) i j = satAdd 0xFFFF (rd s i j) 1 := rd_wr_same s i j _
@[simp] theorem rd_count64_same (s : State) (i j n : Nat) : rd (count64 s i j n) i j = (rd s i j + n) % 2 ^ 64 := rd_wr_same s i j _
@[simp] theorem rdBytes_wrBytes_same (s : State) (i j : Nat) (b : List Byte) : rdBytes (wrBytes s i j b) i j = b := tabGet_set_same _ s.blobs _ b
@[simp] theorem stamp_enter_same (s : State) (i j v : Nat) : stamp (enter s i j v) i j = s.now := tabGet_set_same _ s.stamps _ s.now

/-! Entries of the state's tables. -/

@[simp] theorem fieldOf_setField (s : State) (f : Nat) (x : Field) : fieldOf (setField s f x) f = x := tabGet_set_same _ s.arr.fields f x
@[simp] theorem cellOf_setCell (x : Field) (c : Nat) (y : Cell) : cellOf (setCell x c y) c = y := tabGet_set_same _ x.cells c y
@[simp] theorem slotOf_setSlot (x : Field) (k : Nat) (y : Slot) : slotOf (setSlot x k y) k = y := tabGet_set_same _ x.slots k y
@[simp] theorem streamOf_setStream (x : Field) (d t : Nat) (y : DrillStream) : streamOf (setStream x d t y) d t = y := tabGet_set_same _ x.streams (2 * d + t) y
@[simp] theorem queueOf_setQueue (s : State) (q : Nat) (x : Queue) : queueOf (setQueue s q x) q = x := tabGet_set_same _ s.queues q x
@[simp] theorem laneOf_setLane (s : State) (n : Nat) (x : Lane) : laneOf (setLane s n x) n = x := tabGet_set_same _ s.lanes n x
@[simp] theorem barOf_setBar (s : State) (b : Nat) (x : Bar) : barOf (setBar s b x) b = x := tabGet_set_same _ s.print.bars b x
@[simp] theorem encoderOf_setEncoder (s : State) (e : Nat) (x : Encoder) : encoderOf (setEncoder s e x) e = x := tabGet_set_same _ s.print.encoders e x
@[simp] theorem gateOf_setGate (s : State) (j : Nat) (x : Gate) : gateOf (setGate s j x) j = x := tabGet_set_same _ s.print.gates j x
@[simp] theorem camOf_setCam (s : State) (k : Nat) (x : Camera) : camOf (setCam s k x) k = x := tabGet_set_same _ s.print.cameras k x
@[simp] theorem coreOf_setCore (s : State) (n : Nat) (x : Core) : coreOf (setCore s n x) n = x := tabGet_set_same _ s.cores n x

/-! Raising an event and setting a cause bit. -/

@[simp] theorem raiseEvent_pending (s : State) (e : Nat) : (raiseEvent s e).pending = s.pending := by unfold raiseEvent; repeat' first | rfl | split
@[simp] theorem raiseEvent_now (s : State) (e : Nat) : (raiseEvent s e).now = s.now := by unfold raiseEvent; repeat' first | rfl | split
@[simp] theorem raiseEvent_answer (s : State) (e : Nat) : (raiseEvent s e).answer = s.answer := by unfold raiseEvent; repeat' first | rfl | split
@[simp] theorem raiseEvent_blobs (s : State) (e : Nat) : (raiseEvent s e).blobs = s.blobs := by unfold raiseEvent; repeat' first | rfl | split
@[simp] theorem raiseEvent_stamps (s : State) (e : Nat) : (raiseEvent s e).stamps = s.stamps := by unfold raiseEvent; repeat' first | rfl | split
@[simp] theorem raiseEvent_mem (s : State) (e : Nat) : (raiseEvent s e).mem = s.mem := by unfold raiseEvent; repeat' first | rfl | split
@[simp] theorem raiseEvent_memEpoch (s : State) (e : Nat) : (raiseEvent s e).memEpoch = s.memEpoch := by unfold raiseEvent; repeat' first | rfl | split
@[simp] theorem raiseEvent_keys (s : State) (e : Nat) : (raiseEvent s e).keys = s.keys := by unfold raiseEvent; repeat' first | rfl | split
@[simp] theorem raiseEvent_cache (s : State) (e : Nat) : (raiseEvent s e).cache = s.cache := by unfold raiseEvent; repeat' first | rfl | split
@[simp] theorem raiseEvent_arr (s : State) (e : Nat) : (raiseEvent s e).arr = s.arr := by unfold raiseEvent; repeat' first | rfl | split
@[simp] theorem raiseEvent_queues (s : State) (e : Nat) : (raiseEvent s e).queues = s.queues := by unfold raiseEvent; repeat' first | rfl | split
@[simp] theorem raiseEvent_lanes (s : State) (e : Nat) : (raiseEvent s e).lanes = s.lanes := by unfold raiseEvent; repeat' first | rfl | split
@[simp] theorem raiseEvent_print (s : State) (e : Nat) : (raiseEvent s e).print = s.print := by unfold raiseEvent; repeat' first | rfl | split
@[simp] theorem raiseEvent_serial (s : State) (e : Nat) : (raiseEvent s e).serial = s.serial := by unfold raiseEvent; repeat' first | rfl | split
@[simp] theorem raiseEvent_pair (s : State) (e : Nat) : (raiseEvent s e).pair = s.pair := by unfold raiseEvent; repeat' first | rfl | split
@[simp] theorem raiseEvent_cores (s : State) (e : Nat) : (raiseEvent s e).cores = s.cores := by unfold raiseEvent; repeat' first | rfl | split
@[simp] theorem raiseEvent_noc (s : State) (e : Nat) : (raiseEvent s e).noc = s.noc := by unfold raiseEvent; repeat' first | rfl | split
@[simp] theorem raiseEvent_plant (s : State) (e : Nat) : (raiseEvent s e).plant = s.plant := by unfold raiseEvent; repeat' first | rfl | split
@[simp] theorem raiseEvent_nvm (s : State) (e : Nat) : (raiseEvent s e).nvm = s.nvm := by unfold raiseEvent; repeat' first | rfl | split
@[simp] theorem raiseEvent_power (s : State) (e : Nat) : (raiseEvent s e).power = s.power := by unfold raiseEvent; repeat' first | rfl | split
@[simp] theorem raiseEvent_security (s : State) (e : Nat) : (raiseEvent s e).security = s.security := by unfold raiseEvent; repeat' first | rfl | split
@[simp] theorem raiseEvent_tap (s : State) (e : Nat) : (raiseEvent s e).tap = s.tap := by unfold raiseEvent; repeat' first | rfl | split
@[simp] theorem raiseEvent_straps (s : State) (e : Nat) : (raiseEvent s e).straps = s.straps := by unfold raiseEvent; repeat' first | rfl | split
@[simp] theorem raiseEvent_faultL (s : State) (e : Nat) : (raiseEvent s e).faultL = s.faultL := by unfold raiseEvent; repeat' first | rfl | split
@[simp] theorem raiseEvent_ptpBase (s : State) (e : Nat) : (raiseEvent s e).ptpBase = s.ptpBase := by unfold raiseEvent; repeat' first | rfl | split
@[simp] theorem raiseEvent_ptpAt (s : State) (e : Nat) : (raiseEvent s e).ptpAt = s.ptpAt := by unfold raiseEvent; repeat' first | rfl | split
@[simp] theorem raiseEvent_ptpRate (s : State) (e : Nat) : (raiseEvent s e).ptpRate = s.ptpRate := by unfold raiseEvent; repeat' first | rfl | split
@[simp] theorem raiseEvent_ptpFor (s : State) (e : Nat) : (raiseEvent s e).ptpFor = s.ptpFor := by unfold raiseEvent; repeat' first | rfl | split
@[simp] theorem setCause_pending (s : State) (u : CauseUnit) (bit : Nat) : (setCause s u bit).pending = s.pending := by unfold setCause; dsimp only; split <;> simp
@[simp] theorem setCause_now (s : State) (u : CauseUnit) (bit : Nat) : (setCause s u bit).now = s.now := by unfold setCause; dsimp only; split <;> simp
@[simp] theorem setCause_answer (s : State) (u : CauseUnit) (bit : Nat) : (setCause s u bit).answer = s.answer := by unfold setCause; dsimp only; split <;> simp
@[simp] theorem setCause_blobs (s : State) (u : CauseUnit) (bit : Nat) : (setCause s u bit).blobs = s.blobs := by unfold setCause; dsimp only; split <;> simp
@[simp] theorem setCause_stamps (s : State) (u : CauseUnit) (bit : Nat) : (setCause s u bit).stamps = s.stamps := by unfold setCause; dsimp only; split <;> simp
@[simp] theorem setCause_mem (s : State) (u : CauseUnit) (bit : Nat) : (setCause s u bit).mem = s.mem := by unfold setCause; dsimp only; split <;> simp
@[simp] theorem setCause_memEpoch (s : State) (u : CauseUnit) (bit : Nat) : (setCause s u bit).memEpoch = s.memEpoch := by unfold setCause; dsimp only; split <;> simp
@[simp] theorem setCause_keys (s : State) (u : CauseUnit) (bit : Nat) : (setCause s u bit).keys = s.keys := by unfold setCause; dsimp only; split <;> simp
@[simp] theorem setCause_cache (s : State) (u : CauseUnit) (bit : Nat) : (setCause s u bit).cache = s.cache := by unfold setCause; dsimp only; split <;> simp
@[simp] theorem setCause_arr (s : State) (u : CauseUnit) (bit : Nat) : (setCause s u bit).arr = s.arr := by unfold setCause; dsimp only; split <;> simp
@[simp] theorem setCause_queues (s : State) (u : CauseUnit) (bit : Nat) : (setCause s u bit).queues = s.queues := by unfold setCause; dsimp only; split <;> simp
@[simp] theorem setCause_lanes (s : State) (u : CauseUnit) (bit : Nat) : (setCause s u bit).lanes = s.lanes := by unfold setCause; dsimp only; split <;> simp
@[simp] theorem setCause_print (s : State) (u : CauseUnit) (bit : Nat) : (setCause s u bit).print = s.print := by unfold setCause; dsimp only; split <;> simp
@[simp] theorem setCause_serial (s : State) (u : CauseUnit) (bit : Nat) : (setCause s u bit).serial = s.serial := by unfold setCause; dsimp only; split <;> simp
@[simp] theorem setCause_pair (s : State) (u : CauseUnit) (bit : Nat) : (setCause s u bit).pair = s.pair := by unfold setCause; dsimp only; split <;> simp
@[simp] theorem setCause_cores (s : State) (u : CauseUnit) (bit : Nat) : (setCause s u bit).cores = s.cores := by unfold setCause; dsimp only; split <;> simp
@[simp] theorem setCause_noc (s : State) (u : CauseUnit) (bit : Nat) : (setCause s u bit).noc = s.noc := by unfold setCause; dsimp only; split <;> simp
@[simp] theorem setCause_plant (s : State) (u : CauseUnit) (bit : Nat) : (setCause s u bit).plant = s.plant := by unfold setCause; dsimp only; split <;> simp
@[simp] theorem setCause_nvm (s : State) (u : CauseUnit) (bit : Nat) : (setCause s u bit).nvm = s.nvm := by unfold setCause; dsimp only; split <;> simp
@[simp] theorem setCause_power (s : State) (u : CauseUnit) (bit : Nat) : (setCause s u bit).power = s.power := by unfold setCause; dsimp only; split <;> simp
@[simp] theorem setCause_security (s : State) (u : CauseUnit) (bit : Nat) : (setCause s u bit).security = s.security := by unfold setCause; dsimp only; split <;> simp
@[simp] theorem setCause_tap (s : State) (u : CauseUnit) (bit : Nat) : (setCause s u bit).tap = s.tap := by unfold setCause; dsimp only; split <;> simp
@[simp] theorem setCause_straps (s : State) (u : CauseUnit) (bit : Nat) : (setCause s u bit).straps = s.straps := by unfold setCause; dsimp only; split <;> simp
@[simp] theorem setCause_faultL (s : State) (u : CauseUnit) (bit : Nat) : (setCause s u bit).faultL = s.faultL := by unfold setCause; dsimp only; split <;> simp
@[simp] theorem setCause_ptpBase (s : State) (u : CauseUnit) (bit : Nat) : (setCause s u bit).ptpBase = s.ptpBase := by unfold setCause; dsimp only; split <;> simp
@[simp] theorem setCause_ptpAt (s : State) (u : CauseUnit) (bit : Nat) : (setCause s u bit).ptpAt = s.ptpAt := by unfold setCause; dsimp only; split <;> simp
@[simp] theorem setCause_ptpRate (s : State) (u : CauseUnit) (bit : Nat) : (setCause s u bit).ptpRate = s.ptpRate := by unfold setCause; dsimp only; split <;> simp
@[simp] theorem setCause_ptpFor (s : State) (u : CauseUnit) (bit : Nat) : (setCause s u bit).ptpFor = s.ptpFor := by unfold setCause; dsimp only; split <;> simp

/-- Raising an event changes nothing of the scheduler's state but its note of the raises merged in this NCLK. -/
theorem raiseEvent_sched (s : State) (e : Nat) : ∃ m, (raiseEvent s e).sched = { s.sched with merged := m } := by
  unfold raiseEvent raiseMerged; repeat' first | exact ⟨_, rfl⟩ | split

/-- Setting a cause bit changes nothing else of the scheduler's state. -/
theorem setCause_sched (s : State) (u : CauseUnit) (bit : Nat) : ∃ m, (setCause s u bit).sched = { s.sched with merged := m } := by
  unfold setCause; dsimp only; split
  · obtain ⟨m, h⟩ := raiseEvent_sched _ _; exact ⟨m, h⟩
  · exact ⟨_, rfl⟩

@[simp] theorem raiseEvent_sched_tasks (s : State) (e : Nat) : (raiseEvent s e).sched.tasks = s.sched.tasks := by obtain ⟨m, h⟩ := raiseEvent_sched s e; rw [h]
@[simp] theorem setCause_sched_tasks (s : State) (u : CauseUnit) (bit : Nat) : (setCause s u bit).sched.tasks = s.sched.tasks := by obtain ⟨m, h⟩ := setCause_sched s u bit; rw [h]
@[simp] theorem raiseEvent_sched_ready (s : State) (e : Nat) : (raiseEvent s e).sched.ready = s.sched.ready := by obtain ⟨m, h⟩ := raiseEvent_sched s e; rw [h]
@[simp] theorem setCause_sched_ready (s : State) (u : CauseUnit) (bit : Nat) : (setCause s u bit).sched.ready = s.sched.ready := by obtain ⟨m, h⟩ := setCause_sched s u bit; rw [h]
@[simp] theorem raiseEvent_sched_delayed (s : State) (e : Nat) : (raiseEvent s e).sched.delayed = s.sched.delayed := by obtain ⟨m, h⟩ := raiseEvent_sched s e; rw [h]
@[simp] theorem setCause_sched_delayed (s : State) (u : CauseUnit) (bit : Nat) : (setCause s u bit).sched.delayed = s.sched.delayed := by obtain ⟨m, h⟩ := setCause_sched s u bit; rw [h]
@[simp] theorem raiseEvent_sched_offers (s : State) (e : Nat) : (raiseEvent s e).sched.offers = s.sched.offers := by obtain ⟨m, h⟩ := raiseEvent_sched s e; rw [h]
@[simp] theorem setCause_sched_offers (s : State) (u : CauseUnit) (bit : Nat) : (setCause s u bit).sched.offers = s.sched.offers := by obtain ⟨m, h⟩ := setCause_sched s u bit; rw [h]
@[simp] theorem raiseEvent_sched_running (s : State) (e : Nat) : (raiseEvent s e).sched.running = s.sched.running := by obtain ⟨m, h⟩ := raiseEvent_sched s e; rw [h]
@[simp] theorem setCause_sched_running (s : State) (u : CauseUnit) (bit : Nat) : (setCause s u bit).sched.running = s.sched.running := by obtain ⟨m, h⟩ := setCause_sched s u bit; rw [h]
@[simp] theorem raiseEvent_sched_unrunnable (s : State) (e : Nat) : (raiseEvent s e).sched.unrunnable = s.sched.unrunnable := by obtain ⟨m, h⟩ := raiseEvent_sched s e; rw [h]
@[simp] theorem setCause_sched_unrunnable (s : State) (u : CauseUnit) (bit : Nat) : (setCause s u bit).sched.unrunnable = s.sched.unrunnable := by obtain ⟨m, h⟩ := setCause_sched s u bit; rw [h]
@[simp] theorem raiseEvent_sched_inbox (s : State) (e : Nat) : (raiseEvent s e).sched.inbox = s.sched.inbox := by obtain ⟨m, h⟩ := raiseEvent_sched s e; rw [h]
@[simp] theorem setCause_sched_inbox (s : State) (u : CauseUnit) (bit : Nat) : (setCause s u bit).sched.inbox = s.sched.inbox := by obtain ⟨m, h⟩ := setCause_sched s u bit; rw [h]
@[simp] theorem raiseEvent_sched_trace (s : State) (e : Nat) : (raiseEvent s e).sched.trace = s.sched.trace := by obtain ⟨m, h⟩ := raiseEvent_sched s e; rw [h]
@[simp] theorem setCause_sched_trace (s : State) (u : CauseUnit) (bit : Nat) : (setCause s u bit).sched.trace = s.sched.trace := by obtain ⟨m, h⟩ := setCause_sched s u bit; rw [h]
@[simp] theorem raiseEvent_sched_traceLeft (s : State) (e : Nat) : (raiseEvent s e).sched.traceLeft = s.sched.traceLeft := by obtain ⟨m, h⟩ := raiseEvent_sched s e; rw [h]
@[simp] theorem setCause_sched_traceLeft (s : State) (u : CauseUnit) (bit : Nat) : (setCause s u bit).sched.traceLeft = s.sched.traceLeft := by obtain ⟨m, h⟩ := setCause_sched s u bit; rw [h]
@[simp] theorem raiseEvent_sched_emcyAt (s : State) (e : Nat) : (raiseEvent s e).sched.emcyAt = s.sched.emcyAt := by obtain ⟨m, h⟩ := raiseEvent_sched s e; rw [h]
@[simp] theorem setCause_sched_emcyAt (s : State) (u : CauseUnit) (bit : Nat) : (setCause s u bit).sched.emcyAt = s.sched.emcyAt := by obtain ⟨m, h⟩ := setCause_sched s u bit; rw [h]
@[simp] theorem raiseEvent_sched_emcySent (s : State) (e : Nat) : (raiseEvent s e).sched.emcySent = s.sched.emcySent := by obtain ⟨m, h⟩ := raiseEvent_sched s e; rw [h]
@[simp] theorem setCause_sched_emcySent (s : State) (u : CauseUnit) (bit : Nat) : (setCause s u bit).sched.emcySent = s.sched.emcySent := by obtain ⟨m, h⟩ := setCause_sched s u bit; rw [h]
@[simp] theorem raiseEvent_sched_clockFrom (s : State) (e : Nat) : (raiseEvent s e).sched.clockFrom = s.sched.clockFrom := by obtain ⟨m, h⟩ := raiseEvent_sched s e; rw [h]
@[simp] theorem setCause_sched_clockFrom (s : State) (u : CauseUnit) (bit : Nat) : (setCause s u bit).sched.clockFrom = s.sched.clockFrom := by obtain ⟨m, h⟩ := setCause_sched s u bit; rw [h]
@[simp] theorem raiseEvent_sched_grantAt (s : State) (e : Nat) : (raiseEvent s e).sched.grantAt = s.sched.grantAt := by obtain ⟨m, h⟩ := raiseEvent_sched s e; rw [h]
@[simp] theorem setCause_sched_grantAt (s : State) (u : CauseUnit) (bit : Nat) : (setCause s u bit).sched.grantAt = s.sched.grantAt := by obtain ⟨m, h⟩ := setCause_sched s u bit; rw [h]
@[simp] theorem raiseEvent_sched_offerAt (s : State) (e : Nat) : (raiseEvent s e).sched.offerAt = s.sched.offerAt := by obtain ⟨m, h⟩ := raiseEvent_sched s e; rw [h]
@[simp] theorem setCause_sched_offerAt (s : State) (u : CauseUnit) (bit : Nat) : (setCause s u bit).sched.offerAt = s.sched.offerAt := by obtain ⟨m, h⟩ := setCause_sched s u bit; rw [h]
@[simp] theorem raiseEvent_sched_dueAt (s : State) (e : Nat) : (raiseEvent s e).sched.dueAt = s.sched.dueAt := by obtain ⟨m, h⟩ := raiseEvent_sched s e; rw [h]
@[simp] theorem setCause_sched_dueAt (s : State) (u : CauseUnit) (bit : Nat) : (setCause s u bit).sched.dueAt = s.sched.dueAt := by obtain ⟨m, h⟩ := setCause_sched s u bit; rw [h]

/-- Raising an event changes no register but the count of merged raises. -/
theorem rd_raiseEvent (s : State) (e : Nat) {i j : Nat} (h : objKey 0x1600 0x11 ≠ objKey i j) : rd (raiseEvent s e) i j = rd s i j := by
  unfold raiseEvent
  repeat' first | rfl | exact rd_wr_other s _ h | split

/-- A cause bit set changes no register but the unit's EventCause and the count of merged raises. -/
theorem rd_setCause (s : State) (u : CauseUnit) (bit : Nat) {i j : Nat} (h : objKey 0x1600 0x11 ≠ objKey i j) (hu : objKey (causeAt u).1 (causeAt u).2 ≠ objKey i j) :
    rd (setCause s u bit) i j = rd s i j := by
  unfold setCause
  dsimp only
  split
  · rw [rd_raiseEvent _ _ h, rd_wr_other _ _ hu]
  · exact rd_wr_other _ _ hu

end Sys2Proof.Laws
end

