-- ==== Sys2Proof/Laws/Access.lean ====
section
/-! SUPPORT. What a command that happens at a time answers, and what a write of an object that is performed at once answers. -/

set_option Elab.async false

namespace Sys2Proof.Laws

open Sys2Proof.Machine Sys2Proof.Safety

/-! Events at a time. -/

@[simp] theorem sysRuns_at (t : Nat) (s : State) : sysRuns (at_ t s) = sysRuns s := rfl
@[simp] theorem domOn_at (t : Nat) (s : State) (d : Nat) : domOn (at_ t s) d = domOn s d := rfl

/-- Where nothing in hand takes effect by t, a command at t begins with the time alone. -/
theorem arrive_calm {t : Nat} {s : State} (h : calm t s = true) : arrive t s = at_ t s := by
  obtain ⟨hc1, hc2⟩ := Bool.and_eq_true_iff.1 h
  have hw : s.lanes.filter (fun e => !e.2.waiting.isEmpty) = [] :=
    List.filter_eq_nil_iff.2 fun e he => by simpa using List.all_eq_true.1 hc2 e he
  have hp : ∀ n, pipeRun n t (start s) = start s := by
    intro n
    cases n with
    | zero => rfl
    | succ n =>
      unfold pipeRun
      split
      · next c hc =>
        have hl : ∀ (l : List PipeItem) (o : Option Nat), (∀ i ∈ l, aclkAt s t < i.due) → (∀ d, o = some d → aclkAt s t < d) →
            ∀ d, l.foldl (fun m i => match m with | some d => some (min d i.due) | none => some i.due) o = some d → aclkAt s t < d := by
          intro l
          induction l with
          | nil => exact fun o _ ho d hd => ho d hd
          | cons i l ih =>
            intro o hi ho
            refine ih _ (fun j hj => hi j (List.mem_cons_of_mem _ hj)) ?_
            intro d hd
            have h1 := hi i List.mem_cons_self
            cases o with
            | none => cases hd; exact h1
            | some e => have h2 := ho e rfl; cases hd; omega
        have h2 := hl s.print.pipe none (fun i hi => by simpa using List.all_eq_true.1 hc1 i hi) (by simp) c hc
        exact if_neg (Nat.not_le.2 h2)
      · rfl
  unfold arrive
  rw [hp]
  show lanesDue (at_ t s) = at_ t s
  unfold lanesDue
  show (List.filter _ s.lanes).foldl _ _ = _
  rw [hw]
  rfl

theorem runs_sys {t : Nat} {s : State} (h : runs t s = true) : sysRuns s = true := (Bool.and_eq_true_iff.1 h).1
theorem runs_calm {t : Nat} {s : State} (h : runs t s = true) : calm t s = true := (Bool.and_eq_true_iff.1 h).2

theorem tick_next {t : Nat} {s u : State} {f : State → Option State} (hr : calm t s = true) (h : f (at_ t s) = some u) : tick t s f = .next u := by
  unfold tick; rw [arrive_calm hr, h]; rfl

theorem clocked_next {t : Nat} {s u : State} {f : State → Option State} (hr : runs t s = true) (h : f (at_ t s) = some u) : clocked t s f = .next u :=
  tick_next (runs_calm hr) (by rw [sysRuns_at, runs_sys hr]; exact h)

theorem arrives_next {t : Nat} {s : State} {f : State → State} (hr : runs t s = true) : arrives t s f = .next (f (at_ t s)) :=
  clocked_next hr rfl

theorem port_next {t : Nat} {s y : State} {st : Status} {f : State → State × Status} (hr : runs t s = true) (h : f (at_ t s) = (y, st)) :
    port t s f = .next (reply y (some st) 0 []) :=
  clocked_next hr (by rw [h])

theorem portLoadOf_next {t : Nat} {s y : State} {v : Nat} {f : State → State × Except Status Nat} (hr : runs t s = true) (h : f (at_ t s) = (y, .ok v)) :
    portLoadOf t s f = .next (reply y (some .ok) v []) :=
  clocked_next hr (by rw [h])

/-! What such a command leads to. -/

theorem leads_tick {c : Instr} {t : Nat} {s u : State} {f : State → Option State} {P : State → Prop} (hc : exec c s = tick t s f) (hr : calm t s = true)
    (h : f (at_ t s) = some u) (hP : P u) : Leads c s P := ⟨u, hc.trans (tick_next hr h), hP⟩

theorem leads_clocked {c : Instr} {t : Nat} {s u : State} {f : State → Option State} {P : State → Prop} (hc : exec c s = clocked t s f) (hr : runs t s = true)
    (h : f (at_ t s) = some u) (hP : P u) : Leads c s P := ⟨u, hc.trans (clocked_next hr h), hP⟩

theorem leads_arrives {c : Instr} {t : Nat} {s : State} {f : State → State} {P : State → Prop} (hc : exec c s = arrives t s f) (hr : runs t s = true)
    (hP : P (f (at_ t s))) : Leads c s P := ⟨_, hc.trans (arrives_next hr), hP⟩

theorem leads_port {c : Instr} {t : Nat} {s y : State} {st : Status} {f : State → State × Status} {P : State → Prop} (hc : exec c s = port t s f) (hr : runs t s = true)
    (h : f (at_ t s) = (y, st)) (hP : P (reply y (some st) 0 [])) : Leads c s P := ⟨_, hc.trans (port_next hr h), hP⟩

theorem leads_portLoad {c : Instr} {t v : Nat} {s y : State} {f : State → State × Except Status Nat} {P : State → Prop} (hc : exec c s = portLoadOf t s f) (hr : runs t s = true)
    (h : f (at_ t s) = (y, .ok v)) (hP : P (reply y (some .ok) v [])) : Leads c s P := ⟨_, hc.trans (portLoadOf_next hr h), hP⟩

/-! What follows a command. -/

theorem settle_quiet {s : State} (h : quiet s = true) : settle s = s := by
  simp only [quiet, Bool.and_eq_true] at h
  simp [settle, h.1.1.1, h.1.1.2, h.1.2]

theorem shutdownSettle_quiet {s : State} (h : s.power.shutdown = none) : shutdownSettle s = s := by
  simp [shutdownSettle, h]

theorem finish_quiet {s : State} (h : quiet s = true) : finish s = .next s := by
  unfold finish
  rw [settle_quiet h, shutdownSettle_quiet]
  simp only [quiet, Bool.and_eq_true, Option.isNone_iff_eq_none] at h
  exact h.2

theorem settled_next {t : Nat} {s u : State} {f : State → Option State} (hr : runs t s = true) (h : f (at_ t s) = some u) (hq : quiet u = true) :
    settled t s f = .next u := by
  unfold settled
  simp only [arrive_calm (runs_calm hr), sysRuns_at, runs_sys hr, h, if_true, Option.getD_some]
  exact finish_quiet hq

theorem leads_settled {c : Instr} {t : Nat} {s u : State} {f : State → Option State} {P : State → Prop} (hc : exec c s = settled t s f) (hr : runs t s = true)
    (h : f (at_ t s) = some u) (hq : quiet u = true) (hP : P u) : Leads c s P := ⟨u, hc.trans (settled_next hr h hq), hP⟩

/-! Accesses. -/

/-- After a write of a P object that a source other than boot has made, the parameters differ from those stored. -/
def noted (src : Source) (o : ObjRef) (y : State) : State :=
  if o.desc.pers && src != .boot then setSecurity y { y.security with paramsDirty := true } else y

@[simp] theorem noted_pending (src : Source) (o : ObjRef) (y : State) : (noted src o y).pending = y.pending := by unfold noted; split <;> rfl
@[simp] theorem noted_now (src : Source) (o : ObjRef) (y : State) : (noted src o y).now = y.now := by unfold noted; split <;> rfl
@[simp] theorem noted_answer (src : Source) (o : ObjRef) (y : State) : (noted src o y).answer = y.answer := by unfold noted; split <;> rfl
@[simp] theorem noted_obj (src : Source) (o : ObjRef) (y : State) : (noted src o y).obj = y.obj := by unfold noted; split <;> rfl
@[simp] theorem noted_blobs (src : Source) (o : ObjRef) (y : State) : (noted src o y).blobs = y.blobs := by unfold noted; split <;> rfl
@[simp] theorem noted_stamps (src : Source) (o : ObjRef) (y : State) : (noted src o y).stamps = y.stamps := by unfold noted; split <;> rfl
@[simp] theorem noted_mem (src : Source) (o : ObjRef) (y : State) : (noted src o y).mem = y.mem := by unfold noted; split <;> rfl
@[simp] theorem noted_memEpoch (src : Source) (o : ObjRef) (y : State) : (noted src o y).memEpoch = y.memEpoch := by unfold noted; split <;> rfl
@[simp] theorem noted_fresh (src : Source) (o : ObjRef) (y : State) : (noted src o y).fresh = y.fresh := by unfold noted; split <;> rfl
@[simp] theorem noted_events (src : Source) (o : ObjRef) (y : State) : (noted src o y).events = y.events := by unfold noted; split <;> rfl
@[simp] theorem noted_coalesced (src : Source) (o : ObjRef) (y : State) : (noted src o y).coalesced = y.coalesced := by unfold noted; split <;> rfl
@[simp] theorem noted_keys (src : Source) (o : ObjRef) (y : State) : (noted src o y).keys = y.keys := by unfold noted; split <;> rfl
@[simp] theorem noted_cache (src : Source) (o : ObjRef) (y : State) : (noted src o y).cache = y.cache := by unfold noted; split <;> rfl
@[simp] theorem noted_arr (src : Source) (o : ObjRef) (y : State) : (noted src o y).arr = y.arr := by unfold noted; split <;> rfl
@[simp] theorem noted_queues (src : Source) (o : ObjRef) (y : State) : (noted src o y).queues = y.queues := by unfold noted; split <;> rfl
@[simp] theorem noted_lanes (src : Source) (o : ObjRef) (y : State) : (noted src o y).lanes = y.lanes := by unfold noted; split <;> rfl
@[simp] theorem noted_print (src : Source) (o : ObjRef) (y : State) : (noted src o y).print = y.print := by unfold noted; split <;> rfl
@[simp] theorem noted_serial (src : Source) (o : ObjRef) (y : State) : (noted src o y).serial = y.serial := by unfold noted; split <;> rfl
@[simp] theorem noted_pair (src : Source) (o : ObjRef) (y : State) : (noted src o y).pair = y.pair := by unfold noted; split <;> rfl
@[simp] theorem noted_sched (src : Source) (o : ObjRef) (y : State) : (noted src o y).sched = y.sched := by unfold noted; split <;> rfl
@[simp] theorem noted_cores (src : Source) (o : ObjRef) (y : State) : (noted src o y).cores = y.cores := by unfold noted; split <;> rfl
@[simp] theorem noted_noc (src : Source) (o : ObjRef) (y : State) : (noted src o y).noc = y.noc := by unfold noted; split <;> rfl
@[simp] theorem noted_plant (src : Source) (o : ObjRef) (y : State) : (noted src o y).plant = y.plant := by unfold noted; split <;> rfl
@[simp] theorem noted_nvm (src : Source) (o : ObjRef) (y : State) : (noted src o y).nvm = y.nvm := by unfold noted; split <;> rfl
@[simp] theorem noted_power (src : Source) (o : ObjRef) (y : State) : (noted src o y).power = y.power := by unfold noted; split <;> rfl
@[simp] theorem noted_tap (src : Source) (o : ObjRef) (y : State) : (noted src o y).tap = y.tap := by unfold noted; split <;> rfl
@[simp] theorem noted_straps (src : Source) (o : ObjRef) (y : State) : (noted src o y).straps = y.straps := by unfold noted; split <;> rfl
@[simp] theorem noted_faultL (src : Source) (o : ObjRef) (y : State) : (noted src o y).faultL = y.faultL := by unfold noted; split <;> rfl
@[simp] theorem noted_ptpBase (src : Source) (o : ObjRef) (y : State) : (noted src o y).ptpBase = y.ptpBase := by unfold noted; split <;> rfl
@[simp] theorem noted_ptpAt (src : Source) (o : ObjRef) (y : State) : (noted src o y).ptpAt = y.ptpAt := by unfold noted; split <;> rfl
@[simp] theorem noted_ptpRate (src : Source) (o : ObjRef) (y : State) : (noted src o y).ptpRate = y.ptpRate := by unfold noted; split <;> rfl
@[simp] theorem noted_ptpFor (src : Source) (o : ObjRef) (y : State) : (noted src o y).ptpFor = y.ptpFor := by unfold noted; split <;> rfl

@[simp] theorem quiet_noted (src : Source) (o : ObjRef) (y : State) : quiet (noted src o y) = quiet y := by
  unfold noted; split <;> rfl

@[simp] theorem rd_noted (src : Source) (o : ObjRef) (y : State) (i j : Nat) : rd (noted src o y) i j = rd y i j := by
  unfold noted; split <;> rfl

theorem leNat_leBytes (w n : Nat) : leNat (leBytes w n) = n % 256 ^ w := by
  induction w generalizing n with
  | zero => simp [leBytes, leNat, Nat.mod_one]
  | succ w ih =>
    simp only [leBytes, leNat, ih, BitVec.toNat_ofNat, Nat.shiftLeft_eq, Nat.shiftRight_eq_div_pow]
    have h : 256 ^ (w + 1) = 256 * 256 ^ w := by rw [Nat.pow_succ, Nat.mul_comm]
    rw [h, Nat.mod_mul]
    show n % 256 + n / 256 % 256 ^ w * 256 = _
    rw [Nat.mul_comm]

theorem setNum_eq (src : Source) (idx sub n : Nat) (s : State) : setNum src idx sub n s = access src idx sub (numVal idx sub n) s := by
  unfold setNum numVal
  split <;> simp_all

/-- What a write that is performed at once answers. -/
theorem access_next {src : Source} {idx sub : Nat} {v : ObjVal} {nvm : Bool} {s y : State} {o : ObjRef} {st : Status}
    (hw : canWrite s src idx sub v = true) (ho : resolveObj idx sub = .ok o) (ha : dictApply (arrived s idx sub v) src o v nvm = (y, some st)) (hq : quiet y = true) :
    accessWith src idx sub v nvm s = .next (reply y (some st) 0 []) := by
  simp only [canWrite, ho, Bool.and_eq_true, Bool.not_eq_true', Option.isNone_iff_eq_none] at hw
  obtain ⟨⟨⟨⟨-, hserved⟩, hwhole⟩, hheld⟩, hcheck, hm⟩ := hw
  have hx : assembled (start s) idx sub v.bytes = (arrived s idx sub v, none) := by rw [← hwhole]; rfl
  have hn : dictWriteWith (arrived s idx sub v) src true idx sub v nvm = (y, some st) := by
    unfold dictWriteWith dictWriteNow
    simp only [hheld, Bool.false_and, if_false, ho, hcheck, ha, hm, Bool.false_eq_true]
    simp
  unfold accessWith
  simp only [hserved, if_true, hx, hn]
  exact finish_quiet hq

/-- A value that an op carries arrives with it. -/
theorem arrived_short {s : State} {idx sub : Nat} {v : ObjVal} {o : ObjRef} (ho : resolveObj idx sub = .ok o) (ht : o.desc.ty ≠ .domain) (hl : v.bytes.length ≤ 1024) :
    arrived s idx sub v = start s := by
  unfold arrived assembled
  rw [ho]
  exact congrArg Prod.fst (if_pos (by rw [Bool.and_eq_true, bne_iff_ne]; exact ⟨ht, decide_eq_true hl⟩))

/-- The object of an index and sub-index is a plain number of `w` bytes with this function, unit and place. -/
def isNum (fn : ObjFn) (w idx sub unit place : Nat) : Bool :=
  match resolveObj idx sub with
  | .ok o => o.desc.kind == .plain && o.desc.fn == fn && o.desc.ty.bytes == w && w != 0 && o.idx == idx && o.sub == sub && o.unit == unit && o.place == place
  | .error _ => false

theorem isNum_obj {fn : ObjFn} {w idx sub unit place : Nat} (h : isNum fn w idx sub unit place = true) :
    ∃ o, resolveObj idx sub = .ok o ∧ o.desc.kind = .plain ∧ o.desc.fn = fn ∧ o.desc.ty.bytes = w ∧ w ≠ 0 ∧ o.idx = idx ∧ o.sub = sub ∧ o.unit = unit ∧ o.place = place := by
  unfold isNum at h
  split at h
  · next o ho =>
    simp only [Bool.and_eq_true, bne_iff_ne, ne_eq, beq_iff_eq] at h
    exact ⟨o, ho, h.1.1.1.1.1.1.1, h.1.1.1.1.1.1.2, h.1.1.1.1.1.2, h.1.1.1.1.2, h.1.1.1.2, h.1.1.2, h.1.2, h.2⟩
  · cases h

/-- A write of a number that is performed at once does what its object's function does. -/
theorem setNum_next {src : Source} {fn : ObjFn} {w idx sub unit place n : Nat} {s y : State} (hi : isNum fn w idx sub unit place = true)
    (hf : fn ≠ .retire ∧ fn ≠ .coalescedMap ∧ (fn = .coreCommand → isCore src place = true)) (hw : canSet s src idx sub n = true) (hq : quiet y = true)
    (ha : ∀ o : ObjRef, o.desc.fn = fn → o.idx = idx → o.sub = sub → o.unit = unit → o.place = place → numberApply (start s) o (n % 256 ^ w) = (y, .ok)) :
    ∃ o, setNum src idx sub n s = .next (reply (noted src o y) (some .ok) 0 []) := by
  obtain ⟨o, ho, hk, hfn, hb, hw0, h1, h2, h3, h4⟩ := isNum_obj hi
  refine ⟨o, ?_⟩
  rw [setNum_eq]
  have hv : numVal idx sub n = { ty := 0, bytes := leBytes o.desc.ty.bytes n } := by unfold numVal; rw [ho]
  have ha' := ha o hfn h1 h2 h3 h4
  have hs : arrived s idx sub (numVal idx sub n) = start s := by
    refine arrived_short ho (fun e => ?_) ?_
    · rw [e] at hb; exact hw0 hb.symm
    · rw [hv]
      have : ∀ w m, (leBytes w m).length = w := by intro w; induction w with | zero => exact fun _ => rfl | succ w ih => intro m; simp [leBytes, ih]
      rw [this]
      cases o.desc.ty <;> decide
  refine access_next (v := numVal idx sub n) hw ho ?_ (by rw [quiet_noted]; exact hq)
  rw [hs]
  unfold dictApply
  rw [hv]
  simp only [hk, leNat_leBytes, hb, ha', hfn]
  have e1 : (fn == ObjFn.retire) = false := by simpa using hf.1
  have e2 : (fn == ObjFn.coalescedMap || w == 0) = false := by simp [hf.2.1, hw0]
  have e3 : (fn == ObjFn.coreCommand && !isCore src o.place) = false := by
    by_cases e : fn = .coreCommand
    · rw [h4, hf.2.2 e]; simp
    · simp [e]
  simp only [e1, e2, e3, Bool.false_eq_true, if_false]
  simp only [show (some Status.ok == some Status.ok) = true from rfl, Bool.true_or, Bool.and_true]
  unfold noted
  split <;> rfl

/-- What it leads to. -/
theorem leads_setNum {src : Source} {fn : ObjFn} {w idx sub unit place n : Nat} {s y : State} {P : State → Prop} {c : Instr} (hc : exec c s = setNum src idx sub n s)
    (hi : isNum fn w idx sub unit place = true) (hf : fn ≠ .retire ∧ fn ≠ .coalescedMap ∧ (fn = .coreCommand → isCore src place = true)) (hw : canSet s src idx sub n = true) (hq : quiet y = true)
    (ha : ∀ o : ObjRef, o.desc.fn = fn → o.idx = idx → o.sub = sub → o.unit = unit → o.place = place → numberApply (start s) o (n % 256 ^ w) = (y, .ok))
    (hP : ∀ o, P (reply (noted src o y) (some .ok) 0 [])) : Leads c s P := by
  obtain ⟨o, ho⟩ := setNum_next hi hf hw hq ha
  exact ⟨_, hc.trans ho, hP o⟩

end Sys2Proof.Laws
end

