-- ==== Sys2Proof/Laws/Array.lean ====
section
/-! SUPPORT. The stream array: what is read of a part after an update, and what a token that moves on leaves alone in every cell. -/

set_option Elab.async false

namespace Sys2Proof.Laws

open Sys2Proof.Machine

/-! Reading a part after a part is set. -/

theorem fieldOf_set (s : State) (f g : Nat) (x : Field) : fieldOf (setField s f x) g = if g = f then x else fieldOf s g := by
  unfold fieldOf setField
  split
  · next h => subst h; exact tabGet_set_same _ _ _ _
  · next h => exact tabGet_set_other _ _ _ _ (fun e => h e.symm)

@[simp] theorem fieldOf_set_same (s : State) (f : Nat) (x : Field) : fieldOf (setField s f x) f = x := (fieldOf_set s f f x).trans (if_pos rfl)

theorem cellOf_set (x : Field) (c d : Nat) (y : Cell) : cellOf (setCell x c y) d = if d = c then y else cellOf x d := by
  unfold cellOf setCell
  split
  · next h => subst h; exact tabGet_set_same _ _ _ _
  · next h => exact tabGet_set_other _ _ _ _ (fun e => h e.symm)

@[simp] theorem cellOf_set_same (x : Field) (c : Nat) (y : Cell) : cellOf (setCell x c y) c = y := (cellOf_set x c c y).trans (if_pos rfl)

@[simp] theorem streamOf_set_same (x : Field) (d t : Nat) (y : DrillStream) : streamOf (setStream x d t y) d t = y := tabGet_set_same _ _ _ _
@[simp] theorem slotOf_set_same (x : Field) (k : Nat) (y : Slot) : slotOf (setSlot x k y) k = y := tabGet_set_same _ _ _ _
@[simp] theorem stageOf_set_same (x : Field) (u dir : Nat) (l : List Held) : stageOf (setStage x u dir l) u dir = l := tabGet_set_same _ _ _ _

@[simp] theorem fieldOf_wr (s : State) (i j v f : Nat) : fieldOf (wr s i j v) f = fieldOf s f := rfl
@[simp] theorem fieldOf_at (t : Nat) (s : State) (f : Nat) : fieldOf (at_ t s) f = fieldOf s f := rfl
@[simp] theorem fieldOf_start (s : State) (f : Nat) : fieldOf (start s) f = fieldOf s f := rfl
@[simp] theorem fieldOf_raiseEvent (s : State) (e f : Nat) : fieldOf (raiseEvent s e) f = fieldOf s f := by
  unfold raiseEvent; split
  · rfl
  · split <;> rfl

@[simp] theorem cellOf_setStream (x : Field) (d t : Nat) (y : DrillStream) (c : Nat) : cellOf (setStream x d t y) c = cellOf x c := rfl
@[simp] theorem cellOf_setSlot (x : Field) (k : Nat) (y : Slot) (c : Nat) : cellOf (setSlot x k y) c = cellOf x c := rfl
@[simp] theorem cellOf_setBus (x : Field) (u : Nat) (y : FurrowBus) (c : Nat) : cellOf (setBus x u y) c = cellOf x c := rfl
@[simp] theorem cellOf_setStage (x : Field) (u d : Nat) (l : List Held) (c : Nat) : cellOf (setStage x u d l) c = cellOf x c := rfl
@[simp] theorem cellOf_setDrillCount (x : Field) (k d t n c : Nat) : cellOf (setDrillCount x k d t n) c = cellOf x c := rfl

@[simp] theorem cellOf_streams (x : Field) (l : Tab DrillStream) (c : Nat) : cellOf { x with streams := l } c = cellOf x c := rfl
@[simp] theorem cellOf_retune (x : Field) (r : Option Retune) (c : Nat) : cellOf { x with retune := r } c = cellOf x c := rfl

/-! What a cell has in its window, and when it last fired and delivered. -/

/-- The window of a cell, and the times of its last firing and delivery. -/
def cellWork (y : Cell) : List WinEntry × Nat × Nat := (y.win, y.firedAt, y.deliveredAt)

/-- A field's cells have the same work, and its read streams and bypass stages the times of their last moves. -/
structure SameCells (x y : Field) : Prop where
  work : ∀ c, cellWork (cellOf y c) = cellWork (cellOf x c)
  moved : ∀ d, (streamOf y d 0).movedAt = (streamOf x d 0).movedAt
  stages : y.stageMoved = x.stageMoved

/-- Every cell of the array has the same work. -/
def SameWork (s u : State) : Prop := ∀ f, SameCells (fieldOf s f) (fieldOf u f)

theorem SameCells.refl (x : Field) : SameCells x x := ⟨fun _ => rfl, fun _ => rfl, rfl⟩
theorem SameCells.trans {x y z : Field} (h : SameCells x y) (k : SameCells y z) : SameCells x z :=
  ⟨fun c => (k.work c).trans (h.work c), fun d => (k.moved d).trans (h.moved d), k.stages.trans h.stages⟩
theorem SameWork.refl (s : State) : SameWork s s := fun _ => SameCells.refl _
theorem SameWork.trans {s t u : State} (h : SameWork s t) (k : SameWork t u) : SameWork s u := fun f => (h f).trans (k f)

theorem SameWork.of_eq {s u : State} (h : ∀ f, fieldOf u f = fieldOf s f) : SameWork s u := fun f => by rw [h f]; exact SameCells.refl _

theorem sameWork_setField {s : State} {f : Nat} {x : Field} (h : SameCells (fieldOf s f) x) : SameWork s (setField s f x) := by
  intro g
  rw [fieldOf_set]
  split
  · next e => subst e; exact h
  · exact SameCells.refl _

theorem sameCells_setCell {x : Field} {c : Nat} {y : Cell} (h : cellWork y = cellWork (cellOf x c)) : SameCells x (setCell x c y) := by
  refine ⟨fun d => ?_, fun _ => rfl, rfl⟩
  rw [cellOf_set]
  split
  · next e => subst e; exact h
  · rfl

theorem streamOf_set (x : Field) (d t : Nat) (y : DrillStream) (e r : Nat) : streamOf (setStream x d t y) e r = if 2 * e + r = 2 * d + t then y else streamOf x e r := by
  unfold streamOf setStream
  split
  · next h => rw [h]; exact tabGet_set_same _ _ _ _
  · next h => exact tabGet_set_other _ _ _ _ (fun e => h e.symm)

theorem sameCells_setStream {x : Field} {d t : Nat} {y : DrillStream} (h : t % 2 = 1 ∨ y.movedAt = (streamOf x d t).movedAt) : SameCells x (setStream x d t y) := by
  refine ⟨fun _ => rfl, fun e => ?_, rfl⟩
  rw [streamOf_set]
  split
  · next k =>
    rcases h with h | h
    · omega
    · rw [h]; unfold streamOf; rw [k]
  · rfl

theorem sameCells_setDrillCount (x : Field) (k d t n : Nat) : SameCells x (setDrillCount x k d t n) := ⟨fun _ => rfl, fun _ => rfl, rfl⟩

theorem sameCells_foldl {β : Type} (g : Field → β → Field) (l : List β) (x : Field) (h : ∀ y b, SameCells y (g y b)) : SameCells x (l.foldl g x) := by
  induction l generalizing x with
  | nil => exact SameCells.refl _
  | cons b r ih => exact (h x b).trans (ih _)

theorem sameWork_foldl {β : Type} (g : State → β → State) (l : List β) (s : State) (h : ∀ t b, SameWork t (g t b)) : SameWork s (l.foldl g s) := by
  induction l generalizing s with
  | nil => exact SameWork.refl _
  | cons b r ih => exact (h s b).trans (ih _)

theorem sameCells_dropItems (x : Field) (slot d : Nat) : SameCells x (dropItems x slot d) := by
  unfold dropItems
  exact (sameCells_setDrillCount _ _ _ _ _).trans (sameCells_setStream (Or.inr rfl))

theorem sameCells_dropDue (x : Field) (n : Nat) : SameCells x (dropDue x n) := by
  refine sameCells_foldl _ _ x (fun y d => ?_)
  split
  · split
    · exact sameCells_dropItems _ _ _
    · exact SameCells.refl _
  · exact SameCells.refl _

theorem sameCells_dropReadItems (s : State) (x : Field) (slot start : Nat) : SameCells x (dropReadItems s x slot start) := by
  refine sameCells_foldl _ _ x (fun y d => ?_)
  dsimp only
  split
  · exact SameCells.refl _
  · exact sameCells_setStream (Or.inr rfl)

theorem sameCells_setSlot (x : Field) (k : Nat) (y : Slot) : SameCells x (setSlot x k y) := ⟨fun _ => rfl, fun _ => rfl, rfl⟩

theorem sameCells_fetchAt (x : Field) (n : Nat) : SameCells x { x with fetchAt := n } := ⟨fun _ => rfl, fun _ => rfl, rfl⟩
theorem sameCells_retune (x : Field) (r : Option Retune) : SameCells x { x with retune := r } := ⟨fun _ => rfl, fun _ => rfl, rfl⟩
theorem sameCells_ended (x : Field) (r : Option Retune) (e : RetuneEnded) : SameCells x { x with retune := r, ended := e } := ⟨fun _ => rfl, fun _ => rfl, rfl⟩

theorem sameWork_drillIssue (s : State) (f n : Nat) : SameWork s (drillIssue s f n) := by
  refine sameWork_foldl _ _ s (fun y bank => ?_)
  dsimp only
  split
  · split
    · exact SameWork.refl _
    · next d a _ _ =>
      refine sameWork_setField ⟨fun _ => rfl, fun e => ?_, rfl⟩
      unfold streamOf setStream
      dsimp only
      by_cases k : 2 * e + 0 = 2 * d + 0
      · rw [k, tabGet_set_same]
      · rw [tabGet_set_other _ _ _ _ (fun h => k h.symm)]
        rfl
  · exact SameWork.refl _

/-- Issuing the drill reads leaves the work of every cell alone. -/
theorem sameWork_drillFetch (s : State) (f : Nat) : SameWork s (drillFetch s f) := by
  unfold drillFetch
  dsimp only
  split
  · exact SameWork.refl _
  · refine SameWork.trans (sameWork_foldl _ _ s (fun y k => ?_)) (sameWork_setField ((sameCells_dropDue _ _).trans (sameCells_fetchAt _ _)))
    exact (sameWork_setField (sameCells_dropDue _ _)).trans (sameWork_drillIssue _ _ _)

theorem sameWork_retuneEnd (s : State) (f : Nat) (r : Retune) (result : Nat) : SameWork s (retuneEnd s f r result) := by
  have e : SameCells (fieldOf s f) (if activeSlot s f == 0xFF then fieldOf s f else setSlot (fieldOf s f) (activeSlot s f) { slotOf (fieldOf s f) (activeSlot s f) with st := 2 }) := by
    split
    · exact SameCells.refl _
    · exact sameCells_setSlot _ _ _
  have k : ∀ (s1 : State) (a b c d e g v w x y z q : Nat), SameWork s s1 → SameWork s (raiseEvent (wr (wr (wr (wr s1 a b c) d e g) v w x) y z q) f) := by
    intro s1 a b c d e g v w x y z q h
    refine h.trans (SameWork.of_eq (fun q => ?_))
    simp only [fieldOf_raiseEvent, fieldOf_wr]
  unfold retuneEnd
  dsimp only
  refine k _ _ _ _ _ _ _ _ _ _ _ _ _ (sameWork_setField (SameCells.trans ?_ (sameCells_ended _ _ _)))
  exact e.trans (sameCells_setSlot _ _ _)

theorem sameWork_atEndCheck (s : State) (f : Nat) : SameWork s (atEndCheck s f) := by
  unfold atEndCheck
  split
  · split
    · exact sameWork_retuneEnd _ _ _ _
    · exact SameWork.refl _
  · exact SameWork.refl _

theorem sameCells_streamSwitch (s : State) (x : Field) (slot d t : Nat) : SameCells x (streamSwitch s x slot d t) := by
  unfold streamSwitch
  exact sameCells_setStream (Or.inr rfl)

theorem sameCells_mark (b : Bool) (s : State) (y : Field) (slot d t : Nat) : SameCells y (if b = true then y else streamSwitch s y slot d t) := by
  split
  · exact SameCells.refl _
  · exact sameCells_streamSwitch _ _ _ _ _

theorem sameWork_atEndStart (s : State) (f : Nat) : SameWork s (atEndStart s f) := by
  unfold atEndStart
  dsimp only
  refine (sameWork_setField ?_).trans (sameWork_atEndCheck _ _)
  refine (sameCells_foldl _ _ (fieldOf s f) ?_).trans (sameCells_foldl _ _ _ ?_)
  · intro y c
    split
    · exact SameCells.refl _
    · exact sameCells_setCell rfl
  · intro y d
    exact SameCells.trans (sameCells_mark _ s y _ d 0) (sameCells_mark _ s _ _ d 1)

theorem sameWork_retuneStart (s : State) (f : Nat) (r : Retune) : SameWork s (retuneStart s f r) := by
  unfold retuneStart
  dsimp only
  have h : SameWork s (setField (wr (drillFetch s f) (0x2006 + 0x40 * f) 0x01 2) f { fieldOf (drillFetch s f) f with retune := some { r with startAclk := aclk s } }) :=
    SameWork.trans (sameWork_drillFetch s f) (SameWork.trans (SameWork.of_eq (u := wr (drillFetch s f) (0x2006 + 0x40 * f) 0x01 2) (fun _ => rfl)) (sameWork_setField (sameCells_retune _ _)))
  split
  · exact h.trans ((sameWork_setField (sameCells_dropReadItems _ _ _ _)).trans (sameWork_retuneEnd _ _ _ _))
  · exact h.trans (sameWork_atEndStart _ _)
  · exact h

theorem sameWork_cueCheck (s : State) (f port : Nat) (t : Token) : SameWork s (cueCheck s f port t) := by
  unfold cueCheck
  split
  · split
    · exact sameWork_retuneStart _ _ _
    · exact SameWork.refl _
  · exact SameWork.refl _

/-- A token that enters the end of a path leaves the work of every cell alone. -/
theorem sameWork_endPut (s : State) (e : PathEnd) (t : Token) (drill : Option (Nat × Nat)) : SameWork s (endPut s e t drill) := by
  unfold endPut
  split
  · exact SameWork.refl _
  · next f c dir =>
    have h : SameWork s (setField s f (setCell (fieldOf s f) c { cellOf (fieldOf s f) c with skids := tabSet [] (cellOf (fieldOf s f) c).skids dir (skidOf (cellOf (fieldOf s f) c) dir ++ [{ tok := t, since := aclk s, drill := drill }]) })) :=
      sameWork_setField (sameCells_setCell rfl)
    dsimp only
    split
    · exact h.trans (sameWork_cueCheck _ _ _ _)
    · exact h
  · exact sameWork_setField ⟨fun _ => rfl, fun _ => rfl, rfl⟩
  · exact SameWork.of_eq (fun _ => rfl)
  · next f d =>
    dsimp only
    refine SameWork.trans (sameWork_setField ?_) (sameWork_atEndCheck _ _)
    have h : ∀ (st : DrillStream) (n k : Nat), SameCells (fieldOf s f) (setStream (setDrillCount (fieldOf s f) k d 1 n) d 1 st) :=
      fun st n k => (sameCells_setDrillCount _ _ _ _ _).trans (sameCells_setStream (Or.inl rfl))
    split
    · exact (h _ _ _).trans (sameCells_streamSwitch _ _ _ _ _)
    · exact h _ _ _

theorem sameWork_busTake (s : State) (f u v : Nat) : SameWork s (busTake s f u v) := by
  unfold busTake
  exact sameWork_setField ⟨fun _ => rfl, fun _ => rfl, rfl⟩

theorem SameWork.cell {s u : State} (h : SameWork s u) (f c : Nat) : cellWork (cellOf (fieldOf u f) c) = cellWork (cellOf (fieldOf s f) c) := (h f).work c

/-! A firing, a completion and a delivery. -/

/-- A firing leaves its cell with the work of the cell fired. -/
theorem fireTo_work (s : State) (f c : Nat) : cellWork (cellOf (fieldOf (fireTo s f c) f) c) = cellWork (firedCell s f c) := by
  unfold fireTo
  dsimp only
  rw [(sameWork_atEndCheck _ f).cell f c, fieldOf_set_same, cellOf_set_same]

/-- A delivery takes the head entry from the window of its cell, and notes the ACLK. -/
theorem deliverTo_work {s : State} {f c : Nat} (h : (cellOf (fieldOf s f) c).win ≠ []) :
    (cellOf (fieldOf (deliverTo s f c) f) c).win = (cellOf (fieldOf s f) c).win.tail ∧ (cellOf (fieldOf (deliverTo s f c) f) c).deliveredAt = aclk s + 1 := by
  unfold deliverTo
  dsimp only
  split
  · next e => exact absurd e h
  · next e rest hw =>
    generalize hy : ({ entryWrite (aclk s) (cellOf (fieldOf s f) c) e with win := rest, deliveredAt := aclk s + 1 } : Cell) = y
    have w := (sameWork_foldl (fun st o => endPut st (outEnd s f c o) (entryOut e o) none) (List.filter (fun o => bitOf e.deliver o) (List.range 4))
      (setField s f (if bitOf e.deliver 4 = true then
        setBus (setCell (fieldOf s f) c y) (c / 8) { busOf (fieldOf s f) (c / 8) with toks := (busOf (fieldOf s f) (c / 8)).toks ++ [({ tok := e.result, since := aclk s }, 0)], drivenAt := aclk s + 1 }
        else setCell (fieldOf s f) c y)) (fun t o => sameWork_endPut t _ _ _)).cell f c
    rw [fieldOf_set_same] at w
    have k : cellWork (cellOf (if bitOf e.deliver 4 = true then
        setBus (setCell (fieldOf s f) c y) (c / 8) { busOf (fieldOf s f) (c / 8) with toks := (busOf (fieldOf s f) (c / 8)).toks ++ [({ tok := e.result, since := aclk s }, 0)], drivenAt := aclk s + 1 }
        else setCell (fieldOf s f) c y) c) = cellWork y := by
      split <;> simp
    rw [k] at w
    subst hy
    rw [hw]
    exact ⟨congrArg (·.1) w, congrArg (·.2.2) w⟩

/-- A bypass stage that hands on its head token notes the ACLK. -/
theorem stageTo_moved {s : State} {f u dir : Nat} (h : stageOf (fieldOf s f) u dir ≠ []) : tabGet 0 (fieldOf (stageTo s f u dir) f).stageMoved (2 * u + dir) = aclk s + 1 := by
  unfold stageTo
  dsimp only
  split
  · rw [((sameWork_endPut _ _ _ _) f).stages, fieldOf_set_same]
    exact tabGet_set_same 0 (fieldOf s f).stageMoved (2 * u + dir) (aclk s + 1)
  · next e => exact absurd e h

/-- A read stream that delivers notes the ACLK. -/
theorem drillTo_moved {s : State} {f d v : Nat} (hv : drillPort s f d 0 = some v) (h : (streamOf (fieldOf s f) d 0).buf ≠ []) :
    (streamOf (fieldOf (drillTo s f d) f) d 0).movedAt = aclk s + 1 := by
  unfold drillTo
  dsimp only
  split
  · rw [(((sameWork_endPut _ _ _ _).trans (sameWork_atEndCheck _ f)) f).moved d, fieldOf_set_same]
    split
    · rw [(sameCells_streamSwitch _ _ _ _ _).moved, streamOf_set_same]
    · rw [streamOf_set_same]
  · next e => exact (e v _ _ hv (List.cons_head_tail h).symm).elim

end Sys2Proof.Laws
end

