-- ==== Sys2Proof/Laws/Keeps.lean ====
section
/-! SUPPORT. What a function leaves of the state it starts from. First, what nothing the engine does undoes: the queue of commands is left alone, memory and the dictionary keep their one form, time and the counts of free values and of lost contents do not go back, the rollback floors do not drop, and the identity key stays. Second, the parts of the state that it leaves as they are: a mask has a bit for each part of the state that may change, in the order of the fields of `State`, `pending` being bit 0. -/

set_option Elab.async false

namespace Sys2Proof.Laws

open Sys2Proof.Machine

/-- Every part of mask `a` is one of mask `b`. -/
def Within (a b : Nat) : Prop := a &&& b = a

theorem all (a : Nat) : Within a a := Nat.and_self a

theorem narrow {a b c : Nat} (k : Within b c) (h : a &&& b = a := by decide) : Within a c := by
  show a &&& c = a
  rw [← h, Nat.and_assoc, show b &&& c = b from k]

theorem bit {a m k : Nat} (h : Within a m) (hb : a.testBit k = true := by decide) : m.testBit k = true := by
  have h1 : (a &&& m).testBit k = true := by rw [show a &&& m = a from h]; exact hb
  rw [Nat.testBit_and, Bool.and_eq_true] at h1
  exact h1.2

theorem bit_ne {m k : Nat} {P : Prop} (h : m.testBit k = true) (e : m.testBit k = false) : P := by rw [h] at e; cases e

/-- The relation over the parts of the later state. -/
structure Kp (m : Nat) (z : State) (pending : List Instr) (now : Nat) (answer : Answer) (obj : Tab Nat) (blobs : Tab (List Byte)) (stamps : Tab Nat) (mem : List Host.Cell) (memEpoch : Nat) (fresh : Nat) (events : List (Nat × Nat)) (coalesced : Nat) (keys : Tab KeySlot) (cache : Tab (List Byte)) (arr : ArrayState) (queues : Tab Queue) (lanes : Tab Lane) (print : PrintState) (serial : SerialState) (pair : PairState) (sched : SchedState) (cores : Tab Core) (noc : NocState) (plant : PlantState) (nvm : NvmState) (power : PowerState) (security : SecurityState) (tap : TapState) (straps : Straps) (faultL : Bool) (ptpBase : Nat) (ptpAt : Nat) (ptpRate : Int) (ptpFor : Option Nat) : Prop where
  queue : pending = z.pending
  memory : Memory.wf z.mem = true → Memory.wf mem = true
  registers : tabSorted z.obj = true → tabSorted obj = true
  time : z.now ≤ now
  free : z.fresh ≤ fresh
  content : z.memEpoch ≤ memEpoch
  firmware : z.nvm.firmwareFloor ≤ nvm.firmwareFloor
  updates : z.nvm.keyFloor ≤ nvm.keyFloor
  identity : tabFind keys 0 = tabFind z.keys 0
  same_now : m.testBit 1 = false → now = z.now
  same_answer : m.testBit 2 = false → answer = z.answer
  same_obj : m.testBit 3 = false → obj = z.obj
  same_blobs : m.testBit 4 = false → blobs = z.blobs
  same_stamps : m.testBit 5 = false → stamps = z.stamps
  same_mem : m.testBit 6 = false → mem = z.mem
  same_memEpoch : m.testBit 7 = false → memEpoch = z.memEpoch
  same_fresh : m.testBit 8 = false → fresh = z.fresh
  same_events : m.testBit 9 = false → events = z.events
  same_coalesced : m.testBit 10 = false → coalesced = z.coalesced
  same_keys : m.testBit 11 = false → keys = z.keys
  same_cache : m.testBit 12 = false → cache = z.cache
  same_arr : m.testBit 13 = false → arr = z.arr
  same_queues : m.testBit 14 = false → queues = z.queues
  same_lanes : m.testBit 15 = false → lanes = z.lanes
  same_print : m.testBit 16 = false → print = z.print
  same_serial : m.testBit 17 = false → serial = z.serial
  same_pair : m.testBit 18 = false → pair = z.pair
  same_sched : m.testBit 19 = false → sched = z.sched
  same_cores : m.testBit 20 = false → cores = z.cores
  same_noc : m.testBit 21 = false → noc = z.noc
  same_plant : m.testBit 22 = false → plant = z.plant
  same_nvm : m.testBit 23 = false → nvm = z.nvm
  same_power : m.testBit 24 = false → power = z.power
  same_security : m.testBit 25 = false → security = z.security
  same_tap : m.testBit 26 = false → tap = z.tap
  same_straps : m.testBit 27 = false → straps = z.straps
  same_faultL : m.testBit 28 = false → faultL = z.faultL
  same_ptpBase : m.testBit 29 = false → ptpBase = z.ptpBase
  same_ptpAt : m.testBit 30 = false → ptpAt = z.ptpAt
  same_ptpRate : m.testBit 31 = false → ptpRate = z.ptpRate
  same_ptpFor : m.testBit 32 = false → ptpFor = z.ptpFor

/-- What a state keeps of an earlier one. -/
def Keeps (m : Nat) (z t : State) : Prop := Kp m z t.pending t.now t.answer t.obj t.blobs t.stamps t.mem t.memEpoch t.fresh t.events t.coalesced t.keys t.cache t.arr t.queues t.lanes t.print t.serial t.pair t.sched t.cores t.noc t.plant t.nvm t.power t.security t.tap t.straps t.faultL t.ptpBase t.ptpAt t.ptpRate t.ptpFor

theorem Keeps.refl (m : Nat) (z : State) : Keeps m z z :=
  ⟨rfl, id, id, Nat.le_refl _, Nat.le_refl _, Nat.le_refl _, Nat.le_refl _, Nat.le_refl _, rfl, fun _ => rfl, fun _ => rfl, fun _ => rfl, fun _ => rfl, fun _ => rfl, fun _ => rfl, fun _ => rfl, fun _ => rfl, fun _ => rfl, fun _ => rfl, fun _ => rfl, fun _ => rfl, fun _ => rfl, fun _ => rfl, fun _ => rfl, fun _ => rfl, fun _ => rfl, fun _ => rfl, fun _ => rfl, fun _ => rfl, fun _ => rfl, fun _ => rfl, fun _ => rfl, fun _ => rfl, fun _ => rfl, fun _ => rfl, fun _ => rfl, fun _ => rfl, fun _ => rfl, fun _ => rfl, fun _ => rfl, fun _ => rfl⟩

/-- A state written field by field. -/
theorem Keeps.upd {m : Nat} {z : State} {pending now answer obj blobs stamps mem memEpoch fresh events coalesced keys cache arr queues lanes print serial pair sched cores noc plant nvm power security tap straps faultL ptpBase ptpAt ptpRate ptpFor} :
    Keeps m z ⟨pending, now, answer, obj, blobs, stamps, mem, memEpoch, fresh, events, coalesced, keys, cache, arr, queues, lanes, print, serial, pair, sched, cores, noc, plant, nvm, power, security, tap, straps, faultL, ptpBase, ptpAt, ptpRate, ptpFor⟩ ↔ Kp m z pending now answer obj blobs stamps mem memEpoch fresh events coalesced keys cache arr queues lanes print serial pair sched cores noc plant nvm power security tap straps faultL ptpBase ptpAt ptpRate ptpFor := Iff.rfl

theorem Kp.of {m : Nat} {z s : State} (h : Keeps m z s) : Kp m z s.pending s.now s.answer s.obj s.blobs s.stamps s.mem s.memEpoch s.fresh s.events s.coalesced s.keys s.cache s.arr s.queues s.lanes s.print s.serial s.pair s.sched s.cores s.noc s.plant s.nvm s.power s.security s.tap s.straps s.faultL s.ptpBase s.ptpAt s.ptpRate s.ptpFor := h

theorem Kp.frees {m : Nat} {z : State} {pending now answer obj blobs stamps mem memEpoch fresh events coalesced keys cache arr queues lanes print serial pair sched cores noc plant nvm power security tap straps faultL ptpBase ptpAt ptpRate ptpFor} (k : Nat) (h : Kp m z pending now answer obj blobs stamps mem memEpoch fresh events coalesced keys cache arr queues lanes print serial pair sched cores noc plant nvm power security tap straps faultL ptpBase ptpAt ptpRate ptpFor) (hb : m.testBit 8 = true) :
    Kp m z pending now answer obj blobs stamps mem memEpoch (fresh + k) events coalesced keys cache arr queues lanes print serial pair sched cores noc plant nvm power security tap straps faultL ptpBase ptpAt ptpRate ptpFor :=
  { h with free := Nat.le_trans h.free (Nat.le_add_right _ _), same_fresh := bit_ne hb }

theorem Kp.passMax {m : Nat} {z : State} {pending now answer obj blobs stamps mem memEpoch fresh events coalesced keys cache arr queues lanes print serial pair sched cores noc plant nvm power security tap straps faultL ptpBase ptpAt ptpRate ptpFor} (k : Nat) (h : Kp m z pending now answer obj blobs stamps mem memEpoch fresh events coalesced keys cache arr queues lanes print serial pair sched cores noc plant nvm power security tap straps faultL ptpBase ptpAt ptpRate ptpFor) (hb : m.testBit 1 = true) :
    Kp m z pending (max now k) answer obj blobs stamps mem memEpoch fresh events coalesced keys cache arr queues lanes print serial pair sched cores noc plant nvm power security tap straps faultL ptpBase ptpAt ptpRate ptpFor :=
  { h with time := Nat.le_trans h.time (Nat.le_max_left _ _), same_now := bit_ne hb }

theorem Kp.passAdd {m : Nat} {z : State} {pending now answer obj blobs stamps mem memEpoch fresh events coalesced keys cache arr queues lanes print serial pair sched cores noc plant nvm power security tap straps faultL ptpBase ptpAt ptpRate ptpFor} (k : Nat) (h : Kp m z pending now answer obj blobs stamps mem memEpoch fresh events coalesced keys cache arr queues lanes print serial pair sched cores noc plant nvm power security tap straps faultL ptpBase ptpAt ptpRate ptpFor) (hb : m.testBit 1 = true) :
    Kp m z pending (now + k) answer obj blobs stamps mem memEpoch fresh events coalesced keys cache arr queues lanes print serial pair sched cores noc plant nvm power security tap straps faultL ptpBase ptpAt ptpRate ptpFor :=
  { h with time := Nat.le_trans h.time (Nat.le_add_right _ _), same_now := bit_ne hb }

theorem Kp.passes {m : Nat} {z : State} {pending now answer obj blobs stamps mem memEpoch fresh events coalesced keys cache arr queues lanes print serial pair sched cores noc plant nvm power security tap straps faultL ptpBase ptpAt ptpRate ptpFor} {now' : Nat} (h : Kp m z pending now answer obj blobs stamps mem memEpoch fresh events coalesced keys cache arr queues lanes print serial pair sched cores noc plant nvm power security tap straps faultL ptpBase ptpAt ptpRate ptpFor) (hb : m.testBit 1 = true) (e : now ≤ now') :
    Kp m z pending now' answer obj blobs stamps mem memEpoch fresh events coalesced keys cache arr queues lanes print serial pair sched cores noc plant nvm power security tap straps faultL ptpBase ptpAt ptpRate ptpFor :=
  { h with time := Nat.le_trans h.time e, same_now := bit_ne hb }

theorem Kp.writes {m : Nat} {z : State} {pending now answer obj blobs stamps mem memEpoch fresh events coalesced keys cache arr queues lanes print serial pair sched cores noc plant nvm power security tap straps faultL ptpBase ptpAt ptpRate ptpFor} (d k v : Nat) (h : Kp m z pending now answer obj blobs stamps mem memEpoch fresh events coalesced keys cache arr queues lanes print serial pair sched cores noc plant nvm power security tap straps faultL ptpBase ptpAt ptpRate ptpFor) (hb : m.testBit 3 = true) :
    Kp m z pending now answer (tabSet d obj k v) blobs stamps mem memEpoch fresh events coalesced keys cache arr queues lanes print serial pair sched cores noc plant nvm power security tap straps faultL ptpBase ptpAt ptpRate ptpFor :=
  { h with registers := fun e => tabSorted_set d k v (h.registers e), same_obj := bit_ne hb }

theorem Kp.stores {m : Nat} {z : State} {pending now answer obj blobs stamps mem memEpoch fresh events coalesced keys cache arr queues lanes print serial pair sched cores noc plant nvm power security tap straps faultL ptpBase ptpAt ptpRate ptpFor} (a : Nat) (b : Byte) (h : Kp m z pending now answer obj blobs stamps mem memEpoch fresh events coalesced keys cache arr queues lanes print serial pair sched cores noc plant nvm power security tap straps faultL ptpBase ptpAt ptpRate ptpFor) (hb : m.testBit 6 = true) :
    Kp m z pending now answer obj blobs stamps (tabPut mem a b) memEpoch fresh events coalesced keys cache arr queues lanes print serial pair sched cores noc plant nvm power security tap straps faultL ptpBase ptpAt ptpRate ptpFor :=
  { h with memory := fun e => tabSorted_put a b (h.memory e), same_mem := bit_ne hb }

theorem Kp.loses {m : Nat} {z : State} {pending now answer obj blobs stamps mem memEpoch fresh events coalesced keys cache arr queues lanes print serial pair sched cores noc plant nvm power security tap straps faultL ptpBase ptpAt ptpRate ptpFor} (p : Host.Cell → Bool) (n : Nat) (h : Kp m z pending now answer obj blobs stamps mem memEpoch fresh events coalesced keys cache arr queues lanes print serial pair sched cores noc plant nvm power security tap straps faultL ptpBase ptpAt ptpRate ptpFor) (hb : m.testBit 6 = true) (hc : m.testBit 7 = true) :
    Kp m z pending now answer obj blobs stamps (mem.filter p) (memEpoch + n) fresh events coalesced keys cache arr queues lanes print serial pair sched cores noc plant nvm power security tap straps faultL ptpBase ptpAt ptpRate ptpFor :=
  { h with memory := fun e => tabSorted_filter p (h.memory e), content := Nat.le_trans h.content (Nat.le_add_right _ _), same_mem := bit_ne hb, same_memEpoch := bit_ne hc }

theorem Kp.put_answer {m : Nat} {z : State} {pending now answer obj blobs stamps mem memEpoch fresh events coalesced keys cache arr queues lanes print serial pair sched cores noc plant nvm power security tap straps faultL ptpBase ptpAt ptpRate ptpFor} {x : Answer} (h : Kp m z pending now answer obj blobs stamps mem memEpoch fresh events coalesced keys cache arr queues lanes print serial pair sched cores noc plant nvm power security tap straps faultL ptpBase ptpAt ptpRate ptpFor) (hb : m.testBit 2 = true) :
    Kp m z pending now x obj blobs stamps mem memEpoch fresh events coalesced keys cache arr queues lanes print serial pair sched cores noc plant nvm power security tap straps faultL ptpBase ptpAt ptpRate ptpFor :=
  { h with same_answer := bit_ne hb }

theorem Kp.put_blobs {m : Nat} {z : State} {pending now answer obj blobs stamps mem memEpoch fresh events coalesced keys cache arr queues lanes print serial pair sched cores noc plant nvm power security tap straps faultL ptpBase ptpAt ptpRate ptpFor} {x : Tab (List Byte)} (h : Kp m z pending now answer obj blobs stamps mem memEpoch fresh events coalesced keys cache arr queues lanes print serial pair sched cores noc plant nvm power security tap straps faultL ptpBase ptpAt ptpRate ptpFor) (hb : m.testBit 4 = true) :
    Kp m z pending now answer obj x stamps mem memEpoch fresh events coalesced keys cache arr queues lanes print serial pair sched cores noc plant nvm power security tap straps faultL ptpBase ptpAt ptpRate ptpFor :=
  { h with same_blobs := bit_ne hb }

theorem Kp.put_stamps {m : Nat} {z : State} {pending now answer obj blobs stamps mem memEpoch fresh events coalesced keys cache arr queues lanes print serial pair sched cores noc plant nvm power security tap straps faultL ptpBase ptpAt ptpRate ptpFor} {x : Tab Nat} (h : Kp m z pending now answer obj blobs stamps mem memEpoch fresh events coalesced keys cache arr queues lanes print serial pair sched cores noc plant nvm power security tap straps faultL ptpBase ptpAt ptpRate ptpFor) (hb : m.testBit 5 = true) :
    Kp m z pending now answer obj blobs x mem memEpoch fresh events coalesced keys cache arr queues lanes print serial pair sched cores noc plant nvm power security tap straps faultL ptpBase ptpAt ptpRate ptpFor :=
  { h with same_stamps := bit_ne hb }

theorem Kp.put_events {m : Nat} {z : State} {pending now answer obj blobs stamps mem memEpoch fresh events coalesced keys cache arr queues lanes print serial pair sched cores noc plant nvm power security tap straps faultL ptpBase ptpAt ptpRate ptpFor} {x : List (Nat × Nat)} (h : Kp m z pending now answer obj blobs stamps mem memEpoch fresh events coalesced keys cache arr queues lanes print serial pair sched cores noc plant nvm power security tap straps faultL ptpBase ptpAt ptpRate ptpFor) (hb : m.testBit 9 = true) :
    Kp m z pending now answer obj blobs stamps mem memEpoch fresh x coalesced keys cache arr queues lanes print serial pair sched cores noc plant nvm power security tap straps faultL ptpBase ptpAt ptpRate ptpFor :=
  { h with same_events := bit_ne hb }

theorem Kp.put_coalesced {m : Nat} {z : State} {pending now answer obj blobs stamps mem memEpoch fresh events coalesced keys cache arr queues lanes print serial pair sched cores noc plant nvm power security tap straps faultL ptpBase ptpAt ptpRate ptpFor} {x : Nat} (h : Kp m z pending now answer obj blobs stamps mem memEpoch fresh events coalesced keys cache arr queues lanes print serial pair sched cores noc plant nvm power security tap straps faultL ptpBase ptpAt ptpRate ptpFor) (hb : m.testBit 10 = true) :
    Kp m z pending now answer obj blobs stamps mem memEpoch fresh events x keys cache arr queues lanes print serial pair sched cores noc plant nvm power security tap straps faultL ptpBase ptpAt ptpRate ptpFor :=
  { h with same_coalesced := bit_ne hb }

theorem Kp.put_cache {m : Nat} {z : State} {pending now answer obj blobs stamps mem memEpoch fresh events coalesced keys cache arr queues lanes print serial pair sched cores noc plant nvm power security tap straps faultL ptpBase ptpAt ptpRate ptpFor} {x : Tab (List Byte)} (h : Kp m z pending now answer obj blobs stamps mem memEpoch fresh events coalesced keys cache arr queues lanes print serial pair sched cores noc plant nvm power security tap straps faultL ptpBase ptpAt ptpRate ptpFor) (hb : m.testBit 12 = true) :
    Kp m z pending now answer obj blobs stamps mem memEpoch fresh events coalesced keys x arr queues lanes print serial pair sched cores noc plant nvm power security tap straps faultL ptpBase ptpAt ptpRate ptpFor :=
  { h with same_cache := bit_ne hb }

theorem Kp.put_arr {m : Nat} {z : State} {pending now answer obj blobs stamps mem memEpoch fresh events coalesced keys cache arr queues lanes print serial pair sched cores noc plant nvm power security tap straps faultL ptpBase ptpAt ptpRate ptpFor} {x : ArrayState} (h : Kp m z pending now answer obj blobs stamps mem memEpoch fresh events coalesced keys cache arr queues lanes print serial pair sched cores noc plant nvm power security tap straps faultL ptpBase ptpAt ptpRate ptpFor) (hb : m.testBit 13 = true) :
    Kp m z pending now answer obj blobs stamps mem memEpoch fresh events coalesced keys cache x queues lanes print serial pair sched cores noc plant nvm power security tap straps faultL ptpBase ptpAt ptpRate ptpFor :=
  { h with same_arr := bit_ne hb }

theorem Kp.put_queues {m : Nat} {z : State} {pending now answer obj blobs stamps mem memEpoch fresh events coalesced keys cache arr queues lanes print serial pair sched cores noc plant nvm power security tap straps faultL ptpBase ptpAt ptpRate ptpFor} {x : Tab Queue} (h : Kp m z pending now answer obj blobs stamps mem memEpoch fresh events coalesced keys cache arr queues lanes print serial pair sched cores noc plant nvm power security tap straps faultL ptpBase ptpAt ptpRate ptpFor) (hb : m.testBit 14 = true) :
    Kp m z pending now answer obj blobs stamps mem memEpoch fresh events coalesced keys cache arr x lanes print serial pair sched cores noc plant nvm power security tap straps faultL ptpBase ptpAt ptpRate ptpFor :=
  { h with same_queues := bit_ne hb }

theorem Kp.put_lanes {m : Nat} {z : State} {pending now answer obj blobs stamps mem memEpoch fresh events coalesced keys cache arr queues lanes print serial pair sched cores noc plant nvm power security tap straps faultL ptpBase ptpAt ptpRate ptpFor} {x : Tab Lane} (h : Kp m z pending now answer obj blobs stamps mem memEpoch fresh events coalesced keys cache arr queues lanes print serial pair sched cores noc plant nvm power security tap straps faultL ptpBase ptpAt ptpRate ptpFor) (hb : m.testBit 15 = true) :
    Kp m z pending now answer obj blobs stamps mem memEpoch fresh events coalesced keys cache arr queues x print serial pair sched cores noc plant nvm power security tap straps faultL ptpBase ptpAt ptpRate ptpFor :=
  { h with same_lanes := bit_ne hb }

theorem Kp.put_print {m : Nat} {z : State} {pending now answer obj blobs stamps mem memEpoch fresh events coalesced keys cache arr queues lanes print serial pair sched cores noc plant nvm power security tap straps faultL ptpBase ptpAt ptpRate ptpFor} {x : PrintState} (h : Kp m z pending now answer obj blobs stamps mem memEpoch fresh events coalesced keys cache arr queues lanes print serial pair sched cores noc plant nvm power security tap straps faultL ptpBase ptpAt ptpRate ptpFor) (hb : m.testBit 16 = true) :
    Kp m z pending now answer obj blobs stamps mem memEpoch fresh events coalesced keys cache arr queues lanes x serial pair sched cores noc plant nvm power security tap straps faultL ptpBase ptpAt ptpRate ptpFor :=
  { h with same_print := bit_ne hb }

theorem Kp.put_serial {m : Nat} {z : State} {pending now answer obj blobs stamps mem memEpoch fresh events coalesced keys cache arr queues lanes print serial pair sched cores noc plant nvm power security tap straps faultL ptpBase ptpAt ptpRate ptpFor} {x : SerialState} (h : Kp m z pending now answer obj blobs stamps mem memEpoch fresh events coalesced keys cache arr queues lanes print serial pair sched cores noc plant nvm power security tap straps faultL ptpBase ptpAt ptpRate ptpFor) (hb : m.testBit 17 = true) :
    Kp m z pending now answer obj blobs stamps mem memEpoch fresh events coalesced keys cache arr queues lanes print x pair sched cores noc plant nvm power security tap straps faultL ptpBase ptpAt ptpRate ptpFor :=
  { h with same_serial := bit_ne hb }

theorem Kp.put_pair {m : Nat} {z : State} {pending now answer obj blobs stamps mem memEpoch fresh events coalesced keys cache arr queues lanes print serial pair sched cores noc plant nvm power security tap straps faultL ptpBase ptpAt ptpRate ptpFor} {x : PairState} (h : Kp m z pending now answer obj blobs stamps mem memEpoch fresh events coalesced keys cache arr queues lanes print serial pair sched cores noc plant nvm power security tap straps faultL ptpBase ptpAt ptpRate ptpFor) (hb : m.testBit 18 = true) :
    Kp m z pending now answer obj blobs stamps mem memEpoch fresh events coalesced keys cache arr queues lanes print serial x sched cores noc plant nvm power security tap straps faultL ptpBase ptpAt ptpRate ptpFor :=
  { h with same_pair := bit_ne hb }

theorem Kp.put_sched {m : Nat} {z : State} {pending now answer obj blobs stamps mem memEpoch fresh events coalesced keys cache arr queues lanes print serial pair sched cores noc plant nvm power security tap straps faultL ptpBase ptpAt ptpRate ptpFor} {x : SchedState} (h : Kp m z pending now answer obj blobs stamps mem memEpoch fresh events coalesced keys cache arr queues lanes print serial pair sched cores noc plant nvm power security tap straps faultL ptpBase ptpAt ptpRate ptpFor) (hb : m.testBit 19 = true) :
    Kp m z pending now answer obj blobs stamps mem memEpoch fresh events coalesced keys cache arr queues lanes print serial pair x cores noc plant nvm power security tap straps faultL ptpBase ptpAt ptpRate ptpFor :=
  { h with same_sched := bit_ne hb }

theorem Kp.put_cores {m : Nat} {z : State} {pending now answer obj blobs stamps mem memEpoch fresh events coalesced keys cache arr queues lanes print serial pair sched cores noc plant nvm power security tap straps faultL ptpBase ptpAt ptpRate ptpFor} {x : Tab Core} (h : Kp m z pending now answer obj blobs stamps mem memEpoch fresh events coalesced keys cache arr queues lanes print serial pair sched cores noc plant nvm power security tap straps faultL ptpBase ptpAt ptpRate ptpFor) (hb : m.testBit 20 = true) :
    Kp m z pending now answer obj blobs stamps mem memEpoch fresh events coalesced keys cache arr queues lanes print serial pair sched x noc plant nvm power security tap straps faultL ptpBase ptpAt ptpRate ptpFor :=
  { h with same_cores := bit_ne hb }

theorem Kp.put_noc {m : Nat} {z : State} {pending now answer obj blobs stamps mem memEpoch fresh events coalesced keys cache arr queues lanes print serial pair sched cores noc plant nvm power security tap straps faultL ptpBase ptpAt ptpRate ptpFor} {x : NocState} (h : Kp m z pending now answer obj blobs stamps mem memEpoch fresh events coalesced keys cache arr queues lanes print serial pair sched cores noc plant nvm power security tap straps faultL ptpBase ptpAt ptpRate ptpFor) (hb : m.testBit 21 = true) :
    Kp m z pending now answer obj blobs stamps mem memEpoch fresh events coalesced keys cache arr queues lanes print serial pair sched cores x plant nvm power security tap straps faultL ptpBase ptpAt ptpRate ptpFor :=
  { h with same_noc := bit_ne hb }

theorem Kp.put_plant {m : Nat} {z : State} {pending now answer obj blobs stamps mem memEpoch fresh events coalesced keys cache arr queues lanes print serial pair sched cores noc plant nvm power security tap straps faultL ptpBase ptpAt ptpRate ptpFor} {x : PlantState} (h : Kp m z pending now answer obj blobs stamps mem memEpoch fresh events coalesced keys cache arr queues lanes print serial pair sched cores noc plant nvm power security tap straps faultL ptpBase ptpAt ptpRate ptpFor) (hb : m.testBit 22 = true) :
    Kp m z pending now answer obj blobs stamps mem memEpoch fresh events coalesced keys cache arr queues lanes print serial pair sched cores noc x nvm power security tap straps faultL ptpBase ptpAt ptpRate ptpFor :=
  { h with same_plant := bit_ne hb }

theorem Kp.put_power {m : Nat} {z : State} {pending now answer obj blobs stamps mem memEpoch fresh events coalesced keys cache arr queues lanes print serial pair sched cores noc plant nvm power security tap straps faultL ptpBase ptpAt ptpRate ptpFor} {x : PowerState} (h : Kp m z pending now answer obj blobs stamps mem memEpoch fresh events coalesced keys cache arr queues lanes print serial pair sched cores noc plant nvm power security tap straps faultL ptpBase ptpAt ptpRate ptpFor) (hb : m.testBit 24 = true) :
    Kp m z pending now answer obj blobs stamps mem memEpoch fresh events coalesced keys cache arr queues lanes print serial pair sched cores noc plant nvm x security tap straps faultL ptpBase ptpAt ptpRate ptpFor :=
  { h with same_power := bit_ne hb }

theorem Kp.put_security {m : Nat} {z : State} {pending now answer obj blobs stamps mem memEpoch fresh events coalesced keys cache arr queues lanes print serial pair sched cores noc plant nvm power security tap straps faultL ptpBase ptpAt ptpRate ptpFor} {x : SecurityState} (h : Kp m z pending now answer obj blobs stamps mem memEpoch fresh events coalesced keys cache arr queues lanes print serial pair sched cores noc plant nvm power security tap straps faultL ptpBase ptpAt ptpRate ptpFor) (hb : m.testBit 25 = true) :
    Kp m z pending now answer obj blobs stamps mem memEpoch fresh events coalesced keys cache arr queues lanes print serial pair sched cores noc plant nvm power x tap straps faultL ptpBase ptpAt ptpRate ptpFor :=
  { h with same_security := bit_ne hb }

theorem Kp.put_tap {m : Nat} {z : State} {pending now answer obj blobs stamps mem memEpoch fresh events coalesced keys cache arr queues lanes print serial pair sched cores noc plant nvm power security tap straps faultL ptpBase ptpAt ptpRate ptpFor} {x : TapState} (h : Kp m z pending now answer obj blobs stamps mem memEpoch fresh events coalesced keys cache arr queues lanes print serial pair sched cores noc plant nvm power security tap straps faultL ptpBase ptpAt ptpRate ptpFor) (hb : m.testBit 26 = true) :
    Kp m z pending now answer obj blobs stamps mem memEpoch fresh events coalesced keys cache arr queues lanes print serial pair sched cores noc plant nvm power security x straps faultL ptpBase ptpAt ptpRate ptpFor :=
  { h with same_tap := bit_ne hb }

theorem Kp.put_straps {m : Nat} {z : State} {pending now answer obj blobs stamps mem memEpoch fresh events coalesced keys cache arr queues lanes print serial pair sched cores noc plant nvm power security tap straps faultL ptpBase ptpAt ptpRate ptpFor} {x : Straps} (h : Kp m z pending now answer obj blobs stamps mem memEpoch fresh events coalesced keys cache arr queues lanes print serial pair sched cores noc plant nvm power security tap straps faultL ptpBase ptpAt ptpRate ptpFor) (hb : m.testBit 27 = true) :
    Kp m z pending now answer obj blobs stamps mem memEpoch fresh events coalesced keys cache arr queues lanes print serial pair sched cores noc plant nvm power security tap x faultL ptpBase ptpAt ptpRate ptpFor :=
  { h with same_straps := bit_ne hb }

theorem Kp.put_faultL {m : Nat} {z : State} {pending now answer obj blobs stamps mem memEpoch fresh events coalesced keys cache arr queues lanes print serial pair sched cores noc plant nvm power security tap straps faultL ptpBase ptpAt ptpRate ptpFor} {x : Bool} (h : Kp m z pending now answer obj blobs stamps mem memEpoch fresh events coalesced keys cache arr queues lanes print serial pair sched cores noc plant nvm power security tap straps faultL ptpBase ptpAt ptpRate ptpFor) (hb : m.testBit 28 = true) :
    Kp m z pending now answer obj blobs stamps mem memEpoch fresh events coalesced keys cache arr queues lanes print serial pair sched cores noc plant nvm power security tap straps x ptpBase ptpAt ptpRate ptpFor :=
  { h with same_faultL := bit_ne hb }

theorem Kp.put_ptpBase {m : Nat} {z : State} {pending now answer obj blobs stamps mem memEpoch fresh events coalesced keys cache arr queues lanes print serial pair sched cores noc plant nvm power security tap straps faultL ptpBase ptpAt ptpRate ptpFor} {x : Nat} (h : Kp m z pending now answer obj blobs stamps mem memEpoch fresh events coalesced keys cache arr queues lanes print serial pair sched cores noc plant nvm power security tap straps faultL ptpBase ptpAt ptpRate ptpFor) (hb : m.testBit 29 = true) :
    Kp m z pending now answer obj blobs stamps mem memEpoch fresh events coalesced keys cache arr queues lanes print serial pair sched cores noc plant nvm power security tap straps faultL x ptpAt ptpRate ptpFor :=
  { h with same_ptpBase := bit_ne hb }

theorem Kp.put_ptpAt {m : Nat} {z : State} {pending now answer obj blobs stamps mem memEpoch fresh events coalesced keys cache arr queues lanes print serial pair sched cores noc plant nvm power security tap straps faultL ptpBase ptpAt ptpRate ptpFor} {x : Nat} (h : Kp m z pending now answer obj blobs stamps mem memEpoch fresh events coalesced keys cache arr queues lanes print serial pair sched cores noc plant nvm power security tap straps faultL ptpBase ptpAt ptpRate ptpFor) (hb : m.testBit 30 = true) :
    Kp m z pending now answer obj blobs stamps mem memEpoch fresh events coalesced keys cache arr queues lanes print serial pair sched cores noc plant nvm power security tap straps faultL ptpBase x ptpRate ptpFor :=
  { h with same_ptpAt := bit_ne hb }

theorem Kp.put_ptpRate {m : Nat} {z : State} {pending now answer obj blobs stamps mem memEpoch fresh events coalesced keys cache arr queues lanes print serial pair sched cores noc plant nvm power security tap straps faultL ptpBase ptpAt ptpRate ptpFor} {x : Int} (h : Kp m z pending now answer obj blobs stamps mem memEpoch fresh events coalesced keys cache arr queues lanes print serial pair sched cores noc plant nvm power security tap straps faultL ptpBase ptpAt ptpRate ptpFor) (hb : m.testBit 31 = true) :
    Kp m z pending now answer obj blobs stamps mem memEpoch fresh events coalesced keys cache arr queues lanes print serial pair sched cores noc plant nvm power security tap straps faultL ptpBase ptpAt x ptpFor :=
  { h with same_ptpRate := bit_ne hb }

theorem Kp.put_ptpFor {m : Nat} {z : State} {pending now answer obj blobs stamps mem memEpoch fresh events coalesced keys cache arr queues lanes print serial pair sched cores noc plant nvm power security tap straps faultL ptpBase ptpAt ptpRate ptpFor} {x : Option Nat} (h : Kp m z pending now answer obj blobs stamps mem memEpoch fresh events coalesced keys cache arr queues lanes print serial pair sched cores noc plant nvm power security tap straps faultL ptpBase ptpAt ptpRate ptpFor) (hb : m.testBit 32 = true) :
    Kp m z pending now answer obj blobs stamps mem memEpoch fresh events coalesced keys cache arr queues lanes print serial pair sched cores noc plant nvm power security tap straps faultL ptpBase ptpAt ptpRate x :=
  { h with same_ptpFor := bit_ne hb }

theorem Kp.put_nvm {m : Nat} {z : State} {pending now answer obj blobs stamps mem memEpoch fresh events coalesced keys cache arr queues lanes print serial pair sched cores noc plant nvm power security tap straps faultL ptpBase ptpAt ptpRate ptpFor} {x : NvmState} (h : Kp m z pending now answer obj blobs stamps mem memEpoch fresh events coalesced keys cache arr queues lanes print serial pair sched cores noc plant nvm power security tap straps faultL ptpBase ptpAt ptpRate ptpFor) (hb : m.testBit 23 = true) (hf : nvm.firmwareFloor ≤ x.firmwareFloor) (hu : nvm.keyFloor ≤ x.keyFloor) :
    Kp m z pending now answer obj blobs stamps mem memEpoch fresh events coalesced keys cache arr queues lanes print serial pair sched cores noc plant x power security tap straps faultL ptpBase ptpAt ptpRate ptpFor :=
  { h with firmware := Nat.le_trans h.firmware hf, updates := Nat.le_trans h.updates hu, same_nvm := bit_ne hb }

/-- A state on the way. -/
theorem Keeps.cut {m : Nat} {z : State} {P : Prop} (x : State) (h : Keeps m z x) (k : Keeps m z x → P) : P := k h

/-- What a part answer keeps: every state that an answer of the form `some y` holds. -/
def OKeeps (m : Nat) (z : State) (o : Option State) : Prop := ∀ y, o = some y → Keeps m z y

/-- The state of a pair. -/
def PKeeps {α : Type} (m : Nat) (z : State) (p : State × α) : Prop := Keeps m z p.1

/-- The state of a pair that may be absent. -/
def QKeeps {α : Type} (m : Nat) (z : State) (o : Option (State × α)) : Prop := ∀ y, o = some y → Keeps m z y.1

/-- The state of an outcome. -/
def XKeeps (m : Nat) (z : State) (o : Out) : Prop := ∃ y, o = .next y ∧ Keeps m z y

theorem OKeeps.some {m : Nat} {z y : State} (h : Keeps m z y) : OKeeps m z (Option.some y) := fun _ e => by cases e; exact h
theorem OKeeps.none {m : Nat} {z : State} : OKeeps m z Option.none := fun _ e => by cases e
theorem OKeeps.of {m : Nat} {z y : State} {o : Option State} (h : OKeeps m z o) (e : o = Option.some y) : Keeps m z y := h y e
theorem OKeeps.getD {m : Nat} {z d : State} {o : Option State} (h : OKeeps m z o) (hd : Keeps m z d) : Keeps m z (o.getD d) := by
  cases o with
  | none => exact hd
  | some y => exact h y rfl
theorem OKeeps.map {m : Nat} {z : State} {o : Option State} {f : State → State} (h : OKeeps m z o) (hf : ∀ x, Keeps m z x → Keeps m z (f x)) : OKeeps m z (o.map f) := by
  cases o with
  | none => exact OKeeps.none
  | some y => exact OKeeps.some (hf y (h y rfl))
theorem OKeeps.bind {m : Nat} {z : State} {o : Option State} {f : State → Option State} (h : OKeeps m z o) (hf : ∀ x, Keeps m z x → OKeeps m z (f x)) : OKeeps m z (o.bind f) := by
  cases o with
  | none => exact OKeeps.none
  | some y => exact hf y (h y rfl)
theorem PKeeps.mk {α : Type} {m : Nat} {z y : State} {v : α} (h : Keeps m z y) : PKeeps m z (y, v) := h
theorem PKeeps.iff {α : Type} {m : Nat} {z y : State} {v : α} : PKeeps m z (y, v) ↔ Keeps m z y := Iff.rfl
theorem PKeeps.of {α : Type} {m : Nat} {z y : State} {v : α} {p : State × α} (h : PKeeps m z p) (e : p = (y, v)) : Keeps m z y := by subst e; exact h
theorem PKeeps.fst {α : Type} {m : Nat} {z : State} {p : State × α} (h : PKeeps m z p) : Keeps m z p.1 := h
theorem QKeeps.some {α : Type} {m : Nat} {z y : State} {v : α} (h : Keeps m z y) : QKeeps m z (Option.some (y, v)) := fun _ e => by cases e; exact h
theorem QKeeps.none {α : Type} {m : Nat} {z : State} : QKeeps m z (Option.none : Option (State × α)) := fun _ e => by cases e
theorem QKeeps.of {α : Type} {m : Nat} {z y : State} {v : α} {o : Option (State × α)} (h : QKeeps m z o) (e : o = Option.some (y, v)) : Keeps m z y := h _ e
theorem QKeeps.of' {α : Type} {m : Nat} {z : State} {y : State × α} {o : Option (State × α)} (h : QKeeps m z o) (e : o = Option.some y) : Keeps m z y.1 := h _ e
theorem QKeeps.map {α β : Type} {m : Nat} {z : State} {o : Option (State × α)} {f : State × α → State × β} (h : QKeeps m z o) (hf : ∀ y, Keeps m z y.1 → PKeeps m z (f y)) : QKeeps m z (o.map f) := by
  cases o with
  | none => exact QKeeps.none
  | some y => exact fun _ e => by cases e; exact hf y (h y rfl)
theorem OKeeps.mapOf {α : Type} {m : Nat} {z : State} {o : Option (State × α)} {f : State × α → State} (h : QKeeps m z o) (hf : ∀ y, Keeps m z y.1 → Keeps m z (f y)) : OKeeps m z (o.map f) := by
  cases o with
  | none => exact OKeeps.none
  | some y => exact OKeeps.some (hf y (h y rfl))
theorem OKeeps.mapAny {α : Type} {m : Nat} {z : State} {o : Option α} {f : α → State} (hf : ∀ y, Keeps m z (f y)) : OKeeps m z (o.map f) := by
  cases o with
  | none => exact OKeeps.none
  | some y => exact OKeeps.some (hf y)
theorem QKeeps.mapAny {α β : Type} {m : Nat} {z : State} {o : Option α} {f : α → State × β} (hf : ∀ y, PKeeps m z (f y)) : QKeeps m z (o.map f) := by
  cases o with
  | none => exact QKeeps.none
  | some y => exact fun _ e => by cases e; exact hf y
theorem XKeeps.next {m : Nat} {z y : State} (h : Keeps m z y) : XKeeps m z (.next y) := ⟨y, rfl, h⟩

theorem keeps_id {m : Nat} {z x : State} (h : Keeps m z x) : Keeps m z (id x) := h

/-- A fold. -/
theorem Keeps.foldl {β : Type} {m : Nat} {z : State} (f : State → β → State) (l : List β) {s : State} (h : Keeps m z s) (hf : ∀ x b, Keeps m z x → Keeps m z (f x b)) : Keeps m z (l.foldl f s) := by
  induction l generalizing s with
  | nil => exact h
  | cons e r ih => exact ih (hf _ _ h)

end Sys2Proof.Laws
end

