-- ==== Sys2Proof/Laws/KeepsUnits.lean ====
section
/-! SUPPORT. What the shared operations, the stream array, the queues, the print, verification and serial units and the lanes keep of the state before (Laws/Keeps.lean): one lemma per function. -/

set_option Elab.async false

namespace Sys2Proof.Laws

open Sys2Proof.Machine

/-! Ops -/

theorem keeps_start {pm : Nat} {z : State} {s : State} (hpm : Within 0x4 pm) (hk : Keeps pm z s) : Keeps pm z (start s) := by
  unfold start
  repeat' first
    | with_reducible assumption
    | (with_reducible refine Keeps.upd.2 ?_; apply Kp.put_answer (hb := bit hpm); with_reducible apply Kp.of)

theorem keeps_send {pm : Nat} {z : State} {s : State} {port : Nat} {b : List Byte} (hpm : Within 0x4 pm) (hk : Keeps pm z s) : Keeps pm z (send s port b) := by
  unfold send
  repeat' first
    | with_reducible assumption
    | (with_reducible refine Keeps.upd.2 ?_; apply Kp.put_answer (hb := bit hpm); with_reducible apply Kp.of)

theorem keeps_at_ {pm : Nat} {z : State} {t : Nat} {s : State} (hpm : Within 0x6 pm) (hk : Keeps pm z s) : Keeps pm z (at_ t s) := Kp.passMax t (Kp.of (keeps_start (narrow hpm) hk)) (bit hpm)

theorem keeps_wr {pm : Nat} {z : State} {s : State} {idx : Nat} {sub : Nat} {v : Nat} (hpm : Within 0x8 pm) (hk : Keeps pm z s) : Keeps pm z (wr s idx sub v) := by
  unfold wr
  repeat' first
    | with_reducible assumption
    | (with_reducible refine Keeps.upd.2 ?_; repeat' first | (with_reducible apply Kp.of) | (with_reducible apply Kp.writes (hb := bit hpm)))

theorem keeps_wrBytes {pm : Nat} {z : State} {s : State} {idx : Nat} {sub : Nat} {b : List Byte} (hpm : Within 0x10 pm) (hk : Keeps pm z s) : Keeps pm z (wrBytes s idx sub b) := by
  unfold wrBytes
  repeat' first
    | with_reducible assumption
    | (with_reducible refine Keeps.upd.2 ?_; apply Kp.put_blobs (hb := bit hpm); with_reducible apply Kp.of)

theorem keeps_setStamp {pm : Nat} {z : State} {s : State} {idx : Nat} {sub : Nat} (hpm : Within 0x20 pm) (hk : Keeps pm z s) : Keeps pm z (setStamp s idx sub) := by
  unfold setStamp
  repeat' first
    | with_reducible assumption
    | (with_reducible refine Keeps.upd.2 ?_; apply Kp.put_stamps (hb := bit hpm); with_reducible apply Kp.of)

theorem keeps_enter {pm : Nat} {z : State} {s : State} {idx : Nat} {sub : Nat} {v : Nat} (hpm : Within 0x28 pm) (hk : Keeps pm z s) : Keeps pm z (enter s idx sub v) := by
  unfold enter
  repeat' first
    | with_reducible assumption
    | with_reducible apply keeps_setStamp
    | with_reducible apply keeps_wr
    | with_reducible exact narrow hpm

theorem keeps_bump {pm : Nat} {z : State} {s : State} {idx : Nat} {sub : Nat} (hpm : Within 0x8 pm) (hk : Keeps pm z s) : Keeps pm z (bump s idx sub) := by
  unfold bump
  repeat' first
    | with_reducible assumption
    | with_reducible apply keeps_wr

theorem keeps_count64 {pm : Nat} {z : State} {s : State} {idx : Nat} {sub : Nat} {n : Nat} (hpm : Within 0x8 pm) (hk : Keeps pm z s) : Keeps pm z (count64 s idx sub n) := by
  unfold count64
  repeat' first
    | with_reducible assumption
    | with_reducible apply keeps_wr

theorem keeps_raiseMerged {pm : Nat} {z : State} {s : State} {e : Nat} (hpm : Within 0x80408 pm) (hk : Keeps pm z s) : Keeps pm z (raiseMerged s e) := by
  unfold raiseMerged
  repeat' first
    | with_reducible assumption
    | with_reducible apply keeps_bump
    | with_reducible exact narrow hpm
    | (simp only [Keeps.upd]; apply Kp.put_coalesced (hb := bit hpm); apply Kp.put_sched (hb := bit hpm); with_reducible apply Kp.of)

theorem keeps_raiseEvent {pm : Nat} {z : State} {s : State} {e : Nat} (hpm : Within 0x80708 pm) (hk : Keeps pm z s) : Keeps pm z (raiseEvent s e) := by
  unfold raiseEvent
  repeat' first
    | with_reducible assumption
    | with_reducible apply keeps_raiseMerged
    | with_reducible exact narrow hpm
    | (simp only [Keeps.upd]; apply Kp.put_events (hb := bit hpm); repeat' first | (with_reducible apply Kp.of) | (with_reducible apply Kp.frees (hb := bit hpm)))
    | split

theorem keeps_setCause {pm : Nat} {z : State} {s : State} {u : CauseUnit} {bit : Nat} (hpm : Within 0x80708 pm) (hk : Keeps pm z s) : Keeps pm z (setCause s u bit) := by
  unfold setCause
  dsimp only
  repeat' first
    | with_reducible assumption
    | with_reducible apply keeps_wr
    | with_reducible apply keeps_raiseEvent
    | with_reducible exact narrow hpm
    | split

theorem keeps_setHolder {pm : Nat} {z : State} {s : State} {r : Nat} {h : Nat} (hpm : Within 0x8 pm) (hk : Keeps pm z s) : Keeps pm z (setHolder s r h) := by
  unfold setHolder
  repeat' first
    | with_reducible assumption
    | with_reducible apply keeps_wr

theorem keeps_releaseAll {pm : Nat} {z : State} {s : State} {h : Nat} (hpm : Within 0x8 pm) (hk : Keeps pm z s) : Keeps pm z (releaseAll s h) := by
  unfold releaseAll
  repeat' first
    | with_reducible assumption
    | with_reducible apply keeps_setHolder
    | with_reducible apply Keeps.foldl
    | split
    | with_reducible intro _ _
    | with_reducible intro _

theorem keeps_claimRefused {pm : Nat} {z : State} {s : State} {r : Nat} {h : Nat} (hpm : Within 0x80708 pm) (hk : Keeps pm z s) : Keeps pm z (claimRefused s r h) := by
  unfold claimRefused
  repeat' first
    | with_reducible assumption
    | with_reducible apply keeps_setCause
    | with_reducible apply keeps_wr
    | with_reducible apply keeps_bump
    | with_reducible exact narrow hpm

theorem keeps_takeClaims {pm : Nat} {z : State} {s : State} {h : Nat} {rs : List Nat} (hpm : Within 0x80708 pm) (hk : Keeps pm z s) : PKeeps pm z (takeClaims s h rs) := by
  unfold takeClaims
  repeat' first
    | with_reducible assumption
    | with_reducible apply keeps_claimRefused
    | with_reducible apply keeps_setHolder
    | with_reducible apply Keeps.foldl
    | with_reducible exact narrow hpm
    | simp only [PKeeps.iff]
    | split
    | with_reducible intro _ _

theorem keeps_freeNat {pm : Nat} {z : State} {s : State} {m : Nat} (hpm : Within 0x100 pm) (hk : Keeps pm z s) : PKeeps pm z (freeNat s m) := by
  unfold freeNat
  repeat' first
    | with_reducible assumption
    | (with_reducible refine Keeps.upd.2 ?_; repeat' first | (with_reducible apply Kp.of) | (with_reducible apply Kp.frees (hb := bit hpm)))
    | simp only [PKeeps.iff]

theorem keeps_freeBytes {pm : Nat} {z : State} {n : Nat} {s : State} (hpm : Within 0x100 pm) (hk : Keeps pm z s) : PKeeps pm z (freeBytes n s) := by
  induction n generalizing s with
  | zero => exact hk
  | succ n ih => exact PKeeps.mk (PKeeps.fst (ih (PKeeps.fst (keeps_freeNat (narrow hpm) (m := 256) hk))))

theorem keeps_signRandom {pm : Nat} {z : State} {s : State} (hpm : Within 0x100 pm) (hk : Keeps pm z s) : PKeeps pm z (signRandom s) := by
  unfold signRandom
  repeat' first
    | with_reducible assumption
    | with_reducible apply keeps_freeBytes
    | simp only [PKeeps.iff]
    | split

theorem keeps_memPut {pm : Nat} {z : State} {s : State} {a : Nat} {b : Byte} (hpm : Within 0x40 pm) (hk : Keeps pm z s) : Keeps pm z (memPut s a b) := by
  unfold memPut
  repeat' first
    | with_reducible assumption
    | (with_reducible refine Keeps.upd.2 ?_; repeat' first | (with_reducible apply Kp.of) | (with_reducible apply Kp.stores (hb := bit hpm)))

theorem keeps_memWrite {pm : Nat} {z : State} {s : State} {a : Nat} {b : List Byte} (hpm : Within 0x40 pm) (hk : Keeps pm z s) : Keeps pm z (memWrite s a b) := by
  induction b generalizing s a with
  | nil => exact hk
  | cons x r ih => exact ih (keeps_memPut (narrow hpm) hk)

theorem keeps_memForget {pm : Nat} {z : State} {s : State} {lo : Nat} {hi : Nat} (hpm : Within 0xc0 pm) (hk : Keeps pm z s) : Keeps pm z (memForget s lo hi) := by
  unfold memForget
  repeat' first
    | with_reducible assumption
    | (with_reducible refine Keeps.upd.2 ?_; repeat' first | (with_reducible apply Kp.of) | (with_reducible apply Kp.loses (hb := bit hpm) (hc := bit hpm)))

theorem keeps_lpddrRefuse {pm : Nat} {z : State} {s : State} {e : Nat} (hpm : Within 0x80708 pm) (hk : Keeps pm z s) : Keeps pm z (lpddrRefuse s e) := by
  unfold lpddrRefuse
  repeat' first
    | with_reducible assumption
    | with_reducible apply keeps_setCause
    | with_reducible apply keeps_bump
    | with_reducible exact narrow hpm

theorem keeps_ringWrite {pm : Nat} {z : State} {s : State} {base size off : Nat} {b : List Byte} (hpm : Within 0x40 pm) (hk : Keeps pm z s) : Keeps pm z (ringWrite s base size off b) := by
  induction b generalizing s off with
  | nil => exact hk
  | cons x r ih => exact ih (keeps_memPut (narrow hpm) hk)

theorem keeps_hashAsk {pm : Nat} {z : State} {s : State} {r : SecRequest} (hpm : Within 0x2000000 pm) (hk : Keeps pm z s) : Keeps pm z (hashAsk s r) := by
  unfold hashAsk
  repeat' first
    | with_reducible assumption
    | (simp only [Keeps.upd]; apply Kp.put_security (hb := bit hpm); with_reducible apply Kp.of)

theorem keeps_signAsk {pm : Nat} {z : State} {s : State} {r : SecRequest} (hpm : Within 0x2000000 pm) (hk : Keeps pm z s) : Keeps pm z (signAsk s r) := by
  unfold signAsk
  repeat' first
    | with_reducible assumption
    | (simp only [Keeps.upd]; apply Kp.put_security (hb := bit hpm); with_reducible apply Kp.of)

theorem keeps_hashNext {pm : Nat} {z : State} {s : State} (hpm : Within 0x2000000 pm) (hk : Keeps pm z s) : Keeps pm z (hashNext s) := by
  unfold hashNext
  repeat' first
    | with_reducible assumption
    | (simp only [Keeps.upd]; apply Kp.put_security (hb := bit hpm); with_reducible apply Kp.of)

theorem keeps_signNext {pm : Nat} {z : State} {s : State} (hpm : Within 0x2000000 pm) (hk : Keeps pm z s) : Keeps pm z (signNext s) := by
  unfold signNext
  repeat' first
    | with_reducible assumption
    | (simp only [Keeps.upd]; apply Kp.put_security (hb := bit hpm); with_reducible apply Kp.of)

theorem keeps_signAgain {pm : Nat} {z : State} {s : State} (hpm : Within 0x2000000 pm) (hk : Keeps pm z s) : Keeps pm z (signAgain s) := by
  unfold signAgain
  repeat' first
    | with_reducible assumption
    | (simp only [Keeps.upd]; apply Kp.put_security (hb := bit hpm); with_reducible apply Kp.of)

/-! Send -/

theorem keeps_setLane {pm : Nat} {z : State} {s : State} {n : Nat} {x : Lane} (hpm : Within 0x8000 pm) (hk : Keeps pm z s) : Keeps pm z (setLane s n x) := by
  unfold setLane
  repeat' first
    | with_reducible assumption
    | (simp only [Keeps.upd]; apply Kp.put_lanes (hb := bit hpm); with_reducible apply Kp.of)

theorem keeps_laneUpTo {pm : Nat} {z : State} {s : State} {n : Nat} {t : Nat} (hpm : Within 0x8004 pm) (hk : Keeps pm z s) : Keeps pm z (laneUpTo s n t) := by
  unfold laneUpTo
  repeat' first
    | with_reducible assumption
    | with_reducible apply keeps_send
    | with_reducible apply keeps_setLane
    | with_reducible apply Keeps.foldl
    | with_reducible exact narrow hpm
    | with_reducible intro _ _

theorem keeps_lanesDue {pm : Nat} {z : State} {s : State} (hpm : Within 0x8004 pm) (hk : Keeps pm z s) : Keeps pm z (lanesDue s) := by
  unfold lanesDue
  repeat' first
    | with_reducible assumption
    | with_reducible apply keeps_laneUpTo
    | with_reducible apply Keeps.foldl
    | with_reducible intro _ _

theorem keeps_laneFire {pm : Nat} {z : State} {s : State} {n : Nat} {t : Nat} {hdr : Nat} {payload : List Byte} (hpm : Within 0x8004 pm) (hk : Keeps pm z s) : Keeps pm z (laneFire s n t hdr payload) := by
  unfold laneFire
  dsimp only
  repeat' first
    | with_reducible assumption
    | with_reducible apply keeps_laneUpTo
    | with_reducible apply keeps_send
    | with_reducible apply keeps_setLane
    | with_reducible exact narrow hpm
    | split

theorem keeps_laneManage {pm : Nat} {z : State} {s : State} {n : Nat} {hdr : Nat} {payload : List Byte} (hpm : Within 0x8004 pm) (hk : Keeps pm z s) : Keeps pm z (laneManage s n hdr payload) := by
  unfold laneManage
  dsimp only
  repeat' first
    | with_reducible assumption
    | with_reducible apply keeps_laneUpTo
    | with_reducible apply keeps_send
    | with_reducible apply keeps_setLane
    | with_reducible exact narrow hpm
    | split

theorem keeps_laneNoStart {pm : Nat} {z : State} {s : State} {n : Nat} (hpm : Within 0x8000 pm) (hk : Keeps pm z s) : Keeps pm z (laneNoStart s n) := by
  unfold laneNoStart
  repeat' first
    | with_reducible assumption
    | with_reducible apply keeps_setLane

theorem keeps_laneDelivers {pm : Nat} {z : State} {s : State} {n : Nat} (hpm : Within 0x8 pm) (hk : Keeps pm z s) : PKeeps pm z (laneDelivers s n) := by
  unfold laneDelivers
  repeat' first
    | with_reducible assumption
    | with_reducible apply keeps_bump
    | simp only [PKeeps.iff]
    | split

/-! PairLink -/

theorem keeps_setOwners {pm : Nat} {z : State} {s : State} {v : Nat} (hpm : Within 0x8 pm) (hk : Keeps pm z s) : Keeps pm z (setOwners s v) := by
  unfold setOwners
  repeat' first
    | with_reducible assumption
    | with_reducible apply keeps_wr
    | with_reducible apply Keeps.foldl
    | with_reducible intro _ _

theorem keeps_setRole {pm : Nat} {z : State} {s : State} {r : Nat} (hpm : Within 0x80728 pm) (hk : Keeps pm z s) : Keeps pm z (setRole s r) := by
  unfold setRole
  repeat' first
    | with_reducible assumption
    | with_reducible apply keeps_setOwners
    | with_reducible apply keeps_enter
    | with_reducible apply keeps_setCause
    | with_reducible exact narrow hpm
    | split

theorem keeps_showLanes {pm : Nat} {z : State} {s : State} (hpm : Within 0x8 pm) (hk : Keeps pm z s) : Keeps pm z (showLanes s) := by
  unfold showLanes
  repeat' first
    | with_reducible assumption
    | with_reducible apply keeps_wr

theorem keeps_sendPair {pm : Nat} {z : State} {s : State} {i : Nat} {kind : Nat} {seq : Nat} {payload : List Byte} (hpm : Within 0x8004 pm) (hk : Keeps pm z s) : Keeps pm z (sendPair s i kind seq payload) := by
  unfold sendPair
  repeat' first
    | with_reducible assumption
    | with_reducible apply keeps_laneManage

theorem keeps_sendOrdered {pm : Nat} {z : State} {s : State} {kind : Nat} {payload : List Byte} (hpm : Within 0x48004 pm) (hk : Keeps pm z s) : PKeeps pm z (sendOrdered s kind payload) := by
  unfold sendOrdered
  repeat' first
    | with_reducible assumption
    | with_reducible apply keeps_sendPair
    | with_reducible exact narrow hpm
    | (simp only [Keeps.upd]; apply Kp.put_pair (hb := bit hpm); with_reducible apply Kp.of)
    | simp only [PKeeps.iff]
    | split

theorem keeps_resendOrdered {pm : Nat} {z : State} {s : State} (hpm : Within 0x800c pm) (hk : Keeps pm z s) : Keeps pm z (resendOrdered s) := by
  unfold resendOrdered
  repeat' first
    | with_reducible assumption
    | with_reducible apply keeps_bump
    | with_reducible apply keeps_sendPair
    | with_reducible apply Keeps.foldl
    | with_reducible exact narrow hpm
    | split
    | with_reducible intro _ _
    | with_reducible intro _

theorem keeps_moveOrdered {pm : Nat} {z : State} {s : State} (hpm : Within 0x800c pm) (hk : Keeps pm z s) : Keeps pm z (moveOrdered s) := by
  unfold moveOrdered
  dsimp only
  repeat' first
    | with_reducible assumption
    | with_reducible apply keeps_showLanes
    | with_reducible apply keeps_resendOrdered
    | with_reducible exact narrow hpm
    | split

theorem keeps_laneMoved {pm : Nat} {z : State} {n : Nat} {s : State} (hpm : Within 0x800c pm) (hk : Keeps pm z s) : Keeps pm z (laneMoved n s) := by
  unfold laneMoved
  repeat' first
    | with_reducible assumption
    | with_reducible apply keeps_moveOrdered
    | split

theorem keeps_laneMovedWith {pm : Nat} {z : State} {n : Nat} {r : State × Status} (hpm : Within 0x800c pm)  (hr : PKeeps pm z r) : PKeeps pm z (laneMovedWith n r) := by
  unfold laneMovedWith
  repeat' first
    | with_reducible exact PKeeps.fst hr
    | with_reducible assumption
    | with_reducible apply keeps_laneMoved
    | simp only [PKeeps.iff]

theorem keeps_orphan {pm : Nat} {z : State} {s : State} {reason : Nat} (hpm : Within 0xc872c pm) (hk : Keeps pm z s) : Keeps pm z (orphan s reason) := by
  unfold orphan
  repeat' first
    | with_reducible assumption
    | with_reducible apply keeps_bump
    | with_reducible apply keeps_setRole
    | with_reducible refine PKeeps.fst (keeps_sendOrdered ?_ ?_)
    | with_reducible exact narrow hpm
    | split

theorem keeps_setProduct {pm : Nat} {z : State} {s : State} {p : Product} (hpm : Within 0x10000 pm) (hk : Keeps pm z s) : Keeps pm z (setProduct s p) := by
  unfold setProduct
  repeat' first
    | with_reducible assumption
    | (simp only [Keeps.upd]; apply Kp.put_print (hb := bit hpm); with_reducible apply Kp.of)

theorem keeps_archiveAsk {pm : Nat} {z : State} {s : State} {p : Product} (hpm : Within 0x10000 pm) (hk : Keeps pm z s) : Keeps pm z (archiveAsk s p) := by
  unfold archiveAsk
  repeat' first
    | with_reducible assumption
    | (simp only [Keeps.upd]; apply Kp.put_print (hb := bit hpm); with_reducible apply Kp.of)
    | split

theorem keeps_compareMoved {pm : Nat} {z : State} {s : State} {id : Nat} (hpm : Within 0x40000 pm) (hk : Keeps pm z s) : Keeps pm z (compareMoved s id) := by
  unfold compareMoved
  repeat' first
    | with_reducible assumption
    | (simp only [Keeps.upd]; apply Kp.put_pair (hb := bit hpm); with_reducible apply Kp.of)
    | split

theorem keeps_digestCompare {pm : Nat} {z : State} {s : State} {id : Nat} {kind : Nat} {own : List Byte} {other : List Byte} (hpm : Within 0xd872c pm) (hk : Keeps pm z s) : Keeps pm z (digestCompare s id kind own other) := by
  unfold digestCompare
  dsimp only
  repeat' first
    | with_reducible assumption
    | with_reducible apply keeps_bump
    | with_reducible apply keeps_orphan
    | with_reducible apply keeps_setCause
    | with_reducible apply keeps_archiveAsk
    | with_reducible apply keeps_setProduct
    | with_reducible exact narrow hpm
    | split

theorem keeps_digestNote {pm : Nat} {z : State} {s : State} {side : Nat} {d : List Byte} (hpm : Within 0xd872c pm) (hk : Keeps pm z s) : Keeps pm z (digestNote s side d) := by
  unfold digestNote
  repeat' first
    | with_reducible assumption
    | with_reducible apply keeps_compareMoved
    | with_reducible apply keeps_digestCompare
    | with_reducible exact narrow hpm
    | (simp only [Keeps.upd]; apply Kp.put_pair (hb := bit hpm); with_reducible apply Kp.of)
    | split

theorem keeps_digestSend {pm : Nat} {z : State} {s : State} {d : List Byte} (hpm : Within 0xd872c pm) (hk : Keeps pm z s) : Keeps pm z (digestSend s d) := by
  unfold digestSend
  repeat' first
    | with_reducible assumption
    | with_reducible apply keeps_digestNote
    | with_reducible refine PKeeps.fst (keeps_sendOrdered ?_ ?_)
    | with_reducible exact narrow hpm
    | split

theorem keeps_renderDigest {pm : Nat} {z : State} {s : State} {id : Nat} {atRetire : Bool} (hpm : Within 0xd872c pm) (hk : Keeps pm z s) : Keeps pm z (renderDigest s id atRetire) := by
  unfold renderDigest
  dsimp only
  repeat' first
    | with_reducible assumption
    | with_reducible apply keeps_digestSend
    | with_reducible apply keeps_setProduct
    | with_reducible exact narrow hpm
    | split

theorem keeps_verdictDigest {pm : Nat} {z : State} {s : State} {p : Product} (hpm : Within 0xd872c pm) (hk : Keeps pm z s) : Keeps pm z (verdictDigest s p) := by
  unfold verdictDigest
  repeat' first
    | with_reducible assumption
    | with_reducible apply keeps_digestSend

/-! Mesh -/

theorem keeps_setNi {pm : Nat} {z : State} {s : State} {k : Nat} {x : NetIf} (hpm : Within 0x200000 pm) (hk : Keeps pm z s) : Keeps pm z (setNi s k x) := by
  unfold setNi
  repeat' first
    | with_reducible assumption
    | (simp only [Keeps.upd]; apply Kp.put_noc (hb := bit hpm); with_reducible apply Kp.of)

theorem keeps_setNoc {pm : Nat} {z : State} {s : State} {x : NocState} (hpm : Within 0x200000 pm) (hk : Keeps pm z s) : Keeps pm z (setNoc s x) := by
  unfold setNoc
  repeat' first
    | with_reducible assumption
    | (simp only [Keeps.upd]; apply Kp.put_noc (hb := bit hpm); with_reducible apply Kp.of)

theorem keeps_setRouter {pm : Nat} {z : State} {s : State} {r : Nat} {x : RouterW} (hpm : Within 0x200000 pm) (hk : Keeps pm z s) : Keeps pm z (setRouter s r x) := by
  unfold setRouter
  repeat' first
    | with_reducible assumption
    | with_reducible apply keeps_setNoc

theorem keeps_unitTurned {pm : Nat} {z : State} {s : State} {ni : Nat} {g : Passage} (hpm : Within 0x280708 pm) (hk : Keeps pm z s) : Keeps pm z (unitTurned s ni g) := by
  unfold unitTurned
  repeat' first
    | with_reducible assumption
    | with_reducible apply keeps_setCause
    | with_reducible apply keeps_bump
    | with_reducible apply keeps_setNoc
    | with_reducible exact narrow hpm
    | split

theorem keeps_turned {pm : Nat} {z : State} {s : State} {ni : Nat} {g : Passage} (hpm : Within 0x280708 pm) (hk : Keeps pm z s) : OKeeps pm z (turned s ni g) := by
  unfold turned
  repeat' first
    | with_reducible assumption
    | with_reducible exact OKeeps.none
    | with_reducible apply OKeeps.some
    | with_reducible apply keeps_unitTurned
    | split

theorem keeps_unitUse {pm : Nat} {z : State} {s : State} {code : Nat} {ni : Nat} {a : Nat} {len : Nat} (hpm : Within 0x200000 pm) (hk : Keeps pm z s) : Keeps pm z (unitUse s code ni a len) := by
  unfold unitUse
  repeat' first
    | with_reducible assumption
    | with_reducible apply keeps_setNoc
    | with_reducible apply Keeps.foldl
    | split
    | with_reducible intro _ _

theorem keeps_ringUse {pm : Nat} {z : State} {s : State} {code : Nat} {ni : Nat} {base : Nat} {size : Nat} {off : Nat} {len : Nat} (hpm : Within 0x200000 pm) (hk : Keeps pm z s) : Keeps pm z (ringUse s code ni base size off len) := by
  unfold ringUse
  dsimp only
  repeat' first
    | with_reducible assumption
    | with_reducible apply keeps_unitUse
    | split

/-! Store -/

theorem keeps_setNvm {pm : Nat} {z : State} {s : State} {x : NvmState} (hpm : Within 0x800000 pm) (hk : Keeps pm z s) (hf : s.nvm.firmwareFloor ≤ x.firmwareFloor) (hu : s.nvm.keyFloor ≤ x.keyFloor) : Keeps pm z (setNvm s x) :=
  { hk with firmware := Nat.le_trans hk.firmware hf, updates := Nat.le_trans hk.updates hu, same_nvm := bit_ne (bit hpm) }

theorem keeps_storeFailed {pm : Nat} {z : State} {s : State} (hpm : Within 0x80708 pm) (hk : Keeps pm z s) : Keeps pm z (storeFailed s) := by
  unfold storeFailed
  repeat' first
    | with_reducible assumption
    | with_reducible apply keeps_setCause
    | with_reducible apply keeps_bump
    | with_reducible apply keeps_wr
    | with_reducible exact narrow hpm

theorem keeps_storeCommand {pm : Nat} {z : State} {s : State} {defaults : Bool} (hpm : Within 0x2880728 pm) (hk : Keeps pm z s) : PKeeps pm z (storeCommand s defaults) := by
  unfold storeCommand
  repeat' first
    | with_reducible assumption
    | with_reducible apply keeps_storeFailed
    | with_reducible apply keeps_setNvm
    | with_reducible apply keeps_enter
    | with_reducible exact narrow hpm
    | (simp only [Keeps.upd]; apply Kp.put_security (hb := bit hpm); with_reducible apply Kp.of)
    | simp only [PKeeps.iff]
    | (exact Nat.le_refl _)
    | split

theorem keeps_storeEnd {pm : Nat} {z : State} {s : State} {ok : Bool} (hpm : Within 0x2880708 pm) (hk : Keeps pm z s) : OKeeps pm z (storeEnd s ok) := by
  unfold storeEnd
  repeat' first
    | with_reducible assumption
    | with_reducible exact OKeeps.none
    | with_reducible apply OKeeps.some
    | with_reducible apply keeps_setNvm
    | with_reducible apply keeps_setCause
    | with_reducible apply keeps_wr
    | with_reducible apply keeps_storeFailed
    | with_reducible apply Keeps.foldl
    | with_reducible exact narrow hpm
    | (simp only [Keeps.upd]; apply Kp.put_security (hb := bit hpm); with_reducible apply Kp.of)
    | simp only [PKeeps.iff]
    | (exact Nat.le_refl _)
    | split
    | with_reducible intro _ _

theorem keeps_snapStart {pm : Nat} {z : State} {s : State} (hpm : Within 0x800028 pm) (hk : Keeps pm z s) : Keeps pm z (snapStart s) := by
  unfold snapStart
  repeat' first
    | with_reducible assumption
    | with_reducible apply keeps_setNvm
    | with_reducible apply keeps_enter
    | with_reducible exact narrow hpm
    | simp only [PKeeps.iff]
    | (exact Nat.le_refl _)

theorem keeps_snapCommand {pm : Nat} {z : State} {s : State} (hpm : Within 0x800028 pm) (hk : Keeps pm z s) : PKeeps pm z (snapCommand s) := by
  unfold snapCommand
  repeat' first
    | with_reducible assumption
    | with_reducible apply keeps_snapStart
    | simp only [PKeeps.iff]
    | split

theorem keeps_snapEnd {pm : Nat} {z : State} {s : State} {ok : Bool} (hpm : Within 0x800008 pm) (hk : Keeps pm z s) : OKeeps pm z (snapEnd s ok) := by
  unfold snapEnd
  repeat' first
    | with_reducible assumption
    | with_reducible exact OKeeps.none
    | with_reducible apply OKeeps.some
    | with_reducible apply keeps_setNvm
    | with_reducible apply keeps_wr
    | with_reducible exact narrow hpm
    | simp only [PKeeps.iff]
    | (exact Nat.le_refl _)
    | split

theorem keeps_clearCounters {pm : Nat} {z : State} {s : State} (hpm : Within 0x8 pm) (hk : Keeps pm z s) : Keeps pm z (clearCounters s) := by
  unfold clearCounters
  repeat' first
    | with_reducible assumption
    | with_reducible apply keeps_wr
    | with_reducible apply Keeps.foldl
    | with_reducible intro _ _

/-! Serials -/

theorem keeps_setAl {pm : Nat} {z : State} {s : State} {a : Nat} {sub : Nat} {v : Nat} (hpm : Within 0x8 pm) (hk : Keeps pm z s) : Keeps pm z (setAl s a sub v) := by
  unfold setAl
  repeat' first
    | with_reducible assumption
    | with_reducible apply keeps_wr

theorem keeps_setSerial {pm : Nat} {z : State} {s : State} {x : SerialState} (hpm : Within 0x20000 pm) (hk : Keeps pm z s) : Keeps pm z (setSerial s x) := by
  unfold setSerial
  repeat' first
    | with_reducible assumption
    | (simp only [Keeps.upd]; apply Kp.put_serial (hb := bit hpm); with_reducible apply Kp.of)

theorem keeps_valueComputed {pm : Nat} {z : State} {s : State} {a : Nat} (hpm : Within 0x20000 pm) (hk : Keeps pm z s) : OKeeps pm z (valueComputed s a) := by
  unfold valueComputed
  dsimp only
  repeat' first
    | with_reducible assumption
    | with_reducible exact OKeeps.none
    | with_reducible apply OKeeps.some
    | with_reducible apply keeps_setSerial
    | split

theorem keeps_ledgerAppend {pm : Nat} {z : State} {s : State} {x : LedgerItem} (hpm : Within 0x20000 pm) (hk : Keeps pm z s) : Keeps pm z (ledgerAppend s x) := by
  unfold ledgerAppend
  repeat' first
    | with_reducible assumption
    | with_reducible apply keeps_setSerial

theorem keeps_ledgerVoided {pm : Nat} {z : State} {s : State} {kind : Nat} (hpm : Within 0x80708 pm) (hk : Keeps pm z s) : Keeps pm z (ledgerVoided s kind) := by
  unfold ledgerVoided
  repeat' first
    | with_reducible assumption
    | with_reducible apply keeps_setCause
    | split

theorem keeps_ledgerSettle {pm : Nat} {z : State} {s : State} {slot : Nat} {n : Nat} {kind : Nat} {seq : Nat} (hpm : Within 0x20008 pm) (hk : Keeps pm z s) : Keeps pm z (ledgerSettle s slot n kind seq) := by
  unfold ledgerSettle
  repeat' first
    | with_reducible assumption
    | with_reducible apply keeps_setAl
    | with_reducible apply keeps_setSerial
    | with_reducible exact narrow hpm
    | split

theorem keeps_ledgerWrite {pm : Nat} {z : State} {s : State} (hpm : Within 0x2a0758 pm) (hk : Keeps pm z s) : OKeeps pm z (ledgerWrite s) := by
  unfold ledgerWrite
  dsimp only
  repeat' first
    | with_reducible assumption
    | with_reducible exact OKeeps.none
    | with_reducible apply OKeeps.some
    | with_reducible apply keeps_turned
    | with_reducible apply keeps_setCause
    | with_reducible apply keeps_unitTurned
    | with_reducible apply keeps_wr
    | with_reducible apply keeps_wrBytes
    | with_reducible apply keeps_memWrite
    | with_reducible apply keeps_unitUse
    | with_reducible apply keeps_setSerial
    | with_reducible apply keeps_ledgerVoided
    | with_reducible apply keeps_ledgerSettle
    | with_reducible exact narrow hpm
    | split

theorem keeps_segmentStart {pm : Nat} {z : State} {s : State} {cause : Nat} {seq : Nat} {head : List Byte} (hpm : Within 0x20000 pm) (hk : Keeps pm z s) : Keeps pm z (segmentStart s cause seq head) := by
  unfold segmentStart
  repeat' first
    | with_reducible assumption
    | with_reducible apply keeps_ledgerAppend

theorem keeps_voidUnknown {pm : Nat} {z : State} {s : State} {slot : Nat} {n : Nat} {cause : Nat} (hpm : Within 0x20000 pm) (hk : Keeps pm z s) : Keeps pm z (voidUnknown s slot n cause) := by
  unfold voidUnknown
  repeat' first
    | with_reducible assumption
    | with_reducible apply keeps_ledgerAppend

theorem keeps_journalStart {pm : Nat} {z : State} {s : State} {w : JournalWrite} (hpm : Within 0x20000 pm) (hk : Keeps pm z s) : Keeps pm z (journalStart s w) := by
  unfold journalStart
  repeat' first
    | with_reducible assumption
    | with_reducible apply keeps_setSerial

theorem keeps_journalRequest {pm : Nat} {z : State} {s : State} {f : JournalWrite → JournalWrite} (hpm : Within 0x20000 pm) (hk : Keeps pm z s) : Keeps pm z (journalRequest s f) := by
  unfold journalRequest
  repeat' first
    | with_reducible assumption
    | with_reducible apply keeps_journalStart
    | with_reducible apply keeps_setSerial
    | split

theorem keeps_raiseMark {pm : Nat} {z : State} {s : State} {a : Nat} (hpm : Within 0x68004 pm) (hk : Keeps pm z s) : Keeps pm z (raiseMark s a) := by
  unfold raiseMark
  dsimp only
  repeat' first
    | with_reducible assumption
    | with_reducible apply keeps_setSerial
    | with_reducible apply keeps_journalRequest
    | with_reducible refine PKeeps.fst (keeps_sendOrdered ?_ ?_)
    | with_reducible exact narrow hpm
    | split

theorem keeps_raiseMarks {pm : Nat} {z : State} {s : State} (hpm : Within 0x68004 pm) (hk : Keeps pm z s) : Keeps pm z (raiseMarks s) := by
  unfold raiseMarks
  repeat' first
    | with_reducible assumption
    | with_reducible apply keeps_raiseMark
    | with_reducible apply Keeps.foldl
    | with_reducible intro _ _

theorem keeps_allotmentSpent {pm : Nat} {z : State} {s : State} {a : Nat} (hpm : Within 0x80708 pm) (hk : Keeps pm z s) : Keeps pm z (allotmentSpent s a) := by
  unfold allotmentSpent
  repeat' first
    | with_reducible assumption
    | with_reducible apply keeps_setCause
    | with_reducible apply keeps_setAl
    | with_reducible exact narrow hpm
    | split

theorem keeps_grantWrite {pm : Nat} {z : State} {s : State} {g : List Byte} {agent : Bool} (hpm : Within 0x20008 pm) (hk : Keeps pm z s) : PKeeps pm z (grantWrite s g agent) := by
  unfold grantWrite
  repeat' first
    | with_reducible assumption
    | with_reducible apply keeps_wr
    | with_reducible apply keeps_journalRequest
    | with_reducible exact narrow hpm
    | simp only [PKeeps.iff]
    | split

theorem keeps_grantApply {pm : Nat} {z : State} {s : State} {p : PendingGrant} (hpm : Within 0x6801c pm) (hk : Keeps pm z s) : Keeps pm z (grantApply s p) := by
  unfold grantApply
  repeat' first
    | with_reducible assumption
    | with_reducible apply keeps_wr
    | with_reducible apply keeps_setAl
    | with_reducible apply keeps_wrBytes
    | with_reducible apply keeps_setSerial
    | with_reducible apply keeps_setHolder
    | with_reducible apply keeps_ledgerAppend
    | with_reducible apply keeps_raiseMark
    | with_reducible apply keeps_segmentStart
    | with_reducible apply keeps_releaseAll
    | with_reducible apply Keeps.foldl
    | with_reducible exact narrow hpm
    | split
    | with_reducible intro _ _
    | with_reducible intro _

theorem keeps_grantAnswer {pm : Nat} {z : State} {s : State} {w : JournalWrite} {st : Status} (hpm : Within 0x4 pm) (hk : Keeps pm z s) : Keeps pm z (grantAnswer s w st) := by
  unfold grantAnswer
  repeat' first
    | with_reducible assumption
    | (simp only [Keeps.upd]; apply Kp.put_answer (hb := bit hpm); with_reducible apply Kp.of)
    | split

theorem keeps_journalBankPut {pm : Nat} {z : State} {s : State} {bank : Nat} {b : JournalBank} (hpm : Within 0x20000 pm) (hk : Keeps pm z s) : Keeps pm z (journalBankPut s bank b) := by
  unfold journalBankPut
  repeat' first
    | with_reducible assumption
    | with_reducible apply keeps_setSerial

theorem keeps_journalNext {pm : Nat} {z : State} {s : State} (hpm : Within 0x20000 pm) (hk : Keeps pm z s) : Keeps pm z (journalNext s) := by
  unfold journalNext
  repeat' first
    | with_reducible assumption
    | with_reducible apply keeps_journalStart
    | with_reducible apply keeps_setSerial
    | split

theorem keeps_reserveRenewed {pm : Nat} {z : State} {s : State} (hpm : Within 0x20000 pm) (hk : Keeps pm z s) : Keeps pm z (reserveRenewed s) := by
  unfold reserveRenewed
  repeat' first
    | with_reducible assumption
    | with_reducible apply keeps_setSerial
    | split

theorem keeps_checkpointResume {pm : Nat} {z : State} {s : State} {c : Checkpoint} (hpm : Within 0x6800c pm) (hk : Keeps pm z s) : Keeps pm z (checkpointResume s c) := by
  unfold checkpointResume
  repeat' first
    | with_reducible assumption
    | with_reducible apply keeps_wr
    | with_reducible apply keeps_reserveRenewed
    | with_reducible apply keeps_raiseMarks
    | with_reducible apply keeps_setSerial
    | with_reducible apply keeps_journalRequest
    | with_reducible exact narrow hpm
    | split

theorem keeps_checkpointJournalled {pm : Nat} {z : State} {s : State} (hpm : Within 0x6800c pm) (hk : Keeps pm z s) : Keeps pm z (checkpointJournalled s) := by
  unfold checkpointJournalled
  repeat' first
    | with_reducible assumption
    | with_reducible apply keeps_wr
    | with_reducible apply keeps_setAl
    | with_reducible apply keeps_setSerial
    | with_reducible apply keeps_checkpointResume
    | with_reducible apply Keeps.foldl
    | with_reducible exact narrow hpm
    | split
    | with_reducible intro _ _
    | with_reducible intro _

theorem keeps_journalTaken {pm : Nat} {z : State} {s : State} {w : JournalWrite} {bank : Nat} (hpm : Within 0x6801c pm) (hk : Keeps pm z s) : Keeps pm z (journalTaken s w bank) := by
  unfold journalTaken
  repeat' first
    | with_reducible assumption
    | with_reducible apply keeps_count64
    | with_reducible apply keeps_wr
    | with_reducible apply keeps_journalBankPut
    | with_reducible apply keeps_setSerial
    | with_reducible apply keeps_setAl
    | with_reducible apply keeps_reserveRenewed
    | with_reducible apply keeps_grantApply
    | with_reducible apply Keeps.foldl
    | with_reducible exact narrow hpm
    | split
    | with_reducible intro _ _
    | with_reducible intro _

theorem keeps_journalWritten {pm : Nat} {z : State} {s : State} {w : JournalWrite} {bank : Nat} (hpm : Within 0x6801c pm) (hk : Keeps pm z s) : Keeps pm z (journalWritten s w bank) := by
  unfold journalWritten
  dsimp only
  repeat' first
    | with_reducible assumption
    | with_reducible apply keeps_journalTaken
    | with_reducible apply keeps_checkpointJournalled
    | with_reducible apply keeps_setSerial
    | with_reducible apply keeps_grantAnswer
    | with_reducible apply keeps_journalStart
    | with_reducible exact narrow hpm
    | split

theorem keeps_marksAgain {pm : Nat} {z : State} {s : State} {marks : List (Nat × Nat)} (hpm : Within 0x20000 pm) (hk : Keeps pm z s) : Keeps pm z (marksAgain s marks) := by
  unfold marksAgain
  repeat' first
    | with_reducible assumption
    | with_reducible apply keeps_journalRequest
    | split

theorem keeps_journalLost {pm : Nat} {z : State} {s : State} {w : JournalWrite} (hpm : Within 0x2000c pm) (hk : Keeps pm z s) : Keeps pm z (journalLost s w) := by
  unfold journalLost
  repeat' first
    | with_reducible assumption
    | with_reducible apply keeps_wr
    | with_reducible apply keeps_setSerial
    | with_reducible apply keeps_marksAgain
    | with_reducible apply keeps_journalNext
    | with_reducible apply keeps_grantAnswer
    | with_reducible exact narrow hpm
    | split

theorem keeps_journalOff {pm : Nat} {z : State} {s : State} (hpm : Within 0x20000 pm) (hk : Keeps pm z s) : Keeps pm z (journalOff s) := by
  unfold journalOff
  repeat' first
    | with_reducible assumption
    | with_reducible apply keeps_journalBankPut
    | with_reducible apply keeps_setSerial
    | split

theorem keeps_journalEnd {pm : Nat} {z : State} {s : State} {ok : Bool} (hpm : Within 0xe871c pm) (hk : Keeps pm z s) : OKeeps pm z (journalEnd s ok) := by
  unfold journalEnd
  repeat' first
    | with_reducible assumption
    | with_reducible exact OKeeps.none
    | with_reducible apply OKeeps.some
    | with_reducible apply keeps_journalWritten
    | with_reducible apply keeps_journalBankPut
    | with_reducible apply keeps_setCause
    | with_reducible apply keeps_bump
    | with_reducible apply keeps_setSerial
    | with_reducible apply keeps_journalLost
    | with_reducible exact narrow hpm
    | split

theorem keeps_setEntry {pm : Nat} {z : State} {s : State} {i : Nat} {e : SerialEntry} (hpm : Within 0x20000 pm) (hk : Keeps pm z s) : Keeps pm z (setEntry s i e) := by
  unfold setEntry
  repeat' first
    | with_reducible assumption
    | with_reducible apply keeps_setSerial

theorem keeps_eraseEntry {pm : Nat} {z : State} {s : State} {i : Nat} (hpm : Within 0x20000 pm) (hk : Keeps pm z s) : Keeps pm z (eraseEntry s i) := by
  unfold eraseEntry
  repeat' first
    | with_reducible assumption
    | with_reducible apply keeps_setSerial

theorem keeps_entryCommit {pm : Nat} {z : State} {s : State} {i : Nat} {e : SerialEntry} {partner : Bool} (hpm : Within 0xa0708 pm) (hk : Keeps pm z s) : Keeps pm z (entryCommit s i e partner) := by
  unfold entryCommit
  repeat' first
    | with_reducible assumption
    | with_reducible apply keeps_setCause
    | with_reducible apply keeps_setEntry
    | with_reducible exact narrow hpm

theorem keeps_afterAllocate {pm : Nat} {z : State} {s : State} {a : Nat} (hpm : Within 0xe870c pm) (hk : Keeps pm z s) : Keeps pm z (afterAllocate s a) := by
  unfold afterAllocate
  repeat' first
    | with_reducible assumption
    | with_reducible apply keeps_setCause
    | with_reducible apply keeps_raiseMark
    | with_reducible apply keeps_allotmentSpent
    | with_reducible exact narrow hpm
    | split

theorem keeps_valueTaken {pm : Nat} {z : State} {s : State} {a : Nat} (hpm : Within 0x20000 pm) (hk : Keeps pm z s) : Keeps pm z (valueTaken s a) := by
  unfold valueTaken
  repeat' first
    | with_reducible assumption
    | with_reducible apply keeps_setSerial

theorem keeps_noSerial {pm : Nat} {z : State} {s : State} {p : Product} (hpm : Within 0x90708 pm) (hk : Keeps pm z s) : Keeps pm z (noSerial s p) := by
  unfold noSerial
  repeat' first
    | with_reducible assumption
    | with_reducible apply keeps_setCause
    | with_reducible apply keeps_bump
    | with_reducible apply keeps_setProduct
    | with_reducible exact narrow hpm

theorem keeps_serialAllocate {pm : Nat} {z : State} {s : State} {id : Nat} {a : Nat} (hpm : Within 0xf870c pm) (hk : Keeps pm z s) : Keeps pm z (serialAllocate s id a) := by
  unfold serialAllocate
  repeat' first
    | with_reducible assumption
    | with_reducible apply keeps_noSerial
    | with_reducible apply keeps_setCause
    | with_reducible apply keeps_setEntry
    | with_reducible apply keeps_setAl
    | with_reducible apply keeps_valueTaken
    | with_reducible apply keeps_setProduct
    | with_reducible apply keeps_setSerial
    | with_reducible apply keeps_entryCommit
    | with_reducible apply keeps_afterAllocate
    | with_reducible refine PKeeps.fst (keeps_sendOrdered ?_ ?_)
    | with_reducible exact narrow hpm
    | split

theorem keeps_commitAll {pm : Nat} {z : State} {s : State} (hpm : Within 0x20000 pm) (hk : Keeps pm z s) : Keeps pm z (commitAll s) := by
  unfold commitAll
  repeat' first
    | with_reducible assumption
    | with_reducible apply keeps_setEntry
    | with_reducible apply keeps_setSerial
    | with_reducible apply keeps_journalRequest
    | with_reducible apply Keeps.foldl
    | split
    | with_reducible intro _ _
    | with_reducible intro _

theorem keeps_serialAnswered {pm : Nat} {z : State} {s : State} {seq : Nat} {acked : Bool} (hpm : Within 0xb0708 pm) (hk : Keeps pm z s) : Keeps pm z (serialAnswered s seq acked) := by
  unfold serialAnswered
  dsimp only
  repeat' first
    | with_reducible assumption
    | with_reducible apply keeps_setSerial
    | with_reducible apply keeps_entryCommit
    | with_reducible apply keeps_bump
    | with_reducible apply keeps_setEntry
    | with_reducible apply keeps_setProduct
    | with_reducible apply keeps_journalRequest
    | with_reducible exact narrow hpm
    | split

theorem keeps_commitReceived {pm : Nat} {z : State} {s : State} {b : List Byte} (hpm : Within 0xb0708 pm) (hk : Keeps pm z s) : PKeeps pm z (commitReceived s b) := by
  unfold commitReceived
  repeat' first
    | with_reducible assumption
    | with_reducible apply keeps_valueTaken
    | with_reducible apply keeps_setAl
    | with_reducible apply keeps_setEntry
    | with_reducible apply keeps_setProduct
    | with_reducible apply keeps_allotmentSpent
    | with_reducible exact narrow hpm
    | simp only [PKeeps.iff]
    | split

theorem keeps_reserveReceived {pm : Nat} {z : State} {s : State} {b : List Byte} (hpm : Within 0x20000 pm) (hk : Keeps pm z s) : Keeps pm z (reserveReceived s b) := by
  unfold reserveReceived
  repeat' first
    | with_reducible assumption
    | with_reducible apply keeps_journalRequest

theorem keeps_checkpointStateReceived {pm : Nat} {z : State} {s : State} {b : List Byte} (hpm : Within 0x20018 pm) (hk : Keeps pm z s) : Keeps pm z (checkpointStateReceived s b) := by
  unfold checkpointStateReceived
  repeat' first
    | with_reducible assumption
    | with_reducible apply keeps_wr
    | with_reducible apply keeps_setSerial
    | with_reducible apply keeps_wrBytes
    | with_reducible apply keeps_setAl
    | with_reducible apply keeps_journalRequest
    | with_reducible apply Keeps.foldl
    | with_reducible exact narrow hpm
    | split
    | with_reducible intro _ _
    | with_reducible intro _

theorem keeps_allotmentRetire {pm : Nat} {z : State} {s : State} {a : Nat} {agent : Bool} (hpm : Within 0x20008 pm) (hk : Keeps pm z s) : PKeeps pm z (allotmentRetire s a agent) := by
  unfold allotmentRetire
  repeat' first
    | with_reducible assumption
    | with_reducible apply keeps_journalRequest
    | with_reducible apply keeps_setAl
    | with_reducible exact narrow hpm
    | simp only [PKeeps.iff]
    | split

theorem keeps_ledgerKind {pm : Nat} {z : State} {s : State} {p : Product} {e : SerialEntry} (hpm : Within 0x100 pm) (hk : Keeps pm z s) : PKeeps pm z (ledgerKind s p e) := by
  unfold ledgerKind
  repeat' first
    | with_reducible assumption
    | with_reducible refine PKeeps.fst (keeps_freeNat ?_ ?_)
    | simp only [PKeeps.iff]
    | split

theorem keeps_serialSettle {pm : Nat} {z : State} {s : State} {p : Product} {kind : Nat} {cause : Nat} (hpm : Within 0x20000 pm) (hk : Keeps pm z s) : Keeps pm z (serialSettle s p kind cause) := by
  unfold serialSettle
  repeat' first
    | with_reducible assumption
    | with_reducible apply keeps_eraseEntry
    | with_reducible apply keeps_ledgerAppend
    | split

theorem keeps_serialRetire {pm : Nat} {z : State} {s : State} {p : Product} (hpm : Within 0x20100 pm) (hk : Keeps pm z s) : Keeps pm z (serialRetire s p) := by
  unfold serialRetire
  repeat' first
    | with_reducible assumption
    | with_reducible apply keeps_serialSettle
    | with_reducible refine PKeeps.fst (keeps_ledgerKind ?_ ?_)
    | with_reducible exact narrow hpm
    | split

theorem keeps_signTimed {pm : Nat} {z : State} {s : State} (hpm : Within 0x108 pm) (hk : Keeps pm z s) : Keeps pm z (signTimed s) := by
  unfold signTimed
  dsimp only
  repeat' first
    | with_reducible assumption
    | with_reducible apply keeps_wr
    | with_reducible refine PKeeps.fst (keeps_freeNat ?_ ?_)
    | with_reducible exact narrow hpm
    | split

theorem keeps_checkpointStart {pm : Nat} {z : State} {s : State} (hpm : Within 0x2020108 pm) (hk : Keeps pm z s) : OKeeps pm z (checkpointStart s) := by
  unfold checkpointStart
  repeat' first
    | with_reducible assumption
    | with_reducible exact OKeeps.none
    | with_reducible apply OKeeps.some
    | with_reducible apply keeps_signTimed
    | with_reducible apply keeps_setSerial
    | with_reducible apply keeps_journalRequest
    | with_reducible apply keeps_signAgain
    | with_reducible refine PKeeps.fst (keeps_signRandom ?_ ?_)
    | with_reducible exact narrow hpm
    | split

theorem keeps_checkpointPublish {pm : Nat} {z : State} {s : State} (hpm : Within 0x2e874c pm) (hk : Keeps pm z s) : OKeeps pm z (checkpointPublish s) := by
  unfold checkpointPublish
  dsimp only
  repeat' first
    | with_reducible assumption
    | with_reducible exact OKeeps.none
    | with_reducible apply OKeeps.some
    | with_reducible apply keeps_turned
    | with_reducible apply keeps_memWrite
    | with_reducible apply keeps_unitUse
    | with_reducible apply keeps_setSerial
    | with_reducible apply keeps_wr
    | with_reducible apply keeps_setCause
    | with_reducible refine PKeeps.fst (keeps_sendOrdered ?_ ?_)
    | with_reducible exact narrow hpm
    | split

theorem keeps_ringSet {pm : Nat} {z : State} {s : State} {idx : Nat} {sub : Nat} {v : Nat} (hpm : Within 0x8 pm) (hk : Keeps pm z s) : Keeps pm z (ringSet s idx sub v) := by
  unfold ringSet
  repeat' first
    | with_reducible assumption
    | with_reducible apply keeps_wr

theorem keeps_bankLoad {pm : Nat} {z : State} {s : State} {bank : Nat} {i : JournalImage} (hpm : Within 0x20018 pm) (hk : Keeps pm z s) : Keeps pm z (bankLoad s bank i) := by
  unfold bankLoad
  dsimp only
  repeat' first
    | with_reducible assumption
    | with_reducible apply keeps_wr
    | with_reducible apply keeps_setSerial
    | with_reducible apply keeps_wrBytes
    | with_reducible apply keeps_setAl
    | with_reducible apply keeps_setHolder
    | with_reducible apply Keeps.foldl
    | with_reducible exact narrow hpm
    | split
    | with_reducible intro _ _
    | with_reducible intro _

theorem keeps_voidRange {pm : Nat} {z : State} {s : State} {slot : Nat} {cause : Nat} {skip : Nat → Bool} {k : Nat} {n : Nat} (hpm : Within 0x20000 pm) (hk : Keeps pm z s) : Keeps pm z (voidRange s slot cause skip k n) := by
  induction k generalizing s n with
  | zero =>
    unfold voidRange
    repeat' first
      | with_reducible assumption
  | succ k ih =>
    unfold voidRange
    repeat' first
      | with_reducible apply ih
      | with_reducible assumption
      | with_reducible apply keeps_voidUnknown
      | split

theorem keeps_serialRecover {pm : Nat} {z : State} {s : State} (hpm : Within 0xe871c pm) (hk : Keeps pm z s) : OKeeps pm z (serialRecover s) := by
  unfold serialRecover
  repeat' first
    | with_reducible assumption
    | with_reducible exact OKeeps.none
    | with_reducible apply OKeeps.some
    | with_reducible apply keeps_setSerial
    | with_reducible apply keeps_wr
    | with_reducible apply keeps_segmentStart
    | with_reducible apply keeps_bankLoad
    | with_reducible apply keeps_allotmentSpent
    | with_reducible apply keeps_setAl
    | with_reducible apply keeps_voidRange
    | with_reducible apply keeps_raiseMarks
    | with_reducible apply keeps_journalRequest
    | with_reducible apply Keeps.foldl
    | with_reducible exact narrow hpm
    | split
    | with_reducible intro _ _
    | with_reducible intro _

theorem keeps_serialShutdown {pm : Nat} {z : State} {s : State} (hpm : Within 0x20108 pm) (hk : Keeps pm z s) : Keeps pm z (serialShutdown s) := by
  unfold serialShutdown
  dsimp only
  repeat' first
    | with_reducible assumption
    | with_reducible apply keeps_setSerial
    | with_reducible apply keeps_serialSettle
    | with_reducible apply keeps_setAl
    | with_reducible apply keeps_journalRequest
    | with_reducible refine PKeeps.fst (keeps_ledgerKind ?_ ?_)
    | with_reducible apply Keeps.foldl
    | with_reducible exact narrow hpm
    | split
    | with_reducible intro _ _
    | with_reducible intro _

theorem keeps_serialTakeover {pm : Nat} {z : State} {s : State} (hpm : Within 0x30000 pm) (hk : Keeps pm z s) : Keeps pm z (serialTakeover s) := by
  unfold serialTakeover
  repeat' first
    | with_reducible assumption
    | with_reducible apply keeps_segmentStart
    | with_reducible apply keeps_voidRange
    | with_reducible apply keeps_setProduct
    | with_reducible apply keeps_setSerial
    | with_reducible apply Keeps.foldl
    | with_reducible exact narrow hpm
    | split
    | with_reducible intro _ _
    | with_reducible intro _

theorem keeps_capoHoldWrite {pm : Nat} {z : State} {s : State} {v : Nat} (hpm : Within 0x8 pm) (hk : Keeps pm z s) : PKeeps pm z (capoHoldWrite s v) := by
  unfold capoHoldWrite
  repeat' first
    | with_reducible assumption
    | with_reducible apply keeps_wr
    | simp only [PKeeps.iff]
    | split

theorem keeps_setResync {pm : Nat} {z : State} {s : State} {v : Nat} (hpm : Within 0x8 pm) (hk : Keeps pm z s) : Keeps pm z (setResync s v) := by
  unfold setResync
  repeat' first
    | with_reducible assumption
    | with_reducible apply keeps_wr

theorem keeps_sourceFail {pm : Nat} {z : State} {s : State} (hpm : Within 0x8 pm) (hk : Keeps pm z s) : Keeps pm z (sourceFail s) := by
  unfold sourceFail
  repeat' first
    | with_reducible assumption
    | with_reducible apply keeps_setResync
    | with_reducible refine PKeeps.fst (keeps_capoHoldWrite ?_ ?_)
    | split

theorem keeps_standDown {pm : Nat} {z : State} {s : State} (hpm : Within 0x100e0728 pm) (hk : Keeps pm z s) : Keeps pm z (standDown s) := by
  unfold standDown
  repeat' first
    | with_reducible assumption
    | with_reducible apply keeps_sourceFail
    | with_reducible apply keeps_setRole
    | with_reducible apply keeps_setSerial
    | with_reducible exact narrow hpm
    | (simp only [Keeps.upd]; apply Kp.put_pair (hb := bit hpm); apply Kp.put_faultL (hb := bit hpm); with_reducible apply Kp.of)

/-! Queues -/

theorem keeps_setQueue {pm : Nat} {z : State} {s : State} {q : Nat} {x : Queue} (hpm : Within 0x4000 pm) (hk : Keeps pm z s) : Keeps pm z (setQueue s q x) := by
  unfold setQueue
  repeat' first
    | with_reducible assumption
    | (simp only [Keeps.upd]; apply Kp.put_queues (hb := bit hpm); with_reducible apply Kp.of)

theorem keeps_setPackets {pm : Nat} {z : State} {s : State} {q : Nat} {n : Nat} (hpm : Within 0x80708 pm) (hk : Keeps pm z s) : Keeps pm z (setPackets s q n) := by
  unfold setPackets
  repeat' first
    | with_reducible assumption
    | with_reducible apply keeps_wr
    | with_reducible apply keeps_setCause
    | with_reducible exact narrow hpm
    | split

theorem keeps_qWriteItem {pm : Nat} {z : State} {s : State} {q : Nat} {v : Nat} {last : Bool} (hpm : Within 0x84708 pm) (hk : Keeps pm z s) : Keeps pm z (qWriteItem s q v last) := by
  unfold qWriteItem
  dsimp only
  repeat' first
    | with_reducible assumption
    | with_reducible apply keeps_setQueue
    | with_reducible apply keeps_setPackets
    | with_reducible exact narrow hpm
    | split

theorem keeps_qApplyRegion {pm : Nat} {z : State} {s : State} {q : Nat} (hpm : Within 0x4008 pm) (hk : Keeps pm z s) : Keeps pm z (qApplyRegion s q) := by
  unfold qApplyRegion
  repeat' first
    | with_reducible assumption
    | with_reducible apply keeps_wr
    | with_reducible apply keeps_setQueue
    | with_reducible exact narrow hpm

theorem keeps_regionApplied {pm : Nat} {z : State} {s : State} {q : Nat} (hpm : Within 0x84708 pm) (hk : Keeps pm z s) : Keeps pm z (regionApplied s q) := by
  unfold regionApplied
  repeat' first
    | with_reducible assumption
    | with_reducible apply keeps_setCause
    | with_reducible apply keeps_qApplyRegion
    | with_reducible exact narrow hpm

theorem keeps_flushApply {pm : Nat} {z : State} {s : State} {q : Nat} (hpm : Within 0x84708 pm) (hk : Keeps pm z s) : Keeps pm z (flushApply s q) := by
  unfold flushApply
  repeat' first
    | with_reducible assumption
    | with_reducible apply keeps_wr
    | with_reducible apply keeps_regionApplied
    | with_reducible exact narrow hpm
    | split

theorem keeps_queueNow {pm : Nat} {z : State} {s : State} {q : Nat} (hpm : Within 0x84708 pm) (hk : Keeps pm z s) : Keeps pm z (queueNow s q) := by
  unfold queueNow
  dsimp only
  repeat' first
    | with_reducible assumption
    | with_reducible apply keeps_flushApply
    | with_reducible apply keeps_wr
    | with_reducible apply keeps_setQueue
    | with_reducible apply keeps_regionApplied
    | with_reducible exact narrow hpm
    | split

theorem keeps_flushComplete {pm : Nat} {z : State} {s : State} {q : Nat} (hpm : Within 0x84708 pm) (hk : Keeps pm z s) : OKeeps pm z (flushComplete s q) := by
  unfold flushComplete
  repeat' first
    | with_reducible assumption
    | with_reducible exact OKeeps.none
    | with_reducible apply OKeeps.some
    | with_reducible apply keeps_queueNow
    | split

theorem keeps_stagedApply {pm : Nat} {z : State} {s : State} {q : Nat} (hpm : Within 0x84708 pm) (hk : Keeps pm z s) : OKeeps pm z (stagedApply s q) := by
  unfold stagedApply
  repeat' first
    | with_reducible assumption
    | with_reducible exact OKeeps.none
    | with_reducible apply OKeeps.some
    | with_reducible apply keeps_queueNow
    | split

theorem keeps_qOffer {pm : Nat} {z : State} {s : State} {q : Nat} {v : Nat} {last : Bool} (hpm : Within 0x84708 pm) (hk : Keeps pm z s) : OKeeps pm z (qOffer s q v last) := by
  unfold qOffer
  dsimp only
  repeat' first
    | with_reducible assumption
    | with_reducible exact OKeeps.none
    | with_reducible apply OKeeps.some
    | with_reducible apply keeps_queueNow
    | with_reducible apply keeps_setCause
    | with_reducible apply keeps_bump
    | with_reducible apply keeps_qWriteItem
    | with_reducible exact narrow hpm
    | split

theorem keeps_qTake {pm : Nat} {z : State} {s : State} {q : Nat} (hpm : Within 0x4008 pm) (hk : Keeps pm z s) : Keeps pm z (qTake s q) := by
  unfold qTake
  dsimp only
  repeat' first
    | with_reducible assumption
    | with_reducible apply keeps_setQueue
    | with_reducible apply keeps_wr
    | with_reducible exact narrow hpm
    | split

theorem keeps_spillStale {pm : Nat} {z : State} {s : State} {q : Nat} (hpm : Within 0x200000 pm) (hk : Keeps pm z s) : Keeps pm z (spillStale s q) := by
  unfold spillStale
  repeat' first
    | with_reducible assumption
    | (simp only [Keeps.upd]; apply Kp.put_noc (hb := bit hpm); with_reducible apply Kp.of)

theorem keeps_qClear {pm : Nat} {z : State} {s0 : State} {q : Nat} (hpm : Within 0x204008 pm) (hk : Keeps pm z s0) : Keeps pm z (qClear s0 q) := by
  unfold qClear
  repeat' first
    | with_reducible assumption
    | with_reducible apply keeps_spillStale
    | with_reducible apply keeps_wr
    | with_reducible apply keeps_setQueue
    | with_reducible exact narrow hpm

theorem keeps_queueFlush {pm : Nat} {z : State} {s : State} {q : Nat} {v : Nat} (hpm : Within 0x284708 pm) (hk : Keeps pm z s) : PKeeps pm z (queueFlush s q v) := by
  unfold queueFlush
  repeat' first
    | with_reducible assumption
    | with_reducible apply keeps_qClear
    | with_reducible apply keeps_queueNow
    | with_reducible apply keeps_wr
    | with_reducible apply keeps_setQueue
    | with_reducible exact narrow hpm
    | simp only [PKeeps.iff]
    | split

theorem keeps_spillRegionWrite {pm : Nat} {z : State} {s0 : State} {q : Nat} {sub : Nat} {v : Nat} (hpm : Within 0x84708 pm) (hk : Keeps pm z s0) : PKeeps pm z (spillRegionWrite s0 q sub v) := by
  unfold spillRegionWrite
  repeat' first
    | with_reducible assumption
    | with_reducible apply keeps_queueNow
    | with_reducible apply keeps_wr
    | with_reducible apply keeps_qApplyRegion
    | with_reducible exact narrow hpm
    | simp only [PKeeps.iff]
    | split

theorem keeps_spillIssue {pm : Nat} {z : State} {s : State} {a : SpillAccess} (hpm : Within 0x200008 pm) (hk : Keeps pm z s) : Keeps pm z (spillIssue s a) := by
  unfold spillIssue
  repeat' first
    | with_reducible assumption
    | with_reducible apply keeps_wr
    | with_reducible exact narrow hpm
    | (simp only [Keeps.upd]; apply Kp.put_noc (hb := bit hpm); with_reducible apply Kp.of)

theorem keeps_spillWriteTo {pm : Nat} {z : State} {s : State} {q : Nat} (hpm : Within 0x204008 pm) (hk : Keeps pm z s) : Keeps pm z (spillWriteTo s q) := by
  unfold spillWriteTo
  repeat' first
    | with_reducible assumption
    | with_reducible apply keeps_spillIssue
    | with_reducible apply keeps_setQueue
    | with_reducible exact narrow hpm

theorem keeps_spillWrite {pm : Nat} {z : State} {s : State} {q : Nat} (hpm : Within 0x204008 pm) (hk : Keeps pm z s) : OKeeps pm z (spillWrite s q) := by
  unfold spillWrite
  repeat' first
    | with_reducible assumption
    | with_reducible exact OKeeps.none
    | with_reducible apply OKeeps.some
    | with_reducible apply keeps_spillWriteTo
    | split

theorem keeps_spillReadTo {pm : Nat} {z : State} {s : State} {q : Nat} (hpm : Within 0x204008 pm) (hk : Keeps pm z s) : Keeps pm z (spillReadTo s q) := by
  unfold spillReadTo
  repeat' first
    | with_reducible assumption
    | with_reducible apply keeps_spillIssue
    | with_reducible apply keeps_setQueue
    | with_reducible exact narrow hpm

theorem keeps_spillRead {pm : Nat} {z : State} {s : State} {q : Nat} (hpm : Within 0x204008 pm) (hk : Keeps pm z s) : OKeeps pm z (spillRead s q) := by
  unfold spillRead
  repeat' first
    | with_reducible assumption
    | with_reducible exact OKeeps.none
    | with_reducible apply OKeeps.some
    | with_reducible apply keeps_spillReadTo
    | split

theorem keeps_spillStored {pm : Nat} {z : State} {s : State} {q : Nat} (hpm : Within 0x4000 pm) (hk : Keeps pm z s) : Keeps pm z (spillStored s q) := by
  unfold spillStored
  repeat' first
    | with_reducible assumption
    | with_reducible apply keeps_setQueue

theorem keeps_spillFetched {pm : Nat} {z : State} {s : State} {q : Nat} {data : Nat} (hpm : Within 0x4000 pm) (hk : Keeps pm z s) : Keeps pm z (spillFetched s q data) := by
  unfold spillFetched
  repeat' first
    | with_reducible assumption
    | with_reducible apply keeps_setQueue

theorem keeps_spillDone {pm : Nat} {z : State} {s : State} {a : SpillAccess} (hpm : Within 0x4048 pm) (hk : Keeps pm z s) : Keeps pm z (spillDone s a) := by
  unfold spillDone
  repeat' first
    | with_reducible assumption
    | with_reducible apply keeps_wr
    | with_reducible apply keeps_memWrite
    | with_reducible apply keeps_spillStored
    | with_reducible apply keeps_spillFetched
    | with_reducible exact narrow hpm
    | split

theorem keeps_portItem {pm : Nat} {z : State} {s : State} {q : Nat} {core : Nat} {v : Nat} {last : Bool} (hpm : Within 0x84708 pm) (hk : Keeps pm z s) : PKeeps pm z (portItem s q core v last) := by
  unfold portItem
  repeat' first
    | with_reducible assumption
    | with_reducible apply keeps_qOffer
    | with_reducible apply keeps_bump
    | (with_reducible refine OKeeps.of ?_ (by with_reducible assumption))
    | with_reducible exact narrow hpm
    | simp only [PKeeps.iff]
    | split

theorem keeps_portPop {pm : Nat} {z : State} {s : State} {q : Nat} {core : Nat} (hpm : Within 0x4008 pm) (hk : Keeps pm z s) : PKeeps pm z (portPop s q core) := by
  unfold portPop
  repeat' first
    | with_reducible assumption
    | with_reducible apply keeps_qTake
    | with_reducible apply keeps_setQueue
    | with_reducible exact narrow hpm
    | simp only [PKeeps.iff]
    | split

theorem keeps_portLoad {pm : Nat} {z : State} {s : State} {q : Nat} {core : Nat} {off : Nat} {size : Nat} (hpm : Within 0x4008 pm) (hk : Keeps pm z s) : PKeeps pm z (portLoad s q core off size) := by
  unfold portLoad
  repeat' first
    | with_reducible assumption
    | with_reducible apply keeps_portPop
    | simp only [PKeeps.iff]
    | split

theorem keeps_portStore {pm : Nat} {z : State} {s : State} {q : Nat} {core : Nat} {off : Nat} {size : Nat} {v : Nat} (hpm : Within 0x84708 pm) (hk : Keeps pm z s) : PKeeps pm z (portStore s q core off size v) := by
  unfold portStore
  repeat' first
    | with_reducible assumption
    | with_reducible apply keeps_portItem
    | simp only [PKeeps.iff]
    | split

theorem keeps_dmaUse {pm : Nat} {z : State} {s : State} {q : Nat} {off : Nat} {len : Nat} (hpm : Within 0x200000 pm) (hk : Keeps pm z s) : Keeps pm z (dmaUse s q off len) := by
  unfold dmaUse
  repeat' first
    | with_reducible assumption
    | with_reducible apply keeps_ringUse

theorem keeps_dmaItems {pm : Nat} {z : State} {q : Nat} {w : Nat} {b : List Byte} {n : Nat} {k : Nat} {s : State} (hpm : Within 0x84708 pm) (hk : Keeps pm z s) : PKeeps pm z (dmaItems q w b n k s) := by
  induction n generalizing b k s with
  | zero => exact hk
  | succ n ih =>
    rw [dmaItems]
    cases h : qOffer s q (leAt b 0 w) (n == 0) with
    | none => exact hk
    | some s1 => exact ih (OKeeps.of (keeps_qOffer (narrow hpm) hk) h)

theorem keeps_dmaInput {pm : Nat} {z : State} {s : State} {q : Nat} (hpm : Within 0x284708 pm) (hk : Keeps pm z s) : OKeeps pm z (dmaInput s q) := by
  unfold dmaInput
  dsimp only
  repeat' first
    | with_reducible assumption
    | with_reducible exact OKeeps.none
    | with_reducible apply OKeeps.some
    | with_reducible apply keeps_turned
    | with_reducible apply keeps_setCause
    | with_reducible apply keeps_bump
    | with_reducible apply keeps_setQueue
    | with_reducible apply keeps_dmaUse
    | with_reducible apply keeps_wr
    | with_reducible refine PKeeps.fst (keeps_dmaItems ?_ ?_)
    | with_reducible exact narrow hpm
    | split

theorem keeps_dmaWords {pm : Nat} {z : State} {q : Nat} {e : Nat} {room : Nat} {n : Nat} {s : State} (hpm : Within 0x204048 pm) (hk : Keeps pm z s) : PKeeps pm z (dmaWords q e room n s) := by
  induction n generalizing s with
  | zero =>
    unfold dmaWords
    repeat' first
      | with_reducible assumption
      | simp only [PKeeps.iff]
  | succ n ih =>
    unfold dmaWords
    repeat' first
      | with_reducible apply ih
      | with_reducible assumption
      | with_reducible apply keeps_setQueue
      | with_reducible apply keeps_qTake
      | with_reducible apply keeps_ringWrite
      | with_reducible apply keeps_dmaUse
      | with_reducible exact narrow hpm
      | simp only [PKeeps.iff]
      | split

theorem keeps_dmaOutput {pm : Nat} {z : State} {s : State} {q : Nat} (hpm : Within 0x284748 pm) (hk : Keeps pm z s) : OKeeps pm z (dmaOutput s q) := by
  unfold dmaOutput
  dsimp only
  repeat' first
    | with_reducible assumption
    | with_reducible exact OKeeps.none
    | with_reducible apply OKeeps.some
    | with_reducible apply keeps_turned
    | with_reducible apply keeps_dmaWords
    | with_reducible apply keeps_ringWrite
    | with_reducible apply keeps_dmaUse
    | with_reducible apply keeps_wr
    | with_reducible apply keeps_setQueue
    | (with_reducible refine PKeeps.of ?_ (by with_reducible assumption))
    | with_reducible exact narrow hpm
    | split

theorem keeps_dmaHostWrite {pm : Nat} {z : State} {s : State} {q : Nat} {v : Nat} (hpm : Within 0x4008 pm) (hk : Keeps pm z s) : PKeeps pm z (dmaHostWrite s q v) := by
  unfold dmaHostWrite
  repeat' first
    | with_reducible assumption
    | with_reducible apply keeps_setQueue
    | with_reducible apply keeps_wr
    | with_reducible exact narrow hpm
    | simp only [PKeeps.iff]
    | split

theorem keeps_queueStart {pm : Nat} {z : State} {s : State} {q : Nat} (hpm : Within 0x4028 pm) (hk : Keeps pm z s) : Keeps pm z (queueStart s q) := by
  unfold queueStart
  repeat' first
    | with_reducible assumption
    | with_reducible apply keeps_qApplyRegion
    | with_reducible apply keeps_wr
    | with_reducible apply keeps_setQueue
    | with_reducible apply keeps_enter
    | with_reducible exact narrow hpm

theorem keeps_queueEnable {pm : Nat} {z : State} {s : State} {q : Nat} (hpm : Within 0x84728 pm) (hk : Keeps pm z s) : PKeeps pm z (queueEnable s q) := by
  unfold queueEnable
  repeat' first
    | with_reducible assumption
    | with_reducible apply keeps_wr
    | with_reducible apply keeps_queueStart
    | with_reducible apply keeps_setQueue
    | with_reducible refine PKeeps.fst (keeps_takeClaims ?_ ?_)
    | with_reducible exact narrow hpm
    | simp only [PKeeps.iff]
    | split

theorem keeps_queueStop {pm : Nat} {z : State} {s : State} {q : Nat} (hpm : Within 0x206028 pm) (hk : Keeps pm z s) : Keeps pm z (queueStop s q) := by
  unfold queueStop
  repeat' first
    | with_reducible assumption
    | with_reducible apply keeps_qClear
    | with_reducible apply keeps_wr
    | with_reducible apply keeps_setQueue
    | with_reducible apply keeps_enter
    | with_reducible exact narrow hpm
    | (simp only [Keeps.upd]; apply Kp.put_arr (hb := bit hpm); with_reducible apply Kp.of)

theorem keeps_queueDisable {pm : Nat} {z : State} {s : State} {q : Nat} (hpm : Within 0x206028 pm) (hk : Keeps pm z s) : PKeeps pm z (queueDisable s q) := by
  unfold queueDisable
  repeat' first
    | with_reducible assumption
    | with_reducible apply keeps_wr
    | with_reducible apply keeps_setQueue
    | with_reducible apply keeps_queueStop
    | with_reducible exact narrow hpm
    | simp only [PKeeps.iff]
    | split

theorem keeps_queueStarted {pm : Nat} {z : State} {s : State} {q : Nat} (hpm : Within 0x286728 pm) (hk : Keeps pm z s) : OKeeps pm z (queueStarted s q) := by
  unfold queueStarted
  repeat' first
    | with_reducible assumption
    | with_reducible exact OKeeps.none
    | with_reducible apply OKeeps.some
    | with_reducible apply keeps_setCause
    | with_reducible apply keeps_enter
    | with_reducible apply keeps_queueStop
    | with_reducible exact narrow hpm
    | split

theorem keeps_queueStopped {pm : Nat} {z : State} {s : State} {q : Nat} (hpm : Within 0x84728 pm) (hk : Keeps pm z s) : OKeeps pm z (queueStopped s q) := by
  unfold queueStopped
  repeat' first
    | with_reducible assumption
    | with_reducible exact OKeeps.none
    | with_reducible apply OKeeps.some
    | with_reducible apply keeps_setCause
    | with_reducible apply keeps_enter
    | with_reducible apply keeps_releaseAll
    | with_reducible apply keeps_wr
    | with_reducible apply keeps_queueStart
    | with_reducible exact narrow hpm
    | split

theorem keeps_queuesFenced {pm : Nat} {z : State} {s : State} {pd : Nat} (hpm : Within 0x286728 pm) (hk : Keeps pm z s) : Keeps pm z (queuesFenced s pd) := by
  unfold queuesFenced
  repeat' first
    | with_reducible assumption
    | with_reducible apply keeps_setCause
    | with_reducible refine PKeeps.fst (keeps_queueDisable ?_ ?_)
    | with_reducible apply Keeps.foldl
    | with_reducible exact narrow hpm
    | split
    | with_reducible intro _ _
    | with_reducible intro _

theorem keeps_queuesLost {pm : Nat} {z : State} {s : State} (hpm : Within 0x4008 pm) (hk : Keeps pm z s) : Keeps pm z (queuesLost s) := by
  unfold queuesLost
  repeat' first
    | with_reducible assumption
    | with_reducible apply keeps_wr
    | with_reducible apply keeps_releaseAll
    | with_reducible apply Keeps.foldl
    | with_reducible exact narrow hpm
    | (simp only [Keeps.upd]; apply Kp.put_queues (hb := bit hpm); with_reducible apply Kp.of)
    | with_reducible intro _ _
    | with_reducible intro _

/-! Array -/

theorem keeps_setField {pm : Nat} {z : State} {s : State} {f : Nat} {x : Field} (hpm : Within 0x2000 pm) (hk : Keeps pm z s) : Keeps pm z (setField s f x) := by
  unfold setField
  repeat' first
    | with_reducible assumption
    | (simp only [Keeps.upd]; apply Kp.put_arr (hb := bit hpm); with_reducible apply Kp.of)

theorem keeps_setFieldWord {pm : Nat} {z : State} {s : State} {f : Nat} {a : Nat} {v : Nat} (hpm : Within 0x40 pm) (hk : Keeps pm z s) : Keeps pm z (setFieldWord s f a v) := by
  unfold setFieldWord
  repeat' first
    | with_reducible assumption
    | with_reducible apply keeps_memWrite

theorem keeps_drillIssue {pm : Nat} {z : State} {s : State} {f : Nat} {n : Nat} (hpm : Within 0x2000 pm) (hk : Keeps pm z s) : Keeps pm z (drillIssue s f n) := by
  unfold drillIssue
  dsimp only
  repeat' first
    | with_reducible assumption
    | with_reducible apply keeps_setField
    | with_reducible apply Keeps.foldl
    | split
    | with_reducible intro _ _
    | with_reducible intro _

theorem keeps_drillFetch {pm : Nat} {z : State} {s : State} {f : Nat} (hpm : Within 0x2000 pm) (hk : Keeps pm z s) : Keeps pm z (drillFetch s f) := by
  unfold drillFetch
  dsimp only
  repeat' first
    | with_reducible assumption
    | with_reducible apply keeps_drillIssue
    | with_reducible apply keeps_setField
    | with_reducible apply Keeps.foldl
    | split
    | with_reducible intro _ _
    | with_reducible intro _

theorem keeps_fieldNow {pm : Nat} {z : State} {s : State} {f : Nat} (hpm : Within 0x2000 pm) (hk : Keeps pm z s) : Keeps pm z (fieldNow s f) := by
  unfold fieldNow
  repeat' first
    | with_reducible assumption
    | with_reducible apply keeps_drillFetch
    | with_reducible apply keeps_setField

theorem keeps_retuneEnd {pm : Nat} {z : State} {s : State} {f : Nat} {r : Retune} {result : Nat} (hpm : Within 0x82708 pm) (hk : Keeps pm z s) : Keeps pm z (retuneEnd s f r result) := by
  unfold retuneEnd
  repeat' first
    | with_reducible assumption
    | with_reducible apply keeps_setField
    | with_reducible apply keeps_wr
    | with_reducible apply keeps_raiseEvent
    | with_reducible exact narrow hpm

theorem keeps_atEndCheck {pm : Nat} {z : State} {s : State} {f : Nat} (hpm : Within 0x82708 pm) (hk : Keeps pm z s) : Keeps pm z (atEndCheck s f) := by
  unfold atEndCheck
  repeat' first
    | with_reducible assumption
    | with_reducible apply keeps_retuneEnd
    | split

theorem keeps_atEndStart {pm : Nat} {z : State} {s : State} {f : Nat} (hpm : Within 0x82708 pm) (hk : Keeps pm z s) : Keeps pm z (atEndStart s f) := by
  unfold atEndStart
  repeat' first
    | with_reducible assumption
    | with_reducible apply keeps_atEndCheck
    | with_reducible apply keeps_setField
    | with_reducible exact narrow hpm

theorem keeps_retuneStart {pm : Nat} {z : State} {s : State} {f : Nat} {r : Retune} (hpm : Within 0x82708 pm) (hk : Keeps pm z s) : Keeps pm z (retuneStart s f r) := by
  unfold retuneStart
  repeat' first
    | with_reducible assumption
    | with_reducible apply keeps_drillFetch
    | with_reducible apply keeps_setField
    | with_reducible apply keeps_wr
    | with_reducible apply keeps_retuneEnd
    | with_reducible apply keeps_atEndStart
    | with_reducible exact narrow hpm
    | split

theorem keeps_retuneWithdraw {pm : Nat} {z : State} {s : State} {f : Nat} (hpm : Within 0x2008 pm) (hk : Keeps pm z s) : Keeps pm z (retuneWithdraw s f) := by
  unfold retuneWithdraw
  repeat' first
    | with_reducible assumption
    | with_reducible apply keeps_setField
    | with_reducible apply keeps_wr
    | with_reducible exact narrow hpm
    | split

theorem keeps_cueCheck {pm : Nat} {z : State} {s : State} {f : Nat} {port : Nat} {t : Token} (hpm : Within 0x82708 pm) (hk : Keeps pm z s) : Keeps pm z (cueCheck s f port t) := by
  unfold cueCheck
  repeat' first
    | with_reducible assumption
    | with_reducible apply keeps_retuneStart
    | split

theorem keeps_endPut {pm : Nat} {z : State} {s : State} {e : PathEnd} {t : Token} {drill : Option (Nat × Nat)} (hpm : Within 0x82708 pm) (hk : Keeps pm z s) : Keeps pm z (endPut s e t drill) := by
  unfold endPut
  repeat' first
    | with_reducible assumption
    | with_reducible apply keeps_setField
    | with_reducible apply keeps_cueCheck
    | with_reducible apply keeps_atEndCheck
    | with_reducible exact narrow hpm
    | (simp only [Keeps.upd]; apply Kp.put_arr (hb := bit hpm); with_reducible apply Kp.of)
    | split

theorem keeps_busTake {pm : Nat} {z : State} {s : State} {f : Nat} {u : Nat} {v : Nat} (hpm : Within 0x2000 pm) (hk : Keeps pm z s) : Keeps pm z (busTake s f u v) := by
  unfold busTake
  repeat' first
    | with_reducible assumption
    | with_reducible apply keeps_setField

theorem keeps_fireTo {pm : Nat} {z : State} {s : State} {f : Nat} {c : Nat} (hpm : Within 0x82708 pm) (hk : Keeps pm z s) : Keeps pm z (fireTo s f c) := by
  unfold fireTo
  repeat' first
    | with_reducible assumption
    | with_reducible apply keeps_busTake
    | with_reducible apply keeps_atEndCheck
    | with_reducible apply keeps_setField
    | with_reducible exact narrow hpm
    | split

theorem keeps_cellFire {pm : Nat} {z : State} {s : State} {f : Nat} {c : Nat} (hpm : Within 0x82708 pm) (hk : Keeps pm z s) : OKeeps pm z (cellFire s f c) := by
  unfold cellFire
  dsimp only
  repeat' first
    | with_reducible assumption
    | with_reducible exact OKeeps.none
    | with_reducible apply OKeeps.some
    | with_reducible apply keeps_fieldNow
    | with_reducible apply keeps_fireTo
    | with_reducible exact narrow hpm
    | split

theorem keeps_entryComplete {pm : Nat} {z : State} {s : State} {f : Nat} {c : Nat} {k : Nat} (hpm : Within 0x2000 pm) (hk : Keeps pm z s) : OKeeps pm z (entryComplete s f c k) := by
  unfold entryComplete
  dsimp only
  repeat' first
    | with_reducible assumption
    | with_reducible exact OKeeps.none
    | with_reducible apply OKeeps.some
    | with_reducible apply keeps_setField
    | split

theorem keeps_operationComplete {pm : Nat} {z : State} {s : State} {f : Nat} {c : Nat} {k : Nat} (hpm : Within 0x2000 pm) (hk : Keeps pm z s) : OKeeps pm z (operationComplete s f c k) := by
  unfold operationComplete
  repeat' first
    | with_reducible assumption
    | with_reducible exact OKeeps.none
    | with_reducible apply OKeeps.some
    | with_reducible apply keeps_fieldNow
    | with_reducible apply keeps_entryComplete
    | split

theorem keeps_deliverTo {pm : Nat} {z : State} {s : State} {f : Nat} {c : Nat} (hpm : Within 0x82708 pm) (hk : Keeps pm z s) : Keeps pm z (deliverTo s f c) := by
  unfold deliverTo
  dsimp only
  repeat' first
    | with_reducible assumption
    | with_reducible apply keeps_endPut
    | with_reducible apply keeps_setField
    | with_reducible apply Keeps.foldl
    | with_reducible exact narrow hpm
    | split
    | with_reducible intro _ _

theorem keeps_resultDeliver {pm : Nat} {z : State} {s : State} {f : Nat} {c : Nat} (hpm : Within 0x82708 pm) (hk : Keeps pm z s) : OKeeps pm z (resultDeliver s f c) := by
  unfold resultDeliver
  dsimp only
  repeat' first
    | with_reducible assumption
    | with_reducible exact OKeeps.none
    | with_reducible apply OKeeps.some
    | with_reducible apply keeps_fieldNow
    | with_reducible apply keeps_deliverTo
    | with_reducible exact narrow hpm
    | split

theorem keeps_stageTo {pm : Nat} {z : State} {s : State} {f : Nat} {u : Nat} {dir : Nat} (hpm : Within 0x82708 pm) (hk : Keeps pm z s) : Keeps pm z (stageTo s f u dir) := by
  unfold stageTo
  dsimp only
  repeat' first
    | with_reducible assumption
    | with_reducible apply keeps_endPut
    | with_reducible apply keeps_setField
    | with_reducible exact narrow hpm
    | split

theorem keeps_stageTransfer {pm : Nat} {z : State} {s : State} {f : Nat} {u : Nat} {dir : Nat} (hpm : Within 0x82708 pm) (hk : Keeps pm z s) : OKeeps pm z (stageTransfer s f u dir) := by
  unfold stageTransfer
  repeat' first
    | with_reducible assumption
    | with_reducible exact OKeeps.none
    | with_reducible apply OKeeps.some
    | with_reducible apply keeps_stageTo
    | split

theorem keeps_edgeInTo {pm : Nat} {z : State} {s : State} {q : Nat} (hpm : Within 0x86708 pm) (hk : Keeps pm z s) : Keeps pm z (edgeInTo s q) := by
  unfold edgeInTo
  repeat' first
    | with_reducible assumption
    | with_reducible apply keeps_qTake
    | with_reducible apply keeps_endPut
    | with_reducible apply keeps_setQueue
    | with_reducible exact narrow hpm
    | split

theorem keeps_edgeInput {pm : Nat} {z : State} {s : State} {q : Nat} (hpm : Within 0x86708 pm) (hk : Keeps pm z s) : OKeeps pm z (edgeInput s q) := by
  unfold edgeInput
  repeat' first
    | with_reducible assumption
    | with_reducible exact OKeeps.none
    | with_reducible apply OKeeps.some
    | with_reducible apply keeps_edgeInTo
    | split

theorem keeps_edgeOutput {pm : Nat} {z : State} {s : State} {p : Nat} (hpm : Within 0x86708 pm) (hk : Keeps pm z s) : OKeeps pm z (edgeOutput s p) := by
  unfold edgeOutput
  repeat' first
    | with_reducible assumption
    | with_reducible exact OKeeps.none
    | with_reducible apply OKeeps.some
    | with_reducible apply keeps_qOffer
    | (with_reducible refine OKeeps.of ?_ (by with_reducible assumption))
    | with_reducible exact narrow hpm
    | (simp only [Keeps.upd]; apply Kp.put_arr (hb := bit hpm); with_reducible apply Kp.of)
    | split

theorem keeps_drillTo {pm : Nat} {z : State} {s : State} {f : Nat} {d : Nat} (hpm : Within 0x82708 pm) (hk : Keeps pm z s) : Keeps pm z (drillTo s f d) := by
  unfold drillTo
  dsimp only
  repeat' first
    | with_reducible assumption
    | with_reducible apply keeps_atEndCheck
    | with_reducible apply keeps_endPut
    | with_reducible apply keeps_setField
    | with_reducible exact narrow hpm
    | split

theorem keeps_drillRead {pm : Nat} {z : State} {s : State} {f : Nat} {d : Nat} (hpm : Within 0x82708 pm) (hk : Keeps pm z s) : OKeeps pm z (drillRead s f d) := by
  unfold drillRead
  dsimp only
  repeat' first
    | with_reducible assumption
    | with_reducible exact OKeeps.none
    | with_reducible apply OKeeps.some
    | with_reducible apply keeps_fieldNow
    | with_reducible apply keeps_drillTo
    | with_reducible exact narrow hpm
    | split

theorem keeps_feedNow {pm : Nat} {z : State} {s : State} {x : Feed} (hpm : Within 0x2000 pm) (hk : Keeps pm z s) : Keeps pm z (feedNow s x) := by
  unfold feedNow
  repeat' first
    | with_reducible assumption
    | with_reducible apply keeps_fieldNow
    | split

theorem keeps_feedTo {pm : Nat} {z : State} {s : State} {x : Feed} (hpm : Within 0x86708 pm) (hk : Keeps pm z s) : Keeps pm z (feedTo s x) := by
  unfold feedTo
  repeat' first
    | with_reducible assumption
    | with_reducible apply keeps_edgeInTo
    | with_reducible apply keeps_stageTo
    | with_reducible apply keeps_deliverTo
    | with_reducible apply keeps_drillTo
    | with_reducible exact narrow hpm
    | split

theorem keeps_retuneCue {pm : Nat} {z : State} {s : State} {f : Nat} (hpm : Within 0x86708 pm) (hk : Keeps pm z s) : OKeeps pm z (retuneCue s f) := by
  unfold retuneCue
  dsimp only
  repeat' first
    | with_reducible assumption
    | with_reducible exact OKeeps.none
    | with_reducible apply OKeeps.some
    | with_reducible apply keeps_feedNow
    | with_reducible apply keeps_feedTo
    | with_reducible exact narrow hpm
    | split

theorem keeps_drillAccept {pm : Nat} {z : State} {s : State} {f : Nat} {d : Nat} (hpm : Within 0x82708 pm) (hk : Keeps pm z s) : OKeeps pm z (drillAccept s f d) := by
  unfold drillAccept
  dsimp only
  repeat' first
    | with_reducible assumption
    | with_reducible exact OKeeps.none
    | with_reducible apply OKeeps.some
    | with_reducible apply keeps_fieldNow
    | with_reducible apply keeps_deliverTo
    | with_reducible exact narrow hpm
    | split

theorem keeps_storeTo {pm : Nat} {z : State} {s : State} {f : Nat} {d : Nat} (hpm : Within 0x2040 pm) (hk : Keeps pm z s) : Keeps pm z (storeTo s f d) := by
  unfold storeTo
  dsimp only
  repeat' first
    | with_reducible assumption
    | with_reducible apply keeps_setFieldWord
    | with_reducible apply keeps_setField
    | with_reducible exact narrow hpm
    | split

theorem keeps_drillStore {pm : Nat} {z : State} {s : State} {f : Nat} {d : Nat} (hpm : Within 0x2040 pm) (hk : Keeps pm z s) : OKeeps pm z (drillStore s f d) := by
  unfold drillStore
  dsimp only
  repeat' first
    | with_reducible assumption
    | with_reducible exact OKeeps.none
    | with_reducible apply OKeeps.some
    | with_reducible apply keeps_fieldNow
    | with_reducible apply keeps_storeTo
    | with_reducible exact narrow hpm
    | split

theorem keeps_drainSwitch {pm : Nat} {z : State} {s : State} {f : Nat} (hpm : Within 0x82708 pm) (hk : Keeps pm z s) : OKeeps pm z (drainSwitch s f) := by
  unfold drainSwitch
  dsimp only
  repeat' first
    | with_reducible assumption
    | with_reducible exact OKeeps.none
    | with_reducible apply OKeeps.some
    | with_reducible apply keeps_fieldNow
    | with_reducible apply keeps_retuneEnd
    | with_reducible apply keeps_setField
    | with_reducible exact narrow hpm
    | split

theorem keeps_retuneExpire {pm : Nat} {z : State} {s : State} {f : Nat} (hpm : Within 0x82708 pm) (hk : Keeps pm z s) : OKeeps pm z (retuneExpire s f) := by
  unfold retuneExpire
  repeat' first
    | with_reducible assumption
    | with_reducible exact OKeeps.none
    | with_reducible apply OKeeps.some
    | with_reducible apply keeps_fieldNow
    | with_reducible apply keeps_setField
    | with_reducible apply keeps_retuneEnd
    | with_reducible apply keeps_bump
    | with_reducible apply keeps_wr
    | with_reducible apply keeps_raiseEvent
    | with_reducible exact narrow hpm
    | split

/-! Bars -/

theorem keeps_setEncoder {pm : Nat} {z : State} {s : State} {e : Nat} {x : Encoder} (hpm : Within 0x10000 pm) (hk : Keeps pm z s) : Keeps pm z (setEncoder s e x) := by
  unfold setEncoder
  repeat' first
    | with_reducible assumption
    | (simp only [Keeps.upd]; apply Kp.put_print (hb := bit hpm); with_reducible apply Kp.of)

theorem keeps_setGenNext {pm : Nat} {z : State} {s : State} {g : Nat} {k : Int} (hpm : Within 0x10000 pm) (hk : Keeps pm z s) : Keeps pm z (setGenNext s g k) := by
  unfold setGenNext
  repeat' first
    | with_reducible assumption
    | (simp only [Keeps.upd]; apply Kp.put_print (hb := bit hpm); with_reducible apply Kp.of)

theorem keeps_markIncomplete {pm : Nat} {z : State} {s : State} {id : Nat} {b : Nat} (hpm : Within 0x10000 pm) (hk : Keeps pm z s) : Keeps pm z (markIncomplete s id b) := by
  unfold markIncomplete
  repeat' first
    | with_reducible assumption
    | with_reducible apply keeps_setProduct
    | split

theorem keeps_markLaunched {pm : Nat} {z : State} {s : State} {id : Nat} (hpm : Within 0x10000 pm) (hk : Keeps pm z s) : Keeps pm z (markLaunched s id) := by
  unfold markLaunched
  repeat' first
    | with_reducible assumption
    | with_reducible apply keeps_setProduct
    | split

theorem keeps_markDone {pm : Nat} {z : State} {s : State} {id : Nat} {b : Nat} (hpm : Within 0x10008 pm) (hk : Keeps pm z s) : Keeps pm z (markDone s id b) := by
  unfold markDone
  repeat' first
    | with_reducible assumption
    | with_reducible apply keeps_count64
    | with_reducible apply keeps_setProduct
    | with_reducible exact narrow hpm
    | split

theorem keeps_setBar {pm : Nat} {z : State} {s : State} {b : Nat} {x : Bar} (hpm : Within 0x10000 pm) (hk : Keeps pm z s) : Keeps pm z (setBar s b x) := by
  unfold setBar
  repeat' first
    | with_reducible assumption
    | (simp only [Keeps.upd]; apply Kp.put_print (hb := bit hpm); with_reducible apply Kp.of)

theorem keeps_registerWindows {pm : Nat} {z : State} {s : State} {id : Nat} {due : Nat} {line : Nat} (hpm : Within 0x90708 pm) (hk : Keeps pm z s) : Keeps pm z (registerWindows s id due line) := by
  unfold registerWindows
  dsimp only
  repeat' first
    | with_reducible assumption
    | with_reducible apply keeps_count64
    | with_reducible apply keeps_setCause
    | with_reducible apply keeps_bump
    | with_reducible apply keeps_markIncomplete
    | with_reducible apply keeps_setProduct
    | with_reducible apply Keeps.foldl
    | with_reducible exact narrow hpm
    | split
    | with_reducible intro _ _
    | with_reducible intro _

theorem keeps_finishWindows {pm : Nat} {z : State} {s : State} {b : Nat} {l : List Nat} (hpm : Within 0x10000 pm) (hk : Keeps pm z s) : Keeps pm z (finishWindows s b l) := by
  unfold finishWindows
  repeat' first
    | with_reducible assumption
    | (simp only [Keeps.upd]; apply Kp.put_print (hb := bit hpm); with_reducible apply Kp.of)

theorem keeps_keepPacket {pm : Nat} {z : State} {s : State} {b : Nat} {line : Nat} {buf : List Byte} (hpm : Within 0x10000 pm) (hk : Keeps pm z s) : Keeps pm z (keepPacket s b line buf) := by
  unfold keepPacket
  repeat' first
    | with_reducible assumption
    | (simp only [Keeps.upd]; apply Kp.put_print (hb := bit hpm); with_reducible apply Kp.of)

theorem keeps_setOwed {pm : Nat} {z : State} {s : State} {b : Nat} {l : List Nat} (hpm : Within 0x10008 pm) (hk : Keeps pm z s) : Keeps pm z (setOwed s b l) := by
  unfold setOwed
  repeat' first
    | with_reducible assumption
    | with_reducible apply keeps_wr
    | with_reducible apply keeps_setBar
    | with_reducible exact narrow hpm

theorem keeps_formatterWord {pm : Nat} {z : State} {s : State} {b : Nat} (hpm : Within 0x94708 pm) (hk : Keeps pm z s) : OKeeps pm z (formatterWord s b) := by
  unfold formatterWord
  dsimp only
  repeat' first
    | with_reducible assumption
    | with_reducible exact OKeeps.none
    | with_reducible apply OKeeps.some
    | with_reducible apply keeps_qTake
    | with_reducible apply keeps_setBar
    | with_reducible apply keeps_setOwed
    | with_reducible apply keeps_keepPacket
    | with_reducible apply keeps_setCause
    | with_reducible apply keeps_bump
    | with_reducible exact narrow hpm
    | split

theorem keeps_barStop {pm : Nat} {z : State} {s : State} {b : Nat} (hpm : Within 0x10028 pm) (hk : Keeps pm z s) : Keeps pm z (barStop s b) := by
  unfold barStop
  repeat' first
    | with_reducible assumption
    | with_reducible apply keeps_count64
    | with_reducible apply keeps_markIncomplete
    | with_reducible apply keeps_enter
    | with_reducible apply keeps_setBar
    | with_reducible apply Keeps.foldl
    | with_reducible exact narrow hpm
    | (simp only [Keeps.upd]; apply Kp.put_print (hb := bit hpm); with_reducible apply Kp.of)
    | with_reducible intro _ _
    | with_reducible intro _

theorem keeps_barDisable {pm : Nat} {z : State} {s : State} {b : Nat} (hpm : Within 0x10028 pm) (hk : Keeps pm z s) : PKeeps pm z (barDisable s b) := by
  unfold barDisable
  repeat' first
    | with_reducible assumption
    | with_reducible apply keeps_wr
    | with_reducible apply keeps_setBar
    | with_reducible apply keeps_barStop
    | with_reducible exact narrow hpm
    | simp only [PKeeps.iff]
    | split

theorem keeps_barStrobe {pm : Nat} {z : State} {s : State} {b : Nat} {line : Nat} (hpm : Within 0x90728 pm) (hk : Keeps pm z s) : Keeps pm z (barStrobe s b line) := by
  unfold barStrobe
  dsimp only
  repeat' first
    | with_reducible assumption
    | with_reducible apply keeps_wr
    | with_reducible apply keeps_setBar
    | with_reducible apply keeps_keepPacket
    | with_reducible apply keeps_finishWindows
    | with_reducible apply keeps_setCause
    | with_reducible apply keeps_bump
    | with_reducible apply keeps_markIncomplete
    | with_reducible apply keeps_setOwed
    | with_reducible refine PKeeps.fst (keeps_barDisable ?_ ?_)
    | with_reducible apply Keeps.foldl
    | with_reducible exact narrow hpm
    | split
    | with_reducible intro _ _

theorem keeps_skipLines {pm : Nat} {z : State} {s : State} {g : Nat} {k : Int} (hpm : Within 0x10008 pm) (hk : Keeps pm z s) : Keeps pm z (skipLines s g k) := by
  unfold skipLines
  dsimp only
  repeat' first
    | with_reducible assumption
    | with_reducible apply keeps_setGenNext
    | with_reducible apply keeps_wr
    | with_reducible apply keeps_markIncomplete
    | with_reducible apply Keeps.foldl
    | with_reducible exact narrow hpm
    | split
    | with_reducible intro _ _
    | with_reducible intro _

theorem keeps_fireLaunch {pm : Nat} {z : State} {s : State} {b : Nat} (hpm : Within 0xd872c pm) (hk : Keeps pm z s) : OKeeps pm z (fireLaunch s b) := by
  unfold fireLaunch
  dsimp only
  repeat' first
    | with_reducible assumption
    | with_reducible exact OKeeps.none
    | with_reducible apply OKeeps.some
    | with_reducible apply keeps_setBar
    | with_reducible apply keeps_laneFire
    | with_reducible apply keeps_count64
    | with_reducible apply keeps_markLaunched
    | with_reducible apply keeps_setCause
    | with_reducible apply keeps_bump
    | with_reducible apply keeps_markIncomplete
    | with_reducible apply keeps_renderDigest
    | with_reducible apply keeps_markDone
    | with_reducible apply Keeps.foldl
    | with_reducible exact narrow hpm
    | split
    | with_reducible intro _ _
    | with_reducible intro _

theorem keeps_mapWrite {pm : Nat} {z : State} {s : State} {b : Nat} {switchLine : Nat} {d : List (Nat × Nat)} (hpm : Within 0x48 pm) (hk : Keeps pm z s) : Keeps pm z (mapWrite s b switchLine d) := by
  unfold mapWrite
  repeat' first
    | with_reducible assumption
    | with_reducible apply keeps_memWrite
    | with_reducible apply keeps_wr
    | with_reducible apply Keeps.foldl
    | with_reducible exact narrow hpm
    | split
    | with_reducible intro _ _

theorem keeps_mapFrames {pm : Nat} {z : State} {b : Nat} {line : Nat} {n : Nat} {d : List (Nat × Nat)} {s : State} (hpm : Within 0x48004 pm) (hk : Keeps pm z s) : Keeps pm z (mapFrames b line n d s) := by
  induction n generalizing d s with
  | zero =>
    unfold mapFrames
    repeat' first
      | with_reducible assumption
  | succ n ih =>
    unfold mapFrames
    dsimp only
    repeat' first
      | with_reducible apply ih
      | with_reducible assumption
      | with_reducible refine PKeeps.fst (keeps_sendOrdered ?_ ?_)
      | split

theorem keeps_mapApply {pm : Nat} {z : State} {s : State} {b : Nat} (hpm : Within 0x5804c pm) (hk : Keeps pm z s) : Keeps pm z (mapApply s b) := by
  unfold mapApply
  dsimp only
  repeat' first
    | with_reducible assumption
    | with_reducible apply keeps_setBar
    | with_reducible apply keeps_mapWrite
    | with_reducible apply keeps_mapFrames
    | with_reducible exact narrow hpm
    | split

theorem keeps_mapChange {pm : Nat} {z : State} {s : State} {b : Nat} {cs : List MapChange} (hpm : Within 0x5804c pm) (hk : Keeps pm z s) : Keeps pm z (mapChange s b cs) := by
  unfold mapChange
  repeat' first
    | with_reducible assumption
    | with_reducible apply keeps_mapApply
    | with_reducible apply keeps_setBar
    | with_reducible exact narrow hpm
    | split

theorem keeps_mapSwitch {pm : Nat} {z : State} {s : State} {b : Nat} (hpm : Within 0xd874c pm) (hk : Keeps pm z s) : OKeeps pm z (mapSwitch s b) := by
  unfold mapSwitch
  repeat' first
    | with_reducible assumption
    | with_reducible exact OKeeps.none
    | with_reducible apply OKeeps.some
    | with_reducible apply keeps_setCause
    | with_reducible apply keeps_wr
    | with_reducible apply keeps_mapApply
    | with_reducible exact narrow hpm
    | split

theorem keeps_mapEdit {pm : Nat} {z : State} {s : State} {b : Nat} {v : Nat} (hpm : Within 0x5804c pm) (hk : Keeps pm z s) : PKeeps pm z (mapEdit s b v) := by
  unfold mapEdit
  repeat' first
    | with_reducible assumption
    | with_reducible apply keeps_mapChange
    | simp only [PKeeps.iff]
    | split

theorem keeps_mapImage {pm : Nat} {z : State} {s : State} {b : Nat} {l : List Byte} (hpm : Within 0x5804c pm) (hk : Keeps pm z s) : PKeeps pm z (mapImage s b l) := by
  unfold mapImage
  repeat' first
    | with_reducible assumption
    | with_reducible apply keeps_mapChange
    | simp only [PKeeps.iff]
    | split

theorem keeps_mgmtSend {pm : Nat} {z : State} {s : State} {idx : Nat} {sub : Nat} {n : Nat} {hdr : Nat} {seq : Nat} {payload : List Byte} (hpm : Within 0x802c pm) (hk : Keeps pm z s) : PKeeps pm z (mgmtSend s idx sub n hdr seq payload) := by
  unfold mgmtSend
  repeat' first
    | with_reducible assumption
    | with_reducible apply keeps_enter
    | with_reducible apply keeps_laneManage
    | with_reducible exact narrow hpm
    | simp only [PKeeps.iff]
    | split

theorem keeps_barMgmt {pm : Nat} {z : State} {s : State} {b : Nat} {payload : List Byte} (hpm : Within 0x1802c pm) (hk : Keeps pm z s) : PKeeps pm z (barMgmt s b payload) := by
  unfold barMgmt
  repeat' first
    | with_reducible assumption
    | with_reducible apply keeps_mgmtSend
    | with_reducible apply keeps_setBar
    | with_reducible refine PKeeps.fst (keeps_mgmtSend ?_ ?_)
    | with_reducible exact narrow hpm
    | simp only [PKeeps.iff]
    | split

theorem keeps_mgmtReplied {pm : Nat} {z : State} {s : State} {idx : Nat} {sub : Nat} {seq : Nat} {hdr : Nat} {payload : List Byte} (hpm : Within 0x18 pm) (hk : Keeps pm z s) : PKeeps pm z (mgmtReplied s idx sub seq hdr payload) := by
  unfold mgmtReplied
  repeat' first
    | with_reducible assumption
    | with_reducible apply keeps_wrBytes
    | with_reducible apply keeps_wr
    | with_reducible exact narrow hpm
    | simp only [PKeeps.iff]
    | split

theorem keeps_mgmtExpire {pm : Nat} {z : State} {s : State} {idx : Nat} {sub : Nat} (hpm : Within 0x8 pm) (hk : Keeps pm z s) : OKeeps pm z (mgmtExpire s idx sub) := by
  unfold mgmtExpire
  repeat' first
    | with_reducible assumption
    | with_reducible exact OKeeps.none
    | with_reducible apply OKeeps.some
    | with_reducible apply keeps_wr
    | split

theorem keeps_headDiscard {pm : Nat} {z : State} {s : State} {b : Nat} (hpm : Within 0x80708 pm) (hk : Keeps pm z s) : Keeps pm z (headDiscard s b) := by
  unfold headDiscard
  repeat' first
    | with_reducible assumption
    | with_reducible apply keeps_setCause
    | with_reducible apply keeps_bump
    | with_reducible exact narrow hpm

theorem keeps_headStatusApply {pm : Nat} {z : State} {s : State} {b : Nat} {hdr : Nat} {p : List Byte} (hpm : Within 0x100f0728 pm) (hk : Keeps pm z s) : Keeps pm z (headStatusApply s b hdr p) := by
  unfold headStatusApply
  dsimp only
  repeat' first
    | with_reducible assumption
    | with_reducible apply keeps_wr
    | with_reducible apply keeps_setCause
    | with_reducible apply keeps_setBar
    | with_reducible apply keeps_bump
    | with_reducible apply keeps_standDown
    | with_reducible apply Keeps.foldl
    | with_reducible exact narrow hpm
    | split
    | with_reducible intro _ _

theorem keeps_nozzleReportApply {pm : Nat} {z : State} {s : State} {b : Nat} {p : List Byte} (hpm : Within 0xd874c pm) (hk : Keeps pm z s) : Keeps pm z (nozzleReportApply s b p) := by
  unfold nozzleReportApply
  repeat' first
    | with_reducible assumption
    | with_reducible apply keeps_setCause
    | with_reducible apply keeps_mapChange
    | with_reducible exact narrow hpm

theorem keeps_headFrame {pm : Nat} {z : State} {s : State} {b : Nat} {hdr : Nat} {p : List Byte} {crcOk : Bool} (hpm : Within 0x100f877c pm) (hk : Keeps pm z s) : Keeps pm z (headFrame s b hdr p crcOk) := by
  unfold headFrame
  dsimp only
  repeat' first
    | with_reducible assumption
    | with_reducible apply keeps_headDiscard
    | with_reducible apply keeps_headStatusApply
    | with_reducible apply keeps_nozzleReportApply
    | with_reducible apply keeps_setCause
    | with_reducible refine PKeeps.fst (keeps_laneDelivers ?_ ?_)
    | with_reducible refine PKeeps.fst (keeps_mgmtReplied ?_ ?_)
    | with_reducible exact narrow hpm
    | split

theorem keeps_headSilence {pm : Nat} {z : State} {s : State} {b : Nat} (hpm : Within 0x90708 pm) (hk : Keeps pm z s) : OKeeps pm z (headSilence s b) := by
  unfold headSilence
  dsimp only
  repeat' first
    | with_reducible assumption
    | with_reducible exact OKeeps.none
    | with_reducible apply OKeeps.some
    | with_reducible apply keeps_setCause
    | with_reducible apply keeps_bump
    | with_reducible apply keeps_setBar
    | with_reducible exact narrow hpm
    | split

theorem keeps_barStart {pm : Nat} {z : State} {s : State} {b : Nat} (hpm : Within 0x10028 pm) (hk : Keeps pm z s) : Keeps pm z (barStart s b) := by
  unfold barStart
  repeat' first
    | with_reducible assumption
    | with_reducible apply keeps_enter
    | with_reducible apply keeps_wr
    | with_reducible apply keeps_setOwed
    | with_reducible apply keeps_setBar
    | with_reducible exact narrow hpm

theorem keeps_barEnable {pm : Nat} {z : State} {s : State} {b : Nat} (hpm : Within 0x90728 pm) (hk : Keeps pm z s) : PKeeps pm z (barEnable s b) := by
  unfold barEnable
  repeat' first
    | with_reducible assumption
    | with_reducible apply keeps_wr
    | with_reducible apply keeps_barStart
    | with_reducible apply keeps_setBar
    | with_reducible refine PKeeps.fst (keeps_takeClaims ?_ ?_)
    | with_reducible exact narrow hpm
    | simp only [PKeeps.iff]
    | split

theorem keeps_barStarted {pm : Nat} {z : State} {s : State} {b : Nat} (hpm : Within 0x90728 pm) (hk : Keeps pm z s) : OKeeps pm z (barStarted s b) := by
  unfold barStarted
  repeat' first
    | with_reducible assumption
    | with_reducible exact OKeeps.none
    | with_reducible apply OKeeps.some
    | with_reducible apply keeps_setCause
    | with_reducible apply keeps_enter
    | with_reducible apply keeps_setBar
    | with_reducible apply keeps_barStop
    | with_reducible exact narrow hpm
    | split

theorem keeps_barStopped {pm : Nat} {z : State} {s : State} {b : Nat} (hpm : Within 0x90728 pm) (hk : Keeps pm z s) : OKeeps pm z (barStopped s b) := by
  unfold barStopped
  repeat' first
    | with_reducible assumption
    | with_reducible exact OKeeps.none
    | with_reducible apply OKeeps.some
    | with_reducible apply keeps_setCause
    | with_reducible apply keeps_enter
    | with_reducible apply keeps_setBar
    | with_reducible apply keeps_setOwed
    | with_reducible apply keeps_releaseAll
    | with_reducible apply keeps_wr
    | with_reducible apply keeps_barStart
    | with_reducible exact narrow hpm
    | split

theorem keeps_suspectLines {pm : Nat} {z : State} {s : State} {d : Nat} (hpm : Within 0x10000 pm) (hk : Keeps pm z s) : Keeps pm z (suspectLines s d) := by
  unfold suspectLines
  repeat' first
    | with_reducible assumption
    | with_reducible apply keeps_markIncomplete
    | with_reducible apply Keeps.foldl
    | split
    | with_reducible intro _ _
    | with_reducible intro _

/-! Verify -/

theorem keeps_verdictStore {pm : Nat} {z : State} {s : State} {p : Product} {status : Nat} {verdict : Nat} {grade : Nat} (hpm : Within 0xd872c pm) (hk : Keeps pm z s) : Keeps pm z (verdictStore s p status verdict grade) := by
  unfold verdictStore
  repeat' first
    | with_reducible assumption
    | with_reducible apply keeps_verdictDigest
    | with_reducible apply keeps_archiveAsk
    | with_reducible apply keeps_setProduct
    | with_reducible exact narrow hpm

theorem keeps_setGate {pm : Nat} {z : State} {s : State} {j : Nat} {x : Gate} (hpm : Within 0x10000 pm) (hk : Keeps pm z s) : Keeps pm z (setGate s j x) := by
  unfold setGate
  repeat' first
    | with_reducible assumption
    | (simp only [Keeps.upd]; apply Kp.put_print (hb := bit hpm); with_reducible apply Kp.of)

theorem keeps_gateAdd {pm : Nat} {z : State} {s : State} {j : Nat} {pos : Nat} {e : Option Nat} (hpm : Within 0x90708 pm) (hk : Keeps pm z s) : Keeps pm z (gateAdd s j pos e) := by
  unfold gateAdd
  dsimp only
  repeat' first
    | with_reducible assumption
    | with_reducible apply keeps_setCause
    | with_reducible apply keeps_bump
    | with_reducible apply keeps_wr
    | with_reducible apply keeps_setGate
    | with_reducible exact narrow hpm
    | split

theorem keeps_gateVerdict {pm : Nat} {z : State} {s : State} {id : Nat} (hpm : Within 0xd872c pm) (hk : Keeps pm z s) : PKeeps pm z (gateVerdict s id) := by
  unfold gateVerdict
  repeat' first
    | with_reducible assumption
    | with_reducible apply keeps_setCause
    | with_reducible apply keeps_bump
    | with_reducible apply keeps_setProduct
    | with_reducible apply keeps_verdictStore
    | with_reducible apply keeps_verdictDigest
    | with_reducible exact narrow hpm
    | simp only [PKeeps.iff]
    | split

theorem keeps_gatePulse {pm : Nat} {z : State} {s : State} {j : Nat} {pos : Nat} (hpm : Within 0x90708 pm) (hk : Keeps pm z s) : Keeps pm z (gatePulse s j pos) := by
  unfold gatePulse
  dsimp only
  repeat' first
    | with_reducible assumption
    | with_reducible apply keeps_setCause
    | with_reducible apply keeps_count64
    | with_reducible apply keeps_setGate
    | with_reducible apply keeps_bump
    | with_reducible exact narrow hpm
    | split

theorem keeps_gateDecide {pm : Nat} {z : State} {s : State} {j : Nat} (hpm : Within 0xd872c pm) (hk : Keeps pm z s) : OKeeps pm z (gateDecide s j) := by
  unfold gateDecide
  repeat' first
    | with_reducible assumption
    | with_reducible exact OKeeps.none
    | with_reducible apply OKeeps.some
    | with_reducible apply keeps_wr
    | with_reducible apply keeps_setGate
    | with_reducible apply keeps_gatePulse
    | with_reducible refine PKeeps.fst (keeps_gateVerdict ?_ ?_)
    | with_reducible exact narrow hpm
    | simp only [PKeeps.iff]
    | split

theorem keeps_gateFirst {pm : Nat} {z : State} {j : Nat} {id : Nat} {n : Nat} {s : State} (hpm : Within 0xd872c pm) (hk : Keeps pm z s) : Keeps pm z (gateFirst j id n s) := by
  induction n generalizing s with
  | zero =>
    unfold gateFirst
    repeat' first
      | with_reducible assumption
  | succ n ih =>
    unfold gateFirst
    repeat' first
      | with_reducible apply ih
      | with_reducible assumption
      | with_reducible apply keeps_gateDecide
      | (with_reducible refine OKeeps.of ?_ (by with_reducible assumption))
      | split

theorem keeps_gatePulseEnd {pm : Nat} {z : State} {s : State} {j : Nat} (hpm : Within 0x90708 pm) (hk : Keeps pm z s) : OKeeps pm z (gatePulseEnd s j) := by
  unfold gatePulseEnd
  dsimp only
  repeat' first
    | with_reducible assumption
    | with_reducible exact OKeeps.none
    | with_reducible apply OKeeps.some
    | with_reducible apply keeps_setGate
    | with_reducible apply keeps_setCause
    | with_reducible apply keeps_bump
    | with_reducible apply Keeps.foldl
    | with_reducible exact narrow hpm
    | split
    | with_reducible intro _ _
    | with_reducible intro _

theorem keeps_gateEnable {pm : Nat} {z : State} {s : State} {j : Nat} {v : Nat} (hpm : Within 0x90708 pm) (hk : Keeps pm z s) : PKeeps pm z (gateEnable s j v) := by
  unfold gateEnable
  repeat' first
    | with_reducible assumption
    | with_reducible apply keeps_wr
    | with_reducible apply keeps_setCause
    | with_reducible apply keeps_setGate
    | with_reducible exact narrow hpm
    | simp only [PKeeps.iff]
    | split

theorem keeps_setCam {pm : Nat} {z : State} {s : State} {k : Nat} {x : Camera} (hpm : Within 0x10000 pm) (hk : Keeps pm z s) : Keeps pm z (setCam s k x) := by
  unfold setCam
  repeat' first
    | with_reducible assumption
    | (simp only [Keeps.upd]; apply Kp.put_print (hb := bit hpm); with_reducible apply Kp.of)

theorem keeps_regionWrite {pm : Nat} {z : State} {s : State} {k : Nat} {p : Product} {flags : Nat} (hpm : Within 0x280748 pm) (hk : Keeps pm z s) : Keeps pm z (regionWrite s k p flags) := by
  unfold regionWrite
  repeat' first
    | with_reducible assumption
    | with_reducible apply keeps_setCause
    | with_reducible apply keeps_wr
    | with_reducible apply keeps_memWrite
    | with_reducible apply keeps_unitUse
    | with_reducible exact narrow hpm

theorem keeps_regionOpen {pm : Nat} {z : State} {s : State} {id : Nat} (hpm : Within 0x2d876c pm) (hk : Keeps pm z s) : Keeps pm z (regionOpen s id) := by
  unfold regionOpen
  dsimp only
  repeat' first
    | with_reducible assumption
    | with_reducible apply keeps_setCause
    | with_reducible apply keeps_bump
    | with_reducible apply keeps_unitTurned
    | with_reducible apply keeps_regionWrite
    | with_reducible apply keeps_setProduct
    | with_reducible apply keeps_verdictStore
    | with_reducible exact narrow hpm
    | split

theorem keeps_regionImaged {pm : Nat} {z : State} {s : State} {k : Nat} {line : Nat} (hpm : Within 0x90708 pm) (hk : Keeps pm z s) : Keeps pm z (regionImaged s k line) := by
  unfold regionImaged
  repeat' first
    | with_reducible assumption
    | with_reducible apply keeps_setCause
    | with_reducible apply keeps_setProduct
    | with_reducible apply Keeps.foldl
    | with_reducible exact narrow hpm
    | split
    | with_reducible intro _ _
    | with_reducible intro _

theorem keeps_historyPut {pm : Nat} {z : State} {s : State} {k : Nat} {n : Nat} {b : List Byte} (hpm : Within 0x290748 pm) (hk : Keeps pm z s) : Keeps pm z (historyPut s k n b) := by
  unfold historyPut
  dsimp only
  repeat' first
    | with_reducible assumption
    | with_reducible apply keeps_unitTurned
    | with_reducible apply keeps_setCam
    | with_reducible apply keeps_memWrite
    | with_reducible exact narrow hpm
    | split

theorem keeps_historyRefused {pm : Nat} {z : State} {s : State} {k : Nat} {n : Nat} (hpm : Within 0x90748 pm) (hk : Keeps pm z s) : OKeeps pm z (historyRefused s k n) := by
  unfold historyRefused
  dsimp only
  repeat' first
    | with_reducible assumption
    | with_reducible exact OKeeps.none
    | with_reducible apply OKeeps.some
    | with_reducible apply keeps_memWrite
    | with_reducible apply keeps_lpddrRefuse
    | with_reducible apply keeps_setCam
    | with_reducible exact narrow hpm
    | split

theorem keeps_offerItems {pm : Nat} {z : State} {q : Nat} {l : List (Nat × Bool)} {s : State} (hpm : Within 0x84708 pm) (hk : Keeps pm z s) : Keeps pm z (offerItems q l s).2 := by
  induction l generalizing s with
  | nil => exact hk
  | cons x r ih =>
    obtain ⟨v, last⟩ := x
    rw [offerItems]
    cases h : qOffer s q v last with
    | none => exact hk
    | some s1 => exact ih (OKeeps.of (keeps_qOffer (narrow hpm) hk) h)

theorem keeps_lineWritten {pm : Nat} {z : State} {s : State} {k : Nat} (hpm : Within 0x90708 pm) (hk : Keeps pm z s) : Keeps pm z (lineWritten s k) := by
  unfold lineWritten
  repeat' first
    | with_reducible assumption
    | with_reducible apply keeps_setCam
    | with_reducible apply keeps_regionImaged
    | with_reducible apply keeps_wr
    | with_reducible exact narrow hpm

theorem keeps_intakePump {pm : Nat} {z : State} {k : Nat} {n : Nat} {s : State} (hpm : Within 0x94708 pm) (hk : Keeps pm z s) : Keeps pm z (intakePump k n s) := by
  induction n generalizing s with
  | zero =>
    unfold intakePump
    repeat' first
      | with_reducible assumption
  | succ n ih =>
    unfold intakePump
    dsimp only
    repeat' first
      | with_reducible apply ih
      | with_reducible apply keeps_offerItems
      | with_reducible assumption
      | with_reducible apply keeps_bump
      | with_reducible apply keeps_setCam
      | with_reducible apply keeps_setCause
      | with_reducible apply keeps_lineWritten
      | with_reducible exact narrow hpm
      | split

theorem keeps_intakeResume {pm : Nat} {z : State} {s : State} {q : Nat} (hpm : Within 0x94708 pm) (hk : Keeps pm z s) : Keeps pm z (intakeResume s q) := by
  unfold intakeResume
  repeat' first
    | with_reducible assumption
    | with_reducible apply keeps_intakePump
    | split

theorem keeps_camFormat {pm : Nat} {z : State} {s : State} {k : Nat} (hpm : Within 0x80708 pm) (hk : Keeps pm z s) : Keeps pm z (camFormat s k) := by
  unfold camFormat
  repeat' first
    | with_reducible assumption
    | with_reducible apply keeps_setCause
    | with_reducible apply keeps_bump
    | with_reducible exact narrow hpm

theorem keeps_imageLineApply {pm : Nat} {z : State} {s : State} {k : Nat} {n : Nat} {b : List Byte} (hpm : Within 0x294748 pm) (hk : Keeps pm z s) : Keeps pm z (imageLineApply s k n b) := by
  unfold imageLineApply
  repeat' first
    | with_reducible assumption
    | with_reducible apply keeps_setCam
    | with_reducible apply keeps_camFormat
    | with_reducible apply keeps_setCause
    | with_reducible apply keeps_bump
    | with_reducible apply keeps_count64
    | with_reducible apply keeps_historyPut
    | with_reducible apply keeps_intakePump
    | with_reducible exact narrow hpm
    | split

theorem keeps_lineLost {pm : Nat} {z : State} {s : State} {k : Nat} (hpm : Within 0x94708 pm) (hk : Keeps pm z s) : OKeeps pm z (lineLost s k) := by
  unfold lineLost
  dsimp only
  repeat' first
    | with_reducible assumption
    | with_reducible exact OKeeps.none
    | with_reducible apply OKeeps.some
    | with_reducible apply keeps_intakePump
    | with_reducible apply keeps_setCam
    | with_reducible exact narrow hpm
    | split

theorem keeps_camStrobe {pm : Nat} {z : State} {s : State} {k : Nat} {line : Nat} (hpm : Within 0x18004 pm) (hk : Keeps pm z s) : Keeps pm z (camStrobe s k line) := by
  unfold camStrobe
  dsimp only
  repeat' first
    | with_reducible assumption
    | with_reducible apply keeps_setCam
    | with_reducible apply keeps_laneFire
    | with_reducible exact narrow hpm
    | split

theorem keeps_bridgeStatusApply {pm : Nat} {z : State} {s : State} {k : Nat} {p : List Byte} (hpm : Within 0x90708 pm) (hk : Keeps pm z s) : Keeps pm z (bridgeStatusApply s k p) := by
  unfold bridgeStatusApply
  dsimp only
  repeat' first
    | with_reducible assumption
    | with_reducible apply keeps_wr
    | with_reducible apply keeps_setCam
    | with_reducible apply keeps_setCause
    | with_reducible apply keeps_bump
    | with_reducible exact narrow hpm
    | split

theorem keeps_bridgeFrame {pm : Nat} {z : State} {s : State} {k : Nat} {odd : Bool} {hdr : Nat} {p : List Byte} {crcOk : Bool} (hpm : Within 0x294758 pm) (hk : Keeps pm z s) : Keeps pm z (bridgeFrame s k odd hdr p crcOk) := by
  unfold bridgeFrame
  dsimp only
  repeat' first
    | with_reducible assumption
    | with_reducible apply keeps_camFormat
    | with_reducible apply keeps_imageLineApply
    | with_reducible apply keeps_bridgeStatusApply
    | with_reducible refine PKeeps.fst (keeps_laneDelivers ?_ ?_)
    | with_reducible refine PKeeps.fst (keeps_mgmtReplied ?_ ?_)
    | with_reducible exact narrow hpm
    | split

theorem keeps_camMgmt {pm : Nat} {z : State} {s : State} {k : Nat} {payload : List Byte} (hpm : Within 0x1802c pm) (hk : Keeps pm z s) : PKeeps pm z (camMgmt s k payload) := by
  unfold camMgmt
  repeat' first
    | with_reducible assumption
    | with_reducible apply keeps_mgmtSend
    | with_reducible apply keeps_setCam
    | with_reducible refine PKeeps.fst (keeps_mgmtSend ?_ ?_)
    | with_reducible exact narrow hpm
    | simp only [PKeeps.iff]
    | split

theorem keeps_bridgeSilence {pm : Nat} {z : State} {s : State} {k : Nat} (hpm : Within 0x90708 pm) (hk : Keeps pm z s) : OKeeps pm z (bridgeSilence s k) := by
  unfold bridgeSilence
  dsimp only
  repeat' first
    | with_reducible assumption
    | with_reducible exact OKeeps.none
    | with_reducible apply OKeeps.some
    | with_reducible apply keeps_setCause
    | with_reducible apply keeps_bump
    | with_reducible apply keeps_setCam
    | with_reducible exact narrow hpm
    | split

theorem keeps_regionsEnd {pm : Nat} {z : State} {s : State} {k : Nat} (hpm : Within 0xd872c pm) (hk : Keeps pm z s) : Keeps pm z (regionsEnd s k) := by
  unfold regionsEnd
  repeat' first
    | with_reducible assumption
    | with_reducible apply keeps_verdictStore
    | with_reducible apply Keeps.foldl
    | split
    | with_reducible intro _ _
    | with_reducible intro _

theorem keeps_camStart {pm : Nat} {z : State} {s : State} {k : Nat} (hpm : Within 0x10028 pm) (hk : Keeps pm z s) : Keeps pm z (camStart s k) := by
  unfold camStart
  repeat' first
    | with_reducible assumption
    | with_reducible apply keeps_enter
    | with_reducible apply keeps_wr
    | with_reducible apply keeps_setCam
    | with_reducible exact narrow hpm

theorem keeps_camStop {pm : Nat} {z : State} {s : State} {k : Nat} (hpm : Within 0xd872c pm) (hk : Keeps pm z s) : Keeps pm z (camStop s k) := by
  unfold camStop
  repeat' first
    | with_reducible assumption
    | with_reducible apply keeps_enter
    | with_reducible apply keeps_regionsEnd
    | with_reducible apply keeps_setCam
    | with_reducible exact narrow hpm

theorem keeps_camEnable {pm : Nat} {z : State} {s : State} {k : Nat} (hpm : Within 0x90728 pm) (hk : Keeps pm z s) : PKeeps pm z (camEnable s k) := by
  unfold camEnable
  repeat' first
    | with_reducible assumption
    | with_reducible apply keeps_wr
    | with_reducible apply keeps_camStart
    | with_reducible apply keeps_setCam
    | with_reducible refine PKeeps.fst (keeps_takeClaims ?_ ?_)
    | with_reducible exact narrow hpm
    | simp only [PKeeps.iff]
    | split

theorem keeps_camDisable {pm : Nat} {z : State} {s : State} {k : Nat} (hpm : Within 0xd872c pm) (hk : Keeps pm z s) : PKeeps pm z (camDisable s k) := by
  unfold camDisable
  repeat' first
    | with_reducible assumption
    | with_reducible apply keeps_wr
    | with_reducible apply keeps_setCam
    | with_reducible apply keeps_camStop
    | with_reducible exact narrow hpm
    | simp only [PKeeps.iff]
    | split

theorem keeps_camStarted {pm : Nat} {z : State} {s : State} {k : Nat} (hpm : Within 0xd872c pm) (hk : Keeps pm z s) : OKeeps pm z (camStarted s k) := by
  unfold camStarted
  repeat' first
    | with_reducible assumption
    | with_reducible exact OKeeps.none
    | with_reducible apply OKeeps.some
    | with_reducible apply keeps_setCause
    | with_reducible apply keeps_enter
    | with_reducible apply keeps_wr
    | with_reducible apply keeps_setCam
    | with_reducible apply keeps_camStop
    | with_reducible exact narrow hpm
    | split

theorem keeps_camStopped {pm : Nat} {z : State} {s : State} {k : Nat} (hpm : Within 0x90728 pm) (hk : Keeps pm z s) : OKeeps pm z (camStopped s k) := by
  unfold camStopped
  repeat' first
    | with_reducible assumption
    | with_reducible exact OKeeps.none
    | with_reducible apply OKeeps.some
    | with_reducible apply keeps_setCause
    | with_reducible apply keeps_enter
    | with_reducible apply keeps_releaseAll
    | with_reducible apply keeps_wr
    | with_reducible apply keeps_camStart
    | with_reducible exact narrow hpm
    | split

theorem keeps_postGate {pm : Nat} {z : State} {s : State} {v : Nat} (hpm : Within 0xd872c pm) (hk : Keeps pm z s) : Keeps pm z (postGate s v) := by
  unfold postGate
  repeat' first
    | with_reducible assumption
    | with_reducible apply keeps_gateFirst
    | split

theorem keeps_verdictTake {pm : Nat} {z : State} {s : State} {v : Nat} (hpm : Within 0xd872c pm) (hk : Keeps pm z s) : PKeeps pm z (verdictTake s v) := by
  unfold verdictTake
  repeat' first
    | with_reducible assumption
    | with_reducible apply keeps_verdictStore
    | with_reducible apply keeps_wr
    | with_reducible apply keeps_setCause
    | with_reducible apply keeps_count64
    | with_reducible apply keeps_bump
    | with_reducible exact narrow hpm
    | simp only [PKeeps.iff]
    | split

theorem keeps_verdictPost {pm : Nat} {z : State} {s : State} {v : Nat} (hpm : Within 0xd872c pm) (hk : Keeps pm z s) : PKeeps pm z (verdictPost s v) := by
  unfold verdictPost
  repeat' first
    | with_reducible assumption
    | with_reducible apply keeps_verdictTake
    | with_reducible apply keeps_postGate

theorem keeps_healthPost {pm : Nat} {z : State} {s : State} {v : Nat} (hpm : Within 0xd874c pm) (hk : Keeps pm z s) : PKeeps pm z (healthPost s v) := by
  unfold healthPost
  repeat' first
    | with_reducible assumption
    | with_reducible apply keeps_setCause
    | with_reducible apply keeps_mapChange
    | with_reducible apply keeps_wr
    | with_reducible exact narrow hpm
    | simp only [PKeeps.iff]
    | split

theorem keeps_archiveRefused {pm : Nat} {z : State} {s : State} (hpm : Within 0x90708 pm) (hk : Keeps pm z s) : OKeeps pm z (archiveRefused s) := by
  unfold archiveRefused
  repeat' first
    | with_reducible assumption
    | with_reducible exact OKeeps.none
    | with_reducible apply OKeeps.some
    | with_reducible apply keeps_lpddrRefuse
    | with_reducible apply keeps_setCause
    | with_reducible apply keeps_bump
    | with_reducible exact narrow hpm
    | (simp only [Keeps.upd]; apply Kp.put_print (hb := bit hpm); with_reducible apply Kp.of)
    | split

theorem keeps_archiveModeWrite {pm : Nat} {z : State} {s : State} {v : Nat} (hpm : Within 0x8 pm) (hk : Keeps pm z s) : PKeeps pm z (archiveModeWrite s v) := by
  unfold archiveModeWrite
  repeat' first
    | with_reducible assumption
    | with_reducible apply keeps_wr
    | simp only [PKeeps.iff]
    | split

theorem keeps_archiveRecord {pm : Nat} {z : State} {s : State} (hpm : Within 0x290748 pm) (hk : Keeps pm z s) : OKeeps pm z (archiveRecord s) := by
  unfold archiveRecord
  dsimp only
  repeat' first
    | with_reducible assumption
    | with_reducible exact OKeeps.none
    | with_reducible apply OKeeps.some
    | with_reducible apply keeps_setCause
    | with_reducible apply keeps_bump
    | with_reducible apply keeps_unitTurned
    | with_reducible apply keeps_wr
    | with_reducible apply keeps_ringWrite
    | with_reducible exact narrow hpm
    | (simp only [Keeps.upd]; apply Kp.put_print (hb := bit hpm); with_reducible apply Kp.of)
    | split

/-! Products -/

theorem keeps_strobe {pm : Nat} {z : State} {s : State} {g : Nat} {k : Int} (hpm : Within 0x9872c pm) (hk : Keeps pm z s) : Keeps pm z (strobe s g k) := by
  unfold strobe
  repeat' first
    | with_reducible assumption
    | with_reducible apply keeps_wr
    | with_reducible apply keeps_barStrobe
    | with_reducible apply keeps_camStrobe
    | with_reducible apply Keeps.foldl
    | with_reducible exact narrow hpm
    | (simp only [Keeps.upd]; apply Kp.put_print (hb := bit hpm); with_reducible apply Kp.of)
    | split
    | with_reducible intro _ _
    | with_reducible intro _

theorem keeps_strobes {pm : Nat} {z : State} {s : State} {e : Nat} {pos : Nat} (hpm : Within 0x9872c pm) (hk : Keeps pm z s) : Keeps pm z (strobes s e pos) := by
  unfold strobes
  repeat' first
    | with_reducible assumption
    | with_reducible apply keeps_strobe
    | with_reducible apply keeps_setGenNext
    | with_reducible apply Keeps.foldl
    | with_reducible exact narrow hpm
    | split
    | with_reducible intro _ _
    | with_reducible intro _

theorem keeps_pipeAdd {pm : Nat} {z : State} {s : State} {due : Nat} {k : PipeKind} (hpm : Within 0x10000 pm) (hk : Keeps pm z s) : Keeps pm z (pipeAdd s due k) := by
  unfold pipeAdd
  repeat' first
    | with_reducible assumption
    | (simp only [Keeps.upd]; apply Kp.put_print (hb := bit hpm); with_reducible apply Kp.of)

theorem keeps_count {pm : Nat} {z : State} {s : State} {e : Nat} {d : Int} (hpm : Within 0x90708 pm) (hk : Keeps pm z s) : Keeps pm z (count s e d) := by
  unfold count
  dsimp only
  repeat' first
    | with_reducible assumption
    | with_reducible apply keeps_setCause
    | with_reducible apply keeps_wr
    | with_reducible apply keeps_setEncoder
    | with_reducible apply keeps_pipeAdd
    | with_reducible exact narrow hpm
    | split

theorem keeps_levels {pm : Nat} {z : State} {s : State} {e : Nat} {a b : Bool} {mode invert : Nat} {take : State → Int → State} (hpm : Within 0x90708 pm) (hk : Keeps pm z s) (htake : ∀ x i, Keeps pm z x → Keeps pm z (take x i)) : Keeps pm z (levels s e a b mode invert take) := by
  unfold levels
  dsimp only
  repeat' first
    | with_reducible apply htake
    | with_reducible assumption
    | with_reducible apply keeps_setEncoder
    | with_reducible apply keeps_setCause
    | with_reducible apply keeps_bump
    | with_reducible exact narrow hpm
    | split

theorem keeps_aonLevels {pm : Nat} {z : State} {s : State} {e : Nat} {v : Nat} {a : Bool} {b : Bool} (hpm : Within 0x90708 pm) (hk : Keeps pm z s) : Keeps pm z (aonLevels s e v a b) := by
  unfold aonLevels
  repeat' first
    | with_reducible assumption
    | with_reducible apply keeps_levels
    | with_reducible apply keeps_setEncoder
    | with_reducible exact narrow hpm
    | with_reducible intro _ _

theorem keeps_ballSampled {pm : Nat} {z : State} {s : State} {of : PipeKind → Option Bool} {taken : Bool} {f : Nat} {k : PipeKind} (hpm : Within 0x10000 pm) (hk : Keeps pm z s) : Keeps pm z (ballSampled s of taken f k) := by
  unfold ballSampled
  repeat' first
    | with_reducible assumption
    | with_reducible apply keeps_pipeAdd
    | (simp only [Keeps.upd]; apply Kp.put_print (hb := bit hpm); with_reducible apply Kp.of)
    | split

theorem keeps_quadrature {pm : Nat} {z : State} {s : State} {e : Nat} {a : Bool} {b : Bool} (hpm : Within 0x90708 pm) (hk : Keeps pm z s) : Keeps pm z (quadrature s e a b) := by
  unfold quadrature
  dsimp only
  repeat' first
    | with_reducible assumption
    | with_reducible apply keeps_aonLevels
    | with_reducible apply keeps_ballSampled
    | with_reducible exact narrow hpm
    | split

theorem keeps_quadTaken {pm : Nat} {z : State} {s : State} {e : Nat} {a : Bool} {b : Bool} (hpm : Within 0x90708 pm) (hk : Keeps pm z s) : Keeps pm z (quadTaken s e a b) := by
  unfold quadTaken
  repeat' first
    | with_reducible assumption
    | with_reducible apply keeps_setEncoder
    | with_reducible apply keeps_levels
    | with_reducible apply keeps_count
    | with_reducible exact narrow hpm
    | split
    | with_reducible intro _ _

theorem keeps_aonQuadrature {pm : Nat} {z : State} {s : State} {e : Nat} {a : Bool} {b : Bool} (hpm : Within 0x90708 pm) (hk : Keeps pm z s) : OKeeps pm z (aonQuadrature s e a b) := by
  unfold aonQuadrature
  repeat' first
    | with_reducible assumption
    | with_reducible exact OKeeps.none
    | with_reducible apply OKeeps.some
    | with_reducible apply keeps_aonLevels
    | split

theorem keeps_resyncMark {pm : Nat} {z : State} {s : State} {e : Nat} (hpm : Within 0x48004 pm) (hk : Keeps pm z s) : Keeps pm z (resyncMark s e) := by
  unfold resyncMark
  repeat' first
    | with_reducible assumption
    | with_reducible refine PKeeps.fst (keeps_sendOrdered ?_ ?_)
    | (simp only [Keeps.upd]; apply Kp.put_pair (hb := bit hpm); with_reducible apply Kp.of)
    | split

theorem keeps_indexEdge {pm : Nat} {z : State} {s : State} {e : Nat} {a2 : Bool} (hpm : Within 0xd870c pm) (hk : Keeps pm z s) : Keeps pm z (indexEdge s e a2) := by
  unfold indexEdge
  dsimp only
  repeat' first
    | with_reducible assumption
    | with_reducible apply keeps_setEncoder
    | with_reducible apply keeps_resyncMark
    | with_reducible apply keeps_setCause
    | with_reducible apply keeps_wr
    | with_reducible exact narrow hpm
    | split

theorem keeps_setTrigLevel {pm : Nat} {z : State} {s : State} {t : Nat} {v : Bool} (hpm : Within 0x10000 pm) (hk : Keeps pm z s) : Keeps pm z (setTrigLevel s t v) := by
  unfold setTrigLevel
  repeat' first
    | with_reducible assumption
    | (simp only [Keeps.upd]; apply Kp.put_print (hb := bit hpm); with_reducible apply Kp.of)

theorem keeps_trigInput {pm : Nat} {z : State} {s : State} {t : Nat} {new : Bool} (hpm : Within 0x10000 pm) (hk : Keeps pm z s) : Keeps pm z (trigInput s t new) := by
  unfold trigInput
  repeat' first
    | with_reducible assumption
    | with_reducible apply keeps_ballSampled
    | with_reducible apply keeps_setTrigLevel

theorem keeps_zSampled {pm : Nat} {z : State} {s : State} {e : Nat} {a2 : Bool} (hpm : Within 0x10000 pm) (hk : Keeps pm z s) : Keeps pm z (zSampled s e a2) := by
  unfold zSampled
  repeat' first
    | with_reducible assumption
    | with_reducible apply keeps_ballSampled
    | with_reducible apply keeps_trigInput
    | with_reducible apply Keeps.foldl
    | split
    | with_reducible intro _ _
    | with_reducible intro _

theorem keeps_trigSampled {pm : Nat} {z : State} {s : State} {t : Nat} {rising : Bool} (hpm : Within 0x10000 pm) (hk : Keeps pm z s) : Keeps pm z (trigSampled s t rising) := by
  unfold trigSampled
  repeat' first
    | with_reducible assumption
    | with_reducible apply keeps_trigInput
    | split

theorem keeps_skipToHigh {pm : Nat} {z : State} {s : State} {e : Nat} (hpm : Within 0x10008 pm) (hk : Keeps pm z s) : Keeps pm z (skipToHigh s e) := by
  unfold skipToHigh
  repeat' first
    | with_reducible assumption
    | with_reducible apply keeps_skipLines
    | with_reducible apply Keeps.foldl
    | split
    | with_reducible intro _ _
    | with_reducible intro _

theorem keeps_fromAon {pm : Nat} {z : State} {s : State} {e : Nat} (hpm : Within 0x90708 pm) (hk : Keeps pm z s) : Keeps pm z (fromAon s e) := by
  unfold fromAon
  dsimp only
  repeat' first
    | with_reducible assumption
    | with_reducible apply keeps_wr
    | with_reducible apply keeps_setEncoder
    | with_reducible apply keeps_setCause
    | with_reducible apply keeps_skipToHigh
    | with_reducible exact narrow hpm
    | split

theorem keeps_fromAonSleep {pm : Nat} {z : State} {s : State} {e : Nat} (hpm : Within 0x90708 pm) (hk : Keeps pm z s) : Keeps pm z (fromAonSleep s e) := by
  unfold fromAonSleep
  dsimp only
  repeat' first
    | with_reducible assumption
    | with_reducible apply keeps_setEncoder
    | with_reducible apply keeps_setCause
    | with_reducible apply keeps_skipToHigh
    | with_reducible apply keeps_wr
    | with_reducible exact narrow hpm
    | split

theorem keeps_encStart {pm : Nat} {z : State} {s : State} {e : Nat} (hpm : Within 0x10028 pm) (hk : Keeps pm z s) : Keeps pm z (encStart s e) := by
  unfold encStart
  repeat' first
    | with_reducible assumption
    | with_reducible apply keeps_enter
    | with_reducible apply keeps_wr
    | with_reducible apply keeps_setEncoder
    | with_reducible exact narrow hpm

theorem keeps_encEnable {pm : Nat} {z : State} {s : State} {e : Nat} (hpm : Within 0x90728 pm) (hk : Keeps pm z s) : PKeeps pm z (encEnable s e) := by
  unfold encEnable
  repeat' first
    | with_reducible assumption
    | with_reducible apply keeps_wr
    | with_reducible apply keeps_encStart
    | with_reducible apply keeps_setEncoder
    | with_reducible refine PKeeps.fst (keeps_takeClaims ?_ ?_)
    | with_reducible exact narrow hpm
    | simp only [PKeeps.iff]
    | split

theorem keeps_encStop {pm : Nat} {z : State} {s : State} {e : Nat} (hpm : Within 0x90728 pm) (hk : Keeps pm z s) : Keeps pm z (encStop s e) := by
  unfold encStop
  repeat' first
    | with_reducible assumption
    | with_reducible apply keeps_fromAon
    | with_reducible apply keeps_enter
    | with_reducible apply keeps_setEncoder
    | with_reducible exact narrow hpm

theorem keeps_encDisable {pm : Nat} {z : State} {s : State} {e : Nat} (hpm : Within 0x90728 pm) (hk : Keeps pm z s) : PKeeps pm z (encDisable s e) := by
  unfold encDisable
  repeat' first
    | with_reducible assumption
    | with_reducible apply keeps_wr
    | with_reducible apply keeps_setEncoder
    | with_reducible apply keeps_encStop
    | with_reducible exact narrow hpm
    | simp only [PKeeps.iff]
    | split

theorem keeps_encStarted {pm : Nat} {z : State} {s : State} {e : Nat} (hpm : Within 0x90728 pm) (hk : Keeps pm z s) : OKeeps pm z (encStarted s e) := by
  unfold encStarted
  repeat' first
    | with_reducible assumption
    | with_reducible exact OKeeps.none
    | with_reducible apply OKeeps.some
    | with_reducible apply keeps_fromAonSleep
    | with_reducible apply keeps_setCause
    | with_reducible apply keeps_wr
    | with_reducible apply keeps_enter
    | with_reducible apply keeps_encStop
    | with_reducible exact narrow hpm
    | split

theorem keeps_encStopped {pm : Nat} {z : State} {s : State} {e : Nat} (hpm : Within 0x90728 pm) (hk : Keeps pm z s) : OKeeps pm z (encStopped s e) := by
  unfold encStopped
  repeat' first
    | with_reducible assumption
    | with_reducible exact OKeeps.none
    | with_reducible apply OKeeps.some
    | with_reducible apply keeps_wr
    | with_reducible apply keeps_encStart
    | with_reducible apply keeps_setCause
    | with_reducible apply keeps_enter
    | with_reducible apply keeps_releaseAll
    | with_reducible exact narrow hpm
    | split

theorem keeps_positionPreset {pm : Nat} {z : State} {s : State} {e : Nat} {v : Nat} (hpm : Within 0x10008 pm) (hk : Keeps pm z s) : PKeeps pm z (positionPreset s e v) := by
  unfold positionPreset
  repeat' first
    | with_reducible assumption
    | with_reducible apply keeps_skipToHigh
    | with_reducible apply keeps_wr
    | with_reducible exact narrow hpm
    | simp only [PKeeps.iff]
    | split

theorem keeps_toAon {pm : Nat} {z : State} {s : State} {e : Nat} (hpm : Within 0x90708 pm) (hk : Keeps pm z s) : Keeps pm z (toAon s e) := by
  unfold toAon
  repeat' first
    | with_reducible assumption
    | with_reducible apply keeps_setEncoder
    | with_reducible apply keeps_aonLevels
    | with_reducible exact narrow hpm
    | (simp only [Keeps.upd]; apply Kp.put_print (hb := bit hpm); with_reducible apply Kp.of)
    | split

theorem keeps_handoffToAon {pm : Nat} {z : State} {s : State} {e : Nat} (hpm : Within 0x90708 pm) (hk : Keeps pm z s) : OKeeps pm z (handoffToAon s e) := by
  unfold handoffToAon
  repeat' first
    | with_reducible assumption
    | with_reducible exact OKeeps.none
    | with_reducible apply OKeeps.some
    | with_reducible apply keeps_toAon
    | split

theorem keeps_handoffFromAon {pm : Nat} {z : State} {s : State} {e : Nat} (hpm : Within 0x90708 pm) (hk : Keeps pm z s) : OKeeps pm z (handoffFromAon s e) := by
  unfold handoffFromAon
  repeat' first
    | with_reducible assumption
    | with_reducible exact OKeeps.none
    | with_reducible apply OKeeps.some
    | with_reducible apply keeps_fromAon
    | split

theorem keeps_genEnable {pm : Nat} {z : State} {s : State} {g : Nat} {v : Nat} (hpm : Within 0x10008 pm) (hk : Keeps pm z s) : PKeeps pm z (genEnable s g v) := by
  unfold genEnable
  repeat' first
    | with_reducible assumption
    | with_reducible apply keeps_wr
    | with_reducible apply keeps_setGenNext
    | with_reducible exact narrow hpm
    | simp only [PKeeps.iff]
    | split

theorem keeps_productCreate {pm : Nat} {z : State} {s : State} {t : Nat} {pos : Nat} (hpm : Within 0x2f876c pm) (hk : Keeps pm z s) : Keeps pm z (productCreate s t pos) := by
  unfold productCreate
  repeat' first
    | with_reducible assumption
    | with_reducible apply keeps_setCause
    | with_reducible apply keeps_bump
    | with_reducible apply keeps_gateAdd
    | with_reducible apply keeps_wr
    | with_reducible apply keeps_registerWindows
    | with_reducible apply keeps_serialAllocate
    | with_reducible apply keeps_regionOpen
    | with_reducible exact narrow hpm
    | (simp only [Keeps.upd]; apply Kp.put_print (hb := bit hpm); with_reducible apply Kp.of)
    | split

theorem keeps_triggerEdge {pm : Nat} {z : State} {s : State} {t : Nat} {rising : Bool} (hpm : Within 0x2f876c pm) (hk : Keeps pm z s) : Keeps pm z (triggerEdge s t rising) := by
  unfold triggerEdge
  repeat' first
    | with_reducible assumption
    | with_reducible apply keeps_setCause
    | with_reducible apply keeps_bump
    | with_reducible apply keeps_resyncMark
    | with_reducible apply keeps_productCreate
    | with_reducible exact narrow hpm
    | (simp only [Keeps.upd]; apply Kp.put_print (hb := bit hpm); with_reducible apply Kp.of)
    | split

theorem keeps_trigEnable {pm : Nat} {z : State} {s : State} {t : Nat} {v : Nat} (hpm : Within 0x80708 pm) (hk : Keeps pm z s) : PKeeps pm z (trigEnable s t v) := by
  unfold trigEnable
  repeat' first
    | with_reducible assumption
    | with_reducible apply keeps_setCause
    | with_reducible apply keeps_wr
    | with_reducible apply keeps_releaseAll
    | with_reducible refine PKeeps.fst (keeps_takeClaims ?_ ?_)
    | with_reducible exact narrow hpm
    | simp only [PKeeps.iff]
    | split

theorem keeps_productRetire {pm : Nat} {z : State} {s : State} {id : Nat} (hpm : Within 0xf872c pm) (hk : Keeps pm z s) : OKeeps pm z (productRetire s id) := by
  unfold productRetire
  repeat' first
    | with_reducible assumption
    | with_reducible exact OKeeps.none
    | with_reducible apply OKeeps.some
    | with_reducible apply keeps_renderDigest
    | with_reducible apply keeps_serialRetire
    | with_reducible exact narrow hpm
    | (simp only [Keeps.upd]; apply Kp.put_print (hb := bit hpm); with_reducible apply Kp.of)
    | split

theorem keeps_pipeStep {pm : Nat} {z : State} {s : State} {c : Nat} (hpm : Within 0x2f876c pm) (hk : Keeps pm z s) : Keeps pm z (pipeStep s c) := by
  unfold pipeStep
  repeat' first
    | with_reducible assumption
    | with_reducible apply keeps_strobes
    | with_reducible apply keeps_quadTaken
    | with_reducible apply keeps_indexEdge
    | with_reducible apply keeps_triggerEdge
    | with_reducible apply keeps_setTrigLevel
    | with_reducible apply Keeps.foldl
    | with_reducible exact narrow hpm
    | (simp only [Keeps.upd]; apply Kp.put_print (hb := bit hpm); with_reducible apply Kp.of)
    | split
    | with_reducible intro _ _
    | with_reducible intro _

theorem keeps_pipeRun {pm : Nat} {z : State} {n : Nat} {a1 : Nat} {s : State} (hpm : Within 0x2f876e pm) (hk : Keeps pm z s) : Keeps pm z (pipeRun n a1 s) := by
  induction n generalizing s with
  | zero =>
    unfold pipeRun
    repeat' first
      | with_reducible assumption
  | succ n ih =>
    unfold pipeRun
    repeat' first
      | with_reducible apply ih
      | with_reducible assumption
      | with_reducible apply keeps_pipeStep
      | with_reducible exact narrow hpm
      | (simp only [Keeps.upd]; repeat' first | (with_reducible apply Kp.of) | (with_reducible apply Kp.passMax (hb := bit hpm)) | (with_reducible apply Kp.passAdd (hb := bit hpm)))
      | split

theorem keeps_arrive {pm : Nat} {z : State} {t : Nat} {s : State} (hpm : Within 0x2f876e pm) (hk : Keeps pm z s) : Keeps pm z (arrive t s) := by
  unfold arrive
  repeat' first
    | with_reducible assumption
    | with_reducible apply keeps_pipeRun
    | with_reducible apply keeps_start
    | with_reducible apply keeps_lanesDue
    | with_reducible exact narrow hpm
    | (simp only [Keeps.upd]; repeat' first | (with_reducible apply Kp.of) | (with_reducible apply Kp.passMax (hb := bit hpm)) | (with_reducible apply Kp.passAdd (hb := bit hpm)))

theorem keeps_forceReject {pm : Nat} {z : State} {s : State} {id : Nat} (hpm : Within 0x90708 pm) (hk : Keeps pm z s) : PKeeps pm z (forceReject s id) := by
  unfold forceReject
  repeat' first
    | with_reducible assumption
    | with_reducible apply keeps_setCause
    | with_reducible apply keeps_setProduct
    | with_reducible exact narrow hpm
    | simp only [PKeeps.iff]
    | split

theorem keeps_printLost {pm : Nat} {z : State} {s : State} (hpm : Within 0x10008 pm) (hk : Keeps pm z s) : Keeps pm z (printLost s) := by
  unfold printLost
  repeat' first
    | with_reducible assumption
    | with_reducible apply keeps_wr
    | with_reducible apply keeps_releaseAll
    | with_reducible apply Keeps.foldl
    | with_reducible exact narrow hpm
    | (simp only [Keeps.upd]; apply Kp.put_print (hb := bit hpm); with_reducible apply Kp.of)
    | with_reducible intro _ _
    | with_reducible intro _

/-! Fields -/

theorem keeps_freezeFrom {pm : Nat} {z : State} {s : State} {f : Nat} {k : Nat} (hpm : Within 0x2000 pm) (hk : Keeps pm z s) : Keeps pm z (freezeFrom s f k) := by
  unfold freezeFrom
  repeat' first
    | with_reducible assumption
    | with_reducible apply keeps_fieldNow
    | with_reducible apply keeps_setField
    | split

theorem keeps_freezeField {pm : Nat} {z : State} {s : State} {f : Nat} (hpm : Within 0x2000 pm) (hk : Keeps pm z s) : Keeps pm z (freezeField s f) := by
  unfold freezeField
  repeat' first
    | with_reducible assumption
    | with_reducible apply keeps_freezeFrom

theorem keeps_thawField {pm : Nat} {z : State} {s : State} {f : Nat} (hpm : Within 0x2000 pm) (hk : Keeps pm z s) : Keeps pm z (thawField s f) := by
  unfold thawField
  repeat' first
    | with_reducible assumption
    | with_reducible apply keeps_fieldNow
    | with_reducible apply keeps_setField
    | split

theorem keeps_fieldRunWrite {pm : Nat} {z : State} {s : State} {f : Nat} {v : Nat} (hpm : Within 0x2008 pm) (hk : Keeps pm z s) : PKeeps pm z (fieldRunWrite s f v) := by
  unfold fieldRunWrite
  repeat' first
    | with_reducible assumption
    | with_reducible apply keeps_freezeFrom
    | with_reducible apply keeps_wr
    | with_reducible apply keeps_thawField
    | with_reducible exact narrow hpm
    | simp only [PKeeps.iff]
    | split

theorem keeps_fieldClearWrite {pm : Nat} {z : State} {s : State} {f : Nat} (hpm : Within 0x2000 pm) (hk : Keeps pm z s) : PKeeps pm z (fieldClearWrite s f) := by
  unfold fieldClearWrite
  repeat' first
    | with_reducible assumption
    | with_reducible apply keeps_setField
    | simp only [PKeeps.iff]
    | split

theorem keeps_capoBoundary {pm : Nat} {z : State} {s : State} (hpm : Within 0x2008 pm) (hk : Keeps pm z s) : OKeeps pm z (capoBoundary s) := by
  unfold capoBoundary
  dsimp only
  repeat' first
    | with_reducible assumption
    | with_reducible exact OKeeps.none
    | with_reducible apply OKeeps.some
    | with_reducible apply keeps_wr
    | with_reducible apply keeps_freezeField
    | with_reducible apply keeps_thawField
    | with_reducible apply keeps_setField
    | with_reducible apply Keeps.foldl
    | with_reducible exact narrow hpm
    | split
    | with_reducible intro _ _

theorem keeps_fieldRetained {pm : Nat} {z : State} {s : State} {f : Nat} (hpm : Within 0x2008 pm) (hk : Keeps pm z s) : Keeps pm z (fieldRetained s f) := by
  unfold fieldRetained
  repeat' first
    | with_reducible assumption
    | with_reducible apply keeps_freezeField
    | with_reducible apply keeps_wr
    | with_reducible apply keeps_setField
    | with_reducible exact narrow hpm

theorem keeps_fieldLost {pm : Nat} {z : State} {s : State} {f : Nat} (hpm : Within 0x20c8 pm) (hk : Keeps pm z s) : Keeps pm z (fieldLost s f) := by
  unfold fieldLost
  repeat' first
    | with_reducible assumption
    | with_reducible apply keeps_setField
    | with_reducible apply keeps_wr
    | with_reducible apply keeps_memForget
    | with_reducible exact narrow hpm

theorem keeps_loadUse {pm : Nat} {z : State} {s : State} {a : Nat} {len : Nat} (hpm : Within 0x280708 pm) (hk : Keeps pm z s) : Keeps pm z (loadUse s a len) := by
  unfold loadUse
  dsimp only
  repeat' first
    | with_reducible assumption
    | with_reducible apply keeps_unitTurned
    | with_reducible apply keeps_unitUse
    | with_reducible exact narrow hpm
    | split

theorem keeps_tuningGo {pm : Nat} {z : State} {s : State} (hpm : Within 0x282728 pm) (hk : Keeps pm z s) : PKeeps pm z (tuningGo s) := by
  unfold tuningGo
  repeat' first
    | with_reducible assumption
    | with_reducible apply keeps_enter
    | with_reducible apply keeps_loadUse
    | with_reducible exact narrow hpm
    | (simp only [Keeps.upd]; apply Kp.put_arr (hb := bit hpm); with_reducible apply Kp.of)
    | simp only [PKeeps.iff]
    | split

theorem keeps_raiseFields {pm : Nat} {z : State} {s : State} {l : List Nat} (hpm : Within 0x80708 pm) (hk : Keeps pm z s) : Keeps pm z (raiseFields s l) := by
  unfold raiseFields
  repeat' first
    | with_reducible assumption
    | with_reducible apply keeps_raiseEvent
    | with_reducible apply Keeps.foldl
    | with_reducible intro _ _

theorem keeps_loadFailed {pm : Nat} {z : State} {s : State} {st : Status} {step : Nat} {fields : List Nat} (hpm : Within 0x82728 pm) (hk : Keeps pm z s) : Keeps pm z (loadFailed s st step fields) := by
  unfold loadFailed
  repeat' first
    | with_reducible assumption
    | with_reducible apply keeps_setField
    | with_reducible apply keeps_wr
    | with_reducible apply keeps_enter
    | with_reducible apply keeps_raiseFields
    | with_reducible apply Keeps.foldl
    | with_reducible exact narrow hpm
    | (simp only [Keeps.upd]; apply Kp.put_arr (hb := bit hpm); with_reducible apply Kp.of)
    | with_reducible intro _ _

theorem keeps_tuningChecked {pm : Nat} {z : State} {s : State} (hpm : Within 0x282768 pm) (hk : Keeps pm z s) : OKeeps pm z (tuningChecked s) := by
  unfold tuningChecked
  dsimp only
  repeat' first
    | with_reducible assumption
    | with_reducible exact OKeeps.none
    | with_reducible apply OKeeps.some
    | with_reducible apply keeps_memWrite
    | with_reducible apply keeps_loadUse
    | with_reducible apply keeps_loadFailed
    | with_reducible apply keeps_bump
    | with_reducible apply keeps_setField
    | with_reducible apply keeps_enter
    | with_reducible apply Keeps.foldl
    | with_reducible exact narrow hpm
    | (simp only [Keeps.upd]; apply Kp.put_arr (hb := bit hpm); with_reducible apply Kp.of)
    | split
    | with_reducible intro _ _

theorem keeps_tuningCopyDone {pm : Nat} {z : State} {s : State} (hpm : Within 0x2282768 pm) (hk : Keeps pm z s) : OKeeps pm z (tuningCopyDone s) := by
  unfold tuningCopyDone
  repeat' first
    | with_reducible assumption
    | with_reducible exact OKeeps.none
    | with_reducible apply keeps_signAgain
    | with_reducible apply keeps_tuningChecked
    | with_reducible apply OKeeps.map
    | with_reducible exact narrow hpm
    | split
    | with_reducible intro _ _

theorem keeps_tuningComplete {pm : Nat} {z : State} {s0 : State} (hpm : Within 0x282728 pm) (hk : Keeps pm z s0) : OKeeps pm z (tuningComplete s0) := by
  unfold tuningComplete
  dsimp only
  repeat' first
    | with_reducible assumption
    | with_reducible exact OKeeps.none
    | with_reducible apply OKeeps.some
    | with_reducible apply keeps_loadUse
    | with_reducible apply keeps_loadFailed
    | with_reducible apply keeps_bump
    | with_reducible apply keeps_setField
    | with_reducible apply keeps_wr
    | with_reducible apply keeps_enter
    | with_reducible apply keeps_raiseFields
    | with_reducible apply Keeps.foldl
    | with_reducible exact narrow hpm
    | (simp only [Keeps.upd]; apply Kp.put_arr (hb := bit hpm); with_reducible apply Kp.of)
    | split
    | with_reducible intro _ _

theorem keeps_loadTargetGone {pm : Nat} {z : State} {s : State} {gone : Nat → Bool} (hpm : Within 0x82728 pm) (hk : Keeps pm z s) : Keeps pm z (loadTargetGone s gone) := by
  unfold loadTargetGone
  repeat' first
    | with_reducible assumption
    | with_reducible apply keeps_loadFailed
    | with_reducible apply keeps_bump
    | with_reducible exact narrow hpm
    | split

theorem keeps_rowBypassWrite {pm : Nat} {z : State} {s : State} {r : Nat} {v : Nat} (hpm : Within 0x82728 pm) (hk : Keeps pm z s) : PKeeps pm z (rowBypassWrite s r v) := by
  unfold rowBypassWrite
  repeat' first
    | with_reducible assumption
    | with_reducible apply keeps_loadTargetGone
    | with_reducible apply keeps_setField
    | with_reducible apply keeps_retuneWithdraw
    | with_reducible apply keeps_wr
    | with_reducible apply Keeps.foldl
    | with_reducible exact narrow hpm
    | simp only [PKeeps.iff]
    | split
    | with_reducible intro _ _
    | with_reducible intro _

theorem keeps_retuneIssue {pm : Nat} {z : State} {s : State} {f : Nat} {target : Nat} {mode : Nat} {trigger : Nat} {cuePort : Nat} {cueValue : Nat} {cueMask : Nat} (hpm : Within 0x82708 pm) (hk : Keeps pm z s) : Keeps pm z (retuneIssue s f target mode trigger cuePort cueValue cueMask) := by
  unfold retuneIssue
  repeat' first
    | with_reducible assumption
    | with_reducible apply keeps_setField
    | with_reducible apply keeps_wr
    | with_reducible apply keeps_retuneStart
    | with_reducible exact narrow hpm
    | split

theorem keeps_retuneGo {pm : Nat} {z : State} {s : State} {f : Nat} (hpm : Within 0x82708 pm) (hk : Keeps pm z s) : PKeeps pm z (retuneGo s f) := by
  unfold retuneGo
  repeat' first
    | with_reducible assumption
    | with_reducible apply keeps_retuneIssue
    | simp only [PKeeps.iff]
    | split

theorem keeps_groupGo {pm : Nat} {z : State} {s : State} (hpm : Within 0x82708 pm) (hk : Keeps pm z s) : PKeeps pm z (groupGo s) := by
  unfold groupGo
  repeat' first
    | with_reducible assumption
    | with_reducible apply keeps_retuneIssue
    | with_reducible apply Keeps.foldl
    | simp only [PKeeps.iff]
    | split
    | with_reducible intro _ _

theorem keeps_retuneCancel {pm : Nat} {z : State} {s : State} {f : Nat} (hpm : Within 0x2008 pm) (hk : Keeps pm z s) : PKeeps pm z (retuneCancel s f) := by
  unfold retuneCancel
  repeat' first
    | with_reducible assumption
    | with_reducible apply keeps_retuneWithdraw
    | simp only [PKeeps.iff]
    | split

theorem keeps_activateSlot {pm : Nat} {z : State} {s : State} {f : Nat} {slot : Nat} (hpm : Within 0x2008 pm) (hk : Keeps pm z s) : PKeeps pm z (activateSlot s f slot) := by
  unfold activateSlot
  repeat' first
    | with_reducible assumption
    | with_reducible apply keeps_wr
    | with_reducible apply keeps_setField
    | with_reducible exact narrow hpm
    | simp only [PKeeps.iff]
    | split

theorem keeps_fieldFromCapo {pm : Nat} {z : State} {s : State} {f : Nat} {g : Nat → Nat} {stages : Bool} (hpm : Within 0x2008 pm) (hk : Keeps pm z s) : Keeps pm z (fieldFromCapo s f g stages) := by
  unfold fieldFromCapo
  dsimp only
  repeat' first
    | with_reducible assumption
    | with_reducible apply keeps_setField
    | with_reducible apply keeps_wr
    | with_reducible exact narrow hpm
    | split

theorem keeps_configRegWrite {pm : Nat} {z : State} {s : State} {f : Nat} {off : Nat} {v : Nat} (hpm : Within 0x2000 pm) (hk : Keeps pm z s) : PKeeps pm z (configRegWrite s f off v) := by
  unfold configRegWrite
  repeat' first
    | with_reducible assumption
    | with_reducible apply keeps_fieldNow
    | with_reducible apply keeps_setField
    | simp only [PKeeps.iff]
    | split

theorem keeps_configLutWrite {pm : Nat} {z : State} {s : State} {f : Nat} {off : Nat} {v : Nat} (hpm : Within 0x2000 pm) (hk : Keeps pm z s) : PKeeps pm z (configLutWrite s f off v) := by
  unfold configLutWrite
  repeat' first
    | with_reducible assumption
    | with_reducible apply keeps_setField
    | simp only [PKeeps.iff]
    | split

theorem keeps_capoPut {pm : Nat} {z : State} {s : State} {f : Nat} {off : Nat} {v : Nat} (hpm : Within 0x2008 pm) (hk : Keeps pm z s) : Keeps pm z (capoPut s f off v) := by
  unfold capoPut
  repeat' first
    | with_reducible assumption
    | with_reducible apply keeps_fieldFromCapo
    | with_reducible apply keeps_setField
    | with_reducible exact narrow hpm
    | split

theorem keeps_capoStateWrite {pm : Nat} {z : State} {s : State} {f : Nat} {off : Nat} {v : Nat} (hpm : Within 0x2008 pm) (hk : Keeps pm z s) : PKeeps pm z (capoStateWrite s f off v) := by
  unfold capoStateWrite
  repeat' first
    | with_reducible assumption
    | with_reducible apply keeps_capoPut
    | with_reducible apply keeps_fieldNow
    | with_reducible exact narrow hpm
    | simp only [PKeeps.iff]
    | split

theorem keeps_portRefused {pm : Nat} {z : State} {s : State} {f : Nat} {p : State × Status} (hpm : Within 0x8 pm) (hk : Keeps pm z s) (hp : PKeeps pm z p) : PKeeps pm z (portRefused s f p) := by
  unfold portRefused
  split
  · exact hp
  · exact keeps_bump (narrow hpm) hk

theorem keeps_configPortWrite {pm : Nat} {z : State} {s : State} {f : Nat} {off : Nat} {v : Nat} (hpm : Within 0x2008 pm) (hk : Keeps pm z s) : PKeeps pm z (configPortWrite s f off v) := by
  unfold configPortWrite
  repeat' first
    | with_reducible assumption
    | with_reducible apply keeps_portRefused
    | with_reducible apply keeps_configRegWrite
    | with_reducible apply keeps_setField
    | with_reducible apply keeps_configLutWrite
    | with_reducible apply keeps_capoStateWrite
    | with_reducible exact narrow hpm
    | simp only [PKeeps.iff]
    | split

theorem keeps_configPortLoad {pm : Nat} {z : State} {s : State} {f : Nat} {off : Nat} (hpm : Within 0x2008 pm) (hk : Keeps pm z s) : PKeeps pm z (configPortLoad s f off) := by
  unfold configPortLoad
  repeat' first
    | with_reducible assumption
    | with_reducible apply keeps_bump
    | with_reducible exact narrow hpm
    | simp only [PKeeps.iff]
    | split

end Sys2Proof.Laws
end

