-- ==== Sys2Proof/Laws/KeepsSystem.lean ====
section
/-! SUPPORT. What the pair agent, the scheduler, the Peg cores, the network, the stores, security and power keep of the state before (Laws/Keeps.lean): one lemma per function. -/

set_option Elab.async false

namespace Sys2Proof.Laws

open Sys2Proof.Machine

/-! Pair -/

theorem keeps_setPair {pm : Nat} {z : State} {s : State} {x : PairState} (hpm : Within 0x40000 pm) (hk : Keeps pm z s) : Keeps pm z (setPair s x) := by
  unfold setPair
  repeat' first
    | with_reducible assumption
    | (simp only [Keeps.upd]; apply Kp.put_pair (hb := bit hpm); with_reducible apply Kp.of)

theorem keeps_enterSolo {pm : Nat} {z : State} {s : State} {reason : Nat} (hpm : Within 0xe0728 pm) (hk : Keeps pm z s) : Keeps pm z (enterSolo s reason) := by
  unfold enterSolo
  dsimp only
  repeat' first
    | with_reducible assumption
    | with_reducible apply keeps_commitAll
    | with_reducible apply keeps_wr
    | with_reducible apply keeps_setRole
    | with_reducible apply keeps_setPair
    | with_reducible apply keeps_bump
    | with_reducible exact narrow hpm
    | split

theorem keeps_resyncFail {pm : Nat} {z : State} {s : State} {st : Status} (hpm : Within 0x80728 pm) (hk : Keeps pm z s) : Keeps pm z (resyncFail s st) := by
  unfold resyncFail
  repeat' first
    | with_reducible assumption
    | with_reducible apply keeps_setCause
    | with_reducible apply keeps_setRole
    | with_reducible apply keeps_wr
    | with_reducible apply keeps_setResync
    | with_reducible exact narrow hpm

theorem keeps_pairArbitrate {pm : Nat} {z : State} {s : State} (hpm : Within 0xc0728 pm) (hk : Keeps pm z s) : Keeps pm z (pairArbitrate s) := by
  unfold pairArbitrate
  repeat' first
    | with_reducible assumption
    | with_reducible apply keeps_setRole
    | with_reducible apply keeps_setPair
    | with_reducible exact narrow hpm
    | split

theorem keeps_pairEnable {pm : Nat} {z : State} {s : State} {v : Nat} (hpm : Within 0xe0728 pm) (hk : Keeps pm z s) : PKeeps pm z (pairEnable s v) := by
  unfold pairEnable
  repeat' first
    | with_reducible assumption
    | with_reducible apply keeps_pairArbitrate
    | with_reducible apply keeps_wr
    | with_reducible apply keeps_commitAll
    | with_reducible apply keeps_setRole
    | with_reducible apply keeps_sourceFail
    | with_reducible apply keeps_setPair
    | with_reducible apply keeps_setResync
    | with_reducible apply keeps_releaseAll
    | with_reducible refine PKeeps.fst (keeps_takeClaims ?_ ?_)
    | with_reducible exact narrow hpm
    | simp only [PKeeps.iff]
    | split

theorem keeps_helloAll {pm : Nat} {z : State} {s : State} (hpm : Within 0x8004 pm) (hk : Keeps pm z s) : Keeps pm z (helloAll s) := by
  unfold helloAll
  repeat' first
    | with_reducible assumption
    | with_reducible apply keeps_sendPair
    | with_reducible apply Keeps.foldl
    | split
    | with_reducible intro _ _
    | with_reducible intro _

theorem keeps_helloSend {pm : Nat} {z : State} {s : State} (hpm : Within 0x48004 pm) (hk : Keeps pm z s) : OKeeps pm z (helloSend s) := by
  unfold helloSend
  repeat' first
    | with_reducible assumption
    | with_reducible exact OKeeps.none
    | with_reducible apply OKeeps.some
    | with_reducible apply keeps_helloAll
    | with_reducible apply keeps_setPair
    | with_reducible exact narrow hpm
    | split

theorem keeps_heartbeatSend {pm : Nat} {z : State} {s : State} {i : Nat} (hpm : Within 0x48004 pm) (hk : Keeps pm z s) : OKeeps pm z (heartbeatSend s i) := by
  unfold heartbeatSend
  repeat' first
    | with_reducible assumption
    | with_reducible exact OKeeps.none
    | with_reducible apply OKeeps.some
    | with_reducible apply keeps_setPair
    | with_reducible apply keeps_sendPair
    | with_reducible exact narrow hpm
    | split

theorem keeps_arbitrationExpire {pm : Nat} {z : State} {s : State} (hpm : Within 0xe0728 pm) (hk : Keeps pm z s) : OKeeps pm z (arbitrationExpire s) := by
  unfold arbitrationExpire
  dsimp only
  repeat' first
    | with_reducible assumption
    | with_reducible exact OKeeps.none
    | with_reducible apply OKeeps.some
    | with_reducible apply keeps_enterSolo
    | split

theorem keeps_firmwareKick {pm : Nat} {z : State} {s : State} (hpm : Within 0x40000 pm) (hk : Keeps pm z s) : Keeps pm z (firmwareKick s) := by
  unfold firmwareKick
  repeat' first
    | with_reducible assumption
    | with_reducible apply keeps_setPair

theorem keeps_watchdogExpire {pm : Nat} {z : State} {s : State} {agentStopped : Bool} (hpm : Within 0x100e0728 pm) (hk : Keeps pm z s) : OKeeps pm z (watchdogExpire s agentStopped) := by
  unfold watchdogExpire
  dsimp only
  repeat' first
    | with_reducible assumption
    | with_reducible exact OKeeps.none
    | with_reducible apply OKeeps.some
    | with_reducible apply keeps_standDown
    | split

theorem keeps_takeover {pm : Nat} {z : State} {s : State} (hpm : Within 0xf072a pm) (hk : Keeps pm z s) : Keeps pm z (takeover s) := by
  unfold takeover
  repeat' first
    | with_reducible assumption
    | with_reducible apply keeps_setCause
    | with_reducible apply keeps_bump
    | with_reducible apply keeps_wr
    | with_reducible apply keeps_enterSolo
    | with_reducible apply keeps_serialTakeover
    | with_reducible apply keeps_suspectLines
    | with_reducible exact narrow hpm
    | (simp only [Keeps.upd]; repeat' first | (with_reducible apply Kp.of) | (with_reducible apply Kp.passMax (hb := bit hpm)) | (with_reducible apply Kp.passAdd (hb := bit hpm)))

theorem keeps_sideSampled {pm : Nat} {z : State} {s : State} {alive : Bool} {role : Bool} (hpm : Within 0x40008 pm) (hk : Keeps pm z s) : Keeps pm z (sideSampled s alive role) := by
  unfold sideSampled
  repeat' first
    | with_reducible assumption
    | with_reducible apply keeps_setPair
    | with_reducible apply keeps_wr
    | with_reducible exact narrow hpm

theorem keeps_sideFault {pm : Nat} {z : State} {s : State} (hpm : Within 0xc0708 pm) (hk : Keeps pm z s) : Keeps pm z (sideFault s) := by
  unfold sideFault
  repeat' first
    | with_reducible assumption
    | with_reducible apply keeps_setCause
    | with_reducible apply keeps_bump
    | with_reducible apply keeps_setPair
    | with_reducible exact narrow hpm
    | split

theorem keeps_sidebands {pm : Nat} {z : State} {s : State} {alive : Bool} {role : Bool} (hpm : Within 0xf072a pm) (hk : Keeps pm z s) : Keeps pm z (sidebands s alive role) := by
  unfold sidebands
  dsimp only
  repeat' first
    | with_reducible assumption
    | with_reducible apply keeps_sideSampled
    | with_reducible apply keeps_enterSolo
    | with_reducible apply keeps_sideFault
    | with_reducible apply keeps_takeover
    | with_reducible apply keeps_resyncFail
    | with_reducible exact narrow hpm
    | split

theorem keeps_linkLose {pm : Nat} {z : State} {s : State} (hpm : Within 0x80728 pm) (hk : Keeps pm z s) : OKeeps pm z (linkLose s) := by
  unfold linkLose
  repeat' first
    | with_reducible assumption
    | with_reducible exact OKeeps.none
    | with_reducible apply OKeeps.some
    | with_reducible apply keeps_setCause
    | with_reducible apply keeps_showLanes
    | with_reducible apply keeps_enter
    | with_reducible exact narrow hpm
    | split

theorem keeps_linkLost200 {pm : Nat} {z : State} {s : State} (hpm : Within 0xe872c pm) (hk : Keeps pm z s) : OKeeps pm z (linkLost200 s) := by
  unfold linkLost200
  repeat' first
    | with_reducible assumption
    | with_reducible exact OKeeps.none
    | with_reducible apply OKeeps.some
    | with_reducible apply keeps_enterSolo
    | with_reducible apply keeps_orphan
    | with_reducible apply keeps_resyncFail
    | with_reducible exact narrow hpm
    | split

theorem keeps_answerExpire {pm : Nat} {z : State} {s : State} (hpm : Within 0xe0728 pm) (hk : Keeps pm z s) : OKeeps pm z (answerExpire s) := by
  unfold answerExpire
  repeat' first
    | with_reducible assumption
    | with_reducible exact OKeeps.none
    | with_reducible apply OKeeps.some
    | with_reducible apply keeps_enterSolo
    | split

theorem keeps_laneBeatExpire {pm : Nat} {z : State} {s : State} {i : Nat} (hpm : Within 0x4800c pm) (hk : Keeps pm z s) : OKeeps pm z (laneBeatExpire s i) := by
  unfold laneBeatExpire
  repeat' first
    | with_reducible assumption
    | with_reducible exact OKeeps.none
    | with_reducible apply OKeeps.some
    | with_reducible apply keeps_moveOrdered
    | with_reducible apply keeps_setPair
    | with_reducible exact narrow hpm
    | split

theorem keeps_pairValid {pm : Nat} {z : State} {s : State} {i : Nat} {kind : Nat} {role : Nat} {p : List Byte} {ok : Bool} (hpm : Within 0xc0728 pm) (hk : Keeps pm z s) : PKeeps pm z (pairValid s i kind role p ok) := by
  unfold pairValid
  repeat' first
    | with_reducible assumption
    | with_reducible apply keeps_bump
    | with_reducible apply keeps_setPair
    | with_reducible apply keeps_wr
    | with_reducible apply keeps_setCause
    | with_reducible apply keeps_enter
    | with_reducible refine PKeeps.fst (keeps_laneDelivers ?_ ?_)
    | with_reducible exact narrow hpm
    | simp only [PKeeps.iff]
    | split

theorem keeps_pairArrive {pm : Nat} {z : State} {s : State} {i : Nat} {kind : Nat} {role : Nat} {p : List Byte} {ok : Bool} (hpm : Within 0xc0728 pm) (hk : Keeps pm z s) : PKeeps pm z (pairArrive s i kind role p ok) := by
  unfold pairArrive
  repeat' first
    | with_reducible assumption
    | with_reducible apply keeps_resyncFail
    | with_reducible apply keeps_sourceFail
    | with_reducible refine PKeeps.fst (keeps_pairValid ?_ ?_)
    | with_reducible exact narrow hpm
    | simp only [PKeeps.iff]
    | split

theorem keeps_pairAnswer {pm : Nat} {z : State} {s : State} {seq : Nat} {ack : Bool} {st : Nat} (hpm : Within 0x48004 pm) (hk : Keeps pm z s) : Keeps pm z (pairAnswer s seq ack st) := by
  unfold pairAnswer
  dsimp only
  repeat' first
    | with_reducible assumption
    | with_reducible apply keeps_setPair
    | with_reducible apply keeps_sendPair
    | with_reducible exact narrow hpm
    | split

theorem keeps_pairOrdered {pm : Nat} {z : State} {s : State} {i : Nat} {kind : Nat} {seq : Nat} {role : Nat} {p : List Byte} {ok : Bool} {f : State → State × Bool × Nat} (hpm : Within 0xc872c pm) (hk : Keeps pm z s) (hf : ∀ x, Keeps pm z x → PKeeps pm z (f x)) : Keeps pm z (pairOrdered s i kind seq role p ok f) := by
  unfold pairOrdered
  dsimp only
  repeat' first
    | with_reducible assumption
    | with_reducible apply keeps_pairAnswer
    | with_reducible refine PKeeps.fst (keeps_pairArrive ?_ ?_)
    | with_reducible refine PKeeps.fst (hf _ ?_)
    | with_reducible exact narrow hpm
    | split

theorem keeps_heartbeatReceived {pm : Nat} {z : State} {s : State} {i : Nat} {role : Nat} {p : List Byte} {ok : Bool} (hpm : Within 0xc872c pm) (hk : Keeps pm z s) : Keeps pm z (heartbeatReceived s i role p ok) := by
  unfold heartbeatReceived
  dsimp only
  repeat' first
    | with_reducible assumption
    | with_reducible apply keeps_moveOrdered
    | with_reducible apply keeps_setPair
    | with_reducible apply keeps_resyncFail
    | with_reducible apply keeps_sourceFail
    | with_reducible refine PKeeps.fst (keeps_pairValid ?_ ?_)
    | with_reducible exact narrow hpm
    | split

theorem keeps_helloReceived {pm : Nat} {z : State} {s : State} {i : Nat} {role : Nat} {p : List Byte} {ok : Bool} (hpm : Within 0xe872c pm) (hk : Keeps pm z s) : Keeps pm z (helloReceived s i role p ok) := by
  unfold helloReceived
  dsimp only
  repeat' first
    | with_reducible assumption
    | with_reducible apply keeps_wr
    | with_reducible apply keeps_setPair
    | with_reducible apply keeps_setRole
    | with_reducible apply keeps_setResync
    | with_reducible apply keeps_setCause
    | with_reducible apply keeps_enterSolo
    | with_reducible apply keeps_resyncFail
    | with_reducible apply keeps_sendPair
    | with_reducible refine PKeeps.fst (keeps_pairArrive ?_ ?_)
    | with_reducible exact narrow hpm
    | split

theorem keeps_answered_ {pm : Nat} {z : State} {s : State} {seq : Nat} {ack : Bool} {st : Nat} (hpm : Within 0xf0708 pm) (hk : Keeps pm z s) : Keeps pm z (answered_ s seq ack st) := by
  unfold answered_
  repeat' first
    | with_reducible assumption
    | with_reducible apply keeps_setPair
    | with_reducible apply keeps_serialAnswered
    | with_reducible exact narrow hpm

theorem keeps_ackReceived {pm : Nat} {z : State} {s : State} {i : Nat} {seq : Nat} {role : Nat} {p : List Byte} {ok : Bool} (hpm : Within 0xf0728 pm) (hk : Keeps pm z s) : Keeps pm z (ackReceived s i seq role p ok) := by
  unfold ackReceived
  dsimp only
  repeat' first
    | with_reducible assumption
    | with_reducible apply keeps_answered_
    | with_reducible refine PKeeps.fst (keeps_pairArrive ?_ ?_)
    | with_reducible exact narrow hpm
    | split

theorem keeps_nakReceived {pm : Nat} {z : State} {s : State} {i : Nat} {seq : Nat} {role : Nat} {p : List Byte} {ok : Bool} (hpm : Within 0xf0728 pm) (hk : Keeps pm z s) : Keeps pm z (nakReceived s i seq role p ok) := by
  unfold nakReceived
  dsimp only
  repeat' first
    | with_reducible assumption
    | with_reducible apply keeps_answered_
    | with_reducible apply keeps_enterSolo
    | with_reducible refine PKeeps.fst (keeps_pairArrive ?_ ?_)
    | with_reducible exact narrow hpm
    | split

theorem keeps_commitFrame {pm : Nat} {z : State} {s : State} {i : Nat} {seq : Nat} {role : Nat} {p : List Byte} {ok : Bool} (hpm : Within 0xf872c pm) (hk : Keeps pm z s) : Keeps pm z (commitFrame s i seq role p ok) := by
  unfold commitFrame
  repeat' first
    | with_reducible assumption
    | with_reducible apply keeps_pairOrdered
    | with_reducible apply keeps_setPair
    | with_reducible apply keeps_orphan
    | with_reducible refine PKeeps.fst (keeps_commitReceived ?_ ?_)
    | with_reducible exact narrow hpm
    | simp only [PKeeps.iff]
    | split
    | with_reducible intro _ _

theorem keeps_reserveFrame {pm : Nat} {z : State} {s : State} {i : Nat} {seq : Nat} {role : Nat} {p : List Byte} {ok : Bool} (hpm : Within 0xe872c pm) (hk : Keeps pm z s) : Keeps pm z (reserveFrame s i seq role p ok) := by
  unfold reserveFrame
  repeat' first
    | with_reducible assumption
    | with_reducible apply keeps_pairOrdered
    | with_reducible apply keeps_reserveReceived
    | with_reducible apply keeps_setPair
    | with_reducible exact narrow hpm
    | simp only [PKeeps.iff]
    | split
    | with_reducible intro _ _

theorem keeps_mapSwitchApply {pm : Nat} {z : State} {s : State} {p : List Byte} (hpm : Within 0x40048 pm) (hk : Keeps pm z s) : PKeeps pm z (mapSwitchApply s p) := by
  unfold mapSwitchApply
  repeat' first
    | with_reducible assumption
    | with_reducible apply keeps_setPair
    | with_reducible apply keeps_mapWrite
    | with_reducible exact narrow hpm
    | simp only [PKeeps.iff]
    | split

theorem keeps_mapSwitchFrame {pm : Nat} {z : State} {s : State} {i : Nat} {seq : Nat} {role : Nat} {p : List Byte} {ok : Bool} (hpm : Within 0xc876c pm) (hk : Keeps pm z s) : Keeps pm z (mapSwitchFrame s i seq role p ok) := by
  unfold mapSwitchFrame
  repeat' first
    | with_reducible assumption
    | with_reducible apply keeps_pairOrdered
    | with_reducible apply keeps_orphan
    | with_reducible refine PKeeps.fst (keeps_mapSwitchApply ?_ ?_)
    | with_reducible exact narrow hpm
    | simp only [PKeeps.iff]
    | split
    | with_reducible intro _ _

theorem keeps_checkpointStateFrame {pm : Nat} {z : State} {s : State} {i : Nat} {seq : Nat} {role : Nat} {p : List Byte} {ok : Bool} (hpm : Within 0xe873c pm) (hk : Keeps pm z s) : Keeps pm z (checkpointStateFrame s i seq role p ok) := by
  unfold checkpointStateFrame
  repeat' first
    | with_reducible assumption
    | with_reducible apply keeps_pairOrdered
    | with_reducible apply keeps_checkpointStateReceived
    | with_reducible exact narrow hpm
    | simp only [PKeeps.iff]
    | split
    | with_reducible intro _ _

theorem keeps_digestFrame {pm : Nat} {z : State} {s : State} {i : Nat} {seq : Nat} {role : Nat} {p : List Byte} {ok : Bool} (hpm : Within 0xd872c pm) (hk : Keeps pm z s) : Keeps pm z (digestFrame s i seq role p ok) := by
  unfold digestFrame
  repeat' first
    | with_reducible assumption
    | with_reducible apply keeps_pairOrdered
    | with_reducible apply keeps_digestNote
    | with_reducible exact narrow hpm
    | simp only [PKeeps.iff]
    | split
    | with_reducible intro _ _

theorem keeps_orphanFrame {pm : Nat} {z : State} {s : State} {i : Nat} {seq : Nat} {role : Nat} {p : List Byte} {ok : Bool} (hpm : Within 0xe872c pm) (hk : Keeps pm z s) : Keeps pm z (orphanFrame s i seq role p ok) := by
  unfold orphanFrame
  repeat' first
    | with_reducible assumption
    | with_reducible apply keeps_pairOrdered
    | with_reducible apply keeps_enterSolo
    | with_reducible apply keeps_orphan
    | with_reducible exact narrow hpm
    | simp only [PKeeps.iff]
    | split
    | with_reducible intro _ _

theorem keeps_resyncRequest {pm : Nat} {z : State} {s : State} (hpm : Within 0xc0728 pm) (hk : Keeps pm z s) : PKeeps pm z (resyncRequest s) := by
  unfold resyncRequest
  repeat' first
    | with_reducible assumption
    | with_reducible apply keeps_setPair
    | with_reducible apply keeps_setRole
    | with_reducible apply keeps_wr
    | with_reducible apply keeps_setResync
    | with_reducible exact narrow hpm
    | simp only [PKeeps.iff]
    | split

theorem keeps_pairLost {pm : Nat} {z : State} {s : State} (hpm : Within 0xc0728 pm) (hk : Keeps pm z s) : Keeps pm z (pairLost s) := by
  unfold pairLost
  repeat' first
    | with_reducible assumption
    | with_reducible apply keeps_setRole
    | with_reducible apply keeps_setPair
    | with_reducible apply keeps_wr
    | with_reducible apply keeps_releaseAll
    | with_reducible apply Keeps.foldl
    | with_reducible exact narrow hpm
    | with_reducible intro _ _

/-! Lanes -/

theorem keeps_pllSettle {pm : Nat} {z : State} {s : State} (hpm : Within 0x8 pm) (hk : Keeps pm z s) : Keeps pm z (pllSettle s) := by
  unfold pllSettle
  repeat' first
    | with_reducible assumption
    | with_reducible apply keeps_wr

theorem keeps_laneDefaults {pm : Nat} {z : State} {s : State} {n : Nat} (hpm : Within 0x8008 pm) (hk : Keeps pm z s) : Keeps pm z (laneDefaults s n) := by
  unfold laneDefaults
  repeat' first
    | with_reducible assumption
    | with_reducible apply keeps_wr
    | with_reducible apply keeps_setLane
    | with_reducible exact narrow hpm

theorem keeps_ctleHold {pm : Nat} {z : State} {s : State} {n : Nat} (hpm : Within 0x8008 pm) (hk : Keeps pm z s) : Keeps pm z (ctleHold s n) := by
  unfold ctleHold
  repeat' first
    | with_reducible assumption
    | with_reducible apply keeps_wr
    | with_reducible apply keeps_setLane
    | with_reducible exact narrow hpm
    | split

theorem keeps_ctleStop {pm : Nat} {z : State} {s : State} {n : Nat} (hpm : Within 0x8 pm) (hk : Keeps pm z s) : Keeps pm z (ctleStop s n) := by
  unfold ctleStop
  repeat' first
    | with_reducible assumption
    | with_reducible apply keeps_wr
    | split

theorem keeps_laneStart {pm : Nat} {z : State} {s : State} {n : Nat} {mode : Nat} (hpm : Within 0x8028 pm) (hk : Keeps pm z s) : Keeps pm z (laneStart s n mode) := by
  unfold laneStart
  repeat' first
    | with_reducible assumption
    | with_reducible apply keeps_enter
    | with_reducible apply keeps_wr
    | with_reducible apply keeps_setLane
    | with_reducible exact narrow hpm

theorem keeps_prbsStop {pm : Nat} {z : State} {s : State} {n : Nat} (hpm : Within 0x8008 pm) (hk : Keeps pm z s) : Keeps pm z (prbsStop s n) := by
  unfold prbsStop
  repeat' first
    | with_reducible assumption
    | with_reducible apply keeps_wr
    | with_reducible apply keeps_setLane
    | with_reducible exact narrow hpm
    | split

theorem keeps_laneStop {pm : Nat} {z : State} {s : State} {n : Nat} (hpm : Within 0x8028 pm) (hk : Keeps pm z s) : Keeps pm z (laneStop s n) := by
  unfold laneStop
  repeat' first
    | with_reducible assumption
    | with_reducible apply keeps_ctleStop
    | with_reducible apply keeps_prbsStop
    | with_reducible apply keeps_enter
    | with_reducible apply keeps_setLane
    | with_reducible exact narrow hpm

theorem keeps_laneEnable {pm : Nat} {z : State} {s : State} {n : Nat} {mode : Nat} (hpm : Within 0x88728 pm) (hk : Keeps pm z s) : PKeeps pm z (laneEnable s n mode) := by
  unfold laneEnable
  repeat' first
    | with_reducible assumption
    | with_reducible apply keeps_wr
    | with_reducible apply keeps_laneStart
    | with_reducible apply keeps_setLane
    | with_reducible refine PKeeps.fst (keeps_takeClaims ?_ ?_)
    | with_reducible exact narrow hpm
    | simp only [PKeeps.iff]
    | split

theorem keeps_laneDisable {pm : Nat} {z : State} {s : State} {n : Nat} (hpm : Within 0x8028 pm) (hk : Keeps pm z s) : PKeeps pm z (laneDisable s n) := by
  unfold laneDisable
  repeat' first
    | with_reducible assumption
    | with_reducible apply keeps_wr
    | with_reducible apply keeps_setLane
    | with_reducible apply keeps_laneStop
    | with_reducible exact narrow hpm
    | simp only [PKeeps.iff]
    | split

theorem keeps_laneLocked {pm : Nat} {z : State} {s : State} {n : Nat} (hpm : Within 0x8028 pm) (hk : Keeps pm z s) : OKeeps pm z (laneLocked s n) := by
  unfold laneLocked
  repeat' first
    | with_reducible assumption
    | with_reducible exact OKeeps.none
    | with_reducible apply OKeeps.some
    | with_reducible apply keeps_wr
    | with_reducible apply keeps_laneStop
    | with_reducible apply keeps_laneDefaults
    | with_reducible apply keeps_enter
    | with_reducible apply keeps_setLane
    | with_reducible exact narrow hpm
    | split

theorem keeps_laneEnterData {pm : Nat} {z : State} {s : State} {n : Nat} (hpm : Within 0x88728 pm) (hk : Keeps pm z s) : OKeeps pm z (laneEnterData s n) := by
  unfold laneEnterData
  repeat' first
    | with_reducible assumption
    | with_reducible exact OKeeps.none
    | with_reducible apply OKeeps.some
    | with_reducible apply keeps_setCause
    | with_reducible apply keeps_enter
    | with_reducible apply keeps_ctleHold
    | with_reducible apply keeps_setLane
    | with_reducible exact narrow hpm
    | split

theorem keeps_laneDrop {pm : Nat} {z : State} {s : State} {n : Nat} (hpm : Within 0x88728 pm) (hk : Keeps pm z s) : OKeeps pm z (laneDrop s n) := by
  unfold laneDrop
  repeat' first
    | with_reducible assumption
    | with_reducible exact OKeeps.none
    | with_reducible apply OKeeps.some
    | with_reducible apply keeps_setCause
    | with_reducible apply keeps_bump
    | with_reducible apply keeps_enter
    | with_reducible apply keeps_laneNoStart
    | with_reducible exact narrow hpm
    | split

theorem keeps_laneHeard {pm : Nat} {z : State} {s : State} {n : Nat} {ready : Bool} (hpm : Within 0x88728 pm) (hk : Keeps pm z s) : Keeps pm z (laneHeard s n ready) := by
  unfold laneHeard
  repeat' first
    | with_reducible assumption
    | with_reducible apply keeps_wr
    | with_reducible apply keeps_setLane
    | with_reducible apply keeps_laneDrop
    | with_reducible apply OKeeps.getD
    | with_reducible exact narrow hpm
    | split

theorem keeps_laneTell {pm : Nat} {z : State} {s : State} {n : Nat} {ready : Bool} (hpm : Within 0x8004 pm) (hk : Keeps pm z s) : OKeeps pm z (laneTell s n ready) := by
  unfold laneTell
  dsimp only
  repeat' first
    | with_reducible assumption
    | with_reducible exact OKeeps.none
    | with_reducible apply OKeeps.some
    | with_reducible apply keeps_send
    | with_reducible apply keeps_setLane
    | with_reducible exact narrow hpm
    | split

theorem keeps_laneSilent {pm : Nat} {z : State} {s : State} {n : Nat} (hpm : Within 0x88728 pm) (hk : Keeps pm z s) : OKeeps pm z (laneSilent s n) := by
  unfold laneSilent
  repeat' first
    | with_reducible assumption
    | with_reducible exact OKeeps.none
    | with_reducible apply keeps_laneDrop
    | split

theorem keeps_laneAcquireExpire {pm : Nat} {z : State} {s : State} {n : Nat} (hpm : Within 0x88728 pm) (hk : Keeps pm z s) : OKeeps pm z (laneAcquireExpire s n) := by
  unfold laneAcquireExpire
  repeat' first
    | with_reducible assumption
    | with_reducible exact OKeeps.none
    | with_reducible apply OKeeps.some
    | with_reducible apply keeps_laneDefaults
    | with_reducible apply keeps_setCause
    | with_reducible apply keeps_bump
    | with_reducible apply keeps_enter
    | with_reducible exact narrow hpm
    | split

theorem keeps_laneRetrain {pm : Nat} {z : State} {s : State} {n : Nat} (hpm : Within 0x8028 pm) (hk : Keeps pm z s) : PKeeps pm z (laneRetrain s n) := by
  unfold laneRetrain
  repeat' first
    | with_reducible assumption
    | with_reducible apply keeps_enter
    | with_reducible apply keeps_setLane
    | with_reducible exact narrow hpm
    | simp only [PKeeps.iff]
    | split

theorem keeps_laneStopped {pm : Nat} {z : State} {s : State} {n : Nat} (hpm : Within 0x88728 pm) (hk : Keeps pm z s) : OKeeps pm z (laneStopped s n) := by
  unfold laneStopped
  dsimp only
  repeat' first
    | with_reducible assumption
    | with_reducible exact OKeeps.none
    | with_reducible apply OKeeps.some
    | with_reducible apply keeps_setCause
    | with_reducible apply keeps_pllSettle
    | with_reducible apply keeps_enter
    | with_reducible apply keeps_releaseAll
    | with_reducible apply keeps_wr
    | with_reducible apply keeps_laneStart
    | with_reducible refine PKeeps.fst (keeps_takeClaims ?_ ?_)
    | with_reducible exact narrow hpm
    | split

theorem keeps_laneUnlocked {pm : Nat} {z : State} {s : State} {n : Nat} (hpm : Within 0x88728 pm) (hk : Keeps pm z s) : Keeps pm z (laneUnlocked s n) := by
  unfold laneUnlocked
  dsimp only
  repeat' first
    | with_reducible assumption
    | with_reducible apply keeps_ctleStop
    | with_reducible apply keeps_prbsStop
    | with_reducible apply keeps_setLane
    | with_reducible apply keeps_setCause
    | with_reducible apply keeps_enter
    | with_reducible exact narrow hpm
    | split

theorem keeps_refclkLost {pm : Nat} {z : State} {s : State} (hpm : Within 0x88728 pm) (hk : Keeps pm z s) : Keeps pm z (refclkLost s) := by
  unfold refclkLost
  repeat' first
    | with_reducible assumption
    | with_reducible apply keeps_laneUnlocked
    | with_reducible apply keeps_wr
    | with_reducible apply Keeps.foldl
    | with_reducible exact narrow hpm
    | with_reducible intro _ _

theorem keeps_laneBadHeader {pm : Nat} {z : State} {s : State} {n : Nat} (hpm : Within 0x88728 pm) (hk : Keeps pm z s) : Keeps pm z (laneBadHeader s n) := by
  unfold laneBadHeader
  dsimp only
  repeat' first
    | with_reducible assumption
    | with_reducible apply keeps_bump
    | with_reducible apply keeps_setLane
    | with_reducible apply keeps_laneDrop
    | with_reducible apply OKeeps.getD
    | with_reducible exact narrow hpm
    | split

theorem keeps_laneLockLost {pm : Nat} {z : State} {s : State} {n : Nat} {cut : Bool} (hpm : Within 0x88728 pm) (hk : Keeps pm z s) : OKeeps pm z (laneLockLost s n cut) := by
  unfold laneLockLost
  repeat' first
    | with_reducible assumption
    | with_reducible exact OKeeps.none
    | with_reducible apply OKeeps.some
    | with_reducible apply keeps_laneBadHeader
    | with_reducible apply keeps_laneDrop
    | with_reducible apply keeps_bump
    | with_reducible apply OKeeps.getD
    | with_reducible apply Keeps.foldl
    | with_reducible exact narrow hpm
    | split
    | with_reducible intro _ _

theorem keeps_laneBlockError {pm : Nat} {z : State} {s : State} {n : Nat} {header : Bool} {inFrame : Bool} (hpm : Within 0x88728 pm) (hk : Keeps pm z s) : Keeps pm z (laneBlockError s n header inFrame) := by
  unfold laneBlockError
  repeat' first
    | with_reducible assumption
    | with_reducible apply keeps_laneBadHeader
    | with_reducible apply keeps_bump
    | with_reducible exact narrow hpm
    | split

theorem keeps_dfeMoved {pm : Nat} {z : State} {s : State} {n : Nat} {sums : List Int} (hpm : Within 0x88708 pm) (hk : Keeps pm z s) : Keeps pm z (dfeMoved s n sums) := by
  unfold dfeMoved
  dsimp only
  repeat' first
    | with_reducible assumption
    | with_reducible apply keeps_setLane
    | with_reducible apply keeps_setCause
    | with_reducible exact narrow hpm
    | split

theorem keeps_dfeStep {pm : Nat} {z : State} {s : State} {n : Nat} {sums : List Int} (hpm : Within 0x88708 pm) (hk : Keeps pm z s) : OKeeps pm z (dfeStep s n sums) := by
  unfold dfeStep
  repeat' first
    | with_reducible assumption
    | with_reducible exact OKeeps.none
    | with_reducible apply OKeeps.some
    | with_reducible apply keeps_dfeMoved
    | split

theorem keeps_prbsLock {pm : Nat} {z : State} {s : State} {n : Nat} (hpm : Within 0x88708 pm) (hk : Keeps pm z s) : OKeeps pm z (prbsLock s n) := by
  unfold prbsLock
  dsimp only
  repeat' first
    | with_reducible assumption
    | with_reducible exact OKeeps.none
    | with_reducible apply OKeeps.some
    | with_reducible apply keeps_ctleHold
    | with_reducible apply keeps_setCause
    | with_reducible apply keeps_wr
    | with_reducible apply keeps_setLane
    | with_reducible exact narrow hpm
    | split

theorem keeps_prbsWrong {pm : Nat} {z : State} {s : State} {n : Nat} (hpm : Within 0x88708 pm) (hk : Keeps pm z s) : Keeps pm z (prbsWrong s n) := by
  unfold prbsWrong
  dsimp only
  repeat' first
    | with_reducible assumption
    | with_reducible apply keeps_setLane
    | with_reducible apply keeps_wr
    | with_reducible apply keeps_setCause
    | with_reducible apply keeps_prbsStop
    | with_reducible exact narrow hpm
    | split

theorem keeps_prbsError {pm : Nat} {z : State} {s : State} {n : Nat} (hpm : Within 0x88708 pm) (hk : Keeps pm z s) : OKeeps pm z (prbsError s n) := by
  unfold prbsError
  repeat' first
    | with_reducible assumption
    | with_reducible exact OKeeps.none
    | with_reducible apply OKeeps.some
    | with_reducible apply keeps_prbsWrong
    | split

theorem keeps_prbsUnlock {pm : Nat} {z : State} {s : State} {n : Nat} (hpm : Within 0x88708 pm) (hk : Keeps pm z s) : OKeeps pm z (prbsUnlock s n) := by
  unfold prbsUnlock
  repeat' first
    | with_reducible assumption
    | with_reducible exact OKeeps.none
    | with_reducible apply OKeeps.some
    | with_reducible apply keeps_prbsStop
    | with_reducible apply keeps_prbsWrong
    | with_reducible apply Keeps.foldl
    | with_reducible exact narrow hpm
    | split
    | with_reducible intro _ _

theorem keeps_prbsClear {pm : Nat} {z : State} {s : State} {n : Nat} (hpm : Within 0x8008 pm) (hk : Keeps pm z s) : Keeps pm z (prbsClear s n) := by
  unfold prbsClear
  repeat' first
    | with_reducible assumption
    | with_reducible apply keeps_wr
    | with_reducible apply keeps_setLane
    | with_reducible exact narrow hpm

theorem keeps_prbsInject {pm : Nat} {z : State} {s : State} {n : Nat} (hpm : Within 0x8100 pm) (hk : Keeps pm z s) : PKeeps pm z (prbsInject s n) := by
  unfold prbsInject
  repeat' first
    | with_reducible assumption
    | with_reducible apply keeps_setLane
    | with_reducible refine PKeeps.fst (keeps_freeNat ?_ ?_)
    | with_reducible exact narrow hpm
    | simp only [PKeeps.iff]
    | split

theorem keeps_prbsPattern {pm : Nat} {z : State} {s : State} {n : Nat} {idx : Nat} {sub : Nat} {v : Nat} (hpm : Within 0x8 pm) (hk : Keeps pm z s) : PKeeps pm z (prbsPattern s n idx sub v) := by
  unfold prbsPattern
  repeat' first
    | with_reducible assumption
    | with_reducible apply keeps_wr
    | simp only [PKeeps.iff]
    | split

theorem keeps_lanesFenced {pm : Nat} {z : State} {s : State} {pd : Nat} (hpm : Within 0x8028 pm) (hk : Keeps pm z s) : Keeps pm z (lanesFenced s pd) := by
  unfold lanesFenced
  repeat' first
    | with_reducible assumption
    | with_reducible refine PKeeps.fst (keeps_laneDisable ?_ ?_)
    | with_reducible apply Keeps.foldl
    | split
    | with_reducible intro _ _
    | with_reducible intro _

theorem keeps_lanesLost {pm : Nat} {z : State} {s : State} {pd : Nat} (hpm : Within 0x8008 pm) (hk : Keeps pm z s) : Keeps pm z (lanesLost s pd) := by
  unfold lanesLost
  dsimp only
  repeat' first
    | with_reducible assumption
    | with_reducible apply keeps_pllSettle
    | with_reducible apply keeps_wr
    | with_reducible apply keeps_releaseAll
    | with_reducible apply Keeps.foldl
    | with_reducible exact narrow hpm
    | (simp only [Keeps.upd]; apply Kp.put_lanes (hb := bit hpm); with_reducible apply Kp.of)
    | split
    | with_reducible intro _ _
    | with_reducible intro _

/-! Sched -/

theorem keeps_setSched {pm : Nat} {z : State} {s : State} {x : SchedState} (hpm : Within 0x80000 pm) (hk : Keeps pm z s) : Keeps pm z (setSched s x) := by
  unfold setSched
  repeat' first
    | with_reducible assumption
    | (simp only [Keeps.upd]; apply Kp.put_sched (hb := bit hpm); with_reducible apply Kp.of)

theorem keeps_setTask {pm : Nat} {z : State} {s : State} {t : Nat} {x : Task} (hpm : Within 0x80000 pm) (hk : Keeps pm z s) : Keeps pm z (setTask s t x) := by
  unfold setTask
  repeat' first
    | with_reducible assumption
    | with_reducible apply keeps_setSched

theorem keeps_traceStop {pm : Nat} {z : State} {s : State} (hpm : Within 0x80708 pm) (hk : Keeps pm z s) : Keeps pm z (traceStop s) := by
  unfold traceStop
  repeat' first
    | with_reducible assumption
    | with_reducible apply keeps_setCause
    | with_reducible apply keeps_wr
    | with_reducible exact narrow hpm

theorem keeps_trace {pm : Nat} {z : State} {s : State} {kind : Nat} {core : Nat} {task : Nat} {prio : Nat} {detail : Nat} (hpm : Within 0x80708 pm) (hk : Keeps pm z s) : Keeps pm z (trace s kind core task prio detail) := by
  unfold trace
  dsimp only
  repeat' first
    | with_reducible assumption
    | with_reducible apply keeps_setSched
    | with_reducible apply keeps_traceStop
    | with_reducible exact narrow hpm
    | split

theorem keeps_traceModeWrite {pm : Nat} {z : State} {s : State} {v : Nat} (hpm : Within 0x80008 pm) (hk : Keeps pm z s) : Keeps pm z (traceModeWrite s v) := by
  unfold traceModeWrite
  repeat' first
    | with_reducible assumption
    | with_reducible apply keeps_wr
    | with_reducible apply keeps_setSched
    | with_reducible exact narrow hpm

theorem keeps_traceTrigger {pm : Nat} {z : State} {s : State} {e : Nat} (hpm : Within 0x80708 pm) (hk : Keeps pm z s) : Keeps pm z (traceTrigger s e) := by
  unfold traceTrigger
  dsimp only
  repeat' first
    | with_reducible assumption
    | with_reducible apply keeps_setSched
    | with_reducible apply keeps_traceStop
    | with_reducible exact narrow hpm
    | split

theorem keeps_setReadyList {pm : Nat} {z : State} {s : State} {p : Nat} {l : List Nat} (hpm : Within 0x80000 pm) (hk : Keeps pm z s) : Keeps pm z (setReadyList s p l) := by
  unfold setReadyList
  repeat' first
    | with_reducible assumption
    | with_reducible apply keeps_setSched

theorem keeps_setDelayList {pm : Nat} {z : State} {s : State} {k : Nat} {l : List Nat} (hpm : Within 0x80000 pm) (hk : Keeps pm z s) : Keeps pm z (setDelayList s k l) := by
  unfold setDelayList
  repeat' first
    | with_reducible assumption
    | with_reducible apply keeps_setSched

theorem keeps_setOffer {pm : Nat} {z : State} {s : State} {n : Nat} {o : Option Offer} (hpm : Within 0x80000 pm) (hk : Keeps pm z s) : Keeps pm z (setOffer s n o) := by
  unfold setOffer
  repeat' first
    | with_reducible assumption
    | with_reducible apply keeps_setSched

theorem keeps_setRunning {pm : Nat} {z : State} {s : State} {n : Nat} {t : Option Nat} (hpm : Within 0x80000 pm) (hk : Keeps pm z s) : Keeps pm z (setRunning s n t) := by
  unfold setRunning
  repeat' first
    | with_reducible assumption
    | with_reducible apply keeps_setSched

theorem keeps_readyTail {pm : Nat} {z : State} {s : State} {t : Nat} (hpm : Within 0x80000 pm) (hk : Keeps pm z s) : Keeps pm z (readyTail s t) := by
  unfold readyTail
  repeat' first
    | with_reducible assumption
    | with_reducible apply keeps_setReadyList
    | with_reducible apply keeps_setTask

theorem keeps_readyHead {pm : Nat} {z : State} {s : State} {t : Nat} (hpm : Within 0x80000 pm) (hk : Keeps pm z s) : Keeps pm z (readyHead s t) := by
  unfold readyHead
  repeat' first
    | with_reducible assumption
    | with_reducible apply keeps_setReadyList
    | with_reducible apply keeps_setTask

theorem keeps_unlist {pm : Nat} {z : State} {s : State} {t : Nat} (hpm : Within 0x80000 pm) (hk : Keeps pm z s) : Keeps pm z (unlist s t) := by
  unfold unlist
  dsimp only
  repeat' first
    | with_reducible assumption
    | with_reducible apply keeps_setReadyList
    | with_reducible apply keeps_setTask
    | with_reducible apply keeps_setDelayList
    | split

theorem keeps_schedSettle {pm : Nat} {z : State} {s : State} (hpm : Within 0x80708 pm) (hk : Keeps pm z s) : Keeps pm z (schedSettle s) := by
  unfold schedSettle
  repeat' first
    | with_reducible assumption
    | with_reducible apply keeps_wr
    | with_reducible apply keeps_setCause
    | with_reducible apply keeps_setSched
    | with_reducible exact narrow hpm
    | split

theorem keeps_withdraw {pm : Nat} {z : State} {s : State} {n : Nat} {kind : Nat} {detail : Nat} (hpm : Within 0x80708 pm) (hk : Keeps pm z s) : Keeps pm z (withdraw s n kind detail) := by
  unfold withdraw
  repeat' first
    | with_reducible assumption
    | with_reducible apply keeps_trace
    | with_reducible apply keeps_readyHead
    | with_reducible apply keeps_setOffer
    | with_reducible exact narrow hpm
    | split

theorem keeps_taskOffer {pm : Nat} {z : State} {s : State} (hpm : Within 0x80708 pm) (hk : Keeps pm z s) : OKeeps pm z (taskOffer s) := by
  unfold taskOffer
  repeat' first
    | with_reducible assumption
    | with_reducible exact OKeeps.none
    | with_reducible apply OKeeps.some
    | with_reducible apply keeps_withdraw
    | with_reducible apply keeps_setTask
    | with_reducible apply keeps_setReadyList
    | with_reducible apply keeps_setOffer
    | with_reducible apply keeps_setSched
    | with_reducible apply keeps_schedSettle
    | with_reducible apply keeps_trace
    | with_reducible exact narrow hpm
    | split

theorem keeps_dispatchTimeout {pm : Nat} {z : State} {s : State} {n : Nat} (hpm : Within 0x80708 pm) (hk : Keeps pm z s) : OKeeps pm z (dispatchTimeout s n) := by
  unfold dispatchTimeout
  repeat' first
    | with_reducible assumption
    | with_reducible exact OKeeps.none
    | with_reducible apply OKeeps.some
    | with_reducible apply keeps_schedSettle
    | with_reducible apply keeps_withdraw
    | with_reducible apply keeps_setCause
    | with_reducible apply keeps_bump
    | with_reducible exact narrow hpm
    | split

theorem keeps_commandRefused {pm : Nat} {z : State} {s : State} (hpm : Within 0x80708 pm) (hk : Keeps pm z s) : Keeps pm z (commandRefused s) := by
  unfold commandRefused
  repeat' first
    | with_reducible assumption
    | with_reducible apply keeps_setCause
    | with_reducible apply keeps_bump
    | with_reducible exact narrow hpm

theorem keeps_taskPost {pm : Nat} {z : State} {s : State} {t : Nat} {detail : Nat} (hpm : Within 0x80708 pm) (hk : Keeps pm z s) : Keeps pm z (taskPost s t detail) := by
  unfold taskPost
  dsimp only
  repeat' first
    | with_reducible assumption
    | with_reducible apply keeps_trace
    | with_reducible apply keeps_commandRefused
    | with_reducible apply keeps_schedSettle
    | with_reducible apply keeps_readyTail
    | with_reducible apply keeps_unlist
    | with_reducible apply keeps_setTask
    | with_reducible apply keeps_setCause
    | with_reducible apply keeps_bump
    | with_reducible exact narrow hpm
    | split

theorem keeps_taskSetup {pm : Nat} {z : State} {s : State} {v : Nat} (hpm : Within 0x80000 pm) (hk : Keeps pm z s) : PKeeps pm z (taskSetup s v) := by
  unfold taskSetup
  repeat' first
    | with_reducible assumption
    | with_reducible apply keeps_setTask
    | simp only [PKeeps.iff]
    | split

theorem keeps_taskSuspend {pm : Nat} {z : State} {s : State} {t : Nat} (hpm : Within 0x80708 pm) (hk : Keeps pm z s) : Keeps pm z (taskSuspend s t) := by
  unfold taskSuspend
  repeat' first
    | with_reducible assumption
    | with_reducible apply keeps_trace
    | with_reducible apply keeps_setOffer
    | with_reducible apply keeps_unlist
    | with_reducible apply keeps_schedSettle
    | with_reducible apply keeps_setTask
    | with_reducible exact narrow hpm
    | split

theorem keeps_taskCommand {pm : Nat} {z : State} {s : State} {v : Nat} (hpm : Within 0x80708 pm) (hk : Keeps pm z s) : PKeeps pm z (taskCommand s v) := by
  unfold taskCommand
  repeat' first
    | with_reducible assumption
    | with_reducible apply keeps_setTask
    | with_reducible apply keeps_commandRefused
    | with_reducible apply keeps_taskPost
    | with_reducible apply keeps_taskSuspend
    | with_reducible apply keeps_schedSettle
    | with_reducible apply keeps_readyTail
    | with_reducible exact narrow hpm
    | simp only [PKeeps.iff]
    | split

theorem keeps_coreAccept {pm : Nat} {z : State} {s : State} {n : Nat} {task : Nat} (hpm : Within 0x80708 pm) (hk : Keeps pm z s) : PKeeps pm z (coreAccept s n task) := by
  unfold coreAccept
  repeat' first
    | with_reducible assumption
    | with_reducible apply keeps_commandRefused
    | with_reducible apply keeps_setTask
    | with_reducible apply keeps_setOffer
    | with_reducible apply keeps_trace
    | with_reducible apply keeps_setRunning
    | with_reducible apply keeps_schedSettle
    | with_reducible apply keeps_readyHead
    | with_reducible exact narrow hpm
    | simp only [PKeeps.iff]
    | split

theorem keeps_coreDone {pm : Nat} {z : State} {s : State} {n : Nat} (hpm : Within 0x80708 pm) (hk : Keeps pm z s) : PKeeps pm z (coreDone s n) := by
  unfold coreDone
  repeat' first
    | with_reducible assumption
    | with_reducible apply keeps_commandRefused
    | with_reducible apply keeps_setRunning
    | with_reducible apply keeps_setTask
    | with_reducible apply keeps_readyTail
    | with_reducible apply keeps_schedSettle
    | with_reducible apply keeps_trace
    | with_reducible exact narrow hpm
    | simp only [PKeeps.iff]
    | split

theorem keeps_coreYield {pm : Nat} {z : State} {s : State} {n : Nat} (hpm : Within 0x80708 pm) (hk : Keeps pm z s) : PKeeps pm z (coreYield s n) := by
  unfold coreYield
  repeat' first
    | with_reducible assumption
    | with_reducible apply keeps_commandRefused
    | with_reducible apply keeps_schedSettle
    | with_reducible apply keeps_trace
    | with_reducible apply keeps_readyTail
    | with_reducible apply keeps_setRunning
    | with_reducible exact narrow hpm
    | simp only [PKeeps.iff]
    | split

theorem keeps_coreDelay {pm : Nat} {z : State} {s : State} {n : Nat} {k : Nat} {delta : Nat} (hpm : Within 0x80708 pm) (hk : Keeps pm z s) : PKeeps pm z (coreDelay s n k delta) := by
  unfold coreDelay
  repeat' first
    | with_reducible assumption
    | with_reducible apply keeps_commandRefused
    | with_reducible apply keeps_setRunning
    | with_reducible apply keeps_readyTail
    | with_reducible apply keeps_setDelayList
    | with_reducible apply keeps_setTask
    | with_reducible apply keeps_schedSettle
    | with_reducible apply keeps_trace
    | with_reducible exact narrow hpm
    | simp only [PKeeps.iff]
    | split

theorem keeps_coreAttach {pm : Nat} {z : State} {s : State} {n : Nat} (hpm : Within 0x80708 pm) (hk : Keeps pm z s) : PKeeps pm z (coreAttach s n) := by
  unfold coreAttach
  repeat' first
    | with_reducible assumption
    | with_reducible apply keeps_schedSettle
    | with_reducible apply keeps_wr
    | with_reducible exact narrow hpm
    | simp only [PKeeps.iff]

theorem keeps_coreDetach {pm : Nat} {z : State} {s : State} {n : Nat} (hpm : Within 0x80708 pm) (hk : Keeps pm z s) : PKeeps pm z (coreDetach s n) := by
  unfold coreDetach
  repeat' first
    | with_reducible assumption
    | with_reducible apply keeps_withdraw
    | with_reducible apply keeps_wr
    | with_reducible apply keeps_schedSettle
    | with_reducible apply keeps_setSched
    | with_reducible exact narrow hpm
    | simp only [PKeeps.iff]

theorem keeps_coreCommand {pm : Nat} {z : State} {s : State} {n : Nat} {v : Nat} (hpm : Within 0x80708 pm) (hk : Keeps pm z s) : PKeeps pm z (coreCommand s n v) := by
  unfold coreCommand
  repeat' first
    | with_reducible assumption
    | with_reducible apply keeps_coreAccept
    | with_reducible apply keeps_coreDone
    | with_reducible apply keeps_coreYield
    | with_reducible apply keeps_coreDelay
    | with_reducible apply keeps_coreAttach
    | with_reducible apply keeps_coreDetach
    | simp only [PKeeps.iff]
    | split

theorem keeps_schedCoresWrite {pm : Nat} {z : State} {s : State} {v : Nat} (hpm : Within 0x80708 pm) (hk : Keeps pm z s) : Keeps pm z (schedCoresWrite s v) := by
  unfold schedCoresWrite
  repeat' first
    | with_reducible assumption
    | with_reducible apply keeps_schedSettle
    | with_reducible apply keeps_withdraw
    | with_reducible apply keeps_wr
    | with_reducible apply Keeps.foldl
    | with_reducible exact narrow hpm
    | split
    | with_reducible intro _ _
    | with_reducible intro _

theorem keeps_migrate {pm : Nat} {z : State} {s : State} {n : Nat} {t : Nat} (hpm : Within 0x80708 pm) (hk : Keeps pm z s) : Keeps pm z (migrate s n t) := by
  unfold migrate
  repeat' first
    | with_reducible assumption
    | with_reducible apply keeps_setTask
    | with_reducible apply keeps_readyHead
    | with_reducible apply keeps_setCause
    | with_reducible apply keeps_bump
    | with_reducible apply keeps_trace
    | with_reducible exact narrow hpm
    | split

theorem keeps_coreLeaves {pm : Nat} {z : State} {s : State} {n : Nat} (hpm : Within 0x80708 pm) (hk : Keeps pm z s) : Keeps pm z (coreLeaves s n) := by
  unfold coreLeaves
  repeat' first
    | with_reducible assumption
    | with_reducible apply keeps_migrate
    | with_reducible apply keeps_trace
    | with_reducible apply keeps_setOffer
    | with_reducible apply keeps_setRunning
    | with_reducible apply keeps_setSched
    | with_reducible apply keeps_wr
    | with_reducible apply keeps_schedSettle
    | with_reducible exact narrow hpm
    | split

theorem keeps_delayDue {pm : Nat} {z : State} {s : State} {k : Nat} (hpm : Within 0x80708 pm) (hk : Keeps pm z s) : OKeeps pm z (delayDue s k) := by
  unfold delayDue
  dsimp only
  repeat' first
    | with_reducible assumption
    | with_reducible exact OKeeps.none
    | with_reducible apply OKeeps.some
    | with_reducible apply keeps_setSched
    | with_reducible apply keeps_schedSettle
    | with_reducible apply keeps_trace
    | with_reducible apply keeps_readyTail
    | with_reducible apply keeps_unlist
    | with_reducible exact narrow hpm
    | split

theorem keeps_tickStep {pm : Nat} {z : State} {s : State} (hpm : Within 0x28 pm) (hk : Keeps pm z s) : OKeeps pm z (tickStep s) := by
  unfold tickStep
  dsimp only
  repeat' first
    | with_reducible assumption
    | with_reducible exact OKeeps.none
    | with_reducible apply OKeeps.some
    | with_reducible apply keeps_count64
    | with_reducible exact narrow hpm
    | (simp only [Keeps.upd]; apply Kp.put_stamps (hb := bit hpm); with_reducible apply Kp.of)
    | split

theorem keeps_timerWrite {pm : Nat} {z : State} {s : State} {i : Nat} {v : Nat} (hpm : Within 0x8 pm) (hk : Keeps pm z s) : Keeps pm z (timerWrite s i v) := by
  unfold timerWrite
  repeat' first
    | with_reducible assumption
    | with_reducible apply keeps_wr
    | split

theorem keeps_timerDue {pm : Nat} {z : State} {s : State} {i : Nat} (hpm : Within 0x80708 pm) (hk : Keeps pm z s) : OKeeps pm z (timerDue s i) := by
  unfold timerDue
  dsimp only
  repeat' first
    | with_reducible assumption
    | with_reducible exact OKeeps.none
    | with_reducible apply OKeeps.some
    | with_reducible apply keeps_raiseEvent
    | with_reducible apply keeps_wr
    | with_reducible exact narrow hpm
    | split

theorem keeps_udpSend {pm : Nat} {z : State} {s : State} {p : Nat} {ip : Nat} {port : Nat} {b : List Byte} (hpm : Within 0x4 pm) (hk : Keeps pm z s) : Keeps pm z (udpSend s p ip port b) := by
  unfold udpSend
  repeat' first
    | with_reducible assumption
    | with_reducible apply keeps_send

theorem keeps_canSend {pm : Nat} {z : State} {s : State} {p : Nat} {id : Nat} {b : List Byte} (hpm : Within 0x4 pm) (hk : Keeps pm z s) : Keeps pm z (canSend s p id b) := by
  unfold canSend
  repeat' first
    | with_reducible assumption
    | with_reducible apply keeps_send
    | split

theorem keeps_emcyEth {pm : Nat} {z : State} {s : State} {e : Nat} {p : Nat} (hpm : Within 0x80004 pm) (hk : Keeps pm z s) : Keeps pm z (emcyEth s e p) := by
  unfold emcyEth
  dsimp only
  repeat' first
    | with_reducible assumption
    | with_reducible apply keeps_udpSend
    | with_reducible apply keeps_setSched
    | with_reducible exact narrow hpm
    | split

theorem keeps_emcyCan {pm : Nat} {z : State} {s : State} {e : Nat} {p : Nat} (hpm : Within 0x4 pm) (hk : Keeps pm z s) : Keeps pm z (emcyCan s e p) := by
  unfold emcyCan
  dsimp only
  repeat' first
    | with_reducible assumption
    | with_reducible apply keeps_canSend
    | split

theorem keeps_emcySend_go {pm : Nat} {z : State} {e : Nat} {s : State} (hpm : Within 0x80004 pm) (hk : Keeps pm z s) : Keeps pm z (emcySend.go e s) := by
  unfold emcySend.go
  dsimp only
  repeat' first
    | with_reducible assumption
    | with_reducible apply keeps_emcyCan
    | with_reducible apply keeps_emcyEth
    | with_reducible apply keeps_setSched
    | with_reducible exact narrow hpm
    | split

theorem keeps_emcySend {pm : Nat} {z : State} {s : State} {e : Nat} (hpm : Within 0x8000c pm) (hk : Keeps pm z s) : Keeps pm z (emcySend s e) := by
  unfold emcySend
  repeat' first
    | with_reducible assumption
    | with_reducible apply keeps_bump
    | with_reducible apply keeps_emcySend_go
    | with_reducible exact narrow hpm
    | split

theorem keeps_inboxPlace {pm : Nat} {z : State} {s : State} {n : Nat} {e : Nat} (hpm : Within 0x80708 pm) (hk : Keeps pm z s) : Keeps pm z (inboxPlace s n e) := by
  unfold inboxPlace
  dsimp only
  repeat' first
    | with_reducible assumption
    | with_reducible apply keeps_setSched
    | with_reducible apply keeps_setCause
    | with_reducible apply keeps_bump
    | with_reducible exact narrow hpm
    | split

theorem keeps_grantActions {pm : Nat} {z : State} {s : State} {e : Nat} (hpm : Within 0x8070c pm) (hk : Keeps pm z s) : Keeps pm z (grantActions s e) := by
  unfold grantActions
  dsimp only
  repeat' first
    | with_reducible assumption
    | with_reducible apply keeps_traceTrigger
    | with_reducible apply keeps_wr
    | with_reducible apply keeps_taskPost
    | with_reducible apply keeps_inboxPlace
    | with_reducible apply keeps_emcySend
    | with_reducible apply keeps_trace
    | with_reducible apply Keeps.foldl
    | with_reducible exact narrow hpm
    | split
    | with_reducible intro _ _
    | with_reducible intro _

theorem keeps_raiseAnew {pm : Nat} {z : State} {s : State} {e : Nat} (hpm : Within 0x80708 pm) (hk : Keeps pm z s) : Keeps pm z (raiseAnew s e) := by
  unfold raiseAnew
  repeat' first
    | with_reducible assumption
    | with_reducible apply keeps_raiseEvent
    | with_reducible apply keeps_wr
    | with_reducible exact narrow hpm
    | (simp only [Keeps.upd]; apply Kp.put_coalesced (hb := bit hpm); apply Kp.put_sched (hb := bit hpm); with_reducible apply Kp.of)
    | split

theorem keeps_eventGrant {pm : Nat} {z : State} {s : State} (hpm : Within 0x8070c pm) (hk : Keeps pm z s) : OKeeps pm z (eventGrant s) := by
  unfold eventGrant
  repeat' first
    | with_reducible assumption
    | with_reducible exact OKeeps.none
    | with_reducible apply OKeeps.some
    | with_reducible apply keeps_grantActions
    | with_reducible apply keeps_raiseAnew
    | with_reducible exact narrow hpm
    | (simp only [Keeps.upd]; apply Kp.put_events (hb := bit hpm); apply Kp.put_sched (hb := bit hpm); with_reducible apply Kp.of)
    | split

theorem keeps_inboxPop {pm : Nat} {z : State} {s : State} {n : Nat} (hpm : Within 0x80000 pm) (hk : Keeps pm z s) : PKeeps pm z (inboxPop s n) := by
  unfold inboxPop
  repeat' first
    | with_reducible assumption
    | with_reducible apply keeps_setSched
    | simp only [PKeeps.iff]
    | split

theorem keeps_eventRaise {pm : Nat} {z : State} {s : State} {v : Nat} (hpm : Within 0x80708 pm) (hk : Keeps pm z s) : PKeeps pm z (eventRaise s v) := by
  unfold eventRaise
  repeat' first
    | with_reducible assumption
    | with_reducible apply keeps_raiseEvent
    | simp only [PKeeps.iff]
    | split

theorem keeps_schedLost {pm : Nat} {z : State} {s : State} (hpm : Within 0x80600 pm) (hk : Keeps pm z s) : Keeps pm z (schedLost s) := by
  unfold schedLost
  repeat' first
    | with_reducible assumption
    | (simp only [Keeps.upd]; apply Kp.put_events (hb := bit hpm); apply Kp.put_coalesced (hb := bit hpm); apply Kp.put_sched (hb := bit hpm); with_reducible apply Kp.of)

theorem keeps_schedStart {pm : Nat} {z : State} {s : State} (hpm : Within 0x80020 pm) (hk : Keeps pm z s) : Keeps pm z (schedStart s) := by
  unfold schedStart
  repeat' first
    | with_reducible assumption
    | (simp only [Keeps.upd]; apply Kp.put_stamps (hb := bit hpm); apply Kp.put_sched (hb := bit hpm); with_reducible apply Kp.of)

/-! Cores -/

theorem keeps_setCore {pm : Nat} {z : State} {s : State} {n : Nat} {c : Core} (hpm : Within 0x100000 pm) (hk : Keeps pm z s) : Keeps pm z (setCore s n c) := by
  unfold setCore
  repeat' first
    | with_reducible assumption
    | (simp only [Keeps.upd]; apply Kp.put_cores (hb := bit hpm); with_reducible apply Kp.of)

theorem keeps_spillDepth {pm : Nat} {z : State} {s : State} {n : Nat} (hpm : Within 0x8 pm) (hk : Keeps pm z s) : Keeps pm z (spillDepth s n) := by
  unfold spillDepth
  dsimp only
  repeat' first
    | with_reducible assumption
    | with_reducible apply keeps_wr
    | split

theorem keeps_writeCsr {pm : Nat} {z : State} {s : State} {n : Nat} {a : Nat} {v : Nat} (hpm : Within 0x100108 pm) (hk : Keeps pm z s) : OKeeps pm z (writeCsr s n a v) := by
  unfold writeCsr
  dsimp only
  repeat' first
    | with_reducible assumption
    | with_reducible exact OKeeps.none
    | with_reducible apply OKeeps.some
    | with_reducible apply keeps_setCore
    | with_reducible apply keeps_spillDepth
    | with_reducible refine PKeeps.fst (keeps_freeNat ?_ ?_)
    | with_reducible apply OKeeps.mapAny
    | with_reducible exact narrow hpm
    | split
    | with_reducible intro _

theorem keeps_doubleFault {pm : Nat} {z : State} {s : State} {n : Nat} {cause : Nat} (hpm : Within 0x180728 pm) (hk : Keeps pm z s) : Keeps pm z (doubleFault s n cause) := by
  unfold doubleFault
  repeat' first
    | with_reducible assumption
    | with_reducible apply keeps_setCore
    | with_reducible apply keeps_wr
    | with_reducible apply keeps_coreLeaves
    | with_reducible apply keeps_setCause
    | with_reducible apply keeps_enter
    | with_reducible exact narrow hpm

theorem keeps_trapEnter {pm : Nat} {z : State} {s : State} {n : Nat} {cause : Nat} {tval : Nat} (hpm : Within 0x100002 pm) (hk : Keeps pm z s) : Keeps pm z (trapEnter s n cause tval) := by
  unfold trapEnter
  repeat' first
    | with_reducible assumption
    | with_reducible apply keeps_setCore
    | with_reducible exact narrow hpm
    | (simp only [Keeps.upd]; repeat' first | (with_reducible apply Kp.of) | (with_reducible apply Kp.passMax (hb := bit hpm)) | (with_reducible apply Kp.passAdd (hb := bit hpm)))

theorem keeps_trap {pm : Nat} {z : State} {s : State} {n : Nat} {cause : Nat} {tval : Nat} (hpm : Within 0x18072a pm) (hk : Keeps pm z s) : Keeps pm z (trap s n cause tval) := by
  unfold trap
  repeat' first
    | with_reducible assumption
    | with_reducible apply keeps_doubleFault
    | with_reducible apply keeps_count64
    | with_reducible apply keeps_trapEnter
    | with_reducible exact narrow hpm
    | split

theorem keeps_illegal {pm : Nat} {z : State} {s : State} {n : Nat} {w : Nat} (hpm : Within 0x18072a pm) (hk : Keeps pm z s) : Keeps pm z (illegal s n w) := by
  unfold illegal
  repeat' first
    | with_reducible assumption
    | with_reducible apply keeps_trap
    | with_reducible refine PKeeps.fst (keeps_freeNat ?_ ?_)
    | with_reducible exact narrow hpm

theorem keeps_accessFault {pm : Nat} {z : State} {s : State} {n : Nat} {store : Bool} {st : Nat} {a : Nat} (hpm : Within 0x18072a pm) (hk : Keeps pm z s) : Keeps pm z (accessFault s n store st a) := by
  unfold accessFault
  repeat' first
    | with_reducible assumption
    | with_reducible apply keeps_setCore
    | with_reducible apply keeps_trap
    | with_reducible apply keeps_setCause
    | with_reducible apply keeps_bump
    | with_reducible exact narrow hpm

theorem keeps_mretDo {pm : Nat} {z : State} {s : State} {n : Nat} {w : Nat} (hpm : Within 0x18072a pm) (hk : Keeps pm z s) : Keeps pm z (mretDo s n w) := by
  unfold mretDo
  dsimp only
  repeat' first
    | with_reducible assumption
    | with_reducible apply keeps_setCore
    | with_reducible apply keeps_illegal
    | with_reducible exact narrow hpm
    | split

theorem keeps_collided {pm : Nat} {z : State} {s : State} {n : Nat} {clash : Option Nat} (hpm : Within 0x80708 pm) (hk : Keeps pm z s) : Keeps pm z (collided s n clash) := by
  unfold collided
  repeat' first
    | with_reducible assumption
    | with_reducible apply keeps_setCause
    | with_reducible apply keeps_bump
    | with_reducible exact narrow hpm
    | split

theorem keeps_localStore {pm : Nat} {z : State} {s : State} {n : Nat} {o : Nat} {size : Nat} {v : Nat} (hpm : Within 0x180748 pm) (hk : Keeps pm z s) : Keeps pm z (localStore s n o size v) := by
  unfold localStore
  repeat' first
    | with_reducible assumption
    | with_reducible apply keeps_collided
    | with_reducible apply keeps_memWrite
    | with_reducible apply keeps_setCore
    | with_reducible exact narrow hpm

theorem keeps_portBWrite {pm : Nat} {z : State} {s : State} {n : Nat} {o : Nat} {clash : Nat} {l : List Byte} {k : Nat} (hpm : Within 0x40 pm) (hk : Keeps pm z s) : Keeps pm z (portBWrite s n o clash l k) := by
  induction l generalizing k s with
  | nil =>
    unfold portBWrite
    repeat' first
      | with_reducible assumption
  | cons x r ih =>
    unfold portBWrite
    repeat' first
      | with_reducible apply ih
      | with_reducible assumption
      | with_reducible apply keeps_memPut
      | split

theorem keeps_coreNetWrite {pm : Nat} {z : State} {s : State} {n : Nat} {o : Nat} {size : Nat} {v : Nat} (hpm : Within 0x180748 pm) (hk : Keeps pm z s) : PKeeps pm z (coreNetWrite s n o size v) := by
  unfold coreNetWrite
  repeat' first
    | with_reducible assumption
    | with_reducible apply keeps_setCore
    | with_reducible apply keeps_collided
    | with_reducible apply keeps_portBWrite
    | with_reducible exact narrow hpm
    | simp only [PKeeps.iff]
    | split

theorem keeps_netStore {pm : Nat} {z : State} {k : Nat} {s : State} {a : Nat} {b : List Byte} (hpm : Within 0x180748 pm) (hk : Keeps pm z s) : Keeps pm z (netStore k s a b) := by
  induction k generalizing s a b with
  | zero =>
    unfold netStore
    repeat' first
      | with_reducible assumption
  | succ k ih =>
    unfold netStore
    repeat' first
      | with_reducible apply ih
      | with_reducible refine PKeeps.fst (keeps_coreNetWrite (narrow hpm) ?_)
      | with_reducible assumption
      | with_reducible apply keeps_memWrite
      | with_reducible exact narrow hpm
      | split

theorem keeps_fetchParcel {pm : Nat} {z : State} {s : State} {n : Nat} {a : Nat} (hpm : Within 0x100 pm) (hk : Keeps pm z s) : QKeeps pm z (fetchParcel s n a) := by
  unfold fetchParcel
  repeat' first
    | with_reducible assumption
    | with_reducible refine PKeeps.fst (keeps_freeNat ?_ ?_)
    | with_reducible apply QKeeps.mapAny
    | simp only [PKeeps.iff]
    | split
    | with_reducible intro _

theorem keeps_fetch {pm : Nat} {z : State} {s : State} {n : Nat} {a : Nat} (hpm : Within 0x100 pm) (hk : Keeps pm z s) : PKeeps pm z (fetch s n a) := by
  unfold fetch
  repeat' first
    | with_reducible assumption
    | with_reducible apply keeps_fetchParcel
    | (with_reducible refine QKeeps.of ?_ (by with_reducible assumption))
    | simp only [PKeeps.iff]
    | split

theorem keeps_retire {pm : Nat} {z : State} {s : State} {n : Nat} {len : Nat} (hpm : Within 0x100000 pm) (hk : Keeps pm z s) : Keeps pm z (retire s n len) := by
  unfold retire
  repeat' first
    | with_reducible assumption
    | with_reducible apply keeps_setCore

theorem keeps_jump {pm : Nat} {z : State} {s : State} {n : Nat} {target : Nat} (hpm : Within 0x100000 pm) (hk : Keeps pm z s) : Keeps pm z (jump s n target) := by
  unfold jump
  repeat' first
    | with_reducible assumption
    | with_reducible apply keeps_setCore

theorem keeps_issueAt {pm : Nat} {z : State} {s : State} {n : Nat} {keys : List Nat} (hpm : Within 0x100002 pm) (hk : Keeps pm z s) : Keeps pm z (issueAt s n keys) := by
  unfold issueAt
  refine keeps_setCore (narrow hpm) (Keeps.upd.2 ?_)
  exact Kp.passes (now := s.now) (Kp.of hk) (bit hpm) (Nat.le_add_right _ _)

theorem keeps_coreIssue {pm : Nat} {z : State} {s : State} {n : Nat} {row : CoreRow} {f : State → Nat → Nat → State} (hpm : Within 0x18072a pm) (hk : Keeps pm z s) (hf : ∀ x i j, Keeps pm z x → Keeps pm z (f x i j)) : OKeeps pm z (coreIssue s n row f) := by
  unfold coreIssue
  repeat' first
    | with_reducible assumption
    | with_reducible exact OKeeps.none
    | with_reducible apply OKeeps.some
    | with_reducible apply keeps_fetch
    | with_reducible apply keeps_trap
    | with_reducible apply keeps_issueAt
    | with_reducible apply keeps_illegal
    | with_reducible apply hf
    | (with_reducible refine PKeeps.of ?_ (by with_reducible assumption))
    | with_reducible exact narrow hpm
    | split

theorem keeps_coreRequest {pm : Nat} {z : State} {s : State} {n : Nat} {r : NetReq} {w : CoreWait} (hpm : Within 0x300000 pm) (hk : Keeps pm z s) : Keeps pm z (coreRequest s n r w) := by
  unfold coreRequest
  repeat' first
    | with_reducible assumption
    | with_reducible apply keeps_setCore
    | with_reducible apply keeps_setNi
    | with_reducible exact narrow hpm

theorem keeps_coreToReset {pm : Nat} {z : State} {s : State} {n : Nat} (hpm : Within 0x180728 pm) (hk : Keeps pm z s) : Keeps pm z (coreToReset s n) := by
  unfold coreToReset
  repeat' first
    | with_reducible assumption
    | with_reducible apply keeps_wr
    | with_reducible apply keeps_enter
    | with_reducible apply keeps_coreLeaves
    | with_reducible apply keeps_setCore
    | with_reducible exact narrow hpm

theorem keeps_coreRunWrite {pm : Nat} {z : State} {s : State} {n : Nat} {v : Nat} (hpm : Within 0x180728 pm) (hk : Keeps pm z s) : PKeeps pm z (coreRunWrite s n v) := by
  unfold coreRunWrite
  repeat' first
    | with_reducible assumption
    | with_reducible apply keeps_wr
    | with_reducible apply keeps_schedSettle
    | with_reducible apply keeps_enter
    | with_reducible apply keeps_setCore
    | with_reducible exact narrow hpm
    | simp only [PKeeps.iff]
    | split

theorem keeps_coreHaltNow {pm : Nat} {z : State} {s : State} {n : Nat} (hpm : Within 0x180728 pm) (hk : Keeps pm z s) : Keeps pm z (coreHaltNow s n) := by
  unfold coreHaltNow
  repeat' first
    | with_reducible assumption
    | with_reducible apply keeps_schedSettle
    | with_reducible apply keeps_setCause
    | with_reducible apply keeps_enter
    | with_reducible apply keeps_setCore
    | with_reducible exact narrow hpm

theorem keeps_coreHaltDue {pm : Nat} {z : State} {s : State} {n : Nat} (hpm : Within 0x180728 pm) (hk : Keeps pm z s) : OKeeps pm z (coreHaltDue s n) := by
  unfold coreHaltDue
  dsimp only
  repeat' first
    | with_reducible assumption
    | with_reducible exact OKeeps.none
    | with_reducible apply OKeeps.some
    | with_reducible apply keeps_coreHaltNow
    | split

theorem keeps_coreResetWrite {pm : Nat} {z : State} {s : State} {n : Nat} (hpm : Within 0x180728 pm) (hk : Keeps pm z s) : PKeeps pm z (coreResetWrite s n) := by
  unfold coreResetWrite
  repeat' first
    | with_reducible assumption
    | with_reducible apply keeps_coreToReset
    | simp only [PKeeps.iff]
    | split

theorem keeps_corePairOn {pm : Nat} {z : State} {s : State} {d : Nat} (hpm : Within 0x100028 pm) (hk : Keeps pm z s) : Keeps pm z (corePairOn s d) := by
  unfold corePairOn
  repeat' first
    | with_reducible assumption
    | with_reducible apply keeps_enter
    | with_reducible apply keeps_setCore
    | with_reducible apply Keeps.foldl
    | with_reducible exact narrow hpm
    | with_reducible intro _ _
    | with_reducible intro _

theorem keeps_corePairOff {pm : Nat} {z : State} {s : State} {d : Nat} (hpm : Within 0x1807e8 pm) (hk : Keeps pm z s) : Keeps pm z (corePairOff s d) := by
  unfold corePairOff
  repeat' first
    | with_reducible assumption
    | with_reducible apply keeps_wr
    | with_reducible apply keeps_enter
    | with_reducible apply keeps_memForget
    | with_reducible apply keeps_coreLeaves
    | with_reducible apply keeps_setCore
    | with_reducible apply Keeps.foldl
    | with_reducible exact narrow hpm
    | with_reducible intro _ _
    | with_reducible intro _

theorem keeps_interruptDue {pm : Nat} {z : State} {s : State} {n : Nat} (hpm : Within 0x100002 pm) (hk : Keeps pm z s) : OKeeps pm z (interruptDue s n) := by
  unfold interruptDue
  dsimp only
  repeat' first
    | with_reducible assumption
    | with_reducible exact OKeeps.none
    | with_reducible apply OKeeps.some
    | with_reducible apply keeps_trapEnter
    | split

theorem keeps_accumulatorDue {pm : Nat} {z : State} {s : State} {n : Nat} (hpm : Within 0x100000 pm) (hk : Keeps pm z s) : OKeeps pm z (accumulatorDue s n) := by
  unfold accumulatorDue
  dsimp only
  repeat' first
    | with_reducible assumption
    | with_reducible exact OKeeps.none
    | with_reducible apply OKeeps.some
    | with_reducible apply keeps_setCore
    | split

/-! CoreOps -/

theorem keeps_finishX {pm : Nat} {z : State} {s : State} {n : Nat} {len : Nat} {rd : Nat} {v : Nat} {k : Nat} (hpm : Within 0x100000 pm) (hk : Keeps pm z s) : Keeps pm z (finishX s n len rd v k) := by
  unfold finishX
  repeat' first
    | with_reducible assumption
    | with_reducible apply keeps_retire
    | with_reducible apply keeps_setCore

theorem keeps_finishF {pm : Nat} {z : State} {s : State} {n : Nat} {len : Nat} {rd : Nat} {v : Nat} {k : Nat} (hpm : Within 0x100000 pm) (hk : Keeps pm z s) : Keeps pm z (finishF s n len rd v k) := by
  unfold finishF
  repeat' first
    | with_reducible assumption
    | with_reducible apply keeps_retire
    | with_reducible apply keeps_setCore

theorem keeps_coreLoad {pm : Nat} {z : State} {s : State} {n : Nat} {len : Nat} {a : Nat} {size : Nat} {w : CoreWait} (hpm : Within 0x38072a pm) (hk : Keeps pm z s) : Keeps pm z (coreLoad s n len a size w) := by
  unfold coreLoad
  repeat' first
    | with_reducible assumption
    | with_reducible apply keeps_trap
    | with_reducible apply keeps_accessFault
    | with_reducible apply keeps_coreRequest
    | with_reducible apply keeps_finishX
    | with_reducible apply keeps_finishF
    | with_reducible exact narrow hpm
    | split

theorem keeps_coreStore {pm : Nat} {z : State} {s : State} {n : Nat} {len : Nat} {a : Nat} {size : Nat} {v : Nat} (hpm : Within 0x38076a pm) (hk : Keeps pm z s) : Keeps pm z (coreStore s n len a size v) := by
  unfold coreStore
  repeat' first
    | with_reducible assumption
    | with_reducible apply keeps_trap
    | with_reducible apply keeps_accessFault
    | with_reducible apply keeps_coreRequest
    | with_reducible apply keeps_retire
    | with_reducible apply keeps_localStore
    | with_reducible exact narrow hpm
    | split

theorem keeps_csrExec {pm : Nat} {z : State} {s : State} {n : Nat} {w : Nat} {len : Nat} (hpm : Within 0x18072a pm) (hk : Keeps pm z s) : Keeps pm z (csrExec s n w len) := by
  unfold csrExec
  dsimp only
  repeat' first
    | with_reducible assumption
    | with_reducible apply OKeeps.some
    | with_reducible apply keeps_illegal
    | with_reducible apply keeps_writeCsr
    | with_reducible apply keeps_finishX
    | with_reducible apply keeps_setCore
    | (with_reducible refine OKeeps.of ?_ (by with_reducible assumption))
    | with_reducible exact narrow hpm
    | split

theorem keeps_systemExec {pm : Nat} {z : State} {s : State} {n : Nat} {w : Nat} {len : Nat} (hpm : Within 0x18072a pm) (hk : Keeps pm z s) : Keeps pm z (systemExec s n w len) := by
  unfold systemExec
  dsimp only
  repeat' first
    | with_reducible assumption
    | with_reducible apply keeps_trap
    | with_reducible apply keeps_coreHaltNow
    | with_reducible apply keeps_retire
    | with_reducible apply keeps_illegal
    | with_reducible apply keeps_csrExec
    | with_reducible refine PKeeps.fst (keeps_freeNat ?_ ?_)
    | with_reducible exact narrow hpm
    | split

theorem keeps_fpFinishInstr {pm : Nat} {z : State} {s : State} {n : Nat} {w : Nat} {len : Nat} {r : Bool × Nat × Nat × Nat} (hpm : Within 0x100000 pm) (hk : Keeps pm z s) : Keeps pm z (fpFinishInstr s n w len r) := by
  unfold fpFinishInstr
  repeat' first
    | with_reducible assumption
    | with_reducible apply keeps_setCore
    | with_reducible apply keeps_finishF
    | with_reducible apply keeps_finishX
    | split

theorem keeps_baseExec {pm : Nat} {z : State} {s0 : State} {n : Nat} {w : Nat} {len : Nat} (hpm : Within 0x38076a pm) (hk : Keeps pm z s0) : Keeps pm z (baseExec s0 n w len) := by
  unfold baseExec
  dsimp only
  repeat' first
    | with_reducible assumption
    | with_reducible apply keeps_issueAt
    | with_reducible apply keeps_finishX
    | with_reducible apply keeps_jump
    | with_reducible apply keeps_setCore
    | with_reducible apply keeps_illegal
    | with_reducible apply keeps_retire
    | with_reducible apply keeps_coreLoad
    | with_reducible apply keeps_coreStore
    | with_reducible apply keeps_systemExec
    | with_reducible apply keeps_fpFinishInstr
    | with_reducible exact narrow hpm
    | split

theorem keeps_windowCall {pm : Nat} {z : State} {s : State} {n : Nat} {len : Nat} {target : Nat} (hpm : Within 0x18072a pm) (hk : Keeps pm z s) : Keeps pm z (windowCall s n len target) := by
  unfold windowCall
  dsimp only
  repeat' first
    | with_reducible assumption
    | with_reducible apply keeps_trap
    | with_reducible apply keeps_jump
    | with_reducible apply keeps_setCore
    | with_reducible exact narrow hpm
    | split

theorem keeps_callwExec {pm : Nat} {z : State} {s0 : State} {n : Nat} {w : Nat} {len : Nat} (hpm : Within 0x18072a pm) (hk : Keeps pm z s0) : Keeps pm z (callwExec s0 n w len) := by
  unfold callwExec
  repeat' first
    | with_reducible assumption
    | with_reducible apply keeps_issueAt
    | with_reducible apply keeps_illegal
    | with_reducible apply keeps_windowCall
    | with_reducible exact narrow hpm
    | split

theorem keeps_callwrExec {pm : Nat} {z : State} {s0 : State} {n : Nat} {w : Nat} {len : Nat} (hpm : Within 0x18072a pm) (hk : Keeps pm z s0) : Keeps pm z (callwrExec s0 n w len) := by
  unfold callwrExec
  repeat' first
    | with_reducible assumption
    | with_reducible apply keeps_issueAt
    | with_reducible apply keeps_illegal
    | with_reducible apply keeps_windowCall
    | with_reducible exact narrow hpm
    | split

theorem keeps_retwExec {pm : Nat} {z : State} {s0 : State} {n : Nat} {w : Nat} (hpm : Within 0x18072a pm) (hk : Keeps pm z s0) : Keeps pm z (retwExec s0 n w) := by
  unfold retwExec
  dsimp only
  repeat' first
    | with_reducible assumption
    | with_reducible apply keeps_issueAt
    | with_reducible apply keeps_illegal
    | with_reducible apply keeps_trap
    | with_reducible apply keeps_jump
    | with_reducible apply keeps_setCore
    | with_reducible exact narrow hpm
    | split

theorem keeps_multiFinish {pm : Nat} {z : State} {s : State} {n : Nat} {len : Nat} {m : Multi} (hpm : Within 0x100008 pm) (hk : Keeps pm z s) : Keeps pm z (multiFinish s n len m) := by
  unfold multiFinish
  repeat' first
    | with_reducible assumption
    | with_reducible apply keeps_retire
    | with_reducible apply keeps_spillDepth
    | with_reducible apply keeps_setCore
    | with_reducible exact narrow hpm

theorem keeps_multiRun {pm : Nat} {z : State} {n : Nat} {len : Nat} {m : Multi} {l : List Nat} {left : Nat} {s : State} (hpm : Within 0x38076a pm) (hk : Keeps pm z s) : Keeps pm z (multiRun n len m l left s) := by
  induction l generalizing left s with
  | nil => exact keeps_multiFinish (narrow hpm) hk
  | cons x r ih =>
    cases left with
    | zero => exact hk
    | succ left =>
      unfold multiRun
      dsimp only
      repeat' first
        | with_reducible apply ih
        | with_reducible assumption
        | with_reducible apply keeps_accessFault
        | with_reducible apply keeps_setCore
        | with_reducible apply keeps_localStore
        | with_reducible apply keeps_coreRequest
        | with_reducible exact narrow hpm
        | (simp only [Keeps.upd]; repeat' first | (with_reducible apply Kp.of) | (with_reducible apply Kp.passMax (hb := bit hpm)) | (with_reducible apply Kp.passAdd (hb := bit hpm)))
        | split

theorem keeps_multiExec {pm : Nat} {z : State} {s0 : State} {n : Nat} {w : Nat} {len : Nat} {regs : Nat} {load : Bool} {o : Bool} (hpm : Within 0x38076a pm) (hk : Keeps pm z s0) : Keeps pm z (multiExec s0 n w len regs load o) := by
  unfold multiExec
  dsimp only
  repeat' first
    | with_reducible assumption
    | with_reducible apply keeps_issueAt
    | with_reducible apply keeps_illegal
    | with_reducible apply keeps_trap
    | with_reducible apply keeps_multiRun
    | with_reducible exact narrow hpm
    | split

theorem keeps_spillwExec {pm : Nat} {z : State} {s0 : State} {n : Nat} {w : Nat} {len : Nat} (hpm : Within 0x38076a pm) (hk : Keeps pm z s0) : Keeps pm z (spillwExec s0 n w len) := by
  unfold spillwExec
  dsimp only
  repeat' first
    | with_reducible assumption
    | with_reducible apply keeps_issueAt
    | with_reducible apply keeps_illegal
    | with_reducible apply keeps_trap
    | with_reducible apply keeps_multiRun
    | with_reducible exact narrow hpm
    | split

theorem keeps_fillwExec {pm : Nat} {z : State} {s0 : State} {n : Nat} {w : Nat} {len : Nat} (hpm : Within 0x38076a pm) (hk : Keeps pm z s0) : Keeps pm z (fillwExec s0 n w len) := by
  unfold fillwExec
  dsimp only
  repeat' first
    | with_reducible assumption
    | with_reducible apply keeps_issueAt
    | with_reducible apply keeps_illegal
    | with_reducible apply keeps_trap
    | with_reducible apply keeps_multiRun
    | with_reducible exact narrow hpm
    | split

theorem keeps_coreAnswer {pm : Nat} {z : State} {s : State} {n : Nat} {st : Nat} {v : Nat} {r : NetReq} (hpm : Within 0x18072a pm) (hk : Keeps pm z s) : Keeps pm z (coreAnswer s n st v r) := by
  unfold coreAnswer
  dsimp only
  repeat' first
    | with_reducible assumption
    | with_reducible apply keeps_setCore
    | with_reducible apply keeps_accessFault
    | with_reducible apply keeps_finishX
    | with_reducible apply keeps_finishF
    | with_reducible apply keeps_retire
    | with_reducible apply keeps_multiFinish
    | with_reducible exact narrow hpm
    | split

theorem keeps_dspDone {pm : Nat} {z : State} {s : State} {n : Nat} {len : Nat} (hpm : Within 0x100000 pm) (hk : Keeps pm z s) : Keeps pm z (dspDone s n len) := by
  unfold dspDone
  dsimp only
  repeat' first
    | with_reducible assumption
    | with_reducible apply keeps_setCore
    | with_reducible apply keeps_retire
    | split

theorem keeps_repeats {pm : Nat} {z : State} {f : State → State} {n : Nat} {k : Nat} {s : State} (hpm : Within 0x0 pm) (hf : ∀ x, Keeps pm z x → Keeps pm z (f x)) (hk : Keeps pm z s) : Keeps pm z (repeats f n k s) := by
  induction k generalizing s with
  | zero => exact hk
  | succ k ih =>
    unfold repeats
    dsimp only
    split
    · exact ih (hf _ hk)
    · exact hf _ hk

theorem keeps_fmacExec {pm : Nat} {z : State} {s0 : State} {n : Nat} {w : Nat} {len : Nat} {kind : Nat} (hpm : Within 0x18072a pm) (hk : Keeps pm z s0) : Keeps pm z (fmacExec s0 n w len kind) := by
  unfold fmacExec
  dsimp only
  repeat' first
    | with_reducible assumption
    | with_reducible apply keeps_issueAt
    | with_reducible apply keeps_illegal
    | with_reducible apply keeps_dspDone
    | with_reducible apply keeps_setCore
    | with_reducible exact narrow hpm
    | split

theorem keeps_xyLoad {pm : Nat} {z : State} {s0 : State} {n : Nat} {w : Nat} {len : Nat} {m : Nat} (hpm : Within 0x18072a pm) (hk : Keeps pm z s0) : Keeps pm z (xyLoad s0 n w len m) := by
  unfold xyLoad
  dsimp only
  repeat' first
    | with_reducible assumption
    | with_reducible apply keeps_issueAt
    | with_reducible apply keeps_illegal
    | with_reducible apply keeps_dspDone
    | with_reducible apply keeps_setCore
    | with_reducible exact narrow hpm
    | split

theorem keeps_xyStore {pm : Nat} {z : State} {s0 : State} {n : Nat} {w : Nat} {len : Nat} {m : Nat} (hpm : Within 0x18076a pm) (hk : Keeps pm z s0) : Keeps pm z (xyStore s0 n w len m) := by
  unfold xyStore
  dsimp only
  repeat' first
    | with_reducible assumption
    | with_reducible apply keeps_issueAt
    | with_reducible apply keeps_illegal
    | with_reducible apply keeps_localStore
    | with_reducible apply keeps_dspDone
    | with_reducible apply keeps_setCore
    | with_reducible exact narrow hpm
    | split

theorem keeps_fmvafExec {pm : Nat} {z : State} {s0 : State} {n : Nat} {w : Nat} {len : Nat} (hpm : Within 0x18072a pm) (hk : Keeps pm z s0) : Keeps pm z (fmvafExec s0 n w len) := by
  unfold fmvafExec
  dsimp only
  repeat' first
    | with_reducible assumption
    | with_reducible apply keeps_issueAt
    | with_reducible apply keeps_illegal
    | with_reducible apply keeps_finishF
    | with_reducible exact narrow hpm
    | split

theorem keeps_fmvfaExec {pm : Nat} {z : State} {s0 : State} {n : Nat} {w : Nat} {len : Nat} (hpm : Within 0x18072a pm) (hk : Keeps pm z s0) : Keeps pm z (fmvfaExec s0 n w len) := by
  unfold fmvfaExec
  dsimp only
  repeat' first
    | with_reducible assumption
    | with_reducible apply keeps_issueAt
    | with_reducible apply keeps_illegal
    | with_reducible apply keeps_retire
    | with_reducible apply keeps_setCore
    | with_reducible exact narrow hpm
    | split

theorem keeps_acczExec {pm : Nat} {z : State} {s0 : State} {n : Nat} {w : Nat} {len : Nat} (hpm : Within 0x18072a pm) (hk : Keeps pm z s0) : Keeps pm z (acczExec s0 n w len) := by
  unfold acczExec
  repeat' first
    | with_reducible assumption
    | with_reducible apply keeps_issueAt
    | with_reducible apply keeps_illegal
    | with_reducible apply keeps_retire
    | with_reducible apply keeps_setCore
    | with_reducible exact narrow hpm
    | split

theorem keeps_accsumExec {pm : Nat} {z : State} {s0 : State} {n : Nat} {w : Nat} {len : Nat} (hpm : Within 0x18072a pm) (hk : Keeps pm z s0) : Keeps pm z (accsumExec s0 n w len) := by
  unfold accsumExec
  dsimp only
  repeat' first
    | with_reducible assumption
    | with_reducible apply keeps_issueAt
    | with_reducible apply keeps_illegal
    | with_reducible apply keeps_finishF
    | with_reducible exact narrow hpm
    | split

theorem keeps_repStart {pm : Nat} {z : State} {s : State} {n : Nat} {w : Nat} {count : Nat} (hpm : Within 0x18072a pm) (hk : Keeps pm z s) : Keeps pm z (repStart s n w count) := by
  unfold repStart
  dsimp only
  repeat' first
    | with_reducible assumption
    | with_reducible apply keeps_illegal
    | with_reducible apply keeps_retire
    | with_reducible apply keeps_setCore
    | with_reducible exact narrow hpm
    | split

theorem keeps_repExec {pm : Nat} {z : State} {s0 : State} {n : Nat} {w : Nat} (hpm : Within 0x18072a pm) (hk : Keeps pm z s0) : Keeps pm z (repExec s0 n w) := by
  unfold repExec
  repeat' first
    | with_reducible assumption
    | with_reducible apply keeps_issueAt
    | with_reducible apply keeps_illegal
    | with_reducible apply keeps_repStart
    | with_reducible exact narrow hpm
    | split

theorem keeps_reprExec {pm : Nat} {z : State} {s0 : State} {n : Nat} {w : Nat} (hpm : Within 0x18072a pm) (hk : Keeps pm z s0) : Keeps pm z (reprExec s0 n w) := by
  unfold reprExec
  repeat' first
    | with_reducible assumption
    | with_reducible apply keeps_issueAt
    | with_reducible apply keeps_illegal
    | with_reducible apply keeps_repStart
    | with_reducible exact narrow hpm
    | split

theorem keeps_loopExec {pm : Nat} {z : State} {s0 : State} {n : Nat} {w : Nat} (hpm : Within 0x18072a pm) (hk : Keeps pm z s0) : Keeps pm z (loopExec s0 n w) := by
  unfold loopExec
  dsimp only
  repeat' first
    | with_reducible assumption
    | with_reducible apply keeps_issueAt
    | with_reducible apply keeps_illegal
    | with_reducible apply keeps_fetch
    | with_reducible apply keeps_setCore
    | with_reducible apply keeps_trap
    | with_reducible apply keeps_retire
    | (with_reducible refine PKeeps.of ?_ (by with_reducible assumption))
    | with_reducible exact narrow hpm
    | split

/-! Noc -/

theorem keeps_shadowWrite {pm : Nat} {z : State} {s : State} {ni : Nat} {b : List Byte} (hpm : Within 0x200000 pm) (hk : Keeps pm z s) : Keeps pm z (shadowWrite s ni b) := by
  unfold shadowWrite
  repeat' first
    | with_reducible assumption
    | with_reducible apply keeps_setNi

theorem keeps_swapGo {pm : Nat} {z : State} {s : State} (hpm : Within 0x280708 pm) (hk : Keeps pm z s) : PKeeps pm z (swapGo s) := by
  unfold swapGo
  repeat' first
    | with_reducible assumption
    | with_reducible apply keeps_setCause
    | with_reducible apply keeps_wr
    | with_reducible apply keeps_setNoc
    | with_reducible apply keeps_setNi
    | with_reducible apply Keeps.foldl
    | with_reducible exact narrow hpm
    | simp only [PKeeps.iff]
    | split
    | with_reducible intro _ _

theorem keeps_niSwap {pm : Nat} {z : State} {s : State} {k : Nat} (hpm : Within 0x280708 pm) (hk : Keeps pm z s) : OKeeps pm z (niSwap s k) := by
  unfold niSwap
  dsimp only
  repeat' first
    | with_reducible assumption
    | with_reducible exact OKeeps.none
    | with_reducible apply OKeeps.some
    | with_reducible apply keeps_wr
    | with_reducible apply keeps_setNi
    | with_reducible apply keeps_setCause
    | with_reducible exact narrow hpm
    | split

theorem keeps_swapsDue {pm : Nat} {z : State} {s : State} (hpm : Within 0x280708 pm) (hk : Keeps pm z s) : Keeps pm z (swapsDue s) := by
  unfold swapsDue
  split
  · exact Keeps.foldl _ _ hk (fun x b h => OKeeps.getD (keeps_niSwap (narrow hpm) h) h)
  · exact hk

theorem keeps_weightsWrite {pm : Nat} {z : State} {s : State} {b : List Byte} (hpm : Within 0x200000 pm) (hk : Keeps pm z s) : PKeeps pm z (weightsWrite s b) := by
  unfold weightsWrite
  repeat' first
    | with_reducible assumption
    | with_reducible apply keeps_setRouter
    | simp only [PKeeps.iff]
    | split

theorem keeps_routerGo {pm : Nat} {z : State} {s : State} (hpm : Within 0x200008 pm) (hk : Keeps pm z s) : PKeeps pm z (routerGo s) := by
  unfold routerGo
  repeat' first
    | with_reducible assumption
    | with_reducible apply keeps_setNoc
    | with_reducible apply keeps_wr
    | with_reducible exact narrow hpm
    | simp only [PKeeps.iff]
    | split

theorem keeps_routerApply {pm : Nat} {z : State} {s : State} (hpm : Within 0x280708 pm) (hk : Keeps pm z s) : OKeeps pm z (routerApply s) := by
  unfold routerApply
  dsimp only
  repeat' first
    | with_reducible assumption
    | with_reducible exact OKeeps.none
    | with_reducible apply OKeeps.some
    | with_reducible apply keeps_setRouter
    | with_reducible apply keeps_wr
    | with_reducible apply keeps_setNoc
    | with_reducible apply keeps_setCause
    | with_reducible exact narrow hpm
    | split

theorem keeps_netDeliver {pm : Nat} {z : State} {s : State} {ni : Nat} {r : NetReq} {st : Nat} {v : Nat} (hpm : Within 0x18072e pm) (hk : Keeps pm z s) : Keeps pm z (netDeliver s ni r st v) := by
  unfold netDeliver
  repeat' first
    | with_reducible assumption
    | with_reducible apply keeps_coreAnswer
    | with_reducible exact narrow hpm
    | (simp only [Keeps.upd]; apply Kp.put_answer (hb := bit hpm); with_reducible apply Kp.of)
    | split

theorem keeps_fenceApplied {pm : Nat} {z : State} {s : State} {t : Nat} (hpm : Within 0x100 pm) (hk : Keeps pm z s) : PKeeps pm z (fenceApplied s t) := by
  unfold fenceApplied
  repeat' first
    | with_reducible assumption
    | with_reducible refine PKeeps.fst (keeps_freeNat ?_ ?_)
    | simp only [PKeeps.iff]
    | split

theorem keeps_netSend {pm : Nat} {z : State} {s : State} {ni : Nat} {k : Nat} {t : Nat} {r : NetReq} (hpm : Within 0x200000 pm) (hk : Keeps pm z s) : Keeps pm z (netSend s ni k t r) := by
  unfold netSend
  repeat' first
    | with_reducible assumption
    | with_reducible apply keeps_setNi
    | with_reducible apply keeps_setNoc
    | split

theorem keeps_netInjectAt {pm : Nat} {z : State} {s : State} {ni : Nat} {r : NetReq} {t : Nat} {drop : State → State} (hpm : Within 0x38072e pm) (hk : Keeps pm z s) (hdrop : ∀ x, Keeps pm z x → Keeps pm z (drop x)) : OKeeps pm z (netInjectAt s ni r t drop) := by
  unfold netInjectAt
  repeat' first
    | with_reducible assumption
    | with_reducible exact OKeeps.none
    | with_reducible apply OKeeps.some
    | with_reducible apply keeps_netDeliver
    | with_reducible apply keeps_setCause
    | with_reducible apply keeps_bump
    | with_reducible apply keeps_netSend
    | with_reducible refine PKeeps.fst (keeps_fenceApplied ?_ ?_)
    | with_reducible apply hdrop
    | with_reducible apply OKeeps.mapAny
    | with_reducible exact narrow hpm
    | simp only [PKeeps.iff]
    | split
    | with_reducible intro _

theorem keeps_netInject {pm : Nat} {z : State} {s : State} {ni : Nat} {r : NetReq} {drop : State → State} (hpm : Within 0x38072e pm) (hk : Keeps pm z s) (hdrop : ∀ x, Keeps pm z x → Keeps pm z (drop x)) : OKeeps pm z (netInject s ni r drop) := by
  unfold netInject
  repeat' first
    | with_reducible assumption
    | with_reducible apply OKeeps.some
    | with_reducible apply keeps_netDeliver
    | with_reducible apply keeps_setCause
    | with_reducible apply keeps_netInjectAt
    | with_reducible apply hdrop
    | with_reducible exact narrow hpm
    | split

theorem keeps_netJoin {pm : Nat} {z : State} {s : State} {ni : Nat} {r : NetReq} (hpm : Within 0x200000 pm) (hk : Keeps pm z s) : Keeps pm z (netJoin s ni r) := by
  unfold netJoin
  repeat' first
    | with_reducible assumption
    | with_reducible apply keeps_setNi

theorem keeps_fencedAnswer {pm : Nat} {z : State} {s : State} {ni : Nat} {r : NetReq} (hpm : Within 0x38072e pm) (hk : Keeps pm z s) : Keeps pm z (fencedAnswer s ni r) := by
  unfold fencedAnswer
  dsimp only
  repeat' first
    | with_reducible assumption
    | with_reducible apply keeps_netDeliver
    | with_reducible apply keeps_setCause
    | with_reducible apply keeps_bump
    | with_reducible apply keeps_setNi
    | with_reducible refine PKeeps.fst (keeps_fenceApplied ?_ ?_)
    | with_reducible exact narrow hpm
    | split

theorem keeps_fencedWaiting {pm : Nat} {z : State} {s : State} {ni : Nat} (hpm : Within 0x38072e pm) (hk : Keeps pm z s) : Keeps pm z (fencedWaiting s ni) := by
  unfold fencedWaiting
  repeat' first
    | with_reducible assumption
    | with_reducible apply keeps_fencedAnswer
    | with_reducible apply Keeps.foldl
    | with_reducible intro _ _

theorem keeps_netRequest {pm : Nat} {z : State} {s0 : State} {ni : Nat} {addr : Nat} {size : Nat} {write : Bool} {v : Nat} (hpm : Within 0x38072e pm) (hk : Keeps pm z s0) : OKeeps pm z (netRequest s0 ni addr size write v) := by
  unfold netRequest
  dsimp only
  repeat' first
    | with_reducible assumption
    | with_reducible exact OKeeps.none
    | with_reducible apply OKeeps.some
    | with_reducible apply keeps_swapsDue
    | with_reducible apply keeps_fencedWaiting
    | with_reducible apply keeps_netJoin
    | with_reducible apply keeps_netInject
    | with_reducible apply keeps_setNi
    | with_reducible apply OKeeps.getD
    | with_reducible exact narrow hpm
    | split
    | with_reducible intro _ _

theorem keeps_routeIdle {pm : Nat} {z : State} {s : State} {ni : Nat} {route : Nat} (hpm : Within 0x200000 pm) (hk : Keeps pm z s) : Keeps pm z (routeIdle s ni route) := by
  unfold routeIdle
  repeat' first
    | with_reducible assumption
    | with_reducible apply keeps_setNoc
    | split

theorem keeps_netWaitDrop {pm : Nat} {z : State} {s : State} {ni : Nat} {k : Nat} {e : NetTag} (hpm : Within 0x2000 pm) (hk : Keeps pm z s) : Keeps pm z (netWaitDrop s ni k e) := by
  unfold netWaitDrop
  repeat' first
    | with_reducible assumption
    | with_reducible apply keeps_setField
    | split

theorem keeps_dropTag {pm : Nat} {z : State} {s0 : State} {ni : Nat} {k : Nat} {late : Bool} (hpm : Within 0x202000 pm) (hk : Keeps pm z s0) : Keeps pm z (dropTag s0 ni k late) := by
  unfold dropTag
  repeat' first
    | with_reducible assumption
    | with_reducible apply keeps_netWaitDrop
    | with_reducible apply keeps_routeIdle
    | with_reducible apply keeps_setNi
    | with_reducible apply keeps_setNoc
    | with_reducible exact narrow hpm
    | split

theorem keeps_portStall {pm : Nat} {z : State} {s : State} {ni : Nat} {k : Nat} (hpm : Within 0x38272e pm) (hk : Keeps pm z s) : OKeeps pm z (portStall s ni k) := by
  unfold portStall
  repeat' first
    | with_reducible assumption
    | with_reducible exact OKeeps.none
    | with_reducible apply OKeeps.some
    | with_reducible apply keeps_setNoc
    | with_reducible apply keeps_netDeliver
    | with_reducible apply keeps_dropTag
    | with_reducible exact narrow hpm
    | split

theorem keeps_stallEnd {pm : Nat} {z : State} {s : State} {t : Nat} (hpm : Within 0x200000 pm) (hk : Keeps pm z s) : Keeps pm z (stallEnd s t) := by
  unfold stallEnd
  repeat' first
    | with_reducible assumption
    | with_reducible apply keeps_setNoc

theorem keeps_dutyCount {pm : Nat} {z : State} {s : State} {b : Nat} {code : Nat} {n : Nat} (hpm : Within 0x200000 pm) (hk : Keeps pm z s) : Keeps pm z (dutyCount s b code n) := by
  unfold dutyCount
  repeat' first
    | with_reducible assumption
    | with_reducible apply keeps_setNoc
    | split

theorem keeps_bankWaited {pm : Nat} {z : State} {s : State} {b : Nat} {n : Nat} {w : BankWait} (hpm : Within 0x80708 pm) (hk : Keeps pm z s) : Keeps pm z (bankWaited s b n w) := by
  unfold bankWaited
  dsimp only
  repeat' first
    | with_reducible assumption
    | with_reducible apply keeps_wr
    | with_reducible apply keeps_setCause
    | with_reducible exact narrow hpm
    | split

theorem keeps_setBank {pm : Nat} {z : State} {s : State} {b : Nat} {l : List BankWait} (hpm : Within 0x200000 pm) (hk : Keeps pm z s) : Keeps pm z (setBank s b l) := by
  unfold setBank
  repeat' first
    | with_reducible assumption
    | with_reducible apply keeps_setNoc

theorem keeps_unitGrant {pm : Nat} {z : State} {s : State} {b : Nat} {w : BankWait} {x : NetTag} (hpm : Within 0x200040 pm) (hk : Keeps pm z s) : Keeps pm z (unitGrant s b w x) := by
  unfold unitGrant
  dsimp only
  repeat' first
    | with_reducible assumption
    | with_reducible apply keeps_memWrite
    | with_reducible apply keeps_setBank
    | with_reducible apply keeps_setNi
    | with_reducible exact narrow hpm
    | split

theorem keeps_bankTaken {pm : Nat} {z : State} {s : State} {b : Nat} {n : Nat} {w : BankWait} (hpm : Within 0x200000 pm) (hk : Keeps pm z s) : Keeps pm z (bankTaken s b n w) := by
  unfold bankTaken
  repeat' first
    | with_reducible assumption
    | with_reducible apply keeps_setNoc

theorem keeps_bankCount {pm : Nat} {z : State} {s : State} {b : Nat} {n : Nat} {w : BankWait} (hpm : Within 0x280708 pm) (hk : Keeps pm z s) : Keeps pm z (bankCount s b n w) := by
  unfold bankCount
  repeat' first
    | with_reducible assumption
    | with_reducible apply keeps_dutyCount
    | with_reducible apply keeps_bankTaken
    | with_reducible apply keeps_bankWaited
    | with_reducible exact narrow hpm

theorem keeps_stepGrant {pm : Nat} {z : State} {s : State} {b : Nat} {n : Nat} {w : BankWait} {u : Nat × Nat} (hpm : Within 0x280708 pm) (hk : Keeps pm z s) : Keeps pm z (stepGrant s b n w u) := by
  unfold stepGrant
  repeat' first
    | with_reducible assumption
    | with_reducible apply keeps_bankCount
    | with_reducible apply keeps_setBank
    | with_reducible exact narrow hpm

theorem keeps_bankGrantTo {pm : Nat} {z : State} {s : State} {b : Nat} {w : BankWait} (hpm : Within 0x284748 pm) (hk : Keeps pm z s) : Keeps pm z (bankGrantTo s b w) := by
  unfold bankGrantTo
  dsimp only
  repeat' first
    | with_reducible assumption
    | with_reducible apply keeps_bankCount
    | with_reducible apply keeps_spillDone
    | with_reducible apply keeps_setBank
    | with_reducible apply keeps_stepGrant
    | with_reducible apply keeps_unitGrant
    | with_reducible exact narrow hpm
    | split

theorem keeps_stepsRun {pm : Nat} {z : State} {b : Nat} {k : Nat} {s : State} (hpm : Within 0x280708 pm) (hk : Keeps pm z s) : Keeps pm z (stepsRun b k s) := by
  induction k generalizing s with
  | zero =>
    unfold stepsRun
    repeat' first
      | with_reducible assumption
  | succ k ih =>
    unfold stepsRun
    dsimp only
    repeat' first
      | with_reducible apply ih
      | with_reducible assumption
      | with_reducible apply keeps_setNoc
      | with_reducible apply keeps_stepGrant
      | with_reducible exact narrow hpm
      | split

theorem keeps_bankNow {pm : Nat} {z : State} {s : State} {b : Nat} (hpm : Within 0x280708 pm) (hk : Keeps pm z s) : Keeps pm z (bankNow s b) := by
  unfold bankNow
  repeat' first
    | with_reducible assumption
    | with_reducible apply keeps_stepsRun
    | split

theorem keeps_banksNow {pm : Nat} {z : State} {s : State} (hpm : Within 0x280708 pm) (hk : Keeps pm z s) : Keeps pm z (banksNow s) := by
  unfold banksNow
  repeat' first
    | with_reducible assumption
    | with_reducible apply keeps_bankNow
    | with_reducible apply Keeps.foldl
    | with_reducible intro _ _

theorem keeps_bankOwnerWrite {pm : Nat} {z : State} {s0 : State} {b : Nat} {v : Nat} (hpm : Within 0x280708 pm) (hk : Keeps pm z s0) : PKeeps pm z (bankOwnerWrite s0 b v) := by
  unfold bankOwnerWrite
  repeat' first
    | with_reducible assumption
    | with_reducible apply keeps_bankNow
    | with_reducible apply keeps_wr
    | with_reducible apply keeps_setNoc
    | with_reducible exact narrow hpm
    | simp only [PKeeps.iff]

theorem keeps_harrowNext {pm : Nat} {z : State} {s : State} {a : Nat} (hpm : Within 0x80708 pm) (hk : Keeps pm z s) : PKeeps pm z (harrowNext s a) := by
  unfold harrowNext
  repeat' first
    | with_reducible assumption
    | with_reducible apply keeps_setCause
    | with_reducible apply keeps_wr
    | with_reducible exact narrow hpm
    | simp only [PKeeps.iff]
    | split

theorem keeps_harrowFind {pm : Nat} {z : State} {k : Nat} {s : State} {a : Nat} (hpm : Within 0x80708 pm) (hk : Keeps pm z s) : PKeeps pm z (harrowFind k s a) := by
  induction k generalizing s a with
  | zero =>
    unfold harrowFind
    repeat' first
      | with_reducible assumption
      | simp only [PKeeps.iff]
  | succ k ih =>
    unfold harrowFind
    repeat' first
      | with_reducible apply ih
      | with_reducible assumption
      | with_reducible refine PKeeps.fst (keeps_harrowNext ?_ ?_)
      | simp only [PKeeps.iff]
      | split

theorem keeps_harrowReturn {pm : Nat} {z : State} {s0 : State} (hpm : Within 0x280708 pm) (hk : Keeps pm z s0) : Keeps pm z (harrowReturn s0) := by
  unfold harrowReturn
  dsimp only
  repeat' first
    | with_reducible assumption
    | with_reducible apply keeps_bankNow
    | with_reducible apply keeps_wr
    | with_reducible apply keeps_setNoc
    | with_reducible refine PKeeps.fst (keeps_harrowNext ?_ ?_)
    | with_reducible exact narrow hpm
    | split

theorem keeps_harrowNow {pm : Nat} {z : State} {s : State} (hpm : Within 0x280708 pm) (hk : Keeps pm z s) : Keeps pm z (harrowNow s) := by
  unfold harrowNow
  repeat' first
    | with_reducible assumption
    | with_reducible apply keeps_harrowReturn
    | split

theorem keeps_harrowRestore {pm : Nat} {z : State} {s : State} (hpm : Within 0x280708 pm) (hk : Keeps pm z s) : OKeeps pm z (harrowRestore s) := by
  unfold harrowRestore
  repeat' first
    | with_reducible assumption
    | with_reducible exact OKeeps.none
    | with_reducible apply OKeeps.some
    | with_reducible apply keeps_harrowReturn
    | split

theorem keeps_bankGrant {pm : Nat} {z : State} {s : State} {b : Nat} (hpm : Within 0x284748 pm) (hk : Keeps pm z s) : OKeeps pm z (bankGrant s b) := by
  unfold bankGrant
  dsimp only
  repeat' first
    | with_reducible assumption
    | with_reducible exact OKeeps.none
    | with_reducible apply keeps_bankNow
    | with_reducible apply keeps_harrowNow
    | with_reducible apply keeps_bankGrantTo
    | with_reducible apply OKeeps.mapAny
    | with_reducible exact narrow hpm
    | split
    | with_reducible intro _

theorem keeps_harrowFault {pm : Nat} {z : State} {w : Nat} {s : State} {f : Nat × List Byte} (hpm : Within 0x80718 pm) (hk : Keeps pm z s) : Keeps pm z (harrowFault w s f) := by
  unfold harrowFault
  repeat' first
    | with_reducible assumption
    | with_reducible apply keeps_wrBytes
    | with_reducible apply keeps_wr
    | with_reducible apply keeps_setCause
    | with_reducible apply keeps_bump
    | with_reducible exact narrow hpm
    | split

theorem keeps_harrowTake {pm : Nat} {z : State} {s : State} {w : Nat} {faults : List (Nat × List Byte)} (hpm : Within 0x280718 pm) (hk : Keeps pm z s) : Keeps pm z (harrowTake s w faults) := by
  unfold harrowTake
  repeat' first
    | with_reducible assumption
    | with_reducible apply keeps_setNoc
    | with_reducible apply keeps_harrowFault
    | with_reducible apply keeps_wr
    | with_reducible apply Keeps.foldl
    | with_reducible exact narrow hpm
    | with_reducible intro _ _

theorem keeps_harrowBorrow {pm : Nat} {z : State} {s : State} {faults : List (Nat × List Byte)} (hpm : Within 0x280718 pm) (hk : Keeps pm z s) : OKeeps pm z (harrowBorrow s faults) := by
  unfold harrowBorrow
  dsimp only
  repeat' first
    | with_reducible assumption
    | with_reducible exact OKeeps.none
    | with_reducible apply OKeeps.some
    | with_reducible apply keeps_harrowNow
    | with_reducible apply keeps_harrowFind
    | with_reducible apply keeps_bankNow
    | with_reducible apply keeps_harrowTake
    | (with_reducible refine PKeeps.of ?_ (by with_reducible assumption))
    | with_reducible exact narrow hpm
    | split

theorem keeps_lpddrForget {pm : Nat} {z : State} {s : State} {i : Nat} (hpm : Within 0xc0 pm) (hk : Keeps pm z s) : Keeps pm z (lpddrForget s i) := by
  unfold lpddrForget
  repeat' first
    | with_reducible assumption
    | (simp only [Keeps.upd]; repeat' first | (with_reducible apply Kp.of) | (with_reducible apply Kp.loses (hb := bit hpm) (hc := bit hpm)))

theorem keeps_lpddrStart {pm : Nat} {z : State} {s : State} {i : Nat} (hpm : Within 0x28 pm) (hk : Keeps pm z s) : Keeps pm z (lpddrStart s i) := by
  unfold lpddrStart
  repeat' first
    | with_reducible assumption
    | with_reducible apply keeps_enter

theorem keeps_lpddrInit {pm : Nat} {z : State} {s : State} {i : Nat} (hpm : Within 0x28 pm) (hk : Keeps pm z s) : OKeeps pm z (lpddrInit s i) := by
  unfold lpddrInit
  repeat' first
    | with_reducible assumption
    | with_reducible exact OKeeps.none
    | with_reducible apply OKeeps.some
    | with_reducible apply keeps_enter
    | split

theorem keeps_lpddrTrained {pm : Nat} {z : State} {s : State} {i : Nat} (hpm : Within 0x80728 pm) (hk : Keeps pm z s) : Keeps pm z (lpddrTrained s i) := by
  unfold lpddrTrained
  repeat' first
    | with_reducible assumption
    | with_reducible apply keeps_setCause
    | with_reducible apply keeps_wr
    | with_reducible apply keeps_enter
    | with_reducible exact narrow hpm

theorem keeps_lpddrTrainFail {pm : Nat} {z : State} {s : State} {i : Nat} {step : Nat} (hpm : Within 0x80728 pm) (hk : Keeps pm z s) : Keeps pm z (lpddrTrainFail s i step) := by
  unfold lpddrTrainFail
  repeat' first
    | with_reducible assumption
    | with_reducible apply keeps_setCause
    | with_reducible apply keeps_bump
    | with_reducible apply keeps_wr
    | with_reducible apply keeps_enter
    | with_reducible exact narrow hpm

theorem keeps_lpddrTrainEnd {pm : Nat} {z : State} {s : State} {i : Nat} {failStep : Nat} (hpm : Within 0x80728 pm) (hk : Keeps pm z s) : OKeeps pm z (lpddrTrainEnd s i failStep) := by
  unfold lpddrTrainEnd
  repeat' first
    | with_reducible assumption
    | with_reducible exact OKeeps.none
    | with_reducible apply OKeeps.some
    | with_reducible apply keeps_lpddrTrained
    | with_reducible apply keeps_lpddrTrainFail
    | split

theorem keeps_lpddrDown {pm : Nat} {z : State} {s : State} {i : Nat} (hpm : Within 0x280728 pm) (hk : Keeps pm z s) : Keeps pm z (lpddrDown s i) := by
  unfold lpddrDown
  repeat' first
    | with_reducible assumption
    | with_reducible apply keeps_setCause
    | with_reducible apply keeps_enter
    | with_reducible apply keeps_setNoc
    | with_reducible exact narrow hpm
    | split

theorem keeps_lpddrUnpowered {pm : Nat} {z : State} {s : State} {i : Nat} (hpm : Within 0xe8 pm) (hk : Keeps pm z s) : Keeps pm z (lpddrUnpowered s i) := by
  unfold lpddrUnpowered
  repeat' first
    | with_reducible assumption
    | with_reducible apply keeps_lpddrForget
    | with_reducible apply keeps_enter
    | with_reducible exact narrow hpm

theorem keeps_lpddrMr4 {pm : Nat} {z : State} {s : State} {i : Nat} {code : Nat} (hpm : Within 0x280708 pm) (hk : Keeps pm z s) : OKeeps pm z (lpddrMr4 s i code) := by
  unfold lpddrMr4
  repeat' first
    | with_reducible assumption
    | with_reducible exact OKeeps.none
    | with_reducible apply OKeeps.some
    | with_reducible apply keeps_wr
    | with_reducible apply keeps_setNoc
    | with_reducible apply keeps_setCause
    | with_reducible exact narrow hpm
    | split

theorem keeps_lpddrZq {pm : Nat} {z : State} {s : State} {i : Nat} (hpm : Within 0x200000 pm) (hk : Keeps pm z s) : OKeeps pm z (lpddrZq s i) := by
  unfold lpddrZq
  repeat' first
    | with_reducible assumption
    | with_reducible exact OKeeps.none
    | with_reducible apply OKeeps.some
    | with_reducible apply keeps_setNoc
    | split

theorem keeps_lpddrWck {pm : Nat} {z : State} {s : State} {i : Nat} (hpm : Within 0x200000 pm) (hk : Keeps pm z s) : OKeeps pm z (lpddrWck s i) := by
  unfold lpddrWck
  repeat' first
    | with_reducible assumption
    | with_reducible exact OKeeps.none
    | with_reducible apply OKeeps.some
    | with_reducible apply keeps_setNoc
    | split

theorem keeps_lpddrRefreshDue {pm : Nat} {z : State} {s : State} {i : Nat} (hpm : Within 0x200000 pm) (hk : Keeps pm z s) : OKeeps pm z (lpddrRefreshDue s i) := by
  unfold lpddrRefreshDue
  repeat' first
    | with_reducible assumption
    | with_reducible exact OKeeps.none
    | with_reducible apply OKeeps.some
    | with_reducible apply keeps_setNoc
    | split

theorem keeps_fenceBegin {pm : Nat} {z : State} {s : State} {d : Nat} (hpm : Within 0x200000 pm) (hk : Keeps pm z s) : Keeps pm z (fenceBegin s d) := by
  unfold fenceBegin
  repeat' first
    | with_reducible assumption
    | with_reducible apply keeps_setNoc

theorem keeps_fenceEnd {pm : Nat} {z : State} {s : State} {d : Nat} {fromOff : Bool} (hpm : Within 0x200000 pm) (hk : Keeps pm z s) : Keeps pm z (fenceEnd s d fromOff) := by
  unfold fenceEnd
  repeat' first
    | with_reducible assumption
    | with_reducible apply keeps_setNoc

theorem keeps_banksLost {pm : Nat} {z : State} {s : State} {d : Nat} (hpm : Within 0x200008 pm) (hk : Keeps pm z s) : Keeps pm z (banksLost s d) := by
  unfold banksLost
  repeat' first
    | with_reducible assumption
    | with_reducible apply keeps_wr
    | with_reducible apply keeps_setNoc
    | with_reducible apply Keeps.foldl
    | with_reducible exact narrow hpm
    | split
    | with_reducible intro _ _
    | with_reducible intro _

theorem keeps_nocLost {pm : Nat} {z : State} {s : State} (hpm : Within 0x200000 pm) (hk : Keeps pm z s) : Keeps pm z (nocLost s) := by
  unfold nocLost
  repeat' first
    | with_reducible assumption
    | with_reducible apply keeps_setNoc

/-! Security -/

theorem keeps_setSecurity {pm : Nat} {z : State} {s : State} {x : SecurityState} (hpm : Within 0x2000000 pm) (hk : Keeps pm z s) : Keeps pm z (setSecurity s x) := by
  unfold setSecurity
  repeat' first
    | with_reducible assumption
    | (simp only [Keeps.upd]; apply Kp.put_security (hb := bit hpm); with_reducible apply Kp.of)

theorem keeps_bufferUse {pm : Nat} {z : State} {s : State} {ni : Nat} {n : Nat} {a : Nat} {len : Nat} (hpm : Within 0x280708 pm) (hk : Keeps pm z s) : Keeps pm z (bufferUse s ni n a len) := by
  unfold bufferUse
  dsimp only
  repeat' first
    | with_reducible assumption
    | with_reducible apply keeps_unitTurned
    | with_reducible apply keeps_unitUse
    | with_reducible exact narrow hpm
    | split

theorem keeps_authFail {pm : Nat} {z : State} {s : State} {st : Status} (hpm : Within 0x80708 pm) (hk : Keeps pm z s) : Keeps pm z (authFail s st) := by
  unfold authFail
  repeat' first
    | with_reducible assumption
    | with_reducible apply keeps_setCause
    | split

theorem keeps_firmwareImage {pm : Nat} {z : State} {s : State} {b : List Byte} (hpm : Within 0x2080728 pm) (hk : Keeps pm z s) : PKeeps pm z (firmwareImage s b) := by
  unfold firmwareImage
  repeat' first
    | with_reducible assumption
    | with_reducible apply keeps_wr
    | with_reducible apply keeps_enter
    | with_reducible apply keeps_authFail
    | with_reducible apply keeps_setSecurity
    | with_reducible exact narrow hpm
    | simp only [PKeeps.iff]
    | split

theorem keeps_flashEnd {pm : Nat} {z : State} {s : State} {ok : Bool} (hpm : Within 0x2880708 pm) (hk : Keeps pm z s) : OKeeps pm z (flashEnd s ok) := by
  unfold flashEnd
  repeat' first
    | with_reducible assumption
    | with_reducible exact OKeeps.none
    | with_reducible apply OKeeps.some
    | with_reducible apply keeps_setSecurity
    | with_reducible apply keeps_setCause
    | with_reducible apply keeps_setNvm
    | with_reducible apply keeps_wr
    | with_reducible exact narrow hpm
    | simp only [PKeeps.iff]
    | (exact Nat.le_refl _)
    | split

theorem keeps_firmwareFloor {pm : Nat} {z : State} {s : State} {v : Nat} (hpm : Within 0x800008 pm) (hk : Keeps pm z s) : PKeeps pm z (firmwareFloor s v) := by
  unfold firmwareFloor
  split
  · exact hk
  · next h =>
    split
    · exact hk
    · refine keeps_setNvm (narrow hpm) (keeps_wr (narrow hpm) hk) ?_ (Nat.le_refl _)
      simp only [Bool.or_eq_true, decide_eq_true_eq, not_or, Nat.not_lt] at h
      exact h.1

theorem keeps_setKey {pm : Nat} {z : State} {s : State} {k : Nat} {x : KeySlot} (hpm : Within 0x800 pm) (hk : Keeps pm z s) (hz : k ≠ 0) : Keeps pm z (setKey s k x) :=
  { hk with identity := (tabFind_set_other _ s.keys x hz).trans hk.identity, same_keys := bit_ne (bit hpm) }

theorem keeps_ownerInstall {pm : Nat} {z : State} {s : State} {b : List Byte} {nvm : Bool} (hpm : Within 0x800 pm) (hk : Keeps pm z s) : PKeeps pm z (ownerInstall s b nvm) := by
  unfold ownerInstall
  split
  · exact hk
  · split
    · exact hk
    · exact keeps_setKey (narrow hpm) hk (by decide)

theorem keeps_keyUpdateChecked {pm : Nat} {z : State} {s : State} {b : List Byte} {nvm : Bool} {o : Option Status} (hpm : Within 0x880f08 pm) (hk : Keeps pm z s) (ho : o = none → kuSlot b ≠ 0 ∧ s.nvm.keyFloor ≤ leAt b 0x10 8) : PKeeps pm z (keyUpdateChecked s b nvm o) := by
  unfold keyUpdateChecked
  split
  · exact keeps_authFail (narrow hpm) (keeps_wr (narrow hpm) hk)
  · split
    · exact keeps_wr (narrow hpm) hk
    · have h := ho rfl
      exact keeps_setCause (narrow hpm) (keeps_setNvm (narrow hpm) (keeps_wr (narrow hpm) (keeps_wr (narrow hpm) (keeps_setKey (narrow hpm) hk h.1))) (Nat.le_refl _) h.2)

theorem kuCheck_none {s : State} {b : List Byte} (h : kuCheck s b = none) : kuSlot b ≠ 0 ∧ s.nvm.keyFloor ≤ leAt b 0x10 8 := by
  unfold kuCheck at h
  split at h
  · cases h
  · next hf =>
    refine ⟨fun h0 => hf ?_, ?_⟩
    · simp [kuFormOk, h0]
    · dsimp only at h
      split at h
      · cases h
      · split at h
        · cases h
        · next h2 =>
          simp only [Bool.or_eq_true, decide_eq_true_eq, not_or, Nat.not_le] at h2
          omega

theorem keeps_keyUpdate {pm : Nat} {z : State} {s : State} {b : List Byte} {nvm : Bool} (hpm : Within 0x880f08 pm) (hk : Keeps pm z s) : PKeeps pm z (keyUpdate s b nvm) :=
  keeps_keyUpdateChecked (narrow hpm) hk kuCheck_none

theorem keeps_attestNonce {pm : Nat} {z : State} {s : State} {nonce : List Byte} (hpm : Within 0x2000028 pm) (hk : Keeps pm z s) : PKeeps pm z (attestNonce s nonce) := by
  unfold attestNonce
  repeat' first
    | with_reducible assumption
    | with_reducible apply keeps_signAsk
    | with_reducible apply keeps_setSecurity
    | with_reducible apply keeps_enter
    | with_reducible exact narrow hpm
    | simp only [PKeeps.iff]
    | split

theorem keeps_attestEnd {pm : Nat} {z : State} {s : State} (hpm : Within 0x2080728 pm) (hk : Keeps pm z s) : OKeeps pm z (attestEnd s) := by
  unfold attestEnd
  repeat' first
    | with_reducible assumption
    | with_reducible exact OKeeps.none
    | with_reducible apply OKeeps.some
    | with_reducible apply keeps_setCause
    | with_reducible apply keeps_signNext
    | with_reducible apply keeps_setSecurity
    | with_reducible apply keeps_enter
    | with_reducible refine PKeeps.fst (keeps_signRandom ?_ ?_)
    | with_reducible exact narrow hpm
    | split

theorem keeps_trngBytes {pm : Nat} {z : State} {s : State} {n : Nat} (hpm : Within 0x100 pm) (hk : Keeps pm z s) : PKeeps pm z (trngBytes s n) := by
  unfold trngBytes
  repeat' first
    | with_reducible assumption
    | with_reducible apply keeps_freeBytes

theorem keeps_trngFail {pm : Nat} {z : State} {s : State} (hpm : Within 0x80728 pm) (hk : Keeps pm z s) : Keeps pm z (trngFail s) := by
  unfold trngFail
  repeat' first
    | with_reducible assumption
    | with_reducible apply keeps_setCause
    | with_reducible apply keeps_bump
    | with_reducible apply keeps_enter
    | with_reducible exact narrow hpm

theorem keeps_trngRestart {pm : Nat} {z : State} {s : State} (hpm : Within 0x28 pm) (hk : Keeps pm z s) : Keeps pm z (trngRestart s) := by
  unfold trngRestart
  repeat' first
    | with_reducible assumption
    | with_reducible apply keeps_enter

theorem keeps_trngStarted {pm : Nat} {z : State} {s : State} {ok : Bool} (hpm : Within 0x80728 pm) (hk : Keeps pm z s) : OKeeps pm z (trngStarted s ok) := by
  unfold trngStarted
  repeat' first
    | with_reducible assumption
    | with_reducible exact OKeeps.none
    | with_reducible apply OKeeps.some
    | with_reducible apply keeps_enter
    | with_reducible apply keeps_trngFail
    | with_reducible exact narrow hpm
    | split

theorem keeps_randomRead {pm : Nat} {z : State} {s : State} (hpm : Within 0x100 pm) (hk : Keeps pm z s) : PKeeps pm z (randomRead s) := by
  unfold randomRead
  repeat' first
    | with_reducible assumption
    | with_reducible refine PKeeps.fst (keeps_trngBytes ?_ ?_)
    | simp only [PKeeps.iff]
    | split

theorem keeps_cacheInstall {pm : Nat} {z : State} {s : State} {b : List Byte} (hpm : Within 0x81708 pm) (hk : Keeps pm z s) : PKeeps pm z (cacheInstall s b) := by
  unfold cacheInstall
  repeat' first
    | with_reducible assumption
    | with_reducible apply keeps_authFail
    | with_reducible apply keeps_wr
    | with_reducible exact narrow hpm
    | (simp only [Keeps.upd]; apply Kp.put_cache (hb := bit hpm); with_reducible apply Kp.of)
    | simp only [PKeeps.iff]
    | split

theorem keeps_cacheErase {pm : Nat} {z : State} {s : State} {k : Nat} (hpm : Within 0x1008 pm) (hk : Keeps pm z s) : PKeeps pm z (cacheErase s k) := by
  unfold cacheErase
  repeat' first
    | with_reducible assumption
    | with_reducible apply keeps_wr
    | with_reducible exact narrow hpm
    | (simp only [Keeps.upd]; apply Kp.put_cache (hb := bit hpm); with_reducible apply Kp.of)
    | simp only [PKeeps.iff]
    | split

theorem keeps_secCheck {pm : Nat} {z : State} {s : State} {fn : ObjFn} {b : List Byte} {nvm : Bool} (hpm : Within 0x2881f28 pm) (hk : Keeps pm z s) : PKeeps pm z (secCheck s fn b nvm) := by
  unfold secCheck
  repeat' first
    | with_reducible assumption
    | with_reducible apply keeps_firmwareImage
    | with_reducible apply keeps_keyUpdate
    | with_reducible apply keeps_cacheInstall
    | with_reducible exact narrow hpm
    | split

theorem keeps_secCheckAsk {pm : Nat} {z : State} {s : State} {fn : ObjFn} {b : List Byte} {nvm : Bool} (hpm : Within 0x2881f28 pm) (hk : Keeps pm z s) : PKeeps pm z (secCheckAsk s fn b nvm) := by
  unfold secCheckAsk
  repeat' first
    | with_reducible assumption
    | with_reducible apply keeps_enter
    | with_reducible refine PKeeps.fst (keeps_secCheck ?_ ?_)
    | with_reducible exact narrow hpm
    | simp only [PKeeps.iff]
    | split

theorem keeps_setMailbox {pm : Nat} {z : State} {s : State} {n : Nat} {x : Mailbox} (hpm : Within 0x2000000 pm) (hk : Keeps pm z s) : Keeps pm z (setMailbox s n x) := by
  unfold setMailbox
  repeat' first
    | with_reducible assumption
    | with_reducible apply keeps_setSecurity

theorem keeps_mailboxAsk {pm : Nat} {z : State} {s : State} {n : Nat} {v : Nat} (hpm : Within 0x2000000 pm) (hk : Keeps pm z s) : Keeps pm z (mailboxAsk s n v) := by
  unfold mailboxAsk
  repeat' first
    | with_reducible assumption
    | with_reducible apply keeps_hashAsk
    | with_reducible apply keeps_signAsk
    | split

theorem keeps_mailboxCommand {pm : Nat} {z : State} {s : State} {n : Nat} {v : Nat} (hpm : Within 0x2000000 pm) (hk : Keeps pm z s) : PKeeps pm z (mailboxCommand s n v) := by
  unfold mailboxCommand
  repeat' first
    | with_reducible assumption
    | with_reducible apply keeps_mailboxAsk
    | with_reducible apply keeps_setMailbox
    | simp only [PKeeps.iff]
    | split

theorem keeps_mailboxWrite {pm : Nat} {z : State} {s : State} {n : Nat} {off : Nat} {v : Nat} (hpm : Within 0x2000000 pm) (hk : Keeps pm z s) : PKeeps pm z (mailboxWrite s n off v) := by
  unfold mailboxWrite
  repeat' first
    | with_reducible assumption
    | with_reducible apply keeps_mailboxCommand
    | with_reducible apply keeps_setMailbox
    | simp only [PKeeps.iff]
    | split

theorem keeps_mailboxResult {pm : Nat} {z : State} {s : State} {n : Nat} {x : Mailbox} (hpm : Within 0x100 pm) (hk : Keeps pm z s) : PKeeps pm z (mailboxResult s n x) := by
  unfold mailboxResult
  repeat' first
    | with_reducible assumption
    | with_reducible refine PKeeps.fst (keeps_signRandom ?_ ?_)
    | with_reducible refine PKeeps.fst (keeps_trngBytes ?_ ?_)
    | simp only [PKeeps.iff]
    | split

theorem keeps_mailboxNext {pm : Nat} {z : State} {s : State} {v : Nat} (hpm : Within 0x2000000 pm) (hk : Keeps pm z s) : Keeps pm z (mailboxNext s v) := by
  unfold mailboxNext
  repeat' first
    | with_reducible assumption
    | with_reducible apply keeps_hashNext
    | with_reducible apply keeps_signNext
    | split

theorem keeps_mailboxUse {pm : Nat} {z : State} {s : State} {n : Nat} {x : Mailbox} (hpm : Within 0x280708 pm) (hk : Keeps pm z s) : Keeps pm z (mailboxUse s n x) := by
  unfold mailboxUse
  repeat' first
    | with_reducible assumption
    | with_reducible apply keeps_bufferUse
    | split

theorem keeps_mailboxEnd {pm : Nat} {z : State} {s : State} {n : Nat} (hpm : Within 0x2380748 pm) (hk : Keeps pm z s) : OKeeps pm z (mailboxEnd s n) := by
  unfold mailboxEnd
  dsimp only
  repeat' first
    | with_reducible assumption
    | with_reducible exact OKeeps.none
    | with_reducible apply OKeeps.some
    | with_reducible apply keeps_turned
    | with_reducible apply keeps_mailboxUse
    | with_reducible apply keeps_mailboxNext
    | with_reducible apply keeps_setMailbox
    | with_reducible apply keeps_bufferUse
    | with_reducible apply keeps_netStore
    | with_reducible refine PKeeps.fst (keeps_mailboxResult ?_ ?_)
    | with_reducible exact narrow hpm
    | split

/-! Power -/

theorem keeps_setPower {pm : Nat} {z : State} {s : State} {x : PowerState} (hpm : Within 0x1000000 pm) (hk : Keeps pm z s) : Keeps pm z (setPower s x) := by
  unfold setPower
  repeat' first
    | with_reducible assumption
    | (simp only [Keeps.upd]; apply Kp.put_power (hb := bit hpm); with_reducible apply Kp.of)

theorem keeps_housedStop {pm : Nat} {z : State} {s : State} {d : Nat} (hpm : Within 0x38e72c pm) (hk : Keeps pm z s) : Keeps pm z (housedStop s d) := by
  unfold housedStop
  repeat' first
    | with_reducible assumption
    | with_reducible apply keeps_retuneWithdraw
    | with_reducible apply keeps_loadTargetGone
    | with_reducible apply keeps_moveOrdered
    | with_reducible apply keeps_lanesFenced
    | with_reducible apply keeps_queuesFenced
    | with_reducible apply keeps_wr
    | with_reducible refine PKeeps.fst (keeps_fieldRunWrite ?_ ?_)
    | with_reducible refine PKeeps.fst (keeps_coreRunWrite ?_ ?_)
    | with_reducible apply Keeps.foldl
    | with_reducible exact narrow hpm
    | split
    | with_reducible intro _ _
    | with_reducible intro _

theorem keeps_nisLost {pm : Nat} {z : State} {s : State} {d : Nat} (hpm : Within 0x202000 pm) (hk : Keeps pm z s) : Keeps pm z (nisLost s d) := by
  unfold nisLost
  repeat' first
    | with_reducible assumption
    | with_reducible apply keeps_dropTag
    | with_reducible apply keeps_setNi
    | with_reducible apply Keeps.foldl
    | with_reducible exact narrow hpm
    | split
    | with_reducible intro _ _
    | with_reducible intro _

theorem keeps_domainLost {pm : Nat} {z : State} {s : State} {d : Nat} {retained : Bool} (hpm : Within 0x2faa7e8 pm) (hk : Keeps pm z s) : Keeps pm z (domainLost s d retained) := by
  unfold domainLost
  repeat' first
    | with_reducible assumption
    | with_reducible apply keeps_fieldRetained
    | with_reducible apply keeps_fieldLost
    | with_reducible apply keeps_nisLost
    | with_reducible apply keeps_corePairOff
    | with_reducible apply keeps_lanesLost
    | with_reducible apply keeps_memForget
    | with_reducible apply keeps_banksLost
    | with_reducible apply keeps_lpddrDown
    | with_reducible apply keeps_wr
    | with_reducible apply keeps_setSecurity
    | with_reducible apply keeps_journalOff
    | with_reducible apply keeps_snapEnd
    | with_reducible apply keeps_storeEnd
    | with_reducible apply OKeeps.getD
    | with_reducible apply Keeps.foldl
    | with_reducible exact narrow hpm
    | (simp only [Keeps.upd]; apply Kp.put_plant (hb := bit hpm); with_reducible apply Kp.of)
    | split
    | with_reducible intro _ _

theorem keeps_setDomRequest {pm : Nat} {z : State} {s : State} {d : Nat} {v : Nat} (hpm : Within 0x8 pm) (hk : Keeps pm z s) : Keeps pm z (setDomRequest s d v) := by
  unfold setDomRequest
  repeat' first
    | with_reducible assumption
    | with_reducible apply keeps_wr

theorem keeps_setDomState {pm : Nat} {z : State} {s : State} {d : Nat} {v : Nat} (hpm : Within 0x28 pm) (hk : Keeps pm z s) : Keeps pm z (setDomState s d v) := by
  unfold setDomState
  repeat' first
    | with_reducible assumption
    | with_reducible apply keeps_enter

theorem keeps_setDomPending {pm : Nat} {z : State} {s : State} {d : Nat} {v : Nat} (hpm : Within 0x8 pm) (hk : Keeps pm z s) : Keeps pm z (setDomPending s d v) := by
  unfold setDomPending
  repeat' first
    | with_reducible assumption
    | with_reducible apply keeps_wr

theorem keeps_setDomResult {pm : Nat} {z : State} {s : State} {d : Nat} {st : Status} (hpm : Within 0x8 pm) (hk : Keeps pm z s) : Keeps pm z (setDomResult s d st) := by
  unfold setDomResult
  repeat' first
    | with_reducible assumption
    | with_reducible apply keeps_wr

theorem keeps_setStopTarget {pm : Nat} {z : State} {s : State} {d : Nat} {v : Nat} (hpm : Within 0x1000000 pm) (hk : Keeps pm z s) : Keeps pm z (setStopTarget s d v) := by
  unfold setStopTarget
  repeat' first
    | with_reducible assumption
    | with_reducible apply keeps_setPower

theorem keeps_clearStop {pm : Nat} {z : State} {s : State} {d : Nat} (hpm : Within 0x1000000 pm) (hk : Keeps pm z s) : Keeps pm z (clearStop s d) := by
  unfold clearStop
  repeat' first
    | with_reducible assumption
    | with_reducible apply keeps_setPower

theorem keeps_domainStart {pm : Nat} {z : State} {s : State} {d : Nat} {fromRetained : Bool} (hpm : Within 0x1000028 pm) (hk : Keeps pm z s) : Keeps pm z (domainStart s d fromRetained) := by
  unfold domainStart
  repeat' first
    | with_reducible assumption
    | with_reducible apply keeps_setDomState
    | with_reducible apply keeps_setDomPending
    | with_reducible apply keeps_clearStop
    | with_reducible apply keeps_setPower
    | with_reducible apply keeps_lpddrStart
    | with_reducible exact narrow hpm
    | split

theorem keeps_domainFence {pm : Nat} {z : State} {s : State} {d : Nat} {target : Nat} (hpm : Within 0x138e72c pm) (hk : Keeps pm z s) : Keeps pm z (domainFence s d target) := by
  unfold domainFence
  repeat' first
    | with_reducible assumption
    | with_reducible apply keeps_fenceBegin
    | with_reducible apply keeps_housedStop
    | with_reducible apply keeps_setStopTarget
    | with_reducible apply keeps_setDomState
    | with_reducible exact narrow hpm

theorem keeps_domainDrop {pm : Nat} {z : State} {s : State} {d : Nat} (hpm : Within 0x3faa7e8 pm) (hk : Keeps pm z s) : Keeps pm z (domainDrop s d) := by
  unfold domainDrop
  repeat' first
    | with_reducible assumption
    | with_reducible apply keeps_retuneWithdraw
    | with_reducible apply keeps_loadTargetGone
    | with_reducible apply keeps_setDomState
    | with_reducible apply keeps_setDomPending
    | with_reducible apply keeps_clearStop
    | with_reducible apply keeps_domainLost
    | with_reducible exact narrow hpm
    | split

theorem keeps_domainUp {pm : Nat} {z : State} {s : State} {d : Nat} (hpm : Within 0x380728 pm) (hk : Keeps pm z s) : Keeps pm z (domainUp s d) := by
  unfold domainUp
  repeat' first
    | with_reducible assumption
    | with_reducible apply keeps_setCause
    | with_reducible apply keeps_fenceEnd
    | with_reducible apply keeps_setDomState
    | with_reducible apply keeps_corePairOn
    | with_reducible exact narrow hpm
    | split

theorem keeps_domainStarted {pm : Nat} {z : State} {s : State} {d : Nat} {ok : Bool} (hpm : Within 0x138e7ec pm) (hk : Keeps pm z s) : OKeeps pm z (domainStarted s d ok) := by
  unfold domainStarted
  dsimp only
  repeat' first
    | with_reducible assumption
    | with_reducible exact OKeeps.none
    | with_reducible apply OKeeps.some
    | with_reducible apply keeps_domainUp
    | with_reducible apply keeps_domainFence
    | with_reducible apply keeps_fieldLost
    | with_reducible apply keeps_setCause
    | with_reducible apply keeps_wr
    | with_reducible apply keeps_bump
    | with_reducible apply keeps_setDomState
    | with_reducible apply keeps_setDomPending
    | with_reducible apply keeps_clearStop
    | with_reducible exact narrow hpm
    | split

theorem keeps_domainFenced {pm : Nat} {z : State} {s : State} {d : Nat} (hpm : Within 0x28 pm) (hk : Keeps pm z s) : OKeeps pm z (domainFenced s d) := by
  unfold domainFenced
  repeat' first
    | with_reducible assumption
    | with_reducible exact OKeeps.none
    | with_reducible apply OKeeps.some
    | with_reducible apply keeps_setDomState
    | split

theorem keeps_domainDrained {pm : Nat} {z : State} {s : State} {d : Nat} (hpm : Within 0x280728 pm) (hk : Keeps pm z s) : OKeeps pm z (domainDrained s d) := by
  unfold domainDrained
  repeat' first
    | with_reducible assumption
    | with_reducible exact OKeeps.none
    | with_reducible apply OKeeps.some
    | with_reducible apply keeps_setDomState
    | with_reducible exact narrow hpm
    | split

theorem keeps_domainStopped {pm : Nat} {z : State} {s : State} {d : Nat} (hpm : Within 0x3faa7e8 pm) (hk : Keeps pm z s) : OKeeps pm z (domainStopped s d) := by
  unfold domainStopped
  repeat' first
    | with_reducible assumption
    | with_reducible exact OKeeps.none
    | with_reducible apply OKeeps.some
    | with_reducible apply keeps_setDomState
    | with_reducible apply keeps_clearStop
    | with_reducible apply keeps_domainLost
    | with_reducible apply keeps_setCause
    | with_reducible apply keeps_setDomResult
    | with_reducible apply keeps_domainStart
    | with_reducible apply keeps_setDomPending
    | with_reducible exact narrow hpm
    | split

theorem keeps_domainApply {pm : Nat} {z : State} {s : State} {d : Nat} {v : Nat} (hpm : Within 0x138e7ec pm) (hk : Keeps pm z s) : PKeeps pm z (domainApply s d v) := by
  unfold domainApply
  repeat' first
    | with_reducible assumption
    | with_reducible apply keeps_domainStart
    | with_reducible apply keeps_setDomState
    | with_reducible apply keeps_fieldLost
    | with_reducible apply keeps_clearStop
    | with_reducible apply keeps_setStopTarget
    | with_reducible apply keeps_domainFence
    | with_reducible apply keeps_setDomPending
    | with_reducible exact narrow hpm
    | simp only [PKeeps.iff]
    | split

theorem keeps_domainRequest {pm : Nat} {z : State} {s : State} {d : Nat} {v : Nat} (hpm : Within 0x138e7ec pm) (hk : Keeps pm z s) : PKeeps pm z (domainRequest s d v) := by
  unfold domainRequest
  repeat' first
    | with_reducible assumption
    | with_reducible apply keeps_setDomResult
    | with_reducible apply keeps_setDomRequest
    | with_reducible refine PKeeps.fst (keeps_domainApply ?_ ?_)
    | with_reducible exact narrow hpm
    | simp only [PKeeps.iff]
    | split

theorem keeps_supplyBit {pm : Nat} {z : State} {s : State} {i : Nat} {b : Bool} (hpm : Within 0x8 pm) (hk : Keeps pm z s) : Keeps pm z (supplyBit s i b) := by
  unfold supplyBit
  repeat' first
    | with_reducible assumption
    | with_reducible apply keeps_wr

theorem keeps_supplyTrip {pm : Nat} {z : State} {s : State} {o : Nat} (hpm : Within 0x1080708 pm) (hk : Keeps pm z s) : Keeps pm z (supplyTrip s o) := by
  unfold supplyTrip
  repeat' first
    | with_reducible assumption
    | with_reducible apply keeps_setPower
    | with_reducible apply keeps_setCause
    | with_reducible apply keeps_bump
    | with_reducible apply keeps_supplyBit
    | with_reducible exact narrow hpm
    | split

theorem keeps_boardSupplyWrite {pm : Nat} {z : State} {s : State} {v : Nat} (hpm : Within 0x1000008 pm) (hk : Keeps pm z s) : Keeps pm z (boardSupplyWrite s v) := by
  unfold boardSupplyWrite
  repeat' first
    | with_reducible assumption
    | with_reducible apply keeps_wr
    | with_reducible apply keeps_supplyBit
    | with_reducible apply keeps_setPower
    | with_reducible apply Keeps.foldl
    | with_reducible exact narrow hpm
    | with_reducible intro _ _

theorem keeps_lpddrSupplyWrite {pm : Nat} {z : State} {s : State} {v : Nat} (hpm : Within 0xe8 pm) (hk : Keeps pm z s) : PKeeps pm z (lpddrSupplyWrite s v) := by
  unfold lpddrSupplyWrite
  repeat' first
    | with_reducible assumption
    | with_reducible apply keeps_supplyBit
    | with_reducible apply keeps_lpddrUnpowered
    | with_reducible apply keeps_wr
    | with_reducible apply Keeps.foldl
    | with_reducible exact narrow hpm
    | simp only [PKeeps.iff]
    | split
    | with_reducible intro _ _
    | with_reducible intro _

theorem keeps_lpddrSupplyTrip {pm : Nat} {z : State} {s : State} {i : Nat} (hpm : Within 0x3faa7e8 pm) (hk : Keeps pm z s) : Keeps pm z (lpddrSupplyTrip s i) := by
  unfold lpddrSupplyTrip
  repeat' first
    | with_reducible assumption
    | with_reducible apply keeps_setCause
    | with_reducible apply keeps_lpddrUnpowered
    | with_reducible apply keeps_domainDrop
    | with_reducible apply keeps_supplyBit
    | with_reducible exact narrow hpm

theorem keeps_clockStop {pm : Nat} {z : State} {s : State} (hpm : Within 0x1000000 pm) (hk : Keeps pm z s) : Keeps pm z (clockStop s) := by
  unfold clockStop
  repeat' first
    | with_reducible assumption
    | with_reducible apply keeps_setPower

theorem keeps_systemReset {pm : Nat} {z : State} {s : State} {cause : Nat} {aon fields : Bool} (hpm : Within 0x1f7ffe6fc pm) (hk : Keeps pm z s) : Keeps pm z (systemReset s cause aon fields) := by
  unfold systemReset
  refine Keeps.foldl _ _ ?_ ?_
  · split
    all_goals repeat first | with_reducible exact narrow hpm | with_reducible apply keeps_wr
    all_goals exact { hk with memory := fun e => tabSorted_filter _ (hk.memory e), registers := fun _ => rfl, content := Nat.le_succ_of_le hk.content, same_answer := bit_ne (bit hpm), same_obj := bit_ne (bit hpm), same_blobs := bit_ne (bit hpm), same_stamps := bit_ne (bit hpm), same_mem := bit_ne (bit hpm), same_memEpoch := bit_ne (bit hpm), same_events := bit_ne (bit hpm), same_coalesced := bit_ne (bit hpm), same_arr := bit_ne (bit hpm), same_queues := bit_ne (bit hpm), same_lanes := bit_ne (bit hpm), same_print := bit_ne (bit hpm), same_serial := bit_ne (bit hpm), same_pair := bit_ne (bit hpm), same_sched := bit_ne (bit hpm), same_cores := bit_ne (bit hpm), same_noc := bit_ne (bit hpm), same_plant := bit_ne (bit hpm), same_nvm := bit_ne (bit hpm), same_power := bit_ne (bit hpm), same_security := bit_ne (bit hpm), same_tap := bit_ne (bit hpm), same_faultL := bit_ne (bit hpm), same_ptpBase := bit_ne (bit hpm), same_ptpAt := bit_ne (bit hpm), same_ptpRate := bit_ne (bit hpm), same_ptpFor := bit_ne (bit hpm) }
  · intro x b h
    split
    · exact keeps_wr (narrow hpm) (keeps_setDomState (narrow hpm) h)
    · exact h

theorem keeps_systemOff {pm : Nat} {z : State} {s : State} {cause : Nat} {aon : Bool} {fields : Bool} (hpm : Within 0x1f7ffe6fc pm) (hk : Keeps pm z s) : Keeps pm z (systemOff s cause aon fields) := by
  unfold systemOff
  repeat' first
    | with_reducible assumption
    | with_reducible apply keeps_systemReset
    | with_reducible apply keeps_setPower
    | with_reducible exact narrow hpm

theorem keeps_powerOn {pm : Nat} {z : State} {s : State} {straps : Straps} {flash : Tab (List Byte)} (hpm : Within 0x1ffffe6fc pm) (hk : Keeps pm z s) : Keeps pm z (powerOn s straps flash) := by
  unfold powerOn
  split
  · exact hk
  · refine keeps_setPower (narrow hpm) (Keeps.upd.2 ?_)
    apply Kp.put_straps (hb := bit hpm)
    apply Kp.put_nvm (nvm := (systemReset s 1 false false).nvm) (hb := bit hpm)
    · exact Kp.of (keeps_systemReset (narrow hpm) hk)
    · exact Nat.le_refl _
    · exact Nat.le_refl _

theorem keeps_brownOut {pm : Nat} {z : State} {s : State} (hpm : Within 0x1f7ffe6fc pm) (hk : Keeps pm z s) : Keeps pm z (brownOut s) := by
  unfold brownOut
  repeat' first
    | with_reducible assumption
    | with_reducible apply keeps_systemOff
    | with_reducible apply keeps_setPower
    | with_reducible exact narrow hpm

theorem keeps_porstHeld {pm : Nat} {z : State} {s : State} (hpm : Within 0x1f7ffe6fc pm) (hk : Keeps pm z s) : Keeps pm z (porstHeld s) := by
  unfold porstHeld
  repeat' first
    | with_reducible assumption
    | with_reducible apply keeps_systemOff
    | with_reducible apply keeps_setPower
    | with_reducible exact narrow hpm
    | split

theorem keeps_porstRelease {pm : Nat} {z : State} {s : State} {straps : Straps} (hpm : Within 0x9000000 pm) (hk : Keeps pm z s) : Keeps pm z (porstRelease s straps) := by
  unfold porstRelease
  repeat' first
    | with_reducible assumption
    | with_reducible apply keeps_setPower
    | with_reducible exact narrow hpm
    | (simp only [Keeps.upd]; apply Kp.put_straps (hb := bit hpm); with_reducible apply Kp.of)
    | split

theorem keeps_porst {pm : Nat} {z : State} {s : State} {low : Option Nat} {straps : Straps} (hpm : Within 0x1ffffe7fc pm) (hk : Keeps pm z s) : Keeps pm z (porst s low straps) := by
  unfold porst
  dsimp only
  repeat' first
    | with_reducible assumption
    | with_reducible apply keeps_porstHeld
    | with_reducible apply keeps_porstRelease
    | with_reducible apply keeps_systemOff
    | with_reducible refine PKeeps.fst (keeps_freeNat ?_ ?_)
    | with_reducible exact narrow hpm
    | split

theorem keeps_encodersToAon {pm : Nat} {z : State} {s : State} (hpm : Within 0x90708 pm) (hk : Keeps pm z s) : Keeps pm z (encodersToAon s) := by
  unfold encodersToAon
  repeat' first
    | with_reducible assumption
    | with_reducible apply keeps_toAon
    | with_reducible apply Keeps.foldl
    | with_reducible intro _ _

theorem keeps_noteEntry {pm : Nat} {z : State} {s : State} (hpm : Within 0x1000000 pm) (hk : Keeps pm z s) : Keeps pm z (noteEntry s) := by
  unfold noteEntry
  repeat' first
    | with_reducible assumption
    | with_reducible apply keeps_setPower

theorem keeps_fieldSleep {pm : Nat} {z : State} {s : State} {f : Nat} (hpm : Within 0x1082728 pm) (hk : Keeps pm z s) : Keeps pm z (fieldSleep s f) := by
  unfold fieldSleep
  repeat' first
    | with_reducible assumption
    | with_reducible apply keeps_setDomState
    | with_reducible apply keeps_setDomPending
    | with_reducible apply keeps_clearStop
    | with_reducible apply keeps_fieldRetained
    | with_reducible apply keeps_retuneWithdraw
    | with_reducible apply keeps_loadTargetGone
    | with_reducible exact narrow hpm

theorem keeps_fieldsSleep {pm : Nat} {z : State} {s : State} (hpm : Within 0x3faa7e8 pm) (hk : Keeps pm z s) : Keeps pm z (fieldsSleep s) := by
  unfold fieldsSleep
  repeat' first
    | with_reducible assumption
    | with_reducible apply keeps_fieldSleep
    | with_reducible apply keeps_domainDrop
    | with_reducible apply Keeps.foldl
    | with_reducible exact narrow hpm
    | split
    | with_reducible intro _ _
    | with_reducible intro _

theorem keeps_sleepNow {pm : Nat} {z : State} {s : State} {mode : Nat} (hpm : Within 0x1f7ffe7fc pm) (hk : Keeps pm z s) : Keeps pm z (sleepNow s mode) := by
  unfold sleepNow
  dsimp only
  refine keeps_setPower (narrow hpm) (Keeps.upd.2 ?_)
  apply Kp.put_faultL (hb := bit hpm)
  refine Kp.of (keeps_systemOff (narrow hpm) ?_)
  split
  · exact keeps_fieldsSleep (narrow hpm) (keeps_noteEntry (narrow hpm) (keeps_encodersToAon (narrow hpm) hk))
  · exact keeps_noteEntry (narrow hpm) (keeps_encodersToAon (narrow hpm) hk)

theorem keeps_shutdownSettle {pm : Nat} {z : State} {s : State} (hpm : Within 0x1f7ffe7fc pm) (hk : Keeps pm z s) : Keeps pm z (shutdownSettle s) := by
  unfold shutdownSettle
  repeat' first
    | with_reducible assumption
    | with_reducible apply keeps_systemOff
    | with_reducible apply keeps_sleepNow
    | with_reducible apply keeps_systemReset
    | with_reducible exact narrow hpm
    | (simp only [Keeps.upd]; apply Kp.put_faultL (hb := bit hpm); with_reducible apply Kp.of)
    | split

theorem keeps_shutdownBegin {pm : Nat} {z : State} {s : State} {k : AfterShutdown} (hpm : Within 0x1f7ffe7fc pm) (hk : Keeps pm z s) : Keeps pm z (shutdownBegin s k) := by
  unfold shutdownBegin
  repeat' first
    | with_reducible assumption
    | with_reducible apply keeps_snapStart
    | with_reducible apply keeps_serialShutdown
    | with_reducible apply keeps_setPower
    | with_reducible apply keeps_shutdownSettle
    | with_reducible exact narrow hpm
    | split

theorem keeps_lanesDisabled {pm : Nat} {z : State} {s : State} (hpm : Within 0x8028 pm) (hk : Keeps pm z s) : Keeps pm z (lanesDisabled s) := by
  unfold lanesDisabled
  repeat' first
    | with_reducible assumption
    | with_reducible refine PKeeps.fst (keeps_laneDisable ?_ ?_)
    | with_reducible apply Keeps.foldl
    | with_reducible intro _ _
    | with_reducible intro _

theorem keeps_lineStopped {pm : Nat} {z : State} {s : State} (hpm : Within 0xd872c pm) (hk : Keeps pm z s) : Keeps pm z (lineStopped s) := by
  unfold lineStopped
  refine keeps_moveOrdered (narrow hpm) (keeps_lanesDisabled (narrow hpm) (Keeps.foldl _ _ (Keeps.foldl _ _ hk ?_) ?_))
  · exact fun x b h => PKeeps.fst (keeps_barDisable (narrow hpm) h)
  · exact fun x b h => PKeeps.fst (keeps_camDisable (narrow hpm) h)

theorem keeps_powerFailOff {pm : Nat} {z : State} {s : State} (hpm : Within 0x13faa7e8 pm) (hk : Keeps pm z s) : Keeps pm z (powerFailOff s) := by
  unfold powerFailOff
  repeat' first
    | with_reducible assumption
    | with_reducible apply keeps_domainDrop
    | with_reducible apply keeps_setPower
    | with_reducible apply Keeps.foldl
    | with_reducible exact narrow hpm
    | (simp only [Keeps.upd]; apply Kp.put_faultL (hb := bit hpm); with_reducible apply Kp.of)
    | with_reducible intro _ _

theorem keeps_clocksBack {pm : Nat} {z : State} {s : State} (hpm : Within 0x1000008 pm) (hk : Keeps pm z s) : Keeps pm z (clocksBack s) := by
  unfold clocksBack
  repeat' first
    | with_reducible assumption
    | with_reducible apply keeps_setPower
    | with_reducible apply keeps_wr
    | with_reducible exact narrow hpm

theorem keeps_powerFailOn {pm : Nat} {z : State} {s : State} (hpm : Within 0x1f7ffe7fc pm) (hk : Keeps pm z s) : Keeps pm z (powerFailOn s) := by
  unfold powerFailOn
  dsimp only
  repeat' first
    | with_reducible assumption
    | with_reducible apply keeps_clocksBack
    | with_reducible apply keeps_setPower
    | with_reducible apply keeps_lineStopped
    | with_reducible apply keeps_setCause
    | with_reducible apply keeps_bump
    | with_reducible apply keeps_domainDrop
    | with_reducible apply keeps_coreHaltNow
    | with_reducible apply keeps_shutdownBegin
    | with_reducible apply Keeps.foldl
    | with_reducible exact narrow hpm
    | (simp only [Keeps.upd]; apply Kp.put_faultL (hb := bit hpm); with_reducible apply Kp.of)
    | split
    | with_reducible intro _ _
    | with_reducible intro _

theorem keeps_powerFail {pm : Nat} {z : State} {s : State} {mv : Nat} (hpm : Within 0x1f7ffe7fc pm) (hk : Keeps pm z s) : Keeps pm z (powerFail s mv) := by
  unfold powerFail
  repeat' first
    | with_reducible assumption
    | with_reducible apply keeps_wr
    | with_reducible apply keeps_powerFailOn
    | with_reducible apply keeps_powerFailOff
    | with_reducible exact narrow hpm
    | split

theorem keeps_engineReset {pm : Nat} {z : State} {s : State} (hpm : Within 0x1f7ffe7fc pm) (hk : Keeps pm z s) : PKeeps pm z (engineReset s) := by
  unfold engineReset
  repeat' first
    | with_reducible assumption
    | with_reducible apply keeps_shutdownBegin
    | simp only [PKeeps.iff]
    | split

theorem keeps_powerModeWrite {pm : Nat} {z : State} {s : State} {v : Nat} (hpm : Within 0x1f7ffe7fc pm) (hk : Keeps pm z s) : PKeeps pm z (powerModeWrite s v) := by
  unfold powerModeWrite
  repeat' first
    | with_reducible assumption
    | with_reducible apply keeps_setPower
    | with_reducible apply keeps_shutdownBegin
    | with_reducible apply keeps_wr
    | with_reducible exact narrow hpm
    | simp only [PKeeps.iff]
    | split

theorem keeps_lineStopEnter {pm : Nat} {z : State} {s : State} (hpm : Within 0x3faa7e8 pm) (hk : Keeps pm z s) : OKeeps pm z (lineStopEnter s) := by
  unfold lineStopEnter
  repeat' first
    | with_reducible assumption
    | with_reducible exact OKeeps.none
    | with_reducible apply OKeeps.some
    | with_reducible apply keeps_wr
    | with_reducible apply keeps_setPower
    | with_reducible apply keeps_noteEntry
    | with_reducible apply keeps_fieldsSleep
    | with_reducible apply keeps_setDomState
    | with_reducible apply keeps_setDomPending
    | with_reducible apply keeps_clearStop
    | with_reducible apply keeps_domainLost
    | with_reducible apply keeps_clockStop
    | with_reducible apply Keeps.foldl
    | with_reducible exact narrow hpm
    | split
    | with_reducible intro _ _
    | with_reducible intro _

theorem keeps_lineStopExpire {pm : Nat} {z : State} {s : State} (hpm : Within 0x1000008 pm) (hk : Keeps pm z s) : OKeeps pm z (lineStopExpire s) := by
  unfold lineStopExpire
  repeat' first
    | with_reducible assumption
    | with_reducible exact OKeeps.none
    | with_reducible apply OKeeps.some
    | with_reducible apply keeps_wr
    | with_reducible apply keeps_setPower
    | with_reducible exact narrow hpm
    | split

theorem keeps_levelNoted {pm : Nat} {z : State} {s : State} {input : Nat} {trig : Nat} {level : Bool} (hpm : Within 0x10000 pm) (hk : Keeps pm z s) : Keeps pm z (levelNoted s input trig level) := by
  unfold levelNoted
  repeat' first
    | with_reducible assumption
    | with_reducible apply keeps_setTrigLevel
    | with_reducible apply keeps_setEncoder
    | with_reducible apply Keeps.foldl
    | split
    | with_reducible intro _ _
    | with_reducible intro _

theorem keeps_lineStopWake {pm : Nat} {z : State} {s : State} {src : Nat} (hpm : Within 0x1080728 pm) (hk : Keeps pm z s) : Keeps pm z (lineStopWake s src) := by
  unfold lineStopWake
  repeat' first
    | with_reducible assumption
    | with_reducible apply keeps_clocksBack
    | with_reducible apply keeps_wr
    | with_reducible apply keeps_setPower
    | with_reducible apply keeps_domainStart
    | with_reducible apply keeps_setCause
    | with_reducible apply Keeps.foldl
    | with_reducible exact narrow hpm
    | split
    | with_reducible intro _ _
    | with_reducible intro _

theorem keeps_wakeFrom {pm : Nat} {z : State} {s : State} {src : Nat} (hpm : Within 0x1f7ffe7fc pm) (hk : Keeps pm z s) : OKeeps pm z (wakeFrom s src) := by
  unfold wakeFrom
  repeat' first
    | with_reducible assumption
    | with_reducible exact OKeeps.none
    | with_reducible apply OKeeps.some
    | with_reducible apply keeps_systemReset
    | with_reducible apply keeps_wr
    | with_reducible apply keeps_lineStopWake
    | with_reducible exact narrow hpm
    | split

theorem keeps_pllLocks {pm : Nat} {z : State} {s : State} {aclkOk : Bool} {nclkOk : Bool} (hpm : Within 0x80708 pm) (hk : Keeps pm z s) : Keeps pm z (pllLocks s aclkOk nclkOk) := by
  unfold pllLocks
  dsimp only
  repeat' first
    | with_reducible assumption
    | with_reducible apply keeps_wr
    | with_reducible apply keeps_setCause
    | with_reducible apply keeps_bump
    | with_reducible exact narrow hpm
    | split

theorem keeps_rcTrim {pm : Nat} {z : State} {s : State} {err : Int} (hpm : Within 0x1000008 pm) (hk : Keeps pm z s) : OKeeps pm z (rcTrim s err) := by
  unfold rcTrim
  repeat' first
    | with_reducible assumption
    | with_reducible exact OKeeps.none
    | with_reducible apply OKeeps.some
    | with_reducible apply keeps_wr
    | with_reducible apply keeps_setPower
    | with_reducible exact narrow hpm
    | split

theorem keeps_lfxoStop {pm : Nat} {z : State} {s : State} (hpm : Within 0x1000008 pm) (hk : Keeps pm z s) : OKeeps pm z (lfxoStop s) := by
  unfold lfxoStop
  repeat' first
    | with_reducible assumption
    | with_reducible exact OKeeps.none
    | with_reducible apply OKeeps.some
    | with_reducible apply keeps_setPower
    | with_reducible apply keeps_wr
    | with_reducible exact narrow hpm
    | split

theorem keeps_thermalShutdown {pm : Nat} {z : State} {s : State} (hpm : Within 0x1f7ffe6fc pm) (hk : Keeps pm z s) : Keeps pm z (thermalShutdown s) := by
  unfold thermalShutdown
  repeat' first
    | with_reducible assumption
    | with_reducible apply keeps_systemOff
    | with_reducible apply keeps_setPower
    | with_reducible exact narrow hpm
    | (simp only [Keeps.upd]; apply Kp.put_faultL (hb := bit hpm); with_reducible apply Kp.of)

theorem keeps_tempSample {pm : Nat} {z : State} {s : State} {t : Int} (hpm : Within 0x1f7ffe7fc pm) (hk : Keeps pm z s) : OKeeps pm z (tempSample s t) := by
  unfold tempSample
  dsimp only
  repeat' first
    | with_reducible assumption
    | with_reducible exact OKeeps.none
    | with_reducible apply OKeeps.some
    | with_reducible apply keeps_wr
    | with_reducible apply keeps_setPower
    | with_reducible apply keeps_thermalShutdown
    | with_reducible apply keeps_setCause
    | with_reducible apply keeps_bump
    | with_reducible exact narrow hpm
    | split

theorem keeps_furrowGate {pm : Nat} {z : State} {s : State} {f : Nat} {u : Nat} (hpm : Within 0x1002000 pm) (hk : Keeps pm z s) : OKeeps pm z (furrowGate s f u) := by
  unfold furrowGate
  repeat' first
    | with_reducible assumption
    | with_reducible exact OKeeps.none
    | with_reducible apply OKeeps.some
    | with_reducible apply keeps_setPower
    | with_reducible exact narrow hpm
    | split

theorem keeps_furrowGatingWrite {pm : Nat} {z : State} {s : State} {v : Nat} (hpm : Within 0x1000008 pm) (hk : Keeps pm z s) : Keeps pm z (furrowGatingWrite s v) := by
  unfold furrowGatingWrite
  repeat' first
    | with_reducible assumption
    | with_reducible apply keeps_setPower
    | with_reducible apply keeps_wr
    | with_reducible exact narrow hpm

theorem keeps_resetOutRise {pm : Nat} {z : State} {s : State} (hpm : Within 0x1000000 pm) (hk : Keeps pm z s) : OKeeps pm z (resetOutRise s) := by
  unfold resetOutRise
  repeat' first
    | with_reducible assumption
    | with_reducible exact OKeeps.none
    | with_reducible apply OKeeps.some
    | with_reducible apply keeps_setPower
    | split

theorem keeps_refclkGone {pm : Nat} {z : State} {s : State} (hpm : Within 0x108872c pm) (hk : Keeps pm z s) : OKeeps pm z (refclkGone s) := by
  unfold refclkGone
  repeat' first
    | with_reducible assumption
    | with_reducible exact OKeeps.none
    | with_reducible apply OKeeps.some
    | with_reducible apply keeps_setPower
    | with_reducible apply keeps_moveOrdered
    | with_reducible apply keeps_refclkLost
    | with_reducible apply keeps_bump
    | with_reducible exact narrow hpm
    | split

theorem keeps_refclkBack {pm : Nat} {z : State} {s : State} (hpm : Within 0x1000008 pm) (hk : Keeps pm z s) : OKeeps pm z (refclkBack s) := by
  unfold refclkBack
  repeat' first
    | with_reducible assumption
    | with_reducible exact OKeeps.none
    | with_reducible apply OKeeps.some
    | with_reducible apply keeps_setPower
    | with_reducible apply keeps_wr
    | with_reducible exact narrow hpm
    | split

end Sys2Proof.Laws
end

