-- ==== Sys2Proof/Laws/KeepsAccess.lean ====
section
/-! SUPPORT. What the dictionary, its ports, boot and the forms of a command keep of the state before (Laws/Keeps.lean): one lemma per function. -/

set_option Elab.async false

namespace Sys2Proof.Laws

open Sys2Proof.Machine

/-! DictRead -/

theorem keeps_readValue {pm : Nat} {z : State} {s : State} {src : Source} {o : ObjRef} (hpm : Within 0x80100 pm) (hk : Keeps pm z s) : PKeeps pm z (readValue s src o) := by
  unfold readValue
  repeat' first
    | with_reducible assumption
    | with_reducible apply keeps_randomRead
    | with_reducible refine PKeeps.fst (keeps_inboxPop ?_ ?_)
    | with_reducible exact narrow hpm
    | simp only [PKeeps.iff]
    | split

theorem keeps_dictRead {pm : Nat} {z : State} {s : State} {src : Source} {idx : Nat} {sub : Nat} (hpm : Within 0x80100 pm) (hk : Keeps pm z s) : PKeeps pm z (dictRead s src idx sub) := by
  unfold dictRead
  repeat' first
    | with_reducible assumption
    | with_reducible apply keeps_readValue
    | (with_reducible refine PKeeps.of ?_ (by with_reducible assumption))
    | simp only [PKeeps.iff]
    | split

/-! CanPorts -/

theorem keeps_setPlant {pm : Nat} {z : State} {s : State} {x : PlantState} (hpm : Within 0x400000 pm) (hk : Keeps pm z s) : Keeps pm z (setPlant s x) := by
  unfold setPlant
  repeat' first
    | with_reducible assumption
    | (simp only [Keeps.upd]; apply Kp.put_plant (hb := bit hpm); with_reducible apply Kp.of)

theorem keeps_setCan {pm : Nat} {z : State} {s : State} {p : Nat} {x : CanPort} (hpm : Within 0x400000 pm) (hk : Keeps pm z s) : Keeps pm z (setCan s p x) := by
  unfold setCan
  repeat' first
    | with_reducible assumption
    | with_reducible apply keeps_setPlant

theorem keeps_dropTransfers {pm : Nat} {z : State} {s : State} {src : Source} (hpm : Within 0x400000 pm) (hk : Keeps pm z s) : Keeps pm z (dropTransfers s src) := by
  unfold dropTransfers
  repeat' first
    | with_reducible assumption
    | with_reducible apply keeps_setPlant

theorem keeps_pdoBegin {pm : Nat} {z : State} {s : State} {i : Nat} (hpm : Within 0x400000 pm) (hk : Keeps pm z s) : Keeps pm z (pdoBegin s i) := by
  unfold pdoBegin
  repeat' first
    | with_reducible assumption
    | with_reducible apply keeps_setPlant

theorem keeps_canStart {pm : Nat} {z : State} {s : State} {p : Nat} (hpm : Within 0x40000c pm) (hk : Keeps pm z s) : Keeps pm z (canStart s p) := by
  unfold canStart
  repeat' first
    | with_reducible assumption
    | with_reducible apply keeps_setCan
    | with_reducible apply keeps_dropTransfers
    | with_reducible apply keeps_wr
    | with_reducible apply keeps_canSend
    | with_reducible exact narrow hpm

theorem keeps_canEnable {pm : Nat} {z : State} {s : State} {p : Nat} {v : Nat} (hpm : Within 0x40000c pm) (hk : Keeps pm z s) : Keeps pm z (canEnable s p v) := by
  unfold canEnable
  repeat' first
    | with_reducible assumption
    | with_reducible apply keeps_wr
    | with_reducible apply keeps_setCan
    | with_reducible apply keeps_dropTransfers
    | with_reducible apply keeps_canStart
    | with_reducible exact narrow hpm
    | split

theorem keeps_nmtMove {pm : Nat} {z : State} {s : State} {p : Nat} {node : Nat} {goal : Nat} (hpm : Within 0x400008 pm) (hk : Keeps pm z s) : OKeeps pm z (nmtMove s p node goal) := by
  unfold nmtMove
  repeat' first
    | with_reducible assumption
    | with_reducible exact OKeeps.none
    | with_reducible apply OKeeps.some
    | with_reducible apply keeps_wr
    | with_reducible apply keeps_pdoBegin
    | with_reducible apply Keeps.foldl
    | with_reducible exact narrow hpm
    | split
    | with_reducible intro _ _

theorem keeps_nmtReset {pm : Nat} {z : State} {s : State} {p : Nat} {node : Nat} (hpm : Within 0x40000c pm) (hk : Keeps pm z s) : OKeeps pm z (nmtReset s p node) := by
  unfold nmtReset
  repeat' first
    | with_reducible assumption
    | with_reducible exact OKeeps.none
    | with_reducible apply OKeeps.some
    | with_reducible apply keeps_canStart
    | split

theorem keeps_heartbeatWrite {pm : Nat} {z : State} {s : State} {p : Nat} {v : Nat} (hpm : Within 0x400008 pm) (hk : Keeps pm z s) : Keeps pm z (heartbeatWrite s p v) := by
  unfold heartbeatWrite
  repeat' first
    | with_reducible assumption
    | with_reducible apply keeps_setCan
    | with_reducible apply keeps_wr
    | with_reducible exact narrow hpm

theorem keeps_canBeat {pm : Nat} {z : State} {s : State} {p : Nat} (hpm : Within 0x400004 pm) (hk : Keeps pm z s) : OKeeps pm z (canBeat s p) := by
  unfold canBeat
  dsimp only
  repeat' first
    | with_reducible assumption
    | with_reducible exact OKeeps.none
    | with_reducible apply OKeeps.some
    | with_reducible apply keeps_canSend
    | with_reducible apply keeps_setCan
    | with_reducible exact narrow hpm
    | split

theorem keeps_busState {pm : Nat} {z : State} {s : State} {p : Nat} {v : Nat} (hpm : Within 0x80708 pm) (hk : Keeps pm z s) : OKeeps pm z (busState s p v) := by
  unfold busState
  repeat' first
    | with_reducible assumption
    | with_reducible exact OKeeps.none
    | with_reducible apply OKeeps.some
    | with_reducible apply keeps_setCause
    | with_reducible apply keeps_wr
    | with_reducible exact narrow hpm
    | split

theorem keeps_busOff {pm : Nat} {z : State} {s : State} {p : Nat} (hpm : Within 0x80708 pm) (hk : Keeps pm z s) : OKeeps pm z (busOff s p) := by
  unfold busOff
  repeat' first
    | with_reducible assumption
    | with_reducible apply keeps_bump
    | with_reducible apply keeps_busState
    | with_reducible apply OKeeps.map
    | with_reducible exact narrow hpm
    | with_reducible intro _ _

theorem keeps_cobIdWrite {pm : Nat} {z : State} {s : State} {i : Nat} {v : Nat} (hpm : Within 0x400008 pm) (hk : Keeps pm z s) : PKeeps pm z (cobIdWrite s i v) := by
  unfold cobIdWrite
  repeat' first
    | with_reducible assumption
    | with_reducible apply keeps_wr
    | with_reducible apply keeps_pdoBegin
    | with_reducible exact narrow hpm
    | simp only [PKeeps.iff]
    | split

theorem keeps_pdoSample {pm : Nat} {z : State} {s : State} {src : Source} {l : List (Nat × Nat × Nat)} (hpm : Within 0x80100 pm) (hk : Keeps pm z s) : QKeeps pm z (pdoSample s src l) := by
  induction l generalizing s with
  | nil =>
    unfold pdoSample
    repeat' first
      | with_reducible assumption
      | with_reducible apply QKeeps.some
  | cons x r ih =>
    unfold pdoSample
    repeat' first
      | with_reducible apply ih
      | with_reducible assumption
      | with_reducible exact QKeeps.none
      | with_reducible apply keeps_dictRead
      | with_reducible apply QKeeps.map
      | (with_reducible refine PKeeps.of ?_ (by with_reducible assumption))
      | simp only [PKeeps.iff]
      | split
      | with_reducible intro _ _

theorem keeps_pdoSend {pm : Nat} {z : State} {s : State} {i : Nat} (hpm : Within 0x80104 pm) (hk : Keeps pm z s) : Keeps pm z (pdoSend s i) := by
  unfold pdoSend
  dsimp only
  repeat' first
    | with_reducible assumption
    | with_reducible apply keeps_pdoSample
    | with_reducible apply keeps_canSend
    | (with_reducible refine QKeeps.of ?_ (by with_reducible assumption))
    | with_reducible exact narrow hpm
    | split

theorem keeps_pdoCyclic {pm : Nat} {z : State} {s : State} {i : Nat} (hpm : Within 0x480104 pm) (hk : Keeps pm z s) : OKeeps pm z (pdoCyclic s i) := by
  unfold pdoCyclic
  dsimp only
  repeat' first
    | with_reducible assumption
    | with_reducible exact OKeeps.none
    | with_reducible apply OKeeps.some
    | with_reducible apply keeps_pdoSend
    | with_reducible apply keeps_setPlant
    | with_reducible exact narrow hpm
    | split

theorem keeps_pdoSyncOne {pm : Nat} {z : State} {s : State} {i : Nat} (hpm : Within 0x480104 pm) (hk : Keeps pm z s) : Keeps pm z (pdoSyncOne s i) := by
  unfold pdoSyncOne
  dsimp only
  repeat' first
    | with_reducible assumption
    | with_reducible apply keeps_setPlant
    | with_reducible apply keeps_pdoSend
    | with_reducible exact narrow hpm
    | split

theorem keeps_pdoSync {pm : Nat} {z : State} {s : State} {p : Nat} (hpm : Within 0x480104 pm) (hk : Keeps pm z s) : OKeeps pm z (pdoSync s p) := by
  unfold pdoSync
  repeat' first
    | with_reducible assumption
    | with_reducible exact OKeeps.none
    | with_reducible apply OKeeps.some
    | with_reducible apply keeps_pdoSyncOne
    | with_reducible apply Keeps.foldl
    | split
    | with_reducible intro _ _

theorem keeps_pdoTrigger {pm : Nat} {z : State} {s : State} {i : Nat} (hpm : Within 0x80104 pm) (hk : Keeps pm z s) : PKeeps pm z (pdoTrigger s i) := by
  unfold pdoTrigger
  repeat' first
    | with_reducible assumption
    | with_reducible apply keeps_pdoSend
    | simp only [PKeeps.iff]
    | split

theorem keeps_ptpMove {pm : Nat} {z : State} {s : State} {v : Nat} (hpm : Within 0x80708 pm) (hk : Keeps pm z s) : Keeps pm z (ptpMove s v) := by
  unfold ptpMove
  repeat' first
    | with_reducible assumption
    | with_reducible apply keeps_wr
    | with_reducible apply keeps_setCause
    | with_reducible apply keeps_bump
    | with_reducible exact narrow hpm
    | split

theorem keeps_ptpEnable {pm : Nat} {z : State} {s : State} {v : Nat} (hpm : Within 0x480708 pm) (hk : Keeps pm z s) : Keeps pm z (ptpEnable s v) := by
  unfold ptpEnable
  repeat' first
    | with_reducible assumption
    | with_reducible apply keeps_wr
    | with_reducible apply keeps_ptpMove
    | with_reducible apply keeps_setPlant
    | with_reducible exact narrow hpm
    | split

/-! DictWrite -/

theorem keeps_storeIf {pm : Nat} {z : State} {s : State} {o : ObjRef} {v : Nat} {ok : Bool} (hpm : Within 0x8 pm) (hk : Keeps pm z s) : PKeeps pm z (storeIf s o v ok) := by
  unfold storeIf
  repeat' first
    | with_reducible assumption
    | with_reducible apply keeps_wr
    | simp only [PKeeps.iff]
    | split

theorem keeps_numberApply {pm : Nat} {z : State} {s : State} {o : ObjRef} {v : Nat} (hpm : Within 0x1f7fff7fc pm) (hk : Keeps pm z s) : PKeeps pm z (numberApply s o v) := by
  unfold numberApply
  repeat' first
    | with_reducible assumption
    | with_reducible apply keeps_wr
    | with_reducible apply keeps_activateSlot
    | with_reducible apply keeps_storeIf
    | with_reducible apply keeps_archiveModeWrite
    | with_reducible apply keeps_bankOwnerWrite
    | with_reducible apply keeps_bankNow
    | with_reducible apply keeps_barEnable
    | with_reducible apply keeps_barDisable
    | with_reducible apply keeps_boardSupplyWrite
    | with_reducible apply keeps_cacheErase
    | with_reducible apply keeps_camEnable
    | with_reducible apply keeps_camDisable
    | with_reducible apply keeps_canEnable
    | with_reducible apply keeps_capoHoldWrite
    | with_reducible apply keeps_clearCounters
    | with_reducible apply keeps_cobIdWrite
    | with_reducible apply keeps_coreCommand
    | with_reducible apply keeps_coreResetWrite
    | with_reducible apply keeps_coreRunWrite
    | with_reducible apply keeps_ringSet
    | with_reducible apply keeps_dmaHostWrite
    | with_reducible apply keeps_domainRequest
    | with_reducible apply keeps_encEnable
    | with_reducible apply keeps_encDisable
    | with_reducible apply keeps_engineReset
    | with_reducible apply keeps_eventRaise
    | with_reducible apply keeps_fieldClearWrite
    | with_reducible apply keeps_fieldRunWrite
    | with_reducible apply keeps_firmwareKick
    | with_reducible apply keeps_forceReject
    | with_reducible apply keeps_furrowGatingWrite
    | with_reducible apply keeps_firmwareFloor
    | with_reducible apply keeps_gateEnable
    | with_reducible apply keeps_groupGo
    | with_reducible apply keeps_healthPost
    | with_reducible apply keeps_laneMovedWith
    | with_reducible apply keeps_laneDisable
    | with_reducible apply keeps_pairArbitrate
    | with_reducible apply keeps_laneRetrain
    | with_reducible apply keeps_heartbeatWrite
    | with_reducible apply keeps_genEnable
    | with_reducible apply keeps_lpddrSupplyWrite
    | with_reducible apply keeps_mapEdit
    | with_reducible apply keeps_pairEnable
    | with_reducible apply keeps_positionPreset
    | with_reducible apply keeps_powerModeWrite
    | with_reducible apply keeps_prbsClear
    | with_reducible apply keeps_prbsInject
    | with_reducible apply keeps_prbsPattern
    | with_reducible apply keeps_ptpEnable
    | with_reducible apply keeps_queueEnable
    | with_reducible apply keeps_queueDisable
    | with_reducible apply keeps_queueFlush
    | with_reducible apply keeps_storeCommand
    | with_reducible apply keeps_resyncRequest
    | with_reducible apply keeps_retuneCancel
    | with_reducible apply keeps_retuneGo
    | with_reducible apply keeps_routerGo
    | with_reducible apply keeps_rowBypassWrite
    | with_reducible apply keeps_schedCoresWrite
    | with_reducible apply keeps_snapCommand
    | with_reducible apply keeps_spillRegionWrite
    | with_reducible apply keeps_swapGo
    | with_reducible apply keeps_taskCommand
    | with_reducible apply keeps_taskSetup
    | with_reducible apply keeps_timerWrite
    | with_reducible apply keeps_pdoTrigger
    | with_reducible apply keeps_traceModeWrite
    | with_reducible apply keeps_trigEnable
    | with_reducible apply keeps_trngRestart
    | with_reducible apply keeps_tuningGo
    | with_reducible apply keeps_verdictPost
    | with_reducible refine PKeeps.fst (keeps_laneEnable ?_ ?_)
    | with_reducible exact narrow hpm
    | simp only [PKeeps.iff]
    | split

theorem keeps_bytesApply {pm : Nat} {z : State} {s : State} {agent : Bool} {o : ObjRef} {b : List Byte} {nvm : Bool} (hpm : Within 0x2afbf7c pm) (hk : Keeps pm z s) : PKeeps pm z (bytesApply s agent o b nvm) := by
  unfold bytesApply
  dsimp only
  split
  · exact PKeeps.fst (keeps_attestNonce (narrow hpm) hk)
  · exact keeps_secCheckAsk (narrow hpm) hk
  · refine Keeps.upd.2 ?_; apply Kp.put_coalesced (hb := bit hpm); exact Kp.of hk
  · exact keeps_secCheckAsk (narrow hpm) hk
  · refine PKeeps.iff.2 ?_
    exact keeps_setPair (narrow hpm) (keeps_wrBytes (narrow hpm) hk)
  · exact keeps_grantWrite (narrow hpm) hk
  · exact keeps_secCheckAsk (narrow hpm) hk
  · exact PKeeps.fst (keeps_mapImage (narrow hpm) hk)
  · refine PKeeps.iff.2 ?_
    split
    · exact PKeeps.fst (keeps_barMgmt (narrow hpm) hk)
    · exact PKeeps.fst (keeps_camMgmt (narrow hpm) hk)
  · exact PKeeps.fst (keeps_ownerInstall (narrow hpm) hk)
  · exact PKeeps.fst (keeps_weightsWrite (narrow hpm) hk)
  · exact keeps_shadowWrite (narrow hpm) hk
  · refine PKeeps.iff.2 ?_
    split
    · exact hk
    · refine Keeps.upd.2 ?_; apply Kp.put_arr (hb := bit hpm); exact Kp.of hk
  · exact keeps_wrBytes (narrow hpm) hk

theorem keeps_dictApply {pm : Nat} {z : State} {s : State} {src : Source} {o : ObjRef} {v : ObjVal} {nvm : Bool} (hpm : Within 0x1f7fffffc pm) (hk : Keeps pm z s) : PKeeps pm z (dictApply s src o v nvm) := by
  unfold dictApply
  repeat' first
    | with_reducible assumption
    | with_reducible apply keeps_wr
    | with_reducible apply keeps_commandRefused
    | with_reducible apply keeps_bytesApply
    | with_reducible apply keeps_setSecurity
    | with_reducible refine PKeeps.fst (keeps_allotmentRetire ?_ ?_)
    | with_reducible refine PKeeps.fst (keeps_bytesApply ?_ ?_)
    | with_reducible refine PKeeps.fst (keeps_numberApply ?_ ?_)
    | with_reducible exact narrow hpm
    | simp only [PKeeps.iff]
    | split

theorem keeps_block {pm : Nat} {z : State} {s : State} {m : MirrorWait} (hpm : Within 0x400000 pm) (hk : Keeps pm z s) : Keeps pm z (block s m) := by
  unfold block
  repeat' first
    | with_reducible assumption
    | with_reducible apply keeps_setPlant

theorem keeps_mirrorFrames {pm : Nat} {z : State} {idx : Nat} {sub : Nat} {b : List Byte} {k : Nat} {off : Nat} {s : State} (hpm : Within 0x48004 pm) (hk : Keeps pm z s) : PKeeps pm z (mirrorFrames idx sub b k off s) := by
  induction k generalizing off s with
  | zero =>
    unfold mirrorFrames
    repeat' first
      | with_reducible assumption
      | simp only [PKeeps.iff]
  | succ k ih =>
    unfold mirrorFrames
    dsimp only
    repeat' first
      | with_reducible apply ih
      | with_reducible assumption
      | with_reducible apply keeps_sendOrdered
      | with_reducible refine PKeeps.fst (keeps_sendOrdered ?_ ?_)
      | split

theorem keeps_dictWriteNow {pm : Nat} {z : State} {s : State} {m : MirrorWait} {nvm : Bool} (hpm : Within 0x1f7fffffc pm) (hk : Keeps pm z s) : PKeeps pm z (dictWriteNow s m nvm) := by
  unfold dictWriteNow
  repeat' first
    | with_reducible assumption
    | with_reducible apply keeps_dictApply
    | with_reducible apply keeps_setPair
    | with_reducible apply keeps_setPlant
    | with_reducible apply keeps_setSecurity
    | with_reducible refine PKeeps.fst (keeps_dictApply ?_ ?_)
    | with_reducible refine PKeeps.fst (keeps_mirrorFrames ?_ ?_)
    | with_reducible exact narrow hpm
    | simp only [PKeeps.iff]
    | split

theorem keeps_dictWriteWith {pm : Nat} {z : State} {s : State} {src : Source} {direct : Bool} {idx : Nat} {sub : Nat} {v : ObjVal} {nvm : Bool} (hpm : Within 0x1f7fffffc pm) (hk : Keeps pm z s) : PKeeps pm z (dictWriteWith s src direct idx sub v nvm) := by
  unfold dictWriteWith
  repeat' first
    | with_reducible assumption
    | with_reducible apply keeps_block
    | with_reducible apply keeps_dictWriteNow
    | with_reducible exact narrow hpm
    | simp only [PKeeps.iff]
    | split

theorem keeps_dictWrite {pm : Nat} {z : State} {s : State} {src : Source} {idx : Nat} {sub : Nat} {v : ObjVal} (hpm : Within 0x1f7fffffc pm) (hk : Keeps pm z s) : PKeeps pm z (dictWrite s src idx sub v) := by
  unfold dictWrite
  repeat' first
    | with_reducible assumption
    | with_reducible apply keeps_dictWriteWith

theorem keeps_mirrorReceived {pm : Nat} {z : State} {s : State} {p : List Byte} (hpm : Within 0x1f7fffffc pm) (hk : Keeps pm z s) : PKeeps pm z (mirrorReceived s p) := by
  unfold mirrorReceived
  repeat' first
    | with_reducible assumption
    | with_reducible apply keeps_setPair
    | with_reducible refine PKeeps.fst (keeps_dictWrite ?_ ?_)
    | with_reducible exact narrow hpm
    | simp only [PKeeps.iff]
    | split

theorem keeps_mirrorFrame {pm : Nat} {z : State} {s : State} {i : Nat} {seq : Nat} {role : Nat} {p : List Byte} {ok : Bool} (hpm : Within 0x1f7fffffc pm) (hk : Keeps pm z s) : Keeps pm z (mirrorFrame s i seq role p ok) := by
  unfold mirrorFrame
  repeat' first
    | with_reducible assumption
    | with_reducible apply keeps_pairOrdered
    | with_reducible apply keeps_orphan
    | with_reducible refine PKeeps.fst (keeps_mirrorReceived ?_ ?_)
    | with_reducible exact narrow hpm
    | simp only [PKeeps.iff]
    | split
    | with_reducible intro _ _

/-! Window -/

theorem keeps_setDomPort {pm : Nat} {z : State} {s : State} {n : Nat} {x : DomainPort} (hpm : Within 0x400000 pm) (hk : Keeps pm z s) : Keeps pm z (setDomPort s n x) := by
  unfold setDomPort
  repeat' first
    | with_reducible assumption
    | with_reducible apply keeps_setPlant

theorem keeps_stagingPut {pm : Nat} {z : State} {s : State} {off : Nat} {b : List Byte} (hpm : Within 0x200040 pm) (hk : Keeps pm z s) : Keeps pm z (stagingPut s off b) := by
  unfold stagingPut
  repeat' first
    | with_reducible assumption
    | with_reducible apply keeps_memWrite
    | with_reducible apply keeps_unitUse
    | with_reducible exact narrow hpm

theorem keeps_stagingTurned {pm : Nat} {z : State} {s : State} (hpm : Within 0x280708 pm) (hk : Keeps pm z s) : Keeps pm z (stagingTurned s) := by
  unfold stagingTurned
  repeat' first
    | with_reducible assumption
    | with_reducible apply keeps_unitTurned

theorem keeps_domControl {pm : Nat} {z : State} {s : State} {n : Nat} {v : Nat} (hpm : Within 0x480100 pm) (hk : Keeps pm z s) : PKeeps pm z (domControl s n v) := by
  unfold domControl
  repeat' first
    | with_reducible assumption
    | with_reducible apply keeps_setDomPort
    | with_reducible apply keeps_setPlant
    | with_reducible refine PKeeps.fst (keeps_dictRead ?_ ?_)
    | with_reducible exact narrow hpm
    | simp only [PKeeps.iff]
    | split

theorem keeps_domPortWrite {pm : Nat} {z : State} {s : State} {n : Nat} {sub : Nat} {v : Nat} (hpm : Within 0x480100 pm) (hk : Keeps pm z s) : PKeeps pm z (domPortWrite s n sub v) := by
  unfold domPortWrite
  repeat' first
    | with_reducible assumption
    | with_reducible apply keeps_setDomPort
    | with_reducible apply keeps_domControl
    | with_reducible exact narrow hpm
    | simp only [PKeeps.iff]
    | split

theorem keeps_domEnd {pm : Nat} {z : State} {s : State} {n : Nat} {count : Nat} {st : Status} (hpm : Within 0x400000 pm) (hk : Keeps pm z s) : Keeps pm z (domEnd s n count st) := by
  unfold domEnd
  repeat' first
    | with_reducible assumption
    | with_reducible apply keeps_setDomPort

theorem keeps_endAssembly {pm : Nat} {z : State} {s : State} (hpm : Within 0x400000 pm) (hk : Keeps pm z s) : Keeps pm z (endAssembly s) := by
  unfold endAssembly
  repeat' first
    | with_reducible assumption
    | with_reducible apply keeps_setPlant

theorem keeps_domFinish {pm : Nat} {z : State} {s : State} {n : Nat} (hpm : Within 0x1f7fffffc pm) (hk : Keeps pm z s) : OKeeps pm z (domFinish s n) := by
  unfold domFinish
  dsimp only
  repeat' first
    | with_reducible assumption
    | with_reducible exact OKeeps.none
    | with_reducible apply OKeeps.some
    | with_reducible apply keeps_turned
    | with_reducible apply keeps_domEnd
    | with_reducible apply keeps_netStore
    | with_reducible apply keeps_bufferUse
    | with_reducible apply keeps_endAssembly
    | with_reducible apply keeps_stagingTurned
    | with_reducible apply keeps_stagingPut
    | with_reducible refine PKeeps.fst (keeps_dictWrite ?_ ?_)
    | with_reducible exact narrow hpm
    | split

theorem keeps_windowLoad {pm : Nat} {z : State} {s : State} {n : Nat} {a : Nat} {size : Nat} (hpm : Within 0x480100 pm) (hk : Keeps pm z s) : PKeeps pm z (windowLoad s n a size) := by
  unfold windowLoad
  repeat' first
    | with_reducible assumption
    | with_reducible apply keeps_setPlant
    | with_reducible apply keeps_dictRead
    | (with_reducible refine PKeeps.of ?_ (by with_reducible assumption))
    | with_reducible exact narrow hpm
    | simp only [PKeeps.iff]
    | split

theorem keeps_windowStore {pm : Nat} {z : State} {s : State} {n : Nat} {a : Nat} {size : Nat} {v : Nat} (hpm : Within 0x1f7fffffc pm) (hk : Keeps pm z s) : PKeeps pm z (windowStore s n a size v) := by
  unfold windowStore
  repeat' first
    | with_reducible assumption
    | with_reducible apply keeps_setPlant
    | with_reducible apply keeps_dictWrite
    | with_reducible refine PKeeps.fst (keeps_domPortWrite ?_ ?_)
    | with_reducible exact narrow hpm
    | simp only [PKeeps.iff]
    | split

/-! Opral -/

theorem keeps_setEth {pm : Nat} {z : State} {s : State} {p : Nat} {x : EthPort} (hpm : Within 0x400000 pm) (hk : Keeps pm z s) : Keeps pm z (setEth s p x) := by
  unfold setEth
  repeat' first
    | with_reducible assumption
    | with_reducible apply keeps_setPlant

theorem keeps_segWrite {pm : Nat} {z : State} {s : State} {src : Source} {node : Nat} {idx : Nat} {sub : Nat} {ty : Nat} {off : Nat} {last : Bool} {data : List Byte} (hpm : Within 0x1f7fffffc pm) (hk : Keeps pm z s) : PKeeps pm z (segWrite s src node idx sub ty off last data) := by
  unfold segWrite
  repeat' first
    | with_reducible assumption
    | with_reducible apply keeps_endAssembly
    | with_reducible apply keeps_stagingTurned
    | with_reducible apply keeps_stagingPut
    | with_reducible apply keeps_dictWrite
    | with_reducible apply keeps_setPlant
    | with_reducible exact narrow hpm
    | simp only [PKeeps.iff]
    | split

theorem keeps_dropCapture {pm : Nat} {z : State} {s : State} {src : Source} {node : Nat} (hpm : Within 0x400000 pm) (hk : Keeps pm z s) : Keeps pm z (dropCapture s src node) := by
  unfold dropCapture
  repeat' first
    | with_reducible assumption
    | with_reducible apply keeps_setPlant

theorem keeps_segRead {pm : Nat} {z : State} {s : State} {src : Source} {node : Nat} {idx : Nat} {sub : Nat} {off : Nat} {max : Nat} (hpm : Within 0x480100 pm) (hk : Keeps pm z s) : PKeeps pm z (segRead s src node idx sub off max) := by
  unfold segRead
  repeat' first
    | with_reducible assumption
    | with_reducible apply keeps_dropCapture
    | with_reducible apply keeps_setPlant
    | with_reducible apply keeps_dictRead
    | (with_reducible refine PKeeps.of ?_ (by with_reducible assumption))
    | with_reducible exact narrow hpm
    | simp only [PKeeps.iff]
    | split

theorem keeps_segExpire {pm : Nat} {z : State} {s : State} (hpm : Within 0x400008 pm) (hk : Keeps pm z s) : OKeeps pm z (segExpire s) := by
  unfold segExpire
  dsimp only
  repeat' first
    | with_reducible assumption
    | with_reducible exact OKeeps.none
    | with_reducible apply OKeeps.some
    | with_reducible apply keeps_endAssembly
    | with_reducible apply keeps_setPlant
    | with_reducible apply keeps_bump
    | with_reducible apply Keeps.foldl
    | with_reducible exact narrow hpm
    | split
    | with_reducible intro _ _

theorem keeps_opRead {pm : Nat} {z : State} {s : State} {src : Source} {idx : Nat} {sub : Nat} {ty : Nat} (hpm : Within 0x80100 pm) (hk : Keeps pm z s) : PKeeps pm z (opRead s src idx sub ty) := by
  unfold opRead
  repeat' first
    | with_reducible assumption
    | with_reducible apply keeps_dictRead
    | (with_reducible refine PKeeps.of ?_ (by with_reducible assumption))
    | simp only [PKeeps.iff]
    | split

theorem keeps_opRun {pm : Nat} {z : State} {s : State} {src : Source} {node : Nat} {broadcast : Bool} {room : Nat} {o : Op} (hpm : Within 0x1f7fffffc pm) (hk : Keeps pm z s) : PKeeps pm z (opRun s src node broadcast room o) := by
  unfold opRun
  repeat' first
    | with_reducible assumption
    | with_reducible apply keeps_opRead
    | with_reducible apply keeps_segRead
    | with_reducible refine PKeeps.fst (keeps_dictWrite ?_ ?_)
    | with_reducible refine PKeeps.fst (keeps_segWrite ?_ ?_)
    | (with_reducible refine PKeeps.of ?_ (by with_reducible assumption))
    | with_reducible exact narrow hpm
    | simp only [PKeeps.iff]
    | split

theorem keeps_opralGo {pm : Nat} {z : State} {p : Nat} {k : Nat} {s : State} (hpm : Within 0x1f7fffffc pm) (hk : Keeps pm z s) : Keeps pm z (opralGo p k s) := by
  induction k generalizing s with
  | zero =>
    unfold opralGo
    repeat' first
      | with_reducible assumption
  | succ k ih =>
    unfold opralGo
    dsimp only
    repeat' first
      | with_reducible apply ih
      | with_reducible assumption
      | with_reducible apply keeps_setEth
      | with_reducible apply keeps_udpSend
      | with_reducible refine PKeeps.fst (keeps_opRun ?_ ?_)
      | with_reducible exact narrow hpm
      | split

theorem keeps_opralTake {pm : Nat} {z : State} {s : State} {p : Nat} {ip : Nat} {port : Nat} {b : List Byte} (hpm : Within 0x1f7fffffc pm) (hk : Keeps pm z s) : Keeps pm z (opralTake s p ip port b) := by
  unfold opralTake
  dsimp only
  repeat' first
    | with_reducible assumption
    | with_reducible apply keeps_setCause
    | with_reducible apply keeps_bump
    | with_reducible apply keeps_count64
    | with_reducible apply keeps_udpSend
    | with_reducible apply keeps_opralGo
    | with_reducible apply keeps_setEth
    | with_reducible exact narrow hpm
    | split

theorem keeps_opralDrain {pm : Nat} {z : State} {p : Nat} {k : Nat} {s : State} (hpm : Within 0x1f7fffffc pm) (hk : Keeps pm z s) : Keeps pm z (opralDrain p k s) := by
  induction k generalizing s with
  | zero =>
    unfold opralDrain
    repeat' first
      | with_reducible assumption
  | succ k ih =>
    unfold opralDrain
    repeat' first
      | with_reducible apply ih
      | with_reducible assumption
      | with_reducible apply keeps_setEth
      | with_reducible apply keeps_opralTake
      | with_reducible exact narrow hpm
      | split

theorem keeps_opralHeld {pm : Nat} {z : State} {s : State} (hpm : Within 0x1f7fffffc pm) (hk : Keeps pm z s) : Keeps pm z (opralHeld s) := by
  unfold opralHeld
  repeat' first
    | with_reducible assumption
    | with_reducible apply keeps_opralDrain
    | split

theorem keeps_woken {pm : Nat} {z : State} {s : State} {src : Nat} (hpm : Within 0x1f7fffffc pm) (hk : Keeps pm z s) : Keeps pm z (woken s src) := by
  unfold woken
  repeat' first
    | with_reducible assumption
    | with_reducible apply keeps_wakeFrom
    | with_reducible apply keeps_opralHeld
    | (with_reducible refine OKeeps.of ?_ (by with_reducible assumption))
    | with_reducible exact narrow hpm
    | split

theorem keeps_opralReceive {pm : Nat} {z : State} {s : State} {p : Nat} {ip : Nat} {port : Nat} {b : List Byte} (hpm : Within 0x1f7fffffc pm) (hk : Keeps pm z s) : Keeps pm z (opralReceive s p ip port b) := by
  unfold opralReceive
  dsimp only
  repeat' first
    | with_reducible assumption
    | with_reducible apply keeps_bump
    | with_reducible apply keeps_setEth
    | with_reducible apply keeps_opralDrain
    | with_reducible apply keeps_woken
    | with_reducible exact narrow hpm
    | split

theorem keeps_opralAnswered {pm : Nat} {z : State} {s : State} {p : Nat} {st : Status} (hpm : Within 0x1f7fffffc pm) (hk : Keeps pm z s) : Keeps pm z (opralAnswered s p st) := by
  unfold opralAnswered
  repeat' first
    | with_reducible assumption
    | with_reducible apply keeps_setEth
    | with_reducible apply keeps_opralDrain
    | with_reducible apply keeps_opralGo
    | with_reducible exact narrow hpm
    | split

theorem keeps_ethSend {pm : Nat} {z : State} {s : State} {p : Nat} {ip : Nat} {b : List Byte} (hpm : Within 0x4 pm) (hk : Keeps pm z s) : Keeps pm z (ethSend s p ip b) := by
  unfold ethSend
  repeat' first
    | with_reducible assumption
    | with_reducible apply keeps_udpSend

theorem keeps_arpReply {pm : Nat} {z : State} {s : State} {p : Nat} {senderMac : Nat} {senderIp : Nat} {targetIp : Nat} (hpm : Within 0x4 pm) (hk : Keeps pm z s) : OKeeps pm z (arpReply s p senderMac senderIp targetIp) := by
  unfold arpReply
  repeat' first
    | with_reducible assumption
    | with_reducible exact OKeeps.none
    | with_reducible apply OKeeps.some
    | with_reducible apply keeps_ethSend
    | split

theorem keeps_icmpReply {pm : Nat} {z : State} {s : State} {p : Nat} {senderIp : Nat} {targetIp : Nat} {rest : List Byte} (hpm : Within 0x4 pm) (hk : Keeps pm z s) : OKeeps pm z (icmpReply s p senderIp targetIp rest) := by
  unfold icmpReply
  repeat' first
    | with_reducible assumption
    | with_reducible exact OKeeps.none
    | with_reducible apply OKeeps.some
    | with_reducible apply keeps_ethSend
    | split

/-! CanServe -/

theorem keeps_sdoAnswer {pm : Nat} {z : State} {s : State} {p : Nat} {st : Status} (hpm : Within 0x8070c pm) (hk : Keeps pm z s) : Keeps pm z (sdoAnswer s p st) := by
  unfold sdoAnswer
  repeat' first
    | with_reducible assumption
    | with_reducible apply keeps_setCause
    | with_reducible apply keeps_wr
    | with_reducible apply keeps_bump
    | with_reducible exact narrow hpm
    | (simp only [Keeps.upd]; apply Kp.put_answer (hb := bit hpm); with_reducible apply Kp.of)
    | split

theorem keeps_sdoDownload {pm : Nat} {z : State} {s : State} {p : Nat} {idx : Nat} {sub : Nat} {off : Nat} {last : Bool} {b : List Byte} (hpm : Within 0x1f7fffffc pm) (hk : Keeps pm z s) : Keeps pm z (sdoDownload s p idx sub off last b) := by
  unfold sdoDownload
  dsimp only
  repeat' first
    | with_reducible assumption
    | with_reducible apply keeps_sdoAnswer
    | with_reducible refine PKeeps.fst (keeps_dictWrite ?_ ?_)
    | with_reducible refine PKeeps.fst (keeps_segWrite ?_ ?_)
    | with_reducible exact narrow hpm
    | split

theorem keeps_sdoUploadNow {pm : Nat} {z : State} {s : State} {p : Nat} {idx : Nat} {sub : Nat} {off : Nat} {max : Nat} (hpm : Within 0x48070c pm) (hk : Keeps pm z s) : Keeps pm z (sdoUploadNow s p idx sub off max) := by
  unfold sdoUploadNow
  repeat' first
    | with_reducible assumption
    | with_reducible apply keeps_segRead
    | with_reducible apply keeps_sdoAnswer
    | (with_reducible refine PKeeps.of ?_ (by with_reducible assumption))
    | with_reducible exact narrow hpm
    | (simp only [Keeps.upd]; apply Kp.put_answer (hb := bit hpm); with_reducible apply Kp.of)
    | split

theorem keeps_sdoUpload {pm : Nat} {z : State} {s : State} {p : Nat} {idx : Nat} {sub : Nat} {off : Nat} {max : Nat} (hpm : Within 0x48070c pm) (hk : Keeps pm z s) : Keeps pm z (sdoUpload s p idx sub off max) := by
  unfold sdoUpload
  dsimp only
  repeat' first
    | with_reducible assumption
    | with_reducible apply keeps_block
    | with_reducible apply keeps_sdoUploadNow
    | with_reducible exact narrow hpm
    | split

theorem keeps_sdoExpire {pm : Nat} {z : State} {s : State} {p : Nat} (hpm : Within 0x48070c pm) (hk : Keeps pm z s) : OKeeps pm z (sdoExpire s p) := by
  unfold sdoExpire
  dsimp only
  repeat' first
    | with_reducible assumption
    | with_reducible exact OKeeps.none
    | with_reducible apply OKeeps.some
    | with_reducible apply keeps_endAssembly
    | with_reducible apply keeps_setPlant
    | with_reducible apply keeps_setCause
    | with_reducible apply keeps_bump
    | with_reducible exact narrow hpm
    | (simp only [Keeps.upd]; apply Kp.put_answer (hb := bit hpm); with_reducible apply Kp.of)
    | split

theorem keeps_pdoMirror {pm : Nat} {z : State} {s : State} {src : Source} {ws : List (Nat × Nat × List Byte)} (hpm : Within 0x48004 pm) (hk : Keeps pm z s) : Keeps pm z (pdoMirror s src ws) := by
  unfold pdoMirror
  dsimp only
  repeat' first
    | with_reducible assumption
    | with_reducible apply keeps_setPair
    | with_reducible refine PKeeps.fst (keeps_mirrorFrames ?_ ?_)
    | with_reducible apply Keeps.foldl
    | with_reducible exact narrow hpm
    | split
    | with_reducible intro _ _
    | with_reducible intro _

theorem keeps_pdoNow {pm : Nat} {z : State} {s : State} {p : Nat} {ws : List (Nat × Nat × List Byte)} (hpm : Within 0x1f7fffffc pm) (hk : Keeps pm z s) : Keeps pm z (pdoNow s p ws) := by
  unfold pdoNow
  dsimp only
  repeat' first
    | with_reducible assumption
    | with_reducible apply keeps_setCause
    | with_reducible apply keeps_wr
    | with_reducible apply keeps_bump
    | with_reducible apply keeps_pdoMirror
    | with_reducible refine PKeeps.fst (keeps_dictWriteNow ?_ ?_)
    | with_reducible apply Keeps.foldl
    | with_reducible exact narrow hpm
    | split
    | with_reducible intro _ _
    | with_reducible intro _

theorem keeps_rpdoReceive {pm : Nat} {z : State} {s : State} {i : Nat} {b : List Byte} (hpm : Within 0x1f7fffffc pm) (hk : Keeps pm z s) : Keeps pm z (rpdoReceive s i b) := by
  unfold rpdoReceive
  dsimp only
  repeat' first
    | with_reducible assumption
    | with_reducible apply keeps_block
    | with_reducible apply keeps_pdoNow
    | with_reducible exact narrow hpm
    | split

/-! Settle -/

theorem keeps_coreWritten {pm : Nat} {z : State} {s : State} {n : Nat} {st : Status} (hpm : Within 0x200000 pm) (hk : Keeps pm z s) : Keeps pm z (coreWritten s n st) := by
  unfold coreWritten
  repeat' first
    | with_reducible assumption
    | with_reducible apply keeps_setNi

theorem keeps_writeAnswer {pm : Nat} {z : State} {s : State} {m : MirrorWait} {st : Status} (hpm : Within 0x1f7fffffc pm) (hk : Keeps pm z s) : Keeps pm z (writeAnswer s m st) := by
  unfold writeAnswer
  repeat' first
    | with_reducible assumption
    | with_reducible apply keeps_coreWritten
    | with_reducible apply keeps_domEnd
    | with_reducible apply keeps_opralAnswered
    | with_reducible apply keeps_sdoAnswer
    | with_reducible exact narrow hpm
    | (simp only [Keeps.upd]; apply Kp.put_answer (hb := bit hpm); with_reducible apply Kp.of)
    | split

theorem keeps_mirrorCompare {pm : Nat} {z : State} {s : State} {m : MirrorWait} {st : Status} (hpm : Within 0x48004 pm) (hk : Keeps pm z s) : Keeps pm z (mirrorCompare s m st) := by
  unfold mirrorCompare
  repeat' first
    | with_reducible assumption
    | with_reducible refine PKeeps.fst (keeps_sendOrdered ?_ ?_)
    | split

theorem keeps_applyReady {pm : Nat} {z : State} {s : State} {m : MirrorWait} (hpm : Within 0x1f7fffffc pm) (hk : Keeps pm z s) : Keeps pm z (applyReady s m) := by
  unfold applyReady
  repeat' first
    | with_reducible assumption
    | with_reducible apply keeps_writeAnswer
    | with_reducible apply keeps_dictApply
    | with_reducible apply keeps_mirrorCompare
    | with_reducible apply keeps_setPlant
    | (with_reducible refine PKeeps.of ?_ (by with_reducible assumption))
    | with_reducible exact narrow hpm
    | split

theorem keeps_readAnswer {pm : Nat} {z : State} {s : State} {m : MirrorWait} {st : Status} {b : List Byte} (hpm : Within 0x4 pm) (hk : Keeps pm z s) : Keeps pm z (readAnswer s m st b) := by
  unfold readAnswer
  repeat' first
    | with_reducible assumption
    | (simp only [Keeps.upd]; apply Kp.put_answer (hb := bit hpm); with_reducible apply Kp.of)

theorem keeps_blockedRun {pm : Nat} {z : State} {s : State} {m : MirrorWait} (hpm : Within 0x1f7fffffc pm) (hk : Keeps pm z s) : Keeps pm z (blockedRun s m) := by
  unfold blockedRun
  repeat' first
    | with_reducible assumption
    | with_reducible apply keeps_dictWriteNow
    | with_reducible apply keeps_writeAnswer
    | with_reducible apply keeps_dictRead
    | with_reducible apply keeps_readAnswer
    | with_reducible apply keeps_windowLoad
    | with_reducible apply keeps_sdoUploadNow
    | with_reducible apply keeps_pdoNow
    | (with_reducible refine PKeeps.of ?_ (by with_reducible assumption))
    | with_reducible exact narrow hpm
    | split

theorem keeps_checkRun {pm : Nat} {z : State} {s : State} {c : MirrorWait × Nat × Bool} (hpm : Within 0x1f7fffffc pm) (hk : Keeps pm z s) : Keeps pm z (checkRun s c) := by
  unfold checkRun
  repeat' first
    | with_reducible assumption
    | with_reducible apply keeps_writeAnswer
    | with_reducible apply keeps_signAgain
    | with_reducible refine PKeeps.fst (keeps_secCheck ?_ ?_)
    | with_reducible exact narrow hpm
    | split

theorem keeps_settleOne {pm : Nat} {z : State} {s : State} {st : Status} (hpm : Within 0x1f7fffffc pm) (hk : Keeps pm z s) : OKeeps pm z (settleOne s st) := by
  unfold settleOne
  repeat' first
    | with_reducible assumption
    | with_reducible exact OKeeps.none
    | with_reducible apply OKeeps.some
    | with_reducible apply keeps_applyReady
    | with_reducible apply keeps_setPair
    | with_reducible apply keeps_writeAnswer
    | with_reducible apply keeps_mirrorCompare
    | with_reducible apply keeps_setPlant
    | with_reducible apply keeps_checkRun
    | with_reducible apply keeps_setSecurity
    | with_reducible apply keeps_blockedRun
    | with_reducible apply Keeps.foldl
    | with_reducible exact narrow hpm
    | split
    | with_reducible intro _ _

theorem keeps_settleFrom {pm : Nat} {z : State} {st : Status} {k : Nat} {s : State} (hpm : Within 0x1f7fffffc pm) (hk : Keeps pm z s) : Keeps pm z (settleFrom st k s) := by
  induction k generalizing s with
  | zero =>
    unfold settleFrom
    repeat' first
      | with_reducible assumption
  | succ k ih =>
    unfold settleFrom
    repeat' first
      | with_reducible apply ih
      | with_reducible assumption
      | with_reducible apply keeps_settleOne
      | (with_reducible refine OKeeps.of ?_ (by with_reducible assumption))
      | split

theorem keeps_settle {pm : Nat} {z : State} {s : State} (hpm : Within 0x1f7fffffc pm) (hk : Keeps pm z s) : Keeps pm z (settle s) := by
  unfold settle
  repeat' first
    | with_reducible assumption
    | with_reducible apply keeps_settleFrom
    | split

/-! Ptp -/

theorem keeps_setPtp {pm : Nat} {z : State} {s : State} {x : PtpState} (hpm : Within 0x400000 pm) (hk : Keeps pm z s) : Keeps pm z (setPtp s x) := by
  unfold setPtp
  repeat' first
    | with_reducible assumption
    | with_reducible apply keeps_setPlant

theorem keeps_ptpStamp {pm : Nat} {z : State} {s : State} (hpm : Within 0x100 pm) (hk : Keeps pm z s) : PKeeps pm z (ptpStamp s) := by
  unfold ptpStamp
  repeat' first
    | with_reducible assumption
    | with_reducible refine PKeeps.fst (keeps_freeNat ?_ ?_)
    | simp only [PKeeps.iff]

theorem keeps_ptpSet {pm : Nat} {z : State} {s : State} {v : Int} {rate : Int} (hpm : Within 0x1e0000000 pm) (hk : Keeps pm z s) : Keeps pm z (ptpSet s v rate) := by
  unfold ptpSet
  repeat' first
    | with_reducible assumption
    | (simp only [Keeps.upd]; apply Kp.put_ptpBase (hb := bit hpm); apply Kp.put_ptpAt (hb := bit hpm); apply Kp.put_ptpRate (hb := bit hpm); apply Kp.put_ptpFor (hb := bit hpm); with_reducible apply Kp.of)

theorem keeps_ptpSlew {pm : Nat} {z : State} {s : State} (hpm : Within 0x1e0000100 pm) (hk : Keeps pm z s) : Keeps pm z (ptpSlew s) := by
  unfold ptpSlew
  repeat' first
    | with_reducible assumption
    | with_reducible apply keeps_ptpSet
    | with_reducible refine PKeeps.fst (keeps_freeNat ?_ ?_)
    | with_reducible exact narrow hpm

theorem keeps_ptpChoose {pm : Nat} {z : State} {s : State} (hpm : Within 0x480718 pm) (hk : Keeps pm z s) : Keeps pm z (ptpChoose s) := by
  unfold ptpChoose
  dsimp only
  repeat' first
    | with_reducible assumption
    | with_reducible apply keeps_setPtp
    | with_reducible apply keeps_wrBytes
    | with_reducible apply keeps_ptpMove
    | with_reducible exact narrow hpm
    | split

theorem keeps_ptpAnnounce {pm : Nat} {z : State} {s : State} {p : Nat} {domain : Nat} {id : Nat} {gm : Nat} {priority1 : Nat} {quality : Nat} {priority2 : Nat} {steps : Nat} (hpm : Within 0x480718 pm) (hk : Keeps pm z s) : Keeps pm z (ptpAnnounce s p domain id gm priority1 quality priority2 steps) := by
  unfold ptpAnnounce
  repeat' first
    | with_reducible assumption
    | with_reducible apply keeps_ptpChoose
    | with_reducible apply keeps_setPtp
    | with_reducible exact narrow hpm
    | split

theorem keeps_ptpOffset {pm : Nat} {z : State} {s : State} {t1 : Int} {t2 : Int} (hpm : Within 0x1e0480708 pm) (hk : Keeps pm z s) : Keeps pm z (ptpOffset s t1 t2) := by
  unfold ptpOffset
  dsimp only
  repeat' first
    | with_reducible assumption
    | with_reducible apply keeps_setPtp
    | with_reducible apply keeps_wr
    | with_reducible apply keeps_ptpSlew
    | with_reducible apply keeps_ptpSet
    | with_reducible apply keeps_ptpMove
    | with_reducible exact narrow hpm
    | split

theorem keeps_ptpSync {pm : Nat} {z : State} {s : State} {p : Nat} {domain : Nat} {id : Nat} {seq : Nat} {origin : Option Nat} (hpm : Within 0x1e0480708 pm) (hk : Keeps pm z s) : Keeps pm z (ptpSync s p domain id seq origin) := by
  unfold ptpSync
  dsimp only
  repeat' first
    | with_reducible assumption
    | with_reducible apply keeps_ptpOffset
    | with_reducible apply keeps_setPtp
    | with_reducible refine PKeeps.fst (keeps_ptpStamp ?_ ?_)
    | with_reducible exact narrow hpm
    | split

theorem keeps_ptpFollowUp {pm : Nat} {z : State} {s : State} {p : Nat} {domain : Nat} {id : Nat} {seq : Nat} {origin : Nat} (hpm : Within 0x1e0480708 pm) (hk : Keeps pm z s) : Keeps pm z (ptpFollowUp s p domain id seq origin) := by
  unfold ptpFollowUp
  repeat' first
    | with_reducible assumption
    | with_reducible apply keeps_ptpOffset
    | with_reducible apply keeps_setPtp
    | with_reducible exact narrow hpm
    | split

theorem keeps_ptpDelayReq {pm : Nat} {z : State} {s : State} (hpm : Within 0x400104 pm) (hk : Keeps pm z s) : OKeeps pm z (ptpDelayReq s) := by
  unfold ptpDelayReq
  dsimp only
  repeat' first
    | with_reducible assumption
    | with_reducible exact OKeeps.none
    | with_reducible apply OKeeps.some
    | with_reducible apply keeps_udpSend
    | with_reducible apply keeps_setPtp
    | with_reducible refine PKeeps.fst (keeps_ptpStamp ?_ ?_)
    | with_reducible exact narrow hpm
    | split

theorem keeps_ptpDelayResp {pm : Nat} {z : State} {s : State} {p : Nat} {domain : Nat} {id : Nat} {seq : Nat} {t4 : Nat} (hpm : Within 0x400008 pm) (hk : Keeps pm z s) : Keeps pm z (ptpDelayResp s p domain id seq t4) := by
  unfold ptpDelayResp
  repeat' first
    | with_reducible assumption
    | with_reducible apply keeps_wr
    | with_reducible apply keeps_setPtp
    | with_reducible exact narrow hpm
    | split

theorem keeps_ptpExpire {pm : Nat} {z : State} {s : State} (hpm : Within 0x1e0480708 pm) (hk : Keeps pm z s) : OKeeps pm z (ptpExpire s) := by
  unfold ptpExpire
  dsimp only
  repeat' first
    | with_reducible assumption
    | with_reducible exact OKeeps.none
    | with_reducible apply OKeeps.some
    | with_reducible apply keeps_ptpSet
    | with_reducible apply keeps_ptpMove
    | with_reducible apply keeps_setPtp
    | with_reducible exact narrow hpm
    | split

theorem keeps_linkChange {pm : Nat} {z : State} {s : State} {p : Nat} {up : Bool} (hpm : Within 0x480718 pm) (hk : Keeps pm z s) : OKeeps pm z (linkChange s p up) := by
  unfold linkChange
  repeat' first
    | with_reducible assumption
    | with_reducible exact OKeeps.none
    | with_reducible apply OKeeps.some
    | with_reducible apply keeps_ptpChoose
    | with_reducible apply keeps_setCause
    | with_reducible apply keeps_wr
    | with_reducible exact narrow hpm
    | split

theorem keeps_ppsSteer {pm : Nat} {z : State} {s : State} (hpm : Within 0x1e0000100 pm) (hk : Keeps pm z s) : Keeps pm z (ppsSteer s) := by
  unfold ppsSteer
  repeat' first
    | with_reducible assumption
    | with_reducible apply keeps_ptpSet
    | with_reducible refine PKeeps.fst (keeps_freeNat ?_ ?_)
    | with_reducible exact narrow hpm
    | (simp only [Keeps.upd]; apply Kp.put_ptpFor (hb := bit hpm); with_reducible apply Kp.of)
    | split

theorem keeps_ppsIn {pm : Nat} {z : State} {s : State} (hpm : Within 0x1e0000108 pm) (hk : Keeps pm z s) : OKeeps pm z (ppsIn s) := by
  unfold ppsIn
  repeat' first
    | with_reducible assumption
    | with_reducible exact OKeeps.none
    | with_reducible apply OKeeps.some
    | with_reducible apply keeps_wr
    | with_reducible apply keeps_ppsSteer
    | with_reducible exact narrow hpm
    | split

theorem keeps_ppsOut {pm : Nat} {z : State} {s : State} (hpm : Within 0x400000 pm) (hk : Keeps pm z s) : OKeeps pm z (ppsOut s) := by
  unfold ppsOut
  dsimp only
  repeat' first
    | with_reducible assumption
    | with_reducible exact OKeeps.none
    | with_reducible apply OKeeps.some
    | with_reducible apply keeps_setPlant
    | split

theorem keeps_ppsFall {pm : Nat} {z : State} {s : State} (hpm : Within 0x400000 pm) (hk : Keeps pm z s) : OKeeps pm z (ppsFall s) := by
  unfold ppsFall
  repeat' first
    | with_reducible assumption
    | with_reducible exact OKeeps.none
    | with_reducible apply OKeeps.some
    | with_reducible apply keeps_setPlant
    | split

/-! NetServe -/

theorem keeps_fieldNetTo {pm : Nat} {z : State} {s : State} {f : Nat} {a : NetWait} {write : Bool} (hpm : Within 0x2040 pm) (hk : Keeps pm z s) : PKeeps pm z (fieldNetTo s f a write) := by
  unfold fieldNetTo
  repeat' first
    | with_reducible assumption
    | with_reducible apply keeps_memWrite
    | with_reducible apply keeps_setField
    | with_reducible exact narrow hpm
    | simp only [PKeeps.iff]
    | split

theorem keeps_fieldNetAccess {pm : Nat} {z : State} {s : State} {f : Nat} {a : NetWait} {write : Bool} (hpm : Within 0x2040 pm) (hk : Keeps pm z s) : PKeeps pm z (fieldNetAccess s f a write) := by
  unfold fieldNetAccess
  repeat' first
    | with_reducible assumption
    | with_reducible apply keeps_fieldNow
    | with_reducible apply keeps_setField
    | with_reducible refine PKeeps.fst (keeps_fieldNetTo ?_ ?_)
    | with_reducible exact narrow hpm
    | simp only [PKeeps.iff]
    | split

theorem keeps_servedRead {pm : Nat} {z : State} {r : State × Except Status Nat} (hpm : Within 0x0 pm)  (hr : PKeeps pm z r) : PKeeps pm z (servedRead r) := by
  unfold servedRead
  repeat' first
    | with_reducible exact PKeeps.fst hr
    | simp only [PKeeps.iff]
    | split

theorem keeps_servedWrite {pm : Nat} {z : State} {r : State × Status} (hpm : Within 0x0 pm)  (hr : PKeeps pm z r) : PKeeps pm z (servedWrite r) := by
  unfold servedWrite
  repeat' first
    | with_reducible exact PKeeps.fst hr
    | simp only [PKeeps.iff]

theorem keeps_serveField {pm : Nat} {z : State} {s : State} {f : Nat} {id : Nat} {r : NetReq} (hpm : Within 0x2048 pm) (hk : Keeps pm z s) : QKeeps pm z (serveField s f id r) := by
  unfold serveField
  repeat' first
    | with_reducible assumption
    | with_reducible exact QKeeps.none
    | with_reducible apply QKeeps.some
    | with_reducible apply keeps_portRefused
    | with_reducible apply keeps_configPortWrite
    | with_reducible apply keeps_configPortLoad
    | with_reducible refine PKeeps.fst (keeps_fieldNetAccess ?_ ?_)
    | with_reducible refine PKeeps.fst (keeps_servedWrite ?_ ?_)
    | with_reducible refine PKeeps.fst (keeps_servedRead ?_ ?_)
    | with_reducible exact narrow hpm
    | simp only [PKeeps.iff]
    | split

theorem keeps_serveCore {pm : Nat} {z : State} {s : State} {r : NetReq} (hpm : Within 0x180748 pm) (hk : Keeps pm z s) : PKeeps pm z (serveCore s r) := by
  unfold serveCore
  repeat' first
    | with_reducible assumption
    | with_reducible apply keeps_netStore
    | simp only [PKeeps.iff]
    | split

theorem keeps_serveSecurity {pm : Nat} {z : State} {s : State} {ni : Nat} {r : NetReq} (hpm : Within 0x2000000 pm) (hk : Keeps pm z s) : PKeeps pm z (serveSecurity s ni r) := by
  unfold serveSecurity
  repeat' first
    | with_reducible assumption
    | with_reducible apply keeps_servedWrite
    | with_reducible apply keeps_mailboxWrite
    | with_reducible apply keeps_servedRead
    | with_reducible exact narrow hpm
    | simp only [PKeeps.iff]
    | split

theorem keeps_serveDictionary {pm : Nat} {z : State} {s : State} {ni : Nat} {r : NetReq} (hpm : Within 0x1f7fffffc pm) (hk : Keeps pm z s) : PKeeps pm z (serveDictionary s ni r) := by
  unfold serveDictionary
  repeat' first
    | with_reducible assumption
    | with_reducible apply keeps_servedWrite
    | with_reducible apply keeps_portStore
    | with_reducible apply keeps_servedRead
    | with_reducible apply keeps_portLoad
    | with_reducible apply keeps_windowStore
    | with_reducible apply keeps_windowLoad
    | (with_reducible refine PKeeps.of ?_ (by with_reducible assumption))
    | with_reducible exact narrow hpm
    | simp only [PKeeps.iff]
    | split

theorem keeps_serveLpddr {pm : Nat} {z : State} {s : State} {a : Nat} {r : NetReq} (hpm : Within 0x40 pm) (hk : Keeps pm z s) : PKeeps pm z (serveLpddr s a r) := by
  unfold serveLpddr
  repeat' first
    | with_reducible assumption
    | with_reducible apply keeps_memWrite
    | simp only [PKeeps.iff]
    | split

theorem keeps_bankResume {pm : Nat} {z : State} {x : State} {b : Nat} {y : State} (hpm : Within 0x294708 pm) (hk : Keeps pm z x) (hk1 : Keeps pm z y) : Keeps pm z (bankResume x b y) := by
  unfold bankResume
  repeat' first
    | with_reducible assumption
    | with_reducible apply keeps_intakeResume
    | with_reducible exact narrow hpm
    | split

theorem keeps_serve {pm : Nat} {z : State} {s : State} {ni : Nat} {k : Nat} {x : NetTag} (hpm : Within 0x1f7fffffc pm) (hk : Keeps pm z s) : QKeeps pm z (serve s ni k x) := by
  unfold serve
  dsimp only
  repeat' first
    | with_reducible assumption
    | with_reducible exact QKeeps.none
    | with_reducible apply QKeeps.some
    | with_reducible apply keeps_serveField
    | with_reducible refine PKeeps.fst (keeps_serveCore ?_ ?_)
    | with_reducible refine PKeeps.fst (keeps_serveSecurity ?_ ?_)
    | with_reducible refine PKeeps.fst (keeps_serveDictionary ?_ ?_)
    | with_reducible refine PKeeps.fst (keeps_serveLpddr ?_ ?_)
    | with_reducible exact narrow hpm
    | split

theorem keeps_responseTaken {pm : Nat} {z : State} {s : State} {ni : Nat} {r : NetReq} (hpm : Within 0x200000 pm) (hk : Keeps pm z s) : Keeps pm z (responseTaken s ni r) := by
  unfold responseTaken
  repeat' first
    | with_reducible assumption
    | with_reducible apply keeps_setNi

theorem keeps_netRespond {pm : Nat} {z : State} {s : State} {ni : Nat} {k : Nat} (hpm : Within 0x1f7fffffe pm) (hk : Keeps pm z s) : OKeeps pm z (netRespond s ni k) := by
  unfold netRespond
  repeat' first
    | with_reducible assumption
    | with_reducible exact OKeeps.none
    | with_reducible apply keeps_stallEnd
    | with_reducible apply keeps_netDeliver
    | with_reducible apply keeps_responseTaken
    | with_reducible apply keeps_dropTag
    | with_reducible apply keeps_setNi
    | with_reducible apply keeps_serve
    | with_reducible apply OKeeps.mapOf
    | with_reducible exact narrow hpm
    | split
    | with_reducible intro _ _

theorem keeps_netTimeout {pm : Nat} {z : State} {s : State} {ni : Nat} {k : Nat} (hpm : Within 0x1f7fffffe pm) (hk : Keeps pm z s) : OKeeps pm z (netTimeout s ni k) := by
  unfold netTimeout
  repeat' first
    | with_reducible assumption
    | with_reducible exact OKeeps.none
    | with_reducible apply OKeeps.some
    | with_reducible apply keeps_memWrite
    | with_reducible apply keeps_serve
    | with_reducible apply keeps_netDeliver
    | with_reducible apply keeps_setCause
    | with_reducible apply keeps_bump
    | with_reducible apply keeps_dropTag
    | with_reducible refine PKeeps.fst (keeps_freeNat ?_ ?_)
    | (with_reducible refine QKeeps.of ?_ (by with_reducible assumption))
    | with_reducible exact narrow hpm
    | simp only [PKeeps.iff]
    | split

/-! Boot -/

theorem keeps_domainsUp {pm : Nat} {z : State} {s : State} {p : Nat → Bool} (hpm : Within 0x380728 pm) (hk : Keeps pm z s) : Keeps pm z (domainsUp s p) := by
  unfold domainsUp
  repeat' first
    | with_reducible assumption
    | with_reducible apply keeps_domainUp
    | with_reducible apply Keeps.foldl
    | split
    | with_reducible intro _ _
    | with_reducible intro _

theorem keeps_bootPowerUp {pm : Nat} {z : State} {s : State} (hpm : Within 0x1380728 pm) (hk : Keeps pm z s) : Keeps pm z (bootPowerUp s) := by
  unfold bootPowerUp
  repeat' first
    | with_reducible assumption
    | with_reducible apply keeps_wr
    | with_reducible apply keeps_schedStart
    | with_reducible apply keeps_domainsUp
    | with_reducible apply keeps_setPower
    | with_reducible apply keeps_enter
    | with_reducible apply keeps_setCore
    | with_reducible exact narrow hpm

theorem keeps_portsUp {pm : Nat} {z : State} {s : State} (hpm : Within 0x40000c pm) (hk : Keeps pm z s) : Keeps pm z (portsUp s) := by
  unfold portsUp
  repeat' first
    | with_reducible assumption
    | with_reducible apply keeps_canStart
    | with_reducible apply Keeps.foldl
    | split
    | with_reducible intro _ _
    | with_reducible intro _

theorem keeps_bootSelfTest {pm : Nat} {z : State} {s : State} {ok : Bool} {badSlots : List Nat} (hpm : Within 0x10780f2c pm) (hk : Keeps pm z s) : Keeps pm z (bootSelfTest s ok badSlots) := by
  unfold bootSelfTest
  dsimp only
  repeat' first
    | with_reducible assumption
    | with_reducible apply keeps_setCause
    | with_reducible apply keeps_wr
    | with_reducible apply keeps_domainsUp
    | with_reducible apply keeps_portsUp
    | with_reducible apply keeps_bump
    | with_reducible apply keeps_setKey
    | with_reducible apply Keeps.foldl
    | with_reducible exact narrow hpm
    | (simp only [Keeps.upd]; apply Kp.put_faultL (hb := bit hpm); with_reducible apply Kp.of)
    | split
    | with_reducible intro _ _
    | with_reducible intro _
    | (simp_all; omega)

theorem keeps_applyEntry {pm : Nat} {z : State} {s : State} {e : Nat × Nat × Nat × List Byte} (hpm : Within 0x1f7fffffc pm) (hk : Keeps pm z s) : Keeps pm z (applyEntry s e) := by
  unfold applyEntry
  repeat' first
    | with_reducible assumption
    | with_reducible apply keeps_dictWrite
    | with_reducible apply keeps_bump
    | (with_reducible refine PKeeps.of ?_ (by with_reducible assumption))
    | with_reducible exact narrow hpm
    | split

theorem keeps_applyBank {pm : Nat} {z : State} {s : State} {k : Nat} (hpm : Within 0x1f7fffffc pm) (hk : Keeps pm z s) : Keeps pm z (applyBank s k) := by
  unfold applyBank
  repeat' first
    | with_reducible assumption
    | with_reducible apply keeps_applyEntry
    | with_reducible apply keeps_wr
    | with_reducible apply Keeps.foldl
    | with_reducible exact narrow hpm
    | with_reducible intro _ _

theorem keeps_bootParameters {pm : Nat} {z : State} {s : State} (hpm : Within 0x1f7fffffc pm) (hk : Keeps pm z s) : Keeps pm z (bootParameters s) := by
  unfold bootParameters
  repeat' first
    | with_reducible assumption
    | with_reducible apply keeps_wr
    | with_reducible apply keeps_applyBank
    | with_reducible apply keeps_domainsUp
    | with_reducible apply keeps_portsUp
    | with_reducible apply keeps_ptpEnable
    | with_reducible apply keeps_setSecurity
    | with_reducible refine PKeeps.fst (keeps_domainApply ?_ ?_)
    | with_reducible apply Keeps.foldl
    | with_reducible exact narrow hpm
    | split
    | with_reducible intro _ _
    | with_reducible intro _

theorem keeps_slotCopy {pm : Nat} {z : State} {s : State} {e : DirEntry} (hpm : Within 0x40 pm) (hk : Keeps pm z s) : Keeps pm z (slotCopy s e) := by
  unfold slotCopy
  repeat' first
    | with_reducible assumption
    | with_reducible apply keeps_memWrite

theorem keeps_slotCheck {pm : Nat} {z : State} {s : State} {slot : Nat} (hpm : Within 0x40 pm) (hk : Keeps pm z s) : PKeeps pm z (slotCheck s slot) := by
  unfold slotCheck
  repeat' first
    | with_reducible assumption
    | with_reducible apply keeps_slotCopy
    | simp only [PKeeps.iff]
    | split

theorem keeps_bootFail {pm : Nat} {z : State} {s : State} {f : Nat × Status} (hpm : Within 0x80708 pm) (hk : Keeps pm z s) : Keeps pm z (bootFail s f) := by
  unfold bootFail
  repeat' first
    | with_reducible assumption
    | with_reducible apply keeps_authFail
    | with_reducible apply keeps_wr
    | with_reducible exact narrow hpm

theorem keeps_bootRecovery {pm : Nat} {z : State} {s : State} (hpm : Within 0x80708 pm) (hk : Keeps pm z s) : Keeps pm z (bootRecovery s) := by
  unfold bootRecovery
  repeat' first
    | with_reducible assumption
    | with_reducible apply keeps_setCause
    | with_reducible apply keeps_wr
    | with_reducible exact narrow hpm

theorem keeps_sectionPut {pm : Nat} {z : State} {s : State} {b : List Byte} {x : FwSection} (hpm : Within 0x48 pm) (hk : Keeps pm z s) : Keeps pm z (sectionPut s b x) := by
  unfold sectionPut
  repeat' first
    | with_reducible assumption
    | with_reducible apply keeps_wr
    | with_reducible apply keeps_memWrite
    | with_reducible exact narrow hpm
    | split

theorem keeps_bootImage {pm : Nat} {z : State} {s : State} {slot : Nat} {b : List Byte} (hpm : Within 0x2000058 pm) (hk : Keeps pm z s) : Keeps pm z (bootImage s slot b) := by
  unfold bootImage
  repeat' first
    | with_reducible assumption
    | with_reducible apply keeps_sectionPut
    | with_reducible apply keeps_wrBytes
    | with_reducible apply keeps_wr
    | with_reducible apply keeps_setSecurity
    | with_reducible apply Keeps.foldl
    | with_reducible exact narrow hpm
    | with_reducible intro _ _

theorem keeps_bootFirmware {pm : Nat} {z : State} {s : State} (hpm : Within 0x2080758 pm) (hk : Keeps pm z s) : Keeps pm z (bootFirmware s) := by
  unfold bootFirmware
  dsimp only
  repeat' first
    | with_reducible assumption
    | with_reducible apply keeps_bootRecovery
    | with_reducible apply keeps_slotCheck
    | with_reducible apply keeps_bootImage
    | with_reducible apply keeps_bootFail
    | with_reducible apply keeps_wr
    | (with_reducible refine PKeeps.of ?_ (by with_reducible assumption))
    | with_reducible exact narrow hpm
    | split

theorem keeps_tuningMissed {pm : Nat} {z : State} {s : State} (hpm : Within 0x8 pm) (hk : Keeps pm z s) : Keeps pm z (tuningMissed s) := by
  unfold tuningMissed
  repeat' first
    | with_reducible assumption
    | with_reducible apply keeps_wr
    | with_reducible apply keeps_bump

theorem keeps_bootTuning {pm : Nat} {z : State} {s : State} {e : DirEntry} (hpm : Within 0x282768 pm) (hk : Keeps pm z s) : Keeps pm z (bootTuning s e) := by
  unfold bootTuning
  repeat' first
    | with_reducible assumption
    | with_reducible apply keeps_memWrite
    | with_reducible apply keeps_wr
    | with_reducible apply keeps_tuningGo
    | with_reducible apply keeps_tuningChecked
    | with_reducible apply keeps_tuningComplete
    | with_reducible apply keeps_tuningMissed
    | with_reducible refine PKeeps.fst (keeps_activateSlot ?_ ?_)
    | with_reducible apply OKeeps.getD
    | with_reducible apply Keeps.foldl
    | (with_reducible refine PKeeps.of ?_ (by with_reducible assumption))
    | with_reducible exact narrow hpm
    | simp only [PKeeps.iff]
    | split
    | with_reducible intro _ _
    | with_reducible intro _

theorem keeps_bootCore {pm : Nat} {z : State} {s : State} {n : Nat} (hpm : Within 0x180728 pm) (hk : Keeps pm z s) : Keeps pm z (bootCore s n) := by
  unfold bootCore
  dsimp only
  repeat' first
    | with_reducible assumption
    | with_reducible apply keeps_coreToReset
    | with_reducible apply keeps_enter
    | with_reducible apply keeps_setCore
    | with_reducible apply keeps_wr
    | with_reducible exact narrow hpm
    | split

theorem keeps_bootReady {pm : Nat} {z : State} {s : State} (hpm : Within 0x338e7ec pm) (hk : Keeps pm z s) : Keeps pm z (bootReady s) := by
  unfold bootReady
  repeat' first
    | with_reducible assumption
    | with_reducible apply keeps_bootTuning
    | with_reducible apply keeps_memForget
    | with_reducible apply keeps_schedSettle
    | with_reducible apply keeps_bootCore
    | with_reducible apply keeps_setCause
    | with_reducible apply keeps_wr
    | with_reducible apply keeps_setPower
    | with_reducible apply keeps_setSecurity
    | with_reducible refine PKeeps.fst (keeps_domainApply ?_ ?_)
    | with_reducible apply Keeps.foldl
    | with_reducible exact narrow hpm
    | with_reducible intro _ _
    | with_reducible intro _

theorem keeps_bootStep {pm : Nat} {z : State} {s : State} {ok : Bool} {badSlots : List Nat} (hpm : Within 0x1f7fffffc pm) (hk : Keeps pm z s) : OKeeps pm z (bootStep s ok badSlots) := by
  unfold bootStep
  repeat' first
    | with_reducible assumption
    | with_reducible exact OKeeps.none
    | with_reducible apply OKeeps.some
    | with_reducible apply keeps_bootPowerUp
    | with_reducible apply keeps_bootSelfTest
    | with_reducible apply keeps_bootParameters
    | with_reducible apply keeps_bootFirmware
    | with_reducible apply keeps_bootReady
    | with_reducible exact narrow hpm
    | split

/-! Operands -/

theorem keeps_finish {pm : Nat} {z : State} {s : State} (hpm : Within 0x1f7fffffc pm) (hk : Keeps pm z s) : XKeeps pm z (finish s) := by
  unfold finish
  repeat' first
    | with_reducible assumption
    | with_reducible apply XKeeps.next
    | with_reducible apply keeps_shutdownSettle
    | with_reducible apply keeps_settle
    | with_reducible exact narrow hpm

theorem keeps_tick {pm : Nat} {z : State} {t : Nat} {s : State} {f : State → Option State} (hpm : Within 0x0 pm) (hk : Keeps pm z (arrive t s)) (hf : ∀ x, Keeps pm z x → OKeeps pm z (f x)) : XKeeps pm z (tick t s f) := by
  unfold tick
  repeat' first
    | with_reducible assumption
    | with_reducible apply XKeeps.next
    | with_reducible apply hf
    | with_reducible apply OKeeps.getD

theorem keeps_clocked {pm : Nat} {z : State} {t : Nat} {s : State} {f : State → Option State} (hpm : Within 0x0 pm) (hk : Keeps pm z (arrive t s)) (hf : ∀ x, Keeps pm z x → OKeeps pm z (f x)) : XKeeps pm z (clocked t s f) := by
  unfold clocked
  repeat' first
    | with_reducible assumption
    | with_reducible exact OKeeps.none
    | with_reducible apply keeps_tick
    | with_reducible apply hf
    | split
    | with_reducible intro _ _

theorem keeps_arrives {pm : Nat} {z : State} {t : Nat} {s : State} {f : State → State} (hpm : Within 0x0 pm) (hk : Keeps pm z (arrive t s)) (hf : ∀ x, Keeps pm z x → Keeps pm z (f x)) : XKeeps pm z (arrives t s f) := by
  unfold arrives
  repeat' first
    | with_reducible assumption
    | with_reducible apply OKeeps.some
    | with_reducible apply keeps_clocked
    | with_reducible apply hf
    | with_reducible intro _ _

theorem keeps_settled {pm : Nat} {z : State} {t : Nat} {s : State} {f : State → Option State} (hpm : Within 0x1f7fffffc pm) (hk : Keeps pm z (arrive t s)) (hf : ∀ x, Keeps pm z x → OKeeps pm z (f x)) : XKeeps pm z (settled t s f) := by
  unfold settled
  repeat' first
    | with_reducible assumption
    | with_reducible apply keeps_finish
    | with_reducible apply hf
    | with_reducible apply OKeeps.getD
    | split

theorem keeps_datagram {pm : Nat} {z : State} {t : Nat} {s : State} {f : State → State} (hpm : Within 0x1f7fffffc pm) (hk : Keeps pm z (arrive t s)) (hf : ∀ x, Keeps pm z x → Keeps pm z (f x)) : XKeeps pm z (datagram t s f) := by
  unfold datagram
  repeat' first
    | with_reducible assumption
    | with_reducible apply keeps_finish
    | with_reducible apply hf

theorem keeps_wakeBy {pm : Nat} {z : State} {t : Nat} {src : Nat} {s : State} (hpm : Within 0x1f7fffffc pm) (hk : Keeps pm z (arrive t s)) : XKeeps pm z (wakeBy t src s) := by
  unfold wakeBy
  repeat' first
    | with_reducible assumption
    | with_reducible apply keeps_finish
    | with_reducible apply keeps_woken
    | split

theorem keeps_canFrame {pm : Nat} {z : State} {t : Nat} {s : State} {mine : State → Bool} {f : State → Option State} (hpm : Within 0x1f7fffffc pm) (hk : Keeps pm z (arrive t s)) /-HO State → Bool-/ (hf : ∀ x, Keeps pm z x → OKeeps pm z (f x)) : XKeeps pm z (canFrame t s mine f) := by
  unfold canFrame
  repeat' first
    | with_reducible assumption
    | with_reducible apply keeps_finish
    | with_reducible apply keeps_woken
    | with_reducible apply hf
    | with_reducible apply OKeeps.getD
    | split

theorem keeps_ballEdge {pm : Nat} {z : State} {t : Nat} {s : State} {input : Nat} {trig : Nat} {level : Bool} {f : State → State} (hpm : Within 0x1f7fffffc pm) (hk : Keeps pm z (arrive t s)) (hf : ∀ x, Keeps pm z x → Keeps pm z (f x)) : XKeeps pm z (ballEdge t s input trig level f) := by
  unfold ballEdge
  dsimp only
  repeat' first
    | with_reducible assumption
    | with_reducible apply XKeeps.next
    | with_reducible apply keeps_levelNoted
    | with_reducible apply keeps_finish
    | with_reducible apply keeps_woken
    | with_reducible apply hf
    | with_reducible exact narrow hpm
    | split

theorem keeps_reply {pm : Nat} {z : State} {s : State} {st : Option Status} {v : Nat} {b : List Byte} (hpm : Within 0x4 pm) (hk : Keeps pm z s) : Keeps pm z (reply s st v b) := by
  unfold reply
  repeat' first
    | with_reducible assumption
    | (simp only [Keeps.upd]; apply Kp.put_answer (hb := bit hpm); with_reducible apply Kp.of)

theorem keeps_assembled {pm : Nat} {z : State} {s : State} {idx : Nat} {sub : Nat} {b : List Byte} (hpm : Within 0x280748 pm) (hk : Keeps pm z s) : PKeeps pm z (assembled s idx sub b) := by
  unfold assembled
  repeat' first
    | with_reducible assumption
    | with_reducible apply keeps_stagingTurned
    | with_reducible apply keeps_stagingPut
    | with_reducible exact narrow hpm
    | simp only [PKeeps.iff]
    | split

theorem keeps_accessWith {pm : Nat} {z : State} {src : Source} {idx : Nat} {sub : Nat} {v : ObjVal} {nvm : Bool} {s : State} (hpm : Within 0x1f7fffffc pm) (hk : Keeps pm z s) : XKeeps pm z (accessWith src idx sub v nvm s) := by
  unfold accessWith
  dsimp only
  repeat' first
    | with_reducible assumption
    | with_reducible apply XKeeps.next
    | with_reducible apply keeps_start
    | with_reducible apply keeps_assembled
    | with_reducible apply keeps_finish
    | with_reducible apply keeps_reply
    | with_reducible refine PKeeps.fst (keeps_dictWriteWith ?_ ?_)
    | (with_reducible refine PKeeps.of ?_ (by with_reducible assumption))
    | with_reducible exact narrow hpm
    | split

theorem keeps_access {pm : Nat} {z : State} {src : Source} {idx : Nat} {sub : Nat} {v : ObjVal} {s : State} (hpm : Within 0x1f7fffffc pm) (hk : Keeps pm z s) : XKeeps pm z (access src idx sub v s) := by
  unfold access
  repeat' first
    | with_reducible assumption
    | with_reducible apply keeps_accessWith

theorem keeps_setNum {pm : Nat} {z : State} {src : Source} {idx : Nat} {sub : Nat} {n : Nat} {s : State} (hpm : Within 0x1f7fffffc pm) (hk : Keeps pm z s) : XKeeps pm z (setNum src idx sub n s) := by
  unfold setNum
  repeat' first
    | with_reducible assumption
    | with_reducible apply keeps_access
    | split

theorem keeps_setBytes {pm : Nat} {z : State} {src : Source} {idx : Nat} {sub : Nat} {b : List Byte} {s : State} (hpm : Within 0x1f7fffffc pm) (hk : Keeps pm z s) : XKeeps pm z (setBytes src idx sub b s) := by
  unfold setBytes
  repeat' first
    | with_reducible assumption
    | with_reducible apply keeps_access

theorem keeps_readObj {pm : Nat} {z : State} {src : Source} {idx : Nat} {sub : Nat} {s : State} (hpm : Within 0x1f7fffffc pm) (hk : Keeps pm z s) : XKeeps pm z (readObj src idx sub s) := by
  unfold readObj
  dsimp only
  repeat' first
    | with_reducible assumption
    | with_reducible apply XKeeps.next
    | with_reducible apply keeps_start
    | with_reducible apply keeps_finish
    | with_reducible apply keeps_block
    | with_reducible apply keeps_dictRead
    | with_reducible apply keeps_reply
    | (with_reducible refine PKeeps.of ?_ (by with_reducible assumption))
    | with_reducible exact narrow hpm
    | split

theorem keeps_port {pm : Nat} {z : State} {t : Nat} {s : State} {f : State → State × Status} (hpm : Within 0x4 pm) (hk : Keeps pm z (arrive t s)) (hf : ∀ x, Keeps pm z x → PKeeps pm z (f x)) : XKeeps pm z (port t s f) := by
  unfold port
  repeat' first
    | with_reducible assumption
    | with_reducible apply OKeeps.some
    | with_reducible apply keeps_clocked
    | with_reducible apply keeps_reply
    | with_reducible refine PKeeps.fst (hf _ ?_)
    | with_reducible exact narrow hpm
    | with_reducible intro _ _

theorem keeps_portLoadOf {pm : Nat} {z : State} {t : Nat} {s : State} {f : State → State × Except Status Nat} (hpm : Within 0x4 pm) (hk : Keeps pm z (arrive t s)) (hf : ∀ x, Keeps pm z x → PKeeps pm z (f x)) : XKeeps pm z (portLoadOf t s f) := by
  unfold portLoadOf
  repeat' first
    | with_reducible assumption
    | with_reducible apply OKeeps.some
    | with_reducible apply keeps_clocked
    | with_reducible apply keeps_reply
    | with_reducible apply hf
    | (with_reducible refine PKeeps.of ?_ (by with_reducible assumption))
    | with_reducible exact narrow hpm
    | split
    | with_reducible intro _ _

theorem keeps_coreStoreObj {pm : Nat} {z : State} {n : CoreId} {a : Nat} {v : Nat} {s : State} (hpm : Within 0x1f7fffffc pm) (hk : Keeps pm z s) : XKeeps pm z (coreStoreObj n a v s) := by
  unfold coreStoreObj
  dsimp only
  repeat' first
    | with_reducible assumption
    | with_reducible apply XKeeps.next
    | with_reducible apply keeps_start
    | with_reducible apply keeps_finish
    | with_reducible apply keeps_reply
    | with_reducible refine PKeeps.fst (keeps_windowStore ?_ ?_)
    | with_reducible exact narrow hpm
    | split

theorem keeps_coreLoadObj {pm : Nat} {z : State} {n : CoreId} {a : Nat} {s : State} (hpm : Within 0x1f7fffffc pm) (hk : Keeps pm z s) : XKeeps pm z (coreLoadObj n a s) := by
  unfold coreLoadObj
  dsimp only
  repeat' first
    | with_reducible assumption
    | with_reducible apply XKeeps.next
    | with_reducible apply keeps_start
    | with_reducible apply keeps_finish
    | with_reducible apply keeps_block
    | with_reducible apply keeps_windowLoad
    | with_reducible apply keeps_reply
    | (with_reducible refine PKeeps.of ?_ (by with_reducible assumption))
    | with_reducible exact narrow hpm
    | split

theorem keeps_opralOne {pm : Nat} {z : State} {s : State} {p : Nat} {ip : Nat} {udp : Nat} {node : Nat} {seq : Nat} {code : Nat} {idx : Nat} {sub : Nat} {ty : Nat} {value : List Byte} (hpm : Within 0x1f7fffffc pm) (hk : Keeps pm z s) : Keeps pm z (opralOne s p ip udp node seq code idx sub ty value) := by
  unfold opralOne
  repeat' first
    | with_reducible assumption
    | with_reducible apply keeps_opralReceive

/-! Resync -/

theorem keeps_alignCheck {pm : Nat} {z : State} {s : State} (hpm : Within 0x8 pm) (hk : Keeps pm z s) : Keeps pm z (alignCheck s) := by
  unfold alignCheck
  repeat' first
    | with_reducible assumption
    | with_reducible apply keeps_setResync
    | split

theorem keeps_alignTo {pm : Nat} {z : State} {s : State} {e : Nat} {pos : Nat} {high : Nat} (hpm : Within 0x50008 pm) (hk : Keeps pm z s) : Keeps pm z (alignTo s e pos high) := by
  unfold alignTo
  repeat' first
    | with_reducible assumption
    | with_reducible apply keeps_skipToHigh
    | with_reducible apply keeps_wr
    | with_reducible apply keeps_alignCheck
    | with_reducible apply keeps_setPair
    | with_reducible exact narrow hpm

theorem keeps_positionMarkApply {pm : Nat} {z : State} {s : State} {p : List Byte} (hpm : Within 0x50008 pm) (hk : Keeps pm z s) : Keeps pm z (positionMarkApply s p) := by
  unfold positionMarkApply
  dsimp only
  repeat' first
    | with_reducible assumption
    | with_reducible apply keeps_setPair
    | with_reducible apply keeps_alignTo
    | with_reducible exact narrow hpm
    | split

theorem keeps_positionMarkFrame {pm : Nat} {z : State} {s : State} {i : Nat} {seq : Nat} {role : Nat} {p : List Byte} {ok : Bool} (hpm : Within 0xd872c pm) (hk : Keeps pm z s) : Keeps pm z (positionMarkFrame s i seq role p ok) := by
  unfold positionMarkFrame
  repeat' first
    | with_reducible assumption
    | with_reducible apply keeps_pairOrdered
    | with_reducible apply keeps_positionMarkApply
    | with_reducible exact narrow hpm
    | simp only [PKeeps.iff]
    | split
    | with_reducible intro _ _

theorem keeps_idleAlign {pm : Nat} {z : State} {s : State} {e : Nat} {pos : Option Nat} (hpm : Within 0x50008 pm) (hk : Keeps pm z s) : OKeeps pm z (idleAlign s e pos) := by
  unfold idleAlign
  repeat' first
    | with_reducible assumption
    | with_reducible exact OKeeps.none
    | with_reducible apply OKeeps.some
    | with_reducible apply keeps_alignTo
    | split

theorem keeps_snapshotSend {pm : Nat} {z : State} {n : Nat} {off : Nat} {b : List Byte} {s : State} (hpm : Within 0x8004 pm) (hk : Keeps pm z s) : Keeps pm z (snapshotSend n off b s) := by
  induction n generalizing off b s with
  | zero =>
    unfold snapshotSend
    repeat' first
      | with_reducible assumption
  | succ n ih =>
    unfold snapshotSend
    repeat' first
      | with_reducible apply ih
      | with_reducible assumption
      | with_reducible apply keeps_sendPair
      | split

theorem keeps_precopyPass {pm : Nat} {z : State} {s : State} (hpm : Within 0x4800c pm) (hk : Keeps pm z s) : Keeps pm z (precopyPass s) := by
  unfold precopyPass
  repeat' first
    | with_reducible assumption
    | with_reducible apply keeps_setPair
    | with_reducible apply keeps_setResync
    | with_reducible apply keeps_snapshotSend
    | with_reducible exact narrow hpm

theorem keeps_blocksPut {pm : Nat} {z : State} {s : State} {blocks : List Nat} {w : Tab Nat} (hpm : Within 0x40 pm) (hk : Keeps pm z s) : Keeps pm z (blocksPut s blocks w) := by
  unfold blocksPut
  refine Keeps.foldl _ _ ?_ ?_
  · exact { hk with memory := fun e => tabSorted_filter _ (hk.memory e), same_mem := bit_ne (bit hpm) }
  · intro x b h
    split
    · exact keeps_memWrite (narrow hpm) h
    · exact h

theorem keeps_pagesPut {pm : Nat} {z : State} {s : State} {blocks : List Nat} {w : Tab Nat} (hpm : Within 0x2000 pm) (hk : Keeps pm z s) : Keeps pm z (pagesPut s blocks w) := by
  unfold pagesPut
  repeat' first
    | with_reducible assumption
    | with_reducible apply keeps_setField
    | with_reducible apply Keeps.foldl
    | with_reducible intro _ _

theorem keeps_precopyValue {pm : Nat} {z : State} {s : State} {key : Nat} {v : Nat} (hpm : Within 0x1f7fffffc pm) (hk : Keeps pm z s) : Keeps pm z (precopyValue s key v) := by
  unfold precopyValue
  repeat' first
    | with_reducible assumption
    | with_reducible refine PKeeps.fst (keeps_dictWrite ?_ ?_)
    | split

theorem keeps_precopyValues {pm : Nat} {z : State} {s : State} {t : Tab Nat} (hpm : Within 0x1f7fffffc pm) (hk : Keeps pm z s) : Keeps pm z (precopyValues s t) := by
  unfold precopyValues
  repeat' first
    | with_reducible assumption
    | with_reducible apply keeps_precopyValue
    | with_reducible apply Keeps.foldl
    | with_reducible intro _ _

theorem keeps_journalMirror {pm : Nat} {z : State} {s : State} {i : JournalImage} (hpm : Within 0x20018 pm) (hk : Keeps pm z s) : Keeps pm z (journalMirror s i) := by
  unfold journalMirror
  repeat' first
    | with_reducible assumption
    | with_reducible apply keeps_bankLoad
    | with_reducible apply keeps_setSerial
    | with_reducible apply keeps_wr
    | with_reducible apply keeps_journalRequest
    | with_reducible exact narrow hpm

theorem keeps_precopyTexts {pm : Nat} {z : State} {s : State} {t : Tab (List Byte)} (hpm : Within 0x10 pm) (hk : Keeps pm z s) : Keeps pm z (precopyTexts s t) := by
  unfold precopyTexts
  repeat' first
    | with_reducible assumption
    | with_reducible apply keeps_wrBytes
    | with_reducible apply Keeps.foldl
    | split
    | with_reducible intro _ _
    | with_reducible intro _

theorem keeps_precopyApply {pm : Nat} {z : State} {s : State} {p : Precopy} (hpm : Within 0x1f7fffffc pm) (hk : Keeps pm z s) : Keeps pm z (precopyApply s p) := by
  unfold precopyApply
  repeat' first
    | with_reducible assumption
    | with_reducible apply keeps_precopyTexts
    | with_reducible apply keeps_precopyValues
    | with_reducible apply keeps_setField
    | with_reducible apply keeps_journalMirror
    | with_reducible apply keeps_pagesPut
    | with_reducible apply keeps_blocksPut
    | with_reducible apply Keeps.foldl
    | with_reducible exact narrow hpm
    | split
    | with_reducible intro _ _
    | with_reducible intro _

theorem keeps_snapshotUse {pm : Nat} {z : State} {s : State} {off : Nat} {len : Nat} (hpm : Within 0x280708 pm) (hk : Keeps pm z s) : Keeps pm z (snapshotUse s off len) := by
  unfold snapshotUse
  dsimp only
  repeat' first
    | with_reducible assumption
    | with_reducible apply keeps_unitTurned
    | with_reducible apply keeps_unitUse
    | with_reducible exact narrow hpm
    | split

theorem keeps_cutCopy {pm : Nat} {z : State} {s : State} (hpm : Within 0x2c874c pm) (hk : Keeps pm z s) : Keeps pm z (cutCopy s) := by
  unfold cutCopy
  repeat' first
    | with_reducible assumption
    | with_reducible apply keeps_memWrite
    | with_reducible apply keeps_snapshotUse
    | with_reducible apply keeps_wr
    | with_reducible apply keeps_setResync
    | with_reducible apply keeps_setCause
    | with_reducible apply keeps_setPair
    | with_reducible refine PKeeps.fst (keeps_capoHoldWrite ?_ ?_)
    | with_reducible refine PKeeps.fst (keeps_sendOrdered ?_ ?_)
    | with_reducible exact narrow hpm

theorem keeps_cutTransfer {pm : Nat} {z : State} {s : State} (hpm : Within 0x2c870c pm) (hk : Keeps pm z s) : Keeps pm z (cutTransfer s) := by
  unfold cutTransfer
  repeat' first
    | with_reducible assumption
    | with_reducible apply keeps_snapshotSend
    | with_reducible apply keeps_setResync
    | with_reducible apply keeps_snapshotUse
    | with_reducible refine PKeeps.fst (keeps_sendOrdered ?_ ?_)
    | with_reducible exact narrow hpm

theorem keeps_resyncCut {pm : Nat} {z : State} {s : State} {rewritten : Nat} (hpm : Within 0x2c874c pm) (hk : Keeps pm z s) : OKeeps pm z (resyncCut s rewritten) := by
  unfold resyncCut
  repeat' first
    | with_reducible assumption
    | with_reducible exact OKeeps.none
    | with_reducible apply OKeeps.some
    | with_reducible apply keeps_precopyPass
    | with_reducible apply keeps_setPair
    | with_reducible apply keeps_setResync
    | with_reducible apply keeps_turned
    | with_reducible apply keeps_cutCopy
    | with_reducible apply keeps_cutTransfer
    | with_reducible refine PKeeps.fst (keeps_capoHoldWrite ?_ ?_)
    | with_reducible exact narrow hpm
    | split

theorem keeps_resyncHold {pm : Nat} {z : State} {s : State} (hpm : Within 0x8 pm) (hk : Keeps pm z s) : OKeeps pm z (resyncHold s) := by
  unfold resyncHold
  repeat' first
    | with_reducible assumption
    | with_reducible exact OKeeps.none
    | with_reducible apply OKeeps.some
    | with_reducible apply keeps_bump
    | with_reducible apply keeps_wr
    | with_reducible apply keeps_setResync
    | with_reducible refine PKeeps.fst (keeps_capoHoldWrite ?_ ?_)
    | split

theorem keeps_cameraReplay {pm : Nat} {z : State} {s : State} {k : Nat} {n : Nat} (hpm : Within 0x94708 pm) (hk : Keeps pm z s) : Keeps pm z (cameraReplay s k n) := by
  unfold cameraReplay
  repeat' first
    | with_reducible assumption
    | with_reducible apply keeps_setCam
    | with_reducible apply keeps_intakePump
    | with_reducible apply keeps_wr
    | with_reducible exact narrow hpm

theorem keeps_cutApply {pm : Nat} {z : State} {s : State} {p : List Byte} (hpm : Within 0x2d6708 pm) (hk : Keeps pm z s) : Keeps pm z (cutApply s p) := by
  unfold cutApply
  repeat' first
    | with_reducible assumption
    | with_reducible apply keeps_cameraReplay
    | with_reducible apply keeps_wr
    | with_reducible apply keeps_setOwed
    | with_reducible apply keeps_setCause
    | with_reducible apply keeps_setResync
    | with_reducible apply keeps_setPair
    | with_reducible refine PKeeps.fst (keeps_fieldRunWrite ?_ ?_)
    | with_reducible refine PKeeps.fst (keeps_queueFlush ?_ ?_)
    | with_reducible apply Keeps.foldl
    | with_reducible exact narrow hpm
    | split
    | with_reducible intro _ _
    | with_reducible intro _

theorem keeps_cutFrame {pm : Nat} {z : State} {s : State} {i : Nat} {seq : Nat} {role : Nat} {p : List Byte} {ok : Bool} (hpm : Within 0x2de72c pm) (hk : Keeps pm z s) : Keeps pm z (cutFrame s i seq role p ok) := by
  unfold cutFrame
  repeat' first
    | with_reducible assumption
    | with_reducible apply keeps_pairOrdered
    | with_reducible apply keeps_cutApply
    | with_reducible exact narrow hpm
    | simp only [PKeeps.iff]
    | split
    | with_reducible intro _ _

theorem keeps_passChunk {pm : Nat} {z : State} {s : State} {off : Nat} {b : List Byte} (hpm : Within 0x1f7fffffc pm) (hk : Keeps pm z s) : Keeps pm z (passChunk s off b) := by
  unfold passChunk
  dsimp only
  repeat' first
    | with_reducible assumption
    | with_reducible apply keeps_precopyApply
    | with_reducible apply keeps_setPair
    | with_reducible exact narrow hpm
    | split

theorem keeps_snapshotFrame {pm : Nat} {z : State} {s : State} {i : Nat} {role : Nat} {p : List Byte} {ok : Bool} (hpm : Within 0x1f7fffffc pm) (hk : Keeps pm z s) : Keeps pm z (snapshotFrame s i role p ok) := by
  unfold snapshotFrame
  dsimp only
  repeat' first
    | with_reducible assumption
    | with_reducible apply keeps_passChunk
    | with_reducible apply keeps_memWrite
    | with_reducible apply keeps_snapshotUse
    | with_reducible refine PKeeps.fst (keeps_pairArrive ?_ ?_)
    | with_reducible exact narrow hpm
    | split

theorem keeps_strobesPast {pm : Nat} {z : State} {s : State} {k : Nat} (hpm : Within 0x10000 pm) (hk : Keeps pm z s) : Keeps pm z (strobesPast s k) := by
  unfold strobesPast
  repeat' first
    | with_reducible assumption
    | with_reducible apply keeps_setCam

theorem keeps_genRestored {pm : Nat} {z : State} {s : State} {cut : Tab Int} {g : Nat} {line : Nat} (hpm : Within 0x10008 pm) (hk : Keeps pm z s) : Keeps pm z (genRestored s cut g line) := by
  unfold genRestored
  dsimp only
  repeat' first
    | with_reducible assumption
    | with_reducible apply keeps_setGenNext
    | with_reducible apply keeps_wr
    | with_reducible exact narrow hpm
    | split

theorem keeps_restore {pm : Nat} {z : State} {s : State} {c : CutState} (hpm : Within 0xf6748 pm) (hk : Keeps pm z s) : Keeps pm z (restore s c) := by
  have hg : Keeps pm z s → ∀ p, Keeps pm z { s with arr := { fields := c.fields, edgeOut := c.edgeOut, edgeMoved := c.edgeMoved, load := s.arr.load }, queues := p, print := printRestored s.print c s.pair.cutAt } := by
    intro h p
    refine Keeps.upd.2 ?_
    apply Kp.put_arr (hb := bit hpm)
    apply Kp.put_queues (hb := bit hpm)
    apply Kp.put_print (hb := bit hpm)
    exact Kp.of h
  have hr : ∀ y, Keeps pm z y → Keeps pm z { y with obj := (c.registers.filter (fun e => cutRegisters.any (fun r => objKey r.1 r.2 == e.1))).foldl (fun t (e : Nat × Nat) => tabSet (objDefault (e.1 / 256) (e.1 % 256)) t e.1 e.2) y.obj } := fun y h =>
    { h with registers := fun e => tabSorted_foldl_set (fun e : Nat × Nat => objDefault (e.1 / 256) (e.1 % 256)) Prod.fst Prod.snd _ (Kp.registers h e), same_obj := bit_ne (bit hpm) }
  have hs : ∀ y, Keeps pm z y → Keeps pm z (setSerial y { y.serial with entries := c.entries, buffers := [] }) := fun y h => keeps_setSerial (narrow hpm) h
  unfold restore
  refine keeps_setResync (narrow hpm) (keeps_setPair (narrow hpm) (Keeps.foldl _ _ (Keeps.foldl _ _ (hs _ (Keeps.foldl _ _ (hr _ (Keeps.foldl _ _ (Keeps.foldl _ _
    (keeps_blocksPut (narrow hpm) (hg hk _)) ?_) ?_)) ?_)) ?_) ?_))
  · exact fun x b h => keeps_genRestored (narrow hpm) h
  · exact fun x b h => keeps_strobesPast (narrow hpm) h
  · exact fun x b h => keeps_setOwed (narrow hpm) h
  · intro x b h
    split
    · exact PKeeps.fst (keeps_commitReceived (narrow hpm) h)
    · exact keeps_reserveReceived (narrow hpm) h
  · intro x b h
    split
    · exact PKeeps.fst (keeps_fieldRunWrite (narrow hpm) h)
    · exact h

theorem keeps_snapshotEndFrame {pm : Nat} {z : State} {s : State} {i : Nat} {seq : Nat} {role : Nat} {p : List Byte} {ok : Bool} (hpm : Within 0x2fe77c pm) (hk : Keeps pm z s) : Keeps pm z (snapshotEndFrame s i seq role p ok) := by
  unfold snapshotEndFrame
  repeat' first
    | with_reducible assumption
    | with_reducible apply keeps_pairOrdered
    | with_reducible apply keeps_snapshotUse
    | with_reducible apply keeps_wrBytes
    | with_reducible apply keeps_restore
    | with_reducible apply keeps_setResync
    | with_reducible apply keeps_resyncFail
    | with_reducible exact narrow hpm
    | simp only [PKeeps.iff]
    | split
    | with_reducible intro _ _

theorem keeps_catchUp {pm : Nat} {z : State} {s : State} (hpm : Within 0xc872c pm) (hk : Keeps pm z s) : OKeeps pm z (catchUp s) := by
  unfold catchUp
  repeat' first
    | with_reducible assumption
    | with_reducible exact OKeeps.none
    | with_reducible apply OKeeps.some
    | with_reducible apply keeps_setCause
    | with_reducible apply keeps_wr
    | with_reducible apply keeps_setResync
    | with_reducible apply keeps_setRole
    | with_reducible apply keeps_setPair
    | with_reducible refine PKeeps.fst (keeps_sendOrdered ?_ ?_)
    | with_reducible exact narrow hpm
    | split

theorem keeps_resyncDoneFrame {pm : Nat} {z : State} {s : State} {i : Nat} {seq : Nat} {role : Nat} {p : List Byte} {ok : Bool} (hpm : Within 0xc872c pm) (hk : Keeps pm z s) : Keeps pm z (resyncDoneFrame s i seq role p ok) := by
  unfold resyncDoneFrame
  repeat' first
    | with_reducible assumption
    | with_reducible apply keeps_pairOrdered
    | with_reducible apply keeps_setCause
    | with_reducible apply keeps_setResync
    | with_reducible apply keeps_setRole
    | with_reducible apply keeps_setPair
    | with_reducible exact narrow hpm
    | simp only [PKeeps.iff]
    | split
    | with_reducible intro _ _

theorem keeps_resyncExpire {pm : Nat} {z : State} {s : State} (hpm : Within 0x80728 pm) (hk : Keeps pm z s) : OKeeps pm z (resyncExpire s) := by
  unfold resyncExpire
  repeat' first
    | with_reducible assumption
    | with_reducible exact OKeeps.none
    | with_reducible apply OKeeps.some
    | with_reducible apply keeps_resyncFail
    | with_reducible apply keeps_wr
    | with_reducible apply keeps_sourceFail
    | with_reducible exact narrow hpm
    | split

/-! Tap -/

theorem keeps_setTap {pm : Nat} {z : State} {s : State} {x : TapState} (hpm : Within 0x4000000 pm) (hk : Keeps pm z s) : Keeps pm z (setTap s x) := by
  unfold setTap
  repeat' first
    | with_reducible assumption
    | (simp only [Keeps.upd]; apply Kp.put_tap (hb := bit hpm); with_reducible apply Kp.of)

theorem keeps_tdo {pm : Nat} {z : State} {s : State} {l : List Bool} (hpm : Within 0x4 pm) (hk : Keeps pm z s) : Keeps pm z (tdo s l) := by
  unfold tdo
  repeat' first
    | with_reducible assumption
    | with_reducible apply keeps_reply
    | split

theorem keeps_tapReset {pm : Nat} {z : State} {s : State} (hpm : Within 0x4000000 pm) (hk : Keeps pm z s) : Keeps pm z (tapReset s) := by
  unfold tapReset
  repeat' first
    | with_reducible assumption
    | with_reducible apply keeps_setTap

theorem keeps_tapBypass {pm : Nat} {z : State} {s : State} {tdi : List Bool} (hpm : Within 0x4000004 pm) (hk : Keeps pm z s) : OKeeps pm z (tapBypass s tdi) := by
  unfold tapBypass
  repeat' first
    | with_reducible assumption
    | with_reducible exact OKeeps.none
    | with_reducible apply OKeeps.some
    | with_reducible apply keeps_tdo
    | with_reducible apply keeps_setTap
    | with_reducible exact narrow hpm
    | split

theorem keeps_tapScan {pm : Nat} {z : State} {s : State} {i : TapInstr} {balls : List Bool} {scan : List Bool} (hpm : Within 0x4000004 pm) (hk : Keeps pm z s) : Keeps pm z (tapScan s i balls scan) := by
  unfold tapScan
  repeat' first
    | with_reducible assumption
    | with_reducible apply keeps_tdo
    | with_reducible apply keeps_setTap
    | with_reducible exact narrow hpm

theorem keeps_tapSample {pm : Nat} {z : State} {s : State} {balls : List Bool} {scan : List Bool} (hpm : Within 0x4000004 pm) (hk : Keeps pm z s) : OKeeps pm z (tapSample s balls scan) := by
  unfold tapSample
  repeat' first
    | with_reducible assumption
    | with_reducible exact OKeeps.none
    | with_reducible apply OKeeps.some
    | with_reducible apply keeps_tapScan
    | split

theorem keeps_tapExtest {pm : Nat} {z : State} {s : State} {balls : List Bool} {scan : List Bool} (hpm : Within 0x4000004 pm) (hk : Keeps pm z s) : OKeeps pm z (tapExtest s balls scan) := by
  unfold tapExtest
  repeat' first
    | with_reducible assumption
    | with_reducible exact OKeeps.none
    | with_reducible apply OKeeps.some
    | with_reducible apply keeps_tapScan
    | split

theorem keeps_tapIdcode {pm : Nat} {z : State} {s : State} (hpm : Within 0x4000004 pm) (hk : Keeps pm z s) : OKeeps pm z (tapIdcode s) := by
  unfold tapIdcode
  repeat' first
    | with_reducible assumption
    | with_reducible exact OKeeps.none
    | with_reducible apply OKeeps.some
    | with_reducible apply keeps_setTap
    | with_reducible apply keeps_reply
    | with_reducible exact narrow hpm
    | split

end Sys2Proof.Laws
end

