-- ==== Sys2Proof/Laws/KeepsCommands.lean ====
section
/-! SUPPORT. What every command keep of the state before (Laws/Keeps.lean): one lemma per function. -/

set_option Elab.async false

namespace Sys2Proof.Laws

open Sys2Proof.Machine

/-! CmdDict -/

theorem keeps_execObjectWrite {pm : Nat} {z : State} {src : Source} {idx : Nat} {sub : Nat} {v : ObjVal} {s : State} (hpm : Within 0x1f7fffffc pm) (hk : Keeps pm z s) : XKeeps pm z (execObjectWrite src idx sub v s) := by
  unfold execObjectWrite
  repeat' first
    | with_reducible assumption
    | with_reducible apply keeps_access

theorem keeps_execTroubleCounterClear {pm : Nat} {z : State} {src : Source} {idx : Nat} {sub : Nat} {v : Nat} {s : State} (hpm : Within 0x1f7fffffc pm) (hk : Keeps pm z s) : XKeeps pm z (execTroubleCounterClear src idx sub v s) := by
  unfold execTroubleCounterClear
  repeat' first
    | with_reducible assumption
    | with_reducible apply XKeeps.next
    | with_reducible apply keeps_setNum
    | with_reducible apply keeps_start
    | with_reducible exact narrow hpm
    | split

theorem keeps_execEventCauseClear {pm : Nat} {z : State} {src : Source} {idx : Nat} {sub : Nat} {v : Nat} {s : State} (hpm : Within 0x1f7fffffc pm) (hk : Keeps pm z s) : XKeeps pm z (execEventCauseClear src idx sub v s) := by
  unfold execEventCauseClear
  repeat' first
    | with_reducible assumption
    | with_reducible apply XKeeps.next
    | with_reducible apply keeps_setNum
    | with_reducible apply keeps_start
    | with_reducible exact narrow hpm
    | split

theorem keeps_execU64LowWordRead {pm : Nat} {z : State} {n : CoreId} {idx : Nat} {sub : Nat} {s : State} (hpm : Within 0x1f7fffffc pm) (hk : Keeps pm z s) : XKeeps pm z (execU64LowWordRead n idx sub s) := by
  unfold execU64LowWordRead
  repeat' first
    | with_reducible assumption
    | with_reducible apply keeps_coreLoadObj

theorem keeps_execU64HighWordWrite {pm : Nat} {z : State} {n : CoreId} {idx : Nat} {sub : Nat} {v : Nat} {s : State} (hpm : Within 0x1f7fffffc pm) (hk : Keeps pm z s) : XKeeps pm z (execU64HighWordWrite n idx sub v s) := by
  unfold execU64HighWordWrite
  repeat' first
    | with_reducible assumption
    | with_reducible apply keeps_coreStoreObj

theorem keeps_execU64LowWordWrite {pm : Nat} {z : State} {n : CoreId} {idx : Nat} {sub : Nat} {v : Nat} {s : State} (hpm : Within 0x1f7fffffc pm) (hk : Keeps pm z s) : XKeeps pm z (execU64LowWordWrite n idx sub v s) := by
  unfold execU64LowWordWrite
  repeat' first
    | with_reducible assumption
    | with_reducible apply keeps_coreStoreObj

theorem keeps_execDomainTransferRead {pm : Nat} {z : State} {n : CoreId} {s : State} (hpm : Within 0x1f7fffffc pm) (hk : Keeps pm z s) : XKeeps pm z (execDomainTransferRead n s) := by
  unfold execDomainTransferRead
  repeat' first
    | with_reducible assumption
    | with_reducible apply keeps_coreStoreObj

theorem keeps_execDomainTransferWrite {pm : Nat} {z : State} {n : CoreId} {s : State} (hpm : Within 0x1f7fffffc pm) (hk : Keeps pm z s) : XKeeps pm z (execDomainTransferWrite n s) := by
  unfold execDomainTransferWrite
  repeat' first
    | with_reducible assumption
    | with_reducible apply keeps_coreStoreObj

theorem keeps_execDomainTransferComplete {pm : Nat} {z : State} {t : Nat} {n : CoreId} {s : State} (hpm : Within 0x1f7fffffc pm) (hk : Keeps pm z (arrive t s)) : XKeeps pm z (execDomainTransferComplete t n s) := by
  unfold execDomainTransferComplete
  repeat' first
    | with_reducible assumption
    | with_reducible apply keeps_settled
    | with_reducible apply keeps_domFinish
    | with_reducible intro _ _

/-! CmdArray -/

theorem keeps_execCellFire {pm : Nat} {z : State} {t : Nat} {f : FieldId} {c : CellId} {s : State} (hpm : Within 0x82708 pm) (hk : Keeps pm z (arrive t s)) : XKeeps pm z (execCellFire t f c s) := by
  unfold execCellFire
  repeat' first
    | with_reducible assumption
    | with_reducible apply keeps_clocked
    | with_reducible apply keeps_cellFire
    | with_reducible exact narrow hpm
    | with_reducible intro _ _

theorem keeps_execOperationComplete {pm : Nat} {z : State} {t : Nat} {f : FieldId} {c : CellId} {k : Nat} {s : State} (hpm : Within 0x2000 pm) (hk : Keeps pm z (arrive t s)) : XKeeps pm z (execOperationComplete t f c k s) := by
  unfold execOperationComplete
  repeat' first
    | with_reducible assumption
    | with_reducible apply keeps_clocked
    | with_reducible apply keeps_operationComplete
    | with_reducible exact narrow hpm
    | with_reducible intro _ _

theorem keeps_execResultDelivery {pm : Nat} {z : State} {t : Nat} {f : FieldId} {c : CellId} {s : State} (hpm : Within 0x82708 pm) (hk : Keeps pm z (arrive t s)) : XKeeps pm z (execResultDelivery t f c s) := by
  unfold execResultDelivery
  repeat' first
    | with_reducible assumption
    | with_reducible apply keeps_clocked
    | with_reducible apply keeps_resultDeliver
    | with_reducible exact narrow hpm
    | with_reducible intro _ _

theorem keeps_execConfigRegisterWrite {pm : Nat} {z : State} {t : Nat} {f : FieldId} {c : CellId} {slot : Fin 8} {k : Fin 8} {v : Nat} {s : State} (hpm : Within 0x200c pm) (hk : Keeps pm z (arrive t s)) : XKeeps pm z (execConfigRegisterWrite t f c slot k v s) := by
  unfold execConfigRegisterWrite
  repeat' first
    | with_reducible assumption
    | with_reducible apply keeps_port
    | with_reducible apply keeps_configPortWrite
    | with_reducible exact narrow hpm
    | with_reducible intro _ _

theorem keeps_execLutEntryWrite {pm : Nat} {z : State} {t : Nat} {f : FieldId} {j : Fin 256} {v : Nat} {s : State} (hpm : Within 0x200c pm) (hk : Keeps pm z (arrive t s)) : XKeeps pm z (execLutEntryWrite t f j v s) := by
  unfold execLutEntryWrite
  repeat' first
    | with_reducible assumption
    | with_reducible apply keeps_port
    | with_reducible apply keeps_configPortWrite
    | with_reducible exact narrow hpm
    | with_reducible intro _ _

theorem keeps_execCapoStateWrite {pm : Nat} {z : State} {t : Nat} {f : FieldId} {j : Fin 8704} {v : Nat} {s : State} (hpm : Within 0x200c pm) (hk : Keeps pm z (arrive t s)) : XKeeps pm z (execCapoStateWrite t f j v s) := by
  unfold execCapoStateWrite
  repeat' first
    | with_reducible assumption
    | with_reducible apply keeps_port
    | with_reducible apply keeps_configPortWrite
    | with_reducible exact narrow hpm
    | with_reducible intro _ _

theorem keeps_execRowBypassWrite {pm : Nat} {z : State} {src : Source} {r : Fin 4} {v : Nat} {s : State} (hpm : Within 0x1f7fffffc pm) (hk : Keeps pm z s) : XKeeps pm z (execRowBypassWrite src r v s) := by
  unfold execRowBypassWrite
  repeat' first
    | with_reducible assumption
    | with_reducible apply keeps_setNum

theorem keeps_execBypassStageTransfer {pm : Nat} {z : State} {t : Nat} {f : FieldId} {u : Furrow} {west : Bool} {s : State} (hpm : Within 0x82708 pm) (hk : Keeps pm z (arrive t s)) : XKeeps pm z (execBypassStageTransfer t f u west s) := by
  unfold execBypassStageTransfer
  repeat' first
    | with_reducible assumption
    | with_reducible apply keeps_clocked
    | with_reducible apply keeps_stageTransfer
    | with_reducible exact narrow hpm
    | with_reducible intro _ _

theorem keeps_execDrillReadItem {pm : Nat} {z : State} {t : Nat} {f : FieldId} {d : DrillId} {s : State} (hpm : Within 0x82708 pm) (hk : Keeps pm z (arrive t s)) : XKeeps pm z (execDrillReadItem t f d s) := by
  unfold execDrillReadItem
  repeat' first
    | with_reducible assumption
    | with_reducible apply keeps_clocked
    | with_reducible apply keeps_drillRead
    | with_reducible exact narrow hpm
    | with_reducible intro _ _

theorem keeps_execDrillWriteAccept {pm : Nat} {z : State} {t : Nat} {f : FieldId} {d : DrillId} {s : State} (hpm : Within 0x82708 pm) (hk : Keeps pm z (arrive t s)) : XKeeps pm z (execDrillWriteAccept t f d s) := by
  unfold execDrillWriteAccept
  repeat' first
    | with_reducible assumption
    | with_reducible apply keeps_clocked
    | with_reducible apply keeps_drillAccept
    | with_reducible exact narrow hpm
    | with_reducible intro _ _

theorem keeps_execDrillWriteStore {pm : Nat} {z : State} {t : Nat} {f : FieldId} {d : DrillId} {s : State} (hpm : Within 0x2040 pm) (hk : Keeps pm z (arrive t s)) : XKeeps pm z (execDrillWriteStore t f d s) := by
  unfold execDrillWriteStore
  repeat' first
    | with_reducible assumption
    | with_reducible apply keeps_clocked
    | with_reducible apply keeps_drillStore
    | with_reducible exact narrow hpm
    | with_reducible intro _ _

theorem keeps_execFieldMemoryNetworkAccess {pm : Nat} {z : State} {t : Nat} {f : FieldId} {off : Nat} {size : Nat} {write : Bool} {v : Nat} {s : State} (hpm : Within 0x2044 pm) (hk : Keeps pm z (arrive t s)) : XKeeps pm z (execFieldMemoryNetworkAccess t f off size write v s) := by
  unfold execFieldMemoryNetworkAccess
  repeat' first
    | with_reducible assumption
    | with_reducible exact OKeeps.none
    | with_reducible apply OKeeps.some
    | with_reducible apply keeps_clocked
    | with_reducible apply keeps_fieldNetAccess
    | with_reducible apply keeps_reply
    | (with_reducible refine PKeeps.of ?_ (by with_reducible assumption))
    | with_reducible exact narrow hpm
    | split
    | with_reducible intro _ _

/-! CmdTuning -/

theorem keeps_execTuningLoadGo {pm : Nat} {z : State} {src : Source} {s : State} (hpm : Within 0x1f7fffffc pm) (hk : Keeps pm z s) : XKeeps pm z (execTuningLoadGo src s) := by
  unfold execTuningLoadGo
  repeat' first
    | with_reducible assumption
    | with_reducible apply keeps_setNum

theorem keeps_execTuningLoadCopyDone {pm : Nat} {z : State} {t : Nat} {s : State} (hpm : Within 0x2282768 pm) (hk : Keeps pm z (arrive t s)) : XKeeps pm z (execTuningLoadCopyDone t s) := by
  unfold execTuningLoadCopyDone
  repeat' first
    | with_reducible assumption
    | with_reducible apply keeps_clocked
    | with_reducible apply keeps_tuningCopyDone
    | with_reducible exact narrow hpm
    | with_reducible intro _ _

theorem keeps_execTuningLoadComplete {pm : Nat} {z : State} {t : Nat} {s : State} (hpm : Within 0x282728 pm) (hk : Keeps pm z (arrive t s)) : XKeeps pm z (execTuningLoadComplete t s) := by
  unfold execTuningLoadComplete
  repeat' first
    | with_reducible assumption
    | with_reducible apply keeps_clocked
    | with_reducible apply keeps_tuningComplete
    | with_reducible exact narrow hpm
    | with_reducible intro _ _

theorem keeps_execRetuneGo {pm : Nat} {z : State} {src : Source} {f : FieldId} {s : State} (hpm : Within 0x1f7fffffc pm) (hk : Keeps pm z s) : XKeeps pm z (execRetuneGo src f s) := by
  unfold execRetuneGo
  repeat' first
    | with_reducible assumption
    | with_reducible apply keeps_setNum

theorem keeps_execGroupRetuneGo {pm : Nat} {z : State} {src : Source} {s : State} (hpm : Within 0x1f7fffffc pm) (hk : Keeps pm z s) : XKeeps pm z (execGroupRetuneGo src s) := by
  unfold execGroupRetuneGo
  repeat' first
    | with_reducible assumption
    | with_reducible apply keeps_setNum

theorem keeps_execRetuneCueToken {pm : Nat} {z : State} {t : Nat} {f : FieldId} {s : State} (hpm : Within 0x86708 pm) (hk : Keeps pm z (arrive t s)) : XKeeps pm z (execRetuneCueToken t f s) := by
  unfold execRetuneCueToken
  repeat' first
    | with_reducible assumption
    | with_reducible apply keeps_clocked
    | with_reducible apply keeps_retuneCue
    | with_reducible exact narrow hpm
    | with_reducible intro _ _

theorem keeps_execDrainSwitch {pm : Nat} {z : State} {t : Nat} {f : FieldId} {s : State} (hpm : Within 0x82708 pm) (hk : Keeps pm z (arrive t s)) : XKeeps pm z (execDrainSwitch t f s) := by
  unfold execDrainSwitch
  repeat' first
    | with_reducible assumption
    | with_reducible apply keeps_clocked
    | with_reducible apply keeps_drainSwitch
    | with_reducible exact narrow hpm
    | with_reducible intro _ _

theorem keeps_execRetuneLimitExpiry {pm : Nat} {z : State} {t : Nat} {f : FieldId} {s : State} (hpm : Within 0x82708 pm) (hk : Keeps pm z (arrive t s)) : XKeeps pm z (execRetuneLimitExpiry t f s) := by
  unfold execRetuneLimitExpiry
  repeat' first
    | with_reducible assumption
    | with_reducible apply keeps_clocked
    | with_reducible apply keeps_retuneExpire
    | with_reducible exact narrow hpm
    | with_reducible intro _ _

theorem keeps_execRetuneCancel {pm : Nat} {z : State} {src : Source} {f : FieldId} {s : State} (hpm : Within 0x1f7fffffc pm) (hk : Keeps pm z s) : XKeeps pm z (execRetuneCancel src f s) := by
  unfold execRetuneCancel
  repeat' first
    | with_reducible assumption
    | with_reducible apply keeps_setNum

theorem keeps_execCapoHold {pm : Nat} {z : State} {src : Source} {s : State} (hpm : Within 0x1f7fffffc pm) (hk : Keeps pm z s) : XKeeps pm z (execCapoHold src s) := by
  unfold execCapoHold
  repeat' first
    | with_reducible assumption
    | with_reducible apply keeps_setNum

theorem keeps_execCapoRelease {pm : Nat} {z : State} {src : Source} {s : State} (hpm : Within 0x1f7fffffc pm) (hk : Keeps pm z s) : XKeeps pm z (execCapoRelease src s) := by
  unfold execCapoRelease
  repeat' first
    | with_reducible assumption
    | with_reducible apply keeps_setNum

theorem keeps_execCapoBoundary {pm : Nat} {z : State} {t : Nat} {s : State} (hpm : Within 0x2008 pm) (hk : Keeps pm z (arrive t s)) : XKeeps pm z (execCapoBoundary t s) := by
  unfold execCapoBoundary
  repeat' first
    | with_reducible assumption
    | with_reducible apply keeps_clocked
    | with_reducible apply keeps_capoBoundary
    | with_reducible exact narrow hpm
    | with_reducible intro _ _

theorem keeps_execFieldHalt {pm : Nat} {z : State} {src : Source} {f : FieldId} {s : State} (hpm : Within 0x1f7fffffc pm) (hk : Keeps pm z s) : XKeeps pm z (execFieldHalt src f s) := by
  unfold execFieldHalt
  repeat' first
    | with_reducible assumption
    | with_reducible apply keeps_setNum

theorem keeps_execFieldRun {pm : Nat} {z : State} {src : Source} {f : FieldId} {s : State} (hpm : Within 0x1f7fffffc pm) (hk : Keeps pm z s) : XKeeps pm z (execFieldRun src f s) := by
  unfold execFieldRun
  repeat' first
    | with_reducible assumption
    | with_reducible apply keeps_setNum

theorem keeps_execFieldClear {pm : Nat} {z : State} {src : Source} {f : FieldId} {s : State} (hpm : Within 0x1f7fffffc pm) (hk : Keeps pm z s) : XKeeps pm z (execFieldClear src f s) := by
  unfold execFieldClear
  repeat' first
    | with_reducible assumption
    | with_reducible apply keeps_setNum

theorem keeps_execActivateSlot {pm : Nat} {z : State} {src : Source} {f : FieldId} {slot : Nat} {s : State} (hpm : Within 0x1f7fffffc pm) (hk : Keeps pm z s) : XKeeps pm z (execActivateSlot src f slot s) := by
  unfold execActivateSlot
  repeat' first
    | with_reducible assumption
    | with_reducible apply keeps_setNum

/-! CmdQueue -/

theorem keeps_execQueueItemWrite {pm : Nat} {z : State} {t : Nat} {q : QueueId} {n : CoreId} {v : Nat} {s : State} (hpm : Within 0x8470c pm) (hk : Keeps pm z (arrive t s)) : XKeeps pm z (execQueueItemWrite t q n v s) := by
  unfold execQueueItemWrite
  repeat' first
    | with_reducible assumption
    | with_reducible apply keeps_port
    | with_reducible apply keeps_portStore
    | with_reducible exact narrow hpm
    | with_reducible intro _ _

theorem keeps_execQueueItemEndWrite {pm : Nat} {z : State} {t : Nat} {q : QueueId} {n : CoreId} {v : Nat} {s : State} (hpm : Within 0x8470c pm) (hk : Keeps pm z (arrive t s)) : XKeeps pm z (execQueueItemEndWrite t q n v s) := by
  unfold execQueueItemEndWrite
  repeat' first
    | with_reducible assumption
    | with_reducible apply keeps_port
    | with_reducible apply keeps_portStore
    | with_reducible exact narrow hpm
    | with_reducible intro _ _

theorem keeps_execQueuePop {pm : Nat} {z : State} {t : Nat} {q : QueueId} {n : CoreId} {s : State} (hpm : Within 0x400c pm) (hk : Keeps pm z (arrive t s)) : XKeeps pm z (execQueuePop t q n s) := by
  unfold execQueuePop
  repeat' first
    | with_reducible assumption
    | with_reducible apply keeps_portLoadOf
    | with_reducible apply keeps_portLoad
    | with_reducible exact narrow hpm
    | with_reducible intro _ _

theorem keeps_execQueuePeek {pm : Nat} {z : State} {t : Nat} {q : QueueId} {n : CoreId} {s : State} (hpm : Within 0x400c pm) (hk : Keeps pm z (arrive t s)) : XKeeps pm z (execQueuePeek t q n s) := by
  unfold execQueuePeek
  repeat' first
    | with_reducible assumption
    | with_reducible apply keeps_portLoadOf
    | with_reducible apply keeps_portLoad
    | with_reducible exact narrow hpm
    | with_reducible intro _ _

theorem keeps_execEdgePortInputToken {pm : Nat} {z : State} {t : Nat} {q : QueueId} {s : State} (hpm : Within 0x96708 pm) (hk : Keeps pm z (arrive t s)) : XKeeps pm z (execEdgePortInputToken t q s) := by
  unfold execEdgePortInputToken
  repeat' first
    | with_reducible assumption
    | with_reducible apply keeps_clocked
    | with_reducible apply keeps_intakeResume
    | with_reducible apply keeps_edgeInput
    | with_reducible apply OKeeps.map
    | with_reducible exact narrow hpm
    | with_reducible intro _ _

theorem keeps_execEdgePortOutputToken {pm : Nat} {z : State} {t : Nat} {p : Fin 32} {s : State} (hpm : Within 0x86708 pm) (hk : Keeps pm z (arrive t s)) : XKeeps pm z (execEdgePortOutputToken t p s) := by
  unfold execEdgePortOutputToken
  repeat' first
    | with_reducible assumption
    | with_reducible apply keeps_clocked
    | with_reducible apply keeps_edgeOutput
    | with_reducible exact narrow hpm
    | with_reducible intro _ _

theorem keeps_execDmaInputRecord {pm : Nat} {z : State} {t : Nat} {q : QueueId} {s : State} (hpm : Within 0x284708 pm) (hk : Keeps pm z (arrive t s)) : XKeeps pm z (execDmaInputRecord t q s) := by
  unfold execDmaInputRecord
  repeat' first
    | with_reducible assumption
    | with_reducible apply keeps_clocked
    | with_reducible apply keeps_dmaInput
    | with_reducible exact narrow hpm
    | with_reducible intro _ _

theorem keeps_execDmaOutputRecord {pm : Nat} {z : State} {t : Nat} {q : QueueId} {s : State} (hpm : Within 0x284748 pm) (hk : Keeps pm z (arrive t s)) : XKeeps pm z (execDmaOutputRecord t q s) := by
  unfold execDmaOutputRecord
  repeat' first
    | with_reducible assumption
    | with_reducible apply keeps_clocked
    | with_reducible apply keeps_dmaOutput
    | with_reducible exact narrow hpm
    | with_reducible intro _ _

theorem keeps_execDmaHostIndexWrite {pm : Nat} {z : State} {src : Source} {q : QueueId} {v : Nat} {s : State} (hpm : Within 0x1f7fffffc pm) (hk : Keeps pm z s) : XKeeps pm z (execDmaHostIndexWrite src q v s) := by
  unfold execDmaHostIndexWrite
  repeat' first
    | with_reducible assumption
    | with_reducible apply keeps_setNum

theorem keeps_execSpillWrite {pm : Nat} {z : State} {t : Nat} {q : QueueId} {s : State} (hpm : Within 0x204008 pm) (hk : Keeps pm z (arrive t s)) : XKeeps pm z (execSpillWrite t q s) := by
  unfold execSpillWrite
  repeat' first
    | with_reducible assumption
    | with_reducible apply keeps_clocked
    | with_reducible apply keeps_spillWrite
    | with_reducible exact narrow hpm
    | with_reducible intro _ _

theorem keeps_execSpillRead {pm : Nat} {z : State} {t : Nat} {q : QueueId} {s : State} (hpm : Within 0x204008 pm) (hk : Keeps pm z (arrive t s)) : XKeeps pm z (execSpillRead t q s) := by
  unfold execSpillRead
  repeat' first
    | with_reducible assumption
    | with_reducible apply keeps_clocked
    | with_reducible apply keeps_spillRead
    | with_reducible exact narrow hpm
    | with_reducible intro _ _

theorem keeps_execQueueFlush {pm : Nat} {z : State} {src : Source} {q : QueueId} {s : State} (hpm : Within 0x1f7fffffc pm) (hk : Keeps pm z s) : XKeeps pm z (execQueueFlush src q s) := by
  unfold execQueueFlush
  repeat' first
    | with_reducible assumption
    | with_reducible apply keeps_setNum

theorem keeps_execQueueFlushApply {pm : Nat} {z : State} {src : Source} {q : QueueId} {s : State} (hpm : Within 0x1f7fffffc pm) (hk : Keeps pm z s) : XKeeps pm z (execQueueFlushApply src q s) := by
  unfold execQueueFlushApply
  repeat' first
    | with_reducible assumption
    | with_reducible apply keeps_setNum

theorem keeps_execFlushComplete {pm : Nat} {z : State} {t : Nat} {q : QueueId} {s : State} (hpm : Within 0x94708 pm) (hk : Keeps pm z (arrive t s)) : XKeeps pm z (execFlushComplete t q s) := by
  unfold execFlushComplete
  repeat' first
    | with_reducible assumption
    | with_reducible apply keeps_clocked
    | with_reducible apply keeps_intakeResume
    | with_reducible apply keeps_flushComplete
    | with_reducible apply OKeeps.map
    | with_reducible exact narrow hpm
    | with_reducible intro _ _

theorem keeps_execSpillRegionWrite {pm : Nat} {z : State} {src : Source} {q : QueueId} {length : Bool} {v : Nat} {s : State} (hpm : Within 0x1f7fffffc pm) (hk : Keeps pm z s) : XKeeps pm z (execSpillRegionWrite src q length v s) := by
  unfold execSpillRegionWrite
  repeat' first
    | with_reducible assumption
    | with_reducible apply keeps_setNum

theorem keeps_execStagedRegionApply {pm : Nat} {z : State} {t : Nat} {q : QueueId} {s : State} (hpm : Within 0x94708 pm) (hk : Keeps pm z (arrive t s)) : XKeeps pm z (execStagedRegionApply t q s) := by
  unfold execStagedRegionApply
  repeat' first
    | with_reducible assumption
    | with_reducible apply keeps_clocked
    | with_reducible apply keeps_intakeResume
    | with_reducible apply keeps_stagedApply
    | with_reducible apply OKeeps.map
    | with_reducible exact narrow hpm
    | with_reducible intro _ _

theorem keeps_execQueueEnable {pm : Nat} {z : State} {src : Source} {q : QueueId} {s : State} (hpm : Within 0x1f7fffffc pm) (hk : Keeps pm z s) : XKeeps pm z (execQueueEnable src q s) := by
  unfold execQueueEnable
  repeat' first
    | with_reducible assumption
    | with_reducible apply keeps_setNum

theorem keeps_execQueueDisable {pm : Nat} {z : State} {src : Source} {q : QueueId} {s : State} (hpm : Within 0x1f7fffffc pm) (hk : Keeps pm z s) : XKeeps pm z (execQueueDisable src q s) := by
  unfold execQueueDisable
  repeat' first
    | with_reducible assumption
    | with_reducible apply keeps_setNum

theorem keeps_execQueueStartComplete {pm : Nat} {z : State} {t : Nat} {q : QueueId} {s : State} (hpm : Within 0x286728 pm) (hk : Keeps pm z (arrive t s)) : XKeeps pm z (execQueueStartComplete t q s) := by
  unfold execQueueStartComplete
  repeat' first
    | with_reducible assumption
    | with_reducible apply keeps_clocked
    | with_reducible apply keeps_queueStarted
    | with_reducible exact narrow hpm
    | with_reducible intro _ _

theorem keeps_execQueueStopComplete {pm : Nat} {z : State} {t : Nat} {q : QueueId} {s : State} (hpm : Within 0x84728 pm) (hk : Keeps pm z (arrive t s)) : XKeeps pm z (execQueueStopComplete t q s) := by
  unfold execQueueStopComplete
  repeat' first
    | with_reducible assumption
    | with_reducible apply keeps_clocked
    | with_reducible apply keeps_queueStopped
    | with_reducible exact narrow hpm
    | with_reducible intro _ _

/-! CmdPrint -/

theorem keeps_execQuadratureCount {pm : Nat} {z : State} {t : Nat} {e : EncId} {a : Bool} {b : Bool} {s : State} (hpm : Within 0x90708 pm) (hk : Keeps pm z (arrive t s)) : XKeeps pm z (execQuadratureCount t e a b s) := by
  unfold execQuadratureCount
  repeat' first
    | with_reducible assumption
    | with_reducible apply keeps_arrives
    | with_reducible apply keeps_quadrature
    | with_reducible exact narrow hpm
    | with_reducible intro _ _

theorem keeps_execEncoderIndex {pm : Nat} {z : State} {t : Nat} {e : EncId} {a2 : Bool} {s : State} (hpm : Within 0x1f7fffffc pm) (hk : Keeps pm z (arrive t s)) : XKeeps pm z (execEncoderIndex t e a2 s) := by
  unfold execEncoderIndex
  repeat' first
    | with_reducible assumption
    | with_reducible apply keeps_ballEdge
    | with_reducible apply keeps_zSampled
    | with_reducible exact narrow hpm
    | with_reducible intro _ _

theorem keeps_execEncoderEnable {pm : Nat} {z : State} {src : Source} {e : EncId} {s : State} (hpm : Within 0x1f7fffffc pm) (hk : Keeps pm z s) : XKeeps pm z (execEncoderEnable src e s) := by
  unfold execEncoderEnable
  repeat' first
    | with_reducible assumption
    | with_reducible apply keeps_setNum

theorem keeps_execEncoderDisable {pm : Nat} {z : State} {src : Source} {e : EncId} {s : State} (hpm : Within 0x1f7fffffc pm) (hk : Keeps pm z s) : XKeeps pm z (execEncoderDisable src e s) := by
  unfold execEncoderDisable
  repeat' first
    | with_reducible assumption
    | with_reducible apply keeps_setNum

theorem keeps_execEncoderStartComplete {pm : Nat} {z : State} {t : Nat} {e : EncId} {s : State} (hpm : Within 0x90728 pm) (hk : Keeps pm z (arrive t s)) : XKeeps pm z (execEncoderStartComplete t e s) := by
  unfold execEncoderStartComplete
  repeat' first
    | with_reducible assumption
    | with_reducible apply keeps_clocked
    | with_reducible apply keeps_encStarted
    | with_reducible exact narrow hpm
    | with_reducible intro _ _

theorem keeps_execEncoderStopComplete {pm : Nat} {z : State} {t : Nat} {e : EncId} {s : State} (hpm : Within 0x90728 pm) (hk : Keeps pm z (arrive t s)) : XKeeps pm z (execEncoderStopComplete t e s) := by
  unfold execEncoderStopComplete
  repeat' first
    | with_reducible assumption
    | with_reducible apply keeps_clocked
    | with_reducible apply keeps_encStopped
    | with_reducible exact narrow hpm
    | with_reducible intro _ _

theorem keeps_execPositionPreset {pm : Nat} {z : State} {src : Source} {e : EncId} {v : Nat} {s : State} (hpm : Within 0x1f7fffffc pm) (hk : Keeps pm z s) : XKeeps pm z (execPositionPreset src e v s) := by
  unfold execPositionPreset
  repeat' first
    | with_reducible assumption
    | with_reducible apply keeps_setNum

theorem keeps_execHandoffToAon {pm : Nat} {z : State} {t : Nat} {e : EncId} {s : State} (hpm : Within 0x90708 pm) (hk : Keeps pm z (arrive t s)) : XKeeps pm z (execHandoffToAon t e s) := by
  unfold execHandoffToAon
  repeat' first
    | with_reducible assumption
    | with_reducible apply keeps_tick
    | with_reducible apply keeps_handoffToAon
    | with_reducible exact narrow hpm
    | with_reducible intro _ _

theorem keeps_execAonCount {pm : Nat} {z : State} {t : Nat} {e : EncId} {a : Bool} {b : Bool} {s : State} (hpm : Within 0x90708 pm) (hk : Keeps pm z (arrive t s)) : XKeeps pm z (execAonCount t e a b s) := by
  unfold execAonCount
  repeat' first
    | with_reducible assumption
    | with_reducible apply keeps_tick
    | with_reducible apply keeps_aonQuadrature
    | with_reducible exact narrow hpm
    | with_reducible intro _ _

theorem keeps_execHandoffFromAon {pm : Nat} {z : State} {t : Nat} {e : EncId} {s : State} (hpm : Within 0x90708 pm) (hk : Keeps pm z (arrive t s)) : XKeeps pm z (execHandoffFromAon t e s) := by
  unfold execHandoffFromAon
  repeat' first
    | with_reducible assumption
    | with_reducible apply keeps_tick
    | with_reducible apply keeps_handoffFromAon
    | with_reducible exact narrow hpm
    | with_reducible intro _ _

theorem keeps_execLineGenEnable {pm : Nat} {z : State} {src : Source} {g : GenId} {s : State} (hpm : Within 0x1f7fffffc pm) (hk : Keeps pm z s) : XKeeps pm z (execLineGenEnable src g s) := by
  unfold execLineGenEnable
  repeat' first
    | with_reducible assumption
    | with_reducible apply keeps_setNum

theorem keeps_execLineGenDisable {pm : Nat} {z : State} {src : Source} {g : GenId} {s : State} (hpm : Within 0x1f7fffffc pm) (hk : Keeps pm z s) : XKeeps pm z (execLineGenDisable src g s) := by
  unfold execLineGenDisable
  repeat' first
    | with_reducible assumption
    | with_reducible apply keeps_setNum

theorem keeps_execTriggerEdge {pm : Nat} {z : State} {t : Nat} {k : TrigId} {rising : Bool} {s : State} (hpm : Within 0x1f7fffffc pm) (hk : Keeps pm z (arrive t s)) : XKeeps pm z (execTriggerEdge t k rising s) := by
  unfold execTriggerEdge
  repeat' first
    | with_reducible assumption
    | with_reducible apply keeps_ballEdge
    | with_reducible apply keeps_trigSampled
    | with_reducible exact narrow hpm
    | with_reducible intro _ _

theorem keeps_execTriggerEnable {pm : Nat} {z : State} {src : Source} {k : TrigId} {s : State} (hpm : Within 0x1f7fffffc pm) (hk : Keeps pm z s) : XKeeps pm z (execTriggerEnable src k s) := by
  unfold execTriggerEnable
  repeat' first
    | with_reducible assumption
    | with_reducible apply keeps_setNum

theorem keeps_execTriggerDisable {pm : Nat} {z : State} {src : Source} {k : TrigId} {s : State} (hpm : Within 0x1f7fffffc pm) (hk : Keeps pm z s) : XKeeps pm z (execTriggerDisable src k s) := by
  unfold execTriggerDisable
  repeat' first
    | with_reducible assumption
    | with_reducible apply keeps_setNum

theorem keeps_execProductRetire {pm : Nat} {z : State} {t : Nat} {id : Nat} {s : State} (hpm : Within 0xf872c pm) (hk : Keeps pm z (arrive t s)) : XKeeps pm z (execProductRetire t id s) := by
  unfold execProductRetire
  repeat' first
    | with_reducible assumption
    | with_reducible apply keeps_clocked
    | with_reducible apply keeps_productRetire
    | with_reducible exact narrow hpm
    | with_reducible intro _ _

theorem keeps_execMapEdit {pm : Nat} {z : State} {src : Source} {b : BarId} {v : Nat} {s : State} (hpm : Within 0x1f7fffffc pm) (hk : Keeps pm z s) : XKeeps pm z (execMapEdit src b v s) := by
  unfold execMapEdit
  repeat' first
    | with_reducible assumption
    | with_reducible apply keeps_setNum

theorem keeps_execMapImageWrite {pm : Nat} {z : State} {src : Source} {b : BarId} {bytes : List Byte} {s : State} (hpm : Within 0x1f7fffffc pm) (hk : Keeps pm z s) : XKeeps pm z (execMapImageWrite src b bytes s) := by
  unfold execMapImageWrite
  repeat' first
    | with_reducible assumption
    | with_reducible apply keeps_setBytes

theorem keeps_execActiveCopySwitch {pm : Nat} {z : State} {t : Nat} {b : BarId} {s : State} (hpm : Within 0xd874c pm) (hk : Keeps pm z (arrive t s)) : XKeeps pm z (execActiveCopySwitch t b s) := by
  unfold execActiveCopySwitch
  repeat' first
    | with_reducible assumption
    | with_reducible apply keeps_clocked
    | with_reducible apply keeps_mapSwitch
    | with_reducible exact narrow hpm
    | with_reducible intro _ _

theorem keeps_execFormatterWord {pm : Nat} {z : State} {t : Nat} {b : BarId} {s : State} (hpm : Within 0x94708 pm) (hk : Keeps pm z (arrive t s)) : XKeeps pm z (execFormatterWord t b s) := by
  unfold execFormatterWord
  repeat' first
    | with_reducible assumption
    | with_reducible apply keeps_clocked
    | with_reducible apply keeps_formatterWord
    | with_reducible exact narrow hpm
    | with_reducible intro _ _

theorem keeps_execFireFrameLaunch {pm : Nat} {z : State} {t : Nat} {b : BarId} {s : State} (hpm : Within 0xd872c pm) (hk : Keeps pm z (arrive t s)) : XKeeps pm z (execFireFrameLaunch t b s) := by
  unfold execFireFrameLaunch
  repeat' first
    | with_reducible assumption
    | with_reducible apply keeps_clocked
    | with_reducible apply keeps_fireLaunch
    | with_reducible exact narrow hpm
    | with_reducible intro _ _

theorem keeps_execBarEnable {pm : Nat} {z : State} {src : Source} {b : BarId} {s : State} (hpm : Within 0x1f7fffffc pm) (hk : Keeps pm z s) : XKeeps pm z (execBarEnable src b s) := by
  unfold execBarEnable
  repeat' first
    | with_reducible assumption
    | with_reducible apply keeps_setNum

theorem keeps_execBarDisable {pm : Nat} {z : State} {src : Source} {b : BarId} {s : State} (hpm : Within 0x1f7fffffc pm) (hk : Keeps pm z s) : XKeeps pm z (execBarDisable src b s) := by
  unfold execBarDisable
  repeat' first
    | with_reducible assumption
    | with_reducible apply keeps_setNum

theorem keeps_execBarStartComplete {pm : Nat} {z : State} {t : Nat} {b : BarId} {s : State} (hpm : Within 0x90728 pm) (hk : Keeps pm z (arrive t s)) : XKeeps pm z (execBarStartComplete t b s) := by
  unfold execBarStartComplete
  repeat' first
    | with_reducible assumption
    | with_reducible apply keeps_clocked
    | with_reducible apply keeps_barStarted
    | with_reducible exact narrow hpm
    | with_reducible intro _ _

theorem keeps_execBarStopComplete {pm : Nat} {z : State} {t : Nat} {b : BarId} {s : State} (hpm : Within 0x90728 pm) (hk : Keeps pm z (arrive t s)) : XKeeps pm z (execBarStopComplete t b s) := by
  unfold execBarStopComplete
  repeat' first
    | with_reducible assumption
    | with_reducible apply keeps_clocked
    | with_reducible apply keeps_barStopped
    | with_reducible exact narrow hpm
    | with_reducible intro _ _

theorem keeps_execMgmtRequest {pm : Nat} {z : State} {src : Source} {unit : Fin 30} {bytes : List Byte} {s : State} (hpm : Within 0x1f7fffffc pm) (hk : Keeps pm z s) : XKeeps pm z (execMgmtRequest src unit bytes s) := by
  unfold execMgmtRequest
  repeat' first
    | with_reducible assumption
    | with_reducible apply keeps_setBytes

theorem keeps_execMgmtReply {pm : Nat} {z : State} {t : Nat} {unit : Fin 30} {hdr : Nat} {p : List Byte} {crcOk : Bool} {s : State} (hpm : Within 0x102fc77c pm) (hk : Keeps pm z (arrive t s)) : XKeeps pm z (execMgmtReply t unit hdr p crcOk s) := by
  unfold execMgmtReply
  repeat' first
    | with_reducible assumption
    | with_reducible apply keeps_arrives
    | with_reducible apply keeps_headFrame
    | with_reducible apply keeps_bridgeFrame
    | with_reducible exact narrow hpm
    | split
    | with_reducible intro _ _

theorem keeps_execMgmtTimeout {pm : Nat} {z : State} {t : Nat} {unit : Fin 30} {s : State} (hpm : Within 0x8 pm) (hk : Keeps pm z (arrive t s)) : XKeeps pm z (execMgmtTimeout t unit s) := by
  unfold execMgmtTimeout
  repeat' first
    | with_reducible assumption
    | with_reducible apply keeps_clocked
    | with_reducible apply keeps_mgmtExpire
    | with_reducible exact narrow hpm
    | split
    | with_reducible intro _ _

theorem keeps_execHeadStatus {pm : Nat} {z : State} {t : Nat} {b : BarId} {hdr : Nat} {p : List Byte} {crcOk : Bool} {s : State} (hpm : Within 0x100f877c pm) (hk : Keeps pm z (arrive t s)) : XKeeps pm z (execHeadStatus t b hdr p crcOk s) := by
  unfold execHeadStatus
  repeat' first
    | with_reducible assumption
    | with_reducible apply keeps_arrives
    | with_reducible apply keeps_headFrame
    | with_reducible exact narrow hpm
    | with_reducible intro _ _

theorem keeps_execNozzleReport {pm : Nat} {z : State} {t : Nat} {b : BarId} {hdr : Nat} {p : List Byte} {crcOk : Bool} {s : State} (hpm : Within 0x100f877c pm) (hk : Keeps pm z (arrive t s)) : XKeeps pm z (execNozzleReport t b hdr p crcOk s) := by
  unfold execNozzleReport
  repeat' first
    | with_reducible assumption
    | with_reducible apply keeps_arrives
    | with_reducible apply keeps_headFrame
    | with_reducible exact narrow hpm
    | with_reducible intro _ _

theorem keeps_execHeadSilent {pm : Nat} {z : State} {t : Nat} {b : BarId} {s : State} (hpm : Within 0x90708 pm) (hk : Keeps pm z (arrive t s)) : XKeeps pm z (execHeadSilent t b s) := by
  unfold execHeadSilent
  repeat' first
    | with_reducible assumption
    | with_reducible apply keeps_clocked
    | with_reducible apply keeps_headSilence
    | with_reducible exact narrow hpm
    | with_reducible intro _ _

/-! CmdVerify -/

theorem keeps_execRejectDecision {pm : Nat} {z : State} {t : Nat} {j : GateId} {s : State} (hpm : Within 0xd872c pm) (hk : Keeps pm z (arrive t s)) : XKeeps pm z (execRejectDecision t j s) := by
  unfold execRejectDecision
  repeat' first
    | with_reducible assumption
    | with_reducible apply keeps_clocked
    | with_reducible apply keeps_gateDecide
    | with_reducible exact narrow hpm
    | with_reducible intro _ _

theorem keeps_execRejectPulseEnd {pm : Nat} {z : State} {t : Nat} {j : GateId} {s : State} (hpm : Within 0x90708 pm) (hk : Keeps pm z (arrive t s)) : XKeeps pm z (execRejectPulseEnd t j s) := by
  unfold execRejectPulseEnd
  repeat' first
    | with_reducible assumption
    | with_reducible apply keeps_clocked
    | with_reducible apply keeps_gatePulseEnd
    | with_reducible exact narrow hpm
    | with_reducible intro _ _

theorem keeps_execGateEnable {pm : Nat} {z : State} {src : Source} {j : GateId} {s : State} (hpm : Within 0x1f7fffffc pm) (hk : Keeps pm z s) : XKeeps pm z (execGateEnable src j s) := by
  unfold execGateEnable
  repeat' first
    | with_reducible assumption
    | with_reducible apply keeps_setNum

theorem keeps_execGateDisable {pm : Nat} {z : State} {src : Source} {j : GateId} {s : State} (hpm : Within 0x1f7fffffc pm) (hk : Keeps pm z s) : XKeeps pm z (execGateDisable src j s) := by
  unfold execGateDisable
  repeat' first
    | with_reducible assumption
    | with_reducible apply keeps_setNum

theorem keeps_execPolarityWrite {pm : Nat} {z : State} {src : Source} {j : GateId} {v : Nat} {s : State} (hpm : Within 0x1f7fffffc pm) (hk : Keeps pm z s) : XKeeps pm z (execPolarityWrite src j v s) := by
  unfold execPolarityWrite
  repeat' first
    | with_reducible assumption
    | with_reducible apply keeps_setNum

theorem keeps_execForceReject {pm : Nat} {z : State} {src : Source} {id : Nat} {s : State} (hpm : Within 0x1f7fffffc pm) (hk : Keeps pm z s) : XKeeps pm z (execForceReject src id s) := by
  unfold execForceReject
  repeat' first
    | with_reducible assumption
    | with_reducible apply keeps_setNum

theorem keeps_execImageLine {pm : Nat} {z : State} {t : Nat} {k : CamId} {odd : Bool} {hdr : Nat} {p : List Byte} {crcOk : Bool} {s : State} (hpm : Within 0x294758 pm) (hk : Keeps pm z (arrive t s)) : XKeeps pm z (execImageLine t k odd hdr p crcOk s) := by
  unfold execImageLine
  repeat' first
    | with_reducible assumption
    | with_reducible apply keeps_arrives
    | with_reducible apply keeps_bridgeFrame
    | with_reducible exact narrow hpm
    | with_reducible intro _ _

theorem keeps_execLineLostTimeout {pm : Nat} {z : State} {t : Nat} {k : CamId} {s : State} (hpm : Within 0x94708 pm) (hk : Keeps pm z (arrive t s)) : XKeeps pm z (execLineLostTimeout t k s) := by
  unfold execLineLostTimeout
  repeat' first
    | with_reducible assumption
    | with_reducible apply keeps_clocked
    | with_reducible apply keeps_lineLost
    | with_reducible exact narrow hpm
    | with_reducible intro _ _

theorem keeps_execBridgeStatus {pm : Nat} {z : State} {t : Nat} {k : CamId} {hdr : Nat} {p : List Byte} {crcOk : Bool} {s : State} (hpm : Within 0x294758 pm) (hk : Keeps pm z (arrive t s)) : XKeeps pm z (execBridgeStatus t k hdr p crcOk s) := by
  unfold execBridgeStatus
  repeat' first
    | with_reducible assumption
    | with_reducible apply keeps_arrives
    | with_reducible apply keeps_bridgeFrame
    | with_reducible exact narrow hpm
    | with_reducible intro _ _

theorem keeps_execBridgeSilent {pm : Nat} {z : State} {t : Nat} {k : CamId} {s : State} (hpm : Within 0x90708 pm) (hk : Keeps pm z (arrive t s)) : XKeeps pm z (execBridgeSilent t k s) := by
  unfold execBridgeSilent
  repeat' first
    | with_reducible assumption
    | with_reducible apply keeps_clocked
    | with_reducible apply keeps_bridgeSilence
    | with_reducible exact narrow hpm
    | with_reducible intro _ _

theorem keeps_execCameraEnable {pm : Nat} {z : State} {src : Source} {k : CamId} {s : State} (hpm : Within 0x1f7fffffc pm) (hk : Keeps pm z s) : XKeeps pm z (execCameraEnable src k s) := by
  unfold execCameraEnable
  repeat' first
    | with_reducible assumption
    | with_reducible apply keeps_setNum

theorem keeps_execCameraDisable {pm : Nat} {z : State} {src : Source} {k : CamId} {s : State} (hpm : Within 0x1f7fffffc pm) (hk : Keeps pm z s) : XKeeps pm z (execCameraDisable src k s) := by
  unfold execCameraDisable
  repeat' first
    | with_reducible assumption
    | with_reducible apply keeps_setNum

theorem keeps_execCameraStartComplete {pm : Nat} {z : State} {t : Nat} {k : CamId} {s : State} (hpm : Within 0xd872c pm) (hk : Keeps pm z (arrive t s)) : XKeeps pm z (execCameraStartComplete t k s) := by
  unfold execCameraStartComplete
  repeat' first
    | with_reducible assumption
    | with_reducible apply keeps_clocked
    | with_reducible apply keeps_camStarted
    | with_reducible exact narrow hpm
    | with_reducible intro _ _

theorem keeps_execCameraStopComplete {pm : Nat} {z : State} {t : Nat} {k : CamId} {s : State} (hpm : Within 0x90728 pm) (hk : Keeps pm z (arrive t s)) : XKeeps pm z (execCameraStopComplete t k s) := by
  unfold execCameraStopComplete
  repeat' first
    | with_reducible assumption
    | with_reducible apply keeps_clocked
    | with_reducible apply keeps_camStopped
    | with_reducible exact narrow hpm
    | with_reducible intro _ _

theorem keeps_execVerdictPost {pm : Nat} {z : State} {src : Source} {v : Nat} {s : State} (hpm : Within 0x1f7fffffc pm) (hk : Keeps pm z s) : XKeeps pm z (execVerdictPost src v s) := by
  unfold execVerdictPost
  repeat' first
    | with_reducible assumption
    | with_reducible apply keeps_setNum

theorem keeps_execHealthPost {pm : Nat} {z : State} {src : Source} {v : Nat} {s : State} (hpm : Within 0x1f7fffffc pm) (hk : Keeps pm z s) : XKeeps pm z (execHealthPost src v s) := by
  unfold execHealthPost
  repeat' first
    | with_reducible assumption
    | with_reducible apply keeps_setNum

theorem keeps_execArchiveRecord {pm : Nat} {z : State} {t : Nat} {s : State} (hpm : Within 0x290748 pm) (hk : Keeps pm z (arrive t s)) : XKeeps pm z (execArchiveRecord t s) := by
  unfold execArchiveRecord
  repeat' first
    | with_reducible assumption
    | with_reducible apply keeps_clocked
    | with_reducible apply keeps_archiveRecord
    | with_reducible exact narrow hpm
    | with_reducible intro _ _

/-! CmdSerial -/

theorem keeps_execSerialValueComputed {pm : Nat} {z : State} {t : Nat} {a : AllotId} {s : State} (hpm : Within 0x1f7fffffc pm) (hk : Keeps pm z (arrive t s)) : XKeeps pm z (execSerialValueComputed t a s) := by
  unfold execSerialValueComputed
  repeat' first
    | with_reducible assumption
    | with_reducible apply keeps_settled
    | with_reducible apply keeps_valueComputed
    | with_reducible exact narrow hpm
    | with_reducible intro _ _

theorem keeps_execAllotmentGrant {pm : Nat} {z : State} {src : Source} {bytes : List Byte} {s : State} (hpm : Within 0x1f7fffffc pm) (hk : Keeps pm z s) : XKeeps pm z (execAllotmentGrant src bytes s) := by
  unfold execAllotmentGrant
  repeat' first
    | with_reducible assumption
    | with_reducible apply keeps_setBytes

theorem keeps_execResetGrant {pm : Nat} {z : State} {src : Source} {bytes : List Byte} {s : State} (hpm : Within 0x1f7fffffc pm) (hk : Keeps pm z s) : XKeeps pm z (execResetGrant src bytes s) := by
  unfold execResetGrant
  repeat' first
    | with_reducible assumption
    | with_reducible apply keeps_setBytes

theorem keeps_execJournalWriteComplete {pm : Nat} {z : State} {t : Nat} {ok : Bool} {s : State} (hpm : Within 0x1f7fffffc pm) (hk : Keeps pm z (arrive t s)) : XKeeps pm z (execJournalWriteComplete t ok s) := by
  unfold execJournalWriteComplete
  repeat' first
    | with_reducible assumption
    | with_reducible apply keeps_settled
    | with_reducible apply keeps_journalEnd
    | with_reducible exact narrow hpm
    | with_reducible intro _ _

theorem keeps_execSerialTextRead {pm : Nat} {z : State} {src : Source} {s : State} (hpm : Within 0x1f7fffffc pm) (hk : Keeps pm z s) : XKeeps pm z (execSerialTextRead src s) := by
  unfold execSerialTextRead
  repeat' first
    | with_reducible assumption
    | with_reducible apply keeps_readObj

theorem keeps_execAllotmentRetire {pm : Nat} {z : State} {src : Source} {a : AllotId} {s : State} (hpm : Within 0x1f7fffffc pm) (hk : Keeps pm z s) : XKeeps pm z (execAllotmentRetire src a s) := by
  unfold execAllotmentRetire
  repeat' first
    | with_reducible assumption
    | with_reducible apply keeps_setNum

theorem keeps_execSerialRecovery {pm : Nat} {z : State} {t : Nat} {s : State} (hpm : Within 0x1f7fffffc pm) (hk : Keeps pm z (arrive t s)) : XKeeps pm z (execSerialRecovery t s) := by
  unfold execSerialRecovery
  repeat' first
    | with_reducible assumption
    | with_reducible apply keeps_settled
    | with_reducible apply keeps_serialRecover
    | with_reducible exact narrow hpm
    | with_reducible intro _ _

theorem keeps_execLedgerRecordWrite {pm : Nat} {z : State} {t : Nat} {s : State} (hpm : Within 0x1f7fffffc pm) (hk : Keeps pm z (arrive t s)) : XKeeps pm z (execLedgerRecordWrite t s) := by
  unfold execLedgerRecordWrite
  repeat' first
    | with_reducible assumption
    | with_reducible apply keeps_settled
    | with_reducible apply keeps_ledgerWrite
    | with_reducible exact narrow hpm
    | with_reducible intro _ _

theorem keeps_execCheckpointStart {pm : Nat} {z : State} {t : Nat} {s : State} (hpm : Within 0x1f7fffffc pm) (hk : Keeps pm z (arrive t s)) : XKeeps pm z (execCheckpointStart t s) := by
  unfold execCheckpointStart
  repeat' first
    | with_reducible assumption
    | with_reducible apply keeps_settled
    | with_reducible apply keeps_checkpointStart
    | with_reducible exact narrow hpm
    | with_reducible intro _ _

theorem keeps_execCheckpointPublish {pm : Nat} {z : State} {t : Nat} {s : State} (hpm : Within 0x1f7fffffc pm) (hk : Keeps pm z (arrive t s)) : XKeeps pm z (execCheckpointPublish t s) := by
  unfold execCheckpointPublish
  repeat' first
    | with_reducible assumption
    | with_reducible apply keeps_settled
    | with_reducible apply keeps_checkpointPublish
    | with_reducible exact narrow hpm
    | with_reducible intro _ _

theorem keeps_execLedgerRingWrite {pm : Nat} {z : State} {src : Source} {checkpoint : Bool} {size : Bool} {v : Nat} {s : State} (hpm : Within 0x1f7fffffc pm) (hk : Keeps pm z s) : XKeeps pm z (execLedgerRingWrite src checkpoint size v s) := by
  unfold execLedgerRingWrite
  repeat' first
    | with_reducible assumption
    | with_reducible apply keeps_setNum

/-! CmdPair -/

theorem keeps_execPairEnable {pm : Nat} {z : State} {src : Source} {s : State} (hpm : Within 0x1f7fffffc pm) (hk : Keeps pm z s) : XKeeps pm z (execPairEnable src s) := by
  unfold execPairEnable
  repeat' first
    | with_reducible assumption
    | with_reducible apply keeps_setNum

theorem keeps_execPairDisable {pm : Nat} {z : State} {src : Source} {s : State} (hpm : Within 0x1f7fffffc pm) (hk : Keeps pm z s) : XKeeps pm z (execPairDisable src s) := by
  unfold execPairDisable
  repeat' first
    | with_reducible assumption
    | with_reducible apply keeps_setNum

theorem keeps_execHello {pm : Nat} {z : State} {t : Nat} {i : PairLane} {role : Nat} {p : List Byte} {ok : Bool} {s : State} (hpm : Within 0x1f7fffffc pm) (hk : Keeps pm z (arrive t s)) : XKeeps pm z (execHello t i role p ok s) := by
  unfold execHello
  repeat' first
    | with_reducible assumption
    | with_reducible apply OKeeps.some
    | with_reducible apply keeps_settled
    | with_reducible apply keeps_helloReceived
    | with_reducible exact narrow hpm
    | with_reducible intro _ _

theorem keeps_execHelloSend {pm : Nat} {z : State} {t : Nat} {s : State} (hpm : Within 0x1f7fffffc pm) (hk : Keeps pm z (arrive t s)) : XKeeps pm z (execHelloSend t s) := by
  unfold execHelloSend
  repeat' first
    | with_reducible assumption
    | with_reducible apply keeps_settled
    | with_reducible apply keeps_helloSend
    | with_reducible exact narrow hpm
    | with_reducible intro _ _

theorem keeps_execHeartbeat {pm : Nat} {z : State} {t : Nat} {i : PairLane} {role : Nat} {p : List Byte} {ok : Bool} {s : State} (hpm : Within 0x1f7fffffc pm) (hk : Keeps pm z (arrive t s)) : XKeeps pm z (execHeartbeat t i role p ok s) := by
  unfold execHeartbeat
  repeat' first
    | with_reducible assumption
    | with_reducible apply OKeeps.some
    | with_reducible apply keeps_settled
    | with_reducible apply keeps_heartbeatReceived
    | with_reducible exact narrow hpm
    | with_reducible intro _ _

theorem keeps_execHeartbeatSend {pm : Nat} {z : State} {t : Nat} {i : PairLane} {s : State} (hpm : Within 0x1f7fffffc pm) (hk : Keeps pm z (arrive t s)) : XKeeps pm z (execHeartbeatSend t i s) := by
  unfold execHeartbeatSend
  repeat' first
    | with_reducible assumption
    | with_reducible apply keeps_settled
    | with_reducible apply keeps_heartbeatSend
    | with_reducible exact narrow hpm
    | with_reducible intro _ _

theorem keeps_execArbitrationTimeout {pm : Nat} {z : State} {t : Nat} {s : State} (hpm : Within 0x1f7fffffc pm) (hk : Keeps pm z (arrive t s)) : XKeeps pm z (execArbitrationTimeout t s) := by
  unfold execArbitrationTimeout
  repeat' first
    | with_reducible assumption
    | with_reducible apply keeps_settled
    | with_reducible apply keeps_arbitrationExpire
    | with_reducible exact narrow hpm
    | with_reducible intro _ _

theorem keeps_execFirmwareKick {pm : Nat} {z : State} {src : Source} {s : State} (hpm : Within 0x1f7fffffc pm) (hk : Keeps pm z s) : XKeeps pm z (execFirmwareKick src s) := by
  unfold execFirmwareKick
  repeat' first
    | with_reducible assumption
    | with_reducible apply keeps_setNum

theorem keeps_execWatchdogExpiry {pm : Nat} {z : State} {t : Nat} {agentStopped : Bool} {s : State} (hpm : Within 0x1f7fffffc pm) (hk : Keeps pm z (arrive t s)) : XKeeps pm z (execWatchdogExpiry t agentStopped s) := by
  unfold execWatchdogExpiry
  repeat' first
    | with_reducible assumption
    | with_reducible apply keeps_settled
    | with_reducible apply keeps_watchdogExpire
    | with_reducible exact narrow hpm
    | with_reducible intro _ _

theorem keeps_execSidebandLowTimeout {pm : Nat} {z : State} {t : Nat} {alive : Bool} {role : Bool} {s : State} (hpm : Within 0x1f7fffffe pm) (hk : Keeps pm z (arrive t s)) : XKeeps pm z (execSidebandLowTimeout t alive role s) := by
  unfold execSidebandLowTimeout
  repeat' first
    | with_reducible assumption
    | with_reducible apply OKeeps.some
    | with_reducible apply keeps_settled
    | with_reducible apply keeps_sidebands
    | with_reducible exact narrow hpm
    | with_reducible intro _ _

theorem keeps_execLinkLost {pm : Nat} {z : State} {t : Nat} {s : State} (hpm : Within 0x1f7fffffc pm) (hk : Keeps pm z (arrive t s)) : XKeeps pm z (execLinkLost t s) := by
  unfold execLinkLost
  repeat' first
    | with_reducible assumption
    | with_reducible apply keeps_settled
    | with_reducible apply keeps_linkLose
    | with_reducible exact narrow hpm
    | with_reducible intro _ _

theorem keeps_execLinkLost200us {pm : Nat} {z : State} {t : Nat} {s : State} (hpm : Within 0x1f7fffffc pm) (hk : Keeps pm z (arrive t s)) : XKeeps pm z (execLinkLost200us t s) := by
  unfold execLinkLost200us
  repeat' first
    | with_reducible assumption
    | with_reducible apply keeps_settled
    | with_reducible apply keeps_linkLost200
    | with_reducible exact narrow hpm
    | with_reducible intro _ _

theorem keeps_execOrderedAnswerTimeout {pm : Nat} {z : State} {t : Nat} {s : State} (hpm : Within 0x1f7fffffc pm) (hk : Keeps pm z (arrive t s)) : XKeeps pm z (execOrderedAnswerTimeout t s) := by
  unfold execOrderedAnswerTimeout
  repeat' first
    | with_reducible assumption
    | with_reducible apply keeps_settled
    | with_reducible apply keeps_answerExpire
    | with_reducible exact narrow hpm
    | with_reducible intro _ _

theorem keeps_execMirrorWrite {pm : Nat} {z : State} {t : Nat} {i : PairLane} {seq : Nat} {role : Nat} {p : List Byte} {ok : Bool} {s : State} (hpm : Within 0x1f7fffffc pm) (hk : Keeps pm z (arrive t s)) : XKeeps pm z (execMirrorWrite t i seq role p ok s) := by
  unfold execMirrorWrite
  repeat' first
    | with_reducible assumption
    | with_reducible apply OKeeps.some
    | with_reducible apply keeps_settled
    | with_reducible apply keeps_mirrorFrame
    | with_reducible intro _ _

theorem keeps_execAck {pm : Nat} {z : State} {t : Nat} {i : PairLane} {seq : Nat} {role : Nat} {p : List Byte} {ok : Bool} {s : State} (hpm : Within 0x1f7fffffc pm) (hk : Keeps pm z (arrive t s)) : XKeeps pm z (execAck t i seq role p ok s) := by
  unfold execAck
  repeat' first
    | with_reducible assumption
    | with_reducible apply OKeeps.some
    | with_reducible apply keeps_settled
    | with_reducible apply keeps_ackReceived
    | with_reducible exact narrow hpm
    | with_reducible intro _ _

theorem keeps_execNak {pm : Nat} {z : State} {t : Nat} {i : PairLane} {seq : Nat} {role : Nat} {p : List Byte} {ok : Bool} {s : State} (hpm : Within 0x1f7fffffc pm) (hk : Keeps pm z (arrive t s)) : XKeeps pm z (execNak t i seq role p ok s) := by
  unfold execNak
  repeat' first
    | with_reducible assumption
    | with_reducible apply OKeeps.some
    | with_reducible apply keeps_settled
    | with_reducible apply keeps_nakReceived
    | with_reducible exact narrow hpm
    | with_reducible intro _ _

theorem keeps_execCommit {pm : Nat} {z : State} {t : Nat} {i : PairLane} {seq : Nat} {role : Nat} {p : List Byte} {ok : Bool} {s : State} (hpm : Within 0x1f7fffffc pm) (hk : Keeps pm z (arrive t s)) : XKeeps pm z (execCommit t i seq role p ok s) := by
  unfold execCommit
  repeat' first
    | with_reducible assumption
    | with_reducible apply OKeeps.some
    | with_reducible apply keeps_settled
    | with_reducible apply keeps_commitFrame
    | with_reducible exact narrow hpm
    | with_reducible intro _ _

theorem keeps_execReserve {pm : Nat} {z : State} {t : Nat} {i : PairLane} {seq : Nat} {role : Nat} {p : List Byte} {ok : Bool} {s : State} (hpm : Within 0x1f7fffffc pm) (hk : Keeps pm z (arrive t s)) : XKeeps pm z (execReserve t i seq role p ok s) := by
  unfold execReserve
  repeat' first
    | with_reducible assumption
    | with_reducible apply OKeeps.some
    | with_reducible apply keeps_settled
    | with_reducible apply keeps_reserveFrame
    | with_reducible exact narrow hpm
    | with_reducible intro _ _

theorem keeps_execMapSwitch {pm : Nat} {z : State} {t : Nat} {i : PairLane} {seq : Nat} {role : Nat} {p : List Byte} {ok : Bool} {s : State} (hpm : Within 0x1f7fffffc pm) (hk : Keeps pm z (arrive t s)) : XKeeps pm z (execMapSwitch t i seq role p ok s) := by
  unfold execMapSwitch
  repeat' first
    | with_reducible assumption
    | with_reducible apply OKeeps.some
    | with_reducible apply keeps_settled
    | with_reducible apply keeps_mapSwitchFrame
    | with_reducible exact narrow hpm
    | with_reducible intro _ _

theorem keeps_execCheckpointState {pm : Nat} {z : State} {t : Nat} {i : PairLane} {seq : Nat} {role : Nat} {p : List Byte} {ok : Bool} {s : State} (hpm : Within 0x1f7fffffc pm) (hk : Keeps pm z (arrive t s)) : XKeeps pm z (execCheckpointState t i seq role p ok s) := by
  unfold execCheckpointState
  repeat' first
    | with_reducible assumption
    | with_reducible apply OKeeps.some
    | with_reducible apply keeps_settled
    | with_reducible apply keeps_checkpointStateFrame
    | with_reducible exact narrow hpm
    | with_reducible intro _ _

theorem keeps_execDigest {pm : Nat} {z : State} {t : Nat} {i : PairLane} {seq : Nat} {role : Nat} {p : List Byte} {ok : Bool} {s : State} (hpm : Within 0x1f7fffffc pm) (hk : Keeps pm z (arrive t s)) : XKeeps pm z (execDigest t i seq role p ok s) := by
  unfold execDigest
  repeat' first
    | with_reducible assumption
    | with_reducible apply OKeeps.some
    | with_reducible apply keeps_settled
    | with_reducible apply keeps_digestFrame
    | with_reducible exact narrow hpm
    | with_reducible intro _ _

theorem keeps_execOrphan {pm : Nat} {z : State} {t : Nat} {i : PairLane} {seq : Nat} {role : Nat} {p : List Byte} {ok : Bool} {s : State} (hpm : Within 0x1f7fffffc pm) (hk : Keeps pm z (arrive t s)) : XKeeps pm z (execOrphan t i seq role p ok s) := by
  unfold execOrphan
  repeat' first
    | with_reducible assumption
    | with_reducible apply OKeeps.some
    | with_reducible apply keeps_settled
    | with_reducible apply keeps_orphanFrame
    | with_reducible exact narrow hpm
    | with_reducible intro _ _

theorem keeps_execPositionMark {pm : Nat} {z : State} {t : Nat} {i : PairLane} {seq : Nat} {role : Nat} {p : List Byte} {ok : Bool} {s : State} (hpm : Within 0x1f7fffffc pm) (hk : Keeps pm z (arrive t s)) : XKeeps pm z (execPositionMark t i seq role p ok s) := by
  unfold execPositionMark
  repeat' first
    | with_reducible assumption
    | with_reducible apply OKeeps.some
    | with_reducible apply keeps_settled
    | with_reducible apply keeps_positionMarkFrame
    | with_reducible exact narrow hpm
    | with_reducible intro _ _

theorem keeps_execEncoderIdleAlign {pm : Nat} {z : State} {t : Nat} {e : EncId} {pos : Option Nat} {s : State} (hpm : Within 0x1f7fffffc pm) (hk : Keeps pm z (arrive t s)) : XKeeps pm z (execEncoderIdleAlign t e pos s) := by
  unfold execEncoderIdleAlign
  repeat' first
    | with_reducible assumption
    | with_reducible apply keeps_settled
    | with_reducible apply keeps_idleAlign
    | with_reducible exact narrow hpm
    | with_reducible intro _ _

theorem keeps_execResyncRequest {pm : Nat} {z : State} {src : Source} {s : State} (hpm : Within 0x1f7fffffc pm) (hk : Keeps pm z s) : XKeeps pm z (execResyncRequest src s) := by
  unfold execResyncRequest
  repeat' first
    | with_reducible assumption
    | with_reducible apply keeps_setNum

theorem keeps_execResyncCut {pm : Nat} {z : State} {t : Nat} {rewritten : Nat} {s : State} (hpm : Within 0x1f7fffffc pm) (hk : Keeps pm z (arrive t s)) : XKeeps pm z (execResyncCut t rewritten s) := by
  unfold execResyncCut
  repeat' first
    | with_reducible assumption
    | with_reducible apply keeps_settled
    | with_reducible apply keeps_resyncCut
    | with_reducible exact narrow hpm
    | with_reducible intro _ _

theorem keeps_execResyncHoldLimit {pm : Nat} {z : State} {t : Nat} {s : State} (hpm : Within 0x1f7fffffc pm) (hk : Keeps pm z (arrive t s)) : XKeeps pm z (execResyncHoldLimit t s) := by
  unfold execResyncHoldLimit
  repeat' first
    | with_reducible assumption
    | with_reducible apply keeps_settled
    | with_reducible apply keeps_resyncHold
    | with_reducible exact narrow hpm
    | with_reducible intro _ _

theorem keeps_execCut {pm : Nat} {z : State} {t : Nat} {i : PairLane} {seq : Nat} {role : Nat} {p : List Byte} {ok : Bool} {s : State} (hpm : Within 0x1f7fffffc pm) (hk : Keeps pm z (arrive t s)) : XKeeps pm z (execCut t i seq role p ok s) := by
  unfold execCut
  repeat' first
    | with_reducible assumption
    | with_reducible apply OKeeps.some
    | with_reducible apply keeps_settled
    | with_reducible apply keeps_cutFrame
    | with_reducible exact narrow hpm
    | with_reducible intro _ _

theorem keeps_execSnapshot {pm : Nat} {z : State} {t : Nat} {i : PairLane} {role : Nat} {p : List Byte} {ok : Bool} {s : State} (hpm : Within 0x1f7fffffc pm) (hk : Keeps pm z (arrive t s)) : XKeeps pm z (execSnapshot t i role p ok s) := by
  unfold execSnapshot
  repeat' first
    | with_reducible assumption
    | with_reducible apply OKeeps.some
    | with_reducible apply keeps_settled
    | with_reducible apply keeps_snapshotFrame
    | with_reducible intro _ _

theorem keeps_execSnapshotEnd {pm : Nat} {z : State} {t : Nat} {i : PairLane} {seq : Nat} {role : Nat} {p : List Byte} {ok : Bool} {s : State} (hpm : Within 0x1f7fffffc pm) (hk : Keeps pm z (arrive t s)) : XKeeps pm z (execSnapshotEnd t i seq role p ok s) := by
  unfold execSnapshotEnd
  repeat' first
    | with_reducible assumption
    | with_reducible apply OKeeps.some
    | with_reducible apply keeps_settled
    | with_reducible apply keeps_snapshotEndFrame
    | with_reducible exact narrow hpm
    | with_reducible intro _ _

theorem keeps_execCatchUpComplete {pm : Nat} {z : State} {t : Nat} {s : State} (hpm : Within 0x1f7fffffc pm) (hk : Keeps pm z (arrive t s)) : XKeeps pm z (execCatchUpComplete t s) := by
  unfold execCatchUpComplete
  repeat' first
    | with_reducible assumption
    | with_reducible apply keeps_settled
    | with_reducible apply keeps_catchUp
    | with_reducible exact narrow hpm
    | with_reducible intro _ _

theorem keeps_execResyncDone {pm : Nat} {z : State} {t : Nat} {i : PairLane} {seq : Nat} {role : Nat} {p : List Byte} {ok : Bool} {s : State} (hpm : Within 0x1f7fffffc pm) (hk : Keeps pm z (arrive t s)) : XKeeps pm z (execResyncDone t i seq role p ok s) := by
  unfold execResyncDone
  repeat' first
    | with_reducible assumption
    | with_reducible apply OKeeps.some
    | with_reducible apply keeps_settled
    | with_reducible apply keeps_resyncDoneFrame
    | with_reducible exact narrow hpm
    | with_reducible intro _ _

theorem keeps_execResyncTimeout {pm : Nat} {z : State} {t : Nat} {s : State} (hpm : Within 0x1f7fffffc pm) (hk : Keeps pm z (arrive t s)) : XKeeps pm z (execResyncTimeout t s) := by
  unfold execResyncTimeout
  repeat' first
    | with_reducible assumption
    | with_reducible apply keeps_settled
    | with_reducible apply keeps_resyncExpire
    | with_reducible exact narrow hpm
    | with_reducible intro _ _

theorem keeps_execPairLaneHeartbeatTimeout {pm : Nat} {z : State} {t : Nat} {i : PairLane} {s : State} (hpm : Within 0x1f7fffffc pm) (hk : Keeps pm z (arrive t s)) : XKeeps pm z (execPairLaneHeartbeatTimeout t i s) := by
  unfold execPairLaneHeartbeatTimeout
  repeat' first
    | with_reducible assumption
    | with_reducible apply keeps_settled
    | with_reducible apply keeps_laneBeatExpire
    | with_reducible exact narrow hpm
    | with_reducible intro _ _

/-! CmdCore -/

theorem keeps_execBaseInstruction {pm : Nat} {z : State} {t : Nat} {n : CoreId} {s : State} (hpm : Within 0x38076a pm) (hk : Keeps pm z (arrive t s)) : XKeeps pm z (execBaseInstruction t n s) := by
  unfold execBaseInstruction
  repeat' first
    | with_reducible assumption
    | with_reducible apply keeps_clocked
    | with_reducible apply keeps_coreIssue
    | with_reducible apply keeps_baseExec
    | with_reducible exact narrow hpm
    | with_reducible intro _ _

theorem keeps_execCallw {pm : Nat} {z : State} {t : Nat} {n : CoreId} {s : State} (hpm : Within 0x18072a pm) (hk : Keeps pm z (arrive t s)) : XKeeps pm z (execCallw t n s) := by
  unfold execCallw
  repeat' first
    | with_reducible assumption
    | with_reducible apply keeps_clocked
    | with_reducible apply keeps_coreIssue
    | with_reducible apply keeps_callwExec
    | with_reducible exact narrow hpm
    | with_reducible intro _ _

theorem keeps_execCallwr {pm : Nat} {z : State} {t : Nat} {n : CoreId} {s : State} (hpm : Within 0x18072a pm) (hk : Keeps pm z (arrive t s)) : XKeeps pm z (execCallwr t n s) := by
  unfold execCallwr
  repeat' first
    | with_reducible assumption
    | with_reducible apply keeps_clocked
    | with_reducible apply keeps_coreIssue
    | with_reducible apply keeps_callwrExec
    | with_reducible exact narrow hpm
    | with_reducible intro _ _

theorem keeps_execRetw {pm : Nat} {z : State} {t : Nat} {n : CoreId} {s : State} (hpm : Within 0x18072a pm) (hk : Keeps pm z (arrive t s)) : XKeeps pm z (execRetw t n s) := by
  unfold execRetw
  repeat' first
    | with_reducible assumption
    | with_reducible apply keeps_clocked
    | with_reducible apply keeps_coreIssue
    | with_reducible apply keeps_retwExec
    | with_reducible exact narrow hpm
    | with_reducible intro _ _

theorem keeps_execSmm {pm : Nat} {z : State} {t : Nat} {n : CoreId} {regs : Nat} {s : State} (hpm : Within 0x38076a pm) (hk : Keeps pm z (arrive t s)) : XKeeps pm z (execSmm t n regs s) := by
  unfold execSmm
  repeat' first
    | with_reducible assumption
    | with_reducible apply keeps_clocked
    | with_reducible apply keeps_coreIssue
    | with_reducible apply keeps_multiExec
    | with_reducible exact narrow hpm
    | with_reducible intro _ _

theorem keeps_execSmmO {pm : Nat} {z : State} {t : Nat} {n : CoreId} {regs : Nat} {s : State} (hpm : Within 0x38076a pm) (hk : Keeps pm z (arrive t s)) : XKeeps pm z (execSmmO t n regs s) := by
  unfold execSmmO
  repeat' first
    | with_reducible assumption
    | with_reducible apply keeps_clocked
    | with_reducible apply keeps_coreIssue
    | with_reducible apply keeps_multiExec
    | with_reducible exact narrow hpm
    | with_reducible intro _ _

theorem keeps_execLmm {pm : Nat} {z : State} {t : Nat} {n : CoreId} {regs : Nat} {s : State} (hpm : Within 0x38076a pm) (hk : Keeps pm z (arrive t s)) : XKeeps pm z (execLmm t n regs s) := by
  unfold execLmm
  repeat' first
    | with_reducible assumption
    | with_reducible apply keeps_clocked
    | with_reducible apply keeps_coreIssue
    | with_reducible apply keeps_multiExec
    | with_reducible exact narrow hpm
    | with_reducible intro _ _

theorem keeps_execLmmO {pm : Nat} {z : State} {t : Nat} {n : CoreId} {regs : Nat} {s : State} (hpm : Within 0x38076a pm) (hk : Keeps pm z (arrive t s)) : XKeeps pm z (execLmmO t n regs s) := by
  unfold execLmmO
  repeat' first
    | with_reducible assumption
    | with_reducible apply keeps_clocked
    | with_reducible apply keeps_coreIssue
    | with_reducible apply keeps_multiExec
    | with_reducible exact narrow hpm
    | with_reducible intro _ _

theorem keeps_execSpillw {pm : Nat} {z : State} {t : Nat} {n : CoreId} {s : State} (hpm : Within 0x38076a pm) (hk : Keeps pm z (arrive t s)) : XKeeps pm z (execSpillw t n s) := by
  unfold execSpillw
  repeat' first
    | with_reducible assumption
    | with_reducible apply keeps_clocked
    | with_reducible apply keeps_coreIssue
    | with_reducible apply keeps_spillwExec
    | with_reducible exact narrow hpm
    | with_reducible intro _ _

theorem keeps_execFillw {pm : Nat} {z : State} {t : Nat} {n : CoreId} {s : State} (hpm : Within 0x38076a pm) (hk : Keeps pm z (arrive t s)) : XKeeps pm z (execFillw t n s) := by
  unfold execFillw
  repeat' first
    | with_reducible assumption
    | with_reducible apply keeps_clocked
    | with_reducible apply keeps_coreIssue
    | with_reducible apply keeps_fillwExec
    | with_reducible exact narrow hpm
    | with_reducible intro _ _

theorem keeps_execRep {pm : Nat} {z : State} {t : Nat} {n : CoreId} {s : State} (hpm : Within 0x18072a pm) (hk : Keeps pm z (arrive t s)) : XKeeps pm z (execRep t n s) := by
  unfold execRep
  repeat' first
    | with_reducible assumption
    | with_reducible apply keeps_clocked
    | with_reducible apply keeps_coreIssue
    | with_reducible apply keeps_repExec
    | with_reducible exact narrow hpm
    | with_reducible intro _ _

theorem keeps_execRepr {pm : Nat} {z : State} {t : Nat} {n : CoreId} {s : State} (hpm : Within 0x18072a pm) (hk : Keeps pm z (arrive t s)) : XKeeps pm z (execRepr t n s) := by
  unfold execRepr
  repeat' first
    | with_reducible assumption
    | with_reducible apply keeps_clocked
    | with_reducible apply keeps_coreIssue
    | with_reducible apply keeps_reprExec
    | with_reducible exact narrow hpm
    | with_reducible intro _ _

theorem keeps_execLoop {pm : Nat} {z : State} {t : Nat} {n : CoreId} {s : State} (hpm : Within 0x18072a pm) (hk : Keeps pm z (arrive t s)) : XKeeps pm z (execLoop t n s) := by
  unfold execLoop
  repeat' first
    | with_reducible assumption
    | with_reducible apply keeps_clocked
    | with_reducible apply keeps_coreIssue
    | with_reducible apply keeps_loopExec
    | with_reducible exact narrow hpm
    | with_reducible intro _ _

theorem keeps_execFmac {pm : Nat} {z : State} {t : Nat} {n : CoreId} {s : State} (hpm : Within 0x18072a pm) (hk : Keeps pm z (arrive t s)) : XKeeps pm z (execFmac t n s) := by
  unfold execFmac
  repeat' first
    | with_reducible assumption
    | with_reducible apply keeps_clocked
    | with_reducible apply keeps_coreIssue
    | with_reducible apply keeps_repeats
    | with_reducible apply keeps_fmacExec
    | with_reducible exact narrow hpm
    | with_reducible intro _ _

theorem keeps_execFmsc {pm : Nat} {z : State} {t : Nat} {n : CoreId} {s : State} (hpm : Within 0x18072a pm) (hk : Keeps pm z (arrive t s)) : XKeeps pm z (execFmsc t n s) := by
  unfold execFmsc
  repeat' first
    | with_reducible assumption
    | with_reducible apply keeps_clocked
    | with_reducible apply keeps_coreIssue
    | with_reducible apply keeps_repeats
    | with_reducible apply keeps_fmacExec
    | with_reducible exact narrow hpm
    | with_reducible intro _ _

theorem keeps_execFmula {pm : Nat} {z : State} {t : Nat} {n : CoreId} {s : State} (hpm : Within 0x18072a pm) (hk : Keeps pm z (arrive t s)) : XKeeps pm z (execFmula t n s) := by
  unfold execFmula
  repeat' first
    | with_reducible assumption
    | with_reducible apply keeps_clocked
    | with_reducible apply keeps_coreIssue
    | with_reducible apply keeps_repeats
    | with_reducible apply keeps_fmacExec
    | with_reducible exact narrow hpm
    | with_reducible intro _ _

theorem keeps_execFmacf {pm : Nat} {z : State} {t : Nat} {n : CoreId} {s : State} (hpm : Within 0x18072a pm) (hk : Keeps pm z (arrive t s)) : XKeeps pm z (execFmacf t n s) := by
  unfold execFmacf
  repeat' first
    | with_reducible assumption
    | with_reducible apply keeps_clocked
    | with_reducible apply keeps_coreIssue
    | with_reducible apply keeps_repeats
    | with_reducible apply keeps_fmacExec
    | with_reducible exact narrow hpm
    | with_reducible intro _ _

theorem keeps_execFmscf {pm : Nat} {z : State} {t : Nat} {n : CoreId} {s : State} (hpm : Within 0x18072a pm) (hk : Keeps pm z (arrive t s)) : XKeeps pm z (execFmscf t n s) := by
  unfold execFmscf
  repeat' first
    | with_reducible assumption
    | with_reducible apply keeps_clocked
    | with_reducible apply keeps_coreIssue
    | with_reducible apply keeps_repeats
    | with_reducible apply keeps_fmacExec
    | with_reducible exact narrow hpm
    | with_reducible intro _ _

theorem keeps_execXld {pm : Nat} {z : State} {t : Nat} {n : CoreId} {s : State} (hpm : Within 0x18072a pm) (hk : Keeps pm z (arrive t s)) : XKeeps pm z (execXld t n s) := by
  unfold execXld
  repeat' first
    | with_reducible assumption
    | with_reducible apply keeps_clocked
    | with_reducible apply keeps_coreIssue
    | with_reducible apply keeps_repeats
    | with_reducible apply keeps_xyLoad
    | with_reducible exact narrow hpm
    | with_reducible intro _ _

theorem keeps_execYld {pm : Nat} {z : State} {t : Nat} {n : CoreId} {s : State} (hpm : Within 0x18072a pm) (hk : Keeps pm z (arrive t s)) : XKeeps pm z (execYld t n s) := by
  unfold execYld
  repeat' first
    | with_reducible assumption
    | with_reducible apply keeps_clocked
    | with_reducible apply keeps_coreIssue
    | with_reducible apply keeps_repeats
    | with_reducible apply keeps_xyLoad
    | with_reducible exact narrow hpm
    | with_reducible intro _ _

theorem keeps_execXst {pm : Nat} {z : State} {t : Nat} {n : CoreId} {s : State} (hpm : Within 0x18076a pm) (hk : Keeps pm z (arrive t s)) : XKeeps pm z (execXst t n s) := by
  unfold execXst
  repeat' first
    | with_reducible assumption
    | with_reducible apply keeps_clocked
    | with_reducible apply keeps_coreIssue
    | with_reducible apply keeps_repeats
    | with_reducible apply keeps_xyStore
    | with_reducible exact narrow hpm
    | with_reducible intro _ _

theorem keeps_execYst {pm : Nat} {z : State} {t : Nat} {n : CoreId} {s : State} (hpm : Within 0x18076a pm) (hk : Keeps pm z (arrive t s)) : XKeeps pm z (execYst t n s) := by
  unfold execYst
  repeat' first
    | with_reducible assumption
    | with_reducible apply keeps_clocked
    | with_reducible apply keeps_coreIssue
    | with_reducible apply keeps_repeats
    | with_reducible apply keeps_xyStore
    | with_reducible exact narrow hpm
    | with_reducible intro _ _

theorem keeps_execFmvaf {pm : Nat} {z : State} {t : Nat} {n : CoreId} {s : State} (hpm : Within 0x18072a pm) (hk : Keeps pm z (arrive t s)) : XKeeps pm z (execFmvaf t n s) := by
  unfold execFmvaf
  repeat' first
    | with_reducible assumption
    | with_reducible apply keeps_clocked
    | with_reducible apply keeps_coreIssue
    | with_reducible apply keeps_fmvafExec
    | with_reducible exact narrow hpm
    | with_reducible intro _ _

theorem keeps_execFmvfa {pm : Nat} {z : State} {t : Nat} {n : CoreId} {s : State} (hpm : Within 0x18072a pm) (hk : Keeps pm z (arrive t s)) : XKeeps pm z (execFmvfa t n s) := by
  unfold execFmvfa
  repeat' first
    | with_reducible assumption
    | with_reducible apply keeps_clocked
    | with_reducible apply keeps_coreIssue
    | with_reducible apply keeps_fmvfaExec
    | with_reducible exact narrow hpm
    | with_reducible intro _ _

theorem keeps_execAccz {pm : Nat} {z : State} {t : Nat} {n : CoreId} {s : State} (hpm : Within 0x18072a pm) (hk : Keeps pm z (arrive t s)) : XKeeps pm z (execAccz t n s) := by
  unfold execAccz
  repeat' first
    | with_reducible assumption
    | with_reducible apply keeps_clocked
    | with_reducible apply keeps_coreIssue
    | with_reducible apply keeps_acczExec
    | with_reducible exact narrow hpm
    | with_reducible intro _ _

theorem keeps_execAccsum {pm : Nat} {z : State} {t : Nat} {n : CoreId} {s : State} (hpm : Within 0x18072a pm) (hk : Keeps pm z (arrive t s)) : XKeeps pm z (execAccsum t n s) := by
  unfold execAccsum
  repeat' first
    | with_reducible assumption
    | with_reducible apply keeps_clocked
    | with_reducible apply keeps_coreIssue
    | with_reducible apply keeps_accsumExec
    | with_reducible exact narrow hpm
    | with_reducible intro _ _

theorem keeps_execAccumulatorWrite {pm : Nat} {z : State} {t : Nat} {n : CoreId} {s : State} (hpm : Within 0x100000 pm) (hk : Keeps pm z (arrive t s)) : XKeeps pm z (execAccumulatorWrite t n s) := by
  unfold execAccumulatorWrite
  repeat' first
    | with_reducible assumption
    | with_reducible apply keeps_clocked
    | with_reducible apply keeps_accumulatorDue
    | with_reducible exact narrow hpm
    | with_reducible intro _ _

theorem keeps_execMret {pm : Nat} {z : State} {t : Nat} {n : CoreId} {s : State} (hpm : Within 0x18072a pm) (hk : Keeps pm z (arrive t s)) : XKeeps pm z (execMret t n s) := by
  unfold execMret
  repeat' first
    | with_reducible assumption
    | with_reducible apply keeps_clocked
    | with_reducible apply keeps_coreIssue
    | with_reducible apply keeps_mretDo
    | with_reducible apply keeps_issueAt
    | with_reducible exact narrow hpm
    | with_reducible intro _ _

theorem keeps_execInterrupt {pm : Nat} {z : State} {t : Nat} {n : CoreId} {s : State} (hpm : Within 0x100002 pm) (hk : Keeps pm z (arrive t s)) : XKeeps pm z (execInterrupt t n s) := by
  unfold execInterrupt
  repeat' first
    | with_reducible assumption
    | with_reducible apply keeps_clocked
    | with_reducible apply keeps_interruptDue
    | with_reducible exact narrow hpm
    | with_reducible intro _ _

theorem keeps_execCoreRun {pm : Nat} {z : State} {src : Source} {n : CoreId} {s : State} (hpm : Within 0x1f7fffffc pm) (hk : Keeps pm z s) : XKeeps pm z (execCoreRun src n s) := by
  unfold execCoreRun
  repeat' first
    | with_reducible assumption
    | with_reducible apply keeps_setNum

theorem keeps_execCoreHalt {pm : Nat} {z : State} {src : Source} {n : CoreId} {s : State} (hpm : Within 0x1f7fffffc pm) (hk : Keeps pm z s) : XKeeps pm z (execCoreHalt src n s) := by
  unfold execCoreHalt
  repeat' first
    | with_reducible assumption
    | with_reducible apply keeps_setNum

theorem keeps_execCoreHalted {pm : Nat} {z : State} {t : Nat} {n : CoreId} {s : State} (hpm : Within 0x180728 pm) (hk : Keeps pm z (arrive t s)) : XKeeps pm z (execCoreHalted t n s) := by
  unfold execCoreHalted
  repeat' first
    | with_reducible assumption
    | with_reducible apply keeps_clocked
    | with_reducible apply keeps_coreHaltDue
    | with_reducible exact narrow hpm
    | with_reducible intro _ _

theorem keeps_execCoreReset {pm : Nat} {z : State} {src : Source} {n : CoreId} {s : State} (hpm : Within 0x1f7fffffc pm) (hk : Keeps pm z s) : XKeeps pm z (execCoreReset src n s) := by
  unfold execCoreReset
  repeat' first
    | with_reducible assumption
    | with_reducible apply keeps_setNum

/-! CmdSched -/

theorem keeps_execEventGrant {pm : Nat} {z : State} {t : Nat} {s : State} (hpm : Within 0x8070c pm) (hk : Keeps pm z (arrive t s)) : XKeeps pm z (execEventGrant t s) := by
  unfold execEventGrant
  repeat' first
    | with_reducible assumption
    | with_reducible apply keeps_clocked
    | with_reducible apply keeps_eventGrant
    | with_reducible exact narrow hpm
    | with_reducible intro _ _

theorem keeps_execCoreEventPop {pm : Nat} {z : State} {src : Source} {n : CoreId} {s : State} (hpm : Within 0x1f7fffffc pm) (hk : Keeps pm z s) : XKeeps pm z (execCoreEventPop src n s) := by
  unfold execCoreEventPop
  repeat' first
    | with_reducible assumption
    | with_reducible apply keeps_readObj

theorem keeps_execEventRaiseWrite {pm : Nat} {z : State} {src : Source} {v : Nat} {s : State} (hpm : Within 0x1f7fffffc pm) (hk : Keeps pm z s) : XKeeps pm z (execEventRaiseWrite src v s) := by
  unfold execEventRaiseWrite
  repeat' first
    | with_reducible assumption
    | with_reducible apply keeps_setNum

theorem keeps_execCoalescedMapClear {pm : Nat} {z : State} {src : Source} {bytes : List Byte} {s : State} (hpm : Within 0x1f7fffffc pm) (hk : Keeps pm z s) : XKeeps pm z (execCoalescedMapClear src bytes s) := by
  unfold execCoalescedMapClear
  repeat' first
    | with_reducible assumption
    | with_reducible apply keeps_setBytes

theorem keeps_execTaskSetup {pm : Nat} {z : State} {src : Source} {v : Nat} {s : State} (hpm : Within 0x1f7fffffc pm) (hk : Keeps pm z s) : XKeeps pm z (execTaskSetup src v s) := by
  unfold execTaskSetup
  repeat' first
    | with_reducible assumption
    | with_reducible apply keeps_setNum

theorem keeps_execTaskCreate {pm : Nat} {z : State} {src : Source} {task : Nat} {s : State} (hpm : Within 0x1f7fffffc pm) (hk : Keeps pm z s) : XKeeps pm z (execTaskCreate src task s) := by
  unfold execTaskCreate
  repeat' first
    | with_reducible assumption
    | with_reducible apply keeps_setNum

theorem keeps_execTaskPost {pm : Nat} {z : State} {src : Source} {task : Nat} {s : State} (hpm : Within 0x1f7fffffc pm) (hk : Keeps pm z s) : XKeeps pm z (execTaskPost src task s) := by
  unfold execTaskPost
  repeat' first
    | with_reducible assumption
    | with_reducible apply keeps_setNum

theorem keeps_execTaskSuspend {pm : Nat} {z : State} {src : Source} {task : Nat} {s : State} (hpm : Within 0x1f7fffffc pm) (hk : Keeps pm z s) : XKeeps pm z (execTaskSuspend src task s) := by
  unfold execTaskSuspend
  repeat' first
    | with_reducible assumption
    | with_reducible apply keeps_setNum

theorem keeps_execTaskResume {pm : Nat} {z : State} {src : Source} {task : Nat} {s : State} (hpm : Within 0x1f7fffffc pm) (hk : Keeps pm z s) : XKeeps pm z (execTaskResume src task s) := by
  unfold execTaskResume
  repeat' first
    | with_reducible assumption
    | with_reducible apply keeps_setNum

theorem keeps_execTaskDelete {pm : Nat} {z : State} {src : Source} {task : Nat} {s : State} (hpm : Within 0x1f7fffffc pm) (hk : Keeps pm z s) : XKeeps pm z (execTaskDelete src task s) := by
  unfold execTaskDelete
  repeat' first
    | with_reducible assumption
    | with_reducible apply keeps_setNum

theorem keeps_execTaskOffer {pm : Nat} {z : State} {t : Nat} {s : State} (hpm : Within 0x80708 pm) (hk : Keeps pm z (arrive t s)) : XKeeps pm z (execTaskOffer t s) := by
  unfold execTaskOffer
  repeat' first
    | with_reducible assumption
    | with_reducible apply keeps_clocked
    | with_reducible apply keeps_taskOffer
    | with_reducible exact narrow hpm
    | with_reducible intro _ _

theorem keeps_execCoreAccept {pm : Nat} {z : State} {src : Source} {n : CoreId} {task : Nat} {s : State} (hpm : Within 0x1f7fffffc pm) (hk : Keeps pm z s) : XKeeps pm z (execCoreAccept src n task s) := by
  unfold execCoreAccept
  repeat' first
    | with_reducible assumption
    | with_reducible apply keeps_setNum

theorem keeps_execCoreDone {pm : Nat} {z : State} {src : Source} {n : CoreId} {s : State} (hpm : Within 0x1f7fffffc pm) (hk : Keeps pm z s) : XKeeps pm z (execCoreDone src n s) := by
  unfold execCoreDone
  repeat' first
    | with_reducible assumption
    | with_reducible apply keeps_setNum

theorem keeps_execCoreYield {pm : Nat} {z : State} {src : Source} {n : CoreId} {s : State} (hpm : Within 0x1f7fffffc pm) (hk : Keeps pm z s) : XKeeps pm z (execCoreYield src n s) := by
  unfold execCoreYield
  repeat' first
    | with_reducible assumption
    | with_reducible apply keeps_setNum

theorem keeps_execCoreDelay {pm : Nat} {z : State} {src : Source} {n : CoreId} {list : Fin 8} {arg : Nat} {s : State} (hpm : Within 0x1f7fffffc pm) (hk : Keeps pm z s) : XKeeps pm z (execCoreDelay src n list arg s) := by
  unfold execCoreDelay
  repeat' first
    | with_reducible assumption
    | with_reducible apply keeps_setNum

theorem keeps_execCoreAttach {pm : Nat} {z : State} {src : Source} {n : CoreId} {s : State} (hpm : Within 0x1f7fffffc pm) (hk : Keeps pm z s) : XKeeps pm z (execCoreAttach src n s) := by
  unfold execCoreAttach
  repeat' first
    | with_reducible assumption
    | with_reducible apply keeps_setNum

theorem keeps_execCoreDetach {pm : Nat} {z : State} {src : Source} {n : CoreId} {s : State} (hpm : Within 0x1f7fffffc pm) (hk : Keeps pm z s) : XKeeps pm z (execCoreDetach src n s) := by
  unfold execCoreDetach
  repeat' first
    | with_reducible assumption
    | with_reducible apply keeps_setNum

theorem keeps_execDispatchTimeout {pm : Nat} {z : State} {t : Nat} {n : CoreId} {s : State} (hpm : Within 0x80708 pm) (hk : Keeps pm z (arrive t s)) : XKeeps pm z (execDispatchTimeout t n s) := by
  unfold execDispatchTimeout
  repeat' first
    | with_reducible assumption
    | with_reducible apply keeps_clocked
    | with_reducible apply keeps_dispatchTimeout
    | with_reducible exact narrow hpm
    | with_reducible intro _ _

theorem keeps_execDelayDue {pm : Nat} {z : State} {t : Nat} {list : Fin 5} {s : State} (hpm : Within 0x80708 pm) (hk : Keeps pm z (arrive t s)) : XKeeps pm z (execDelayDue t list s) := by
  unfold execDelayDue
  repeat' first
    | with_reducible assumption
    | with_reducible apply keeps_clocked
    | with_reducible apply keeps_delayDue
    | with_reducible exact narrow hpm
    | with_reducible intro _ _

theorem keeps_execTick {pm : Nat} {z : State} {t : Nat} {s : State} (hpm : Within 0x28 pm) (hk : Keeps pm z (arrive t s)) : XKeeps pm z (execTick t s) := by
  unfold execTick
  repeat' first
    | with_reducible assumption
    | with_reducible apply keeps_tick
    | with_reducible apply keeps_tickStep
    | with_reducible exact narrow hpm
    | with_reducible intro _ _

theorem keeps_execIntervalTimerDue {pm : Nat} {z : State} {t : Nat} {i : TimerId} {s : State} (hpm : Within 0x80708 pm) (hk : Keeps pm z (arrive t s)) : XKeeps pm z (execIntervalTimerDue t i s) := by
  unfold execIntervalTimerDue
  repeat' first
    | with_reducible assumption
    | with_reducible apply keeps_clocked
    | with_reducible apply keeps_timerDue
    | with_reducible exact narrow hpm
    | with_reducible intro _ _

theorem keeps_execTimerEnable {pm : Nat} {z : State} {src : Source} {i : TimerId} {s : State} (hpm : Within 0x1f7fffffc pm) (hk : Keeps pm z s) : XKeeps pm z (execTimerEnable src i s) := by
  unfold execTimerEnable
  repeat' first
    | with_reducible assumption
    | with_reducible apply keeps_setNum

theorem keeps_execTimerDisable {pm : Nat} {z : State} {src : Source} {i : TimerId} {s : State} (hpm : Within 0x1f7fffffc pm) (hk : Keeps pm z s) : XKeeps pm z (execTimerDisable src i s) := by
  unfold execTimerDisable
  repeat' first
    | with_reducible assumption
    | with_reducible apply keeps_setNum

theorem keeps_execSchedCoresWrite {pm : Nat} {z : State} {src : Source} {v : Nat} {s : State} (hpm : Within 0x1f7fffffc pm) (hk : Keeps pm z s) : XKeeps pm z (execSchedCoresWrite src v s) := by
  unfold execSchedCoresWrite
  repeat' first
    | with_reducible assumption
    | with_reducible apply keeps_setNum

theorem keeps_execTraceModeWrite {pm : Nat} {z : State} {src : Source} {v : Nat} {s : State} (hpm : Within 0x1f7fffffc pm) (hk : Keeps pm z s) : XKeeps pm z (execTraceModeWrite src v s) := by
  unfold execTraceModeWrite
  repeat' first
    | with_reducible assumption
    | with_reducible apply keeps_setNum

/-! CmdNoc -/

theorem keeps_execBankAccessGrant {pm : Nat} {z : State} {t : Nat} {b : Fin 32} {s : State} (hpm : Within 0x294748 pm) (hk : Keeps pm z (arrive t s)) : XKeeps pm z (execBankAccessGrant t b s) := by
  unfold execBankAccessGrant
  repeat' first
    | with_reducible assumption
    | with_reducible apply keeps_clocked
    | with_reducible apply keeps_bankResume
    | with_reducible apply keeps_bankGrant
    | with_reducible apply OKeeps.map
    | with_reducible exact narrow hpm
    | with_reducible intro _ _

theorem keeps_execHarrowBorrow {pm : Nat} {z : State} {t : Nat} {faults : List (Nat × List Byte)} {s : State} (hpm : Within 0x280718 pm) (hk : Keeps pm z (arrive t s)) : XKeeps pm z (execHarrowBorrow t faults s) := by
  unfold execHarrowBorrow
  repeat' first
    | with_reducible assumption
    | with_reducible apply keeps_clocked
    | with_reducible apply keeps_harrowBorrow
    | with_reducible exact narrow hpm
    | with_reducible intro _ _

theorem keeps_execHarrowRestoreComplete {pm : Nat} {z : State} {t : Nat} {s : State} (hpm : Within 0x280708 pm) (hk : Keeps pm z (arrive t s)) : XKeeps pm z (execHarrowRestoreComplete t s) := by
  unfold execHarrowRestoreComplete
  repeat' first
    | with_reducible assumption
    | with_reducible apply keeps_clocked
    | with_reducible apply keeps_harrowRestore
    | with_reducible exact narrow hpm
    | with_reducible intro _ _

theorem keeps_execLpddrInitDone {pm : Nat} {z : State} {t : Nat} {i : LpId} {s : State} (hpm : Within 0x28 pm) (hk : Keeps pm z (arrive t s)) : XKeeps pm z (execLpddrInitDone t i s) := by
  unfold execLpddrInitDone
  repeat' first
    | with_reducible assumption
    | with_reducible apply keeps_clocked
    | with_reducible apply keeps_lpddrInit
    | with_reducible exact narrow hpm
    | with_reducible intro _ _

theorem keeps_execLpddrTrainingDone {pm : Nat} {z : State} {t : Nat} {i : LpId} {failStep : Fin 16} {s : State} (hpm : Within 0x80728 pm) (hk : Keeps pm z (arrive t s)) : XKeeps pm z (execLpddrTrainingDone t i failStep s) := by
  unfold execLpddrTrainingDone
  repeat' first
    | with_reducible assumption
    | with_reducible apply keeps_clocked
    | with_reducible apply keeps_lpddrTrainEnd
    | with_reducible exact narrow hpm
    | with_reducible intro _ _

theorem keeps_execLpddrMr4Read {pm : Nat} {z : State} {t : Nat} {i : LpId} {code : Nat} {s : State} (hpm : Within 0x280708 pm) (hk : Keeps pm z (arrive t s)) : XKeeps pm z (execLpddrMr4Read t i code s) := by
  unfold execLpddrMr4Read
  repeat' first
    | with_reducible assumption
    | with_reducible apply keeps_clocked
    | with_reducible apply keeps_lpddrMr4
    | with_reducible exact narrow hpm
    | with_reducible intro _ _

theorem keeps_execLpddrZqLatch {pm : Nat} {z : State} {t : Nat} {i : LpId} {s : State} (hpm : Within 0x200000 pm) (hk : Keeps pm z (arrive t s)) : XKeeps pm z (execLpddrZqLatch t i s) := by
  unfold execLpddrZqLatch
  repeat' first
    | with_reducible assumption
    | with_reducible apply keeps_clocked
    | with_reducible apply keeps_lpddrZq
    | with_reducible exact narrow hpm
    | with_reducible intro _ _

theorem keeps_execLpddrWck2dqTracking {pm : Nat} {z : State} {t : Nat} {i : LpId} {s : State} (hpm : Within 0x200000 pm) (hk : Keeps pm z (arrive t s)) : XKeeps pm z (execLpddrWck2dqTracking t i s) := by
  unfold execLpddrWck2dqTracking
  repeat' first
    | with_reducible assumption
    | with_reducible apply keeps_clocked
    | with_reducible apply keeps_lpddrWck
    | with_reducible exact narrow hpm
    | with_reducible intro _ _

theorem keeps_execLpddrRefresh {pm : Nat} {z : State} {t : Nat} {i : LpId} {s : State} (hpm : Within 0x200000 pm) (hk : Keeps pm z (arrive t s)) : XKeeps pm z (execLpddrRefresh t i s) := by
  unfold execLpddrRefresh
  repeat' first
    | with_reducible assumption
    | with_reducible apply keeps_clocked
    | with_reducible apply keeps_lpddrRefreshDue
    | with_reducible exact narrow hpm
    | with_reducible intro _ _

theorem keeps_execLpddrWriteRefused {pm : Nat} {z : State} {t : Nat} {history : Option (CamId × Nat)} {s : State} (hpm : Within 0x90748 pm) (hk : Keeps pm z (arrive t s)) : XKeeps pm z (execLpddrWriteRefused t history s) := by
  unfold execLpddrWriteRefused
  repeat' first
    | with_reducible assumption
    | with_reducible apply keeps_clocked
    | with_reducible apply keeps_historyRefused
    | with_reducible apply keeps_archiveRefused
    | with_reducible exact narrow hpm
    | split
    | with_reducible intro _ _

theorem keeps_execNetworkRequest {pm : Nat} {z : State} {t : Nat} {ni : NiId} {addr : Nat} {size : Nat} {write : Bool} {v : Nat} {s : State} (hpm : Within 0x38072e pm) (hk : Keeps pm z (arrive t s)) : XKeeps pm z (execNetworkRequest t ni addr size write v s) := by
  unfold execNetworkRequest
  repeat' first
    | with_reducible assumption
    | with_reducible apply keeps_clocked
    | with_reducible apply keeps_netRequest
    | with_reducible exact narrow hpm
    | with_reducible intro _ _

theorem keeps_execNetworkResponse {pm : Nat} {z : State} {t : Nat} {ni : NiId} {tag : Nat} {s : State} (hpm : Within 0x1f7fffffe pm) (hk : Keeps pm z (arrive t s)) : XKeeps pm z (execNetworkResponse t ni tag s) := by
  unfold execNetworkResponse
  repeat' first
    | with_reducible assumption
    | with_reducible apply keeps_settled
    | with_reducible apply keeps_netRespond
    | with_reducible exact narrow hpm
    | with_reducible intro _ _

theorem keeps_execRequestTimeout {pm : Nat} {z : State} {t : Nat} {ni : NiId} {tag : Nat} {s : State} (hpm : Within 0x1f7fffffe pm) (hk : Keeps pm z (arrive t s)) : XKeeps pm z (execRequestTimeout t ni tag s) := by
  unfold execRequestTimeout
  repeat' first
    | with_reducible assumption
    | with_reducible apply keeps_settled
    | with_reducible apply keeps_netTimeout
    | with_reducible exact narrow hpm
    | with_reducible intro _ _

theorem keeps_execPortStallTimeout {pm : Nat} {z : State} {t : Nat} {ni : NiId} {tag : Nat} {s : State} (hpm : Within 0x38272e pm) (hk : Keeps pm z (arrive t s)) : XKeeps pm z (execPortStallTimeout t ni tag s) := by
  unfold execPortStallTimeout
  repeat' first
    | with_reducible assumption
    | with_reducible apply keeps_clocked
    | with_reducible apply keeps_portStall
    | with_reducible exact narrow hpm
    | with_reducible intro _ _

theorem keeps_execRouteSwapGo {pm : Nat} {z : State} {src : Source} {s : State} (hpm : Within 0x1f7fffffc pm) (hk : Keeps pm z s) : XKeeps pm z (execRouteSwapGo src s) := by
  unfold execRouteSwapGo
  repeat' first
    | with_reducible assumption
    | with_reducible apply keeps_setNum

theorem keeps_execNiTableSwap {pm : Nat} {z : State} {t : Nat} {ni : NiId} {s : State} (hpm : Within 0x280708 pm) (hk : Keeps pm z (arrive t s)) : XKeeps pm z (execNiTableSwap t ni s) := by
  unfold execNiTableSwap
  repeat' first
    | with_reducible assumption
    | with_reducible apply keeps_clocked
    | with_reducible apply keeps_niSwap
    | with_reducible exact narrow hpm
    | with_reducible intro _ _

theorem keeps_execRouterReconfigGo {pm : Nat} {z : State} {src : Source} {s : State} (hpm : Within 0x1f7fffffc pm) (hk : Keeps pm z s) : XKeeps pm z (execRouterReconfigGo src s) := by
  unfold execRouterReconfigGo
  repeat' first
    | with_reducible assumption
    | with_reducible apply keeps_setNum

theorem keeps_execRouterReconfigApply {pm : Nat} {z : State} {t : Nat} {s : State} (hpm : Within 0x280708 pm) (hk : Keeps pm z (arrive t s)) : XKeeps pm z (execRouterReconfigApply t s) := by
  unfold execRouterReconfigApply
  repeat' first
    | with_reducible assumption
    | with_reducible apply keeps_clocked
    | with_reducible apply keeps_routerApply
    | with_reducible exact narrow hpm
    | with_reducible intro _ _

/-! CmdLane -/

theorem keeps_execLaneEnableData {pm : Nat} {z : State} {src : Source} {n : LaneId} {s : State} (hpm : Within 0x1f7fffffc pm) (hk : Keeps pm z s) : XKeeps pm z (execLaneEnableData src n s) := by
  unfold execLaneEnableData
  repeat' first
    | with_reducible assumption
    | with_reducible apply keeps_setNum

theorem keeps_execLaneEnableTest {pm : Nat} {z : State} {src : Source} {n : LaneId} {s : State} (hpm : Within 0x1f7fffffc pm) (hk : Keeps pm z s) : XKeeps pm z (execLaneEnableTest src n s) := by
  unfold execLaneEnableTest
  repeat' first
    | with_reducible assumption
    | with_reducible apply keeps_setNum

theorem keeps_execLaneDisable {pm : Nat} {z : State} {src : Source} {n : LaneId} {s : State} (hpm : Within 0x1f7fffffc pm) (hk : Keeps pm z s) : XKeeps pm z (execLaneDisable src n s) := by
  unfold execLaneDisable
  repeat' first
    | with_reducible assumption
    | with_reducible apply keeps_setNum

theorem keeps_execLanePllLock {pm : Nat} {z : State} {t : Nat} {n : LaneId} {s : State} (hpm : Within 0x8028 pm) (hk : Keeps pm z (arrive t s)) : XKeeps pm z (execLanePllLock t n s) := by
  unfold execLanePllLock
  repeat' first
    | with_reducible assumption
    | with_reducible apply keeps_clocked
    | with_reducible apply keeps_laneLocked
    | with_reducible exact narrow hpm
    | with_reducible intro _ _

theorem keeps_execLaneDataEntry {pm : Nat} {z : State} {t : Nat} {n : LaneId} {s : State} (hpm : Within 0x8872c pm) (hk : Keeps pm z (arrive t s)) : XKeeps pm z (execLaneDataEntry t n s) := by
  unfold execLaneDataEntry
  repeat' first
    | with_reducible assumption
    | with_reducible apply keeps_clocked
    | with_reducible apply keeps_laneMoved
    | with_reducible apply keeps_laneEnterData
    | with_reducible apply OKeeps.map
    | with_reducible exact narrow hpm
    | with_reducible intro _ _

theorem keeps_execLaneLinkDrop {pm : Nat} {z : State} {t : Nat} {n : LaneId} {inFrame : Bool} {s : State} (hpm : Within 0x8872c pm) (hk : Keeps pm z (arrive t s)) : XKeeps pm z (execLaneLinkDrop t n inFrame s) := by
  unfold execLaneLinkDrop
  repeat' first
    | with_reducible assumption
    | with_reducible apply keeps_clocked
    | with_reducible apply keeps_laneMoved
    | with_reducible apply keeps_laneLockLost
    | with_reducible apply OKeeps.map
    | with_reducible exact narrow hpm
    | with_reducible intro _ _

theorem keeps_execLaneStatusSet {pm : Nat} {z : State} {t : Nat} {n : LaneId} {ready : Bool} {s : State} (hpm : Within 0x8872c pm) (hk : Keeps pm z (arrive t s)) : XKeeps pm z (execLaneStatusSet t n ready s) := by
  unfold execLaneStatusSet
  repeat' first
    | with_reducible assumption
    | with_reducible apply keeps_arrives
    | with_reducible apply keeps_laneMoved
    | with_reducible apply keeps_laneHeard
    | with_reducible exact narrow hpm
    | with_reducible intro _ _

theorem keeps_execLaneStatusSend {pm : Nat} {z : State} {t : Nat} {n : LaneId} {ready : Bool} {s : State} (hpm : Within 0x8004 pm) (hk : Keeps pm z (arrive t s)) : XKeeps pm z (execLaneStatusSend t n ready s) := by
  unfold execLaneStatusSend
  repeat' first
    | with_reducible assumption
    | with_reducible apply keeps_clocked
    | with_reducible apply keeps_laneTell
    | with_reducible exact narrow hpm
    | with_reducible intro _ _

theorem keeps_execLaneStatusSilence {pm : Nat} {z : State} {t : Nat} {n : LaneId} {s : State} (hpm : Within 0x8872c pm) (hk : Keeps pm z (arrive t s)) : XKeeps pm z (execLaneStatusSilence t n s) := by
  unfold execLaneStatusSilence
  repeat' first
    | with_reducible assumption
    | with_reducible apply keeps_clocked
    | with_reducible apply keeps_laneMoved
    | with_reducible apply keeps_laneSilent
    | with_reducible apply OKeeps.map
    | with_reducible exact narrow hpm
    | with_reducible intro _ _

theorem keeps_execAcquireTimeout {pm : Nat} {z : State} {t : Nat} {n : LaneId} {s : State} (hpm : Within 0x88728 pm) (hk : Keeps pm z (arrive t s)) : XKeeps pm z (execAcquireTimeout t n s) := by
  unfold execAcquireTimeout
  repeat' first
    | with_reducible assumption
    | with_reducible apply keeps_clocked
    | with_reducible apply keeps_laneAcquireExpire
    | with_reducible exact narrow hpm
    | with_reducible intro _ _

theorem keeps_execLaneRetrain {pm : Nat} {z : State} {src : Source} {n : LaneId} {s : State} (hpm : Within 0x1f7fffffc pm) (hk : Keeps pm z s) : XKeeps pm z (execLaneRetrain src n s) := by
  unfold execLaneRetrain
  repeat' first
    | with_reducible assumption
    | with_reducible apply keeps_setNum

theorem keeps_execLaneStopComplete {pm : Nat} {z : State} {t : Nat} {n : LaneId} {s : State} (hpm : Within 0x88728 pm) (hk : Keeps pm z (arrive t s)) : XKeeps pm z (execLaneStopComplete t n s) := by
  unfold execLaneStopComplete
  repeat' first
    | with_reducible assumption
    | with_reducible apply keeps_clocked
    | with_reducible apply keeps_laneStopped
    | with_reducible exact narrow hpm
    | with_reducible intro _ _

theorem keeps_execRefclkLost {pm : Nat} {z : State} {t : Nat} {s : State} (hpm : Within 0x108872c pm) (hk : Keeps pm z (arrive t s)) : XKeeps pm z (execRefclkLost t s) := by
  unfold execRefclkLost
  repeat' first
    | with_reducible assumption
    | with_reducible apply keeps_tick
    | with_reducible apply keeps_refclkGone
    | with_reducible exact narrow hpm
    | with_reducible intro _ _

theorem keeps_execRefclkRestored {pm : Nat} {z : State} {t : Nat} {s : State} (hpm : Within 0x1000008 pm) (hk : Keeps pm z (arrive t s)) : XKeeps pm z (execRefclkRestored t s) := by
  unfold execRefclkRestored
  repeat' first
    | with_reducible assumption
    | with_reducible apply keeps_tick
    | with_reducible apply keeps_refclkBack
    | with_reducible exact narrow hpm
    | with_reducible intro _ _

theorem keeps_execDfeAdapt {pm : Nat} {z : State} {t : Nat} {n : LaneId} {sums : List Int} {s : State} (hpm : Within 0x88708 pm) (hk : Keeps pm z (arrive t s)) : XKeeps pm z (execDfeAdapt t n sums s) := by
  unfold execDfeAdapt
  repeat' first
    | with_reducible assumption
    | with_reducible apply keeps_clocked
    | with_reducible apply keeps_dfeStep
    | with_reducible exact narrow hpm
    | with_reducible intro _ _

theorem keeps_execPrbsLock {pm : Nat} {z : State} {t : Nat} {n : LaneId} {s : State} (hpm : Within 0x88708 pm) (hk : Keeps pm z (arrive t s)) : XKeeps pm z (execPrbsLock t n s) := by
  unfold execPrbsLock
  repeat' first
    | with_reducible assumption
    | with_reducible apply keeps_clocked
    | with_reducible apply keeps_prbsLock
    | with_reducible exact narrow hpm
    | with_reducible intro _ _

theorem keeps_execPrbsLockLoss {pm : Nat} {z : State} {t : Nat} {n : LaneId} {s : State} (hpm : Within 0x88708 pm) (hk : Keeps pm z (arrive t s)) : XKeeps pm z (execPrbsLockLoss t n s) := by
  unfold execPrbsLockLoss
  repeat' first
    | with_reducible assumption
    | with_reducible apply keeps_clocked
    | with_reducible apply keeps_prbsUnlock
    | with_reducible exact narrow hpm
    | with_reducible intro _ _

theorem keeps_execPrbsBitError {pm : Nat} {z : State} {t : Nat} {n : LaneId} {s : State} (hpm : Within 0x88708 pm) (hk : Keeps pm z (arrive t s)) : XKeeps pm z (execPrbsBitError t n s) := by
  unfold execPrbsBitError
  repeat' first
    | with_reducible assumption
    | with_reducible apply keeps_clocked
    | with_reducible apply keeps_prbsError
    | with_reducible exact narrow hpm
    | with_reducible intro _ _

theorem keeps_execPrbsInject {pm : Nat} {z : State} {src : Source} {n : LaneId} {s : State} (hpm : Within 0x1f7fffffc pm) (hk : Keeps pm z s) : XKeeps pm z (execPrbsInject src n s) := by
  unfold execPrbsInject
  repeat' first
    | with_reducible assumption
    | with_reducible apply keeps_setNum

theorem keeps_execPrbsCounterClear {pm : Nat} {z : State} {src : Source} {n : LaneId} {s : State} (hpm : Within 0x1f7fffffc pm) (hk : Keeps pm z s) : XKeeps pm z (execPrbsCounterClear src n s) := by
  unfold execPrbsCounterClear
  repeat' first
    | with_reducible assumption
    | with_reducible apply keeps_setNum

theorem keeps_execBlockError {pm : Nat} {z : State} {t : Nat} {n : LaneId} {header : Bool} {inFrame : Bool} {s : State} (hpm : Within 0x8872c pm) (hk : Keeps pm z (arrive t s)) : XKeeps pm z (execBlockError t n header inFrame s) := by
  unfold execBlockError
  repeat' first
    | with_reducible assumption
    | with_reducible apply keeps_arrives
    | with_reducible apply keeps_laneMoved
    | with_reducible apply keeps_laneBlockError
    | with_reducible exact narrow hpm
    | with_reducible intro _ _

/-! CmdPlant -/

theorem keeps_execOpralDatagram {pm : Nat} {z : State} {t : Nat} {p : PortId} {ip : Nat} {udp : Nat} {b : List Byte} {s : State} (hpm : Within 0x1f7fffffc pm) (hk : Keeps pm z (arrive t s)) : XKeeps pm z (execOpralDatagram t p ip udp b s) := by
  unfold execOpralDatagram
  repeat' first
    | with_reducible assumption
    | with_reducible apply keeps_datagram
    | with_reducible apply keeps_opralReceive
    | with_reducible intro _ _

theorem keeps_execOpralRead {pm : Nat} {z : State} {t : Nat} {p : PortId} {ip : Nat} {udp : Nat} {node : Nat} {seq : Nat} {idx : Nat} {sub : Nat} {ty : Nat} {s : State} (hpm : Within 0x1f7fffffc pm) (hk : Keeps pm z (arrive t s)) : XKeeps pm z (execOpralRead t p ip udp node seq idx sub ty s) := by
  unfold execOpralRead
  repeat' first
    | with_reducible assumption
    | with_reducible apply keeps_datagram
    | with_reducible apply keeps_opralOne
    | with_reducible intro _ _

theorem keeps_execOpralWrite {pm : Nat} {z : State} {t : Nat} {p : PortId} {ip : Nat} {udp : Nat} {node : Nat} {seq : Nat} {idx : Nat} {sub : Nat} {v : ObjVal} {s : State} (hpm : Within 0x1f7fffffc pm) (hk : Keeps pm z (arrive t s)) : XKeeps pm z (execOpralWrite t p ip udp node seq idx sub v s) := by
  unfold execOpralWrite
  repeat' first
    | with_reducible assumption
    | with_reducible apply keeps_datagram
    | with_reducible apply keeps_opralOne
    | with_reducible intro _ _

theorem keeps_execOpralSegRead {pm : Nat} {z : State} {t : Nat} {p : PortId} {ip : Nat} {udp : Nat} {node : Nat} {seq : Nat} {idx : Nat} {sub : Nat} {off : Nat} {len : Nat} {s : State} (hpm : Within 0x1f7fffffc pm) (hk : Keeps pm z (arrive t s)) : XKeeps pm z (execOpralSegRead t p ip udp node seq idx sub off len s) := by
  unfold execOpralSegRead
  repeat' first
    | with_reducible assumption
    | with_reducible apply keeps_datagram
    | with_reducible apply keeps_opralOne
    | with_reducible intro _ _

theorem keeps_execOpralSegWrite {pm : Nat} {z : State} {t : Nat} {p : PortId} {ip : Nat} {udp : Nat} {node : Nat} {seq : Nat} {idx : Nat} {sub : Nat} {ty : Nat} {off : Nat} {last : Bool} {b : List Byte} {s : State} (hpm : Within 0x1f7fffffc pm) (hk : Keeps pm z (arrive t s)) : XKeeps pm z (execOpralSegWrite t p ip udp node seq idx sub ty off last b s) := by
  unfold execOpralSegWrite
  repeat' first
    | with_reducible assumption
    | with_reducible apply keeps_datagram
    | with_reducible apply keeps_opralOne
    | with_reducible intro _ _

theorem keeps_execSegmentTimeout {pm : Nat} {z : State} {t : Nat} {s : State} (hpm : Within 0x400008 pm) (hk : Keeps pm z (arrive t s)) : XKeeps pm z (execSegmentTimeout t s) := by
  unfold execSegmentTimeout
  repeat' first
    | with_reducible assumption
    | with_reducible apply keeps_clocked
    | with_reducible apply keeps_segExpire
    | with_reducible exact narrow hpm
    | with_reducible intro _ _

theorem keeps_execArpRequest {pm : Nat} {z : State} {t : Nat} {p : PortId} {mac : Nat} {ip : Nat} {target : Nat} {s : State} (hpm : Within 0x4 pm) (hk : Keeps pm z (arrive t s)) : XKeeps pm z (execArpRequest t p mac ip target s) := by
  unfold execArpRequest
  repeat' first
    | with_reducible assumption
    | with_reducible apply keeps_clocked
    | with_reducible apply keeps_arpReply
    | with_reducible exact narrow hpm
    | with_reducible intro _ _

theorem keeps_execIcmpEcho {pm : Nat} {z : State} {t : Nat} {p : PortId} {ip : Nat} {target : Nat} {rest : List Byte} {s : State} (hpm : Within 0x4 pm) (hk : Keeps pm z (arrive t s)) : XKeeps pm z (execIcmpEcho t p ip target rest s) := by
  unfold execIcmpEcho
  repeat' first
    | with_reducible assumption
    | with_reducible apply keeps_clocked
    | with_reducible apply keeps_icmpReply
    | with_reducible exact narrow hpm
    | with_reducible intro _ _

theorem keeps_execCanPortEnable {pm : Nat} {z : State} {src : Source} {p : PortId} {s : State} (hpm : Within 0x1f7fffffc pm) (hk : Keeps pm z s) : XKeeps pm z (execCanPortEnable src p s) := by
  unfold execCanPortEnable
  repeat' first
    | with_reducible assumption
    | with_reducible apply keeps_setNum

theorem keeps_execNmtStart {pm : Nat} {z : State} {t : Nat} {p : PortId} {node : Nat} {s : State} (hpm : Within 0x1f7fffffc pm) (hk : Keeps pm z (arrive t s)) : XKeeps pm z (execNmtStart t p node s) := by
  unfold execNmtStart
  repeat' first
    | with_reducible assumption
    | with_reducible apply keeps_canFrame
    | with_reducible apply keeps_nmtMove
    | with_reducible exact narrow hpm
    | with_reducible intro _ _

theorem keeps_execNmtStop {pm : Nat} {z : State} {t : Nat} {p : PortId} {node : Nat} {s : State} (hpm : Within 0x1f7fffffc pm) (hk : Keeps pm z (arrive t s)) : XKeeps pm z (execNmtStop t p node s) := by
  unfold execNmtStop
  repeat' first
    | with_reducible assumption
    | with_reducible apply keeps_canFrame
    | with_reducible apply keeps_nmtMove
    | with_reducible exact narrow hpm
    | with_reducible intro _ _

theorem keeps_execNmtEnterPreOperational {pm : Nat} {z : State} {t : Nat} {p : PortId} {node : Nat} {s : State} (hpm : Within 0x1f7fffffc pm) (hk : Keeps pm z (arrive t s)) : XKeeps pm z (execNmtEnterPreOperational t p node s) := by
  unfold execNmtEnterPreOperational
  repeat' first
    | with_reducible assumption
    | with_reducible apply keeps_canFrame
    | with_reducible apply keeps_nmtMove
    | with_reducible exact narrow hpm
    | with_reducible intro _ _

theorem keeps_execNmtResetNode {pm : Nat} {z : State} {t : Nat} {p : PortId} {node : Nat} {s : State} (hpm : Within 0x1f7fffffc pm) (hk : Keeps pm z (arrive t s)) : XKeeps pm z (execNmtResetNode t p node s) := by
  unfold execNmtResetNode
  repeat' first
    | with_reducible assumption
    | with_reducible apply keeps_canFrame
    | with_reducible apply keeps_nmtReset
    | with_reducible exact narrow hpm
    | with_reducible intro _ _

theorem keeps_execNmtResetCommunication {pm : Nat} {z : State} {t : Nat} {p : PortId} {node : Nat} {s : State} (hpm : Within 0x1f7fffffc pm) (hk : Keeps pm z (arrive t s)) : XKeeps pm z (execNmtResetCommunication t p node s) := by
  unfold execNmtResetCommunication
  repeat' first
    | with_reducible assumption
    | with_reducible apply keeps_canFrame
    | with_reducible apply keeps_nmtReset
    | with_reducible exact narrow hpm
    | with_reducible intro _ _

theorem keeps_execCanHeartbeat {pm : Nat} {z : State} {t : Nat} {p : PortId} {s : State} (hpm : Within 0x400004 pm) (hk : Keeps pm z (arrive t s)) : XKeeps pm z (execCanHeartbeat t p s) := by
  unfold execCanHeartbeat
  repeat' first
    | with_reducible assumption
    | with_reducible apply keeps_clocked
    | with_reducible apply keeps_canBeat
    | with_reducible exact narrow hpm
    | with_reducible intro _ _

theorem keeps_execCanBusOff {pm : Nat} {z : State} {t : Nat} {p : PortId} {s : State} (hpm : Within 0x80708 pm) (hk : Keeps pm z (arrive t s)) : XKeeps pm z (execCanBusOff t p s) := by
  unfold execCanBusOff
  repeat' first
    | with_reducible assumption
    | with_reducible apply keeps_clocked
    | with_reducible apply keeps_busOff
    | with_reducible exact narrow hpm
    | with_reducible intro _ _

theorem keeps_execCanBusStateChange {pm : Nat} {z : State} {t : Nat} {p : PortId} {passive : Bool} {s : State} (hpm : Within 0x80708 pm) (hk : Keeps pm z (arrive t s)) : XKeeps pm z (execCanBusStateChange t p passive s) := by
  unfold execCanBusStateChange
  repeat' first
    | with_reducible assumption
    | with_reducible apply keeps_clocked
    | with_reducible apply keeps_busState
    | with_reducible exact narrow hpm
    | with_reducible intro _ _

theorem keeps_execSdoDownload {pm : Nat} {z : State} {t : Nat} {p : PortId} {idx : Nat} {sub : Nat} {off : Nat} {last : Bool} {b : List Byte} {s : State} (hpm : Within 0x1f7fffffc pm) (hk : Keeps pm z (arrive t s)) : XKeeps pm z (execSdoDownload t p idx sub off last b s) := by
  unfold execSdoDownload
  repeat' first
    | with_reducible assumption
    | with_reducible apply OKeeps.some
    | with_reducible apply keeps_canFrame
    | with_reducible apply keeps_sdoDownload
    | with_reducible intro _ _

theorem keeps_execSdoUpload {pm : Nat} {z : State} {t : Nat} {p : PortId} {idx : Nat} {sub : Nat} {off : Nat} {max : Nat} {s : State} (hpm : Within 0x1f7fffffc pm) (hk : Keeps pm z (arrive t s)) : XKeeps pm z (execSdoUpload t p idx sub off max s) := by
  unfold execSdoUpload
  repeat' first
    | with_reducible assumption
    | with_reducible apply OKeeps.some
    | with_reducible apply keeps_canFrame
    | with_reducible apply keeps_sdoUpload
    | with_reducible exact narrow hpm
    | with_reducible intro _ _

theorem keeps_execSdoTimeout {pm : Nat} {z : State} {t : Nat} {p : PortId} {s : State} (hpm : Within 0x1f7fffffc pm) (hk : Keeps pm z (arrive t s)) : XKeeps pm z (execSdoTimeout t p s) := by
  unfold execSdoTimeout
  repeat' first
    | with_reducible assumption
    | with_reducible apply keeps_settled
    | with_reducible apply keeps_sdoExpire
    | with_reducible exact narrow hpm
    | with_reducible intro _ _

theorem keeps_execRpdo {pm : Nat} {z : State} {t : Nat} {i : PdoId} {b : List Byte} {s : State} (hpm : Within 0x1f7fffffc pm) (hk : Keeps pm z (arrive t s)) : XKeeps pm z (execRpdo t i b s) := by
  unfold execRpdo
  repeat' first
    | with_reducible assumption
    | with_reducible apply OKeeps.some
    | with_reducible apply keeps_canFrame
    | with_reducible apply keeps_rpdoReceive
    | with_reducible intro _ _

theorem keeps_execTpdoCyclic {pm : Nat} {z : State} {t : Nat} {i : PdoId} {s : State} (hpm : Within 0x480104 pm) (hk : Keeps pm z (arrive t s)) : XKeeps pm z (execTpdoCyclic t i s) := by
  unfold execTpdoCyclic
  repeat' first
    | with_reducible assumption
    | with_reducible apply keeps_clocked
    | with_reducible apply keeps_pdoCyclic
    | with_reducible exact narrow hpm
    | with_reducible intro _ _

theorem keeps_execCanSync {pm : Nat} {z : State} {t : Nat} {p : PortId} {s : State} (hpm : Within 0x1f7fffffc pm) (hk : Keeps pm z (arrive t s)) : XKeeps pm z (execCanSync t p s) := by
  unfold execCanSync
  repeat' first
    | with_reducible assumption
    | with_reducible apply keeps_canFrame
    | with_reducible apply keeps_pdoSync
    | with_reducible exact narrow hpm
    | with_reducible intro _ _

theorem keeps_execTpdoTrigger {pm : Nat} {z : State} {src : Source} {i : PdoId} {s : State} (hpm : Within 0x1f7fffffc pm) (hk : Keeps pm z s) : XKeeps pm z (execTpdoTrigger src i s) := by
  unfold execTpdoTrigger
  repeat' first
    | with_reducible assumption
    | with_reducible apply keeps_setNum

theorem keeps_execCobidWrite {pm : Nat} {z : State} {src : Source} {i : PdoId} {v : Nat} {s : State} (hpm : Within 0x1f7fffffc pm) (hk : Keeps pm z s) : XKeeps pm z (execCobidWrite src i v s) := by
  unfold execCobidWrite
  repeat' first
    | with_reducible assumption
    | with_reducible apply keeps_setNum

theorem keeps_execPtpSync {pm : Nat} {z : State} {t : Nat} {p : PortId} {domain : Nat} {id : Nat} {seq : Nat} {origin : Option Nat} {s : State} (hpm : Within 0x1e0480708 pm) (hk : Keeps pm z (arrive t s)) : XKeeps pm z (execPtpSync t p domain id seq origin s) := by
  unfold execPtpSync
  repeat' first
    | with_reducible assumption
    | with_reducible apply keeps_arrives
    | with_reducible apply keeps_ptpSync
    | with_reducible exact narrow hpm
    | with_reducible intro _ _

theorem keeps_execPtpFollowUp {pm : Nat} {z : State} {t : Nat} {p : PortId} {domain : Nat} {id : Nat} {seq : Nat} {origin : Nat} {s : State} (hpm : Within 0x1e0480708 pm) (hk : Keeps pm z (arrive t s)) : XKeeps pm z (execPtpFollowUp t p domain id seq origin s) := by
  unfold execPtpFollowUp
  repeat' first
    | with_reducible assumption
    | with_reducible apply keeps_arrives
    | with_reducible apply keeps_ptpFollowUp
    | with_reducible exact narrow hpm
    | with_reducible intro _ _

theorem keeps_execPtpAnnounce {pm : Nat} {z : State} {t : Nat} {p : PortId} {domain : Nat} {id : Nat} {gm : Nat} {priority1 : Nat} {quality : Nat} {priority2 : Nat} {steps : Nat} {s : State} (hpm : Within 0x480718 pm) (hk : Keeps pm z (arrive t s)) : XKeeps pm z (execPtpAnnounce t p domain id gm priority1 quality priority2 steps s) := by
  unfold execPtpAnnounce
  repeat' first
    | with_reducible assumption
    | with_reducible apply keeps_arrives
    | with_reducible apply keeps_ptpAnnounce
    | with_reducible exact narrow hpm
    | with_reducible intro _ _

theorem keeps_execPtpDelayReq {pm : Nat} {z : State} {t : Nat} {s : State} (hpm : Within 0x400104 pm) (hk : Keeps pm z (arrive t s)) : XKeeps pm z (execPtpDelayReq t s) := by
  unfold execPtpDelayReq
  repeat' first
    | with_reducible assumption
    | with_reducible apply keeps_clocked
    | with_reducible apply keeps_ptpDelayReq
    | with_reducible exact narrow hpm
    | with_reducible intro _ _

theorem keeps_execPtpDelayResp {pm : Nat} {z : State} {t : Nat} {p : PortId} {domain : Nat} {id : Nat} {seq : Nat} {t4 : Nat} {s : State} (hpm : Within 0x400008 pm) (hk : Keeps pm z (arrive t s)) : XKeeps pm z (execPtpDelayResp t p domain id seq t4 s) := by
  unfold execPtpDelayResp
  repeat' first
    | with_reducible assumption
    | with_reducible apply keeps_arrives
    | with_reducible apply keeps_ptpDelayResp
    | with_reducible exact narrow hpm
    | with_reducible intro _ _

theorem keeps_execAnnounceReceiptTimeout {pm : Nat} {z : State} {t : Nat} {s : State} (hpm : Within 0x1e0480708 pm) (hk : Keeps pm z (arrive t s)) : XKeeps pm z (execAnnounceReceiptTimeout t s) := by
  unfold execAnnounceReceiptTimeout
  repeat' first
    | with_reducible assumption
    | with_reducible apply keeps_clocked
    | with_reducible apply keeps_ptpExpire
    | with_reducible exact narrow hpm
    | with_reducible intro _ _

theorem keeps_execPpsInEdge {pm : Nat} {z : State} {t : Nat} {s : State} (hpm : Within 0x1e0000108 pm) (hk : Keeps pm z (arrive t s)) : XKeeps pm z (execPpsInEdge t s) := by
  unfold execPpsInEdge
  repeat' first
    | with_reducible assumption
    | with_reducible apply keeps_clocked
    | with_reducible apply keeps_ppsIn
    | with_reducible exact narrow hpm
    | with_reducible intro _ _

theorem keeps_execPpsOutSecond {pm : Nat} {z : State} {t : Nat} {s : State} (hpm : Within 0x400000 pm) (hk : Keeps pm z (arrive t s)) : XKeeps pm z (execPpsOutSecond t s) := by
  unfold execPpsOutSecond
  repeat' first
    | with_reducible assumption
    | with_reducible apply keeps_clocked
    | with_reducible apply keeps_ppsOut
    | with_reducible exact narrow hpm
    | with_reducible intro _ _

theorem keeps_execPpsOutWidthEnd {pm : Nat} {z : State} {t : Nat} {s : State} (hpm : Within 0x400000 pm) (hk : Keeps pm z (arrive t s)) : XKeeps pm z (execPpsOutWidthEnd t s) := by
  unfold execPpsOutWidthEnd
  repeat' first
    | with_reducible assumption
    | with_reducible apply keeps_clocked
    | with_reducible apply keeps_ppsFall
    | with_reducible exact narrow hpm
    | with_reducible intro _ _

theorem keeps_execEthLinkChange {pm : Nat} {z : State} {t : Nat} {p : PortId} {up : Bool} {s : State} (hpm : Within 0x480718 pm) (hk : Keeps pm z (arrive t s)) : XKeeps pm z (execEthLinkChange t p up s) := by
  unfold execEthLinkChange
  repeat' first
    | with_reducible assumption
    | with_reducible apply keeps_clocked
    | with_reducible apply keeps_linkChange
    | with_reducible exact narrow hpm
    | with_reducible intro _ _

/-! CmdPower -/

theorem keeps_execPowerOn {pm : Nat} {z : State} {t : Nat} {pairRole : Bool} {jtagEnable : Bool} {bootRecovery : Bool} {coreDebug : Bool} {flash : List (Nat × List Byte)} {s : State} (hpm : Within 0x1ffffe6fc pm) (hk : Keeps pm z (arrive t s)) : XKeeps pm z (execPowerOn t pairRole jtagEnable bootRecovery coreDebug flash s) := by
  unfold execPowerOn
  repeat' first
    | with_reducible assumption
    | with_reducible apply OKeeps.some
    | with_reducible apply keeps_tick
    | with_reducible apply keeps_powerOn
    | with_reducible exact narrow hpm
    | with_reducible intro _ _

theorem keeps_execBrownOut {pm : Nat} {z : State} {t : Nat} {s : State} (hpm : Within 0x1f7ffe6fc pm) (hk : Keeps pm z (arrive t s)) : XKeeps pm z (execBrownOut t s) := by
  unfold execBrownOut
  repeat' first
    | with_reducible assumption
    | with_reducible apply OKeeps.some
    | with_reducible apply keeps_tick
    | with_reducible apply keeps_brownOut
    | with_reducible exact narrow hpm
    | with_reducible intro _ _

theorem keeps_execPowerFail {pm : Nat} {z : State} {t : Nat} {mv : Nat} {s : State} (hpm : Within 0x1f7ffe7fc pm) (hk : Keeps pm z (arrive t s)) : XKeeps pm z (execPowerFail t mv s) := by
  unfold execPowerFail
  repeat' first
    | with_reducible assumption
    | with_reducible apply OKeeps.some
    | with_reducible apply keeps_tick
    | with_reducible apply keeps_powerFail
    | with_reducible exact narrow hpm
    | with_reducible intro _ _

theorem keeps_execSupplyOvercurrent {pm : Nat} {z : State} {t : Nat} {o : Fin 2} {s : State} (hpm : Within 0x1080708 pm) (hk : Keeps pm z (arrive t s)) : XKeeps pm z (execSupplyOvercurrent t o s) := by
  unfold execSupplyOvercurrent
  repeat' first
    | with_reducible assumption
    | with_reducible exact OKeeps.none
    | with_reducible apply OKeeps.some
    | with_reducible apply keeps_tick
    | with_reducible apply keeps_supplyTrip
    | with_reducible exact narrow hpm
    | split
    | with_reducible intro _ _

theorem keeps_execBoardSupplyModeWrite {pm : Nat} {z : State} {src : Source} {v : Nat} {s : State} (hpm : Within 0x1f7fffffc pm) (hk : Keeps pm z s) : XKeeps pm z (execBoardSupplyModeWrite src v s) := by
  unfold execBoardSupplyModeWrite
  repeat' first
    | with_reducible assumption
    | with_reducible apply keeps_setNum

theorem keeps_execLpddrSupplyEnableWrite {pm : Nat} {z : State} {src : Source} {v : Nat} {s : State} (hpm : Within 0x1f7fffffc pm) (hk : Keeps pm z s) : XKeeps pm z (execLpddrSupplyEnableWrite src v s) := by
  unfold execLpddrSupplyEnableWrite
  repeat' first
    | with_reducible assumption
    | with_reducible apply keeps_setNum

theorem keeps_execLpddrSupplyFault {pm : Nat} {z : State} {t : Nat} {i : LpId} {s : State} (hpm : Within 0x3faa7e8 pm) (hk : Keeps pm z (arrive t s)) : XKeeps pm z (execLpddrSupplyFault t i s) := by
  unfold execLpddrSupplyFault
  repeat' first
    | with_reducible assumption
    | with_reducible exact OKeeps.none
    | with_reducible apply OKeeps.some
    | with_reducible apply keeps_tick
    | with_reducible apply keeps_lpddrSupplyTrip
    | with_reducible exact narrow hpm
    | split
    | with_reducible intro _ _

theorem keeps_execDomainRequestOn {pm : Nat} {z : State} {src : Source} {d : DomainId} {s : State} (hpm : Within 0x1f7fffffc pm) (hk : Keeps pm z s) : XKeeps pm z (execDomainRequestOn src d s) := by
  unfold execDomainRequestOn
  repeat' first
    | with_reducible assumption
    | with_reducible apply keeps_setNum

theorem keeps_execDomainRequestOff {pm : Nat} {z : State} {src : Source} {d : DomainId} {s : State} (hpm : Within 0x1f7fffffc pm) (hk : Keeps pm z s) : XKeeps pm z (execDomainRequestOff src d s) := by
  unfold execDomainRequestOff
  repeat' first
    | with_reducible assumption
    | with_reducible apply keeps_setNum

theorem keeps_execDomainRequestRetained {pm : Nat} {z : State} {src : Source} {d : DomainId} {s : State} (hpm : Within 0x1f7fffffc pm) (hk : Keeps pm z s) : XKeeps pm z (execDomainRequestRetained src d s) := by
  unfold execDomainRequestRetained
  repeat' first
    | with_reducible assumption
    | with_reducible apply keeps_setNum

theorem keeps_execDomainStartComplete {pm : Nat} {z : State} {t : Nat} {d : DomainId} {ok : Bool} {s : State} (hpm : Within 0x138e7ec pm) (hk : Keeps pm z (arrive t s)) : XKeeps pm z (execDomainStartComplete t d ok s) := by
  unfold execDomainStartComplete
  repeat' first
    | with_reducible assumption
    | with_reducible apply keeps_clocked
    | with_reducible apply keeps_domainStarted
    | with_reducible exact narrow hpm
    | with_reducible intro _ _

theorem keeps_execDomainFenceApplied {pm : Nat} {z : State} {t : Nat} {d : DomainId} {s : State} (hpm : Within 0x28 pm) (hk : Keeps pm z (arrive t s)) : XKeeps pm z (execDomainFenceApplied t d s) := by
  unfold execDomainFenceApplied
  repeat' first
    | with_reducible assumption
    | with_reducible apply keeps_clocked
    | with_reducible apply keeps_domainFenced
    | with_reducible exact narrow hpm
    | with_reducible intro _ _

theorem keeps_execDomainDrainComplete {pm : Nat} {z : State} {t : Nat} {d : DomainId} {s : State} (hpm : Within 0x280728 pm) (hk : Keeps pm z (arrive t s)) : XKeeps pm z (execDomainDrainComplete t d s) := by
  unfold execDomainDrainComplete
  repeat' first
    | with_reducible assumption
    | with_reducible apply keeps_clocked
    | with_reducible apply keeps_domainDrained
    | with_reducible exact narrow hpm
    | with_reducible intro _ _

theorem keeps_execDomainStopComplete {pm : Nat} {z : State} {t : Nat} {d : DomainId} {s : State} (hpm : Within 0x3faa7e8 pm) (hk : Keeps pm z (arrive t s)) : XKeeps pm z (execDomainStopComplete t d s) := by
  unfold execDomainStopComplete
  repeat' first
    | with_reducible assumption
    | with_reducible apply keeps_clocked
    | with_reducible apply keeps_domainStopped
    | with_reducible exact narrow hpm
    | with_reducible intro _ _

theorem keeps_execPowerModeRun {pm : Nat} {z : State} {src : Source} {s : State} (hpm : Within 0x1f7fffffc pm) (hk : Keeps pm z s) : XKeeps pm z (execPowerModeRun src s) := by
  unfold execPowerModeRun
  repeat' first
    | with_reducible assumption
    | with_reducible apply keeps_setNum
    | with_reducible apply keeps_woken
    | with_reducible apply keeps_start
    | with_reducible exact narrow hpm
    | split

theorem keeps_execPowerModeLineStop {pm : Nat} {z : State} {src : Source} {s : State} (hpm : Within 0x1f7fffffc pm) (hk : Keeps pm z s) : XKeeps pm z (execPowerModeLineStop src s) := by
  unfold execPowerModeLineStop
  repeat' first
    | with_reducible assumption
    | with_reducible apply keeps_setNum

theorem keeps_execPowerModeSleep {pm : Nat} {z : State} {src : Source} {s : State} (hpm : Within 0x1f7fffffc pm) (hk : Keeps pm z s) : XKeeps pm z (execPowerModeSleep src s) := by
  unfold execPowerModeSleep
  repeat' first
    | with_reducible assumption
    | with_reducible apply keeps_setNum

theorem keeps_execPowerModeDeepSleep {pm : Nat} {z : State} {src : Source} {s : State} (hpm : Within 0x1f7fffffc pm) (hk : Keeps pm z s) : XKeeps pm z (execPowerModeDeepSleep src s) := by
  unfold execPowerModeDeepSleep
  repeat' first
    | with_reducible assumption
    | with_reducible apply keeps_setNum

theorem keeps_execLineStopClockStop {pm : Nat} {z : State} {t : Nat} {s : State} (hpm : Within 0x3faa7e8 pm) (hk : Keeps pm z (arrive t s)) : XKeeps pm z (execLineStopClockStop t s) := by
  unfold execLineStopClockStop
  repeat' first
    | with_reducible assumption
    | with_reducible apply keeps_clocked
    | with_reducible apply keeps_lineStopEnter
    | with_reducible exact narrow hpm
    | with_reducible intro _ _

theorem keeps_execLineStopEntryTimeout {pm : Nat} {z : State} {t : Nat} {s : State} (hpm : Within 0x1000008 pm) (hk : Keeps pm z (arrive t s)) : XKeeps pm z (execLineStopEntryTimeout t s) := by
  unfold execLineStopEntryTimeout
  repeat' first
    | with_reducible assumption
    | with_reducible apply keeps_clocked
    | with_reducible apply keeps_lineStopExpire
    | with_reducible exact narrow hpm
    | with_reducible intro _ _

theorem keeps_execWake {pm : Nat} {z : State} {t : Nat} {cause : Fin 5} {s : State} (hpm : Within 0x1f7fffffc pm) (hk : Keeps pm z (arrive t s)) : XKeeps pm z (execWake t cause s) := by
  unfold execWake
  repeat' first
    | with_reducible assumption
    | with_reducible apply keeps_wakeBy

theorem keeps_execPllLockLoss {pm : Nat} {z : State} {t : Nat} {aclkOk : Bool} {nclkOk : Bool} {s : State} (hpm : Within 0x80708 pm) (hk : Keeps pm z (arrive t s)) : XKeeps pm z (execPllLockLoss t aclkOk nclkOk s) := by
  unfold execPllLockLoss
  repeat' first
    | with_reducible assumption
    | with_reducible apply OKeeps.some
    | with_reducible apply keeps_clocked
    | with_reducible apply keeps_pllLocks
    | with_reducible exact narrow hpm
    | with_reducible intro _ _

theorem keeps_execRcTrim {pm : Nat} {z : State} {t : Nat} {err : Int} {s : State} (hpm : Within 0x1000008 pm) (hk : Keeps pm z (arrive t s)) : XKeeps pm z (execRcTrim t err s) := by
  unfold execRcTrim
  repeat' first
    | with_reducible assumption
    | with_reducible apply keeps_clocked
    | with_reducible apply keeps_rcTrim
    | with_reducible exact narrow hpm
    | with_reducible intro _ _

theorem keeps_execLfxoStop {pm : Nat} {z : State} {t : Nat} {s : State} (hpm : Within 0x1000008 pm) (hk : Keeps pm z (arrive t s)) : XKeeps pm z (execLfxoStop t s) := by
  unfold execLfxoStop
  repeat' first
    | with_reducible assumption
    | with_reducible apply keeps_tick
    | with_reducible apply keeps_lfxoStop
    | with_reducible exact narrow hpm
    | with_reducible intro _ _

theorem keeps_execTempSample {pm : Nat} {z : State} {t : Nat} {temp : Int} {s : State} (hpm : Within 0x1f7ffe7fc pm) (hk : Keeps pm z (arrive t s)) : XKeeps pm z (execTempSample t temp s) := by
  unfold execTempSample
  repeat' first
    | with_reducible assumption
    | with_reducible apply keeps_tick
    | with_reducible apply keeps_tempSample
    | with_reducible exact narrow hpm
    | with_reducible intro _ _

theorem keeps_execFurrowClockGate {pm : Nat} {z : State} {t : Nat} {f : FieldId} {u : Furrow} {s : State} (hpm : Within 0x1002000 pm) (hk : Keeps pm z (arrive t s)) : XKeeps pm z (execFurrowClockGate t f u s) := by
  unfold execFurrowClockGate
  repeat' first
    | with_reducible assumption
    | with_reducible apply keeps_clocked
    | with_reducible apply keeps_furrowGate
    | with_reducible exact narrow hpm
    | with_reducible intro _ _

theorem keeps_execEngineReset {pm : Nat} {z : State} {src : Source} {s : State} (hpm : Within 0x1f7fffffc pm) (hk : Keeps pm z s) : XKeeps pm z (execEngineReset src s) := by
  unfold execEngineReset
  repeat' first
    | with_reducible assumption
    | with_reducible apply keeps_setNum

theorem keeps_execPorst {pm : Nat} {z : State} {t : Nat} {low : Option Nat} {pairRole : Bool} {jtagEnable : Bool} {bootRecovery : Bool} {coreDebug : Bool} {s : State} (hpm : Within 0x1ffffe7fc pm) (hk : Keeps pm z (arrive t s)) : XKeeps pm z (execPorst t low pairRole jtagEnable bootRecovery coreDebug s) := by
  unfold execPorst
  repeat' first
    | with_reducible assumption
    | with_reducible apply OKeeps.some
    | with_reducible apply keeps_tick
    | with_reducible apply keeps_porst
    | with_reducible exact narrow hpm
    | with_reducible intro _ _

theorem keeps_execResetOutRelease {pm : Nat} {z : State} {t : Nat} {s : State} (hpm : Within 0x1000000 pm) (hk : Keeps pm z (arrive t s)) : XKeeps pm z (execResetOutRelease t s) := by
  unfold execResetOutRelease
  repeat' first
    | with_reducible assumption
    | with_reducible apply keeps_tick
    | with_reducible apply keeps_resetOutRise
    | with_reducible exact narrow hpm
    | with_reducible intro _ _

/-! CmdBoot -/

theorem keeps_execBoot {pm : Nat} {z : State} {t : Nat} {ok : Bool} {badSlots : List Nat} {s : State} (hpm : Within 0x1f7fffffc pm) (hk : Keeps pm z (arrive t s)) : XKeeps pm z (execBoot t ok badSlots s) := by
  unfold execBoot
  repeat' first
    | with_reducible assumption
    | with_reducible apply keeps_tick
    | with_reducible apply keeps_bootStep
    | with_reducible exact narrow hpm
    | with_reducible intro _ _

theorem keeps_execStoreParameters {pm : Nat} {z : State} {src : Source} {s : State} (hpm : Within 0x1f7fffffc pm) (hk : Keeps pm z s) : XKeeps pm z (execStoreParameters src s) := by
  unfold execStoreParameters
  repeat' first
    | with_reducible assumption
    | with_reducible apply keeps_setNum

theorem keeps_execStoreComplete {pm : Nat} {z : State} {t : Nat} {ok : Bool} {s : State} (hpm : Within 0x2880708 pm) (hk : Keeps pm z (arrive t s)) : XKeeps pm z (execStoreComplete t ok s) := by
  unfold execStoreComplete
  repeat' first
    | with_reducible assumption
    | with_reducible apply keeps_clocked
    | with_reducible apply keeps_storeEnd
    | with_reducible exact narrow hpm
    | with_reducible intro _ _

theorem keeps_execRestoreDefaults {pm : Nat} {z : State} {src : Source} {s : State} (hpm : Within 0x1f7fffffc pm) (hk : Keeps pm z s) : XKeeps pm z (execRestoreDefaults src s) := by
  unfold execRestoreDefaults
  repeat' first
    | with_reducible assumption
    | with_reducible apply keeps_setNum

theorem keeps_execFirmwareUpdate {pm : Nat} {z : State} {src : Source} {bytes : List Byte} {s : State} (hpm : Within 0x1f7fffffc pm) (hk : Keeps pm z s) : XKeeps pm z (execFirmwareUpdate src bytes s) := by
  unfold execFirmwareUpdate
  repeat' first
    | with_reducible assumption
    | with_reducible apply keeps_setBytes

theorem keeps_execFlashUpdateComplete {pm : Nat} {z : State} {t : Nat} {ok : Bool} {s : State} (hpm : Within 0x2880708 pm) (hk : Keeps pm z (arrive t s)) : XKeeps pm z (execFlashUpdateComplete t ok s) := by
  unfold execFlashUpdateComplete
  repeat' first
    | with_reducible assumption
    | with_reducible apply keeps_clocked
    | with_reducible apply keeps_flashEnd
    | with_reducible exact narrow hpm
    | with_reducible intro _ _

theorem keeps_execFirmwareRollbackFloorWrite {pm : Nat} {z : State} {src : Source} {v : Nat} {s : State} (hpm : Within 0x1f7fffffc pm) (hk : Keeps pm z s) : XKeeps pm z (execFirmwareRollbackFloorWrite src v s) := by
  unfold execFirmwareRollbackFloorWrite
  repeat' first
    | with_reducible assumption
    | with_reducible apply keeps_setNum

theorem keeps_execMailboxSha3512 {pm : Nat} {z : State} {t : Nat} {n : CoreId} {s : State} (hpm : Within 0x2000004 pm) (hk : Keeps pm z (arrive t s)) : XKeeps pm z (execMailboxSha3512 t n s) := by
  unfold execMailboxSha3512
  repeat' first
    | with_reducible assumption
    | with_reducible apply keeps_port
    | with_reducible apply keeps_mailboxWrite
    | with_reducible exact narrow hpm
    | simp only [PKeeps.iff]
    | split
    | with_reducible intro _ _

theorem keeps_execMailboxShake256 {pm : Nat} {z : State} {t : Nat} {n : CoreId} {s : State} (hpm : Within 0x2000004 pm) (hk : Keeps pm z (arrive t s)) : XKeeps pm z (execMailboxShake256 t n s) := by
  unfold execMailboxShake256
  repeat' first
    | with_reducible assumption
    | with_reducible apply keeps_port
    | with_reducible apply keeps_mailboxWrite
    | with_reducible exact narrow hpm
    | simp only [PKeeps.iff]
    | split
    | with_reducible intro _ _

theorem keeps_execMailboxVerify {pm : Nat} {z : State} {t : Nat} {n : CoreId} {s : State} (hpm : Within 0x2000004 pm) (hk : Keeps pm z (arrive t s)) : XKeeps pm z (execMailboxVerify t n s) := by
  unfold execMailboxVerify
  repeat' first
    | with_reducible assumption
    | with_reducible apply keeps_port
    | with_reducible apply keeps_mailboxWrite
    | with_reducible exact narrow hpm
    | simp only [PKeeps.iff]
    | split
    | with_reducible intro _ _

theorem keeps_execMailboxSign {pm : Nat} {z : State} {t : Nat} {n : CoreId} {s : State} (hpm : Within 0x2000004 pm) (hk : Keeps pm z (arrive t s)) : XKeeps pm z (execMailboxSign t n s) := by
  unfold execMailboxSign
  repeat' first
    | with_reducible assumption
    | with_reducible apply keeps_port
    | with_reducible apply keeps_mailboxWrite
    | with_reducible exact narrow hpm
    | simp only [PKeeps.iff]
    | split
    | with_reducible intro _ _

theorem keeps_execMailboxRandom {pm : Nat} {z : State} {t : Nat} {n : CoreId} {s : State} (hpm : Within 0x2000004 pm) (hk : Keeps pm z (arrive t s)) : XKeeps pm z (execMailboxRandom t n s) := by
  unfold execMailboxRandom
  repeat' first
    | with_reducible assumption
    | with_reducible apply keeps_port
    | with_reducible apply keeps_mailboxWrite
    | with_reducible exact narrow hpm
    | simp only [PKeeps.iff]
    | split
    | with_reducible intro _ _

theorem keeps_execMailboxComplete {pm : Nat} {z : State} {t : Nat} {n : CoreId} {s : State} (hpm : Within 0x1f7fffffc pm) (hk : Keeps pm z (arrive t s)) : XKeeps pm z (execMailboxComplete t n s) := by
  unfold execMailboxComplete
  repeat' first
    | with_reducible assumption
    | with_reducible apply keeps_settled
    | with_reducible apply keeps_mailboxEnd
    | with_reducible exact narrow hpm
    | with_reducible intro _ _

theorem keeps_execTrngHealthFail {pm : Nat} {z : State} {t : Nat} {s : State} (hpm : Within 0x80728 pm) (hk : Keeps pm z (arrive t s)) : XKeeps pm z (execTrngHealthFail t s) := by
  unfold execTrngHealthFail
  repeat' first
    | with_reducible assumption
    | with_reducible exact OKeeps.none
    | with_reducible apply OKeeps.some
    | with_reducible apply keeps_clocked
    | with_reducible apply keeps_trngFail
    | with_reducible exact narrow hpm
    | split
    | with_reducible intro _ _

theorem keeps_execTrngRestart {pm : Nat} {z : State} {src : Source} {s : State} (hpm : Within 0x1f7fffffc pm) (hk : Keeps pm z s) : XKeeps pm z (execTrngRestart src s) := by
  unfold execTrngRestart
  repeat' first
    | with_reducible assumption
    | with_reducible apply keeps_setNum

theorem keeps_execTrngStartupComplete {pm : Nat} {z : State} {t : Nat} {ok : Bool} {s : State} (hpm : Within 0x80728 pm) (hk : Keeps pm z (arrive t s)) : XKeeps pm z (execTrngStartupComplete t ok s) := by
  unfold execTrngStartupComplete
  repeat' first
    | with_reducible assumption
    | with_reducible apply keeps_clocked
    | with_reducible apply keeps_trngStarted
    | with_reducible exact narrow hpm
    | with_reducible intro _ _

theorem keeps_execRandomRead {pm : Nat} {z : State} {src : Source} {s : State} (hpm : Within 0x1f7fffffc pm) (hk : Keeps pm z s) : XKeeps pm z (execRandomRead src s) := by
  unfold execRandomRead
  repeat' first
    | with_reducible assumption
    | with_reducible apply keeps_readObj

theorem keeps_execOwnerInstall {pm : Nat} {z : State} {src : Source} {bytes : List Byte} {nvmOk : Bool} {s : State} (hpm : Within 0x1f7fffffc pm) (hk : Keeps pm z s) : XKeeps pm z (execOwnerInstall src bytes nvmOk s) := by
  unfold execOwnerInstall
  repeat' first
    | with_reducible assumption
    | with_reducible apply keeps_accessWith

theorem keeps_execKeyInstall {pm : Nat} {z : State} {src : Source} {bytes : List Byte} {nvmOk : Bool} {s : State} (hpm : Within 0x1f7fffffc pm) (hk : Keeps pm z s) : XKeeps pm z (execKeyInstall src bytes nvmOk s) := by
  unfold execKeyInstall
  repeat' first
    | with_reducible assumption
    | with_reducible apply keeps_accessWith

theorem keeps_execKeyErase {pm : Nat} {z : State} {src : Source} {bytes : List Byte} {nvmOk : Bool} {s : State} (hpm : Within 0x1f7fffffc pm) (hk : Keeps pm z s) : XKeeps pm z (execKeyErase src bytes nvmOk s) := by
  unfold execKeyErase
  repeat' first
    | with_reducible assumption
    | with_reducible apply keeps_accessWith

theorem keeps_execKeyReplaceOwner {pm : Nat} {z : State} {src : Source} {bytes : List Byte} {nvmOk : Bool} {s : State} (hpm : Within 0x1f7fffffc pm) (hk : Keeps pm z s) : XKeeps pm z (execKeyReplaceOwner src bytes nvmOk s) := by
  unfold execKeyReplaceOwner
  repeat' first
    | with_reducible assumption
    | with_reducible apply keeps_accessWith

theorem keeps_execAttestNonce {pm : Nat} {z : State} {src : Source} {bytes : List Byte} {s : State} (hpm : Within 0x1f7fffffc pm) (hk : Keeps pm z s) : XKeeps pm z (execAttestNonce src bytes s) := by
  unfold execAttestNonce
  repeat' first
    | with_reducible assumption
    | with_reducible apply keeps_setBytes

theorem keeps_execAttestDone {pm : Nat} {z : State} {t : Nat} {s : State} (hpm : Within 0x1f7fffffc pm) (hk : Keeps pm z (arrive t s)) : XKeeps pm z (execAttestDone t s) := by
  unfold execAttestDone
  repeat' first
    | with_reducible assumption
    | with_reducible apply keeps_settled
    | with_reducible apply keeps_attestEnd
    | with_reducible exact narrow hpm
    | with_reducible intro _ _

theorem keeps_execCacheInstall {pm : Nat} {z : State} {src : Source} {bytes : List Byte} {s : State} (hpm : Within 0x1f7fffffc pm) (hk : Keeps pm z s) : XKeeps pm z (execCacheInstall src bytes s) := by
  unfold execCacheInstall
  repeat' first
    | with_reducible assumption
    | with_reducible apply keeps_setBytes

theorem keeps_execCacheErase {pm : Nat} {z : State} {src : Source} {v : Nat} {s : State} (hpm : Within 0x1f7fffffc pm) (hk : Keeps pm z s) : XKeeps pm z (execCacheErase src v s) := by
  unfold execCacheErase
  repeat' first
    | with_reducible assumption
    | with_reducible apply keeps_setNum

theorem keeps_execSnapshotCounters {pm : Nat} {z : State} {src : Source} {s : State} (hpm : Within 0x1f7fffffc pm) (hk : Keeps pm z s) : XKeeps pm z (execSnapshotCounters src s) := by
  unfold execSnapshotCounters
  repeat' first
    | with_reducible assumption
    | with_reducible apply keeps_setNum

theorem keeps_execSnapshotWriteComplete {pm : Nat} {z : State} {t : Nat} {ok : Bool} {s : State} (hpm : Within 0x1f7fffffc pm) (hk : Keeps pm z (arrive t s)) : XKeeps pm z (execSnapshotWriteComplete t ok s) := by
  unfold execSnapshotWriteComplete
  repeat' first
    | with_reducible assumption
    | with_reducible apply keeps_settled
    | with_reducible apply keeps_snapEnd
    | with_reducible exact narrow hpm
    | with_reducible intro _ _

theorem keeps_execClearCounters {pm : Nat} {z : State} {src : Source} {s : State} (hpm : Within 0x1f7fffffc pm) (hk : Keeps pm z s) : XKeeps pm z (execClearCounters src s) := by
  unfold execClearCounters
  repeat' first
    | with_reducible assumption
    | with_reducible apply keeps_setNum

/-! CmdTap -/

theorem keeps_execJtagTestLogicReset {pm : Nat} {z : State} {t : Nat} {s : State} (hpm : Within 0x4000000 pm) (hk : Keeps pm z (arrive t s)) : XKeeps pm z (execJtagTestLogicReset t s) := by
  unfold execJtagTestLogicReset
  repeat' first
    | with_reducible assumption
    | with_reducible apply OKeeps.some
    | with_reducible apply keeps_tick
    | with_reducible apply keeps_tapReset
    | with_reducible exact narrow hpm
    | with_reducible intro _ _

theorem keeps_execTapBypass {pm : Nat} {z : State} {t : Nat} {tdi : List Bool} {s : State} (hpm : Within 0x4000004 pm) (hk : Keeps pm z (arrive t s)) : XKeeps pm z (execTapBypass t tdi s) := by
  unfold execTapBypass
  repeat' first
    | with_reducible assumption
    | with_reducible apply keeps_tick
    | with_reducible apply keeps_tapBypass
    | with_reducible exact narrow hpm
    | with_reducible intro _ _

theorem keeps_execTapSamplePreload {pm : Nat} {z : State} {t : Nat} {balls : List Bool} {scan : List Bool} {s : State} (hpm : Within 0x4000004 pm) (hk : Keeps pm z (arrive t s)) : XKeeps pm z (execTapSamplePreload t balls scan s) := by
  unfold execTapSamplePreload
  repeat' first
    | with_reducible assumption
    | with_reducible apply keeps_tick
    | with_reducible apply keeps_tapSample
    | with_reducible exact narrow hpm
    | with_reducible intro _ _

theorem keeps_execTapExtest {pm : Nat} {z : State} {t : Nat} {balls : List Bool} {scan : List Bool} {s : State} (hpm : Within 0x4000004 pm) (hk : Keeps pm z (arrive t s)) : XKeeps pm z (execTapExtest t balls scan s) := by
  unfold execTapExtest
  repeat' first
    | with_reducible assumption
    | with_reducible apply keeps_tick
    | with_reducible apply keeps_tapExtest
    | with_reducible exact narrow hpm
    | with_reducible intro _ _

theorem keeps_execTapIdcode {pm : Nat} {z : State} {t : Nat} {s : State} (hpm : Within 0x4000004 pm) (hk : Keeps pm z (arrive t s)) : XKeeps pm z (execTapIdcode t s) := by
  unfold execTapIdcode
  repeat' first
    | with_reducible assumption
    | with_reducible apply keeps_tick
    | with_reducible apply keeps_tapIdcode
    | with_reducible exact narrow hpm
    | with_reducible intro _ _

/-! Dispatch -/

theorem keeps_exec {pm : Nat} {z : State} {i : Instr} {s : State} (hpm : Within 0x1fffffffe pm) (hk : Keeps pm z s) : XKeeps pm z (exec i s) := by
  cases i
  · exact keeps_execObjectWrite (narrow hpm) hk
  · exact keeps_execTroubleCounterClear (narrow hpm) hk
  · exact keeps_execEventCauseClear (narrow hpm) hk
  · exact keeps_execU64LowWordRead (narrow hpm) hk
  · exact keeps_execU64HighWordWrite (narrow hpm) hk
  · exact keeps_execU64LowWordWrite (narrow hpm) hk
  · exact keeps_execDomainTransferRead (narrow hpm) hk
  · exact keeps_execDomainTransferWrite (narrow hpm) hk
  · exact keeps_execDomainTransferComplete (narrow hpm) (keeps_arrive (narrow hpm) hk)
  · exact keeps_execCellFire (narrow hpm) (keeps_arrive (narrow hpm) hk)
  · exact keeps_execOperationComplete (narrow hpm) (keeps_arrive (narrow hpm) hk)
  · exact keeps_execResultDelivery (narrow hpm) (keeps_arrive (narrow hpm) hk)
  · exact keeps_execConfigRegisterWrite (narrow hpm) (keeps_arrive (narrow hpm) hk)
  · exact keeps_execLutEntryWrite (narrow hpm) (keeps_arrive (narrow hpm) hk)
  · exact keeps_execCapoStateWrite (narrow hpm) (keeps_arrive (narrow hpm) hk)
  · exact keeps_execRowBypassWrite (narrow hpm) hk
  · exact keeps_execBypassStageTransfer (narrow hpm) (keeps_arrive (narrow hpm) hk)
  · exact keeps_execDrillReadItem (narrow hpm) (keeps_arrive (narrow hpm) hk)
  · exact keeps_execDrillWriteAccept (narrow hpm) (keeps_arrive (narrow hpm) hk)
  · exact keeps_execDrillWriteStore (narrow hpm) (keeps_arrive (narrow hpm) hk)
  · exact keeps_execFieldMemoryNetworkAccess (narrow hpm) (keeps_arrive (narrow hpm) hk)
  · exact keeps_execTuningLoadGo (narrow hpm) hk
  · exact keeps_execTuningLoadCopyDone (narrow hpm) (keeps_arrive (narrow hpm) hk)
  · exact keeps_execTuningLoadComplete (narrow hpm) (keeps_arrive (narrow hpm) hk)
  · exact keeps_execRetuneGo (narrow hpm) hk
  · exact keeps_execGroupRetuneGo (narrow hpm) hk
  · exact keeps_execRetuneCueToken (narrow hpm) (keeps_arrive (narrow hpm) hk)
  · exact keeps_execDrainSwitch (narrow hpm) (keeps_arrive (narrow hpm) hk)
  · exact keeps_execRetuneLimitExpiry (narrow hpm) (keeps_arrive (narrow hpm) hk)
  · exact keeps_execRetuneCancel (narrow hpm) hk
  · exact keeps_execCapoHold (narrow hpm) hk
  · exact keeps_execCapoRelease (narrow hpm) hk
  · exact keeps_execCapoBoundary (narrow hpm) (keeps_arrive (narrow hpm) hk)
  · exact keeps_execFieldHalt (narrow hpm) hk
  · exact keeps_execFieldRun (narrow hpm) hk
  · exact keeps_execFieldClear (narrow hpm) hk
  · exact keeps_execActivateSlot (narrow hpm) hk
  · exact keeps_execQueueItemWrite (narrow hpm) (keeps_arrive (narrow hpm) hk)
  · exact keeps_execQueueItemEndWrite (narrow hpm) (keeps_arrive (narrow hpm) hk)
  · exact keeps_execQueuePop (narrow hpm) (keeps_arrive (narrow hpm) hk)
  · exact keeps_execQueuePeek (narrow hpm) (keeps_arrive (narrow hpm) hk)
  · exact keeps_execEdgePortInputToken (narrow hpm) (keeps_arrive (narrow hpm) hk)
  · exact keeps_execEdgePortOutputToken (narrow hpm) (keeps_arrive (narrow hpm) hk)
  · exact keeps_execDmaInputRecord (narrow hpm) (keeps_arrive (narrow hpm) hk)
  · exact keeps_execDmaOutputRecord (narrow hpm) (keeps_arrive (narrow hpm) hk)
  · exact keeps_execDmaHostIndexWrite (narrow hpm) hk
  · exact keeps_execSpillWrite (narrow hpm) (keeps_arrive (narrow hpm) hk)
  · exact keeps_execSpillRead (narrow hpm) (keeps_arrive (narrow hpm) hk)
  · exact keeps_execQueueFlush (narrow hpm) hk
  · exact keeps_execQueueFlushApply (narrow hpm) hk
  · exact keeps_execFlushComplete (narrow hpm) (keeps_arrive (narrow hpm) hk)
  · exact keeps_execSpillRegionWrite (narrow hpm) hk
  · exact keeps_execStagedRegionApply (narrow hpm) (keeps_arrive (narrow hpm) hk)
  · exact keeps_execQueueEnable (narrow hpm) hk
  · exact keeps_execQueueDisable (narrow hpm) hk
  · exact keeps_execQueueStartComplete (narrow hpm) (keeps_arrive (narrow hpm) hk)
  · exact keeps_execQueueStopComplete (narrow hpm) (keeps_arrive (narrow hpm) hk)
  · exact keeps_execQuadratureCount (narrow hpm) (keeps_arrive (narrow hpm) hk)
  · exact keeps_execEncoderIndex (narrow hpm) (keeps_arrive (narrow hpm) hk)
  · exact keeps_execEncoderEnable (narrow hpm) hk
  · exact keeps_execEncoderDisable (narrow hpm) hk
  · exact keeps_execEncoderStartComplete (narrow hpm) (keeps_arrive (narrow hpm) hk)
  · exact keeps_execEncoderStopComplete (narrow hpm) (keeps_arrive (narrow hpm) hk)
  · exact keeps_execPositionPreset (narrow hpm) hk
  · exact keeps_execHandoffToAon (narrow hpm) (keeps_arrive (narrow hpm) hk)
  · exact keeps_execAonCount (narrow hpm) (keeps_arrive (narrow hpm) hk)
  · exact keeps_execHandoffFromAon (narrow hpm) (keeps_arrive (narrow hpm) hk)
  · exact keeps_execLineGenEnable (narrow hpm) hk
  · exact keeps_execLineGenDisable (narrow hpm) hk
  · exact keeps_execTriggerEdge (narrow hpm) (keeps_arrive (narrow hpm) hk)
  · exact keeps_execTriggerEnable (narrow hpm) hk
  · exact keeps_execTriggerDisable (narrow hpm) hk
  · exact keeps_execProductRetire (narrow hpm) (keeps_arrive (narrow hpm) hk)
  · exact keeps_execMapEdit (narrow hpm) hk
  · exact keeps_execMapImageWrite (narrow hpm) hk
  · exact keeps_execActiveCopySwitch (narrow hpm) (keeps_arrive (narrow hpm) hk)
  · exact keeps_execFormatterWord (narrow hpm) (keeps_arrive (narrow hpm) hk)
  · exact keeps_execFireFrameLaunch (narrow hpm) (keeps_arrive (narrow hpm) hk)
  · exact keeps_execBarEnable (narrow hpm) hk
  · exact keeps_execBarDisable (narrow hpm) hk
  · exact keeps_execBarStartComplete (narrow hpm) (keeps_arrive (narrow hpm) hk)
  · exact keeps_execBarStopComplete (narrow hpm) (keeps_arrive (narrow hpm) hk)
  · exact keeps_execMgmtRequest (narrow hpm) hk
  · exact keeps_execMgmtReply (narrow hpm) (keeps_arrive (narrow hpm) hk)
  · exact keeps_execMgmtTimeout (narrow hpm) (keeps_arrive (narrow hpm) hk)
  · exact keeps_execHeadStatus (narrow hpm) (keeps_arrive (narrow hpm) hk)
  · exact keeps_execNozzleReport (narrow hpm) (keeps_arrive (narrow hpm) hk)
  · exact keeps_execHeadSilent (narrow hpm) (keeps_arrive (narrow hpm) hk)
  · exact keeps_execRejectDecision (narrow hpm) (keeps_arrive (narrow hpm) hk)
  · exact keeps_execRejectPulseEnd (narrow hpm) (keeps_arrive (narrow hpm) hk)
  · exact keeps_execGateEnable (narrow hpm) hk
  · exact keeps_execGateDisable (narrow hpm) hk
  · exact keeps_execPolarityWrite (narrow hpm) hk
  · exact keeps_execForceReject (narrow hpm) hk
  · exact keeps_execImageLine (narrow hpm) (keeps_arrive (narrow hpm) hk)
  · exact keeps_execLineLostTimeout (narrow hpm) (keeps_arrive (narrow hpm) hk)
  · exact keeps_execBridgeStatus (narrow hpm) (keeps_arrive (narrow hpm) hk)
  · exact keeps_execBridgeSilent (narrow hpm) (keeps_arrive (narrow hpm) hk)
  · exact keeps_execCameraEnable (narrow hpm) hk
  · exact keeps_execCameraDisable (narrow hpm) hk
  · exact keeps_execCameraStartComplete (narrow hpm) (keeps_arrive (narrow hpm) hk)
  · exact keeps_execCameraStopComplete (narrow hpm) (keeps_arrive (narrow hpm) hk)
  · exact keeps_execVerdictPost (narrow hpm) hk
  · exact keeps_execHealthPost (narrow hpm) hk
  · exact keeps_execArchiveRecord (narrow hpm) (keeps_arrive (narrow hpm) hk)
  · exact keeps_execAllotmentGrant (narrow hpm) hk
  · exact keeps_execResetGrant (narrow hpm) hk
  · exact keeps_execJournalWriteComplete (narrow hpm) (keeps_arrive (narrow hpm) hk)
  · exact keeps_execSerialTextRead (narrow hpm) hk
  · exact keeps_execAllotmentRetire (narrow hpm) hk
  · exact keeps_execSerialRecovery (narrow hpm) (keeps_arrive (narrow hpm) hk)
  · exact keeps_execLedgerRecordWrite (narrow hpm) (keeps_arrive (narrow hpm) hk)
  · exact keeps_execCheckpointStart (narrow hpm) (keeps_arrive (narrow hpm) hk)
  · exact keeps_execCheckpointPublish (narrow hpm) (keeps_arrive (narrow hpm) hk)
  · exact keeps_execLedgerRingWrite (narrow hpm) hk
  · exact keeps_execPairEnable (narrow hpm) hk
  · exact keeps_execPairDisable (narrow hpm) hk
  · exact keeps_execHello (narrow hpm) (keeps_arrive (narrow hpm) hk)
  · exact keeps_execHelloSend (narrow hpm) (keeps_arrive (narrow hpm) hk)
  · exact keeps_execHeartbeat (narrow hpm) (keeps_arrive (narrow hpm) hk)
  · exact keeps_execHeartbeatSend (narrow hpm) (keeps_arrive (narrow hpm) hk)
  · exact keeps_execArbitrationTimeout (narrow hpm) (keeps_arrive (narrow hpm) hk)
  · exact keeps_execFirmwareKick (narrow hpm) hk
  · exact keeps_execWatchdogExpiry (narrow hpm) (keeps_arrive (narrow hpm) hk)
  · exact keeps_execSidebandLowTimeout (narrow hpm) (keeps_arrive (narrow hpm) hk)
  · exact keeps_execLinkLost (narrow hpm) (keeps_arrive (narrow hpm) hk)
  · exact keeps_execLinkLost200us (narrow hpm) (keeps_arrive (narrow hpm) hk)
  · exact keeps_execOrderedAnswerTimeout (narrow hpm) (keeps_arrive (narrow hpm) hk)
  · exact keeps_execMirrorWrite (narrow hpm) (keeps_arrive (narrow hpm) hk)
  · exact keeps_execAck (narrow hpm) (keeps_arrive (narrow hpm) hk)
  · exact keeps_execNak (narrow hpm) (keeps_arrive (narrow hpm) hk)
  · exact keeps_execCommit (narrow hpm) (keeps_arrive (narrow hpm) hk)
  · exact keeps_execReserve (narrow hpm) (keeps_arrive (narrow hpm) hk)
  · exact keeps_execMapSwitch (narrow hpm) (keeps_arrive (narrow hpm) hk)
  · exact keeps_execCheckpointState (narrow hpm) (keeps_arrive (narrow hpm) hk)
  · exact keeps_execDigest (narrow hpm) (keeps_arrive (narrow hpm) hk)
  · exact keeps_execOrphan (narrow hpm) (keeps_arrive (narrow hpm) hk)
  · exact keeps_execPositionMark (narrow hpm) (keeps_arrive (narrow hpm) hk)
  · exact keeps_execEncoderIdleAlign (narrow hpm) (keeps_arrive (narrow hpm) hk)
  · exact keeps_execResyncRequest (narrow hpm) hk
  · exact keeps_execResyncCut (narrow hpm) (keeps_arrive (narrow hpm) hk)
  · exact keeps_execResyncHoldLimit (narrow hpm) (keeps_arrive (narrow hpm) hk)
  · exact keeps_execCut (narrow hpm) (keeps_arrive (narrow hpm) hk)
  · exact keeps_execSnapshot (narrow hpm) (keeps_arrive (narrow hpm) hk)
  · exact keeps_execSnapshotEnd (narrow hpm) (keeps_arrive (narrow hpm) hk)
  · exact keeps_execCatchUpComplete (narrow hpm) (keeps_arrive (narrow hpm) hk)
  · exact keeps_execResyncDone (narrow hpm) (keeps_arrive (narrow hpm) hk)
  · exact keeps_execResyncTimeout (narrow hpm) (keeps_arrive (narrow hpm) hk)
  · exact keeps_execBaseInstruction (narrow hpm) (keeps_arrive (narrow hpm) hk)
  · exact keeps_execCallw (narrow hpm) (keeps_arrive (narrow hpm) hk)
  · exact keeps_execCallwr (narrow hpm) (keeps_arrive (narrow hpm) hk)
  · exact keeps_execRetw (narrow hpm) (keeps_arrive (narrow hpm) hk)
  · exact keeps_execSmm (narrow hpm) (keeps_arrive (narrow hpm) hk)
  · exact keeps_execSmmO (narrow hpm) (keeps_arrive (narrow hpm) hk)
  · exact keeps_execLmm (narrow hpm) (keeps_arrive (narrow hpm) hk)
  · exact keeps_execLmmO (narrow hpm) (keeps_arrive (narrow hpm) hk)
  · exact keeps_execSpillw (narrow hpm) (keeps_arrive (narrow hpm) hk)
  · exact keeps_execFillw (narrow hpm) (keeps_arrive (narrow hpm) hk)
  · exact keeps_execRep (narrow hpm) (keeps_arrive (narrow hpm) hk)
  · exact keeps_execRepr (narrow hpm) (keeps_arrive (narrow hpm) hk)
  · exact keeps_execLoop (narrow hpm) (keeps_arrive (narrow hpm) hk)
  · exact keeps_execFmac (narrow hpm) (keeps_arrive (narrow hpm) hk)
  · exact keeps_execFmsc (narrow hpm) (keeps_arrive (narrow hpm) hk)
  · exact keeps_execFmula (narrow hpm) (keeps_arrive (narrow hpm) hk)
  · exact keeps_execFmacf (narrow hpm) (keeps_arrive (narrow hpm) hk)
  · exact keeps_execFmscf (narrow hpm) (keeps_arrive (narrow hpm) hk)
  · exact keeps_execXld (narrow hpm) (keeps_arrive (narrow hpm) hk)
  · exact keeps_execYld (narrow hpm) (keeps_arrive (narrow hpm) hk)
  · exact keeps_execXst (narrow hpm) (keeps_arrive (narrow hpm) hk)
  · exact keeps_execYst (narrow hpm) (keeps_arrive (narrow hpm) hk)
  · exact keeps_execFmvaf (narrow hpm) (keeps_arrive (narrow hpm) hk)
  · exact keeps_execFmvfa (narrow hpm) (keeps_arrive (narrow hpm) hk)
  · exact keeps_execAccz (narrow hpm) (keeps_arrive (narrow hpm) hk)
  · exact keeps_execAccsum (narrow hpm) (keeps_arrive (narrow hpm) hk)
  · exact keeps_execAccumulatorWrite (narrow hpm) (keeps_arrive (narrow hpm) hk)
  · exact keeps_execMret (narrow hpm) (keeps_arrive (narrow hpm) hk)
  · exact keeps_execInterrupt (narrow hpm) (keeps_arrive (narrow hpm) hk)
  · exact keeps_execCoreRun (narrow hpm) hk
  · exact keeps_execCoreHalt (narrow hpm) hk
  · exact keeps_execCoreHalted (narrow hpm) (keeps_arrive (narrow hpm) hk)
  · exact keeps_execCoreReset (narrow hpm) hk
  · exact keeps_execEventGrant (narrow hpm) (keeps_arrive (narrow hpm) hk)
  · exact keeps_execCoreEventPop (narrow hpm) hk
  · exact keeps_execEventRaiseWrite (narrow hpm) hk
  · exact keeps_execCoalescedMapClear (narrow hpm) hk
  · exact keeps_execTaskSetup (narrow hpm) hk
  · exact keeps_execTaskCreate (narrow hpm) hk
  · exact keeps_execTaskPost (narrow hpm) hk
  · exact keeps_execTaskSuspend (narrow hpm) hk
  · exact keeps_execTaskResume (narrow hpm) hk
  · exact keeps_execTaskDelete (narrow hpm) hk
  · exact keeps_execTaskOffer (narrow hpm) (keeps_arrive (narrow hpm) hk)
  · exact keeps_execCoreAccept (narrow hpm) hk
  · exact keeps_execCoreDone (narrow hpm) hk
  · exact keeps_execCoreYield (narrow hpm) hk
  · exact keeps_execCoreDelay (narrow hpm) hk
  · exact keeps_execCoreAttach (narrow hpm) hk
  · exact keeps_execCoreDetach (narrow hpm) hk
  · exact keeps_execDispatchTimeout (narrow hpm) (keeps_arrive (narrow hpm) hk)
  · exact keeps_execDelayDue (narrow hpm) (keeps_arrive (narrow hpm) hk)
  · exact keeps_execTick (narrow hpm) (keeps_arrive (narrow hpm) hk)
  · exact keeps_execIntervalTimerDue (narrow hpm) (keeps_arrive (narrow hpm) hk)
  · exact keeps_execTimerEnable (narrow hpm) hk
  · exact keeps_execTimerDisable (narrow hpm) hk
  · exact keeps_execSchedCoresWrite (narrow hpm) hk
  · exact keeps_execTraceModeWrite (narrow hpm) hk
  · exact keeps_execBankAccessGrant (narrow hpm) (keeps_arrive (narrow hpm) hk)
  · exact keeps_execHarrowBorrow (narrow hpm) (keeps_arrive (narrow hpm) hk)
  · exact keeps_execHarrowRestoreComplete (narrow hpm) (keeps_arrive (narrow hpm) hk)
  · exact keeps_execLpddrInitDone (narrow hpm) (keeps_arrive (narrow hpm) hk)
  · exact keeps_execLpddrTrainingDone (narrow hpm) (keeps_arrive (narrow hpm) hk)
  · exact keeps_execLpddrMr4Read (narrow hpm) (keeps_arrive (narrow hpm) hk)
  · exact keeps_execLpddrZqLatch (narrow hpm) (keeps_arrive (narrow hpm) hk)
  · exact keeps_execLpddrWck2dqTracking (narrow hpm) (keeps_arrive (narrow hpm) hk)
  · exact keeps_execLpddrRefresh (narrow hpm) (keeps_arrive (narrow hpm) hk)
  · exact keeps_execLpddrWriteRefused (narrow hpm) (keeps_arrive (narrow hpm) hk)
  · exact keeps_execNetworkRequest (narrow hpm) (keeps_arrive (narrow hpm) hk)
  · exact keeps_execNetworkResponse (narrow hpm) (keeps_arrive (narrow hpm) hk)
  · exact keeps_execRequestTimeout (narrow hpm) (keeps_arrive (narrow hpm) hk)
  · exact keeps_execPortStallTimeout (narrow hpm) (keeps_arrive (narrow hpm) hk)
  · exact keeps_execRouteSwapGo (narrow hpm) hk
  · exact keeps_execNiTableSwap (narrow hpm) (keeps_arrive (narrow hpm) hk)
  · exact keeps_execRouterReconfigGo (narrow hpm) hk
  · exact keeps_execRouterReconfigApply (narrow hpm) (keeps_arrive (narrow hpm) hk)
  · exact keeps_execLaneEnableData (narrow hpm) hk
  · exact keeps_execLaneEnableTest (narrow hpm) hk
  · exact keeps_execLaneDisable (narrow hpm) hk
  · exact keeps_execLanePllLock (narrow hpm) (keeps_arrive (narrow hpm) hk)
  · exact keeps_execLaneDataEntry (narrow hpm) (keeps_arrive (narrow hpm) hk)
  · exact keeps_execLaneLinkDrop (narrow hpm) (keeps_arrive (narrow hpm) hk)
  · exact keeps_execLaneStatusSet (narrow hpm) (keeps_arrive (narrow hpm) hk)
  · exact keeps_execLaneStatusSend (narrow hpm) (keeps_arrive (narrow hpm) hk)
  · exact keeps_execLaneStatusSilence (narrow hpm) (keeps_arrive (narrow hpm) hk)
  · exact keeps_execAcquireTimeout (narrow hpm) (keeps_arrive (narrow hpm) hk)
  · exact keeps_execLaneRetrain (narrow hpm) hk
  · exact keeps_execLaneStopComplete (narrow hpm) (keeps_arrive (narrow hpm) hk)
  · exact keeps_execRefclkLost (narrow hpm) (keeps_arrive (narrow hpm) hk)
  · exact keeps_execDfeAdapt (narrow hpm) (keeps_arrive (narrow hpm) hk)
  · exact keeps_execPrbsLock (narrow hpm) (keeps_arrive (narrow hpm) hk)
  · exact keeps_execPrbsInject (narrow hpm) hk
  · exact keeps_execPrbsCounterClear (narrow hpm) hk
  · exact keeps_execOpralDatagram (narrow hpm) (keeps_arrive (narrow hpm) hk)
  · exact keeps_execOpralRead (narrow hpm) (keeps_arrive (narrow hpm) hk)
  · exact keeps_execOpralWrite (narrow hpm) (keeps_arrive (narrow hpm) hk)
  · exact keeps_execOpralSegRead (narrow hpm) (keeps_arrive (narrow hpm) hk)
  · exact keeps_execOpralSegWrite (narrow hpm) (keeps_arrive (narrow hpm) hk)
  · exact keeps_execSegmentTimeout (narrow hpm) (keeps_arrive (narrow hpm) hk)
  · exact keeps_execArpRequest (narrow hpm) (keeps_arrive (narrow hpm) hk)
  · exact keeps_execIcmpEcho (narrow hpm) (keeps_arrive (narrow hpm) hk)
  · exact keeps_execCanPortEnable (narrow hpm) hk
  · exact keeps_execNmtStart (narrow hpm) (keeps_arrive (narrow hpm) hk)
  · exact keeps_execNmtStop (narrow hpm) (keeps_arrive (narrow hpm) hk)
  · exact keeps_execNmtEnterPreOperational (narrow hpm) (keeps_arrive (narrow hpm) hk)
  · exact keeps_execNmtResetNode (narrow hpm) (keeps_arrive (narrow hpm) hk)
  · exact keeps_execNmtResetCommunication (narrow hpm) (keeps_arrive (narrow hpm) hk)
  · exact keeps_execCanHeartbeat (narrow hpm) (keeps_arrive (narrow hpm) hk)
  · exact keeps_execCanBusOff (narrow hpm) (keeps_arrive (narrow hpm) hk)
  · exact keeps_execSdoDownload (narrow hpm) (keeps_arrive (narrow hpm) hk)
  · exact keeps_execSdoUpload (narrow hpm) (keeps_arrive (narrow hpm) hk)
  · exact keeps_execSdoTimeout (narrow hpm) (keeps_arrive (narrow hpm) hk)
  · exact keeps_execRpdo (narrow hpm) (keeps_arrive (narrow hpm) hk)
  · exact keeps_execTpdoCyclic (narrow hpm) (keeps_arrive (narrow hpm) hk)
  · exact keeps_execCanSync (narrow hpm) (keeps_arrive (narrow hpm) hk)
  · exact keeps_execTpdoTrigger (narrow hpm) hk
  · exact keeps_execCobidWrite (narrow hpm) hk
  · exact keeps_execPtpSync (narrow hpm) (keeps_arrive (narrow hpm) hk)
  · exact keeps_execPtpFollowUp (narrow hpm) (keeps_arrive (narrow hpm) hk)
  · exact keeps_execPtpAnnounce (narrow hpm) (keeps_arrive (narrow hpm) hk)
  · exact keeps_execPtpDelayReq (narrow hpm) (keeps_arrive (narrow hpm) hk)
  · exact keeps_execPtpDelayResp (narrow hpm) (keeps_arrive (narrow hpm) hk)
  · exact keeps_execAnnounceReceiptTimeout (narrow hpm) (keeps_arrive (narrow hpm) hk)
  · exact keeps_execPpsInEdge (narrow hpm) (keeps_arrive (narrow hpm) hk)
  · exact keeps_execPpsOutSecond (narrow hpm) (keeps_arrive (narrow hpm) hk)
  · exact keeps_execStoreParameters (narrow hpm) hk
  · exact keeps_execStoreComplete (narrow hpm) (keeps_arrive (narrow hpm) hk)
  · exact keeps_execRestoreDefaults (narrow hpm) hk
  · exact keeps_execPowerOn (narrow hpm) (keeps_arrive (narrow hpm) hk)
  · exact keeps_execBrownOut (narrow hpm) (keeps_arrive (narrow hpm) hk)
  · exact keeps_execPowerFail (narrow hpm) (keeps_arrive (narrow hpm) hk)
  · exact keeps_execSupplyOvercurrent (narrow hpm) (keeps_arrive (narrow hpm) hk)
  · exact keeps_execBoardSupplyModeWrite (narrow hpm) hk
  · exact keeps_execLpddrSupplyEnableWrite (narrow hpm) hk
  · exact keeps_execLpddrSupplyFault (narrow hpm) (keeps_arrive (narrow hpm) hk)
  · exact keeps_execDomainRequestOn (narrow hpm) hk
  · exact keeps_execDomainRequestOff (narrow hpm) hk
  · exact keeps_execDomainRequestRetained (narrow hpm) hk
  · exact keeps_execDomainStartComplete (narrow hpm) (keeps_arrive (narrow hpm) hk)
  · exact keeps_execDomainFenceApplied (narrow hpm) (keeps_arrive (narrow hpm) hk)
  · exact keeps_execDomainDrainComplete (narrow hpm) (keeps_arrive (narrow hpm) hk)
  · exact keeps_execDomainStopComplete (narrow hpm) (keeps_arrive (narrow hpm) hk)
  · exact keeps_execPowerModeRun (narrow hpm) hk
  · exact keeps_execPowerModeLineStop (narrow hpm) hk
  · exact keeps_execPowerModeSleep (narrow hpm) hk
  · exact keeps_execPowerModeDeepSleep (narrow hpm) hk
  · exact keeps_execLineStopClockStop (narrow hpm) (keeps_arrive (narrow hpm) hk)
  · exact keeps_execLineStopEntryTimeout (narrow hpm) (keeps_arrive (narrow hpm) hk)
  · exact keeps_execWake (narrow hpm) (keeps_arrive (narrow hpm) hk)
  · exact keeps_execPllLockLoss (narrow hpm) (keeps_arrive (narrow hpm) hk)
  · exact keeps_execRcTrim (narrow hpm) (keeps_arrive (narrow hpm) hk)
  · exact keeps_execTempSample (narrow hpm) (keeps_arrive (narrow hpm) hk)
  · exact keeps_execFurrowClockGate (narrow hpm) (keeps_arrive (narrow hpm) hk)
  · exact keeps_execEngineReset (narrow hpm) hk
  · exact keeps_execPorst (narrow hpm) (keeps_arrive (narrow hpm) hk)
  · exact keeps_execJtagTestLogicReset (narrow hpm) (keeps_arrive (narrow hpm) hk)
  · exact keeps_execBoot (narrow hpm) (keeps_arrive (narrow hpm) hk)
  · exact keeps_execFirmwareUpdate (narrow hpm) hk
  · exact keeps_execFlashUpdateComplete (narrow hpm) (keeps_arrive (narrow hpm) hk)
  · exact keeps_execFirmwareRollbackFloorWrite (narrow hpm) hk
  · exact keeps_execMailboxSha3512 (narrow hpm) (keeps_arrive (narrow hpm) hk)
  · exact keeps_execMailboxShake256 (narrow hpm) (keeps_arrive (narrow hpm) hk)
  · exact keeps_execMailboxVerify (narrow hpm) (keeps_arrive (narrow hpm) hk)
  · exact keeps_execMailboxSign (narrow hpm) (keeps_arrive (narrow hpm) hk)
  · exact keeps_execMailboxRandom (narrow hpm) (keeps_arrive (narrow hpm) hk)
  · exact keeps_execMailboxComplete (narrow hpm) (keeps_arrive (narrow hpm) hk)
  · exact keeps_execTrngHealthFail (narrow hpm) (keeps_arrive (narrow hpm) hk)
  · exact keeps_execTrngRestart (narrow hpm) hk
  · exact keeps_execRandomRead (narrow hpm) hk
  · exact keeps_execOwnerInstall (narrow hpm) hk
  · exact keeps_execKeyInstall (narrow hpm) hk
  · exact keeps_execKeyErase (narrow hpm) hk
  · exact keeps_execKeyReplaceOwner (narrow hpm) hk
  · exact keeps_execAttestNonce (narrow hpm) hk
  · exact keeps_execAttestDone (narrow hpm) (keeps_arrive (narrow hpm) hk)
  · exact keeps_execCacheInstall (narrow hpm) hk
  · exact keeps_execCacheErase (narrow hpm) hk
  · exact keeps_execSnapshotCounters (narrow hpm) hk
  · exact keeps_execSnapshotWriteComplete (narrow hpm) (keeps_arrive (narrow hpm) hk)
  · exact keeps_execClearCounters (narrow hpm) hk
  · exact keeps_execTapBypass (narrow hpm) (keeps_arrive (narrow hpm) hk)
  · exact keeps_execTapSamplePreload (narrow hpm) (keeps_arrive (narrow hpm) hk)
  · exact keeps_execTapExtest (narrow hpm) (keeps_arrive (narrow hpm) hk)
  · exact keeps_execTapIdcode (narrow hpm) (keeps_arrive (narrow hpm) hk)
  · exact keeps_execSerialValueComputed (narrow hpm) (keeps_arrive (narrow hpm) hk)
  · exact keeps_execPrbsLockLoss (narrow hpm) (keeps_arrive (narrow hpm) hk)
  · exact keeps_execPrbsBitError (narrow hpm) (keeps_arrive (narrow hpm) hk)
  · exact keeps_execBlockError (narrow hpm) (keeps_arrive (narrow hpm) hk)
  · exact keeps_execRefclkRestored (narrow hpm) (keeps_arrive (narrow hpm) hk)
  · exact keeps_execLfxoStop (narrow hpm) (keeps_arrive (narrow hpm) hk)
  · exact keeps_execEthLinkChange (narrow hpm) (keeps_arrive (narrow hpm) hk)
  · exact keeps_execCanBusStateChange (narrow hpm) (keeps_arrive (narrow hpm) hk)
  · exact keeps_execPpsOutWidthEnd (narrow hpm) (keeps_arrive (narrow hpm) hk)
  · exact keeps_execResetOutRelease (narrow hpm) (keeps_arrive (narrow hpm) hk)
  · exact keeps_execPairLaneHeartbeatTimeout (narrow hpm) (keeps_arrive (narrow hpm) hk)
  · exact keeps_execTrngStartupComplete (narrow hpm) (keeps_arrive (narrow hpm) hk)

end Sys2Proof.Laws
end

