-- ==== Sys2Proof/Laws/Memory.lean ====
section
/-! SUPPORT. Memory: a byte reads as what was last written there, and every other byte as before. -/

set_option Elab.async false

namespace Sys2Proof.Laws

open Sys2Proof.Machine

theorem memByte_put_same (s : State) (a : Nat) (b : Byte) : memByte (memPut s a b) a = b := by
  show (tabFind (tabPut s.mem a b) a).getD _ = b
  rw [tabFind_put_same]; rfl

theorem memByte_put_other (s : State) {a c : Nat} (b : Byte) (h : a ≠ c) : memByte (memPut s a b) c = memByte s c := by
  show (tabFind (tabPut s.mem a b) c).getD _ = (tabFind s.mem c).getD _
  rw [tabFind_put_other _ _ h]; rfl

/-- A write of bytes leaves the bytes outside alone. -/
theorem memByte_write_outside (s : State) {a c : Nat} (b : List Byte) (h : c < a ∨ a + b.length ≤ c) : memByte (memWrite s a b) c = memByte s c := by
  induction b generalizing s a with
  | nil => rfl
  | cons x r ih =>
    simp only [List.length_cons] at h
    show memByte (memWrite (memPut s a x) (a + 1) r) c = _
    rw [ih _ (by omega), memByte_put_other _ _ (by omega)]

/-- The bytes written are read back. -/
theorem memRead_write (s : State) (a : Nat) (b : List Byte) : memRead (memWrite s a b) a b.length = b := by
  induction b generalizing s a with
  | nil => rfl
  | cons x r ih =>
    show memByte (memWrite (memPut s a x) (a + 1) r) a :: memRead (memWrite (memPut s a x) (a + 1) r) (a + 1) r.length = _
    rw [ih, memByte_write_outside _ _ (Or.inl (Nat.lt_succ_self a)), memByte_put_same]

theorem memRead_congr {s u : State} (hm : u.mem = s.mem) (he : u.memEpoch = s.memEpoch) (a n : Nat) : memRead u a n = memRead s a n := by
  induction n generalizing a with
  | zero => rfl
  | succ n ih => simp only [memRead, memByte, hm, he, ih]

theorem memNat_congr {s u : State} (hm : u.mem = s.mem) (he : u.memEpoch = s.memEpoch) (a n : Nat) : memNat u a n = memNat s a n :=
  congrArg leNat (memRead_congr hm he a n)

@[simp] theorem memNat_at (t : Nat) (s : State) (a n : Nat) : memNat (at_ t s) a n = memNat s a n := memNat_congr (s := s) (u := at_ t s) rfl rfl a n

theorem length_leBytes (w n : Nat) : (leBytes w n).length = w := by
  induction w generalizing n with
  | zero => rfl
  | succ w ih => simp [leBytes, ih]

/-- A number written is read back. -/
theorem memNat_write (s : State) (a w n : Nat) : memNat (memWrite s a (leBytes w n)) a w = n % 256 ^ w := by
  have h := memRead_write s a (leBytes w n)
  rw [length_leBytes] at h
  unfold memNat
  rw [h, leNat_leBytes]

/-- A write of bytes changes memory alone. -/
theorem memWrite_eq (s : State) (a : Nat) (b : List Byte) : memWrite s a b = { s with mem := (memWrite s a b).mem } := by
  induction b generalizing s a with
  | nil => rfl
  | cons x r ih => exact ih (memPut s a x) (a + 1)

@[simp] theorem memWrite_pending (s : State) (a : Nat) (b : List Byte) : (memWrite s a b).pending = s.pending := by rw [memWrite_eq]
@[simp] theorem memWrite_now (s : State) (a : Nat) (b : List Byte) : (memWrite s a b).now = s.now := by rw [memWrite_eq]
@[simp] theorem memWrite_answer (s : State) (a : Nat) (b : List Byte) : (memWrite s a b).answer = s.answer := by rw [memWrite_eq]
@[simp] theorem memWrite_obj (s : State) (a : Nat) (b : List Byte) : (memWrite s a b).obj = s.obj := by rw [memWrite_eq]
@[simp] theorem memWrite_blobs (s : State) (a : Nat) (b : List Byte) : (memWrite s a b).blobs = s.blobs := by rw [memWrite_eq]
@[simp] theorem memWrite_stamps (s : State) (a : Nat) (b : List Byte) : (memWrite s a b).stamps = s.stamps := by rw [memWrite_eq]
@[simp] theorem memWrite_memEpoch (s : State) (a : Nat) (b : List Byte) : (memWrite s a b).memEpoch = s.memEpoch := by rw [memWrite_eq]
@[simp] theorem memWrite_fresh (s : State) (a : Nat) (b : List Byte) : (memWrite s a b).fresh = s.fresh := by rw [memWrite_eq]
@[simp] theorem memWrite_events (s : State) (a : Nat) (b : List Byte) : (memWrite s a b).events = s.events := by rw [memWrite_eq]
@[simp] theorem memWrite_coalesced (s : State) (a : Nat) (b : List Byte) : (memWrite s a b).coalesced = s.coalesced := by rw [memWrite_eq]
@[simp] theorem memWrite_keys (s : State) (a : Nat) (b : List Byte) : (memWrite s a b).keys = s.keys := by rw [memWrite_eq]
@[simp] theorem memWrite_cache (s : State) (a : Nat) (b : List Byte) : (memWrite s a b).cache = s.cache := by rw [memWrite_eq]
@[simp] theorem memWrite_arr (s : State) (a : Nat) (b : List Byte) : (memWrite s a b).arr = s.arr := by rw [memWrite_eq]
@[simp] theorem memWrite_queues (s : State) (a : Nat) (b : List Byte) : (memWrite s a b).queues = s.queues := by rw [memWrite_eq]
@[simp] theorem memWrite_lanes (s : State) (a : Nat) (b : List Byte) : (memWrite s a b).lanes = s.lanes := by rw [memWrite_eq]
@[simp] theorem memWrite_print (s : State) (a : Nat) (b : List Byte) : (memWrite s a b).print = s.print := by rw [memWrite_eq]
@[simp] theorem memWrite_serial (s : State) (a : Nat) (b : List Byte) : (memWrite s a b).serial = s.serial := by rw [memWrite_eq]
@[simp] theorem memWrite_pair (s : State) (a : Nat) (b : List Byte) : (memWrite s a b).pair = s.pair := by rw [memWrite_eq]
@[simp] theorem memWrite_sched (s : State) (a : Nat) (b : List Byte) : (memWrite s a b).sched = s.sched := by rw [memWrite_eq]
@[simp] theorem memWrite_cores (s : State) (a : Nat) (b : List Byte) : (memWrite s a b).cores = s.cores := by rw [memWrite_eq]
@[simp] theorem memWrite_noc (s : State) (a : Nat) (b : List Byte) : (memWrite s a b).noc = s.noc := by rw [memWrite_eq]
@[simp] theorem memWrite_plant (s : State) (a : Nat) (b : List Byte) : (memWrite s a b).plant = s.plant := by rw [memWrite_eq]
@[simp] theorem memWrite_nvm (s : State) (a : Nat) (b : List Byte) : (memWrite s a b).nvm = s.nvm := by rw [memWrite_eq]
@[simp] theorem memWrite_power (s : State) (a : Nat) (b : List Byte) : (memWrite s a b).power = s.power := by rw [memWrite_eq]
@[simp] theorem memWrite_security (s : State) (a : Nat) (b : List Byte) : (memWrite s a b).security = s.security := by rw [memWrite_eq]
@[simp] theorem memWrite_tap (s : State) (a : Nat) (b : List Byte) : (memWrite s a b).tap = s.tap := by rw [memWrite_eq]
@[simp] theorem memWrite_straps (s : State) (a : Nat) (b : List Byte) : (memWrite s a b).straps = s.straps := by rw [memWrite_eq]
@[simp] theorem memWrite_faultL (s : State) (a : Nat) (b : List Byte) : (memWrite s a b).faultL = s.faultL := by rw [memWrite_eq]
@[simp] theorem memWrite_ptpBase (s : State) (a : Nat) (b : List Byte) : (memWrite s a b).ptpBase = s.ptpBase := by rw [memWrite_eq]
@[simp] theorem memWrite_ptpAt (s : State) (a : Nat) (b : List Byte) : (memWrite s a b).ptpAt = s.ptpAt := by rw [memWrite_eq]
@[simp] theorem memWrite_ptpRate (s : State) (a : Nat) (b : List Byte) : (memWrite s a b).ptpRate = s.ptpRate := by rw [memWrite_eq]
@[simp] theorem rd_memWrite (s : State) (a : Nat) (b : List Byte) (i j : Nat) : rd (memWrite s a b) i j = rd s i j := by unfold rd; simp

end Sys2Proof.Laws
end

