-- ==== Sys2Proof/Laws/Effects.lean ====
section
/-! SUPPORT. From what a function leaves alone to what a command leads to: a state in which still nothing waits, and the parts that are as before. -/

set_option Elab.async false

namespace Sys2Proof.Laws

open Sys2Proof.Machine Sys2Proof.Safety

/-- Where the pair agent, the plant ports, power and the security unit are as before, still nothing waits (bits 18, 22, 24 and 25). -/
theorem quiet_kept {m : Nat} {z y : State} (k : Keeps m z y) (h : m &&& 0x3440000 = 0 := by decide) : quiet y = quiet z := by
  have b : ∀ i, (0x3440000 : Nat).testBit i = true → m.testBit i = false := by
    intro i hi
    have h1 : (m &&& 0x3440000).testBit i = false := by rw [h]; exact Nat.zero_testBit i
    rw [Nat.testBit_and, hi, Bool.and_true] at h1
    exact h1
  unfold quiet
  rw [k.same_pair (b 18 (by decide)), k.same_plant (b 22 (by decide)), k.same_power (b 24 (by decide)), k.same_security (b 25 (by decide))]

@[simp] theorem quiet_start (s : State) : quiet (start s) = quiet s := rfl
@[simp] theorem quiet_at (t : Nat) (s : State) : quiet (at_ t s) = quiet s := rfl

theorem quiet_of_canWrite {s : State} {src : Source} {idx sub : Nat} {v : ObjVal} (h : canWrite s src idx sub v = true) : quiet s = true := by
  unfold canWrite at h
  simp only [Bool.and_eq_true] at h
  exact h.1.1.1.1

theorem quiet_of_canSet {s : State} {src : Source} {idx sub n : Nat} (h : canSet s src idx sub n = true) : quiet s = true := quiet_of_canWrite h

/-- Every command has a next state, which keeps what every command keeps. -/
theorem exec_keeps (c : Instr) (s : State) : XKeeps 0x1fffffffe s (exec c s) := keeps_exec rfl (Keeps.refl _ _)

end Sys2Proof.Laws
end

