-- ==== Sys2Proof/WellFormed.lean ====
section
/-! DEFINITION. Which commands are well formed: their numbers fit the fields they stand for, an access comes from outside, and its object is of the kind of its row. -/

set_option Elab.async false

namespace Sys2Proof

open Machine

/-- An access of this source comes from outside; the pair agent and boot make theirs inside other commands. -/
def external (src : Source) : Bool :=
  match src with
  | .pairAgent => false
  | .boot => false
  | .core _ => true
  | .transfer _ => true
  | .eth _ => true
  | .can _ => true

/-- A number fits a field of `bits` bits. -/
def fits (bits n : Nat) : Bool := decide (n < 2 ^ bits)

/-- No value is longer than the longest object, 2 MiB (R363). -/
def bytesOk (b : List Byte) : Bool := decide (b.length ≤ 2097152)

/-- A value names a type code of R363 or none, and is no longer than the longest object. -/
def valueOk (v : ObjVal) : Bool := fits 8 v.ty && bytesOk v.bytes

/-- Whether a command is well formed. -/
def Instr.wf : Instr → Bool
  | .objectWrite src idx sub v => external src && fits 16 idx && fits 8 sub && valueOk v
  | .troubleCounterClear src idx sub v => external src && fits 16 idx && fits 8 sub && fits 64 v && isTrouble idx sub
  | .eventCauseClear src idx sub v => external src && fits 16 idx && fits 8 sub && fits 64 v && isCause idx sub
  | .u64LowWordRead _ idx sub => fits 16 idx && fits 8 sub
  | .u64HighWordWrite _ idx sub v => fits 16 idx && fits 8 sub && fits 64 v
  | .u64LowWordWrite _ idx sub v => fits 16 idx && fits 8 sub && fits 64 v
  | .domainTransferRead _ => true
  | .domainTransferWrite _ => true
  | .domainTransferComplete _ _ => true
  | .cellFire _ _ _ => true
  | .operationComplete _ _ _ k => fits 3 k
  | .resultDelivery _ _ _ => true
  | .configRegisterWrite _ _ _ _ _ v => fits 64 v
  | .lutEntryWrite _ _ _ v => fits 64 v
  | .capoStateWrite _ _ _ v => fits 64 v
  | .rowBypassWrite src _ v => external src && fits 64 v
  | .bypassStageTransfer _ _ _ _ => true
  | .drillReadItem _ _ _ => true
  | .drillWriteAccept _ _ _ => true
  | .drillWriteStore _ _ _ => true
  | .fieldMemoryNetworkAccess _ _ off size _ v => fits 32 off && fits 7 size && fits 64 v
  | .tuningLoadGo src => external src
  | .tuningLoadCopyDone _ => true
  | .tuningLoadComplete _ => true
  | .retuneGo src _ => external src
  | .groupRetuneGo src => external src
  | .retuneCueToken _ _ => true
  | .drainSwitch _ _ => true
  | .retuneLimitExpiry _ _ => true
  | .retuneCancel src _ => external src
  | .capoHold src => external src
  | .capoRelease src => external src
  | .capoBoundary _ => true
  | .fieldHalt src _ => external src
  | .fieldRun src _ => external src
  | .fieldClear src _ => external src
  | .activateSlot src _ slot => external src && fits 8 slot
  | .queueItemWrite _ _ _ v => fits 64 v
  | .queueItemEndWrite _ _ _ v => fits 64 v
  | .queuePop _ _ _ => true
  | .queuePeek _ _ _ => true
  | .edgePortInputToken _ _ => true
  | .edgePortOutputToken _ _ => true
  | .dmaInputRecord _ _ => true
  | .dmaOutputRecord _ _ => true
  | .dmaHostIndexWrite src _ v => external src && fits 64 v
  | .spillWrite _ _ => true
  | .spillRead _ _ => true
  | .queueFlush src _ => external src
  | .queueFlushApply src _ => external src
  | .flushComplete _ _ => true
  | .spillRegionWrite src _ _ v => external src && fits 64 v
  | .stagedRegionApply _ _ => true
  | .queueEnable src _ => external src
  | .queueDisable src _ => external src
  | .queueStartComplete _ _ => true
  | .queueStopComplete _ _ => true
  | .quadratureCount _ _ _ _ => true
  | .encoderIndex _ _ _ => true
  | .encoderEnable src _ => external src
  | .encoderDisable src _ => external src
  | .encoderStartComplete _ _ => true
  | .encoderStopComplete _ _ => true
  | .positionPreset src _ v => external src && fits 64 v
  | .handoffToAon _ _ => true
  | .aonCount _ _ _ _ => true
  | .handoffFromAon _ _ => true
  | .lineGenEnable src _ => external src
  | .lineGenDisable src _ => external src
  | .triggerEdge _ _ _ => true
  | .triggerEnable src _ => external src
  | .triggerDisable src _ => external src
  | .productRetire _ id => fits 32 id
  | .mapEdit src _ v => external src && fits 64 v
  | .mapImageWrite src _ bytes => external src && bytesOk bytes
  | .activeCopySwitch _ _ => true
  | .formatterWord _ _ => true
  | .fireFrameLaunch _ _ => true
  | .barEnable src _ => external src
  | .barDisable src _ => external src
  | .barStartComplete _ _ => true
  | .barStopComplete _ _ => true
  | .mgmtRequest src _ bytes => external src && bytesOk bytes
  | .mgmtReply _ _ hdr p _ => fits 64 hdr && bytesOk p
  | .mgmtTimeout _ _ => true
  | .headStatus _ _ hdr p _ => fits 64 hdr && bytesOk p
  | .nozzleReport _ _ hdr p _ => fits 64 hdr && bytesOk p
  | .headSilent _ _ => true
  | .rejectDecision _ _ => true
  | .rejectPulseEnd _ _ => true
  | .gateEnable src _ => external src
  | .gateDisable src _ => external src
  | .polarityWrite src _ v => external src && fits 64 v
  | .forceReject src id => external src && fits 32 id
  | .imageLine _ _ _ hdr p _ => fits 64 hdr && bytesOk p
  | .lineLostTimeout _ _ => true
  | .bridgeStatus _ _ hdr p _ => fits 64 hdr && bytesOk p
  | .bridgeSilent _ _ => true
  | .cameraEnable src _ => external src
  | .cameraDisable src _ => external src
  | .cameraStartComplete _ _ => true
  | .cameraStopComplete _ _ => true
  | .verdictPost src v => external src && fits 64 v
  | .healthPost src v => external src && fits 64 v
  | .archiveRecord _ => true
  | .allotmentGrant src bytes => external src && bytesOk bytes
  | .resetGrant src bytes => external src && bytesOk bytes
  | .journalWriteComplete _ _ => true
  | .serialTextRead src => external src
  | .allotmentRetire src _ => external src
  | .serialRecovery _ => true
  | .ledgerRecordWrite _ => true
  | .checkpointStart _ => true
  | .checkpointPublish _ => true
  | .ledgerRingWrite src _ _ v => external src && fits 64 v
  | .pairEnable src => external src
  | .pairDisable src => external src
  | .hello _ _ role p _ => fits 4 role && bytesOk p
  | .helloSend _ => true
  | .heartbeat _ _ role p _ => fits 4 role && bytesOk p
  | .heartbeatSend _ _ => true
  | .arbitrationTimeout _ => true
  | .firmwareKick src => external src
  | .watchdogExpiry _ _ => true
  | .sidebandLowTimeout _ _ _ => true
  | .linkLost _ => true
  | .linkLost200us _ => true
  | .orderedAnswerTimeout _ => true
  | .mirrorWrite _ _ seq role p _ => fits 32 seq && fits 4 role && bytesOk p
  | .ack _ _ seq role p _ => fits 32 seq && fits 4 role && bytesOk p
  | .nak _ _ seq role p _ => fits 32 seq && fits 4 role && bytesOk p
  | .commit _ _ seq role p _ => fits 32 seq && fits 4 role && bytesOk p
  | .reserve _ _ seq role p _ => fits 32 seq && fits 4 role && bytesOk p
  | .mapSwitch _ _ seq role p _ => fits 32 seq && fits 4 role && bytesOk p
  | .checkpointState _ _ seq role p _ => fits 32 seq && fits 4 role && bytesOk p
  | .digest _ _ seq role p _ => fits 32 seq && fits 4 role && bytesOk p
  | .orphan _ _ seq role p _ => fits 32 seq && fits 4 role && bytesOk p
  | .positionMark _ _ seq role p _ => fits 32 seq && fits 4 role && bytesOk p
  | .encoderIdleAlign _ _ pos => pos.all (fits 48)
  | .resyncRequest src => external src
  | .resyncCut _ n => fits 16 n
  | .resyncHoldLimit _ => true
  | .cut _ _ seq role p _ => fits 32 seq && fits 4 role && bytesOk p
  | .snapshot _ _ role p _ => fits 4 role && bytesOk p
  | .snapshotEnd _ _ seq role p _ => fits 32 seq && fits 4 role && bytesOk p
  | .catchUpComplete _ => true
  | .resyncDone _ _ seq role p _ => fits 32 seq && fits 4 role && bytesOk p
  | .resyncTimeout _ => true
  | .baseInstruction _ _ => true
  | .callw _ _ => true
  | .callwr _ _ => true
  | .retw _ _ => true
  | .smm _ _ regs => fits 6 regs
  | .smmO _ _ regs => fits 6 regs
  | .lmm _ _ regs => fits 6 regs
  | .lmmO _ _ regs => fits 6 regs
  | .spillw _ _ => true
  | .fillw _ _ => true
  | .rep _ _ => true
  | .repr _ _ => true
  | .loop _ _ => true
  | .fmac _ _ => true
  | .fmsc _ _ => true
  | .fmula _ _ => true
  | .fmacf _ _ => true
  | .fmscf _ _ => true
  | .xld _ _ => true
  | .yld _ _ => true
  | .xst _ _ => true
  | .yst _ _ => true
  | .fmvaf _ _ => true
  | .fmvfa _ _ => true
  | .accz _ _ => true
  | .accsum _ _ => true
  | .accumulatorWrite _ _ => true
  | .mret _ _ => true
  | .interrupt _ _ => true
  | .coreRun src _ => external src
  | .coreHalt src _ => external src
  | .coreHalted _ _ => true
  | .coreReset src _ => external src
  | .eventGrant _ => true
  | .coreEventPop src _ => external src
  | .eventRaiseWrite src v => external src && fits 64 v
  | .coalescedMapClear src bytes => external src && bytesOk bytes
  | .taskSetup src v => external src && fits 64 v
  | .taskCreate src task => external src && fits 9 task
  | .taskPost src task => external src && fits 9 task
  | .taskSuspend src task => external src && fits 9 task
  | .taskResume src task => external src && fits 9 task
  | .taskDelete src task => external src && fits 9 task
  | .taskOffer _ => true
  | .coreAccept src _ task => external src && fits 9 task
  | .coreDone src _ => external src
  | .coreYield src _ => external src
  | .coreDelay src _ _ arg => external src && fits 48 arg
  | .coreAttach src _ => external src
  | .coreDetach src _ => external src
  | .dispatchTimeout _ _ => true
  | .delayDue _ _ => true
  | .tick _ => true
  | .intervalTimerDue _ _ => true
  | .timerEnable src _ => external src
  | .timerDisable src _ => external src
  | .schedCoresWrite src v => external src && fits 64 v
  | .traceModeWrite src v => external src && fits 64 v
  | .bankAccessGrant _ _ => true
  | .harrowBorrow _ _ => true
  | .harrowRestoreComplete _ => true
  | .lpddrInitDone _ _ => true
  | .lpddrTrainingDone _ _ _ => true
  | .lpddrMr4Read _ _ code => fits 5 code
  | .lpddrZqLatch _ _ => true
  | .lpddrWck2dqTracking _ _ => true
  | .lpddrRefresh _ _ => true
  | .lpddrWriteRefused _ _ => true
  | .networkRequest _ _ addr size _ v => fits 32 addr && fits 7 size && fits 64 v
  | .networkResponse _ _ tag => fits 8 tag
  | .requestTimeout _ _ tag => fits 8 tag
  | .portStallTimeout _ _ tag => fits 8 tag
  | .routeSwapGo src => external src
  | .niTableSwap _ _ => true
  | .routerReconfigGo src => external src
  | .routerReconfigApply _ => true
  | .laneEnableData src _ => external src
  | .laneEnableTest src _ => external src
  | .laneDisable src _ => external src
  | .lanePllLock _ _ => true
  | .laneDataEntry _ _ => true
  | .laneLinkDrop _ _ _ => true
  | .laneStatusSet _ _ _ => true
  | .laneStatusSend _ _ _ => true
  | .laneStatusSilence _ _ => true
  | .acquireTimeout _ _ => true
  | .laneRetrain src _ => external src
  | .laneStopComplete _ _ => true
  | .refclkLost _ => true
  | .dfeAdapt _ _ _ => true
  | .prbsLock _ _ => true
  | .prbsInject src _ => external src
  | .prbsCounterClear src _ => external src
  | .opralDatagram _ _ ip udp b => fits 32 ip && fits 16 udp && bytesOk b
  | .opralRead _ _ ip udp node seq idx sub ty => fits 32 ip && fits 16 udp && fits 16 node && fits 32 seq && fits 16 idx && fits 8 sub && fits 8 ty
  | .opralWrite _ _ ip udp node seq idx sub v => fits 32 ip && fits 16 udp && fits 16 node && fits 32 seq && fits 16 idx && fits 8 sub && valueOk v
  | .opralSegRead _ _ ip udp node seq idx sub off len => fits 32 ip && fits 16 udp && fits 16 node && fits 32 seq && fits 16 idx && fits 8 sub && fits 32 off && fits 16 len
  | .opralSegWrite _ _ ip udp node seq idx sub ty off _ b => fits 32 ip && fits 16 udp && fits 16 node && fits 32 seq && fits 16 idx && fits 8 sub && fits 8 ty && fits 32 off && bytesOk b
  | .segmentTimeout _ => true
  | .arpRequest _ _ mac ip target => fits 48 mac && fits 32 ip && fits 32 target
  | .icmpEcho _ _ ip target rest => fits 32 ip && fits 32 target && bytesOk rest
  | .canPortEnable src _ => external src
  | .nmtStart _ _ node => fits 16 node
  | .nmtStop _ _ node => fits 16 node
  | .nmtEnterPreOperational _ _ node => fits 16 node
  | .nmtResetNode _ _ node => fits 16 node
  | .nmtResetCommunication _ _ node => fits 16 node
  | .canHeartbeat _ _ => true
  | .canBusOff _ _ => true
  | .sdoDownload _ _ idx sub off _ b => fits 16 idx && fits 8 sub && fits 32 off && bytesOk b
  | .sdoUpload _ _ idx sub off max => fits 16 idx && fits 8 sub && fits 32 off && fits 11 max
  | .sdoTimeout _ _ => true
  | .rpdo _ _ b => bytesOk b
  | .tpdoCyclic _ _ => true
  | .canSync _ _ => true
  | .tpdoTrigger src _ => external src
  | .cobidWrite src _ v => external src && fits 64 v
  | .ptpSync _ _ domain id seq origin => fits 8 domain && fits 64 id && fits 32 seq && (origin.getD 0).blt (2 ^ 80)
  | .ptpFollowUp _ _ domain id seq origin => fits 8 domain && fits 64 id && fits 32 seq && fits 80 origin
  | .ptpAnnounce _ _ domain id gm priority1 quality priority2 steps => fits 8 domain && fits 64 id && fits 64 gm && fits 8 priority1 && fits 32 quality && fits 8 priority2 && fits 16 steps
  | .ptpDelayReq _ => true
  | .ptpDelayResp _ _ domain id seq t4 => fits 8 domain && fits 64 id && fits 32 seq && fits 80 t4
  | .announceReceiptTimeout _ => true
  | .ppsInEdge _ => true
  | .ppsOutSecond _ => true
  | .storeParameters src => external src
  | .storeComplete _ _ => true
  | .restoreDefaults src => external src
  | .powerOn _ _ _ _ _ _ => true
  | .brownOut _ => true
  | .powerFail _ mv => fits 16 mv
  | .supplyOvercurrent _ _ => true
  | .boardSupplyModeWrite src v => external src && fits 64 v
  | .lpddrSupplyEnableWrite src v => external src && fits 64 v
  | .lpddrSupplyFault _ _ => true
  | .domainRequestOn src _ => external src
  | .domainRequestOff src _ => external src
  | .domainRequestRetained src _ => external src
  | .domainStartComplete _ _ _ => true
  | .domainFenceApplied _ _ => true
  | .domainDrainComplete _ _ => true
  | .domainStopComplete _ _ => true
  | .powerModeRun src => external src
  | .powerModeLineStop src => external src
  | .powerModeSleep src => external src
  | .powerModeDeepSleep src => external src
  | .lineStopClockStop _ => true
  | .lineStopEntryTimeout _ => true
  | .wake _ _ => true
  | .pllLockLoss _ _ _ => true
  | .rcTrim _ _ => true
  | .tempSample _ _ => true
  | .furrowClockGate _ _ _ => true
  | .engineReset src => external src
  | .porst _ _ _ _ _ _ => true
  | .jtagTestLogicReset _ => true
  | .boot _ _ _ => true
  | .firmwareUpdate src bytes => external src && bytesOk bytes
  | .flashUpdateComplete _ _ => true
  | .firmwareRollbackFloorWrite src v => external src && fits 64 v
  | .mailboxSha3512 _ _ => true
  | .mailboxShake256 _ _ => true
  | .mailboxVerify _ _ => true
  | .mailboxSign _ _ => true
  | .mailboxRandom _ _ => true
  | .mailboxComplete _ _ => true
  | .trngHealthFail _ => true
  | .trngRestart src => external src
  | .randomRead src => external src
  | .ownerInstall src bytes _ => external src && bytesOk bytes
  | .keyInstall src bytes _ => external src && bytesOk bytes && kuOp bytes == 1
  | .keyErase src bytes _ => external src && bytesOk bytes && kuOp bytes == 2
  | .keyReplaceOwner src bytes _ => external src && bytesOk bytes && kuOp bytes == 3
  | .attestNonce src bytes => external src && bytesOk bytes
  | .attestDone _ => true
  | .cacheInstall src bytes => external src && bytesOk bytes
  | .cacheErase src v => external src && fits 64 v
  | .snapshotCounters src => external src
  | .snapshotWriteComplete _ _ => true
  | .clearCounters src => external src
  | .tapBypass _ _ => true
  | .tapSamplePreload _ _ _ => true
  | .tapExtest _ _ _ => true
  | .tapIdcode _ => true
  | .serialValueComputed _ _ => true
  | .prbsLockLoss _ _ => true
  | .prbsBitError _ _ => true
  | .blockError _ _ _ _ => true
  | .refclkRestored _ => true
  | .lfxoStop _ => true
  | .ethLinkChange _ _ _ => true
  | .canBusStateChange _ _ _ => true
  | .ppsOutWidthEnd _ => true
  | .resetOutRelease _ => true
  | .pairLaneHeartbeatTimeout _ _ => true
  | .trngStartupComplete _ _ => true

end Sys2Proof
end

