-- ==== Sys2Proof/Laws/PerInstr.lean ====
section
/-! SUPPORT. The family Fields: who makes a well-formed command. A statement about commands as syntax, and one lemma for each constructor. -/

set_option Elab.async false

namespace Sys2Proof.Laws.Fields

/-- The source whose access a command is; none where the command is no access of a source, or where its core makes it. -/
def sourceOf : Instr → Option Source
  | .objectWrite src _ _ _ => some src
  | .troubleCounterClear src _ _ _ => some src
  | .eventCauseClear src _ _ _ => some src
  | .u64LowWordRead _ _ _ => none
  | .u64HighWordWrite _ _ _ _ => none
  | .u64LowWordWrite _ _ _ _ => none
  | .domainTransferRead _ => none
  | .domainTransferWrite _ => none
  | .domainTransferComplete _ _ => none
  | .cellFire _ _ _ => none
  | .operationComplete _ _ _ _ => none
  | .resultDelivery _ _ _ => none
  | .configRegisterWrite _ _ _ _ _ _ => none
  | .lutEntryWrite _ _ _ _ => none
  | .capoStateWrite _ _ _ _ => none
  | .rowBypassWrite src _ _ => some src
  | .bypassStageTransfer _ _ _ _ => none
  | .drillReadItem _ _ _ => none
  | .drillWriteAccept _ _ _ => none
  | .drillWriteStore _ _ _ => none
  | .fieldMemoryNetworkAccess _ _ _ _ _ _ => none
  | .tuningLoadGo src => some src
  | .tuningLoadCopyDone _ => none
  | .tuningLoadComplete _ => none
  | .retuneGo src _ => some src
  | .groupRetuneGo src => some src
  | .retuneCueToken _ _ => none
  | .drainSwitch _ _ => none
  | .retuneLimitExpiry _ _ => none
  | .retuneCancel src _ => some src
  | .capoHold src => some src
  | .capoRelease src => some src
  | .capoBoundary _ => none
  | .fieldHalt src _ => some src
  | .fieldRun src _ => some src
  | .fieldClear src _ => some src
  | .activateSlot src _ _ => some src
  | .queueItemWrite _ _ _ _ => none
  | .queueItemEndWrite _ _ _ _ => none
  | .queuePop _ _ _ => none
  | .queuePeek _ _ _ => none
  | .edgePortInputToken _ _ => none
  | .edgePortOutputToken _ _ => none
  | .dmaInputRecord _ _ => none
  | .dmaOutputRecord _ _ => none
  | .dmaHostIndexWrite src _ _ => some src
  | .spillWrite _ _ => none
  | .spillRead _ _ => none
  | .queueFlush src _ => some src
  | .queueFlushApply src _ => some src
  | .flushComplete _ _ => none
  | .spillRegionWrite src _ _ _ => some src
  | .stagedRegionApply _ _ => none
  | .queueEnable src _ => some src
  | .queueDisable src _ => some src
  | .queueStartComplete _ _ => none
  | .queueStopComplete _ _ => none
  | .quadratureCount _ _ _ _ => none
  | .encoderIndex _ _ _ => none
  | .encoderEnable src _ => some src
  | .encoderDisable src _ => some src
  | .encoderStartComplete _ _ => none
  | .encoderStopComplete _ _ => none
  | .positionPreset src _ _ => some src
  | .handoffToAon _ _ => none
  | .aonCount _ _ _ _ => none
  | .handoffFromAon _ _ => none
  | .lineGenEnable src _ => some src
  | .lineGenDisable src _ => some src
  | .triggerEdge _ _ _ => none
  | .triggerEnable src _ => some src
  | .triggerDisable src _ => some src
  | .productRetire _ _ => none
  | .mapEdit src _ _ => some src
  | .mapImageWrite src _ _ => some src
  | .activeCopySwitch _ _ => none
  | .formatterWord _ _ => none
  | .fireFrameLaunch _ _ => none
  | .barEnable src _ => some src
  | .barDisable src _ => some src
  | .barStartComplete _ _ => none
  | .barStopComplete _ _ => none
  | .mgmtRequest src _ _ => some src
  | .mgmtReply _ _ _ _ _ => none
  | .mgmtTimeout _ _ => none
  | .headStatus _ _ _ _ _ => none
  | .nozzleReport _ _ _ _ _ => none
  | .headSilent _ _ => none
  | .rejectDecision _ _ => none
  | .rejectPulseEnd _ _ => none
  | .gateEnable src _ => some src
  | .gateDisable src _ => some src
  | .polarityWrite src _ _ => some src
  | .forceReject src _ => some src
  | .imageLine _ _ _ _ _ _ => none
  | .lineLostTimeout _ _ => none
  | .bridgeStatus _ _ _ _ _ => none
  | .bridgeSilent _ _ => none
  | .cameraEnable src _ => some src
  | .cameraDisable src _ => some src
  | .cameraStartComplete _ _ => none
  | .cameraStopComplete _ _ => none
  | .verdictPost src _ => some src
  | .healthPost src _ => some src
  | .archiveRecord _ => none
  | .allotmentGrant src _ => some src
  | .resetGrant src _ => some src
  | .journalWriteComplete _ _ => none
  | .serialTextRead src => some src
  | .allotmentRetire src _ => some src
  | .serialRecovery _ => none
  | .ledgerRecordWrite _ => none
  | .checkpointStart _ => none
  | .checkpointPublish _ => none
  | .ledgerRingWrite src _ _ _ => some src
  | .pairEnable src => some src
  | .pairDisable src => some src
  | .hello _ _ _ _ _ => none
  | .helloSend _ => none
  | .heartbeat _ _ _ _ _ => none
  | .heartbeatSend _ _ => none
  | .arbitrationTimeout _ => none
  | .firmwareKick src => some src
  | .watchdogExpiry _ _ => none
  | .sidebandLowTimeout _ _ _ => none
  | .linkLost _ => none
  | .linkLost200us _ => none
  | .orderedAnswerTimeout _ => none
  | .mirrorWrite _ _ _ _ _ _ => none
  | .ack _ _ _ _ _ _ => none
  | .nak _ _ _ _ _ _ => none
  | .commit _ _ _ _ _ _ => none
  | .reserve _ _ _ _ _ _ => none
  | .mapSwitch _ _ _ _ _ _ => none
  | .checkpointState _ _ _ _ _ _ => none
  | .digest _ _ _ _ _ _ => none
  | .orphan _ _ _ _ _ _ => none
  | .positionMark _ _ _ _ _ _ => none
  | .encoderIdleAlign _ _ _ => none
  | .resyncRequest src => some src
  | .resyncCut _ _ => none
  | .resyncHoldLimit _ => none
  | .cut _ _ _ _ _ _ => none
  | .snapshot _ _ _ _ _ => none
  | .snapshotEnd _ _ _ _ _ _ => none
  | .catchUpComplete _ => none
  | .resyncDone _ _ _ _ _ _ => none
  | .resyncTimeout _ => none
  | .baseInstruction _ _ => none
  | .callw _ _ => none
  | .callwr _ _ => none
  | .retw _ _ => none
  | .smm _ _ _ => none
  | .smmO _ _ _ => none
  | .lmm _ _ _ => none
  | .lmmO _ _ _ => none
  | .spillw _ _ => none
  | .fillw _ _ => none
  | .rep _ _ => none
  | .repr _ _ => none
  | .loop _ _ => none
  | .fmac _ _ => none
  | .fmsc _ _ => none
  | .fmula _ _ => none
  | .fmacf _ _ => none
  | .fmscf _ _ => none
  | .xld _ _ => none
  | .yld _ _ => none
  | .xst _ _ => none
  | .yst _ _ => none
  | .fmvaf _ _ => none
  | .fmvfa _ _ => none
  | .accz _ _ => none
  | .accsum _ _ => none
  | .accumulatorWrite _ _ => none
  | .mret _ _ => none
  | .interrupt _ _ => none
  | .coreRun src _ => some src
  | .coreHalt src _ => some src
  | .coreHalted _ _ => none
  | .coreReset src _ => some src
  | .eventGrant _ => none
  | .coreEventPop src _ => some src
  | .eventRaiseWrite src _ => some src
  | .coalescedMapClear src _ => some src
  | .taskSetup src _ => some src
  | .taskCreate src _ => some src
  | .taskPost src _ => some src
  | .taskSuspend src _ => some src
  | .taskResume src _ => some src
  | .taskDelete src _ => some src
  | .taskOffer _ => none
  | .coreAccept src _ _ => some src
  | .coreDone src _ => some src
  | .coreYield src _ => some src
  | .coreDelay src _ _ _ => some src
  | .coreAttach src _ => some src
  | .coreDetach src _ => some src
  | .dispatchTimeout _ _ => none
  | .delayDue _ _ => none
  | .tick _ => none
  | .intervalTimerDue _ _ => none
  | .timerEnable src _ => some src
  | .timerDisable src _ => some src
  | .schedCoresWrite src _ => some src
  | .traceModeWrite src _ => some src
  | .bankAccessGrant _ _ => none
  | .harrowBorrow _ _ => none
  | .harrowRestoreComplete _ => none
  | .lpddrInitDone _ _ => none
  | .lpddrTrainingDone _ _ _ => none
  | .lpddrMr4Read _ _ _ => none
  | .lpddrZqLatch _ _ => none
  | .lpddrWck2dqTracking _ _ => none
  | .lpddrRefresh _ _ => none
  | .lpddrWriteRefused _ _ => none
  | .networkRequest _ _ _ _ _ _ => none
  | .networkResponse _ _ _ => none
  | .requestTimeout _ _ _ => none
  | .portStallTimeout _ _ _ => none
  | .routeSwapGo src => some src
  | .niTableSwap _ _ => none
  | .routerReconfigGo src => some src
  | .routerReconfigApply _ => none
  | .laneEnableData src _ => some src
  | .laneEnableTest src _ => some src
  | .laneDisable src _ => some src
  | .lanePllLock _ _ => none
  | .laneDataEntry _ _ => none
  | .laneLinkDrop _ _ _ => none
  | .laneStatusSet _ _ _ => none
  | .laneStatusSend _ _ _ => none
  | .laneStatusSilence _ _ => none
  | .acquireTimeout _ _ => none
  | .laneRetrain src _ => some src
  | .laneStopComplete _ _ => none
  | .refclkLost _ => none
  | .dfeAdapt _ _ _ => none
  | .prbsLock _ _ => none
  | .prbsInject src _ => some src
  | .prbsCounterClear src _ => some src
  | .opralDatagram _ _ _ _ _ => none
  | .opralRead _ _ _ _ _ _ _ _ _ => none
  | .opralWrite _ _ _ _ _ _ _ _ _ => none
  | .opralSegRead _ _ _ _ _ _ _ _ _ _ => none
  | .opralSegWrite _ _ _ _ _ _ _ _ _ _ _ _ => none
  | .segmentTimeout _ => none
  | .arpRequest _ _ _ _ _ => none
  | .icmpEcho _ _ _ _ _ => none
  | .canPortEnable src _ => some src
  | .nmtStart _ _ _ => none
  | .nmtStop _ _ _ => none
  | .nmtEnterPreOperational _ _ _ => none
  | .nmtResetNode _ _ _ => none
  | .nmtResetCommunication _ _ _ => none
  | .canHeartbeat _ _ => none
  | .canBusOff _ _ => none
  | .sdoDownload _ _ _ _ _ _ _ => none
  | .sdoUpload _ _ _ _ _ _ => none
  | .sdoTimeout _ _ => none
  | .rpdo _ _ _ => none
  | .tpdoCyclic _ _ => none
  | .canSync _ _ => none
  | .tpdoTrigger src _ => some src
  | .cobidWrite src _ _ => some src
  | .ptpSync _ _ _ _ _ _ => none
  | .ptpFollowUp _ _ _ _ _ _ => none
  | .ptpAnnounce _ _ _ _ _ _ _ _ _ => none
  | .ptpDelayReq _ => none
  | .ptpDelayResp _ _ _ _ _ _ => none
  | .announceReceiptTimeout _ => none
  | .ppsInEdge _ => none
  | .ppsOutSecond _ => none
  | .storeParameters src => some src
  | .storeComplete _ _ => none
  | .restoreDefaults src => some src
  | .powerOn _ _ _ _ _ _ => none
  | .brownOut _ => none
  | .powerFail _ _ => none
  | .supplyOvercurrent _ _ => none
  | .boardSupplyModeWrite src _ => some src
  | .lpddrSupplyEnableWrite src _ => some src
  | .lpddrSupplyFault _ _ => none
  | .domainRequestOn src _ => some src
  | .domainRequestOff src _ => some src
  | .domainRequestRetained src _ => some src
  | .domainStartComplete _ _ _ => none
  | .domainFenceApplied _ _ => none
  | .domainDrainComplete _ _ => none
  | .domainStopComplete _ _ => none
  | .powerModeRun src => some src
  | .powerModeLineStop src => some src
  | .powerModeSleep src => some src
  | .powerModeDeepSleep src => some src
  | .lineStopClockStop _ => none
  | .lineStopEntryTimeout _ => none
  | .wake _ _ => none
  | .pllLockLoss _ _ _ => none
  | .rcTrim _ _ => none
  | .tempSample _ _ => none
  | .furrowClockGate _ _ _ => none
  | .engineReset src => some src
  | .porst _ _ _ _ _ _ => none
  | .jtagTestLogicReset _ => none
  | .boot _ _ _ => none
  | .firmwareUpdate src _ => some src
  | .flashUpdateComplete _ _ => none
  | .firmwareRollbackFloorWrite src _ => some src
  | .mailboxSha3512 _ _ => none
  | .mailboxShake256 _ _ => none
  | .mailboxVerify _ _ => none
  | .mailboxSign _ _ => none
  | .mailboxRandom _ _ => none
  | .mailboxComplete _ _ => none
  | .trngHealthFail _ => none
  | .trngRestart src => some src
  | .randomRead src => some src
  | .ownerInstall src _ _ => some src
  | .keyInstall src _ _ => some src
  | .keyErase src _ _ => some src
  | .keyReplaceOwner src _ _ => some src
  | .attestNonce src _ => some src
  | .attestDone _ => none
  | .cacheInstall src _ => some src
  | .cacheErase src _ => some src
  | .snapshotCounters src => some src
  | .snapshotWriteComplete _ _ => none
  | .clearCounters src => some src
  | .tapBypass _ _ => none
  | .tapSamplePreload _ _ _ => none
  | .tapExtest _ _ _ => none
  | .tapIdcode _ => none
  | .serialValueComputed _ _ => none
  | .prbsLockLoss _ _ => none
  | .prbsBitError _ _ => none
  | .blockError _ _ _ _ => none
  | .refclkRestored _ => none
  | .lfxoStop _ => none
  | .ethLinkChange _ _ _ => none
  | .canBusStateChange _ _ _ => none
  | .ppsOutWidthEnd _ => none
  | .resetOutRelease _ => none
  | .pairLaneHeartbeatTimeout _ _ => none
  | .trngStartupComplete _ _ => none

/-- A well-formed command is not made in the name of the pair agent or of boot. -/
def Statement (i : Instr) : Prop := i.wf = true → (sourceOf i).all external = true

theorem head {a b : Bool} (h : (a && b) = true) : a = true := by
  revert h; cases a <;> simp

theorem objectWrite (src : Source) (idx : Nat) (sub : Nat) (v : ObjVal) : Statement (.objectWrite src idx sub v) := fun h => head (head (head h))
theorem troubleCounterClear (src : Source) (idx : Nat) (sub : Nat) (v : Nat) : Statement (.troubleCounterClear src idx sub v) := fun h => head (head (head (head h)))
theorem eventCauseClear (src : Source) (idx : Nat) (sub : Nat) (v : Nat) : Statement (.eventCauseClear src idx sub v) := fun h => head (head (head (head h)))
theorem u64LowWordRead (n : CoreId) (idx : Nat) (sub : Nat) : Statement (.u64LowWordRead n idx sub) := fun _ => rfl
theorem u64HighWordWrite (n : CoreId) (idx : Nat) (sub : Nat) (v : Nat) : Statement (.u64HighWordWrite n idx sub v) := fun _ => rfl
theorem u64LowWordWrite (n : CoreId) (idx : Nat) (sub : Nat) (v : Nat) : Statement (.u64LowWordWrite n idx sub v) := fun _ => rfl
theorem domainTransferRead (n : CoreId) : Statement (.domainTransferRead n) := fun _ => rfl
theorem domainTransferWrite (n : CoreId) : Statement (.domainTransferWrite n) := fun _ => rfl
theorem domainTransferComplete (t : Nat) (n : CoreId) : Statement (.domainTransferComplete t n) := fun _ => rfl
theorem cellFire (t : Nat) (f : FieldId) (c : CellId) : Statement (.cellFire t f c) := fun _ => rfl
theorem operationComplete (t : Nat) (f : FieldId) (c : CellId) (k : Nat) : Statement (.operationComplete t f c k) := fun _ => rfl
theorem resultDelivery (t : Nat) (f : FieldId) (c : CellId) : Statement (.resultDelivery t f c) := fun _ => rfl
theorem configRegisterWrite (t : Nat) (f : FieldId) (c : CellId) (slot : Fin 8) (k : Fin 8) (v : Nat) : Statement (.configRegisterWrite t f c slot k v) := fun _ => rfl
theorem lutEntryWrite (t : Nat) (f : FieldId) (j : Fin 256) (v : Nat) : Statement (.lutEntryWrite t f j v) := fun _ => rfl
theorem capoStateWrite (t : Nat) (f : FieldId) (j : Fin 8704) (v : Nat) : Statement (.capoStateWrite t f j v) := fun _ => rfl
theorem rowBypassWrite (src : Source) (r : Fin 4) (v : Nat) : Statement (.rowBypassWrite src r v) := fun h => head h
theorem bypassStageTransfer (t : Nat) (f : FieldId) (u : Furrow) (west : Bool) : Statement (.bypassStageTransfer t f u west) := fun _ => rfl
theorem drillReadItem (t : Nat) (f : FieldId) (d : DrillId) : Statement (.drillReadItem t f d) := fun _ => rfl
theorem drillWriteAccept (t : Nat) (f : FieldId) (d : DrillId) : Statement (.drillWriteAccept t f d) := fun _ => rfl
theorem drillWriteStore (t : Nat) (f : FieldId) (d : DrillId) : Statement (.drillWriteStore t f d) := fun _ => rfl
theorem fieldMemoryNetworkAccess (t : Nat) (f : FieldId) (off : Nat) (size : Nat) (write : Bool) (v : Nat) : Statement (.fieldMemoryNetworkAccess t f off size write v) := fun _ => rfl
theorem tuningLoadGo (src : Source) : Statement (.tuningLoadGo src) := fun h => h
theorem tuningLoadCopyDone (t : Nat) : Statement (.tuningLoadCopyDone t) := fun _ => rfl
theorem tuningLoadComplete (t : Nat) : Statement (.tuningLoadComplete t) := fun _ => rfl
theorem retuneGo (src : Source) (f : FieldId) : Statement (.retuneGo src f) := fun h => h
theorem groupRetuneGo (src : Source) : Statement (.groupRetuneGo src) := fun h => h
theorem retuneCueToken (t : Nat) (f : FieldId) : Statement (.retuneCueToken t f) := fun _ => rfl
theorem drainSwitch (t : Nat) (f : FieldId) : Statement (.drainSwitch t f) := fun _ => rfl
theorem retuneLimitExpiry (t : Nat) (f : FieldId) : Statement (.retuneLimitExpiry t f) := fun _ => rfl
theorem retuneCancel (src : Source) (f : FieldId) : Statement (.retuneCancel src f) := fun h => h
theorem capoHold (src : Source) : Statement (.capoHold src) := fun h => h
theorem capoRelease (src : Source) : Statement (.capoRelease src) := fun h => h
theorem capoBoundary (t : Nat) : Statement (.capoBoundary t) := fun _ => rfl
theorem fieldHalt (src : Source) (f : FieldId) : Statement (.fieldHalt src f) := fun h => h
theorem fieldRun (src : Source) (f : FieldId) : Statement (.fieldRun src f) := fun h => h
theorem fieldClear (src : Source) (f : FieldId) : Statement (.fieldClear src f) := fun h => h
theorem activateSlot (src : Source) (f : FieldId) (slot : Nat) : Statement (.activateSlot src f slot) := fun h => head h
theorem queueItemWrite (t : Nat) (q : QueueId) (n : CoreId) (v : Nat) : Statement (.queueItemWrite t q n v) := fun _ => rfl
theorem queueItemEndWrite (t : Nat) (q : QueueId) (n : CoreId) (v : Nat) : Statement (.queueItemEndWrite t q n v) := fun _ => rfl
theorem queuePop (t : Nat) (q : QueueId) (n : CoreId) : Statement (.queuePop t q n) := fun _ => rfl
theorem queuePeek (t : Nat) (q : QueueId) (n : CoreId) : Statement (.queuePeek t q n) := fun _ => rfl
theorem edgePortInputToken (t : Nat) (q : QueueId) : Statement (.edgePortInputToken t q) := fun _ => rfl
theorem edgePortOutputToken (t : Nat) (p : Fin 32) : Statement (.edgePortOutputToken t p) := fun _ => rfl
theorem dmaInputRecord (t : Nat) (q : QueueId) : Statement (.dmaInputRecord t q) := fun _ => rfl
theorem dmaOutputRecord (t : Nat) (q : QueueId) : Statement (.dmaOutputRecord t q) := fun _ => rfl
theorem dmaHostIndexWrite (src : Source) (q : QueueId) (v : Nat) : Statement (.dmaHostIndexWrite src q v) := fun h => head h
theorem spillWrite (t : Nat) (q : QueueId) : Statement (.spillWrite t q) := fun _ => rfl
theorem spillRead (t : Nat) (q : QueueId) : Statement (.spillRead t q) := fun _ => rfl
theorem queueFlush (src : Source) (q : QueueId) : Statement (.queueFlush src q) := fun h => h
theorem queueFlushApply (src : Source) (q : QueueId) : Statement (.queueFlushApply src q) := fun h => h
theorem flushComplete (t : Nat) (q : QueueId) : Statement (.flushComplete t q) := fun _ => rfl
theorem spillRegionWrite (src : Source) (q : QueueId) (length : Bool) (v : Nat) : Statement (.spillRegionWrite src q length v) := fun h => head h
theorem stagedRegionApply (t : Nat) (q : QueueId) : Statement (.stagedRegionApply t q) := fun _ => rfl
theorem queueEnable (src : Source) (q : QueueId) : Statement (.queueEnable src q) := fun h => h
theorem queueDisable (src : Source) (q : QueueId) : Statement (.queueDisable src q) := fun h => h
theorem queueStartComplete (t : Nat) (q : QueueId) : Statement (.queueStartComplete t q) := fun _ => rfl
theorem queueStopComplete (t : Nat) (q : QueueId) : Statement (.queueStopComplete t q) := fun _ => rfl
theorem quadratureCount (t : Nat) (e : EncId) (a : Bool) (b : Bool) : Statement (.quadratureCount t e a b) := fun _ => rfl
theorem encoderIndex (t : Nat) (e : EncId) (z : Bool) : Statement (.encoderIndex t e z) := fun _ => rfl
theorem encoderEnable (src : Source) (e : EncId) : Statement (.encoderEnable src e) := fun h => h
theorem encoderDisable (src : Source) (e : EncId) : Statement (.encoderDisable src e) := fun h => h
theorem encoderStartComplete (t : Nat) (e : EncId) : Statement (.encoderStartComplete t e) := fun _ => rfl
theorem encoderStopComplete (t : Nat) (e : EncId) : Statement (.encoderStopComplete t e) := fun _ => rfl
theorem positionPreset (src : Source) (e : EncId) (v : Nat) : Statement (.positionPreset src e v) := fun h => head h
theorem handoffToAon (t : Nat) (e : EncId) : Statement (.handoffToAon t e) := fun _ => rfl
theorem aonCount (t : Nat) (e : EncId) (a : Bool) (b : Bool) : Statement (.aonCount t e a b) := fun _ => rfl
theorem handoffFromAon (t : Nat) (e : EncId) : Statement (.handoffFromAon t e) := fun _ => rfl
theorem lineGenEnable (src : Source) (g : GenId) : Statement (.lineGenEnable src g) := fun h => h
theorem lineGenDisable (src : Source) (g : GenId) : Statement (.lineGenDisable src g) := fun h => h
theorem triggerEdge (t : Nat) (k : TrigId) (rising : Bool) : Statement (.triggerEdge t k rising) := fun _ => rfl
theorem triggerEnable (src : Source) (k : TrigId) : Statement (.triggerEnable src k) := fun h => h
theorem triggerDisable (src : Source) (k : TrigId) : Statement (.triggerDisable src k) := fun h => h
theorem productRetire (t : Nat) (id : Nat) : Statement (.productRetire t id) := fun _ => rfl
theorem mapEdit (src : Source) (b : BarId) (v : Nat) : Statement (.mapEdit src b v) := fun h => head h
theorem mapImageWrite (src : Source) (b : BarId) (bytes : List Byte) : Statement (.mapImageWrite src b bytes) := fun h => head h
theorem activeCopySwitch (t : Nat) (b : BarId) : Statement (.activeCopySwitch t b) := fun _ => rfl
theorem formatterWord (t : Nat) (b : BarId) : Statement (.formatterWord t b) := fun _ => rfl
theorem fireFrameLaunch (t : Nat) (b : BarId) : Statement (.fireFrameLaunch t b) := fun _ => rfl
theorem barEnable (src : Source) (b : BarId) : Statement (.barEnable src b) := fun h => h
theorem barDisable (src : Source) (b : BarId) : Statement (.barDisable src b) := fun h => h
theorem barStartComplete (t : Nat) (b : BarId) : Statement (.barStartComplete t b) := fun _ => rfl
theorem barStopComplete (t : Nat) (b : BarId) : Statement (.barStopComplete t b) := fun _ => rfl
theorem mgmtRequest (src : Source) (unit : Fin 30) (bytes : List Byte) : Statement (.mgmtRequest src unit bytes) := fun h => head h
theorem mgmtReply (t : Nat) (unit : Fin 30) (hdr : Nat) (p : List Byte) (crcOk : Bool) : Statement (.mgmtReply t unit hdr p crcOk) := fun _ => rfl
theorem mgmtTimeout (t : Nat) (unit : Fin 30) : Statement (.mgmtTimeout t unit) := fun _ => rfl
theorem headStatus (t : Nat) (b : BarId) (hdr : Nat) (p : List Byte) (crcOk : Bool) : Statement (.headStatus t b hdr p crcOk) := fun _ => rfl
theorem nozzleReport (t : Nat) (b : BarId) (hdr : Nat) (p : List Byte) (crcOk : Bool) : Statement (.nozzleReport t b hdr p crcOk) := fun _ => rfl
theorem headSilent (t : Nat) (b : BarId) : Statement (.headSilent t b) := fun _ => rfl
theorem rejectDecision (t : Nat) (j : GateId) : Statement (.rejectDecision t j) := fun _ => rfl
theorem rejectPulseEnd (t : Nat) (j : GateId) : Statement (.rejectPulseEnd t j) := fun _ => rfl
theorem gateEnable (src : Source) (j : GateId) : Statement (.gateEnable src j) := fun h => h
theorem gateDisable (src : Source) (j : GateId) : Statement (.gateDisable src j) := fun h => h
theorem polarityWrite (src : Source) (j : GateId) (v : Nat) : Statement (.polarityWrite src j v) := fun h => head h
theorem forceReject (src : Source) (id : Nat) : Statement (.forceReject src id) := fun h => head h
theorem imageLine (t : Nat) (k : CamId) (odd : Bool) (hdr : Nat) (p : List Byte) (crcOk : Bool) : Statement (.imageLine t k odd hdr p crcOk) := fun _ => rfl
theorem lineLostTimeout (t : Nat) (k : CamId) : Statement (.lineLostTimeout t k) := fun _ => rfl
theorem bridgeStatus (t : Nat) (k : CamId) (hdr : Nat) (p : List Byte) (crcOk : Bool) : Statement (.bridgeStatus t k hdr p crcOk) := fun _ => rfl
theorem bridgeSilent (t : Nat) (k : CamId) : Statement (.bridgeSilent t k) := fun _ => rfl
theorem cameraEnable (src : Source) (k : CamId) : Statement (.cameraEnable src k) := fun h => h
theorem cameraDisable (src : Source) (k : CamId) : Statement (.cameraDisable src k) := fun h => h
theorem cameraStartComplete (t : Nat) (k : CamId) : Statement (.cameraStartComplete t k) := fun _ => rfl
theorem cameraStopComplete (t : Nat) (k : CamId) : Statement (.cameraStopComplete t k) := fun _ => rfl
theorem verdictPost (src : Source) (v : Nat) : Statement (.verdictPost src v) := fun h => head h
theorem healthPost (src : Source) (v : Nat) : Statement (.healthPost src v) := fun h => head h
theorem archiveRecord (t : Nat) : Statement (.archiveRecord t) := fun _ => rfl
theorem allotmentGrant (src : Source) (bytes : List Byte) : Statement (.allotmentGrant src bytes) := fun h => head h
theorem resetGrant (src : Source) (bytes : List Byte) : Statement (.resetGrant src bytes) := fun h => head h
theorem journalWriteComplete (t : Nat) (ok : Bool) : Statement (.journalWriteComplete t ok) := fun _ => rfl
theorem serialTextRead (src : Source) : Statement (.serialTextRead src) := fun h => h
theorem allotmentRetire (src : Source) (a : AllotId) : Statement (.allotmentRetire src a) := fun h => h
theorem serialRecovery (t : Nat) : Statement (.serialRecovery t) := fun _ => rfl
theorem ledgerRecordWrite (t : Nat) : Statement (.ledgerRecordWrite t) := fun _ => rfl
theorem checkpointStart (t : Nat) : Statement (.checkpointStart t) := fun _ => rfl
theorem checkpointPublish (t : Nat) : Statement (.checkpointPublish t) := fun _ => rfl
theorem ledgerRingWrite (src : Source) (checkpoint : Bool) (size : Bool) (v : Nat) : Statement (.ledgerRingWrite src checkpoint size v) := fun h => head h
theorem pairEnable (src : Source) : Statement (.pairEnable src) := fun h => h
theorem pairDisable (src : Source) : Statement (.pairDisable src) := fun h => h
theorem hello (t : Nat) (i : PairLane) (role : Nat) (p : List Byte) (ok : Bool) : Statement (.hello t i role p ok) := fun _ => rfl
theorem helloSend (t : Nat) : Statement (.helloSend t) := fun _ => rfl
theorem heartbeat (t : Nat) (i : PairLane) (role : Nat) (p : List Byte) (ok : Bool) : Statement (.heartbeat t i role p ok) := fun _ => rfl
theorem heartbeatSend (t : Nat) (i : PairLane) : Statement (.heartbeatSend t i) := fun _ => rfl
theorem arbitrationTimeout (t : Nat) : Statement (.arbitrationTimeout t) := fun _ => rfl
theorem firmwareKick (src : Source) : Statement (.firmwareKick src) := fun h => h
theorem watchdogExpiry (t : Nat) (agentStopped : Bool) : Statement (.watchdogExpiry t agentStopped) := fun _ => rfl
theorem sidebandLowTimeout (t : Nat) (alive : Bool) (role : Bool) : Statement (.sidebandLowTimeout t alive role) := fun _ => rfl
theorem linkLost (t : Nat) : Statement (.linkLost t) := fun _ => rfl
theorem linkLost200us (t : Nat) : Statement (.linkLost200us t) := fun _ => rfl
theorem orderedAnswerTimeout (t : Nat) : Statement (.orderedAnswerTimeout t) := fun _ => rfl
theorem mirrorWrite (t : Nat) (i : PairLane) (seq : Nat) (role : Nat) (p : List Byte) (ok : Bool) : Statement (.mirrorWrite t i seq role p ok) := fun _ => rfl
theorem ack (t : Nat) (i : PairLane) (seq : Nat) (role : Nat) (p : List Byte) (ok : Bool) : Statement (.ack t i seq role p ok) := fun _ => rfl
theorem nak (t : Nat) (i : PairLane) (seq : Nat) (role : Nat) (p : List Byte) (ok : Bool) : Statement (.nak t i seq role p ok) := fun _ => rfl
theorem commit (t : Nat) (i : PairLane) (seq : Nat) (role : Nat) (p : List Byte) (ok : Bool) : Statement (.commit t i seq role p ok) := fun _ => rfl
theorem reserve (t : Nat) (i : PairLane) (seq : Nat) (role : Nat) (p : List Byte) (ok : Bool) : Statement (.reserve t i seq role p ok) := fun _ => rfl
theorem mapSwitch (t : Nat) (i : PairLane) (seq : Nat) (role : Nat) (p : List Byte) (ok : Bool) : Statement (.mapSwitch t i seq role p ok) := fun _ => rfl
theorem checkpointState (t : Nat) (i : PairLane) (seq : Nat) (role : Nat) (p : List Byte) (ok : Bool) : Statement (.checkpointState t i seq role p ok) := fun _ => rfl
theorem digest (t : Nat) (i : PairLane) (seq : Nat) (role : Nat) (p : List Byte) (ok : Bool) : Statement (.digest t i seq role p ok) := fun _ => rfl
theorem orphan (t : Nat) (i : PairLane) (seq : Nat) (role : Nat) (p : List Byte) (ok : Bool) : Statement (.orphan t i seq role p ok) := fun _ => rfl
theorem positionMark (t : Nat) (i : PairLane) (seq : Nat) (role : Nat) (p : List Byte) (ok : Bool) : Statement (.positionMark t i seq role p ok) := fun _ => rfl
theorem encoderIdleAlign (t : Nat) (e : EncId) (pos : Option Nat) : Statement (.encoderIdleAlign t e pos) := fun _ => rfl
theorem resyncRequest (src : Source) : Statement (.resyncRequest src) := fun h => h
theorem resyncCut (t : Nat) (rewritten : Nat) : Statement (.resyncCut t rewritten) := fun _ => rfl
theorem resyncHoldLimit (t : Nat) : Statement (.resyncHoldLimit t) := fun _ => rfl
theorem cut (t : Nat) (i : PairLane) (seq : Nat) (role : Nat) (p : List Byte) (ok : Bool) : Statement (.cut t i seq role p ok) := fun _ => rfl
theorem snapshot (t : Nat) (i : PairLane) (role : Nat) (p : List Byte) (ok : Bool) : Statement (.snapshot t i role p ok) := fun _ => rfl
theorem snapshotEnd (t : Nat) (i : PairLane) (seq : Nat) (role : Nat) (p : List Byte) (ok : Bool) : Statement (.snapshotEnd t i seq role p ok) := fun _ => rfl
theorem catchUpComplete (t : Nat) : Statement (.catchUpComplete t) := fun _ => rfl
theorem resyncDone (t : Nat) (i : PairLane) (seq : Nat) (role : Nat) (p : List Byte) (ok : Bool) : Statement (.resyncDone t i seq role p ok) := fun _ => rfl
theorem resyncTimeout (t : Nat) : Statement (.resyncTimeout t) := fun _ => rfl
theorem baseInstruction (t : Nat) (n : CoreId) : Statement (.baseInstruction t n) := fun _ => rfl
theorem callw (t : Nat) (n : CoreId) : Statement (.callw t n) := fun _ => rfl
theorem callwr (t : Nat) (n : CoreId) : Statement (.callwr t n) := fun _ => rfl
theorem retw (t : Nat) (n : CoreId) : Statement (.retw t n) := fun _ => rfl
theorem smm (t : Nat) (n : CoreId) (regs : Nat) : Statement (.smm t n regs) := fun _ => rfl
theorem smmO (t : Nat) (n : CoreId) (regs : Nat) : Statement (.smmO t n regs) := fun _ => rfl
theorem lmm (t : Nat) (n : CoreId) (regs : Nat) : Statement (.lmm t n regs) := fun _ => rfl
theorem lmmO (t : Nat) (n : CoreId) (regs : Nat) : Statement (.lmmO t n regs) := fun _ => rfl
theorem spillw (t : Nat) (n : CoreId) : Statement (.spillw t n) := fun _ => rfl
theorem fillw (t : Nat) (n : CoreId) : Statement (.fillw t n) := fun _ => rfl
theorem rep (t : Nat) (n : CoreId) : Statement (.rep t n) := fun _ => rfl
theorem repr (t : Nat) (n : CoreId) : Statement (.repr t n) := fun _ => rfl
theorem loop (t : Nat) (n : CoreId) : Statement (.loop t n) := fun _ => rfl
theorem fmac (t : Nat) (n : CoreId) : Statement (.fmac t n) := fun _ => rfl
theorem fmsc (t : Nat) (n : CoreId) : Statement (.fmsc t n) := fun _ => rfl
theorem fmula (t : Nat) (n : CoreId) : Statement (.fmula t n) := fun _ => rfl
theorem fmacf (t : Nat) (n : CoreId) : Statement (.fmacf t n) := fun _ => rfl
theorem fmscf (t : Nat) (n : CoreId) : Statement (.fmscf t n) := fun _ => rfl
theorem xld (t : Nat) (n : CoreId) : Statement (.xld t n) := fun _ => rfl
theorem yld (t : Nat) (n : CoreId) : Statement (.yld t n) := fun _ => rfl
theorem xst (t : Nat) (n : CoreId) : Statement (.xst t n) := fun _ => rfl
theorem yst (t : Nat) (n : CoreId) : Statement (.yst t n) := fun _ => rfl
theorem fmvaf (t : Nat) (n : CoreId) : Statement (.fmvaf t n) := fun _ => rfl
theorem fmvfa (t : Nat) (n : CoreId) : Statement (.fmvfa t n) := fun _ => rfl
theorem accz (t : Nat) (n : CoreId) : Statement (.accz t n) := fun _ => rfl
theorem accsum (t : Nat) (n : CoreId) : Statement (.accsum t n) := fun _ => rfl
theorem accumulatorWrite (t : Nat) (n : CoreId) : Statement (.accumulatorWrite t n) := fun _ => rfl
theorem mret (t : Nat) (n : CoreId) : Statement (.mret t n) := fun _ => rfl
theorem interrupt (t : Nat) (n : CoreId) : Statement (.interrupt t n) := fun _ => rfl
theorem coreRun (src : Source) (n : CoreId) : Statement (.coreRun src n) := fun h => h
theorem coreHalt (src : Source) (n : CoreId) : Statement (.coreHalt src n) := fun h => h
theorem coreHalted (t : Nat) (n : CoreId) : Statement (.coreHalted t n) := fun _ => rfl
theorem coreReset (src : Source) (n : CoreId) : Statement (.coreReset src n) := fun h => h
theorem eventGrant (t : Nat) : Statement (.eventGrant t) := fun _ => rfl
theorem coreEventPop (src : Source) (n : CoreId) : Statement (.coreEventPop src n) := fun h => h
theorem eventRaiseWrite (src : Source) (v : Nat) : Statement (.eventRaiseWrite src v) := fun h => head h
theorem coalescedMapClear (src : Source) (bytes : List Byte) : Statement (.coalescedMapClear src bytes) := fun h => head h
theorem taskSetup (src : Source) (v : Nat) : Statement (.taskSetup src v) := fun h => head h
theorem taskCreate (src : Source) (task : Nat) : Statement (.taskCreate src task) := fun h => head h
theorem taskPost (src : Source) (task : Nat) : Statement (.taskPost src task) := fun h => head h
theorem taskSuspend (src : Source) (task : Nat) : Statement (.taskSuspend src task) := fun h => head h
theorem taskResume (src : Source) (task : Nat) : Statement (.taskResume src task) := fun h => head h
theorem taskDelete (src : Source) (task : Nat) : Statement (.taskDelete src task) := fun h => head h
theorem taskOffer (t : Nat) : Statement (.taskOffer t) := fun _ => rfl
theorem coreAccept (src : Source) (n : CoreId) (task : Nat) : Statement (.coreAccept src n task) := fun h => head h
theorem coreDone (src : Source) (n : CoreId) : Statement (.coreDone src n) := fun h => h
theorem coreYield (src : Source) (n : CoreId) : Statement (.coreYield src n) := fun h => h
theorem coreDelay (src : Source) (n : CoreId) (list : Fin 8) (arg : Nat) : Statement (.coreDelay src n list arg) := fun h => head h
theorem coreAttach (src : Source) (n : CoreId) : Statement (.coreAttach src n) := fun h => h
theorem coreDetach (src : Source) (n : CoreId) : Statement (.coreDetach src n) := fun h => h
theorem dispatchTimeout (t : Nat) (n : CoreId) : Statement (.dispatchTimeout t n) := fun _ => rfl
theorem delayDue (t : Nat) (list : Fin 5) : Statement (.delayDue t list) := fun _ => rfl
theorem tick (t : Nat) : Statement (.tick t) := fun _ => rfl
theorem intervalTimerDue (t : Nat) (i : TimerId) : Statement (.intervalTimerDue t i) := fun _ => rfl
theorem timerEnable (src : Source) (i : TimerId) : Statement (.timerEnable src i) := fun h => h
theorem timerDisable (src : Source) (i : TimerId) : Statement (.timerDisable src i) := fun h => h
theorem schedCoresWrite (src : Source) (v : Nat) : Statement (.schedCoresWrite src v) := fun h => head h
theorem traceModeWrite (src : Source) (v : Nat) : Statement (.traceModeWrite src v) := fun h => head h
theorem bankAccessGrant (t : Nat) (b : Fin 32) : Statement (.bankAccessGrant t b) := fun _ => rfl
theorem harrowBorrow (t : Nat) (faults : List (Nat × List Byte)) : Statement (.harrowBorrow t faults) := fun _ => rfl
theorem harrowRestoreComplete (t : Nat) : Statement (.harrowRestoreComplete t) := fun _ => rfl
theorem lpddrInitDone (t : Nat) (i : LpId) : Statement (.lpddrInitDone t i) := fun _ => rfl
theorem lpddrTrainingDone (t : Nat) (i : LpId) (failStep : Fin 16) : Statement (.lpddrTrainingDone t i failStep) := fun _ => rfl
theorem lpddrMr4Read (t : Nat) (i : LpId) (code : Nat) : Statement (.lpddrMr4Read t i code) := fun _ => rfl
theorem lpddrZqLatch (t : Nat) (i : LpId) : Statement (.lpddrZqLatch t i) := fun _ => rfl
theorem lpddrWck2dqTracking (t : Nat) (i : LpId) : Statement (.lpddrWck2dqTracking t i) := fun _ => rfl
theorem lpddrRefresh (t : Nat) (i : LpId) : Statement (.lpddrRefresh t i) := fun _ => rfl
theorem lpddrWriteRefused (t : Nat) (history : Option (CamId × Nat)) : Statement (.lpddrWriteRefused t history) := fun _ => rfl
theorem networkRequest (t : Nat) (ni : NiId) (addr : Nat) (size : Nat) (write : Bool) (v : Nat) : Statement (.networkRequest t ni addr size write v) := fun _ => rfl
theorem networkResponse (t : Nat) (ni : NiId) (tag : Nat) : Statement (.networkResponse t ni tag) := fun _ => rfl
theorem requestTimeout (t : Nat) (ni : NiId) (tag : Nat) : Statement (.requestTimeout t ni tag) := fun _ => rfl
theorem portStallTimeout (t : Nat) (ni : NiId) (tag : Nat) : Statement (.portStallTimeout t ni tag) := fun _ => rfl
theorem routeSwapGo (src : Source) : Statement (.routeSwapGo src) := fun h => h
theorem niTableSwap (t : Nat) (ni : NiId) : Statement (.niTableSwap t ni) := fun _ => rfl
theorem routerReconfigGo (src : Source) : Statement (.routerReconfigGo src) := fun h => h
theorem routerReconfigApply (t : Nat) : Statement (.routerReconfigApply t) := fun _ => rfl
theorem laneEnableData (src : Source) (n : LaneId) : Statement (.laneEnableData src n) := fun h => h
theorem laneEnableTest (src : Source) (n : LaneId) : Statement (.laneEnableTest src n) := fun h => h
theorem laneDisable (src : Source) (n : LaneId) : Statement (.laneDisable src n) := fun h => h
theorem lanePllLock (t : Nat) (n : LaneId) : Statement (.lanePllLock t n) := fun _ => rfl
theorem laneDataEntry (t : Nat) (n : LaneId) : Statement (.laneDataEntry t n) := fun _ => rfl
theorem laneLinkDrop (t : Nat) (n : LaneId) (inFrame : Bool) : Statement (.laneLinkDrop t n inFrame) := fun _ => rfl
theorem laneStatusSet (t : Nat) (n : LaneId) (ready : Bool) : Statement (.laneStatusSet t n ready) := fun _ => rfl
theorem laneStatusSend (t : Nat) (n : LaneId) (ready : Bool) : Statement (.laneStatusSend t n ready) := fun _ => rfl
theorem laneStatusSilence (t : Nat) (n : LaneId) : Statement (.laneStatusSilence t n) := fun _ => rfl
theorem acquireTimeout (t : Nat) (n : LaneId) : Statement (.acquireTimeout t n) := fun _ => rfl
theorem laneRetrain (src : Source) (n : LaneId) : Statement (.laneRetrain src n) := fun h => h
theorem laneStopComplete (t : Nat) (n : LaneId) : Statement (.laneStopComplete t n) := fun _ => rfl
theorem refclkLost (t : Nat) : Statement (.refclkLost t) := fun _ => rfl
theorem dfeAdapt (t : Nat) (n : LaneId) (sums : List Int) : Statement (.dfeAdapt t n sums) := fun _ => rfl
theorem prbsLock (t : Nat) (n : LaneId) : Statement (.prbsLock t n) := fun _ => rfl
theorem prbsInject (src : Source) (n : LaneId) : Statement (.prbsInject src n) := fun h => h
theorem prbsCounterClear (src : Source) (n : LaneId) : Statement (.prbsCounterClear src n) := fun h => h
theorem opralDatagram (t : Nat) (p : PortId) (ip : Nat) (udp : Nat) (b : List Byte) : Statement (.opralDatagram t p ip udp b) := fun _ => rfl
theorem opralRead (t : Nat) (p : PortId) (ip : Nat) (udp : Nat) (node : Nat) (seq : Nat) (idx : Nat) (sub : Nat) (ty : Nat) : Statement (.opralRead t p ip udp node seq idx sub ty) := fun _ => rfl
theorem opralWrite (t : Nat) (p : PortId) (ip : Nat) (udp : Nat) (node : Nat) (seq : Nat) (idx : Nat) (sub : Nat) (v : ObjVal) : Statement (.opralWrite t p ip udp node seq idx sub v) := fun _ => rfl
theorem opralSegRead (t : Nat) (p : PortId) (ip : Nat) (udp : Nat) (node : Nat) (seq : Nat) (idx : Nat) (sub : Nat) (off : Nat) (len : Nat) : Statement (.opralSegRead t p ip udp node seq idx sub off len) := fun _ => rfl
theorem opralSegWrite (t : Nat) (p : PortId) (ip : Nat) (udp : Nat) (node : Nat) (seq : Nat) (idx : Nat) (sub : Nat) (ty : Nat) (off : Nat) (last : Bool) (b : List Byte) : Statement (.opralSegWrite t p ip udp node seq idx sub ty off last b) := fun _ => rfl
theorem segmentTimeout (t : Nat) : Statement (.segmentTimeout t) := fun _ => rfl
theorem arpRequest (t : Nat) (p : PortId) (mac : Nat) (ip : Nat) (target : Nat) : Statement (.arpRequest t p mac ip target) := fun _ => rfl
theorem icmpEcho (t : Nat) (p : PortId) (ip : Nat) (target : Nat) (rest : List Byte) : Statement (.icmpEcho t p ip target rest) := fun _ => rfl
theorem canPortEnable (src : Source) (p : PortId) : Statement (.canPortEnable src p) := fun h => h
theorem nmtStart (t : Nat) (p : PortId) (node : Nat) : Statement (.nmtStart t p node) := fun _ => rfl
theorem nmtStop (t : Nat) (p : PortId) (node : Nat) : Statement (.nmtStop t p node) := fun _ => rfl
theorem nmtEnterPreOperational (t : Nat) (p : PortId) (node : Nat) : Statement (.nmtEnterPreOperational t p node) := fun _ => rfl
theorem nmtResetNode (t : Nat) (p : PortId) (node : Nat) : Statement (.nmtResetNode t p node) := fun _ => rfl
theorem nmtResetCommunication (t : Nat) (p : PortId) (node : Nat) : Statement (.nmtResetCommunication t p node) := fun _ => rfl
theorem canHeartbeat (t : Nat) (p : PortId) : Statement (.canHeartbeat t p) := fun _ => rfl
theorem canBusOff (t : Nat) (p : PortId) : Statement (.canBusOff t p) := fun _ => rfl
theorem sdoDownload (t : Nat) (p : PortId) (idx : Nat) (sub : Nat) (off : Nat) (last : Bool) (b : List Byte) : Statement (.sdoDownload t p idx sub off last b) := fun _ => rfl
theorem sdoUpload (t : Nat) (p : PortId) (idx : Nat) (sub : Nat) (off : Nat) (max : Nat) : Statement (.sdoUpload t p idx sub off max) := fun _ => rfl
theorem sdoTimeout (t : Nat) (p : PortId) : Statement (.sdoTimeout t p) := fun _ => rfl
theorem rpdo (t : Nat) (i : PdoId) (b : List Byte) : Statement (.rpdo t i b) := fun _ => rfl
theorem tpdoCyclic (t : Nat) (i : PdoId) : Statement (.tpdoCyclic t i) := fun _ => rfl
theorem canSync (t : Nat) (p : PortId) : Statement (.canSync t p) := fun _ => rfl
theorem tpdoTrigger (src : Source) (i : PdoId) : Statement (.tpdoTrigger src i) := fun h => h
theorem cobidWrite (src : Source) (i : PdoId) (v : Nat) : Statement (.cobidWrite src i v) := fun h => head h
theorem ptpSync (t : Nat) (p : PortId) (domain : Nat) (id : Nat) (seq : Nat) (origin : Option Nat) : Statement (.ptpSync t p domain id seq origin) := fun _ => rfl
theorem ptpFollowUp (t : Nat) (p : PortId) (domain : Nat) (id : Nat) (seq : Nat) (origin : Nat) : Statement (.ptpFollowUp t p domain id seq origin) := fun _ => rfl
theorem ptpAnnounce (t : Nat) (p : PortId) (domain : Nat) (id : Nat) (gm : Nat) (priority1 : Nat) (quality : Nat) (priority2 : Nat) (steps : Nat) : Statement (.ptpAnnounce t p domain id gm priority1 quality priority2 steps) := fun _ => rfl
theorem ptpDelayReq (t : Nat) : Statement (.ptpDelayReq t) := fun _ => rfl
theorem ptpDelayResp (t : Nat) (p : PortId) (domain : Nat) (id : Nat) (seq : Nat) (t4 : Nat) : Statement (.ptpDelayResp t p domain id seq t4) := fun _ => rfl
theorem announceReceiptTimeout (t : Nat) : Statement (.announceReceiptTimeout t) := fun _ => rfl
theorem ppsInEdge (t : Nat) : Statement (.ppsInEdge t) := fun _ => rfl
theorem ppsOutSecond (t : Nat) : Statement (.ppsOutSecond t) := fun _ => rfl
theorem storeParameters (src : Source) : Statement (.storeParameters src) := fun h => h
theorem storeComplete (t : Nat) (ok : Bool) : Statement (.storeComplete t ok) := fun _ => rfl
theorem restoreDefaults (src : Source) : Statement (.restoreDefaults src) := fun h => h
theorem powerOn (t : Nat) (pairRole : Bool) (jtagEnable : Bool) (bootRecovery : Bool) (coreDebug : Bool) (flash : List (Nat × List Byte)) : Statement (.powerOn t pairRole jtagEnable bootRecovery coreDebug flash) := fun _ => rfl
theorem brownOut (t : Nat) : Statement (.brownOut t) := fun _ => rfl
theorem powerFail (t : Nat) (mv : Nat) : Statement (.powerFail t mv) := fun _ => rfl
theorem supplyOvercurrent (t : Nat) (o : Fin 2) : Statement (.supplyOvercurrent t o) := fun _ => rfl
theorem boardSupplyModeWrite (src : Source) (v : Nat) : Statement (.boardSupplyModeWrite src v) := fun h => head h
theorem lpddrSupplyEnableWrite (src : Source) (v : Nat) : Statement (.lpddrSupplyEnableWrite src v) := fun h => head h
theorem lpddrSupplyFault (t : Nat) (i : LpId) : Statement (.lpddrSupplyFault t i) := fun _ => rfl
theorem domainRequestOn (src : Source) (d : DomainId) : Statement (.domainRequestOn src d) := fun h => h
theorem domainRequestOff (src : Source) (d : DomainId) : Statement (.domainRequestOff src d) := fun h => h
theorem domainRequestRetained (src : Source) (d : DomainId) : Statement (.domainRequestRetained src d) := fun h => h
theorem domainStartComplete (t : Nat) (d : DomainId) (ok : Bool) : Statement (.domainStartComplete t d ok) := fun _ => rfl
theorem domainFenceApplied (t : Nat) (d : DomainId) : Statement (.domainFenceApplied t d) := fun _ => rfl
theorem domainDrainComplete (t : Nat) (d : DomainId) : Statement (.domainDrainComplete t d) := fun _ => rfl
theorem domainStopComplete (t : Nat) (d : DomainId) : Statement (.domainStopComplete t d) := fun _ => rfl
theorem powerModeRun (src : Source) : Statement (.powerModeRun src) := fun h => h
theorem powerModeLineStop (src : Source) : Statement (.powerModeLineStop src) := fun h => h
theorem powerModeSleep (src : Source) : Statement (.powerModeSleep src) := fun h => h
theorem powerModeDeepSleep (src : Source) : Statement (.powerModeDeepSleep src) := fun h => h
theorem lineStopClockStop (t : Nat) : Statement (.lineStopClockStop t) := fun _ => rfl
theorem lineStopEntryTimeout (t : Nat) : Statement (.lineStopEntryTimeout t) := fun _ => rfl
theorem wake (t : Nat) (cause : Fin 5) : Statement (.wake t cause) := fun _ => rfl
theorem pllLockLoss (t : Nat) (aclkOk : Bool) (nclkOk : Bool) : Statement (.pllLockLoss t aclkOk nclkOk) := fun _ => rfl
theorem rcTrim (t : Nat) (err : Int) : Statement (.rcTrim t err) := fun _ => rfl
theorem tempSample (t : Nat) (temp : Int) : Statement (.tempSample t temp) := fun _ => rfl
theorem furrowClockGate (t : Nat) (f : FieldId) (u : Furrow) : Statement (.furrowClockGate t f u) := fun _ => rfl
theorem engineReset (src : Source) : Statement (.engineReset src) := fun h => h
theorem porst (t : Nat) (low : Option Nat) (pairRole : Bool) (jtagEnable : Bool) (bootRecovery : Bool) (coreDebug : Bool) : Statement (.porst t low pairRole jtagEnable bootRecovery coreDebug) := fun _ => rfl
theorem jtagTestLogicReset (t : Nat) : Statement (.jtagTestLogicReset t) := fun _ => rfl
theorem boot (t : Nat) (ok : Bool) (badSlots : List Nat) : Statement (.boot t ok badSlots) := fun _ => rfl
theorem firmwareUpdate (src : Source) (bytes : List Byte) : Statement (.firmwareUpdate src bytes) := fun h => head h
theorem flashUpdateComplete (t : Nat) (ok : Bool) : Statement (.flashUpdateComplete t ok) := fun _ => rfl
theorem firmwareRollbackFloorWrite (src : Source) (v : Nat) : Statement (.firmwareRollbackFloorWrite src v) := fun h => head h
theorem mailboxSha3512 (t : Nat) (n : CoreId) : Statement (.mailboxSha3512 t n) := fun _ => rfl
theorem mailboxShake256 (t : Nat) (n : CoreId) : Statement (.mailboxShake256 t n) := fun _ => rfl
theorem mailboxVerify (t : Nat) (n : CoreId) : Statement (.mailboxVerify t n) := fun _ => rfl
theorem mailboxSign (t : Nat) (n : CoreId) : Statement (.mailboxSign t n) := fun _ => rfl
theorem mailboxRandom (t : Nat) (n : CoreId) : Statement (.mailboxRandom t n) := fun _ => rfl
theorem mailboxComplete (t : Nat) (n : CoreId) : Statement (.mailboxComplete t n) := fun _ => rfl
theorem trngHealthFail (t : Nat) : Statement (.trngHealthFail t) := fun _ => rfl
theorem trngRestart (src : Source) : Statement (.trngRestart src) := fun h => h
theorem randomRead (src : Source) : Statement (.randomRead src) := fun h => h
theorem ownerInstall (src : Source) (bytes : List Byte) (nvmOk : Bool) : Statement (.ownerInstall src bytes nvmOk) := fun h => head h
theorem keyInstall (src : Source) (bytes : List Byte) (nvmOk : Bool) : Statement (.keyInstall src bytes nvmOk) := fun h => head (head h)
theorem keyErase (src : Source) (bytes : List Byte) (nvmOk : Bool) : Statement (.keyErase src bytes nvmOk) := fun h => head (head h)
theorem keyReplaceOwner (src : Source) (bytes : List Byte) (nvmOk : Bool) : Statement (.keyReplaceOwner src bytes nvmOk) := fun h => head (head h)
theorem attestNonce (src : Source) (bytes : List Byte) : Statement (.attestNonce src bytes) := fun h => head h
theorem attestDone (t : Nat) : Statement (.attestDone t) := fun _ => rfl
theorem cacheInstall (src : Source) (bytes : List Byte) : Statement (.cacheInstall src bytes) := fun h => head h
theorem cacheErase (src : Source) (v : Nat) : Statement (.cacheErase src v) := fun h => head h
theorem snapshotCounters (src : Source) : Statement (.snapshotCounters src) := fun h => h
theorem snapshotWriteComplete (t : Nat) (ok : Bool) : Statement (.snapshotWriteComplete t ok) := fun _ => rfl
theorem clearCounters (src : Source) : Statement (.clearCounters src) := fun h => h
theorem tapBypass (t : Nat) (tdi : List Bool) : Statement (.tapBypass t tdi) := fun _ => rfl
theorem tapSamplePreload (t : Nat) (balls : List Bool) (scan : List Bool) : Statement (.tapSamplePreload t balls scan) := fun _ => rfl
theorem tapExtest (t : Nat) (balls : List Bool) (scan : List Bool) : Statement (.tapExtest t balls scan) := fun _ => rfl
theorem tapIdcode (t : Nat) : Statement (.tapIdcode t) := fun _ => rfl
theorem serialValueComputed (t : Nat) (a : AllotId) : Statement (.serialValueComputed t a) := fun _ => rfl
theorem prbsLockLoss (t : Nat) (n : LaneId) : Statement (.prbsLockLoss t n) := fun _ => rfl
theorem prbsBitError (t : Nat) (n : LaneId) : Statement (.prbsBitError t n) := fun _ => rfl
theorem blockError (t : Nat) (n : LaneId) (header : Bool) (inFrame : Bool) : Statement (.blockError t n header inFrame) := fun _ => rfl
theorem refclkRestored (t : Nat) : Statement (.refclkRestored t) := fun _ => rfl
theorem lfxoStop (t : Nat) : Statement (.lfxoStop t) := fun _ => rfl
theorem ethLinkChange (t : Nat) (p : PortId) (up : Bool) : Statement (.ethLinkChange t p up) := fun _ => rfl
theorem canBusStateChange (t : Nat) (p : PortId) (passive : Bool) : Statement (.canBusStateChange t p passive) := fun _ => rfl
theorem ppsOutWidthEnd (t : Nat) : Statement (.ppsOutWidthEnd t) := fun _ => rfl
theorem resetOutRelease (t : Nat) : Statement (.resetOutRelease t) := fun _ => rfl
theorem pairLaneHeartbeatTimeout (t : Nat) (i : PairLane) : Statement (.pairLaneHeartbeatTimeout t i) := fun _ => rfl
theorem trngStartupComplete (t : Nat) (ok : Bool) : Statement (.trngStartupComplete t ok) := fun _ => rfl

end Sys2Proof.Laws.Fields
end

