-- ==== Sys2Proof/Laws/Snapshot.lean ====
section
/-! SUPPORT. A resync snapshot and a PRECOPY pass are read back as they were written (R243, R247; notes/assumptions/4.md). -/

set_option Elab.async false

namespace Sys2Proof.Machine

theorem natEnc_read (r : List Byte) : ∀ (k n : Nat), n < k → natDec (natEnc k n ++ r) = some (n, r) := by
  intro k
  induction k with
  | zero => intro n h; omega
  | succ k ih =>
    intro n h
    rw [natEnc]
    split
    · rename_i hn
      have e : n % 256 = n := by omega
      simp [natDec, e, hn]
    · rename_i hn
      have e : (128 + n % 128) % 256 = 128 + n % 128 := by omega
      have hi := ih (n / 128) (by omega)
      have d : ¬ (128 + n % 128 < 128) := by omega
      simp only [List.cons_append, natDec, BitVec.toNat_ofNat, e, d, if_false, hi, Nat.reducePow, Option.some.injEq, Prod.mk.injEq, and_true]
      omega

theorem codeNat_law : Law codeNat := fun n r => natEnc_read r (n + 1) n (by omega)

theorem codePair_law {α β : Type} {a : Code α} {b : Code β} (ha : Law a) (hb : Law b) : Law (codePair a b) := by
  intro x r
  simp only [codePair, List.append_assoc, ha x.1, hb x.2]

theorem codeIso_law {α β : Type} {f : α → β} {g : β → α} {c : Code β} (h : ∀ a, g (f a) = a) (hc : Law c) : Law (codeIso f g c) := by
  intro x r
  simp only [codeIso, hc (f x), h]

theorem listDec_law {α : Type} {c : Code α} (hc : Law c) (r : List Byte) : ∀ xs : List α, listDec c xs.length (xs.flatMap c.enc ++ r) = some (xs, r) := by
  intro xs
  induction xs with
  | nil => rfl
  | cons x xs ih => simp only [List.length_cons, List.flatMap_cons, listDec, List.append_assoc, hc x, ih]

theorem codeList_law {α : Type} {c : Code α} (hc : Law c) : Law (codeList c) := by
  intro xs r
  simp only [codeList, List.append_assoc, codeNat_law xs.length, listDec_law hc r xs]

theorem codeTab_law {α : Type} {c : Code α} (hc : Law c) : Law (codeTab c) := codeList_law (codePair_law codeNat_law hc)

theorem codeByte_law : Law codeByte := fun _ _ => rfl

theorem codeBytes_law : Law codeBytes := codeList_law codeByte_law

theorem codeBool_law : Law codeBool := codeIso_law (fun b => by cases b <;> rfl) codeNat_law

theorem codeWord_law : Law codeWord := codeIso_law (fun w => by simp) codeNat_law

theorem codeInt_law : Law codeInt := codeIso_law (fun i => by simp only [decide_eq_true_eq]; split <;> omega) (codePair_law codeBool_law codeNat_law)

theorem codeOption_law {α : Type} {c : Code α} (hc : Law c) : Law (codeOption c) := codeIso_law (fun o => by cases o <;> rfl) (codeList_law hc)

theorem codeMapChange_law : Law codeMapChange := codeIso_law (fun x => by cases x <;> rfl) (codePair_law codeNat_law (codePair_law codeNat_law codeNat_law))

theorem codeToken_law : Law codeToken := codeIso_law (fun _ => rfl)
  (codePair_law codeWord_law codeBool_law)

theorem codeHeld_law : Law codeHeld := codeIso_law (fun _ => rfl)
  (codePair_law codeToken_law (codePair_law codeNat_law (codeOption_law (codePair_law codeNat_law codeNat_law))))

theorem codeWinEntry_law : Law codeWinEntry := codeIso_law (fun _ => rfl)
  (codePair_law codeToken_law (codePair_law codeToken_law (codePair_law codeToken_law (codePair_law codeToken_law (codePair_law codeToken_law (codePair_law codeNat_law (codePair_law codeNat_law (codePair_law codeBool_law (codePair_law codeNat_law (codePair_law codeBool_law (codePair_law codeNat_law codeNat_law)))))))))))

theorem codeCell_law : Law codeCell := codeIso_law (fun _ => rfl)
  (codePair_law (codeTab_law (codeList_law codeHeld_law)) (codePair_law (codeTab_law codeNat_law) (codePair_law (codeList_law codeWinEntry_law) (codePair_law codeNat_law (codePair_law codeNat_law (codePair_law codeNat_law (codePair_law codeNat_law (codePair_law (codeTab_law codeNat_law) (codePair_law (codeTab_law codeNat_law) (codePair_law (codeTab_law codeNat_law) (codePair_law (codeTab_law codeNat_law) (codePair_law (codeTab_law codeNat_law) (codePair_law (codeTab_law codeNat_law) (codePair_law codeNat_law codeNat_law))))))))))))))

theorem codeFurrowBus_law : Law codeFurrowBus := codeIso_law (fun _ => rfl)
  (codePair_law (codeList_law (codePair_law codeHeld_law codeNat_law)) (codePair_law codeNat_law codeNat_law))

theorem codeSlot_law : Law codeSlot := codeIso_law (fun _ => rfl)
  (codePair_law codeNat_law (codePair_law codeNat_law (codePair_law codeBytes_law (codePair_law (codeTab_law codeNat_law) (codePair_law (codeTab_law codeNat_law) codeBytes_law)))))

theorem codeDrillItem_law : Law codeDrillItem := codeIso_law (fun _ => rfl)
  (codePair_law codeNat_law (codePair_law codeToken_law codeNat_law))

theorem codeDrillStream_law : Law codeDrillStream := codeIso_law (fun _ => rfl)
  (codePair_law (codeList_law codeDrillItem_law) (codePair_law codeNat_law (codePair_law codeNat_law (codePair_law codeNat_law (codePair_law codeNat_law (codeOption_law (codePair_law codeNat_law codeNat_law)))))))

theorem codeRetune_law : Law codeRetune := codeIso_law (fun _ => rfl)
  (codePair_law codeNat_law (codePair_law codeNat_law (codePair_law codeNat_law (codePair_law codeNat_law (codePair_law codeNat_law codeNat_law)))))

theorem codeRetuneEnded_law : Law codeRetuneEnded := codeIso_law (fun _ => rfl)
  (codePair_law codeNat_law (codePair_law codeNat_law (codePair_law codeNat_law codeNat_law)))

theorem codeNetWait_law : Law codeNetWait := codeIso_law (fun _ => rfl)
  (codePair_law codeNat_law (codePair_law codeNat_law (codePair_law codeNat_law (codePair_law codeNat_law codeNat_law))))

theorem codeField_law : Law codeField := codeIso_law (fun _ => rfl)
  (codePair_law (codeTab_law codeCell_law) (codePair_law (codeTab_law codeFurrowBus_law) (codePair_law (codeTab_law codeSlot_law) (codePair_law (codeTab_law codeDrillStream_law) (codePair_law (codeTab_law codeNat_law) (codePair_law (codeTab_law (codeList_law codeHeld_law)) (codePair_law (codeTab_law codeNat_law) (codePair_law (codeOption_law codeRetune_law) (codePair_law codeRetuneEnded_law (codePair_law codeNat_law (codePair_law (codeOption_law codeNat_law) (codePair_law (codeTab_law codeNat_law) (codePair_law (codeTab_law codeNat_law) (codePair_law (codeTab_law codeNat_law) (codePair_law codeNat_law (codeTab_law (codeList_law codeNetWait_law)))))))))))))))))

theorem codeQWord_law : Law codeQWord := codeIso_law (fun _ => rfl)
  (codePair_law codeNat_law (codePair_law codeNat_law (codePair_law codeBool_law codeNat_law)))

theorem codeQueue_law : Law codeQueue := codeIso_law (fun _ => rfl)
  (codePair_law (codeList_law codeQWord_law) (codePair_law (codeList_law codeQWord_law) (codePair_law codeNat_law (codePair_law codeNat_law (codePair_law (codeList_law codeQWord_law) (codePair_law codeNat_law (codePair_law codeNat_law (codePair_law codeBool_law (codePair_law codeBool_law (codePair_law codeNat_law (codePair_law (codeList_law (codePair_law codeWord_law codeBool_law)) (codePair_law codeNat_law (codePair_law codeNat_law (codePair_law codeBool_law (codePair_law codeBool_law (codePair_law codeNat_law (codePair_law codeBool_law codeBool_law)))))))))))))))))

theorem codeWindow_law : Law codeWindow := codeIso_law (fun _ => rfl)
  (codePair_law codeNat_law (codePair_law codeNat_law (codePair_law codeNat_law codeBool_law)))

theorem codeProduct_law : Law codeProduct := codeIso_law (fun _ => rfl)
  (codePair_law codeNat_law (codePair_law codeNat_law (codePair_law codeNat_law (codePair_law codeNat_law (codePair_law codeNat_law (codePair_law codeNat_law (codePair_law codeNat_law (codePair_law codeNat_law (codePair_law codeNat_law (codePair_law codeNat_law (codePair_law codeNat_law (codePair_law codeNat_law (codePair_law codeNat_law (codePair_law codeNat_law (codePair_law codeNat_law (codePair_law codeNat_law (codePair_law codeNat_law (codePair_law codeBool_law (codePair_law codeBool_law (codePair_law codeBool_law (codePair_law (codeList_law codeWindow_law) (codePair_law codeBool_law (codePair_law codeNat_law (codePair_law codeNat_law (codePair_law codeNat_law (codePair_law codeNat_law (codePair_law codeNat_law (codePair_law codeNat_law (codePair_law (codeTab_law codeBytes_law) codeBool_law)))))))))))))))))))))))))))))

theorem codeLaunch_law : Law codeLaunch := codeIso_law (fun _ => rfl)
  (codePair_law codeNat_law (codePair_law codeBytes_law (codePair_law codeBool_law (codePair_law codeNat_law (codePair_law codeNat_law (codePair_law (codeList_law codeNat_law) (codeList_law codeNat_law)))))))

theorem codeBar_law : Law codeBar := codeIso_law (fun _ => rfl)
  (codePair_law codeNat_law (codePair_law codeBytes_law (codePair_law (codeList_law codeNat_law) (codePair_law (codeList_law codeLaunch_law) (codePair_law codeBool_law (codePair_law (codeList_law codeMapChange_law) (codePair_law codeNat_law (codePair_law codeNat_law (codePair_law (codeOption_law codeNat_law) (codePair_law (codeList_law (codePair_law codeNat_law codeNat_law)) codeNat_law))))))))))

theorem codePulse_law : Law codePulse := codeIso_law (fun _ => rfl)
  (codePair_law codeNat_law (codePair_law (codeOption_law codeNat_law) codeNat_law))

theorem codeGate_law : Law codeGate := codeIso_law (fun _ => rfl)
  (codePair_law (codeList_law (codePair_law codeNat_law (codeOption_law codeNat_law))) (codePair_law (codeList_law codePulse_law) codeNat_law))

theorem codeHistoryWrite_law : Law codeHistoryWrite := codeIso_law (fun _ => rfl)
  (codePair_law codeNat_law (codePair_law codeNat_law (codePair_law (codeOption_law codeNat_law) codeBytes_law)))

theorem codeCamera_law : Law codeCamera := codeIso_law (fun _ => rfl)
  (codePair_law (codeList_law (codePair_law codeNat_law codeBytes_law)) (codePair_law (codeList_law (codePair_law codeNat_law codeBytes_law)) (codePair_law (codeList_law codeNat_law) (codePair_law (codeList_law codeNat_law) (codePair_law (codeOption_law codeNat_law) (codePair_law (codeOption_law codeNat_law) (codePair_law (codeList_law (codePair_law codeNat_law codeNat_law)) (codePair_law (codeList_law (codePair_law codeNat_law codeBool_law)) (codePair_law codeBool_law (codePair_law codeBool_law (codePair_law (codeTab_law codeNat_law) (codePair_law (codeList_law codeHistoryWrite_law) (codePair_law codeBool_law (codePair_law codeNat_law codeNat_law))))))))))))))

theorem codeSerialEntry_law : Law codeSerialEntry := codeIso_law (fun _ => rfl)
  (codePair_law codeNat_law (codePair_law codeNat_law (codePair_law codeNat_law (codePair_law codeNat_law (codePair_law codeNat_law (codePair_law codeBool_law (codePair_law codeBool_law (codePair_law codeNat_law (codePair_law codeNat_law (codePair_law codeNat_law codeBytes_law))))))))))

theorem codeJournalSlot_law : Law codeJournalSlot := codeIso_law (fun _ => rfl)
  (codePair_law codeNat_law (codePair_law codeNat_law (codePair_law codeNat_law (codePair_law codeNat_law (codePair_law codeNat_law (codePair_law codeNat_law codeNat_law))))))

theorem codeJournalImage_law : Law codeJournalImage := codeIso_law (fun _ => rfl)
  (codePair_law codeBool_law (codePair_law codeNat_law (codePair_law codeNat_law (codePair_law codeNat_law (codePair_law codeNat_law (codePair_law codeNat_law (codePair_law codeNat_law (codePair_law codeBytes_law (codePair_law (codeTab_law codeJournalSlot_law) (codeTab_law codeBytes_law))))))))))

theorem codeCutState_law : Law codeCutState := codeIso_law (fun _ => rfl)
  (codePair_law (codeTab_law codeField_law) (codePair_law (codeTab_law codeHeld_law) (codePair_law (codeTab_law codeNat_law) (codePair_law (codeList_law codeNat_law) (codePair_law (codeTab_law codeQueue_law) (codePair_law (codeTab_law codeInt_law) (codePair_law codeNat_law (codePair_law (codeList_law codeProduct_law) (codePair_law (codeTab_law codeGate_law) (codePair_law (codeTab_law codeBar_law) (codePair_law (codeTab_law codeCamera_law) (codePair_law (codeTab_law codeSerialEntry_law) (codePair_law (codeTab_law codeNat_law) (codePair_law (codeList_law codeNat_law) (codeTab_law codeNat_law)))))))))))))))

theorem codePrecopy_law : Law codePrecopy := codeIso_law (fun _ => rfl)
  (codePair_law (codeTab_law codeNat_law) (codePair_law (codeTab_law codeBytes_law) (codePair_law (codeTab_law (codeTab_law codeSlot_law)) (codePair_law codeJournalImage_law (codePair_law (codeList_law codeNat_law) (codeTab_law codeNat_law))))))

@[simp] theorem maskBytes_length (k : Nat) : ∀ (b : List Byte) (i : Nat), (maskBytes k i b).length = b.length
  | [], _ => rfl
  | _ :: r, i => congrArg (· + 1) (maskBytes_length k r (i + 1))

theorem maskBytes_mask (k : Nat) : ∀ (b : List Byte) (i : Nat), maskBytes k i (maskBytes k i b) = b
  | [], _ => rfl
  | x :: r, i => by
    simp only [maskBytes, maskBytes_mask k r (i + 1), BitVec.xor_assoc, BitVec.xor_self, BitVec.xor_zero]

theorem maskBytes_append (k : Nat) : ∀ (b c : List Byte) (i : Nat), maskBytes k i (b ++ c) = maskBytes k i b ++ maskBytes k (i + b.length) c
  | [], _, i => by simp [maskBytes]
  | x :: r, c, i => by
    simp only [List.cons_append, maskBytes, maskBytes_append k r c (i + 1), List.length_cons]
    congr 3
    omega

/-- A snapshot with the source's FirmwareState behind it gives the joiner the cut and that state (R243, R247). -/
theorem snapshotCut_read (c : CutState) (fw : List Byte) : snapshotCut (snapshotBytes c ++ fw) = some (c, fw) := by
  have hn : ∀ (n : Nat) (r : List Byte), codeNat.dec (codeNat.enc n ++ r) = some (n, r) := codeNat_law
  have hc : ∀ (x : CutState) (r : List Byte), codeCutState.dec (codeCutState.enc x ++ r) = some (x, r) := codeCutState_law
  have hm : ∀ l : List Byte, maskBytes 0 0 (maskBytes 0 0 l ++ fw) = l ++ maskBytes 0 l.length fw := by
    intro l
    rw [maskBytes_append, maskBytes_mask, maskBytes_length, Nat.zero_add]
  unfold snapshotCut snapshotBytes
  simp only [hm]
  simp only [List.append_assoc, hn, hc]
  simp only [List.length_append, List.length_replicate, maskBytes_length]
  rw [if_neg (by omega)]
  congr 2
  rw [List.drop_append_of_le_length (by simp), List.drop_of_length_le (by simp), List.nil_append]

/-- A PRECOPY pass gives the joiner what the source put into it (R243). -/
theorem precopyRead_read (p : Precopy) : precopyRead (precopyBytes p) = some p := by
  have h := codePrecopy_law p []
  rw [List.append_nil] at h
  simp only [precopyRead, precopyBytes, maskBytes_mask, h, Option.map_some]

end Sys2Proof.Machine
end

