-- ==== Sys2Proof/Laws/Store.lean ====
section
/-! SUPPORT. The image of a parameter store, at a state with no byte object set, fits its bank.
Spec: R373. -/

set_option Elab.async false

namespace Sys2Proof.Laws

open Sys2Proof.Machine

theorem tabPut_len {α : Type} (t : Tab α) (k : Nat) (v : α) : (tabPut t k v).length ≤ t.length + 1 := by
  induction t with
  | nil => simp [tabPut]
  | cons e r ih =>
    simp only [tabPut]
    repeat' split
    all_goals simp_all <;> omega

theorem foldl_len {α β : Type} (f : Tab α → β → Tab α) (g : β → Nat) (h : ∀ t x, (f t x).length ≤ t.length + g x) (l : List β) (t : Tab α) :
    (l.foldl f t).length ≤ t.length + (l.map g).sum := by
  induction l generalizing t with
  | nil => simp
  | cons x r ih =>
    have h1 := ih (f t x)
    have h2 := h t x
    simp only [List.foldl_cons, List.map_cons, List.sum_cons]
    omega

theorem sum_same {β : Type} (c : Nat) (l : List β) : (l.map fun _ => c).sum = l.length * c := by
  induction l with
  | nil => simp
  | cons x r ih => simp only [List.map_cons, List.sum_cons, List.length_cons, ih, Nat.succ_mul]; omega

theorem storedObjects_len : storedObjects.length ≤ 3000 := by
  have key : ∀ (r : IndexRow) (t : Tab ObjDesc), ((List.range r.count).foldl (fun t u => (r.subs.filter (·.pers)).foldl (fun t d =>
        (descSubs d).foldl (fun t sub => if subPresent (r.base + u * r.stride) sub then tabPut t (objKey (r.base + u * r.stride) sub) d else t) t) t) t).length
      ≤ t.length + r.count * ((r.subs.filter (·.pers)).map fun d => (descSubs d).length).sum := by
    intro r t
    have h := foldl_len (fun t u => (r.subs.filter (·.pers)).foldl (fun t d => (descSubs d).foldl (fun t sub =>
        if subPresent (r.base + u * r.stride) sub then tabPut t (objKey (r.base + u * r.stride) sub) d else t) t) t)
      (fun _ => ((r.subs.filter (·.pers)).map fun d => (descSubs d).length).sum) (fun t u => foldl_len _ _ (fun t d => by
        have h := foldl_len (fun t sub => if subPresent (r.base + u * r.stride) sub then tabPut t (objKey (r.base + u * r.stride) sub) d else t) (fun _ => 1)
          (fun t x => by split <;> first | exact tabPut_len _ _ _ | omega) (descSubs d) t
        rw [sum_same, Nat.mul_one] at h
        exact h) _ t) (List.range r.count) t
    rw [sum_same, List.length_range] at h
    exact h
  have h := foldl_len _ _ (fun t r => key r t) objIndices []
  have hs : (objIndices.map fun r => r.count * ((r.subs.filter (·.pers)).map fun d => (descSubs d).length).sum).sum ≤ 3000 := by decide +kernel
  simp only [List.length_nil, Nat.zero_add] at h
  exact Nat.le_trans h hs

theorem foldl_sorted {α β : Type} (f : Tab α → β → Tab α) (h : ∀ t x, tabSorted t = true → tabSorted (f t x) = true) (l : List β) (t : Tab α)
    (ht : tabSorted t = true) : tabSorted (l.foldl f t) = true := by
  induction l generalizing t with
  | nil => exact ht
  | cons x r ih => exact ih _ (h t x ht)

theorem storedObjects_sorted : tabSorted storedObjects = true := by
  unfold storedObjects objectsWhere
  refine foldl_sorted _ (fun t r ht => ?_) _ _ rfl
  refine foldl_sorted _ (fun t u ht => ?_) _ _ ht
  refine foldl_sorted _ (fun t d ht => ?_) _ _ ht
  refine foldl_sorted _ (fun t sub ht => ?_) _ _ ht
  split
  · exact tabSorted_put _ _ ht
  · exact ht

/-- A table has one entry of a key, so what it alone adds is added once. -/
theorem flatMap_len_above {α : Type} (f : Nat × α → List Byte) (k c d : Nat) (h1 : ∀ x, x.1 ≠ k → (f x).length ≤ c) (h2 : ∀ x, (f x).length ≤ c + d)
    (l : Tab α) (lo : Nat) (hl : tabAbove lo l = true) : (l.flatMap f).length ≤ l.length * c + (if lo ≤ k then d else 0) := by
  induction l generalizing lo with
  | nil => simp
  | cons x r ih =>
    simp only [tabAbove, Bool.and_eq_true] at hl
    have hx : lo ≤ x.1 := Nat.le_of_ble_eq_true hl.1
    have hr := ih (x.1 + 1) hl.2
    have a1 := h1 x
    have a2 := h2 x
    simp only [List.flatMap_cons, List.length_append, List.length_cons, Nat.succ_mul]
    by_cases e : x.1 = k
    · rw [if_neg (by omega)] at hr; rw [if_pos (by omega)]; omega
    · have := a1 e
      split at hr <;> split <;> omega

/-- The image fits its bank where no object of bytes is set and the selected router has a table of 64 weights. -/
theorem paramImage_len (s : State) (hs : s.blobs = []) (hw : (routerWeights s (rd s 0x5021 0x01)).length ≤ 64) : (paramImage s false).length ≤ 0x20000 := by
  have he : ∀ e : Nat × ObjDesc, (registerBytes s (e.1 / 256) (e.1 % 256) e.2.ty).length ≤ 8 ∨ (e.1 = 0x502102 ∧ (registerBytes s (e.1 / 256) (e.1 % 256) e.2.ty).length ≤ 64) := by
    intro e
    unfold registerBytes
    split
    · next h =>
      simp only [Bool.and_eq_true, beq_iff_eq] at h
      exact .inr ⟨by omega, hw⟩
    · left
      split
      · simp [rdBytes, hs, tabGet, tabFind]
      · rw [length_leBytes]; cases e.2.ty <;> decide
  have hp : ∀ e : Nat × ObjDesc, (paramEntry s e.1 e.2).length ≤ 11 + (registerBytes s (e.1 / 256) (e.1 % 256) e.2.ty).length := by
    intro e
    simp only [paramEntry, List.length_append, length_leBytes, List.length_replicate]
    omega
  have h := flatMap_len_above (fun e : Nat × ObjDesc => paramEntry s e.1 e.2) 0x502102 19 56
    (fun e hk => by have := he e; have := hp e; show (paramEntry s e.1 e.2).length ≤ 19; omega)
    (fun e => by have := he e; have := hp e; show (paramEntry s e.1 e.2).length ≤ 75; omega) storedObjects 0 storedObjects_sorted
  have h2 := storedObjects_len
  simp only [paramImage, bankBytes, List.length_append, length_leBytes, List.length_replicate, Bool.false_eq_true, if_false]
  have h3 : (if 0 ≤ 0x502102 then 56 else 0) = 56 := rfl
  omega

end Sys2Proof.Laws
end

