-- ==== Sys2Proof/Laws/Written.lean ====
section
/-! SUPPORT. The objects that the rows of writes and reads name: their functions, sizes, units and places. -/

set_option Elab.async false

namespace Sys2Proof.Laws

open Sys2Proof.Machine

theorem obj_rowBypassWrite : ∀ (r : Fin 4), isNum .rowBypass 1 0x2600 (r.val + 1) 0 r.val = true := by decide +kernel
theorem obj_tuningLoadGo : isNum .tuningGo 1 0x2603 0x05 0 0 = true := by decide +kernel
theorem obj_retuneGo : ∀ (f : FieldId), isNum .retuneGo 1 (0x2005 + 0x40 * f.val) 0x07 f.val 0 = true := by decide +kernel
theorem obj_groupRetuneGo : isNum .groupGo 1 0x2602 0x08 0 0 = true := by decide +kernel
theorem obj_retuneCancel : ∀ (f : FieldId), isNum .retuneCancel 1 (0x2005 + 0x40 * f.val) 0x08 f.val 0 = true := by decide +kernel
theorem obj_capoHold : isNum .capoHold 1 0x2601 0x01 0 0 = true := by decide +kernel
theorem obj_capoRelease : isNum .capoHold 1 0x2601 0x01 0 0 = true := obj_capoHold
theorem obj_fieldHalt : ∀ (f : FieldId), isNum .fieldRun 1 (0x2001 + 0x40 * f.val) 0x00 f.val 0 = true := by decide +kernel
theorem obj_fieldRun : ∀ (f : FieldId), isNum .fieldRun 1 (0x2001 + 0x40 * f.val) 0x00 f.val 0 = true := obj_fieldHalt
theorem obj_fieldClear : ∀ (f : FieldId), isNum .fieldClear 1 (0x2002 + 0x40 * f.val) 0x00 f.val 0 = true := by decide +kernel
theorem obj_activateSlot : ∀ (f : FieldId), isNum .activateSlot 1 0x1702 (f.val + 1) 0 f.val = true := by decide +kernel
theorem obj_dmaHostIndexWrite : ∀ (q : QueueId), isNum .dmaHostIndex 4 (qc q.val) 0x0B q.val 0 = true := by decide +kernel
theorem obj_queueFlush : ∀ (q : QueueId), isNum .queueFlush 1 (qc q.val) 0x07 q.val 0 = true := by decide +kernel
theorem obj_queueFlushApply : ∀ (q : QueueId), isNum .queueFlush 1 (qc q.val) 0x07 q.val 0 = true := obj_queueFlush
theorem obj_queueEnable : ∀ (q : QueueId), isNum .queueEnable 1 (qc q.val) 0x01 q.val 0 = true := by decide +kernel
theorem obj_queueDisable : ∀ (q : QueueId), isNum .queueEnable 1 (qc q.val) 0x01 q.val 0 = true := obj_queueEnable
theorem obj_encoderEnable : ∀ (e : EncId), isNum .encoderEnable 1 (ex e.val) 0x01 e.val 0 = true := by decide +kernel
theorem obj_encoderDisable : ∀ (e : EncId), isNum .encoderEnable 1 (ex e.val) 0x01 e.val 0 = true := obj_encoderEnable
theorem obj_positionPreset : ∀ (e : EncId), isNum .positionPreset 8 (ex e.val) 0x07 e.val 0 = true := by decide +kernel
theorem obj_lineGenEnable : ∀ (g : GenId), isNum .lineGenEnable 1 (gx g.val) 0x01 g.val 0 = true := by decide +kernel
theorem obj_lineGenDisable : ∀ (g : GenId), isNum .lineGenEnable 1 (gx g.val) 0x01 g.val 0 = true := obj_lineGenEnable
theorem obj_triggerEnable : ∀ (k : TrigId), isNum .triggerEnable 1 (tx k.val) 0x01 k.val 0 = true := by decide +kernel
theorem obj_triggerDisable : ∀ (k : TrigId), isNum .triggerEnable 1 (tx k.val) 0x01 k.val 0 = true := obj_triggerEnable
theorem obj_mapEdit : ∀ (b : BarId), isNum .mapEdit 8 (bx b.val 4) 0x07 b.val 0 = true := by decide +kernel
theorem obj_barEnable : ∀ (b : BarId), isNum .barEnable 1 (bx b.val 0) 0x01 b.val 0 = true := by decide +kernel
theorem obj_barDisable : ∀ (b : BarId), isNum .barEnable 1 (bx b.val 0) 0x01 b.val 0 = true := obj_barEnable
theorem obj_gateEnable : ∀ (j : GateId), isNum .gateEnable 1 (gc j.val) 0x01 j.val 0 = true := by decide +kernel
theorem obj_gateDisable : ∀ (j : GateId), isNum .gateEnable 1 (gc j.val) 0x01 j.val 0 = true := obj_gateEnable
theorem obj_polarityWrite : ∀ (j : GateId), isNum .gatePolarity 1 (gc j.val) 0x06 j.val 0 = true := by decide +kernel
theorem obj_forceReject : isNum .forceReject 4 0x3201 0x03 0 0 = true := by decide +kernel
theorem obj_cameraEnable : ∀ (k : CamId), isNum .cameraEnable 1 (cc k.val) 0x01 k.val 0 = true := by decide +kernel
theorem obj_cameraDisable : ∀ (k : CamId), isNum .cameraEnable 1 (cc k.val) 0x01 k.val 0 = true := obj_cameraEnable
theorem obj_verdictPost : isNum .verdictPost 8 0x3801 0x01 0 0 = true := by decide +kernel
theorem obj_healthPost : isNum .healthPost 4 0x3802 0x1D 0 0 = true := by decide +kernel
theorem obj_allotmentRetire : ∀ (a : AllotId), isNum .retire 1 (0x4020 + 2 * a.val) 0x01 a.val 0 = true := by decide +kernel
theorem obj_pairEnable : isNum .pairEnable 1 0x1300 0x01 0 0 = true := by decide +kernel
theorem obj_pairDisable : isNum .pairEnable 1 0x1300 0x01 0 0 = true := obj_pairEnable
theorem obj_firmwareKick : isNum .firmwareKick 1 0x1300 0x06 0 0 = true := by decide +kernel
theorem obj_resyncRequest : isNum .resyncRequest 1 0x1302 0x01 0 0 = true := by decide +kernel
theorem obj_coreRun : ∀ (n : CoreId), isNum .coreRun 1 (cP n.val) 0x01 n.val 0 = true := by decide +kernel
theorem obj_coreHalt : ∀ (n : CoreId), isNum .coreRun 1 (cP n.val) 0x01 n.val 0 = true := obj_coreRun
theorem obj_coreReset : ∀ (n : CoreId), isNum .coreReset 1 (cP n.val) 0x03 n.val 0 = true := by decide +kernel
theorem obj_eventRaiseWrite : isNum .eventRaise 2 0x1601 0x00 0 0 = true := by decide +kernel
theorem obj_taskSetup : isNum .taskSetup 8 0x1605 0x00 0 0 = true := by decide +kernel
theorem obj_taskCreate : isNum .taskCommand 4 0x1606 0x00 0 0 = true := by decide +kernel
theorem obj_taskPost : isNum .taskCommand 4 0x1606 0x00 0 0 = true := obj_taskCreate
theorem obj_taskSuspend : isNum .taskCommand 4 0x1606 0x00 0 0 = true := obj_taskCreate
theorem obj_taskResume : isNum .taskCommand 4 0x1606 0x00 0 0 = true := obj_taskCreate
theorem obj_taskDelete : isNum .taskCommand 4 0x1606 0x00 0 0 = true := obj_taskCreate
theorem obj_coreAccept : ∀ (n : CoreId), isNum .coreCommand 8 0x1603 (n.val + 1) 0 n.val = true := by decide +kernel
theorem obj_coreDone : ∀ (n : CoreId), isNum .coreCommand 8 0x1603 (n.val + 1) 0 n.val = true := obj_coreAccept
theorem obj_coreYield : ∀ (n : CoreId), isNum .coreCommand 8 0x1603 (n.val + 1) 0 n.val = true := obj_coreAccept
theorem obj_coreDelay : ∀ (n : CoreId), isNum .coreCommand 8 0x1603 (n.val + 1) 0 n.val = true := obj_coreAccept
theorem obj_coreAttach : ∀ (n : CoreId), isNum .coreCommand 8 0x1603 (n.val + 1) 0 n.val = true := obj_coreAccept
theorem obj_coreDetach : ∀ (n : CoreId), isNum .coreCommand 8 0x1603 (n.val + 1) 0 n.val = true := obj_coreAccept
theorem obj_timerEnable : ∀ (i : TimerId), isNum .timerEnable 1 (0x1620 + i.val) 0x01 i.val 0 = true := by decide +kernel
theorem obj_timerDisable : ∀ (i : TimerId), isNum .timerEnable 1 (0x1620 + i.val) 0x01 i.val 0 = true := obj_timerEnable
theorem obj_schedCoresWrite : isNum .schedCores 1 0x1600 0x01 0 0 = true := by decide +kernel
theorem obj_traceModeWrite : isNum .traceMode 1 0x1607 0x01 0 0 = true := by decide +kernel
theorem obj_routeSwapGo : isNum .swapGo 1 0x5020 0x02 0 0 = true := by decide +kernel
theorem obj_routerReconfigGo : isNum .routerGo 1 0x5021 0x03 0 0 = true := by decide +kernel
theorem obj_laneEnableData : ∀ (n : LaneId), isNum .laneEnable 1 (lx n.val 0) 0x01 n.val 0 = true := by decide +kernel
theorem obj_laneEnableTest : ∀ (n : LaneId), isNum .laneEnable 1 (lx n.val 0) 0x01 n.val 0 = true := obj_laneEnableData
theorem obj_laneDisable : ∀ (n : LaneId), isNum .laneEnable 1 (lx n.val 0) 0x01 n.val 0 = true := obj_laneEnableData
theorem obj_laneRetrain : ∀ (n : LaneId), isNum .laneRetrain 1 (lx n.val 0) 0x09 n.val 0 = true := by decide +kernel
theorem obj_prbsInject : ∀ (n : LaneId), isNum .prbsInject 1 (lx n.val 3) 0x07 n.val 0 = true := by decide +kernel
theorem obj_prbsCounterClear : ∀ (n : LaneId), isNum .prbsClear 4 (lx n.val 3) 0x05 n.val 0 = true := by decide +kernel
theorem obj_canPortEnable : ∀ (p : PortId), isNum .canEnable 1 (canK p.val) 0x01 p.val 0 = true := by decide +kernel
theorem obj_tpdoTrigger : ∀ (i : PdoId), isNum .tpdoTrigger 1 (0x1240 + i.val) 0x05 i.val 0 = true := by decide +kernel
theorem obj_cobidWrite : ∀ (i : PdoId), isNum .cobId 4 (0x1240 + i.val) 0x02 i.val 0 = true := by decide +kernel
theorem obj_boardSupplyModeWrite : isNum .boardSupply 1 0x1501 0x05 0 0 = true := by decide +kernel
theorem obj_lpddrSupplyEnableWrite : isNum .lpddrSupply 1 0x1501 0x06 0 0 = true := by decide +kernel
theorem obj_domainRequestOn : ∀ (d : DomainId), isNum .domainRequest 1 0x1510 (d.val + 1) 0 d.val = true := by decide +kernel
theorem obj_domainRequestOff : ∀ (d : DomainId), isNum .domainRequest 1 0x1510 (d.val + 1) 0 d.val = true := obj_domainRequestOn
theorem obj_domainRequestRetained : ∀ (d : DomainId), isNum .domainRequest 1 0x1510 (d.val + 1) 0 d.val = true := obj_domainRequestOn
theorem obj_powerModeRun : isNum .powerMode 1 0x1500 0x01 0 0 = true := by decide +kernel
theorem obj_powerModeLineStop : isNum .powerMode 1 0x1500 0x01 0 0 = true := obj_powerModeRun
theorem obj_powerModeSleep : isNum .powerMode 1 0x1500 0x01 0 0 = true := obj_powerModeRun
theorem obj_powerModeDeepSleep : isNum .powerMode 1 0x1500 0x01 0 0 = true := obj_powerModeRun
theorem obj_engineReset : isNum .engineReset 4 0x1502 0x01 0 0 = true := by decide +kernel
theorem obj_storeParameters : isNum .storeParams 4 0x1100 0x01 0 0 = true := by decide +kernel
theorem obj_restoreDefaults : isNum .restoreDefaults 4 0x1101 0x01 0 0 = true := by decide +kernel
theorem obj_firmwareRollbackFloorWrite : isNum .fwFloor 4 0x1401 0x01 0 0 = true := by decide +kernel
theorem obj_trngRestart : isNum .trngRestart 1 0x140B 0x02 0 0 = true := by decide +kernel
theorem obj_cacheErase : isNum .cacheErase 1 0x140C 0x02 0 0 = true := by decide +kernel
theorem obj_snapshotCounters : isNum .snapshot 4 0x1700 0x01 0 0 = true := by decide +kernel
theorem obj_clearCounters : isNum .clearCounters 4 0x1700 0x06 0 0 = true := by decide +kernel

end Sys2Proof.Laws
end

