-- ==== Sys2Proof/Machine/Flits.lean ====
section
/-! DEFINITION. Packets between two routers: their flits, their virtual channels, the way back of a response, and the arbiter of a router output. No command computes these: a command says when a request reaches its bank or its response its interface.
Spec: 11_memory_and_network_on_chip.md R325, R330, R337. -/

set_option Elab.async false

namespace Sys2Proof.Machine

/-- Flits of a request: a header, and a write's data (R325). -/
def requestFlits (r : NetReq) : Nat := if r.write then 1 + (r.size + 15) / 16 else 1

/-- Flits that a router input buffers for each virtual channel (R325). -/
def bufferFlits : Nat := 8

/-- The virtual channel of a request on a route entry (R325). -/
def requestChannel (e : Nat) : Nat := if bitOf e 60 then 2 else 0
/-- The virtual channel of every response (R325). -/
def responseChannel : Nat := 1
/-- The channels in the order in which an output takes their flits (R325). -/
def channelOrder : List Nat := [1, 2, 0]

/-- The hop codes of a response: the reverse of its request's (R330). -/
def responseHops (h : List Nat) : List Nat := (h.map (fun c => (c + 2) % 4)).reverse

/-- Nothing but east follows east (R330). -/
def eastLast : List Nat → Bool
  | a :: b :: r => !(a == 1 && b != 1) && eastLast (b :: r)
  | _ => true

/-- One virtual channel at a router output: the input whose packet holds the output with its flits left, the input at which the arbiter stands, and the packets granted to it in a row. -/
structure Turn where
  holder : Option (Nat × Nat) := none
  input : Nat := 0
  taken : Nat := 0
  deriving DecidableEq, Repr

/-- The weight of an input at an output of a router (R337). -/
def inputWeight (s : State) (r o i : Nat) : Nat := ((routerWeights s r).getD (8 * o + i) 1).toNat

/-- The input that the arbiter grants next: the one at which it stands while that has a packet and its weight is not used up, else the next in round-robin order with a packet (R337). -/
def turnNext (w : Nat → Nat) (v : Turn) (waits : Nat → Bool) : Option Nat :=
  if waits v.input && decide (v.taken < w v.input) then some v.input
  else ((List.range 8).map (fun k => (v.input + 1 + k) % 8)).find? waits

/-- A packet of `n` flits of input i takes the output, and its header goes (R325, R337). -/
def turnGrant (w : Nat → Nat) (v : Turn) (i n : Nat) : Turn :=
  { holder := if n ≤ 1 then none else some (i, n - 1), input := i, taken := if i == v.input && decide (v.taken < w i) then v.taken + 1 else 1 }

/-- What a channel would send in an NCLK, and its turn after: the next flit of the packet that holds the output, else the header of the packet granted. `packet` gives the flits of the packet whose header waits at an input for this output; `ready` says that a flit waits at an input and the next buffer has room. -/
def turnFlit (w : Nat → Nat) (v : Turn) (packet : Nat → Option Nat) (ready : Nat → Bool) : Option (Nat × Turn) :=
  match v.holder with
  | some (i, k) => if ready i then some (i, { v with holder := if k ≤ 1 then none else some (i, k - 1) }) else none
  | none =>
    match turnNext w v (fun i => (packet i).isSome && ready i) with
    | some i => some (i, turnGrant w v i ((packet i).getD 1))
    | none => none

/-- A router output in one NCLK: the channel and input whose flit goes, and the turns of its channels after (R325, R337). -/
def outputFlit (w : Nat → Nat) (turns : Tab Turn) (packet : Nat → Nat → Option Nat) (ready : Nat → Nat → Bool) : Option (Nat × Nat) × Tab Turn :=
  match channelOrder.findSome? (fun c => (turnFlit w (tabGet {} turns c) (packet c) (ready c)).map (fun g => (c, g))) with
  | some (c, i, v) => (some (c, i), tabSet {} turns c v)
  | none => (none, turns)

/-- The channels and inputs whose flits an output sends in a number of NCLK. -/
def outputRun (w : Nat → Nat) (packet : Nat → Nat → Option Nat) (ready : Nat → Nat → Bool) : Nat → Tab Turn → List (Nat × Nat)
  | 0, _ => []
  | n + 1, turns =>
    let g := outputFlit w turns packet ready
    g.1.toList ++ outputRun w packet ready n g.2

end Sys2Proof.Machine
end

