-- ==== Sys2Proof/Machine/Grading.lean ====
section
/-! DEFINITION. What the print tunings, the verification tunings and the verification firmware compute over lines, columns and symbols. No command computes these: programs of the array and the cores do; the engine checks none of it (R137).
Spec: 05_print_path.md R137 to R139, R153; 06_verification_path.md R183, R187, R188, R190, R191, R193. -/

set_option Elab.async false

namespace Sys2Proof.Machine

/-! Lines on a bar. -/

/-- The drop code of nozzle k in the tokens of a line packet: 0 none, 1 small, 2 medium, 3 large (R139). -/
def dropCode (tokens : List Word) (k : Nat) : Nat := bitsOf (tokens.getD (k / 16) 0).toNat (2 * (k % 16)) 2

/-- The payload of a FIRE frame (R153). -/
def firePayload (tokens : List Word) : List Byte := tokens.flatMap (fun t => leBytes 4 t.toNat)

/-- The nozzle row of a nozzle of bar b (R137). -/
def nozzleRow (s : State) (b k : Nat) : Nat := k % rd s (bx b 1) 0x03

/-- The image row that the active line i lines into a window carries for nozzle k; none where it carries code 0 (R137). -/
def imageRow (s : State) (b i k : Nat) : Option Nat :=
  let stagger := rd s (bx b 1) (0x04 + nozzleRow s b k)
  if stagger ≤ i ∧ i - stagger < rd s (bx b 1) 0x02 then some (i - stagger) else none

/-! Columns and nozzles. -/

/-- nm times CrossDpi in a nozzle pitch (R138). -/
def dpiNm : Int := 25400000

def camOrigin (s : State) (c : Nat) : Int := signedOf 32 (rd s (cc c) 0x05)
def camPitch (s : State) (c : Nat) : Int := signedOf 32 (rd s (cc c) 0x06)
def crossDpi (s : State) (b : Nat) : Int := rd s (bx b 1) 0x09

/-- The place of nozzle k across the web, in nm times CrossDpi (R138). -/
def nozzlePlace (s : State) (b k : Nat) : Int :=
  let d := dpiNm * k
  signedOf 32 (rd s (bx b 1) 0x08) * crossDpi s b + (if rd s (bx b 1) 0x0A == 0 then d else -d)

/-- A quotient rounded to the nearest integer, ties to the even one; the divisor is above 0. -/
def nearest (x d : Int) : Int :=
  let q := x / d
  let r := x % d
  if 2 * r < d ∨ (2 * r = d ∧ q % 2 = 0) then q else q + 1

/-- The nozzle of bar b whose centre is nearest to column c of a camera, ties to the even nozzle (R190). -/
def columnNozzle (s : State) (b cam c : Nat) : Nat :=
  let x := (camOrigin s cam + c * camPitch s cam) * crossDpi s b + -nozzlePlace s b 0
  let d := if rd s (bx b 1) 0x0A == 0 then x else -x
  (clampInt 0 ((nozzles s b : Int) + -1) (nearest d dpiNm)).toNat

/-- Health analysis takes a bar only where no column is wider than a nozzle (R190). -/
def healthTaken (s : State) (b cam : Nat) : Bool := decide ((camPitch s cam).natAbs * crossDpi s b ≤ dpiNm)

/-- The distance of the flank columns (R189). -/
def flankDistance (s : State) (b cam : Nat) : Int := nearest (3 * dpiNm) (2 * (camPitch s cam).natAbs * crossDpi s b)

/-- Support and gaps of a column over a block of lines: each line gives whether both flanks are dark and whether the column is light (R189). -/
def supportGaps (lines : List (Bool × Bool)) : Nat × Nat := ((lines.filter (·.1)).length, (lines.filter (fun l => l.1 && l.2)).length)

/-- A packet's items: its words, the last with the end mark (R183). -/
def packetItems (words : List Nat) : List (Word × Bool) := words.mapIdx (fun i w => (BitVec.ofNat 32 w, i + 1 == words.length))

/-- Parts of n bits packed into 32-bit words, lowest first; the unused top of the last word is `pad`, which the spec does not state. -/
def packWords (n pad : Nat) (parts : List Nat) : List Nat :=
  let per := 32 / n
  (List.range ((parts.length + (per - 1)) / per)).map (fun j =>
    (List.range per).foldl (fun w i => w + 2 ^ (n * i) * (parts.getD (per * j + i) (bitsOf pad (n * i) n) % 2 ^ n)) 0)

/-- The class of a symbol in its packet (R183). -/
inductive SymbolClass
  | dataMatrix | qr | linear
  deriving DecidableEq, Repr

def SymbolClass.code : SymbolClass → Nat
  | .dataMatrix => 0
  | .qr => 1
  | .linear => 2

/-- What the tunings found of a symbol: its centre, orientation and module size; then the reflectance of each module by rows, or ten profiles of edge positions (R183). -/
structure Sighting where
  cls : SymbolClass
  line : Nat
  column : Nat
  turn : Nat := 0
  module : Nat := 0
  rows : Nat := 0
  columns : Nat := 0
  reflectances : List Nat := []
  profiles : List (List Nat) := []
  deriving DecidableEq, Repr

/-- The edges of the ten profiles of a linear symbol, 0xFFFF between two profiles (R183). -/
def profileHalves (profiles : List (List Nat)) : List Nat := [0xFFFF].intercalate profiles

/-- The words of a SYMBOL packet (R183). -/
def symbolPacket (pad : Nat) (y : Sighting) : List Nat :=
  let linear := y.cls == .linear
  let size := if linear then (y.profiles.map List.length).sum % 65536 else y.rows % 256 * 256 + y.columns % 256
  [0x01000000 + y.cls.code * 65536 + size, y.line % 2 ^ 32, y.column % 65536 + 65536 * (y.turn % 65536), y.module % 65536]
    ++ if linear then packWords 16 pad (profileHalves y.profiles) else packWords 8 pad y.reflectances

/-- A symbol lies in the inspection region of a record: its centre line and its centre column (R183). -/
def inRegion (s : State) (cam : Nat) (y : Sighting) (p : Product) : Bool :=
  let i := 0x3820 + p.trigger
  p.camera == cam && decide (0 ≤ lineDiff y.line p.firstLine) && decide (0 ≤ lineDiff p.lastLine y.line)
    && decide (rd s i 0x04 ≤ y.column) && decide (y.column ≤ rd s i 0x05)

/-- The product a symbol belongs to: of those whose regions it lies in, the one whose record was created first (R183). -/
def symbolProduct (s : State) (cam : Nat) (y : Sighting) : Option Product := s.print.products.find? (inRegion s cam y)

/-- The words of a HEALTH packet (R183). -/
def healthPacket (firstLine : Nat) (columns : List (Nat × Nat)) : List Nat :=
  [0x02000000 + columns.length % 65536, firstLine] ++ columns.map (fun c => c.1 % 65536 + 65536 * (c.2 % 65536))

/-- The run of a nozzle after a product with support and gaps, and whether the nozzle is posted (R191). -/
def healthRun (s : State) (run support gaps : Nat) : Nat × Bool :=
  if support < rd s 0x3802 0x03 then (run, false)
  else if rd s 0x3802 0x02 * support ≤ gaps * 256 then
    if rd s 0x3802 0x01 ≤ run + 1 then (0, true) else (run + 1, false)
  else (0, false)

/-- Support and gaps of one column over the HEALTH blocks of a region (R191). -/
def columnSums (blocks : List (List (Nat × Nat))) (c : Nat) : Nat × Nat :=
  ((blocks.map (fun b => (b.getD c (0, 0)).1)).sum, (blocks.map (fun b => (b.getD c (0, 0)).2)).sum)

/-- Of two columns' support and gaps, the one with the higher ratio of gaps to support, the first at a tie; a column with no support has none (R191). -/
def higherRatio (x y : Nat × Nat) : Nat × Nat := if x.1 == 0 then y else if y.2 * x.1 ≤ x.2 * y.1 then x else y

/-- The sums of the column of nozzle k with the highest ratio (R191). -/
def nozzleSums (s : State) (b cam k : Nat) (blocks : List (List (Nat × Nat))) : Nat × Nat :=
  let cols := (List.range (rd s (cc cam) 0x03)).filter (fun c => columnNozzle s b cam c == k)
  cols.foldl (fun best c => higherRatio best (columnSums blocks c)) (0, 0)

/-- The streak runs that the firmware keeps: bar, nozzle, run. -/
abbrev Runs := List ((Nat × Nat) × Nat)

def runOf (r : Runs) (b k : Nat) : Nat := ((r.find? (fun e => e.1 == (b, k))).map (·.2)).getD 0
def setRun (r : Runs) (b k n : Nat) : Runs := ((b, k), n) :: r.filter (fun e => e.1 != (b, k))

/-- One nozzle after a product: its run updated, and a HealthPost where the streak is confirmed; a FAILED or MASKED nozzle is left (R191). -/
def healthNozzle (cam b : Nat) (blocks : List (List (Nat × Nat))) (x : State × Runs) (k : Nat) : State × Runs :=
  if 2 ≤ bitsOf (mapEntry x.1 b (activeCopy x.1 b) k) 30 2 then x
  else
    let sums := nozzleSums x.1 b cam k blocks
    let r := healthRun x.1 (runOf x.2 b k) sums.1 sums.2
    (if r.2 then (healthPost x.1 (k + 2 ^ 16 * b)).1 else x.1, setRun x.2 b k r.1)

/-- A product whose verdict has been posted, with the HEALTH blocks of its region: each nozzle of each of its health bars (R191). -/
def healthProduct (x : State × Runs) (e : Product × List (List (Nat × Nat))) : State × Runs :=
  let bars := (List.range 24).filter (fun b => (rd x.1 (0x3820 + e.1.trigger) 0x0A).testBit b && healthTaken x.1 b e.1.camera)
  bars.foldl (fun y b => (List.range (nozzles y.1 b)).foldl (healthNozzle e.1.camera b e.2) y) x

/-- A verdict of a product was posted: DONE or LATE, with PASS or REJECT. -/
def posted (p : Product) : Bool := (p.verifyStatus == 3 || p.verifyStatus == 5) && p.imagedAt != 0

/-- Products placed in the order in which they became IMAGED. -/
def imagedInsert (e : Product × List (List (Nat × Nat))) : List (Product × List (List (Nat × Nat))) → List (Product × List (List (Nat × Nat)))
  | [] => [e]
  | x :: xs => if e.1.imagedAt ≤ x.1.imagedAt then e :: x :: xs else x :: imagedInsert e xs

/-- Health analysis of the products whose verdict has been posted, in the order in which they became IMAGED (R191). -/
def healthProducts (x : State × Runs) (ps : List (Product × List (List (Nat × Nat)))) : State × Runs :=
  ((ps.filter (fun e => posted e.1)).foldr imagedInsert []).foldl healthProduct x

/-- The runs of one nozzle over a list of products' support and gaps, and whether one of them posted it (R193). -/
def healthSeries (s : State) (run : Nat) : List (Nat × Nat) → Bool
  | [] => false
  | e :: es => let r := healthRun s run e.1 e.2; r.2 || healthSeries s r.1 es

/-! Reading a symbol (R188). -/

/-- The symbologies that the engine reads and grades, in the order of their bits of Symbologies (R188). -/
inductive Symbology
  | dataMatrix | qr | code128 | ean | itf | code39
  deriving DecidableEq, Repr

/-- The bit of Symbologies. -/
def Symbology.bit : Symbology → Nat
  | .dataMatrix => 0
  | .qr => 1
  | .code128 => 2
  | .ean => 3
  | .itf => 4
  | .code39 => 5

def Symbology.twoD : Symbology → Bool
  | .dataMatrix | .qr => true
  | .code128 | .ean | .itf | .code39 => false

/-- The bits of I:07 name the symbology (R188). -/
def symbologyAsked (mask : Nat) (k : Symbology) : Bool := mask.testBit k.bit

/-- A 2D symbol is within the limits: a Data Matrix to 144 by 144 modules, a QR Code of version v from 1 to 31, with 17 + 4v modules a side (R188; the side of a version: notes/assumptions/138.md). -/
def within2D (k : Symbology) (rows columns : Nat) : Bool :=
  match k with
  | .dataMatrix => decide (0 < rows) && decide (rows ≤ 144) && decide (0 < columns) && decide (columns ≤ 144)
  | .qr => rows == columns && decide (21 ≤ rows) && decide (rows ≤ 141) && (rows - 17) % 4 == 0
  | .code128 | .ean | .itf | .code39 => false

/-- A linear symbol of n characters is within the limits, with an add-on or without, in full ASCII or not (R188). -/
def withinLinear (k : Symbology) (n : Nat) (addOn fullAscii : Bool) : Bool :=
  match k with
  | .dataMatrix | .qr => false
  | .code128 => decide (n ≤ 48)
  | .ean => !addOn && (n == 13 || n == 8 || n == 12 || n == 6)
  | .itf => n % 2 == 0 && decide (n ≤ 30)
  | .code39 => !fullAscii && decide (n ≤ 40)

/-- The modulus of the field of 256 elements without its x^8 (R188). -/
def gfModulus : Symbology → Nat
  | .dataMatrix => 0x2D
  | .qr | .code128 | .ean | .itf | .code39 => 0x1D

/-- x to the n. -/
def gfPower (m : Nat) : Nat → Nat
  | 0 => 1
  | n + 1 => gfMul m 2 (gfPower m n)

/-- A block read as a polynomial, highest first, at an element. -/
def gfEval (m : Nat) (block : List Nat) (e : Nat) : Nat := block.foldl (fun z c => gfMul m z e ^^^ c) 0

/-- The first root of the code: x for Data Matrix, 1 for QR Code (notes/assumptions/138.md). -/
def rsFirstRoot : Symbology → Nat
  | .dataMatrix => 1
  | .qr | .code128 | .ean | .itf | .code39 => 0

/-- A block is a word of the Reed–Solomon code with n check bytes. -/
def rsWord (k : Symbology) (n : Nat) (block : List Nat) : Bool :=
  (List.range n).all (fun i => gfEval (gfModulus k) block (gfPower (gfModulus k) (rsFirstRoot k + i)) == 0)

/-- Places where two blocks differ. -/
def blockErrors (x y : List Nat) : Nat := ((x.zip y).filter (fun e => e.1 != e.2)).length

/-- A block read with up to n / 2 bytes wrong is corrected to the one word of the code that is so near (R187, R188). -/
def rsCorrects (k : Symbology) (n : Nat) (read corrected : List Nat) : Bool :=
  read.length == corrected.length && corrected.all (fun c => decide (c < 256)) && rsWord k n corrected && decide (2 * blockErrors read corrected ≤ n)

/-- A 2D symbol is decoded where it is within the limits and error correction succeeds in each of its blocks: check bytes, what was read and what it is corrected to (R187, R188). -/
def decoded2D (k : Symbology) (rows columns : Nat) (blocks : List (Nat × List Nat × List Nat)) : Bool :=
  within2D k rows columns && blocks.all (fun b => rsCorrects k b.1 b.2.1 b.2.2)

/-! Grades, in tenths from 0 to 40 (R188). -/

/-- The parameters of ISO/IEC 15415 that the engine reports for a 2D symbol, each graded by the standard's method (R188). -/
structure Grades2D where
  decode : Nat
  contrast : Nat
  modulation : Nat
  margin : Nat
  fixedPattern : Nat
  axial : Nat
  grid : Nat
  unusedCorrection : Nat
  /-- Reported, not graded. -/
  printGrowth : Int
  deriving DecidableEq, Repr

/-- The lowest of some grades. -/
def lowest (gs : List Nat) : Nat := gs.foldl min 40

/-- The overall grade of a 2D symbol: the lowest of the graded parameters (R188). -/
def overall2D (g : Grades2D) : Nat := lowest [g.decode, g.contrast, g.modulation, g.margin, g.fixedPattern, g.axial, g.grid, g.unusedCorrection]

/-- The parameters of one scan of a linear symbol under ISO/IEC 15416 (R188). -/
structure GradesScan where
  decode : Nat
  reflectance : Nat
  contrast : Nat
  edgeContrast : Nat
  modulation : Nat
  defects : Nat
  decodability : Nat
  deriving DecidableEq, Repr

/-- The grade of a scan: the lowest of its parameters (notes/assumptions/138.md). -/
def scanGrade (g : GradesScan) : Nat := lowest [g.decode, g.reflectance, g.contrast, g.edgeContrast, g.modulation, g.defects, g.decodability]

/-- The mean of the ten scan grades, which lies between two tenths where their sum is no multiple of ten; the spec does not say which is taken (R188; notes/assumptions/138.md). -/
def linearGrade (scans : List GradesScan) : Nat :=
  let sum := (scans.map scanGrade).sum
  sum / 10 + (if sum % 10 == 0 then 0 else Config.gradeRound sum % 2)

/-! Verdicts (R187). -/

/-- A character of a symbol: a byte, or FNC1. -/
inductive SymbolChar
  | byte (b : Byte)
  | fnc1
  deriving DecidableEq, Repr

/-- A symbol: its symbology, its symbology identifier, its characters, and its overall grade where it was decoded. -/
structure Symbol where
  kind : Symbology
  ident : List Byte := []
  chars : List SymbolChar
  grade : Nat := 40
  deriving DecidableEq, Repr

/-- The data compared: no symbology identifier, an FNC1 in front left out with it, any other read as 0x1D (R187). -/
def Symbol.data (y : Symbol) : List Byte :=
  let rest := match y.chars with
    | .fnc1 :: cs => cs
    | cs => cs
  rest.map (fun c => match c with
    | .byte b => b
    | .fnc1 => 0x1D)

/-- A decoded symbol matches an expected one. -/
def symbolMatch (e d : Symbol) : Bool := e.kind == d.kind && e.data == d.data

/-- Expected symbols left unmatched, decoded symbols left unmatched, and the decoded symbols matched; each decoded symbol matches at most one. -/
def matchSymbols : List Symbol → List Symbol → List Symbol × List Symbol × List Symbol
  | [], ds => ([], ds, [])
  | e :: es, ds =>
    match ds.find? (symbolMatch e) with
    | some d =>
      let r := matchSymbols es (ds.erase d)
      (r.1, r.2.1, d :: r.2.2)
    | none =>
      let r := matchSymbols es ds
      (e :: r.1, r.2.1, r.2.2)

/-- A line packet of a camera's queue is a substitute for a line from first to last: its number and its flags (R176, R187). -/
def substituteIn (first last : Nat) (packet : List Nat) : Bool :=
  let n := packet.getD 0 0
  decide (0 ≤ lineDiff n first) && decide (0 ≤ lineDiff last n) && (packet.getD 1 0).testBit 0

/-- The cause of a verdict: 0 NONE, 1 NO_READ, 2 CONTENT, 3 GRADE, 4 IMAGE_LOST, 5 EXTRA_SYMBOL (R184, R187). -/
def derivedCause (first last : Nat) (lines : List (List Nat)) (expected decoded : List Symbol) (min2D minLinear : Nat) : Nat :=
  let r := matchSymbols expected decoded
  if lines.any (substituteIn first last) then 4
  else if !r.1.isEmpty then (if r.1.any (fun e => r.2.1.any (fun d => d.kind == e.kind)) then 2 else 1)
  else if !r.2.1.isEmpty then 5
  else if r.2.2.any (fun d => decide (d.grade < if d.kind.twoD then min2D else minLinear)) then 3
  else 0

/-- The verdict byte: 2 PASS or 3 REJECT with its cause (R184). -/
def verdictByte (cause : Nat) : Nat := cause * 4 + if cause == 0 then 2 else 3

/-- The grade posted: the lowest among the matched symbols, 0xFF where none matched (R186, R187). -/
def verdictGrade (expected decoded : List Symbol) : Nat :=
  match (matchSymbols expected decoded).2.2 with
  | [] => 0xFF
  | d :: ds => lowest ((d :: ds).map (·.grade))

/-- The value of VerdictPost for a product: its id, the verdict byte, the grade and the symbols decoded (R186). -/
def postValue (id cause grade decoded : Nat) : Nat := id % 2 ^ 32 + 2 ^ 32 * (verdictByte cause % 256) + 2 ^ 40 * (grade % 256) + 2 ^ 48 * (decoded % 256)

end Sys2Proof.Machine
end

