-- ==== Sys2Proof/Tests/Slice0.lean ====
section
/-! SUPPORT. Tests: for each statement, states and operands that meet the hypotheses of its clauses; ill-formed commands; worked examples of the spec. -/

set_option Elab.async false

namespace Sys2Proof.Tests

open Sys2Proof Sys2Proof.Machine Sys2Proof.Safety

/-- An engine that has booted: every domain ON, at 1 µs. -/
def up : State := { obj := [(0x140001, 5)] ++ (List.range 42).map (fun d => (0x151101 + d, 2)), now := 1000000, power := { vinUp := true } }

/-- Registers set: index, sub-index, value. -/
def put (l : List (Nat × Nat × Nat)) (s : State) : State := { s with obj := l.foldl (fun t e => tabPut t (e.1 * 256 + e.2.1) e.2.2) s.obj }

/-- One field set. -/
def fld (f : Nat) (x : Field) (s : State) : State := { s with arr := { s.arr with fields := tabPut s.arr.fields f x } }
/-- One queue set. -/
def que (q : Nat) (x : Queue) (s : State) : State := { s with queues := tabPut s.queues q x }
/-- One lane set. -/
def lan (n : Nat) (x : Lane) (s : State) : State := { s with lanes := tabPut s.lanes n x }
/-- One core set. -/
def cor (n : Nat) (x : Core) (s : State) : State := { s with cores := tabPut s.cores n x }
/-- Bytes of memory set. -/
def poke (a : Nat) (b : List Byte) (s : State) : State := memWrite s a b
/-- One bar set. -/
def bar (b : Nat) (x : Bar) (s : State) : State := { s with print := { s.print with bars := tabPut s.print.bars b x } }
/-- One camera set. -/
def cam (k : Nat) (x : Camera) (s : State) : State := { s with print := { s.print with cameras := tabPut s.print.cameras k x } }
/-- One gate set. -/
def gat (j : Nat) (x : Gate) (s : State) : State := { s with print := { s.print with gates := tabPut s.print.gates j x } }
/-- One encoder set. -/
def enc (e : Nat) (x : Encoder) (s : State) : State := { s with print := { s.print with encoders := tabPut s.print.encoders e x } }
/-- Core n runs, at pc 0x100 of its own memory, where the words l stand. -/
def prog (n : Nat) (c : Core) (l : List Nat) (s : State) : State :=
  poke (coreWindow n + 0x100) (l.flatMap (leBytes 4)) (cor n { c with pc := 0x100 } (put [(cS n, 1, 2)] s))
/-- An access reaches a core's own memories. -/
def isLocal (a : CoreAccess) : Bool := match a with | .local_ _ => true | _ => false
/-- The object at an index and sub-index. -/
def objAt (idx sub : Nat) : ObjRef :=
  match resolveObj idx sub with | .ok o => o | .error _ => { idx := 0, sub := 0, desc := ob 0 "DeviceType" .u32 .cst (.k 0), unit := 0, place := 0 }
/-- Live products set. -/
def prods (l : List Product) (s : State) : State := { s with print := { s.print with products := l } }

/-- `Stored` as a Bool. -/
def storedB (idx sub : Nat) (o : ObjRef) : Bool :=
  (match resolveObj idx sub with | .ok x => decide (x = o) | .error _ => false) &&
    decide (o.desc.acc ≠ .wo ∧ o.desc.rd = .stored ∧ o.desc.ty.bytes ≠ 0 ∧ ¬ (idx = 0x1018 ∧ sub = 4))

theorem stored_of {idx sub : Nat} {o : ObjRef} (h : storedB idx sub o = true) : Stored idx sub o := by
  unfold storedB at h
  split at h <;> simp_all [Stored]
  omega

/-- `Plain` as a Bool. -/
def plainB (idx sub : Nat) (o : ObjRef) : Bool :=
  (match resolveObj idx sub with | .ok x => decide (x = o) | .error _ => false) &&
    decide (o.desc.kind = .plain ∧ o.desc.fn = .store ∧ o.desc.ty.bytes ≠ 0)

theorem plain_of {idx sub : Nat} {o : ObjRef} (h : plainB idx sub o = true) : Plain idx sub o := by
  unfold plainB at h
  split at h <;> simp_all [Plain]

/-- `isLocal` says that an access is local. -/
theorem isLocal_iff (a : CoreAccess) : isLocal a = true ↔ ∃ o, a = .local_ o := by
  cases a <;> simp [isLocal]

/-- A result that is given, and is this. -/
def okIs {α : Type} [DecidableEq α] (x : Except Status α) (a : α) : Bool := match x with | .ok b => decide (b = a) | .error _ => false

theorem okIs_iff {α : Type} [DecidableEq α] (x : Except Status α) (a : α) : okIs x a = true ↔ x = .ok a := by
  cases x <;> simp [okIs]

/-- States and operands that meet the hypotheses of each clause of CellsFireAndDeliver. -/
theorem wit_CellsFireAndDeliver :
  (∃ (t : Nat) (f : FieldId) (c : CellId) (s : State), (runs t s = true) ∧ (let z := fieldNow (at_ t s) f; (let y := cellOf (fieldOf z f) c; (let slot := cellSlot z f c; (let w := wordOf (fieldOf z f) slot c; (let side := sideOf y slot; (fieldMoving z f = true) ∧ (windowOpen z y = true) ∧ (mayFire w side = true) ∧ ((opRunning (cwOpcode w) = true → regFree z y slot (cwDestReg w) = true)) ∧ (drainStops z f w side = false) ∧ ((∀ k : Nat, k < 3 → (operand z f c slot w side k).isSome = true)) ∧ ((∀ o : Nat, o < 4 → (passToken z f c slot w o).isSome = true)))))))) ∧
  (∃ (t : Nat) (f : FieldId) (c : CellId) (k : Nat) (s : State) (e : WinEntry), (runs t s = true) ∧ (fieldMoving (at_ t s) f = true) ∧ ((cellOf (fieldOf s f) c).win[k]? = some e) ∧ (e.we = true) ∧ (e.written = false) ∧ (e.dueAt = aclk (at_ t s) + 1) ∧ (((cellOf (fieldOf s f) c).win.take k).any (fun d => writeDue d && sameReg d e && d.dueAt == e.dueAt) = false)) ∧
  (∃ (t : Nat) (f : FieldId) (c : CellId) (k : Nat) (s : State) (e : WinEntry), (runs t s = true) ∧ (fieldMoving (at_ t s) f = true) ∧ ((cellOf (fieldOf s f) c).win[k]? = some e) ∧ ((writeDue e || e.deliver == 0) = true) ∧ (e.dueAt ≤ aclk (at_ t s))) ∧
  (∃ (t : Nat) (f : FieldId) (c : CellId) (s : State) (e : WinEntry) (rest : List WinEntry), (runs t s = true) ∧ (let z := fieldNow (at_ t s) f; ((cellOf (fieldOf z f) c).win = e :: rest) ∧ (fieldMoving z f = true) ∧ (e.deliver ≠ 0) ∧ ((cellOf (fieldOf z f) c).deliveredAt ≠ aclk z + 1) ∧ (e.dueAt ≤ aclk z + 1) ∧ (entryEndsReady z f c e = true))) :=
  ⟨⟨0, 0, 0, put [(0x2000, 3, 0)] (fld 0 { frozenAt := none, slots := [(0, { st := 3, words := [(0, (1 + 0x10 * 2 ^ 12 + 4 * 2 ^ 34 + 2 ^ 39 + 2 ^ 42 + 7 * 2 ^ 48))] })] } up), by decide +kernel⟩,
   ⟨0, 0, 0, 0, put [(0x2000, 3, 0)] (fld 0 { frozenAt := none, slots := [(0, { st := 3 })], cells := [(0, { win := [{ we := true, reg := 1, regVal := 7, deliver := 4, passS := { data := 7 }, dueAt := 1001 }] })] } up), { we := true, reg := 1, regVal := 7, deliver := 4, passS := { data := 7 }, dueAt := 1001 }, by decide +kernel⟩,
   ⟨0, 0, 0, 0, put [(0x2000, 3, 0)] (fld 0 { frozenAt := none, slots := [(0, { st := 3 })], cells := [(0, { win := [{ we := true, reg := 1, regVal := 7, deliver := 4, passS := { data := 7 }, dueAt := 1000 }] })] } up), { we := true, reg := 1, regVal := 7, deliver := 4, passS := { data := 7 }, dueAt := 1000 }, by decide +kernel⟩,
   ⟨0, 0, 0, put [(0x2000, 3, 0)] (fld 0 { frozenAt := none, slots := [(0, { st := 3 })], cells := [(0, { win := [{ we := true, reg := 1, regVal := 7, deliver := 4, passS := { data := 7 }, dueAt := 1001 }] })] } up), { we := true, reg := 1, regVal := 7, deliver := 4, passS := { data := 7 }, dueAt := 1001 }, [], by decide +kernel⟩⟩

/-- States and operands that meet the hypotheses of each clause of ConfigurationPortWrites. -/
theorem wit_ConfigurationPortWrites :
  (∃ (t : Nat) (f : FieldId) (s : State), (runs t s = true) ∧ (domOn s f = true) ∧ (fieldHeld s f = true)) ∧
  (∃ (t : Nat) (f : FieldId) (s : State), (runs t s = true) ∧ (domOn s f = true) ∧ (let c := (fieldOf s f).lutSelect % 64; (let page := bitsOf (fieldOf s f).lutSelect 8 1; (let w := wordOf (fieldOf s f) (cellSlot s f c) c; ((activeSlot s f != 0xFF && opNamesPage (cwOpcode w) && cwLutPage w == page) = false))))) ∧
  (∃ (t : Nat) (f : FieldId) (j : Fin 8704) (v : Nat) (s : State), (runs t s = true) ∧ (domOn s f = true) ∧ (fieldHeld s f = true) ∧ ((256 ≤ j.val ∧ j.val < 384 → capoHeld s = true)) ∧ (clearBits (v % 2 ^ 32) (capoBits (0x7800 + 4 * j.val)) = 0)) ∧
  (∃ (t : Nat) (f : FieldId) (j : Fin 8704) (v : Nat) (s : State), (runs t s = true) ∧ (domOn s f = true) ∧ (fieldHeld s f = true) ∧ ((256 ≤ j.val ∧ j.val < 384 → capoHeld s = true)) ∧ (clearBits (v % 2 ^ 32) (capoBits (0x7800 + 4 * j.val)) ≠ 0)) :=
  ⟨⟨0, 23, fld 23 { frozenAt := some 0 } up, by decide +kernel⟩,
   ⟨0, 23, fld 23 { lutSelect := 63 + 256 } up, by decide +kernel⟩,
   ⟨0, 23, 32 + 0x1C0 * 0, 0x80000009, fld 23 { frozenAt := some 0 } up, by decide +kernel⟩,
   ⟨0, 23, 8703, 9, fld 23 { frozenAt := some 0 } up, by decide +kernel⟩⟩

/-- States and operands that meet the hypotheses of each clause of RowBypassWritten. -/
theorem wit_RowBypassWritten :
  ∃ (src : Source) (r : Fin 4) (v : Nat) (s : State), (canSet s src 0x2600 (r.val + 1) v = true) ∧ (rowStopped s r = true) :=
  ⟨.core 0, 3, 5, up, by decide +kernel⟩

/-- States and operands that meet the hypotheses of each clause of BypassAndDrillMoves. -/
theorem wit_BypassAndDrillMoves :
  (∃ (t : Nat) (f : FieldId) (u : Furrow) (west : Bool) (h : Held) (rest : List Held) (s : State), (runs t s = true) ∧ (stageOf (fieldOf s f) u (boolNat west) = h :: rest) ∧ (isBypassed s f = true) ∧ (capoHeld s = false) ∧ (h.since < aclk (at_ t s)) ∧ (tabGet 0 (fieldOf s f).stageMoved (2 * u.val + boolNat west) ≠ aclk (at_ t s) + 1) ∧ (endReady (at_ t s) none (stageEnd (at_ t s) f u (boolNat west)) = true)) ∧
  (∃ (t : Nat) (f : FieldId) (d : DrillId) (v : Nat) (it : DrillItem) (rest : List DrillItem) (s : State), (runs t s = true) ∧ (let z := fieldNow (at_ t s) f; (drillPort z f d 0 = some v) ∧ ((streamOf (fieldOf z f) d 0).buf = it :: rest) ∧ (fieldMoving z f = true) ∧ (draining z f = false) ∧ ((streamOf (fieldOf z f) d 0).movedAt ≠ aclk z + 1) ∧ (it.since + 2 ≤ aclk z) ∧ (endReady z (some f) (.cell f (56 + v) 2) = true))) ∧
  (∃ (t : Nat) (f : FieldId) (d : DrillId) (v : Nat) (e : WinEntry) (rest : List WinEntry) (s : State), (runs t s = true) ∧ (let z := fieldNow (at_ t s) f; (drillPort z f d 1 = some v) ∧ ((cellOf (fieldOf z f) (56 + v)).win = e :: rest) ∧ (bitOf e.deliver 2 = true) ∧ (e.deliver ≠ 0) ∧ (fieldMoving z f = true) ∧ ((cellOf (fieldOf z f) (56 + v)).deliveredAt ≠ aclk z + 1) ∧ (e.dueAt ≤ aclk z + 1) ∧ (entryEndsReady z f (56 + v) e = true))) ∧
  (∃ (t : Nat) (f : FieldId) (d : DrillId) (it : DrillItem) (rest : List DrillItem) (s : State), (runs t s = true) ∧ (domOn s f = true) ∧ (let z := fieldNow (at_ t s) f; (frozenIn (fieldOf z f) (aclk z) = false) ∧ ((streamOf (fieldOf z f) d 1).buf = it :: rest) ∧ (storeServed z (fieldOf z f) (it.addr / 16384) d = true))) ∧
  (∃ (t : Nat) (f : FieldId) (off : Nat) (size : Nat) (v : Nat) (s : State), (runs t s = true) ∧ (domOn s f = true) ∧ (off + size ≤ 0x40000) ∧ (let z := fieldNow (at_ t s) f; (netServed z (fieldOf z f) (off / 0x10000) false { off := off, size := size, value := v } = true))) ∧
  (∃ (t : Nat) (f : FieldId) (off : Nat) (size : Nat) (v : Nat) (s : State), (runs t s = true) ∧ (domOn s f = true) ∧ (off + size ≤ 0x40000) ∧ (let z := fieldNow (at_ t s) f; (netServed z (fieldOf z f) (off / 0x10000) true { off := off, size := size, value := v } = true))) ∧
  (∃ (t : Nat) (f : FieldId) (off : Nat) (size : Nat) (v : Nat) (write : Bool) (s : State), (runs t s = true) ∧ (domOn s f = true) ∧ (off + size ≤ 0x40000) ∧ (let z := fieldNow (at_ t s) f; (netServed z (fieldOf z f) (off / 0x10000) write { off := off, size := size, value := v } = false))) :=
  ⟨⟨0, 1, 0, false, { since := 10 }, [], put [(0x2600, 1, 1), (0x2080, 3, 0)] (fld 1 { stages := [(0, [{ since := 10 }])] } (fld 2 { frozenAt := none, slots := [(0, { headland := [(0, 1)] })] } up)), by decide +kernel⟩,
   ⟨0, 0, 0, 0, { addr := 0, tok := { data := 9 }, since := 998 }, [], put [(0x2000, 3, 0)] (fld 0 { frozenAt := none, fetchAt := 1001, streams := [(0, { buf := [{ addr := 0, tok := { data := 9 }, since := 998 }] })], slots := [(0, { headland := [(24, 2)], drill := [0, 0, 1, 0] })] } up), by decide +kernel⟩,
   ⟨0, 0, 0, 0, { deliver := 4, dueAt := 1001 }, [], put [(0x2000, 3, 0)] (fld 0 { frozenAt := none, slots := [(0, { headland := [(24, 6)], drill := List.replicate 26 0 ++ [1] })], cells := [(56, { win := [{ deliver := 4, dueAt := 1001 }] })] } up), by decide +kernel⟩,
   ⟨0, 0, 0, { addr := 16384, tok := { data := 9 }, since := 5 }, [], fld 0 { frozenAt := none, streams := [(1, { buf := [{ addr := 16384, tok := { data := 9 }, since := 5 }] })] } up, by decide +kernel⟩,
   ⟨0, 23, 0x3FFF8, 8, 0, up, by decide +kernel⟩,
   ⟨0, 23, 0x3FFF8, 8, 77, up, by decide +kernel⟩,
   ⟨0, 23, 0x3FFF8, 8, 77, false, fld 23 { netReadAt := [(3, 1001)] } up, by decide +kernel⟩⟩

/-- States and operands that meet the hypotheses of each clause of TuningLoadSteps. -/
theorem wit_TuningLoadSteps :
  (∃ (src : Source) (s : State), (canSet s src 0x2603 0x05 1 = true) ∧ (loadRunning s = false) ∧ (¬ (rd s 0x2603 0x01 = 0 ∧ rd s 0x1301 0x01 = 2)) ∧ ((rd s 0x2603 0x01 = 1 → rd s 0x2603 0x03 ≤ 62 ∧ (tabFind s.cache (rd s 0x2603 0x03)).isSome = true))) ∧
  (∃ (t : Nat) (k : Nat) (st : Status) (s : State), (runs t s = true) ∧ (loadState s = 1) ∧ (checkFree s s.arr.load.askedAt = true) ∧ (imgAuthCheck s s.arr.load.image s.arr.load.received (rd s 0x2605 0x02) = some (k, st))) ∧
  (∃ (t : Nat) (s : State), (runs t s = true) ∧ (loadState s = 3)) :=
  ⟨⟨.core 0, put [(0x2603, 1, 1), (0x2603, 3, 62)] { up with cache := [(62, [])] }, by decide +kernel⟩,
   ⟨0, 1, .range, put [(0x2603, 6, 1)] up, by decide +kernel⟩,
   ⟨0, put [(0x2603, 6, 3)] up, by decide +kernel⟩⟩

/-- States and operands that meet the hypotheses of each clause of RetuneRequests. -/
theorem wit_RetuneRequests :
  (∃ (src : Source) (f : FieldId) (s : State), (canSet s src (0x2005 + 0x40 * f.val) 0x07 1 = true) ∧ (let g := fun k => rd s (0x2005 + 0x40 * f.val) k; (retuneCheck s f (g 1) (g 2) (g 3) (g 4) = .ok))) ∧
  (∃ (src : Source) (s : State), (canSet s src 0x2602 0x08 1 = true) ∧ (let g := fun k => rd s 0x2602 k; ((∀ f : Nat, f < 24 → bitOf (g 7) f = true → retuneCheck s f (g 1) (g 2) (g 3) (g 4) = .ok)))) ∧
  (∃ (src : Source) (f : FieldId) (s : State), (canSet s src (0x2005 + 0x40 * f.val) 0x08 1 = true) ∧ (retuneState s f = 1) ∧ ((fieldOf s f).retune.isSome = true)) ∧
  (∃ (t : Nat) (f : FieldId) (r : Retune) (x : Feed) (s : State), (runs t s = true) ∧ ((fieldOf s f).retune = some r) ∧ (retuneState s f = 1) ∧ (portFeed (at_ t s) f r.cuePort = some x) ∧ (let z := feedNow (at_ t s) x; (feedReady z x = true) ∧ (cueMatches r (feedToken z x) = true))) ∧
  (∃ (f : FieldId) (c : Nat) (dir : Nat) (tok : Token) (r : Retune) (s : State), (portOfInput c dir = some r.cuePort) ∧ ((fieldOf s f).retune = some r) ∧ (retuneState s f = 1) ∧ (cueMatches r tok = true)) :=
  ⟨⟨.core 7, 23, put [(0x25C0, 3, 0), (0x25C1, 0, 1), (0x25C5, 1, 2), (0x25C5, 2, 1), (0x25C5, 3, 0)] (fld 23 { frozenAt := none, slots := [(0, { st := 3 }), (2, { st := 2 })] } up), by decide +kernel⟩,
   ⟨.core 0, put [(0x25C0, 3, 0), (0x25C1, 0, 1), (0x2602, 1, 2), (0x2602, 3, 0), (0x2602, 7, 0x800000)] (fld 23 { frozenAt := none, slots := [(0, { st := 3 }), (2, { st := 2 })] } up), by decide +kernel⟩,
   ⟨.core 0, 23, put [(0x25C6, 1, 1)] (fld 23 { retune := some { target := 2 } } up), by decide +kernel⟩,
   ⟨0, 0, { target := 1, mode := 0, cuePort := 0, cueValue := 5, cueMask := 255 }, .edge 0, put [(0x2000, 3, 0), (0x2006, 1, 1), (0x2801, 1, 2)] (que 0 { rest := [(5, true)] } (fld 0 { frozenAt := none, retune := some { target := 1, mode := 0, cuePort := 0, cueValue := 5, cueMask := 255 }, slots := [(0, { st := 3, headland := [(0, 1)] }), (1, { st := 2 })] } up)), by decide +kernel⟩,
   ⟨0, 0, 3, { data := 5, last := true }, { target := 1, mode := 0, cuePort := 0, cueValue := 5, cueMask := 255 }, put [(0x2000, 3, 0), (0x2006, 1, 1)] (fld 0 { frozenAt := none, retune := some { target := 1, mode := 0, cuePort := 0, cueValue := 5, cueMask := 255 }, slots := [(0, { st := 3, headland := [(0, 1)] }), (1, { st := 2 })] } up), by decide +kernel⟩⟩

/-- States and operands that meet the hypotheses of each clause of RetuneEnds. -/
theorem wit_RetuneEnds :
  (∃ (t : Nat) (f : FieldId) (r : Retune) (s : State), (runs t s = true) ∧ ((fieldOf s f).retune = some r) ∧ (draining (at_ t s) f = true) ∧ (domOn s f = true) ∧ (frozenIn (fieldOf s f) (aclk (at_ t s)) = false) ∧ (fieldEmpty (fieldNow (at_ t s) f) f = true)) ∧
  (∃ (t : Nat) (f : FieldId) (r : Retune) (s : State), (runs t s = true) ∧ ((fieldOf s f).retune = some r) ∧ (retuneState s f = 2) ∧ (domOn s f = true) ∧ (r.startAclk + rd s (0x2007 + 0x40 * f.val) 0x00 ≤ aclk (at_ t s))) :=
  ⟨⟨0, 0, { target := 1, mode := 1 }, put [(0x2000, 3, 0), (0x2006, 1, 2)] (fld 0 { frozenAt := none, retune := some { target := 1, mode := 1 }, slots := [(0, { st := 3 }), (1, { st := 2 })] } up), by decide +kernel⟩,
   ⟨0, 0, { target := 1, mode := 2 }, put [(0x2000, 3, 0), (0x2006, 1, 2), (0x2007, 0, 1000)] (fld 0 { frozenAt := none, retune := some { target := 1, mode := 2 }, slots := [(0, { st := 3 }), (1, { st := 2 })] } up), by decide +kernel⟩⟩

/-- States and operands that meet the hypotheses of each clause of FieldsHaltAndRun. -/
theorem wit_FieldsHaltAndRun :
  (∃ (src : Source) (s : State), (canSet s src 0x2601 0x01 1 = true)) ∧
  (∃ (src : Source) (s : State), (canSet s src 0x2601 0x01 0 = true)) ∧
  (∃ (t : Nat) (s : State), (runs t s = true) ∧ (rd s 0x2601 0x02 = 1) ∧ (rd s 0x2601 0x01 = 1)) ∧
  (∃ (t : Nat) (s : State), (runs t s = true) ∧ (rd s 0x2601 0x02 = 2) ∧ (rd s 0x2601 0x01 = 0)) ∧
  (∃ (src : Source) (f : FieldId) (s : State), (canSet s src (0x2001 + 0x40 * f.val) 0x00 0 = true)) ∧
  (∃ (src : Source) (f : FieldId) (s : State), (canSet s src (0x2001 + 0x40 * f.val) 0x00 1 = true) ∧ (domOn s f = true) ∧ (activeSlot s f ≠ 0xFF)) ∧
  (∃ (src : Source) (f : FieldId) (s : State), (canSet s src (0x2002 + 0x40 * f.val) 0x00 1 = true) ∧ (fieldRunReg s f ≠ 1)) ∧
  (∃ (src : Source) (f : FieldId) (slot : Nat) (s : State), (canSet s src 0x1702 (f.val + 1) slot = true) ∧ (fieldRunReg s f = 0) ∧ (activeSlot s f = 0xFF) ∧ ((slotOf (fieldOf s f) (slot % 256)).st = 2)) :=
  ⟨⟨.core 0, up, by decide +kernel⟩,
   ⟨.core 0, put [(0x2601, 1, 1), (0x2601, 2, 2)] up, by decide +kernel⟩,
   ⟨0, put [(0x2601, 1, 1), (0x2601, 2, 1)] up, by decide +kernel⟩,
   ⟨0, put [(0x2601, 2, 2), (0x2001, 0, 1)] up, by decide +kernel⟩,
   ⟨.core 0, 23, put [(0x25C1, 0, 1)] (fld 23 { frozenAt := none } up), by decide +kernel⟩,
   ⟨.core 0, 23, put [(0x25C0, 3, 0)] up, by decide +kernel⟩,
   ⟨.core 0, 23, fld 23 { cells := [(63, { win := [{}], skids := [(0, [{}])], banked := [(0, 3)] })], bus := [(0, {})] } up, by decide +kernel⟩,
   ⟨.core 0, 23, 7, fld 23 { slots := [(7, { st := 2 })] } up, by decide +kernel⟩⟩

/-- States and operands that meet the hypotheses of each clause of QueuePortAccesses. -/
theorem wit_QueuePortAccesses :
  (∃ (t : Nat) (q : QueueId) (n : CoreId) (s : State), (runs t s = true) ∧ (portServed s q n true = true) ∧ (let z := queueNow (at_ t s) q; (qFlushing z q = false) ∧ (qReady z q = true))) ∧
  (∃ (t : Nat) (q : QueueId) (n : CoreId) (s : State), (runs t s = true) ∧ (portServed s q n true = true) ∧ (let z := queueNow (at_ t s) q; (qFlushing z q = false) ∧ (qReady z q = true))) ∧
  (∃ (t : Nat) (q : QueueId) (n : CoreId) (s : State), (runs t s = true) ∧ (portServed s q n false = true)) ∧
  (∃ (t : Nat) (q : QueueId) (n : CoreId) (s : State), (runs t s = true) ∧ (portServed s q n false = true)) :=
  ⟨⟨0, 0, 0, put [(0x2801, 1, 2), (0x2800, 3, 1), (0x2800, 4, 0)] (que 0 { partBytes := 4, partData := 9 } up), by decide +kernel⟩,
   ⟨0, 0, 0, put [(0x2801, 1, 2), (0x2800, 3, 1), (0x2800, 4, 0)] (que 0 { partBytes := 12, partData := 9 } up), by decide +kernel⟩,
   ⟨0, 32, 0, put [(0x2841, 1, 2), (0x2840, 3, 1), (0x2840, 4, 0)] (que 32 { head := [{ data := 77, last := true }] } up), by decide +kernel⟩,
   ⟨0, 32, 0, put [(0x2841, 1, 2), (0x2840, 3, 1), (0x2840, 4, 0)] (que 32 { head := [{ data := 77, last := true }] } up), by decide +kernel⟩⟩

/-- States and operands that meet the hypotheses of each clause of EdgePortsAndSpill. -/
theorem wit_EdgePortsAndSpill :
  (∃ (t : Nat) (q : QueueId) (k : Word × Bool) (r : List (Word × Bool)) (s : State), (runs t s = true) ∧ (qIsInput q = true) ∧ (qState s q = 2) ∧ (capoHeld s = false) ∧ ((queueOf s q).portAt ≠ aclk (at_ t s) + 1) ∧ (endReady (at_ t s) none (edgeInEnd (at_ t s) q) = true) ∧ (edgeInTokens (at_ t s) q = k :: r)) ∧
  (∃ (t : Nat) (p : Fin 32) (h : Held) (s : State), (runs t s = true) ∧ (tabFind s.arr.edgeOut p = some h) ∧ (capoHeld s = false) ∧ (let z := queueNow (at_ t s) (32 + p); (qFlushing z (32 + p) = false) ∧ (qReady z (32 + p) = true))) ∧
  (∃ (t : Nat) (q : QueueId) (w : QWord) (r : List QWord) (s : State), (runs t s = true) ∧ ((queueOf s q).tail = w :: r) ∧ (qState s q = 2) ∧ (let x := queueOf s q; (qFlushing (at_ t s) q = false) ∧ (x.writing = false) ∧ (x.spill.length < qSpillLength s q / 16) ∧ ((x.spill ≠ [] ∨ 8 ≤ x.head.length)) ∧ (regionOn s 8 (qSpillBase s q) (qSpillLength s q) = true))) ∧
  (∃ (t : Nat) (q : QueueId) (w : QWord) (r : List QWord) (s : State), (runs t s = true) ∧ ((queueOf s q).spill = w :: r) ∧ (qState s q = 2) ∧ (let x := queueOf s q; (qFlushing (at_ t s) q = false) ∧ (x.reading = false) ∧ (x.head.length < 8) ∧ (regionOn s 8 (qSpillBase s q) (qSpillLength s q) = true))) ∧
  (∃ (a : SpillAccess) (w : QWord) (r : List QWord) (s : State), (a.write = true) ∧ (a.stale = false) ∧ ((queueOf s a.queue).tail = w :: r)) ∧
  (∃ (a : SpillAccess) (w : QWord) (r : List QWord) (s : State), (a.write = false) ∧ (a.stale = false) ∧ ((queueOf s a.queue).spill = w :: r)) :=
  ⟨⟨0, 0, (5, false), [(6, true)], put [(0x2000, 3, 0), (0x2801, 1, 2)] (que 0 { rest := [(5, false), (6, true)] } (fld 0 { frozenAt := none, slots := [(0, { st := 3, headland := [(0, 1)] })] } up)), by decide +kernel⟩,
   ⟨0, 31, { tok := { data := 5, last := true } }, put [(0x287F, 1, 2)] { up with arr := { edgeOut := [(31, { tok := { data := 5, last := true } })] } }, by decide +kernel⟩,
   ⟨0, 0, { data := 0x1234 }, [], put [(0x2801, 1, 2), (0x2801, 7, 0x20000000), (0x2801, 8, 32)] (que 0 { head := List.replicate 8 {}, tail := [{ data := 0x1234 }] } up), by decide +kernel⟩,
   ⟨0, 0, { data := 0x1234 }, [], put [(0x2801, 1, 2), (0x2801, 7, 0x20000000), (0x2801, 8, 32)] (que 0 { head := List.replicate 7 {}, spill := [{ data := 0x1234 }], tail := [{}], spillRead := 16 } up), by decide +kernel⟩,
   ⟨{ queue := 0, write := true, addr := 0x20000010, data := 0x1234 }, { data := 0x1234 }, [], put [(0x2801, 1, 2), (0x2801, 8, 32), (0x2801, 9, 1)] (que 0 { tail := [{ data := 0x1234 }], spill := [{}], writing := true } up), by decide +kernel⟩,
   ⟨{ queue := 0, write := false, addr := 0x20000010 }, { data := 0x1234 }, [], put [(0x2801, 1, 2), (0x2801, 8, 32), (0x2801, 9, 1)] (que 0 { head := List.replicate 7 {}, spill := [{ data := 0x1234 }], tail := [{}], spillRead := 16, reading := true } (poke 0x20000010 [5] up)), by decide +kernel⟩⟩

/-- States and operands that meet the hypotheses of each clause of QueueRings. -/
theorem wit_QueueRings :
  (∃ (t : Nat) (q : QueueId) (s : State), (runs t s = true) ∧ (dmaReady s q = true) ∧ (qIsInput q = true) ∧ ((queueOf s q).dmaStopped = false) ∧ (engineIndex s q ≠ hostIndex s q) ∧ (let size := ringSize s q; (let e := engineIndex s q; (let n := leNat (ringRead s (ringBase s q) size e 4); (let avail := (hostIndex s q + size - e) % size; (let len := 16 + (n + 15) / 16 * 16; ((n = 0 ∨ n % qItemBytes s q ≠ 0 ∨ avail < len)) ∧ (dmaGate (at_ t s) q e (min len avail) = .clear))))))) ∧
  (∃ (t : Nat) (q : QueueId) (s : State), (runs t s = true) ∧ (dmaReady s q = true) ∧ (qIsInput q = true) ∧ ((queueOf s q).dmaStopped = false) ∧ (engineIndex s q ≠ hostIndex s q) ∧ (let size := ringSize s q; (let e := engineIndex s q; (let n := leNat (ringRead s (ringBase s q) size e 4); (let avail := (hostIndex s q + size - e) % size; (let len := 16 + (n + 15) / 16 * 16; (let w := qItemBytes s q; (let pos := (queueOf s q).dmaPos; (let z := queueNow (at_ t s) q; (¬ (n = 0 ∨ n % w ≠ 0 ∨ avail < len)) ∧ (dmaGate (at_ t s) q e (min len avail) = .clear) ∧ (pos < n / w) ∧ (qFlushing z q = false) ∧ (qReady z q = true) ∧ ((queueOf s q).partData < 256 ^ (queueOf s q).partBytes)))))))))) ∧
  (∃ (t : Nat) (q : QueueId) (s : State), (runs t s = true) ∧ (dmaReady s q = true) ∧ (qIsInput q = true) ∧ ((queueOf s q).dmaStopped = false) ∧ (engineIndex s q ≠ hostIndex s q) ∧ (let size := ringSize s q; (let e := engineIndex s q; (let n := leNat (ringRead s (ringBase s q) size e 4); (let avail := (hostIndex s q + size - e) % size; (let len := 16 + (n + 15) / 16 * 16; (¬ (n = 0 ∨ n % qItemBytes s q ≠ 0 ∨ avail < len)) ∧ (dmaGate (at_ t s) q e (min len avail) = .clear) ∧ ((queueOf s q).dmaPos < n / qItemBytes s q) ∧ (qFlushing (queueNow (at_ t s) q) q = true))))))) ∧
  (∃ (t : Nat) (q : QueueId) (w : QWord) (s : State), (runs t s = true) ∧ (dmaReady s q = true) ∧ (qIsInput q = false) ∧ (qHead (at_ t s) q = some w) ∧ (let size := ringSize s q; (let e := engineIndex s q; (let pos := (queueOf s q).dmaPos; (let room := (hostIndex s q + size - e - 1) % size + 1; (16 + 16 * (pos + 1) + 32 ≤ room) ∧ (dmaGate (at_ t s) q e (16 + 16 * (pos + 1)) = .clear)))))) ∧
  (∃ (src : Source) (q : QueueId) (v : Nat) (s : State), (canSet s src (qc q) 0x0B v = true) ∧ (v % 2 ^ 32 % 16 = 0) ∧ (v % 2 ^ 32 < ringSize s q)) ∧
  (∃ (q : Nat) (s : State), ((queueOf s q).partData < 256 ^ (queueOf s q).partBytes)) :=
  ⟨⟨0, 0, put [(0x2801, 1, 2), (0x2800, 3, 2), (0x2800, 9, 0x20000000), (0x2800, 0xA, 64), (0x2800, 0xB, 32)] (poke 0x20000000 [0, 0, 0, 0] up), by decide +kernel⟩,
   ⟨0, 0, put [(0x2801, 1, 2), (0x2800, 3, 2), (0x2800, 9, 0x20000000), (0x2800, 0xA, 64), (0x2800, 0xB, 32)] (que 0 { partBytes := 4, partData := 9 } (poke 0x20000000 (16 :: List.replicate 15 0 ++ [1, 2, 3, 4] ++ List.replicate 11 0 ++ [7]) up)), by decide +kernel⟩,
   ⟨0, 0, put [(0x2801, 1, 2), (0x2800, 3, 2), (0x2800, 9, 0x20000000), (0x2800, 0xA, 64), (0x2800, 0xB, 32)] (que 0 { flushing := 500 } (poke 0x20000000 (16 :: List.replicate 31 0) up)), by decide +kernel⟩,
   ⟨0, 32, { data := 5, last := true }, put [(0x2841, 1, 2), (0x2840, 3, 3), (0x2840, 9, 0x20000000), (0x2840, 0xA, 64)] (que 32 { head := [{ data := 5, last := true }] } up), by decide +kernel⟩,
   ⟨.core 0, 0, 48, put [(0x2801, 1, 2), (0x2800, 3, 2), (0x2800, 9, 0x20000000), (0x2800, 0xA, 64)] (que 0 { dmaStopped := true } up), by decide +kernel⟩,
   ⟨0, up, by decide +kernel⟩⟩

/-- States and operands that meet the hypotheses of each clause of QueueFlushes. -/
theorem wit_QueueFlushes :
  (∃ (src : Source) (q : QueueId) (s : State), (canSet s src (qc q) 0x07 1 = true) ∧ (qState s q = 2) ∧ (qFlushing (start s) q = false)) ∧
  (∃ (src : Source) (q : QueueId) (s : State), (canSet s src (qc q) 0x07 2 = true) ∧ (qState s q = 2) ∧ (qFlushing (start s) q = false)) ∧
  (∃ (t : Nat) (q : QueueId) (s : State), (runs t s = true) ∧ (qState s q = 2) ∧ ((queueOf s q).flushing ≠ 0) ∧ ((queueOf s q).flushing + 3 ≤ nclk (at_ t s))) ∧
  (∃ (src : Source) (q : QueueId) (length : Bool) (v : Nat) (s : State), (canSet s src (qc q) (if length then 0x06 else 0x05) v = true) ∧ (spillRegionOk s q (if length then rd s (qc q) 0x05 else v % 2 ^ 32) (if length then v % 2 ^ 32 else rd s (qc q) 0x06) = true)) ∧
  (∃ (t : Nat) (q : QueueId) (s : State), (runs t s = true) ∧ (qState s q ≠ 0) ∧ (qFlushing (at_ t s) q = false) ∧ (qLengthPending s q = true) ∧ (qTotal (queueOf s q) = 0) ∧ (rd s (qs q) 0x09 = 0)) ∧
  (∃ (t : Nat) (q : QueueId) (s : State), (runs t s = true) ∧ (qState s q = 2) ∧ ((queueOf s q).flushing ≠ 0) ∧ ((queueOf s q).flushing + 2 ≤ nclk (at_ t s)) ∧ (rd s (qc q) 0x07 = 2)) :=
  ⟨⟨.core 0, 63, put [(0x287F, 1, 2)] up, by decide +kernel⟩,
   ⟨.core 0, 63, put [(0x287F, 1, 2)] up, by decide +kernel⟩,
   ⟨0, 0, put [(0x2801, 1, 2), (0x2800, 7, 1)] (que 0 { flushing := 497 } up), by decide +kernel⟩,
   ⟨.core 0, 0, true, 0, up, by decide +kernel⟩,
   ⟨0, 0, put [(0x2801, 1, 2), (0x2800, 5, 0x20001000), (0x2800, 6, 32)] up, by decide +kernel⟩,
   ⟨0, 0, put [(0x2801, 1, 2), (0x2800, 5, 0x20001000), (0x2800, 6, 32), (0x2800, 7, 2)] (que 0 { flushing := 498, tail := [{}] } up), by decide +kernel⟩⟩

/-- States and operands that meet the hypotheses of each clause of QueuesStartAndStop. -/
theorem wit_QueuesStartAndStop :
  (∃ (src : Source) (q : QueueId) (s : State), (canSet s src (qc q) 0x01 1 = true) ∧ (qState s q = 0) ∧ (queueChecks s q = .ok) ∧ (claimConflict s (queueHolder q) (queueClaims s q) = none)) ∧
  (∃ (src : Source) (q : QueueId) (s : State), (canSet s src (qc q) 0x01 0 = true)) ∧
  (∃ (t : Nat) (q : QueueId) (s : State), (runs t s = true) ∧ (qState s q = 1) ∧ (stamp s (qs q) 0x01 + 16000 ≤ (at_ t s).now)) ∧
  (∃ (t : Nat) (q : QueueId) (s : State), (runs t s = true) ∧ (qState s q = 3) ∧ (stamp s (qs q) 0x01 + 8000 ≤ (at_ t s).now) ∧ (rd s (qs q) 0x09 = 0)) :=
  ⟨⟨.core 0, 0, put [(0x2800, 3, 2), (0x2800, 9, 0x20000000), (0x2800, 0xA, 4096), (0x2800, 5, 0x20001000), (0x2800, 6, 4096)] up, by decide +kernel⟩,
   ⟨.core 0, 63, put [(0x287F, 1, 2)] up, by decide +kernel⟩,
   ⟨0, 0, put [(0x2801, 1, 1)] up, by decide +kernel⟩,
   ⟨0, 0, put [(0x2801, 1, 3)] up, by decide +kernel⟩⟩

/-- States and operands that meet the hypotheses of each clause of EncodersCount. -/
theorem wit_EncodersCount :
  (∃ (t : Nat) (e : EncId) (a : Bool) (b : Bool) (s : State), (runs t s = true) ∧ (let x := encoderOf s e; (x.aon = none) ∧ (s.print.pipe.all (fun i => (levelOfA e i.kind).isNone && (levelOfB e i.kind).isNone) = true) ∧ ((x.a = a ∨ x.b = b)))) ∧
  (∃ (t : Nat) (e : EncId) (z : Bool) (s : State), (runs t s = true) ∧ (s.print.pipe = []) ∧ ((encoderOf s e).z ≠ z) ∧ ((∀ k : Nat, k < 24 → rd s (tx k) 0x02 ≠ e.val + 1))) ∧
  (∃ (t : Nat) (c : Nat) (e : EncId) (a : Bool) (s : State), (s.print.pipe = [{ due := c, kind := .encA e a }]) ∧ (c ≤ aclkAt (start s) t) ∧ (encState s e = 2) ∧ (let x := encoderOf s e; (let d := quadStep (rd s (ex e) 0x02) x.a x.b a x.b * (if rd s (ex e) 0x03 = 1 then -1 else 1); (x.a ≠ a) ∧ (d ≠ 0) ∧ (posDiff (wrapInt 48 ((encPos s e : Int) + d)) (encHigh s e) ≤ 0)))) ∧
  (∃ (e : EncId) (a : Bool) (b : Bool) (s : State), (encState s e = 2) ∧ (let x := encoderOf s e; (let d := quadStep (rd s (ex e) 0x02) x.a x.b a b * (if rd s (ex e) 0x03 = 1 then -1 else 1); ((x.a = a ∨ x.b = b)) ∧ (d ≠ 0)))) ∧
  (∃ (e : EncId) (g : GenId) (pos : Nat) (s : State), (genEnabled s g = true) ∧ (genEncoder s g = e) ∧ (reached pos (boundary s g (genNext s g)) = true) ∧ ((∀ h : Nat, h < 4 → h ≠ g.val → genEncoder s h ≠ e.val))) ∧
  (∃ (e : EncId) (s : State), (encState s e = 2) ∧ ((encoderOf s e).z = false) ∧ (rd s (ex e) 0x05 = 1)) ∧
  (∃ (t : Nat) (e : EncId) (a : Bool) (b : Bool) (v : Nat) (s : State), (sysRuns s = false) ∧ (calm t s = true) ∧ (let x := encoderOf s e; (let d := quadStep x.aonMode x.a x.b a b * (if x.aonInvert = 1 then -1 else 1); (x.aon = some v) ∧ ((x.a = a ∨ x.b = b)) ∧ (d ≠ 0)))) ∧
  (∃ (t : Nat) (e : EncId) (s : State), (calm t s = true) ∧ (domOn s 41 = true) ∧ (sysRuns s = false) ∧ (encState s e = 2) ∧ ((encoderOf s e).aon = none) ∧ (s.print.pipe.all (fun i => (levelOfA e i.kind).isNone && (levelOfB e i.kind).isNone) = true)) ∧
  (∃ (t : Nat) (e : EncId) (v : Nat) (s : State), (runs t s = true) ∧ (encState s e = 2) ∧ ((encoderOf s e).aon = some v)) ∧
  (∃ (src : Source) (e : EncId) (v : Nat) (s : State), (canSet s src (ex e) 0x07 v = true) ∧ (encState s e = 0)) :=
  ⟨⟨0, 0, true, false, put [(0x3000, 4, 3)] up, by decide +kernel⟩,
   ⟨0, 3, true, up, by decide +kernel⟩,
   ⟨0, 5, 0, true, (let y := (put [(0x3000, 0x0C, 2), (0x3000, 3, 1)] up); { y with print := { y.print with pipe := [{ due := 5, kind := .encA 0 true }] } }), by decide +kernel⟩,
   ⟨0, true, false, put [(0x3000, 0x0C, 2)] up, by decide +kernel⟩,
   ⟨0, 3, 9, put [(0x3000, 0x0C, 2), (0x3013, 1, 1), (0x3013, 4, 4294967296), (0x3010, 2, 1), (0x3011, 2, 1), (0x3012, 2, 1), (0x3013, 2, 0)] up, by decide +kernel⟩,
   ⟨0, put [(0x3000, 0x0C, 2), (0x3000, 5, 1), (0x3000, 6, 77)] up, by decide +kernel⟩,
   ⟨0, 3, true, false, 7, put [(0x1500, 1, 1)] (enc 3 { aon := some 7 } up), by decide +kernel⟩,
   ⟨0, 3, put [(0x1500, 1, 1), (0x3003, 0x0C, 2), (0x3003, 6, 9)] up, by decide +kernel⟩,
   ⟨0, 3, 9, enc 3 { aon := some 9 } (put [(0x3003, 0x0C, 2), (0x3003, 6, 7)] up), by decide +kernel⟩,
   ⟨.core 0, 3, 77, up, by decide +kernel⟩⟩

/-- States and operands that meet the hypotheses of each clause of EncodersStartAndStop. -/
theorem wit_EncodersStartAndStop :
  (∃ (src : Source) (e : EncId) (s : State), (canSet s src (ex e) 0x01 1 = true) ∧ (encState s e = 0) ∧ (claimConflict s (encHolder e) (if rd s (ex e) 0x05 == 1 then [0x50 + e] else []) = none)) ∧
  (∃ (src : Source) (e : EncId) (s : State), (canSet s src (ex e) 0x01 0 = true)) ∧
  (∃ (t : Nat) (e : EncId) (s : State), (runs t s = true) ∧ (encState s e = 1) ∧ (stamp s (ex e) 0x0C + 16000 ≤ (at_ t s).now)) ∧
  (∃ (t : Nat) (e : EncId) (s : State), (runs t s = true) ∧ (encState s e = 3) ∧ (stamp s (ex e) 0x0C + 4000 ≤ (at_ t s).now)) :=
  ⟨⟨.core 0, 3, put [(0x3003, 5, 1)] up, by decide +kernel⟩,
   ⟨.core 0, 3, put [(0x3003, 1, 1), (0x3003, 0x0C, 2)] up, by decide +kernel⟩,
   ⟨0, 3, put [(0x3003, 0x0C, 1)] up, by decide +kernel⟩,
   ⟨0, 3, put [(0x3003, 0x0C, 3), (0x1580, 0x51, 0x0103)] up, by decide +kernel⟩⟩

/-- States and operands that meet the hypotheses of each clause of GeneratorsAndTriggers. -/
theorem wit_GeneratorsAndTriggers :
  (∃ (src : Source) (g : GenId) (s : State), (canSet s src (gx g) 0x01 1 = true) ∧ (genEnabled s g = false) ∧ (encState s (genEncoder s g) = 2)) ∧
  (∃ (src : Source) (g : GenId) (s : State), (canSet s src (gx g) 0x01 0 = true) ∧ ((genEnabled s g && genInUse s g) = false)) ∧
  (∃ (t : Nat) (k : TrigId) (s : State), (runs t s = true) ∧ (rd s (tx k) 0x02 = 0) ∧ (s.print.pipe.all (fun i => (levelOfTrig k i.kind).isNone) = true)) ∧
  (∃ (t : Nat) (c : Nat) (k : TrigId) (s : State), (s.print.pipe = [{ due := c, kind := .trig k true }]) ∧ (c ≤ aclkAt (start s) t) ∧ (rd s (tx k) 0x01 = 1) ∧ (rd s (tx k) 0x03 = 0) ∧ ((posDiff (encPos s (trigEncoder s k)) (encHigh s (trigEncoder s k)) < 0))) ∧
  (∃ (k : TrigId) (s : State), (rd s (tx k) 0x01 = 1)) ∧
  (∃ (src : Source) (k : TrigId) (s : State), (canSet s src (tx k) 0x01 1 = true) ∧ (rd s (tx k) 0x01 ≠ 1) ∧ (trigChecks s k = .ok) ∧ (claimConflict s (trigHolder k) (if rd s (tx k) 0x02 == 0 then [] else [0x50 + (rd s (tx k) 0x02 - 1)]) = none)) ∧
  (∃ (src : Source) (k : TrigId) (s : State), (canSet s src (tx k) 0x01 0 = true)) ∧
  (∃ (t : Nat) (id : Nat) (p : Product) (s : State), (runs t s = true) ∧ (findProduct s id = some p) ∧ (reached (encSeen (at_ t s) p.enc) p.retirePos = true)) :=
  ⟨⟨.core 0, 3, put [(0x3003, 0x0C, 2), (0x3013, 4, 4294967296), (0x3003, 8, 5)] up, by decide +kernel⟩,
   ⟨.core 0, 3, put [(0x3013, 1, 1)] up, by decide +kernel⟩,
   ⟨0, 23, put [(0x3020 + 23, 4, 7)] up, by decide +kernel⟩,
   ⟨0, 5, 23, (let y := (put [(0x3000, 0x0C, 2), (0x3020 + 23, 1, 1), (0x3000, 6, 5), (0x3000, 8, 6)] up); { y with print := { y.print with pipe := [{ due := 5, kind := .trig 23 true }] } }), by decide +kernel⟩,
   ⟨23, put [(0x3000, 0x0C, 2), (0x3020 + 23, 1, 1), (0x3000, 6, 5)] up, by decide +kernel⟩,
   ⟨.core 0, 23, put [(0x3010, 1, 1), (0x3037, 9, 0), (0x3037, 0x0A, 0xFF), (0x3037, 0x0C, 9)] up, by decide +kernel⟩,
   ⟨.core 0, 23, put [(0x3037, 1, 1)] up, by decide +kernel⟩,
   ⟨0, 7, { id := 7, lane := 0, trigger := 0, enc := 0, gen := 0, pos := 0, line := 0, due := 1, gate := 0, duePos := 5, retirePos := 9 }, put [(0x3000, 6, 9)] (prods [{ id := 7, lane := 0, trigger := 0, enc := 0, gen := 0, pos := 0, line := 0, due := 1, gate := 0, duePos := 5, retirePos := 9 }] up), by decide +kernel⟩⟩

/-- States and operands that meet the hypotheses of each clause of NozzleMapChanges. -/
theorem wit_NozzleMapChanges :
  (∃ (src : Source) (b : BarId) (v : Nat) (s : State), (canSet s src (bx b 4) 0x07 v = true) ∧ (alone s = true) ∧ (rd s (bx b 4) 0x05 ≠ 1) ∧ ((barOf s b).changes = []) ∧ (let k := bitsOf v 0 14; (let e := v % 2 ^ 64 / 2 ^ 32; (bitsOf v 14 18 = 0) ∧ (mapEntryOk e = true) ∧ (k < nozzles s b)))) ∧
  (∃ (src : Source) (b : BarId) (bytes : List Byte) (s : State), (canPut s src (bx b 4) 0x08 bytes = true) ∧ (alone s = true) ∧ (rd s (bx b 4) 0x05 ≠ 1) ∧ ((barOf s b).changes = []) ∧ (0 < nozzles s b) ∧ (bytes.length = 4 * nozzles s b) ∧ ((∀ j : Nat, j < nozzles s b → mapEntryOk (leAt bytes (4 * j) 4) = true)) ∧ (((List.range (nozzles s b)).any (fun j => leAt bytes (4 * j) 4 != mapEntry s b (activeCopy s b) j)) = true)) ∧
  (∃ (t : Nat) (b : BarId) (s : State), (runs t s = true) ∧ (rd s (bx b 4) 0x05 = 1) ∧ (0 ≤ lineDiff (genLine s (barGen s b)) (rd s (bx b 4) 0x04))) :=
  ⟨⟨.core 0, 23, 15 + 5 * 2 ^ 32, put [(bx 23 0, 3, 16)] up, by decide +kernel⟩,
   ⟨.core 0, 23, (List.replicate 16 [9, 0, 0, 0]).flatten, put [(bx 23 0, 3, 16)] up, by decide +kernel⟩,
   ⟨0, 23, put [(bx 23 0, 3, 16), (bx 23 4, 5, 1)] up, by decide +kernel⟩⟩

/-- States and operands that meet the hypotheses of each clause of FormatterAndBars. -/
theorem wit_FormatterAndBars :
  (∃ (t : Nat) (b : BarId) (q : Nat) (w : QWord) (s : State), (runs t s = true) ∧ (barQueue s b = some q) ∧ (qHead (at_ t s) q = some w) ∧ (barState s b = 2) ∧ (let x := barOf s b; (x.hold ≠ 2))) ∧
  (∃ (t : Nat) (b : BarId) (l : Launch) (r : List Launch) (s : State), (runs t s = true) ∧ ((barOf s b).launches = l :: r) ∧ (l.enterAt ≤ (at_ t s).now)) ∧
  (∃ (b : BarId) (line : Nat) (s : State), (barState s b = 2) ∧ ((barWindows s b).any (fun e => windowHas e.2 line) = true)) ∧
  (∃ (src : Source) (b : BarId) (s : State), (canSet s src (bx b 0) 0x01 1 = true) ∧ (barState s b = 0) ∧ (barChecks s b = .ok) ∧ (claimConflict s (barHolder b) [b.val] = none)) ∧
  (∃ (src : Source) (b : BarId) (s : State), (canSet s src (bx b 0) 0x01 0 = true)) ∧
  (∃ (t : Nat) (b : BarId) (s : State), (runs t s = true) ∧ (barState s b = 1) ∧ (laneInData s b = true)) ∧
  (∃ (t : Nat) (b : BarId) (s : State), (runs t s = true) ∧ (barState s b = 3) ∧ ((barOf s b).launches = []) ∧ (laneQuiet (at_ t s) b = true)) :=
  ⟨⟨0, 23, 32, { data := 77, valid := 16, last := true }, put [(0x2841, 1, 2), (0x2840, 3, 5), (0x2840, 4, 23), (bx 23 0, 4, 2), (bx 23 0, 3, 64)] (que 32 { head := [{ data := 77, valid := 16, last := true }] } up), by decide +kernel⟩,
   ⟨0, 23, { line := 5, payload := [], blank := true, enterAt := 5, owner := 0 }, [], put [(lx 23 1, 1, 3)] (bar 23 { launches := [{ line := 5, payload := [], blank := true, enterAt := 5, owner := 0 }] } up), by decide +kernel⟩,
   ⟨23, 6, put [(bx 23 0, 3, 16), (bx 23 0, 4, 2), (bx 23 0, 7, 1)] (bar 23 { hold := 1 } (prods [{ id := 7, lane := 0, trigger := 0, enc := 0, gen := 0, pos := 0, line := 0, due := 1, gate := 0, duePos := 5, retirePos := 9, windows := [{ bar := 23, start := 4, len := 3 }] }] up)), by decide +kernel⟩,
   ⟨.core 0, 23, put [(bx 23 0, 3, 16), (gx 0, 1, 1)] up, by decide +kernel⟩,
   ⟨.core 0, 23, put [(bx 23 0, 1, 1), (bx 23 0, 4, 2)] up, by decide +kernel⟩,
   ⟨0, 23, put [(bx 23 0, 4, 1), (lx 23 1, 1, 3)] up, by decide +kernel⟩,
   ⟨0, 23, put [(bx 23 0, 4, 3)] up, by decide +kernel⟩⟩

/-- States and operands that meet the hypotheses of each clause of ManagementAndHeads. -/
theorem wit_ManagementAndHeads :
  (∃ (src : Source) (unit : Fin 30) (bytes : List Byte) (s : State), (let idx := mgmtIndex unit; (let sub := if unit.val < 24 then 0x01 else 0x11; (canPut s src idx sub bytes = true) ∧ (8 ≤ bytes.length) ∧ (bytes.length ≤ 256) ∧ (1 ≤ leAt bytes 0 1) ∧ (leAt bytes 0 1 ≤ 4) ∧ (leAt bytes 1 1 ≤ 15) ∧ (rd s idx (sub + 2) ≠ 1)))) ∧
  (∃ (t : Nat) (unit : Fin 30) (hdr : Nat) (p : List Byte) (s : State), (runs t s = true) ∧ (unit.val < 24) ∧ (laneInData s unit = true) ∧ (bitsOf hdr 0 4 = 8) ∧ (bitsOf hdr 5 5 = unit.val) ∧ (bitsOf hdr 10 14 = p.length) ∧ (rd s (bx unit 5) 0x03 = 1) ∧ (bitsOf hdr 32 32 = (barOf s unit).mgmtSeq)) ∧
  (∃ (t : Nat) (unit : Fin 30) (hdr : Nat) (p : List Byte) (s : State), (runs t s = true) ∧ (24 ≤ unit.val) ∧ (laneInData s (camLane (unit - 24)) = true) ∧ (bitsOf hdr 0 4 = 8) ∧ (bitsOf hdr 8 3 = unit.val - 24) ∧ (bitsOf hdr 11 15 = p.length) ∧ (rd s (cc (unit - 24)) 0x13 = 1) ∧ (bitsOf hdr 32 32 = (camOf s (unit - 24)).mgmtSeq)) ∧
  (∃ (t : Nat) (unit : Fin 30) (s : State), (let idx := mgmtIndex unit; (let sub := if unit.val < 24 then 0x01 else 0x11; (runs t s = true) ∧ (rd s idx (sub + 2) = 1) ∧ (stamp s idx (sub + 2) + rd s idx (sub + 3) * psMs ≤ (at_ t s).now)))) ∧
  (∃ (t : Nat) (b : BarId) (hdr : Nat) (p : List Byte) (s : State), (runs t s = true) ∧ (laneInData s b = true) ∧ (bitsOf hdr 0 4 = 9) ∧ (bitsOf hdr 5 5 = b.val) ∧ (bitsOf hdr 10 14 = 32) ∧ (p.length = 32)) ∧
  (∃ (t : Nat) (b : BarId) (hdr : Nat) (p : List Byte) (s : State), (runs t s = true) ∧ (laneInData s b = true) ∧ (bitsOf hdr 0 4 = 10) ∧ (bitsOf hdr 5 5 = b.val) ∧ (bitsOf hdr 10 14 = p.length) ∧ (leAt p 0 2 ≤ 512) ∧ (p.length = 4 + 4 * leAt p 0 2)) ∧
  (∃ (t : Nat) (b : BarId) (hdr : Nat) (s : State), (runs t s = true) ∧ (laneInData s b = true) ∧ ((bitsOf hdr 0 4 < 8 ∨ 10 < bitsOf hdr 0 4))) ∧
  (∃ (t : Nat) (b : BarId) (s : State), (runs t s = true) ∧ (barState s b = 2) ∧ ((barOf s b).silentFrom + 5 * psMs ≤ (at_ t s).now)) :=
  ⟨⟨.core 0, 29, [1, 15, 0, 0, 0, 0, 0, 1], up, by decide +kernel⟩,
   ⟨0, 23, 23 * 2 ^ 5 + 4 * 2 ^ 10 + 8, [1, 2, 3, 4], put [(lx 23 1, 1, 3), (bx 23 5, 3, 1)] up, by decide +kernel⟩,
   ⟨0, 29, 5 * 2 ^ 8 + 4 * 2 ^ 11 + 8, [1, 2, 3, 4], put [(lx 34 1, 1, 3), (cc 5, 0x13, 1)] up, by decide +kernel⟩,
   ⟨0, 29, put [(cc 5, 0x13, 1), (cc 5, 0x14, 0)] up, by decide +kernel⟩,
   ⟨0, 23, 23 * 2 ^ 5 + 32 * 2 ^ 10 + 16 + 9, List.replicate 32 7, put [(lx 23 1, 1, 3)] up, by decide +kernel⟩,
   ⟨0, 23, 23 * 2 ^ 5 + 8 * 2 ^ 10 + 10, [1, 0, 0, 0, 5, 0, 0, 0], put [(lx 23 1, 1, 3), (bx 23 0, 3, 16)] up, by decide +kernel⟩,
   ⟨0, 23, 1, put [(lx 23 1, 1, 3)] up, by decide +kernel⟩,
   ⟨0, 23, put [(bx 23 0, 4, 2)] { up with now := 6 * psMs }, by decide +kernel⟩⟩

/-- States and operands that meet the hypotheses of each clause of GatesDecide. -/
theorem wit_GatesDecide :
  (∃ (t : Nat) (j : GateId) (pos : Nat) (e : Option Nat) (r : List (Nat × Option Nat)) (s : State), (runs t s = true) ∧ ((gateOf s j).entries = (pos, e) :: r) ∧ (gateEnabled s j = true) ∧ (reached (encSeen (at_ t s) (rd s (gc j) 0x02)) pos = true)) ∧
  (∃ (t : Nat) (j : GateId) (s : State), (runs t s = true) ∧ (((gateOf s j).pulses.any fun p => decide (p.start ≤ pllTime (at_ t s)) && (decide (p.endAt ≤ pllTime (at_ t s)) || (p.endPos.any fun e => reached (encSeen (at_ t s) (rd s (gc j) 0x02)) e))) = true)) ∧
  (∃ (src : Source) (j : GateId) (s : State), (canSet s src (gc j) 0x01 1 = true) ∧ (rd s (gc j) 0x02 ≤ 3) ∧ (rd s (gc j) 0x03 ≤ 1)) ∧
  (∃ (src : Source) (j : GateId) (s : State), (canSet s src (gc j) 0x01 0 = true)) ∧
  (∃ (src : Source) (j : GateId) (v : Nat) (s : State), (canSet s src (gc j) 0x06 v = true)) ∧
  (∃ (src : Source) (id : Nat) (p : Product) (s : State), (canSet s src 0x3201 0x03 id = true) ∧ (findProduct s (id % 2 ^ 32) = some p) ∧ (p.decided = false)) :=
  ⟨⟨0, 11, 5, none, [], put [(gc 11, 1, 1), (0x3000, 6, 5)] (gat 11 { entries := [(5, none)] } up), by decide +kernel⟩,
   ⟨0, 11, gat 11 { pulses := [{ start := 0, endAt := 5 }] } up, by decide +kernel⟩,
   ⟨.core 0, 11, up, by decide +kernel⟩,
   ⟨.core 0, 11, put [(gc 11, 1, 1)] up, by decide +kernel⟩,
   ⟨.core 0, 11, 1, up, by decide +kernel⟩,
   ⟨.core 0, 7, { id := 7, lane := 0, trigger := 0, enc := 0, gen := 0, pos := 0, line := 0, due := 1, gate := 0, duePos := 5, retirePos := 9, verifyStatus := 2 }, prods [{ id := 7, lane := 0, trigger := 0, enc := 0, gen := 0, pos := 0, line := 0, due := 1, gate := 0, duePos := 5, retirePos := 9, verifyStatus := 2 }] up, by decide +kernel⟩⟩

/-- States and operands that meet the hypotheses of each clause of BridgeFramesTaken. -/
theorem wit_BridgeFramesTaken :
  (∃ (t : Nat) (k : CamId) (odd : Bool) (hdr : Nat) (p : List Byte) (s : State), (let n := bitsOf hdr 32 32; (let x := camOf s k; (runs t s = true) ∧ (laneInData s (camLane k + boolNat odd) = true) ∧ (camState s k = 2) ∧ (bitsOf hdr 0 4 = 10) ∧ (bitsOf hdr 8 3 = k.val) ∧ (bitsOf hdr 11 15 = pixels s k) ∧ (bitsOf hdr 26 2 = rd s (cc k) 0x04) ∧ ((n % 2 == 1) = odd) ∧ (p.length = pixels s k * pixelBits s k / 8) ∧ (0 ≤ lineDiff n (nextLine s k)) ∧ (n ∉ x.overflowed) ∧ (n ∉ x.expired) ∧ (¬ (n = nextLine s k ∧ (x.writing = true ∨ lineGone s k = true))) ∧ (((x.replay ++ x.held).any fun e => e.1 == n) = false) ∧ (x.held.length + boolNat (x.writing && x.writingHeld) < 4)))) ∧
  (∃ (t : Nat) (k : CamId) (s : State), (runs t s = true) ∧ (camState s k = 2) ∧ (let x := camOf s k; (let n := nextLine s k; (x.writing = false) ∧ (((x.replay ++ x.held).any fun e => e.1 == n) = false) ∧ (n ∉ x.expired) ∧ ((x.strobes.any fun e => e.1 == n && decide (e.2 + rd s (cc k) 0x09 * psUs ≤ (at_ t s).now)) = true)))) ∧
  (∃ (t : Nat) (k : CamId) (hdr : Nat) (p : List Byte) (s : State), (runs t s = true) ∧ (laneInData s (camLane k) = true) ∧ (bitsOf hdr 0 4 = 9) ∧ (bitsOf hdr 8 3 = k.val) ∧ (bitsOf hdr 11 15 = 32) ∧ (p.length = 32)) ∧
  (∃ (t : Nat) (k : CamId) (s : State), (runs t s = true) ∧ (camState s k = 2) ∧ ((camOf s k).silentFrom + 5 * psMs ≤ (at_ t s).now)) :=
  ⟨⟨0, 5, true, 5 * 2 ^ 8 + 16 * 2 ^ 11 + 2 ^ 32 + 10, List.replicate 16 9, put [(lx 34 1, 1, 3), (lx 35 1, 1, 3), (cs 5, 1, 2), (cc 5, 3, 16), (cs 5, 4, 1)] up, by decide +kernel⟩,
   ⟨0, 5, put [(lx 34 1, 1, 3), (lx 35 1, 1, 3), (cs 5, 1, 2), (cc 5, 3, 16), (cs 5, 4, 1)] (cam 5 { strobes := [(1, 0)] } { up with now := psMs * 1000 }), by decide +kernel⟩,
   ⟨0, 5, 5 * 2 ^ 8 + 32 * 2 ^ 11 + 9, List.replicate 32 9, put [(lx 34 1, 1, 3), (lx 35 1, 1, 3), (cs 5, 1, 2), (cc 5, 3, 16)] up, by decide +kernel⟩,
   ⟨0, 5, put [(lx 34 1, 1, 3), (lx 35 1, 1, 3), (cs 5, 1, 2), (cc 5, 3, 16)] { up with now := 6 * psMs }, by decide +kernel⟩⟩

/-- States and operands that meet the hypotheses of each clause of CamerasStartAndStop. -/
theorem wit_CamerasStartAndStop :
  (∃ (src : Source) (k : CamId) (s : State), (canSet s src (cc k) 0x01 1 = true) ∧ (camState s k = 0) ∧ (camChecks s k = .ok) ∧ (claimConflict s (camHolder k) [camLane k, 0x28 + camLane k, 0x29 + camLane k] = none)) ∧
  (∃ (src : Source) (k : CamId) (s : State), (canSet s src (cc k) 0x01 0 = true) ∧ (alone s = true)) ∧
  (∃ (t : Nat) (k : CamId) (s : State), (runs t s = true) ∧ (camState s k = 1) ∧ (laneInData s (camLane k) = true)) ∧
  (∃ (t : Nat) (k : CamId) (s : State), (runs t s = true) ∧ (camState s k = 3) ∧ (laneQuiet (at_ t s) (camLane k) = true)) :=
  ⟨⟨.core 0, 5, put [(0x2801, 1, 2), (0x2800, 3, 4), (0x2800, 4, 5), (gx 1, 1, 1), (cc 5, 3, 16)] up, by decide +kernel⟩,
   ⟨.core 0, 5, put [(0x2801, 1, 2), (0x2800, 3, 4), (0x2800, 4, 5), (gx 1, 1, 1), (cc 5, 3, 16), (cs 5, 1, 2), (cc 5, 1, 1)] up, by decide +kernel⟩,
   ⟨0, 5, put [(0x2801, 1, 2), (0x2800, 3, 4), (0x2800, 4, 5), (gx 1, 1, 1), (cc 5, 3, 16), (cs 5, 1, 1), (lx 34 1, 1, 3)] up, by decide +kernel⟩,
   ⟨0, 5, put [(0x2801, 1, 2), (0x2800, 3, 4), (0x2800, 4, 5), (gx 1, 1, 1), (cc 5, 3, 16), (cs 5, 1, 3)] up, by decide +kernel⟩⟩

/-- States and operands that meet the hypotheses of each clause of VerdictsAndHealth. -/
theorem wit_VerdictsAndHealth :
  (∃ (src : Source) (v : Nat) (p : Product) (s : State), (canSet s src 0x3801 0x01 v = true) ∧ (alone s = true) ∧ (findProduct s (v % 2 ^ 32) = some p) ∧ (let w := v % 2 ^ 64; (let b := bitsOf w 32 8; (let g := gateOf s p.gate; (bitsOf w 56 8 = 0) ∧ ((verdictValue b = 2 ∨ verdictValue b = 3)) ∧ (verdictCause b < 6) ∧ ((p.verifyStatus = 2 ∨ p.verifyStatus = 4)) ∧ ((11 < p.gate ∨ (g.entries.head?.any fun e => gateEnabled s p.gate && reached (encSeen s (rd s (gc p.gate) 0x02)) e.1) = false)))))) ∧
  (∃ (src : Source) (v : Nat) (pos : Nat) (p : Product) (r : List (Nat × Option Nat)) (s : State), (canSet s src 0x3801 0x01 v = true) ∧ (alone s = true) ∧ (findProduct s (v % 2 ^ 32) = some p) ∧ (let w := v % 2 ^ 64; (let b := bitsOf w 32 8; (bitsOf w 56 8 = 0) ∧ ((verdictValue b = 2 ∨ verdictValue b = 3)) ∧ (verdictCause b < 6) ∧ (p.verifyStatus = 2) ∧ (p.decided = false) ∧ (p.gate ≤ 11) ∧ ((gateOf s p.gate).entries = (pos, some p.id) :: r) ∧ (gateEnabled s p.gate = true) ∧ (reached (encSeen s (rd s (gc p.gate) 0x02)) pos = true)))) ∧
  (∃ (src : Source) (v : Nat) (s : State), (canSet s src 0x3802 0x1D v = true) ∧ (alone s = true) ∧ (let w := v % 2 ^ 32; (let k := bitsOf w 0 14; (let b := bitsOf w 16 5; (bitsOf w 14 2 = 0) ∧ (bitsOf w 21 11 = 0) ∧ (b ≤ 23) ∧ (barState s b = 2) ∧ (k < nozzles s b) ∧ (bitsOf (mapEntry s b (activeCopy s b) k) 30 2 < 2) ∧ (rd s 0x3802 (5 + b) < rd s 0x3802 0x04) ∧ (rd s (bx b 4) 0x05 ≠ 1))))) ∧
  (∃ (t : Nat) (j : ArchiveJob) (r : List ArchiveJob) (s : State), (runs t s = true) ∧ (s.print.archive = j :: r) ∧ (rd s 0x3803 0x03 = 0)) ∧
  (∃ (t : Nat) (j : ArchiveJob) (r : List ArchiveJob) (s : State), (runs t s = true) ∧ (s.print.archive = j :: r) ∧ (let b := (archiveBytes { at_ t s with print := { (at_ t s).print with archive := r } } j).1; (let size := rd s 0x3803 0x03; (let e := rd s 0x3803 0x05; (size ≠ 0) ∧ (b.length + 32 ≤ (rd s 0x3803 0x04 + size - e - 1) % size + 1) ∧ (ringGate (at_ t s) 10 (rd s 0x3803 0x02) size e b.length = .clear) ∧ (regionOn s 10 (rd s 0x3803 0x02) size = true))))) :=
  ⟨⟨.core 0, 7 + 2 * 2 ^ 32, { id := 7, lane := 0, trigger := 0, enc := 0, gen := 0, pos := 0, line := 0, due := 1, gate := 0, duePos := 5, retirePos := 9, verifyStatus := 2 }, prods [{ id := 7, lane := 0, trigger := 0, enc := 0, gen := 0, pos := 0, line := 0, due := 1, gate := 0, duePos := 5, retirePos := 9, verifyStatus := 2 }] up, by decide +kernel⟩,
   ⟨.core 0, 7 + 2 * 2 ^ 32, 5, { id := 7, lane := 0, trigger := 0, enc := 0, gen := 0, pos := 0, line := 0, due := 1, gate := 11, duePos := 5, retirePos := 9, verifyStatus := 2 }, [], put [(gc 11, 1, 1), (0x3000, 6, 5)] (gat 11 { entries := [(5, some 7)] } (prods [{ id := 7, lane := 0, trigger := 0, enc := 0, gen := 0, pos := 0, line := 0, due := 1, gate := 11, duePos := 5, retirePos := 9, verifyStatus := 2 }] up)), by decide +kernel⟩,
   ⟨.core 0, 15 + 23 * 2 ^ 16, put [(bx 23 0, 4, 2), (bx 23 0, 3, 16), (0x3802, 4, 5)] (poke (mapAddr (put [(bx 23 0, 3, 16)] up) 23 0 15) [0, 0, 0, 0] up), by decide +kernel⟩,
   ⟨0, { product := 7, camera := 0, verdict := 3, firstLine := 0, lastLine := 0, pos := 0, ptp := 0, since := 0 }, [], { up with print := { archive := [{ product := 7, camera := 0, verdict := 3, firstLine := 0, lastLine := 0, pos := 0, ptp := 0, since := 0 }] } }, by decide +kernel⟩,
   ⟨0, { product := 7, camera := 0, verdict := 3, firstLine := 0, lastLine := 0, pos := 0, ptp := 0, since := 0 }, [], put [(0x3803, 2, 0x20000000), (0x3803, 3, 4096), (0x3803, 4, 4064), (0x3803, 5, 4080)] { up with print := { archive := [{ product := 7, camera := 0, verdict := 3, firstLine := 0, lastLine := 0, pos := 0, ptp := 0, since := 0 }] } }, by decide +kernel⟩⟩

/-- States and operands that meet the hypotheses of each clause of SerialsAndGrants. -/
theorem wit_SerialsAndGrants :
  (∃ (t : Nat) (a : AllotId) (s : State), (let b := tabGet [] s.serial.buffers a; (runs t s = true) ∧ (quiet s = true) ∧ (alState s a = 1) ∧ (b.length < 8) ∧ (alNext s a + b.length < alCount s a))) ∧
  (∃ (t : Nat) (w : JournalWrite) (s : State), (runs t s = true) ∧ (quiet s = true) ∧ (s.serial.running = some w) ∧ (w.grants = []) ∧ (w.checkpoint = false) ∧ (w.lost = false) ∧ (s.serial.waiting = none) ∧ (s.serial.shutdown = 0)) ∧
  (∃ (t : Nat) (ok : Bool) (w : JournalWrite) (s : State), (runs t s = true) ∧ (quiet s = true) ∧ (s.serial.running = some w) ∧ ((ok = false ∨ w.lost = true))) ∧
  (∃ (src : Source) (a : AllotId) (s : State), (canSet s src (0x4020 + 2 * a.val) 0x01 1 = true) ∧ (serialStandby s = false) ∧ ((alState s a = 1 ∨ alState s a = 2))) ∧
  (∃ (src : Source) (i : Nat) (e : SerialEntry) (s : State), (canRead s src = true) ∧ ((findProduct s (rd s 0x4004 0x01)).isSome = true) ∧ (entryOf s (rd s 0x4004 0x01) = some (i, e)) ∧ (e.state = 2)) :=
  ⟨⟨0, 31, put [(0x405F, 1, 1), (0x405F, 6, 100), (0x405F, 7, 199), (0x405F, 8, 5)] up, by decide +kernel⟩,
   ⟨0, { image := { seq := 9 }, marks := [(31, 50)] }, put [(0x405F, 1, 1), (0x405F, 6, 100), (0x405F, 7, 199), (0x405F, 8, 5), (0x4000, 9, 1)] { up with serial := { running := some { image := { seq := 9 }, marks := [(31, 50)] }, bankA := .image {}, bankB := .image { seq := 8 } } }, by decide +kernel⟩,
   ⟨0, false, { image := { seq := 9 }, marks := [(31, 50)] }, put [(0x405F, 1, 1), (0x405F, 6, 100), (0x405F, 7, 199), (0x405F, 8, 5), (0x4000, 9, 1)] { up with serial := { running := some { image := { seq := 9 }, marks := [(31, 50)] } } }, by decide +kernel⟩,
   ⟨.core 0, 31, put [(0x405F, 1, 1), (0x405F, 6, 100), (0x405F, 7, 199), (0x405F, 8, 5)] up, by decide +kernel⟩,
   ⟨.core 0, 0, { product := 7, slot := 31, n := 5, v := 105, state := 2 }, put [(0x405F, 1, 1), (0x405F, 6, 100), (0x405F, 7, 199), (0x405F, 8, 5), (0x4004, 1, 7)] (prods [{ id := 7, lane := 0, trigger := 0, enc := 0, gen := 0, pos := 0, line := 0, due := 1, gate := 0, duePos := 5, retirePos := 9, verifyStatus := 2, serialRef := 0 }] { up with serial := { entries := [(0, { product := 7, slot := 31, n := 5, v := 105, state := 2 })] } }), by decide +kernel⟩⟩

/-- States and operands that meet the hypotheses of each clause of LedgerAndCheckpoints. -/
theorem wit_LedgerAndCheckpoints :
  (∃ (t : Nat) (s : State), (runs t s = true) ∧ (quiet s = true) ∧ (serialState s = 0) ∧ (pairRole s ≠ 1) ∧ (s.serial.resume ≠ 1) ∧ (domOn s 41 = true)) ∧
  (∃ (t : Nat) (x : LedgerItem) (r : List LedgerItem) (s : State), (runs t s = true) ∧ (quiet s = true) ∧ (s.serial.unwritten = x :: r) ∧ (ledgerFree s ≠ 0) ∧ (regionOn s 9 (rd s 0x4008 0x01) (rd s 0x4008 0x02) = true) ∧ (unitGate (at_ t s) 9 (rd s 0x4008 0x01 + rd s 0x4008 0x04) 64 = .clear) ∧ (x.link = none)) ∧
  (∃ (i : Nat) (p : Product) (e : SerialEntry) (s : State), (entryOf s p.id = some (i, e)) ∧ (serialStandby s = false) ∧ ((e.state = 3 ∨ p.launched = false ∨ productRejected p = true ∨ p.printStatus = 3 ∨ p.printStatus = 4))) ∧
  (∃ (t : Nat) (s : State), (runs t s = true) ∧ (quiet s = true) ∧ (checkpointDue (at_ t s) = true)) ∧
  (∃ (t : Nat) (c : Checkpoint) (s : State), (runs t s = true) ∧ (quiet s = true) ∧ (s.serial.checkpoint = some c) ∧ (c.journalled = true) ∧ (cpFree s ≠ 0) ∧ (hashFree s s.serial.lastCheckpointAt = true) ∧ (regionOn s 9 (rd s 0x4009 0x01) (rd s 0x4009 0x02) = true) ∧ (unitGate (at_ t s) 9 (rd s 0x4009 0x01 + rd s 0x4009 0x04) 4864 = .clear)) ∧
  (∃ (src : Source) (checkpoint : Bool) (size : Bool) (v : Nat) (s : State), (let idx := if checkpoint then 0x4009 else 0x4008; (canSet s src idx (if size then 0x02 else 0x01) v = true) ∧ ((size = false → ringBaseOk (v % 2 ^ 32) = true)))) :=
  ⟨⟨0, put [(0x4000, 1, 0)] { up with serial := { bankA := .image { clean := true, seq := 5, lastSeq := 77 }, bankB := .bad } }, by decide +kernel⟩,
   ⟨0, { body := List.replicate 64 1 }, [], put [(0x4008, 1, 0x20000000), (0x4008, 2, 4096)] { up with serial := { unwritten := [{ body := List.replicate 64 1 }] } }, by decide +kernel⟩,
   ⟨0, { id := 7, lane := 0, trigger := 0, enc := 0, gen := 0, pos := 0, line := 0, due := 1, gate := 0, duePos := 5, retirePos := 9, launched := true, printStatus := 3, verdict := 3, verifyStatus := 2, serialRef := 0 }, { product := 7, slot := 31, n := 5, v := 105, state := 2, grantId := 77, stream := 9 }, { up with serial := { entries := [(0, { product := 7, slot := 31, n := 5, v := 105, state := 2, grantId := 77, stream := 9 })] } }, by decide +kernel⟩,
   ⟨0, put [(0x4008, 5, 9)] { up with serial := { wanted := true, lastSeq := 4 } }, by decide +kernel⟩,
   ⟨0, { firstSeq := 5, lastSeq := 9, number := 1, segment := 0, head := [], prevHead := [], ptp := 0, ledgered := [], journalled := true }, put [(0x4009, 1, 0x20000000), (0x4009, 2, 48640)] { up with serial := { checkpoint := some { firstSeq := 5, lastSeq := 9, number := 1, segment := 0, head := [], prevHead := [], ptp := 0, ledgered := [], journalled := true } } }, by decide +kernel⟩,
   ⟨.core 0, true, true, 19456, up, by decide +kernel⟩⟩

/-- States and operands that meet the hypotheses of each clause of PairRolesMove. -/
theorem wit_PairRolesMove :
  (∃ (src : Source) (s : State), (canSet s src 0x1300 0x01 1 = true) ∧ (pairRole s ≠ 7) ∧ (rd s 0x1500 0x01 ≠ 1) ∧ (pairEnabled s = false) ∧ (claimConflict s 0x0600 pairClaims = none)) ∧
  (∃ (src : Source) (s : State), (canSet s src 0x1300 0x01 0 = true) ∧ (pairRole s ≠ 7) ∧ (s.pair.mirror = [])) ∧
  (∃ (src : Source) (s : State), (canSet s src 0x1300 0x06 1 = true)) ∧
  (∃ (t : Nat) (s : State), (runs t s = true) ∧ (quiet s = true) ∧ (s.pair.mirror = []) ∧ (pairRole s = 1) ∧ (linkUp s = false) ∧ (stamp s 0x1301 0x04 + rd s 0x1300 0x04 * psMs ≤ (at_ t s).now) ∧ (stamp s 0x1301 0x01 + rd s 0x1300 0x04 * psMs ≤ (at_ t s).now) ∧ (rd s 0x1301 0x07 = 0) ∧ (rd s 0x1301 0x08 = 0) ∧ (claimsPrimary s = true)) ∧
  (∃ (t : Nat) (agentStopped : Bool) (s : State), (runs t s = true) ∧ (quiet s = true) ∧ (pairRole s ≠ 0) ∧ (pairRole s ≠ 7) ∧ ((agentStopped = true ∨ (rd s 0x1300 0x05 ≠ 0 ∧ s.pair.firmwareKickAt + rd s 0x1300 0x05 * psMs ≤ (at_ t s).now)))) ∧
  (∃ (t : Nat) (s : State), (runs t s = true) ∧ (quiet s = true) ∧ (s.pair.mirror = [])) ∧
  (∃ (t : Nat) (k : Nat) (s : State), (runs t s = true) ∧ (quiet s = true) ∧ (s.pair.mirror = []) ∧ (s.pair.aliveLow = some k) ∧ (k + 20 * psUs ≤ (at_ t s).now)) ∧
  (∃ (t : Nat) (s : State), (runs t s = true) ∧ (quiet s = true) ∧ (linkUp s = true) ∧ (s.pair.frameAt + 32 * psUs ≤ (at_ t s).now)) ∧
  (∃ (t : Nat) (s : State), (runs t s = true) ∧ (quiet s = true) ∧ (s.pair.mirror = []) ∧ (linkUp s = false) ∧ (stamp s 0x1301 0x04 + 200 * psUs ≤ (at_ t s).now)) ∧
  (∃ (t : Nat) (f : Ordered) (s : State), (runs t s = true) ∧ (quiet s = true) ∧ (s.pair.mirror = []) ∧ (pairRole s = 2) ∧ (f ∈ s.pair.unanswered) ∧ (f.since + 200 * psUs ≤ (at_ t s).now)) :=
  ⟨⟨.core 0, put [(lx 36 1, 1, 3), (lx 39 1, 1, 3)] up, by decide +kernel⟩,
   ⟨.core 0, put [(0x1300, 1, 1), (0x1301, 1, 2)] up, by decide +kernel⟩,
   ⟨.core 0, up, by decide +kernel⟩,
   ⟨0, put [(0x1300, 1, 1), (0x1301, 1, 1), (0x1300, 4, 0), (0x1300, 2, 1), (0x1300, 3, 0)] up, by decide +kernel⟩,
   ⟨0, true, put [(0x1301, 1, 2)] up, by decide +kernel⟩,
   ⟨0, put [(0x1301, 1, 3)] up, by decide +kernel⟩,
   ⟨0, 7, put [(0x1301, 1, 3)] { up with now := psMs, pair := { aliveLow := some 7, roleLow := some 8 } }, by decide +kernel⟩,
   ⟨0, put [(lx 36 1, 1, 3), (lx 39 1, 1, 3), (0x1301, 1, 2), (0x1301, 4, 1)] { up with now := psMs }, by decide +kernel⟩,
   ⟨0, put [(0x1301, 1, 2)] { up with now := psMs }, by decide +kernel⟩,
   ⟨0, { seq := 5, kind := 0x16, payload := [1, 0, 0, 0], since := 0 }, put [(0x1301, 1, 2)] { up with now := psMs, pair := { unanswered := [{ seq := 5, kind := 0x16, payload := [1, 0, 0, 0], since := 0 }] } }, by decide +kernel⟩⟩

/-- States and operands that meet the hypotheses of each clause of PairFramesUnordered. -/
theorem wit_PairFramesUnordered :
  (∃ (t : Nat) (s : State), (runs t s = true) ∧ (quiet s = true) ∧ ((pairRole s = 1 ∨ pairRole s = 6)) ∧ (s.pair.helloAt + psMs ≤ (at_ t s).now)) ∧
  (∃ (t : Nat) (i : PairLane) (s : State), (runs t s = true) ∧ (quiet s = true) ∧ (pairRole s ≠ 0) ∧ (plUp s i = true) ∧ (tabGet 0 s.pair.sentAt i + 7900000 ≤ (at_ t s).now)) ∧
  (∃ (t : Nat) (i : PairLane) (role : Nat) (p : List Byte) (s : State), (runs t s = true) ∧ (quiet s = true) ∧ (laneInData s (36 + i) = true) ∧ (pairRole s ≠ 0) ∧ (¬ (pairRole s = 6 ∧ partnerRole s = 4 ∧ role ≠ 4)) ∧ (p.length = 16)) ∧
  (∃ (t : Nat) (i : PairLane) (k : Nat) (s : State), (runs t s = true) ∧ (quiet s = true) ∧ (tabFind s.pair.heardAt i = some k) ∧ (k + 32 * psUs ≤ (at_ t s).now)) ∧
  (∃ (t : Nat) (i : PairLane) (p : List Byte) (s : State), (runs t s = true) ∧ (quiet s = true) ∧ (s.pair.mirror = []) ∧ (laneInData s (36 + i) = true) ∧ (pairRole s = 1) ∧ (p.length = 48)) ∧
  (∃ (t : Nat) (i : PairLane) (seq : Nat) (role : Nat) (p : List Byte) (s : State), (runs t s = true) ∧ (quiet s = true) ∧ (laneInData s (36 + i) = true) ∧ (pairRole s ≠ 0) ∧ (¬ (pairRole s = 6 ∧ partnerRole s = 4 ∧ role ≠ 4)) ∧ (p.length = 4) ∧ ((s.pair.mirror.any fun m => m.seq == seq) = false)) ∧
  (∃ (t : Nat) (i : PairLane) (p : List Byte) (s : State), (runs t s = true) ∧ (quiet s = true) ∧ (s.pair.mirror = []) ∧ (laneInData s (36 + i) = true) ∧ (pairRole s = 2) ∧ (p.length = 4)) ∧
  (∃ (t : Nat) (i : PairLane) (role : Nat) (p : List Byte) (s : State), (runs t s = true) ∧ (quiet s = true) ∧ (laneInData s (36 + i) = true) ∧ (pairRole s = 6) ∧ ((partnerRole s = 4 → role = 4)) ∧ ((resyncState s = 4 ∨ resyncState s = 5)) ∧ (9 ≤ p.length) ∧ (p.length ≤ 8192) ∧ (leAt p 0 8 + (p.length - 8) ≤ rd s 0x1302 0x05)) :=
  ⟨⟨0, put [(lx 36 1, 1, 3), (lx 39 1, 1, 3), (0x1301, 1, 6)] { up with now := psMs }, by decide +kernel⟩,
   ⟨0, 3, put [(lx 36 1, 1, 3), (lx 39 1, 1, 3), (0x1301, 1, 2)] { up with now := psMs }, by decide +kernel⟩,
   ⟨0, 3, 2, List.replicate 16 0, put [(lx 36 1, 1, 3), (lx 39 1, 1, 3), (0x1301, 1, 3)] up, by decide +kernel⟩,
   ⟨0, 3, 0, put [(lx 36 1, 1, 3), (lx 39 1, 1, 3), (0x1301, 1, 3)] { up with now := psMs, pair := { heardAt := [(3, 0)] } }, by decide +kernel⟩,
   ⟨0, 3, [9, 0, 1] ++ List.replicate 45 0, put [(lx 36 1, 1, 3), (lx 39 1, 1, 3), (0x1301, 1, 1)] up, by decide +kernel⟩,
   ⟨0, 3, 5, 3, [0, 0, 0, 0], put [(lx 36 1, 1, 3), (lx 39 1, 1, 3), (0x1301, 1, 2)] { up with pair := { unanswered := [{ seq := 5, kind := 0x16, payload := [1, 0, 0, 0], since := 0 }] } }, by decide +kernel⟩,
   ⟨0, 3, [0, 0, 0, 0], put [(lx 36 1, 1, 3), (lx 39 1, 1, 3), (0x1301, 1, 2)] { up with pair := { unanswered := [{ seq := 5, kind := 0x16, payload := [1, 0, 0, 0], since := 0 }] } }, by decide +kernel⟩,
   ⟨0, 3, 4, [8, 0, 0, 0, 0, 0, 0, 0, 9], put [(lx 36 1, 1, 3), (lx 39 1, 1, 3), (0x1301, 1, 6), (0x1302, 4, 0x20000000), (0x1302, 5, 0x100000), (0x1302, 2, 5)] up, by decide +kernel⟩⟩

/-- States and operands that meet the hypotheses of each clause of PairFramesOrdered. -/
theorem wit_PairFramesOrdered :
  (∃ (t : Nat) (i : PairLane) (seq : Nat) (role : Nat) (p : List Byte) (s : State), (runs t s = true) ∧ (quiet s = true) ∧ (laneInData s (36 + i) = true) ∧ (pairRole s ≠ 0) ∧ (¬ (pairRole s = 6 ∧ partnerRole s = 4 ∧ role ≠ 4)) ∧ (pairSizeOk 0x12 p.length = true) ∧ (seq = s.pair.rxSeq + 1) ∧ (pairRole s = 3) ∧ (leAt p 3 1 % 2 = 0) ∧ (leAt p 4 4 = 0)) ∧
  (∃ (t : Nat) (i : PairLane) (seq : Nat) (role : Nat) (p : List Byte) (x : Product) (s : State), (runs t s = true) ∧ (quiet s = true) ∧ (laneInData s (36 + i) = true) ∧ (pairRole s ≠ 0) ∧ (¬ (pairRole s = 6 ∧ partnerRole s = 4 ∧ role ≠ 4)) ∧ (pairSizeOk 0x10 p.length = true) ∧ (seq = s.pair.rxSeq + 1) ∧ (pairRole s = 3) ∧ (findProduct s (leAt p 4 4) = some x) ∧ (rd s (tx x.trigger) 0x0D = leAt p 0 1) ∧ (leAt p 8 8 = alNext s (leAt p 0 1)) ∧ (leAt p 0 1 ≤ 31)) ∧
  (∃ (t : Nat) (i : PairLane) (seq : Nat) (role : Nat) (p : List Byte) (s : State), (runs t s = true) ∧ (quiet s = true) ∧ (laneInData s (36 + i) = true) ∧ (pairRole s ≠ 0) ∧ (¬ (pairRole s = 6 ∧ partnerRole s = 4 ∧ role ≠ 4)) ∧ (pairSizeOk 0x11 p.length = true) ∧ (seq = s.pair.rxSeq + 1)) ∧
  (∃ (t : Nat) (i : PairLane) (seq : Nat) (role : Nat) (p : List Byte) (s : State), (runs t s = true) ∧ (quiet s = true) ∧ (laneInData s (36 + i) = true) ∧ (pairRole s ≠ 0) ∧ (¬ (pairRole s = 6 ∧ partnerRole s = 4 ∧ role ≠ 4)) ∧ (pairSizeOk 0x13 p.length = true) ∧ (seq = s.pair.rxSeq + 1) ∧ (pairRole s = 3)) ∧
  (∃ (t : Nat) (i : PairLane) (seq : Nat) (role : Nat) (p : List Byte) (s : State), (runs t s = true) ∧ (quiet s = true) ∧ (laneInData s (36 + i) = true) ∧ (pairRole s ≠ 0) ∧ (¬ (pairRole s = 6 ∧ partnerRole s = 4 ∧ role ≠ 4)) ∧ (pairSizeOk 0x14 p.length = true) ∧ (seq = s.pair.rxSeq + 1)) ∧
  (∃ (t : Nat) (i : PairLane) (seq : Nat) (role : Nat) (p : List Byte) (s : State), (runs t s = true) ∧ (quiet s = true) ∧ (laneInData s (36 + i) = true) ∧ (pairRole s ≠ 0) ∧ (¬ (pairRole s = 6 ∧ partnerRole s = 4 ∧ role ≠ 4)) ∧ (pairSizeOk 0x15 p.length = true) ∧ (seq = s.pair.rxSeq + 1)) ∧
  (∃ (t : Nat) (i : PairLane) (seq : Nat) (role : Nat) (p : List Byte) (s : State), (runs t s = true) ∧ (quiet s = true) ∧ (laneInData s (36 + i) = true) ∧ (pairRole s ≠ 0) ∧ (¬ (pairRole s = 6 ∧ partnerRole s = 4 ∧ role ≠ 4)) ∧ (pairSizeOk 0x16 p.length = true) ∧ (seq = s.pair.rxSeq + 1) ∧ (s.pair.mirror = [])) ∧
  (∃ (t : Nat) (i : PairLane) (seq : Nat) (role : Nat) (p : List Byte) (s : State), (runs t s = true) ∧ (quiet s = true) ∧ (laneInData s (36 + i) = true) ∧ (pairRole s ≠ 0) ∧ (¬ (pairRole s = 6 ∧ partnerRole s = 4 ∧ role ≠ 4)) ∧ (pairSizeOk 0x18 p.length = true) ∧ (seq = s.pair.rxSeq + 1)) ∧
  (∃ (t : Nat) (i : PairLane) (seq : Nat) (role : Nat) (p : List Byte) (s : State), (runs t s = true) ∧ (quiet s = true) ∧ (laneInData s (36 + i) = true) ∧ (pairRole s ≠ 0) ∧ (¬ (pairRole s = 6 ∧ partnerRole s = 4 ∧ role ≠ 4)) ∧ (pairSizeOk 0x1A p.length = true) ∧ (seq = s.pair.rxSeq + 1)) :=
  ⟨⟨0, 3, 1, 2, [5, 0x30, 0, 0, 0, 0, 0, 0, 9], put [(lx 36 1, 1, 3), (lx 39 1, 1, 3), (0x1301, 1, 3)] { up with pair := { heardAt := [(0, 0)] } }, by decide +kernel⟩,
   ⟨0, 3, 1, 2, [31, 0, 0, 0, 7, 0, 0, 0, 5, 0, 0, 0, 0, 0, 0, 0] ++ List.replicate 16 0, { id := 7, lane := 0, trigger := 0, enc := 0, gen := 0, pos := 0, line := 0, due := 1, gate := 0, duePos := 5, retirePos := 9 }, put [(lx 36 1, 1, 3), (lx 39 1, 1, 3), (0x1301, 1, 3), (0x405F, 8, 5), (tx 0, 0x0D, 31)] { (prods [{ id := 7, lane := 0, trigger := 0, enc := 0, gen := 0, pos := 0, line := 0, due := 1, gate := 0, duePos := 5, retirePos := 9 }] up) with pair := { heardAt := [(0, 0)] } }, by decide +kernel⟩,
   ⟨0, 3, 1, 2, [31] ++ List.replicate 15 0, put [(lx 36 1, 1, 3), (lx 39 1, 1, 3), (0x1301, 1, 3)] { up with pair := { heardAt := [(0, 0)] } }, by decide +kernel⟩,
   ⟨0, 3, 1, 2, [23, 1, 1, 0, 9, 0, 0, 0, 5, 0, 0, 0, 0, 0, 0, 0], put [(lx 36 1, 1, 3), (lx 39 1, 1, 3), (0x1301, 1, 3), (bx 23 0, 3, 16)] { up with pair := { heardAt := [(0, 0)] } }, by decide +kernel⟩,
   ⟨0, 3, 1, 2, [5, 0, 0, 0, 0, 0, 0, 0, 9] ++ List.replicate 335 0, put [(lx 36 1, 1, 3), (lx 39 1, 1, 3), (0x1301, 1, 3)] { up with pair := { heardAt := [(0, 0)] } }, by decide +kernel⟩,
   ⟨0, 3, 1, 2, [7, 0, 0, 0, 1] ++ List.replicate 11 0, put [(lx 36 1, 1, 3), (lx 39 1, 1, 3), (0x1301, 1, 3)] { up with pair := { heardAt := [(0, 0)] } }, by decide +kernel⟩,
   ⟨0, 3, 1, 5, [0, 0, 0, 0], put [(lx 36 1, 1, 3), (lx 39 1, 1, 3), (0x1301, 1, 2)] { up with pair := { heardAt := [(0, 0)] } }, by decide +kernel⟩,
   ⟨0, 3, 1, 4, List.replicate 320 0, put [(lx 36 1, 1, 3), (lx 39 1, 1, 3), (0x1301, 1, 6), (0x1302, 2, 3)] { up with pair := { heardAt := [(0, 0)] } }, by decide +kernel⟩,
   ⟨0, 3, 1, 3, [], put [(lx 36 1, 1, 3), (lx 39 1, 1, 3), (0x1301, 1, 4)] { up with pair := { heardAt := [(0, 0)] } }, by decide +kernel⟩⟩

/-- States and operands that meet the hypotheses of each clause of ResyncMoves. -/
theorem wit_ResyncMoves :
  (∃ (src : Source) (s : State), (canSet s src 0x1302 0x01 1 = true) ∧ (pairRole s = 5) ∧ (partnerRole s = 4)) ∧
  (∃ (t : Nat) (i : PairLane) (seq : Nat) (role : Nat) (p : List Byte) (l : Nat × Nat × Nat) (s : State), (runs t s = true) ∧ (quiet s = true) ∧ (laneInData s (36 + i) = true) ∧ (pairRole s ≠ 0) ∧ (¬ (pairRole s = 6 ∧ partnerRole s = 4 ∧ role ≠ 4)) ∧ (pairSizeOk 0x17 p.length = true) ∧ (seq = s.pair.rxSeq + 1) ∧ (pairRole s = 6) ∧ (resyncState s = 2) ∧ ((s.pair.latched.find? fun l => l.1 == leAt p 0 1 && decide (l.2.2 ≤ leAt p 16 8 + rd s 0x1302 0x08 * 1000) && decide (leAt p 16 8 ≤ l.2.2 + rd s 0x1302 0x08 * 1000)) = some l)) ∧
  (∃ (t : Nat) (e : EncId) (s : State), (runs t s = true) ∧ (quiet s = true) ∧ (pairRole s = 6) ∧ (resyncState s = 2) ∧ ((encoderOf s e).times = [])) ∧
  (∃ (t : Nat) (s : State), (runs t s = true) ∧ (quiet s = true) ∧ (pairRole s = 4)) ∧
  (∃ (t : Nat) (s : State), (runs t s = true) ∧ (quiet s = true) ∧ (pairRole s = 4) ∧ (resyncState s = 4) ∧ (s.pair.holdAt + rd s 0x1302 0x06 * psUs ≤ (at_ t s).now)) ∧
  (∃ (t : Nat) (i : PairLane) (seq : Nat) (role : Nat) (p : List Byte) (s : State), (runs t s = true) ∧ (quiet s = true) ∧ (laneInData s (36 + i) = true) ∧ (pairRole s ≠ 0) ∧ (¬ (pairRole s = 6 ∧ partnerRole s = 4 ∧ role ≠ 4)) ∧ (pairSizeOk 0x19 p.length = true) ∧ (seq = s.pair.rxSeq + 1) ∧ (pairRole s = 6) ∧ (resyncState s = 5)) ∧
  (∃ (t : Nat) (s : State), (runs t s = true) ∧ (quiet s = true) ∧ (pairRole s = 6) ∧ (resyncState s = 7) ∧ (caughtUp s = true)) ∧
  (∃ (t : Nat) (s : State), (runs t s = true) ∧ (quiet s = true) ∧ (pairRole s = 6) ∧ (s.pair.resyncAt + rd s 0x1302 0x09 * psMs ≤ (at_ t s).now)) ∧
  (∃ (t : Nat) (s : State), (runs t s = true) ∧ (quiet s = true) ∧ (pairRole s = 4) ∧ (1 ≤ resyncState s) ∧ (resyncState s ≤ 7) ∧ (s.pair.resyncAt + rd s 0x1302 0x09 * psMs ≤ (at_ t s).now)) :=
  ⟨⟨.core 0, put [(0x1301, 1, 5), (0x1301, 2, 4)] up, by decide +kernel⟩,
   ⟨0, 3, 1, 4, [3, 0, 0, 0, 0, 0, 0, 0, 60, 0, 0, 0, 0, 0, 0, 0, 9, 0, 0, 0, 0, 0, 0, 0], (3, 50, 9), put [(lx 36 1, 1, 3), (lx 39 1, 1, 3), (0x1301, 1, 6), (0x1302, 2, 2)] { up with pair := { heardAt := [(0, 0)], latched := [(3, 50, 9)] } }, by decide +kernel⟩,
   ⟨0, 3, put [(0x1301, 1, 6), (0x1302, 2, 2)] up, by decide +kernel⟩,
   ⟨0, put [(0x1301, 1, 4), (0x1302, 2, 3)] up, by decide +kernel⟩,
   ⟨0, put [(0x1301, 1, 4), (0x1302, 2, 4)] { up with now := 10 * psMs }, by decide +kernel⟩,
   ⟨0, 3, 1, 4, List.replicate 72 0, put [(lx 36 1, 1, 3), (lx 39 1, 1, 3), (0x1301, 1, 6), (0x1302, 2, 5)] { up with pair := { heardAt := [(0, 0)] } }, by decide +kernel⟩,
   ⟨0, put [(0x1301, 1, 6), (0x1302, 2, 7)] up, by decide +kernel⟩,
   ⟨0, put [(0x1301, 1, 6)] { up with now := 1000 * psMs * 60 }, by decide +kernel⟩,
   ⟨0, put [(0x1301, 1, 4), (0x1302, 2, 5)] { up with now := 1000 * psMs * 60 }, by decide +kernel⟩⟩

/-- States and operands that meet the hypotheses of each clause of CoreBaseInstructions. -/
theorem wit_CoreBaseInstructions :
  (∃ (t : Nat) (n : CoreId) (w : Nat) (len : Nat) (s : State), (let c := coreOf s n; (coreIssues s n = true ∧ calm t s = true ∧ (fetch (at_ t s) n (coreOf s n).pc).2 = .instr w len) ∧ (coreRow w = .base) ∧ ((rvOp w = 0x37 ∨ rvOp w = 0x17)) ∧ (csrWord c 0x7DE = 0))) ∧
  (∃ (t : Nat) (n : CoreId) (w : Nat) (len : Nat) (s : State), (let c := coreOf s n; (coreIssues s n = true ∧ calm t s = true ∧ (fetch (at_ t s) n (coreOf s n).pc).2 = .instr w len) ∧ (coreRow w = .base) ∧ (rvOp w = 0x13) ∧ ((rvF3 w = 1 → rvF7 w = 0)) ∧ ((rvF3 w = 5 → rvF7 w = 0 ∨ rvF7 w = 0x20)) ∧ (csrWord c 0x7DE = 0))) ∧
  (∃ (t : Nat) (n : CoreId) (w : Nat) (len : Nat) (s : State), (let c := coreOf s n; (coreIssues s n = true ∧ calm t s = true ∧ (fetch (at_ t s) n (coreOf s n).pc).2 = .instr w len) ∧ (coreRow w = .base) ∧ (rvOp w = 0x33) ∧ ((rvF7 w = 0 ∨ rvF7 w = 1)) ∧ (csrWord c 0x7DE = 0))) ∧
  (∃ (t : Nat) (n : CoreId) (w : Nat) (len : Nat) (s : State), (coreIssues s n = true ∧ calm t s = true ∧ (fetch (at_ t s) n (coreOf s n).pc).2 = .instr w len) ∧ (coreRow w = .base) ∧ (rvOp w = 0x6F)) ∧
  (∃ (t : Nat) (n : CoreId) (w : Nat) (len : Nat) (taken : Bool) (s : State), (let c := coreOf s n; (coreIssues s n = true ∧ calm t s = true ∧ (fetch (at_ t s) n (coreOf s n).pc).2 = .instr w len) ∧ (coreRow w = .base) ∧ (rvOp w = 0x63) ∧ (branchTaken (rvF3 w) (xr c (rvRs1 w)) (xr c (rvRs2 w)) = some taken) ∧ (csrWord c 0x7DE = 0))) ∧
  (∃ (t : Nat) (n : CoreId) (w : Nat) (len : Nat) (o : Nat) (s : State), (let c := coreOf s n; (coreIssues s n = true ∧ calm t s = true ∧ (fetch (at_ t s) n (coreOf s n).pc).2 = .instr w len) ∧ (coreRow w = .base) ∧ (rvOp w = 0x03) ∧ (rvF3 w = 2) ∧ (addW (xr c (rvRs1 w)) (immI w) % 4 = 0) ∧ (coreAccess n (addW (xr c (rvRs1 w)) (immI w)) = .local_ o) ∧ (c.portB = []) ∧ (csrWord c 0x7DE = 0))) ∧
  (∃ (t : Nat) (n : CoreId) (w : Nat) (len : Nat) (o : Nat) (s : State), (let c := coreOf s n; (coreIssues s n = true ∧ calm t s = true ∧ (fetch (at_ t s) n (coreOf s n).pc).2 = .instr w len) ∧ (coreRow w = .base) ∧ (rvOp w = 0x23) ∧ (rvF3 w = 2) ∧ (addW (xr c (rvRs1 w)) (immS w) % 4 = 0) ∧ (coreAccess n (addW (xr c (rvRs1 w)) (immS w)) = .local_ o) ∧ (csrWord c 0x7DE = 0))) ∧
  (∃ (t : Nat) (n : CoreId) (w : Nat) (len : Nat) (s : State), (let c := coreOf s n; (coreIssues s n = true ∧ calm t s = true ∧ (fetch (at_ t s) n (coreOf s n).pc).2 = .instr w len) ∧ (coreRow w = .base) ∧ (rvOp w = 0x73) ∧ (rvF3 w = 1) ∧ (bitsOf w 20 12 = 0x340) ∧ (csrWord c 0x7DE = 0))) ∧
  (∃ (t : Nat) (n : CoreId) (w : Nat) (len : Nat) (m : FpMode) (s : State), (let c := coreOf s n; (coreIssues s n = true ∧ calm t s = true ∧ (fetch (at_ t s) n (coreOf s n).pc).2 = .instr w len) ∧ (coreRow w = .base) ∧ ((rvOp w = 0x53 ∧ (rvF7 w = 0 ∨ rvF7 w = 4 ∨ rvF7 w = 8 ∨ rvF7 w = 12)) ∨ (rvOp w = 0x43 ∧ bitsOf w 25 2 = 0)) ∧ (fsOff c = false) ∧ (fpMode (rvF3 w) (frm c) = some m) ∧ (csrWord c 0x7DE = 0))) ∧
  (∃ (t : Nat) (n : CoreId) (w : Nat) (len : Nat) (o : Nat) (s : State), (let a := addW (xr (coreOf s n) (rvRs1 w)) (if rvOp w = 0x07 then immI w else immS w); (coreIssues s n = true ∧ calm t s = true ∧ (fetch (at_ t s) n (coreOf s n).pc).2 = .instr w len) ∧ (coreRow w = .base) ∧ ((rvOp w = 0x07 ∨ rvOp w = 0x27)) ∧ (rvF3 w = 2) ∧ (fsOff (coreOf s n) = false) ∧ (a % 4 = 0) ∧ (coreAccess n a = .local_ o) ∧ ((coreOf s n).portB = []) ∧ (csrWord (coreOf s n) 0x7DE = 0))) ∧
  (∃ (t : Nat) (n : CoreId) (w : Nat) (len : Nat) (s : State), (let c := coreOf s n; (coreIssues s n = true ∧ calm t s = true ∧ (fetch (at_ t s) n (coreOf s n).pc).2 = .instr w len) ∧ (coreRow w = .base) ∧ (rvOp w ∈ [0x07, 0x27, 0x43, 0x47, 0x4B, 0x4F, 0x53]) ∧ (fsOff c = true) ∧ (c.tc = false) ∧ (csrWord c 0x305 % 4 = 0))) ∧
  (∃ (t : Nat) (n : CoreId) (w : Nat) (len : Nat) (s : State), (let c := coreOf s n; (coreIssues s n = true ∧ calm t s = true ∧ (fetch (at_ t s) n (coreOf s n).pc).2 = .instr w len) ∧ (coreRow w = .base) ∧ ((w = 0x73 ∨ rvOp w = 0x7F)) ∧ (c.tc = false) ∧ (csrWord c 0x305 % 4 = 0))) :=
  ⟨⟨0, 7, 0x123452b7, 4, prog 7 {} [0x123452b7] up, by decide +kernel⟩,
   ⟨0, 7, 0xfff30293, 4, prog 7 { x := [(6, 9)] } [0xfff30293] up, by decide +kernel⟩,
   ⟨0, 7, 0x27302b3, 4, prog 7 { x := [(6, 9), (7, 5)] } [0x27302b3] up, by decide +kernel⟩,
   ⟨0, 7, 0x8000ef, 4, prog 7 {} [0x8000ef] up, by decide +kernel⟩,
   ⟨0, 7, 0x463, 4, true, prog 7 {} [0x463] up, by decide +kernel⟩,
   ⟨0, 7, 0x20002283, 4, 512, prog 7 {} [0x20002283] (poke (coreWindow 7 + 0x200) [1, 2, 3, 4] up), by decide +kernel⟩,
   ⟨0, 7, 0x732023, 4, 512, prog 7 { x := [(6, 0x200), (7, 5)] } [0x732023] up, by decide +kernel⟩,
   ⟨0, 7, 0x340312f3, 4, prog 7 { x := [(6, 9)], csr := [(0x340, 4)] } [0x340312f3] up, by decide +kernel⟩,
   ⟨0, 7, 0x20f1d3, 4, .rne, prog 7 { f := [(1, 0x3F800000), (2, 0x33000000)] } [0x20f1d3] up, by decide +kernel⟩,
   ⟨0, 7, 0x20002287, 4, 512, prog 7 {} [0x20002287] (poke (coreWindow 7 + 0x200) [1, 2, 3, 4] up), by decide +kernel⟩,
   ⟨0, 7, 0x20f1d3, 4, prog 7 { csr := [(0x305, 0x400), (0x300, 0x1800)] } [0x20f1d3] up, by decide +kernel⟩,
   ⟨0, 7, 0x73, 4, prog 7 { csr := [(0x305, 0x400)] } [0x73] up, by decide +kernel⟩⟩

/-- States and operands that meet the hypotheses of each clause of CoreWindowsAndLoops. -/
theorem wit_CoreWindowsAndLoops :
  (∃ (t : Nat) (n : CoreId) (w : Nat) (len : Nat) (s : State), (coreIssues s n = true ∧ calm t s = true ∧ (fetch (at_ t s) n (coreOf s n).pc).2 = .instr w len) ∧ (coreRow w = .callw) ∧ (rvRd w = 31)) ∧
  (∃ (t : Nat) (n : CoreId) (w : Nat) (len : Nat) (s : State), (let c := coreOf s n; (coreIssues s n = true ∧ calm t s = true ∧ (fetch (at_ t s) n (coreOf s n).pc).2 = .instr w len) ∧ (coreRow w = .callwr) ∧ (rvRd w = 31) ∧ (windowsUsed c < 14))) ∧
  (∃ (t : Nat) (n : CoreId) (w : Nat) (len : Nat) (s : State), (let c := coreOf s n; (coreIssues s n = true ∧ calm t s = true ∧ (fetch (at_ t s) n (coreOf s n).pc).2 = .instr w len) ∧ (coreRow w = .retw) ∧ (w = 0x100B) ∧ (windowsUsed c ≠ 1))) ∧
  (∃ (t : Nat) (n : CoreId) (w : Nat) (len : Nat) (regs : Nat) (s : State), (coreIssues s n = true ∧ calm t s = true ∧ (fetch (at_ t s) n (coreOf s n).pc).2 = .instr w len) ∧ (coreRow w = .smm) ∧ (rvRd w = 0) ∧ (bitsOf w 26 6 = 0) ∧ (bitOf ({ load := false, mask := xr (coreOf s n) (rvRs2 w), win := none, base := xr (coreOf s n) (rvRs1 w) } : Multi).mask 0 = false) ∧ (({ load := false, mask := xr (coreOf s n) (rvRs2 w), win := none, base := xr (coreOf s n) (rvRs1 w) } : Multi).base % 4 = 0) ∧ (32 ≤ regs) ∧ ((∀ k : Nat, k < 32 → bitOf ({ load := false, mask := xr (coreOf s n) (rvRs2 w), win := none, base := xr (coreOf s n) (rvRs1 w) } : Multi).mask k = true → isLocal (coreAccess n (multiAddr ({ load := false, mask := xr (coreOf s n) (rvRs2 w), win := none, base := xr (coreOf s n) (rvRs1 w) } : Multi) k)) = true)) ∧ (csrWord (coreOf s n) 0x7C2 = 0) ∧ (csrWord (coreOf s n) 0x7DE = 0)) ∧
  (∃ (t : Nat) (n : CoreId) (w : Nat) (len : Nat) (regs : Nat) (s : State), (coreIssues s n = true ∧ calm t s = true ∧ (fetch (at_ t s) n (coreOf s n).pc).2 = .instr w len) ∧ (coreRow w = .smmO) ∧ (rvRd w = 0) ∧ (bitsOf w 26 6 = 0) ∧ (clearBits ({ load := false, mask := xr (coreOf s n) (rvRs2 w), win := (some (coreOf s n).wb), base := xr (coreOf s n) (rvRs1 w) } : Multi).mask 0x00FFFF01 = 0) ∧ (({ load := false, mask := xr (coreOf s n) (rvRs2 w), win := (some (coreOf s n).wb), base := xr (coreOf s n) (rvRs1 w) } : Multi).base % 4 = 0) ∧ (32 ≤ regs) ∧ ((∀ k : Nat, k < 32 → bitOf ({ load := false, mask := xr (coreOf s n) (rvRs2 w), win := (some (coreOf s n).wb), base := xr (coreOf s n) (rvRs1 w) } : Multi).mask k = true → isLocal (coreAccess n (multiAddr ({ load := false, mask := xr (coreOf s n) (rvRs2 w), win := (some (coreOf s n).wb), base := xr (coreOf s n) (rvRs1 w) } : Multi) k)) = true)) ∧ (csrWord (coreOf s n) 0x7C2 = 0) ∧ (csrWord (coreOf s n) 0x7DE = 0)) ∧
  (∃ (t : Nat) (n : CoreId) (w : Nat) (len : Nat) (regs : Nat) (s : State), (coreIssues s n = true ∧ calm t s = true ∧ (fetch (at_ t s) n (coreOf s n).pc).2 = .instr w len) ∧ (coreRow w = .lmm) ∧ (rvRd w = 0) ∧ (bitsOf w 26 6 = 0) ∧ (bitOf ({ load := true, mask := xr (coreOf s n) (rvRs2 w), win := none, base := xr (coreOf s n) (rvRs1 w) } : Multi).mask 0 = false) ∧ ((∀ r : Nat, r < 32 → (r = rvRs1 w ∨ r = rvRs2 w) → ¬ (r ≠ 0 ∧ bitOf ({ load := true, mask := xr (coreOf s n) (rvRs2 w), win := none, base := xr (coreOf s n) (rvRs1 w) } : Multi).mask r = true))) ∧ (({ load := true, mask := xr (coreOf s n) (rvRs2 w), win := none, base := xr (coreOf s n) (rvRs1 w) } : Multi).base % 4 = 0) ∧ (32 ≤ regs) ∧ ((∀ k : Nat, k < 32 → bitOf ({ load := true, mask := xr (coreOf s n) (rvRs2 w), win := none, base := xr (coreOf s n) (rvRs1 w) } : Multi).mask k = true → isLocal (coreAccess n (multiAddr ({ load := true, mask := xr (coreOf s n) (rvRs2 w), win := none, base := xr (coreOf s n) (rvRs1 w) } : Multi) k)) = true)) ∧ (csrWord (coreOf s n) 0x7C2 = 0) ∧ (csrWord (coreOf s n) 0x7DE = 0)) ∧
  (∃ (t : Nat) (n : CoreId) (w : Nat) (len : Nat) (regs : Nat) (s : State), (coreIssues s n = true ∧ calm t s = true ∧ (fetch (at_ t s) n (coreOf s n).pc).2 = .instr w len) ∧ (coreRow w = .lmmO) ∧ (rvRd w = 0) ∧ (bitsOf w 26 6 = 0) ∧ (clearBits ({ load := true, mask := xr (coreOf s n) (rvRs2 w), win := (some (coreOf s n).wb), base := xr (coreOf s n) (rvRs1 w) } : Multi).mask 0x00FFFF01 = 0) ∧ ((∀ r : Nat, r < 32 → (r = rvRs1 w ∨ r = rvRs2 w) → ¬ (r ≠ 0 ∧ bitOf ({ load := true, mask := xr (coreOf s n) (rvRs2 w), win := (some (coreOf s n).wb), base := xr (coreOf s n) (rvRs1 w) } : Multi).mask r = true ∧ (coreOf s n).wb = (coreOf s n).cwp))) ∧ (({ load := true, mask := xr (coreOf s n) (rvRs2 w), win := (some (coreOf s n).wb), base := xr (coreOf s n) (rvRs1 w) } : Multi).base % 4 = 0) ∧ (32 ≤ regs) ∧ ((∀ k : Nat, k < 32 → bitOf ({ load := true, mask := xr (coreOf s n) (rvRs2 w), win := (some (coreOf s n).wb), base := xr (coreOf s n) (rvRs1 w) } : Multi).mask k = true → isLocal (coreAccess n (multiAddr ({ load := true, mask := xr (coreOf s n) (rvRs2 w), win := (some (coreOf s n).wb), base := xr (coreOf s n) (rvRs1 w) } : Multi) k)) = true)) ∧ (csrWord (coreOf s n) 0x7C2 = 0) ∧ (csrWord (coreOf s n) 0x7DE = 0)) ∧
  (∃ (t : Nat) (n : CoreId) (w : Nat) (len : Nat) (s : State), (coreIssues s n = true ∧ calm t s = true ∧ (fetch (at_ t s) n (coreOf s n).pc).2 = .instr w len) ∧ (coreRow w = .spillw) ∧ (w = 0x400B) ∧ ((coreOf s n).tc = true) ∧ ((coreOf s n).wb ≠ ((coreOf s n).tw + 15) % 16) ∧ (({ load := false, mask := 0x00FFFF01, win := some (coreOf s n).wb, base := csrWord (coreOf s n) 0x7C1, frame := 1 } : Multi).base % 4 = 0) ∧ ((∀ k : Nat, k < 32 → bitOf ({ load := false, mask := 0x00FFFF01, win := some (coreOf s n).wb, base := csrWord (coreOf s n) 0x7C1, frame := 1 } : Multi).mask k = true → isLocal (coreAccess n (multiAddr ({ load := false, mask := 0x00FFFF01, win := some (coreOf s n).wb, base := csrWord (coreOf s n) 0x7C1, frame := 1 } : Multi) k)) = true)) ∧ (csrWord (coreOf s n) 0x7DE = 0)) ∧
  (∃ (t : Nat) (n : CoreId) (w : Nat) (len : Nat) (s : State), (coreIssues s n = true ∧ calm t s = true ∧ (fetch (at_ t s) n (coreOf s n).pc).2 = .instr w len) ∧ (coreRow w = .fillw) ∧ (w = 0x0200400B) ∧ ((coreOf s n).tc = true) ∧ ((coreOf s n).sd ≠ 0) ∧ (windowsUsed (coreOf s n) < 15) ∧ (({ load := true, mask := 0x00FFFF01, win := some (((coreOf s n).wb + 15) % 16), base := addW (csrWord (coreOf s n) 0x7C1) (2 ^ 32 - 68), frame := 2 } : Multi).base % 4 = 0) ∧ ((∀ k : Nat, k < 32 → bitOf ({ load := true, mask := 0x00FFFF01, win := some (((coreOf s n).wb + 15) % 16), base := addW (csrWord (coreOf s n) 0x7C1) (2 ^ 32 - 68), frame := 2 } : Multi).mask k = true → isLocal (coreAccess n (multiAddr ({ load := true, mask := 0x00FFFF01, win := some (((coreOf s n).wb + 15) % 16), base := addW (csrWord (coreOf s n) 0x7C1) (2 ^ 32 - 68), frame := 2 } : Multi) k)) = true)) ∧ (csrWord (coreOf s n) 0x7DE = 0)) ∧
  (∃ (t : Nat) (n : CoreId) (w : Nat) (len : Nat) (v : Nat) (l : Nat) (s : State), (let c := coreOf s n; (coreIssues s n = true ∧ calm t s = true ∧ (fetch (at_ t s) n (coreOf s n).pc).2 = .instr w len) ∧ (coreRow w = .rep) ∧ (rvRd w = 0) ∧ (rvRs1 w = 0) ∧ (c.stale = []) ∧ ((fetch (at_ t s) n (addW c.pc 4)).2 = .instr v l) ∧ (repeatable v = true) ∧ (csrWord c 0x7DE = 0))) ∧
  (∃ (t : Nat) (n : CoreId) (w : Nat) (len : Nat) (v : Nat) (l : Nat) (s : State), (let c := coreOf s n; (coreIssues s n = true ∧ calm t s = true ∧ (fetch (at_ t s) n (coreOf s n).pc).2 = .instr w len) ∧ (coreRow w = .repr) ∧ (rvRd w = 0) ∧ (bitsOf w 20 12 = 0) ∧ (xr c (rvRs1 w) ≤ 4096) ∧ (c.stale = []) ∧ ((fetch (at_ t s) n (addW c.pc 4)).2 = .instr v l) ∧ (repeatable v = true) ∧ (csrWord c 0x7DE = 0))) ∧
  (∃ (t : Nat) (n : CoreId) (w : Nat) (len : Nat) (s : State), (let d := csrWord (coreOf s n) 0x7DE; (coreIssues s n = true ∧ calm t s = true ∧ (fetch (at_ t s) n (coreOf s n).pc).2 = .instr w len) ∧ (coreRow w = .loop) ∧ (rvRd w = 0) ∧ (2 ≤ bitsOf w 20 12) ∧ (d < 2) ∧ (xr (coreOf s n) (rvRs1 w) ≠ 0) ∧ ((coreOf s n).pc < 2 ^ 32))) ∧
  (∃ (t : Nat) (n : CoreId) (w : Nat) (len : Nat) (s : State), (let d := csrWord (coreOf s n) 0x7DE; (coreIssues s n = true ∧ calm t s = true ∧ (fetch (at_ t s) n (coreOf s n).pc).2 = .instr w len) ∧ (coreRow w = .base) ∧ ((rvOp w = 0x37 ∨ rvOp w = 0x17)) ∧ (1 ≤ d) ∧ (d ≤ 2))) :=
  ⟨⟨0, 7, 0x800ffb, 4, prog 7 {} [0x800ffb] up, by decide +kernel⟩,
   ⟨0, 7, 0x830f8b, 4, prog 7 { x := [(6, 0x300)] } [0x830f8b] up, by decide +kernel⟩,
   ⟨0, 7, 0x100b, 4, prog 7 { cwp := 3, wb := 1, link := [(3, 0x555)] } [0x100b] up, by decide +kernel⟩,
   ⟨0, 7, 0x73200b, 4, 32, prog 7 { x := [(6, 0x200), (7, 0x10200)], ins := [(1, 77)], locals := [(0, 78)] } [0x73200b] up, by decide +kernel⟩,
   ⟨0, 7, 0x273200b, 4, 32, prog 7 { x := [(6, 0x200), (7, 0x10200)], ins := [(9, 77)], locals := [(8, 78)], wb := 1, cwp := 2 } [0x273200b] up, by decide +kernel⟩,
   ⟨0, 7, 0x73300b, 4, 32, prog 7 { x := [(6, 0x200), (7, 0x10200)], ins := [(1, 77)], locals := [(0, 78)] } [0x73300b] (poke (coreWindow 7 + 0x200) [9, 0, 0, 0, 8, 0, 0, 0] up), by decide +kernel⟩,
   ⟨0, 7, 0x273300b, 4, 32, prog 7 { x := [(6, 0x200), (7, 0x10200)], ins := [(9, 77)], locals := [(8, 78)], wb := 1, cwp := 2 } [0x273300b] (poke (coreWindow 7 + 0x200) [9, 0, 0, 0, 8, 0, 0, 0] up), by decide +kernel⟩,
   ⟨0, 7, 0x400b, 4, prog 7 { tc := true, wb := 1, tw := 5, cwp := 5, link := [(1, 33)], ins := [(8, 77)], csr := [(0x7C1, 0x400)] } [0x400b] up, by decide +kernel⟩,
   ⟨0, 7, 0x200400b, 4, prog 7 { tc := true, wb := 1, tw := 5, cwp := 5, sd := 3, csr := [(0x7C1, 0x444)] } [0x200400b] (poke (coreWindow 7 + 0x400) ([33, 0, 0, 0, 77, 0, 0, 0] ++ List.replicate 60 0) up), by decide +kernel⟩,
   ⟨0, 7, 0x30500b, 4, 0x2b, 4, prog 7 {} [0x30500b, 0x2b] up, by decide +kernel⟩,
   ⟨0, 7, 0x3600b, 4, 0x2b, 4, prog 7 { x := [(6, 4)] } [0x3600b, 0x2b] up, by decide +kernel⟩,
   ⟨0, 7, 0x83700b, 4, prog 7 { x := [(6, 4)] } [0x83700b] up, by decide +kernel⟩,
   ⟨0, 7, 0x123452b7, 4, prog 7 { csr := [(0x7DE, 2), (0x7D8, 5), (0x7D9, 0x80), (0x7DA, 0x100), (0x7DB, 1), (0x7DD, 0x100)] } [0x123452b7] up, by decide +kernel⟩⟩

/-- States and operands that meet the hypotheses of each clause of CoreSignalInstructions. -/
theorem wit_CoreSignalInstructions :
  (∃ (t : Nat) (n : CoreId) (w : Nat) (len : Nat) (px : Nat) (py : Nat) (k : Nat) (s : State), (let c := coreOf s n; (coreIssues s n = true ∧ calm t s = true ∧ (fetch (at_ t s) n (coreOf s n).pc).2 = .instr w len) ∧ (coreRow w = .fmac) ∧ (fmacOk w = true) ∧ (fsOff c = false) ∧ (c.portB = []) ∧ (((c.rep = none ∧ k = 0) ∨ c.rep = some (1, k))) ∧ (csrWord c 0x7DE = 0) ∧ (postModify c 0 (bitsOf w 26 2) (bitsOf w 22 2) = some px) ∧ (postModify c 1 (bitsOf w 24 2) (bitsOf w 20 2) = some py))) ∧
  (∃ (t : Nat) (n : CoreId) (w : Nat) (len : Nat) (px : Nat) (py : Nat) (k : Nat) (s : State), (let c := coreOf s n; (coreIssues s n = true ∧ calm t s = true ∧ (fetch (at_ t s) n (coreOf s n).pc).2 = .instr w len) ∧ (coreRow w = .fmsc) ∧ (fmacOk w = true) ∧ (fsOff c = false) ∧ (c.portB = []) ∧ (((c.rep = none ∧ k = 0) ∨ c.rep = some (1, k))) ∧ (csrWord c 0x7DE = 0) ∧ (postModify c 0 (bitsOf w 26 2) (bitsOf w 22 2) = some px) ∧ (postModify c 1 (bitsOf w 24 2) (bitsOf w 20 2) = some py))) ∧
  (∃ (t : Nat) (n : CoreId) (w : Nat) (len : Nat) (px : Nat) (py : Nat) (k : Nat) (s : State), (let c := coreOf s n; (coreIssues s n = true ∧ calm t s = true ∧ (fetch (at_ t s) n (coreOf s n).pc).2 = .instr w len) ∧ (coreRow w = .fmula) ∧ (fmacOk w = true) ∧ (fsOff c = false) ∧ (c.portB = []) ∧ (((c.rep = none ∧ k = 0) ∨ c.rep = some (1, k))) ∧ (csrWord c 0x7DE = 0) ∧ (postModify c 0 (bitsOf w 26 2) (bitsOf w 22 2) = some px) ∧ (postModify c 1 (bitsOf w 24 2) (bitsOf w 20 2) = some py))) ∧
  (∃ (t : Nat) (n : CoreId) (w : Nat) (len : Nat) (px : Nat) (k : Nat) (s : State), (let c := coreOf s n; (coreIssues s n = true ∧ calm t s = true ∧ (fetch (at_ t s) n (coreOf s n).pc).2 = .instr w len) ∧ (coreRow w = .fmacf) ∧ (fmacOk w = true) ∧ (fsOff c = false) ∧ (c.portB = []) ∧ (((c.rep = none ∧ k = 0) ∨ c.rep = some (1, k))) ∧ (csrWord c 0x7DE = 0) ∧ (postModify c 0 (bitsOf w 26 2) (bitsOf w 22 2) = some px))) ∧
  (∃ (t : Nat) (n : CoreId) (w : Nat) (len : Nat) (px : Nat) (k : Nat) (s : State), (let c := coreOf s n; (coreIssues s n = true ∧ calm t s = true ∧ (fetch (at_ t s) n (coreOf s n).pc).2 = .instr w len) ∧ (coreRow w = .fmscf) ∧ (fmacOk w = true) ∧ (fsOff c = false) ∧ (c.portB = []) ∧ (((c.rep = none ∧ k = 0) ∨ c.rep = some (1, k))) ∧ (csrWord c 0x7DE = 0) ∧ (postModify c 0 (bitsOf w 26 2) (bitsOf w 22 2) = some px))) ∧
  (∃ (t : Nat) (n : CoreId) (w : Nat) (len : Nat) (p : Nat) (s : State), (let c := coreOf s n; (coreIssues s n = true ∧ calm t s = true ∧ (fetch (at_ t s) n (coreOf s n).pc).2 = .instr w len) ∧ (coreRow w = .xld) ∧ (moveOk w = true) ∧ (fsOff c = false) ∧ (c.portB = []) ∧ (c.rep = none) ∧ (csrWord c 0x7DE = 0) ∧ (postModify c 0 (bitsOf w 25 2) (bitsOf w 23 2) = some p))) ∧
  (∃ (t : Nat) (n : CoreId) (w : Nat) (len : Nat) (p : Nat) (s : State), (let c := coreOf s n; (coreIssues s n = true ∧ calm t s = true ∧ (fetch (at_ t s) n (coreOf s n).pc).2 = .instr w len) ∧ (coreRow w = .yld) ∧ (moveOk w = true) ∧ (fsOff c = false) ∧ (c.portB = []) ∧ (c.rep = none) ∧ (csrWord c 0x7DE = 0) ∧ (postModify c 1 (bitsOf w 25 2) (bitsOf w 23 2) = some p))) ∧
  (∃ (t : Nat) (n : CoreId) (w : Nat) (len : Nat) (p : Nat) (s : State), (let c := coreOf s n; (coreIssues s n = true ∧ calm t s = true ∧ (fetch (at_ t s) n (coreOf s n).pc).2 = .instr w len) ∧ (coreRow w = .xst) ∧ (moveOk w = true) ∧ (fsOff c = false) ∧ (c.portB = []) ∧ (c.rep = none) ∧ (csrWord c 0x7DE = 0) ∧ (postModify c 0 (bitsOf w 25 2) (bitsOf w 23 2) = some p))) ∧
  (∃ (t : Nat) (n : CoreId) (w : Nat) (len : Nat) (p : Nat) (s : State), (let c := coreOf s n; (coreIssues s n = true ∧ calm t s = true ∧ (fetch (at_ t s) n (coreOf s n).pc).2 = .instr w len) ∧ (coreRow w = .yst) ∧ (moveOk w = true) ∧ (fsOff c = false) ∧ (c.portB = []) ∧ (c.rep = none) ∧ (csrWord c 0x7DE = 0) ∧ (postModify c 1 (bitsOf w 25 2) (bitsOf w 23 2) = some p))) ∧
  (∃ (t : Nat) (n : CoreId) (w : Nat) (len : Nat) (s : State), (let c := coreOf s n; (coreIssues s n = true ∧ calm t s = true ∧ (fetch (at_ t s) n (coreOf s n).pc).2 = .instr w len) ∧ (coreRow w = .fmvaf) ∧ (moveOk w = true) ∧ (fsOff c = false) ∧ (csrWord c 0x7DE = 0))) ∧
  (∃ (t : Nat) (n : CoreId) (w : Nat) (len : Nat) (s : State), (let c := coreOf s n; (coreIssues s n = true ∧ calm t s = true ∧ (fetch (at_ t s) n (coreOf s n).pc).2 = .instr w len) ∧ (coreRow w = .fmvfa) ∧ (moveOk w = true) ∧ (fsOff c = false) ∧ (csrWord c 0x7DE = 0))) ∧
  (∃ (t : Nat) (n : CoreId) (w : Nat) (len : Nat) (s : State), (let c := coreOf s n; (coreIssues s n = true ∧ calm t s = true ∧ (fetch (at_ t s) n (coreOf s n).pc).2 = .instr w len) ∧ (coreRow w = .accz) ∧ (moveOk w = true) ∧ (csrWord c 0x7DE = 0))) ∧
  (∃ (t : Nat) (n : CoreId) (w : Nat) (len : Nat) (s : State), (let c := coreOf s n; (coreIssues s n = true ∧ calm t s = true ∧ (fetch (at_ t s) n (coreOf s n).pc).2 = .instr w len) ∧ (coreRow w = .accsum) ∧ (moveOk w = true) ∧ (fsOff c = false) ∧ (csrWord c 0x7DE = 0))) ∧
  (∃ (t : Nat) (n : CoreId) (i : Nat) (v : Nat) (k : Nat) (s : State), (runs t s = true) ∧ ((coreOf s n).accWrites = [(i, v, k)]) ∧ (k ≤ nclk (at_ t s))) ∧
  (∃ (t : Nat) (n : CoreId) (w : Nat) (len : Nat) (left : Nat) (k : Nat) (e : CoreRow × Instr) (s : State), (let c := coreOf s n; (e ∈ [(CoreRow.fmac, Instr.fmac t n), (.fmsc, .fmsc t n), (.fmula, .fmula t n), (.fmacf, .fmacf t n), (.fmscf, .fmscf t n)]) ∧ (coreIssues s n = true ∧ calm t s = true ∧ (fetch (at_ t s) n (coreOf s n).pc).2 = .instr w len) ∧ (coreRow w = e.1) ∧ (fmacOk w = true) ∧ (fsOff c = false) ∧ (c.rep = some (left, k)) ∧ (1 ≤ left) ∧ (bitsOf w 22 2 = 2) ∧ ((rvF3 w < 3 → bitsOf w 20 2 = 0)) ∧ (dspLen c 0 (bitsOf w 26 2) = 0) ∧ (csrWord c 0x7DE = 0))) :=
  ⟨⟨0, 7, 0x20a0002b, 4, 20, 36, 0, prog 7 { csr := [(0x7C8, 0x10), (0x7CC, 0x20)], acc := [(1, 0x3F800000)], f := [(5, 0x40000000)] } [0x20a0002b] (poke (coreWindow 7 + 0x100010) [0, 0, 128, 63] (poke (coreWindow 7 + 0x110020) [0, 0, 0, 64] up)), by decide +kernel⟩,
   ⟨0, 7, 0x20a0102b, 4, 20, 36, 0, prog 7 { csr := [(0x7C8, 0x10), (0x7CC, 0x20)], acc := [(1, 0x3F800000)], f := [(5, 0x40000000)] } [0x20a0102b] (poke (coreWindow 7 + 0x100010) [0, 0, 128, 63] (poke (coreWindow 7 + 0x110020) [0, 0, 0, 64] up)), by decide +kernel⟩,
   ⟨0, 7, 0x20a0202b, 4, 20, 36, 0, prog 7 { csr := [(0x7C8, 0x10), (0x7CC, 0x20)], acc := [(1, 0x3F800000)], f := [(5, 0x40000000)] } [0x20a0202b] (poke (coreWindow 7 + 0x100010) [0, 0, 128, 63] (poke (coreWindow 7 + 0x110020) [0, 0, 0, 64] up)), by decide +kernel⟩,
   ⟨0, 7, 0x3082b02b, 4, 20, 2, prog 7 { csr := [(0x7C8, 0x10), (0x7CC, 0x20)], acc := [(1, 0x3F800000)], f := [(5, 0x40000000)] , rep := some (1, 2) } [0x3082b02b] (poke (coreWindow 7 + 0x100010) [0, 0, 128, 63] (poke (coreWindow 7 + 0x110020) [0, 0, 0, 64] up)), by decide +kernel⟩,
   ⟨0, 7, 0x3082c02b, 4, 20, 2, prog 7 { csr := [(0x7C8, 0x10), (0x7CC, 0x20)], acc := [(1, 0x3F800000)], f := [(5, 0x40000000)] , rep := some (1, 2) } [0x3082c02b] (poke (coreWindow 7 + 0x100010) [0, 0, 128, 63] (poke (coreWindow 7 + 0x110020) [0, 0, 0, 64] up)), by decide +kernel⟩,
   ⟨0, 7, 0x10002db, 4, 20, prog 7 { csr := [(0x7C8, 0x10), (0x7CC, 0x20)], acc := [(1, 0x3F800000)], f := [(5, 0x40000000)] } [0x10002db] (poke (coreWindow 7 + 0x100010) [0, 0, 128, 63] (poke (coreWindow 7 + 0x110020) [0, 0, 0, 64] up)), by decide +kernel⟩,
   ⟨0, 7, 0x10012db, 4, 36, prog 7 { csr := [(0x7C8, 0x10), (0x7CC, 0x20)], acc := [(1, 0x3F800000)], f := [(5, 0x40000000)] } [0x10012db] (poke (coreWindow 7 + 0x100010) [0, 0, 128, 63] (poke (coreWindow 7 + 0x110020) [0, 0, 0, 64] up)), by decide +kernel⟩,
   ⟨0, 7, 0x102a05b, 4, 20, prog 7 { csr := [(0x7C8, 0x10), (0x7CC, 0x20)], acc := [(1, 0x3F800000)], f := [(5, 0x40000000)] } [0x102a05b] (poke (coreWindow 7 + 0x100010) [0, 0, 128, 63] (poke (coreWindow 7 + 0x110020) [0, 0, 0, 64] up)), by decide +kernel⟩,
   ⟨0, 7, 0x102b05b, 4, 36, prog 7 { csr := [(0x7C8, 0x10), (0x7CC, 0x20)], acc := [(1, 0x3F800000)], f := [(5, 0x40000000)] } [0x102b05b] (poke (coreWindow 7 + 0x100010) [0, 0, 128, 63] (poke (coreWindow 7 + 0x110020) [0, 0, 0, 64] up)), by decide +kernel⟩,
   ⟨0, 7, 0x200435b, 4, prog 7 { csr := [(0x7C8, 0x10), (0x7CC, 0x20)], acc := [(1, 0x3F800000)], f := [(5, 0x40000000)] } [0x200435b] up, by decide +kernel⟩,
   ⟨0, 7, 0x202d05b, 4, prog 7 { csr := [(0x7C8, 0x10), (0x7CC, 0x20)], acc := [(1, 0x3F800000)], f := [(5, 0x40000000)] } [0x202d05b] up, by decide +kernel⟩,
   ⟨0, 7, 0x5000605b, 4, prog 7 { csr := [(0x7C8, 0x10), (0x7CC, 0x20)], acc := [(1, 0x3F800000)], f := [(5, 0x40000000)] } [0x5000605b] up, by decide +kernel⟩,
   ⟨0, 7, 0x735b, 4, prog 7 { csr := [(0x7C8, 0x10), (0x7CC, 0x20)], acc := [(1, 0x3F800000)], f := [(5, 0x40000000)] } [0x735b] up, by decide +kernel⟩,
   ⟨0, 7, 3, 77, 9, cor 7 { accWrites := [(3, 77, 9)] } up, by decide +kernel⟩,
   ⟨0, 7, 0x1080002b, 4, 5, 0, (.fmac, .fmac 0 7), prog 7 { csr := [(0x7C8, 0x10), (0x7CC, 0x20)], acc := [(1, 0x3F800000)], f := [(5, 0x40000000)] , rep := some (5, 0) } [0x1080002b] (poke (coreWindow 7 + 0x100010) [0, 0, 128, 63] (poke (coreWindow 7 + 0x110020) [0, 0, 0, 64] up)), by decide +kernel⟩⟩

/-- States and operands that meet the hypotheses of each clause of CoresRunAndTrap. -/
theorem wit_CoresRunAndTrap :
  (∃ (t : Nat) (n : CoreId) (len : Nat) (s : State), (let c := coreOf s n; (coreIssues s n = true ∧ calm t s = true ∧ (fetch (at_ t s) n (coreOf s n).pc).2 = .instr 0x30200073 len) ∧ (c.tc = true) ∧ (c.cwp = c.tw))) ∧
  (∃ (t : Nat) (n : CoreId) (s : State), (let p := mip (at_ t s) n &&& csrWord (coreOf s n) 0x304; (runs t s = true) ∧ (coreState s n = 2) ∧ (bitOf (csrWord (coreOf s n) 0x300) 3 = true) ∧ ((coreOf s n).tc = false) ∧ ((coreOf s n).rep = none) ∧ ((coreOf s n).wait = none) ∧ (p ≠ 0))) ∧
  (∃ (t : Nat) (r : Nat) (n : CoreId) (c : Instr) (s : State), (runs t s = true) ∧ ((interruptsAt s n ≠ 0 ∨ ((coreOf s n).haltLatched = true ∧ (coreOf s n).rep = none))) ∧ (c ∈ [Instr.baseInstruction t n, .callw t n, .callwr t n, .retw t n, .smm t n r, .smmO t n r, .lmm t n r, .lmmO t n r, .spillw t n, .fillw t n, .rep t n, .repr t n, .loop t n, .fmac t n, .fmsc t n, .fmula t n, .fmacf t n, .fmscf t n, .xld t n, .yld t n, .xst t n, .yst t n, .fmvaf t n, .fmvfa t n, .accz t n, .accsum t n, .mret t n])) ∧
  (∃ (src : Source) (n : CoreId) (s : State), (canSet s src (cP n) 0x01 1 = true) ∧ ((coreState s n = 1 ∨ coreState s n = 3))) ∧
  (∃ (src : Source) (n : CoreId) (s : State), (canSet s src (cP n) 0x01 0 = true)) ∧
  (∃ (t : Nat) (n : CoreId) (s : State), (runs t s = true) ∧ (coreState s n = 2) ∧ ((coreOf s n).haltLatched = true) ∧ ((coreOf s n).rep = none) ∧ ((coreOf s n).wait = none)) ∧
  (∃ (src : Source) (n : CoreId) (s : State), (canSet s src (cP n) 0x03 1 = true) ∧ ((coreState s n = 3 ∨ coreState s n = 4))) :=
  ⟨⟨0, 7, 4, prog 7 { tc := true, cwp := 5, tw := 5, csr := [(0x341, 0x200), (0x300, 0x1880)] } [0x30200073] up, by decide +kernel⟩,
   ⟨0, 7, { cor 7 { csr := [(0x300, 8), (0x304, 0x20000)] } (put [(cS 7, 1, 2)] up) with sched := { inbox := [(7, [5])] } }, by decide +kernel⟩,
   ⟨0, 32, 7, .fmac 0 7, put [(cS 7, 1, 2)] (cor 7 { haltLatched := true } up), by decide +kernel⟩,
   ⟨.core 0, 7, put [(cS 7, 1, 1), (cP 7, 2, 0x200)] up, by decide +kernel⟩,
   ⟨.core 0, 7, put [(cS 7, 1, 2), (cP 7, 1, 1)] up, by decide +kernel⟩,
   ⟨0, 7, put [(cS 7, 1, 2)] (cor 7 { haltLatched := true } up), by decide +kernel⟩,
   ⟨.core 0, 7, put [(cS 7, 1, 3), (cP 7, 2, 0x200)] up, by decide +kernel⟩⟩

/-- States and operands that meet the hypotheses of each clause of TaskCommandsMoveTasks. -/
theorem wit_TaskCommandsMoveTasks :
  (∃ (src : Source) (v : Nat) (s : State), (canSet s src 0x1605 0x00 v = true) ∧ (v < 2 ^ 35) ∧ (bitsOf v 9 7 = 0) ∧ (bitsOf v 21 3 = 0) ∧ (let k := bitsOf v 0 9; (let x := taskOf s k; ((x.st = 0 ∨ x.st = 1 ∨ x.st = 6))))) ∧
  (∃ (src : Source) (k : Nat) (s : State), (canSet s src 0x1606 0x00 (k % 512 + 1 * 2 ^ 24) = true) ∧ ((taskOf s (k % 512)).st = 0)) ∧
  (∃ (src : Source) (k : Nat) (s : State), (canSet s src 0x1606 0x00 (k % 512 + 2 * 2 ^ 24) = true) ∧ (let x := taskOf s (k % 512); ((x.st = 1 ∨ (x.st = 2 ∨ x.st = 3 ∨ x.st = 4 ∨ x.st = 6) ∧ x.posts < 65535)))) ∧
  (∃ (src : Source) (k : Nat) (s : State), (canSet s src 0x1606 0x00 (k % 512 + 3 * 2 ^ 24) = true) ∧ (offeredCore s (k % 512) = none) ∧ (((taskOf s (k % 512)).st = 1 ∨ (taskOf s (k % 512)).st = 2))) ∧
  (∃ (src : Source) (k : Nat) (s : State), (canSet s src 0x1606 0x00 (k % 512 + 4 * 2 ^ 24) = true) ∧ (let x := taskOf s (k % 512); (x.st = 6))) ∧
  (∃ (src : Source) (k : Nat) (s : State), (canSet s src 0x1606 0x00 (k % 512 + 5 * 2 ^ 24) = true) ∧ (((taskOf s (k % 512)).st = 1 ∨ (taskOf s (k % 512)).st = 6))) ∧
  (∃ (t : Nat) (k : Nat) (n : Nat) (s : State), (runs t s = true) ∧ ((s.sched.offerAt = 0 ∨ s.sched.offerAt + 4 ≤ nclk (at_ t s) + 1)) ∧ (nextOffer s = some (k, n))) ∧
  (∃ (t : Nat) (n : CoreId) (o : Offer) (s : State), (runs t s = true) ∧ (offerOf s n = some o) ∧ (o.since + rd s 0x1600 0x06 ≤ nclk (at_ t s))) :=
  ⟨⟨.core 0, 511 + 5 * 2 ^ 16 + 0x81 * 2 ^ 24 + 2 ^ 34, up, by decide +kernel⟩,
   ⟨.core 0, 511, up, by decide +kernel⟩,
   ⟨.core 0, 511, { up with sched := { tasks := [(511, { st := 1, prio := 3 })], ready := [(3, [7])] } }, by decide +kernel⟩,
   ⟨.core 0, 511, { up with sched := { tasks := [(511, { st := 2, prio := 3 })], ready := [(3, [7, 511])] } }, by decide +kernel⟩,
   ⟨.core 0, 511, { up with sched := { tasks := [(511, { st := 6, prio := 3, posts := 2 })], ready := [(3, [7])] } }, by decide +kernel⟩,
   ⟨.core 0, 511, { up with sched := { tasks := [(511, { st := 6, prio := 3, posts := 2 })] } }, by decide +kernel⟩,
   ⟨0, 511, 7, put [(0x1600, 1, 0xFF), (0x1600, 2, 0xFF), (0x580F, 1, 2)] { up with sched := { tasks := [(511, { st := 2, prio := 3 })], ready := [(3, [511])] } }, by decide +kernel⟩,
   ⟨0, 7, { task := 511, since := 0 }, put [(0x1600, 6, 5)] { up with sched := { tasks := [(511, { st := 3, prio := 3 })], ready := [(3, [9])], offers := [(7, { task := 511, since := 0 })] } }, by decide +kernel⟩⟩

/-- States and operands that meet the hypotheses of each clause of CoreCommandsDispatch. -/
theorem wit_CoreCommandsDispatch :
  (∃ (n : CoreId) (k : Nat) (o : Offer) (s : State), (canSet s (.core n) 0x1603 (n.val + 1) (1 + k % 512 * 128) = true) ∧ (offerOf s n = some o) ∧ (o.task = k % 512) ∧ (runningOf s n ≠ some (k % 512))) ∧
  (∃ (n : CoreId) (k : Nat) (s : State), (canSet s (.core n) 0x1603 (n.val + 1) 2 = true) ∧ (runningOf s n = some k)) ∧
  (∃ (n : CoreId) (k : Nat) (s : State), (canSet s (.core n) 0x1603 (n.val + 1) 3 = true) ∧ (runningOf s n = some k)) ∧
  (∃ (n : CoreId) (list : Fin 8) (arg : Nat) (k : Nat) (s : State), (canSet s (.core n) 0x1603 (n.val + 1) (4 + list.val * 16 + arg * 65536) = true) ∧ (runningOf s n = some k) ∧ (list.val ≤ 4) ∧ (arg < (if list.val = 0 then 2 ^ 32 else 2 ^ 47))) ∧
  (∃ (n : CoreId) (s : State), (canSet s (.core n) 0x1603 (n.val + 1) 5 = true)) ∧
  (∃ (n : CoreId) (s : State), (canSet s (.core n) 0x1603 (n.val + 1) 6 = true)) ∧
  (∃ (n : CoreId) (m : CoreId) (s : State), (canSet s (.core m) 0x1603 (n.val + 1) 2 = true) ∧ (m ≠ n)) ∧
  (∃ (n : CoreId) (s : State), (canRead s (.core n) = true)) :=
  ⟨⟨7, 511, { task := 511, since := 0 }, put [(0x1600, 1, 0xFF), (0x1600, 2, 0xFF)] { up with sched := { tasks := [(9, { st := 4, prio := 5 }), (511, { st := 3, prio := 3 })], offers := [(7, { task := 511, since := 0 })], running := [(7, 9)] } }, by decide +kernel⟩,
   ⟨7, 511, put [(0x1600, 1, 0xFF), (0x1600, 2, 0xFF)] { up with sched := { tasks := [(511, { st := 4, prio := 3, posts := 2 })], running := [(7, 511)], ready := [(3, [9])] } }, by decide +kernel⟩,
   ⟨7, 511, put [(0x1600, 1, 0xFF), (0x1600, 2, 0xFF)] { up with sched := { tasks := [(511, { st := 4, prio := 3, posts := 2 })], running := [(7, 511)], ready := [(3, [9])] } }, by decide +kernel⟩,
   ⟨7, 4, 5, 511, put [(0x1600, 1, 0xFF), (0x1600, 2, 0xFF)] { up with sched := { tasks := [(511, { st := 4, prio := 3, posts := 2 })], running := [(7, 511)], ready := [(3, [9])] } }, by decide +kernel⟩,
   ⟨7, up, by decide +kernel⟩,
   ⟨7, put [(0x1600, 1, 0xFF), (0x1600, 2, 0xFF)] { up with sched := { tasks := [(511, { st := 4, prio := 3, posts := 2 })], running := [(7, 511)], ready := [(3, [9])] } }, by decide +kernel⟩,
   ⟨7, 6, put [(0x1600, 1, 0xFF), (0x1600, 2, 0xFF)] { up with sched := { tasks := [(511, { st := 4, prio := 3, posts := 2 })], running := [(7, 511)], ready := [(3, [9])] } }, by decide +kernel⟩,
   ⟨7, { up with sched := { inbox := [(7, [5, 6])] } }, by decide +kernel⟩⟩

/-- States and operands that meet the hypotheses of each clause of EventsAndTimers. -/
theorem wit_EventsAndTimers :
  (∃ (t : Nat) (a : Nat) (e : Nat) (r : List (Nat × Nat)) (s : State), (runs t s = true) ∧ (s.events = (a, e) :: r) ∧ (a ≤ nclk (at_ t s)) ∧ (s.sched.grantAt ≠ nclk (at_ t s) + 1) ∧ (e < 320)) ∧
  (∃ (src : Source) (v : Nat) (s : State), (canSet s src 0x1601 0x00 v = true) ∧ (284 ≤ v) ∧ (v ≤ 319)) ∧
  (∃ (src : Source) (b : List Byte) (s : State), (canPut s src 0x1618 0x02 b = true)) ∧
  (∃ (t : Nat) (list : Fin 5) (k : Nat) (r : List Nat) (s : State), (runs t s = true) ∧ (delayList s list = k :: r) ∧ ((taskOf s k).list = list) ∧ (dueReached s list (taskOf s k).due = true) ∧ (s.sched.dueAt ≠ nclk (at_ t s) + 1)) ∧
  (∃ (t : Nat) (s : State), (calm t s = true) ∧ (domOn s 41 = true) ∧ (stamp s 0x1600 0x05 + rd s 0x1600 0x04 * psUs ≤ (at_ t s).now)) ∧
  (∃ (t : Nat) (i : TimerId) (s : State), (runs t s = true) ∧ (rd s (0x1620 + i.val) 0x01 = 1) ∧ (dueReached s (timerBase s i) (rd s (0x1620 + i.val) 0x04) = true)) ∧
  (∃ (src : Source) (i : TimerId) (s : State), (canSet s src (0x1620 + i.val) 0x01 1 = true)) ∧
  (∃ (src : Source) (i : TimerId) (s : State), (canSet s src (0x1620 + i.val) 0x01 0 = true)) ∧
  (∃ (src : Source) (v : Nat) (s : State), (canSet s src 0x1600 0x01 v = true)) ∧
  (∃ (src : Source) (v : Nat) (s : State), (canSet s src 0x1607 0x01 v = true)) :=
  ⟨⟨0, 0, 319, [], put [(0x1610 + 2, 319 % 128 + 1, 0x7010000 + 0x1FF), (0x1607, 1, 1), (0x1607, 4, 1), (0x1210, 1, 1), (0x1210, 8, 1), (0x1210, 13, 1), (0x1221, 5, 5), (0x1221, 8, 1)] { up with events := [(0, 319)], sched := { tasks := [(511, { st := 1, prio := 3 })] } }, by decide +kernel⟩,
   ⟨.core 0, 319, up, by decide +kernel⟩,
   ⟨.core 0, 4 :: List.replicate 39 0, { up with coalesced := 5 }, by decide +kernel⟩,
   ⟨0, 4, 511, [], put [(0x3003, 6, 9)] { up with sched := { tasks := [(511, { st := 5, prio := 3, list := 4, due := 9 })], delayed := [(4, [511])] } }, by decide +kernel⟩,
   ⟨0, put [(0x1600, 4, 10), (0x1500, 1, 1)] { up with now := psMs }, by decide +kernel⟩,
   ⟨0, 5, put [(0x1625, 1, 1), (0x1625, 2, 4), (0x1625, 3, 5), (0x1625, 4, 9), (0x3003, 6, 9)] up, by decide +kernel⟩,
   ⟨.core 0, 5, put [(0x1625, 2, 4), (0x1625, 3, 5), (0x3003, 6, 9)] up, by decide +kernel⟩,
   ⟨.core 0, 5, put [(0x1625, 1, 1)] up, by decide +kernel⟩,
   ⟨.core 0, 0x7F, put [(0x1600, 1, 0xFF)] { up with sched := { tasks := [(511, { st := 3, prio := 3 })], offers := [(7, { task := 511, since := 0 })] } }, by decide +kernel⟩,
   ⟨.core 0, 1, { up with sched := { trace := [5] } }, by decide +kernel⟩⟩

/-- States and operands that meet the hypotheses of each clause of NetworkRequestsEnd. -/
theorem wit_NetworkRequestsEnd :
  (∃ (t : Nat) (ni : NiId) (addr : Nat) (size : Nat) (write : Bool) (v : Nat) (r : NetReq) (s : State), (runs t s = true) ∧ (domOn s (niDomain ni) = true) ∧ (rd s 0x5020 0x03 ≠ 1) ∧ (((niOf s ni).waiting = [r] ∧ (ni.val < 8 ∨ size = 0) ∨ (niOf s ni).waiting = [] ∧ 8 ≤ ni.val ∧ 1 ≤ size ∧ size ≤ 64 ∧ r = { addr := addr, size := size, write := write, value := v }))) ∧
  (∃ (t : Nat) (ni : NiId) (size : Nat) (s : State), (runs t s = true) ∧ (8 ≤ ni.val) ∧ (domOn s (niDomain ni) = true) ∧ (1 ≤ size) ∧ (size ≤ 64) ∧ (rd s 0x5020 0x03 = 1) ∧ (s.noc.swapFrom + 64 ≤ nclk (at_ t s)) ∧ ((niOf s 14).swapping = true)) ∧
  (∃ (t : Nat) (ni : NiId) (tag : Nat) (st : Nat) (v : Nat) (x : NetTag) (s : State), (runs t s = true) ∧ (quiet s = true) ∧ (tabFind (niOf s ni).tags tag = some x) ∧ (x.result = some (st, v)) ∧ (x.since + 2000 * (2 * bitsOf x.route 56 4 + 8) ≤ (at_ t s).now) ∧ (x.readyAt ≤ nclk (at_ t s)) ∧ ((niOf s ni).acceptTo ≤ nclk (at_ t s)) ∧ (tagTurn s ni x = true)) ∧
  (∃ (t : Nat) (ni : NiId) (tag : Nat) (x : NetTag) (s : State), (runs t s = true) ∧ (quiet s = true) ∧ (tabFind (niOf s ni).tags tag = some x) ∧ (x.result = none) ∧ (x.since + 2000 * (2 * bitsOf x.route 56 4 + 8) ≤ (at_ t s).now) ∧ (x.readyAt ≤ nclk (at_ t s)) ∧ ((niOf s ni).acceptTo ≤ nclk (at_ t s)) ∧ (tagTurn s ni x = true) ∧ (8 ≤ ni.val)) ∧
  (∃ (t : Nat) (ni : NiId) (tag : Nat) (x : NetTag) (s : State), (runs t s = true) ∧ (quiet s = true) ∧ (tabFind (niOf s ni).tags tag = some x) ∧ (tagTurn s ni x = false)) ∧
  (∃ (t : Nat) (ni : NiId) (tag : Nat) (x : NetTag) (s : State), (runs t s = true) ∧ (quiet s = true) ∧ (tabFind (niOf s ni).tags tag = some x) ∧ ((x.target ≠ 61 ∨ x.req.write = false)) ∧ (x.since + 2000 * routeTimeout x.route ≤ (at_ t s).now)) ∧
  (∃ (t : Nat) (ni : NiId) (tag : Nat) (x : NetTag) (s : State), (runs t s = true) ∧ (tabFind (niOf s ni).tags tag = some x) ∧ (x.target ≠ 61) ∧ (x.waits = false) ∧ (x.result = none) ∧ (absorbs s x.target = false) ∧ (x.since + 2000 * (bitsOf x.route 56 4 + rd s 0x5000 0x04) ≤ (at_ t s).now)) ∧
  (∃ (src : Source) (s : State), (canSet s src 0x5020 0x02 1 = true) ∧ (routesBusy s = false)) ∧
  (∃ (t : Nat) (ni : NiId) (s : State), (runs t s = true) ∧ ((niOf s ni).swapping = true)) ∧
  (∃ (src : Source) (s : State), (canSet s src 0x5021 0x03 1 = true) ∧ (routesBusy s = false)) ∧
  (∃ (t : Nat) (r : Nat) (t0 : Nat) (idle : Nat) (s : State), (runs t s = true) ∧ (s.noc.reconfig = some (r, t0, idle))) :=
  ⟨⟨0, 14, 0x200FFFF8, 4, true, 9, { addr := 0x200FFFF8, size := 4, write := true, value := 9 }, up, by decide +kernel⟩,
   ⟨0, 14, 4, put [(0x5020, 3, 1)] { up with noc := { nis := [(14, { swapping := true })] }, now := psS }, by decide +kernel⟩,
   ⟨0, 14, 31, 0, 77, { req := { addr := 0x20000000, size := 4, write := false, value := 0 }, target := 24, since := 0, result := some (0, 77) }, { up with noc := { nis := [(14, { tags := [(31, { req := { addr := 0x20000000, size := 4, write := false, value := 0 }, target := 24, since := 0, result := some (0, 77) })] })] }, now := psS }, by decide +kernel⟩,
   ⟨0, 14, 31, { req := { addr := 0x80000000, size := 4, write := true, value := 9 }, target := 63, since := 0, place := 0x100000000 }, { up with noc := { nis := [(14, { tags := [(31, { req := { addr := 0x80000000, size := 4, write := true, value := 9 }, target := 63, since := 0, place := 0x100000000 })] })] }, now := psS }, by decide +kernel⟩,
   ⟨0, 14, 31, { ({ req := { addr := 0x20000000, size := 4, write := false, value := 0 }, target := 24, since := 0, result := some (0, 77) } : NetTag) with order := 1 }, { up with noc := { nis := [(14, { tags := [(30, { ({ req := { addr := 0x20000000, size := 4, write := false, value := 0 }, target := 24, since := 0, result := some (0, 77) } : NetTag) with order := 0 }), (31, { ({ req := { addr := 0x20000000, size := 4, write := false, value := 0 }, target := 24, since := 0, result := some (0, 77) } : NetTag) with order := 1 })] })] }, now := psS }, by decide +kernel⟩,
   ⟨0, 14, 31, { req := { addr := 0x20000000, size := 4, write := false, value := 0 }, target := 24, since := 0 }, { up with noc := { nis := [(14, { tags := [(31, { req := { addr := 0x20000000, size := 4, write := false, value := 0 }, target := 24, since := 0 })] })] }, now := psS }, by decide +kernel⟩,
   ⟨0, 14, 31, { req := { addr := 0x20000000, size := 4, write := false, value := 0 }, target := 24, since := 0 }, { up with noc := { nis := [(14, { tags := [(31, { req := { addr := 0x20000000, size := 4, write := false, value := 0 }, target := 24, since := 0 })] })], stalls := [(24, 2)] }, now := psS }, by decide +kernel⟩,
   ⟨.core 0, up, by decide +kernel⟩,
   ⟨0, 14, put [(0x5020, 1, 5)] { up with noc := { nis := [(14, { swapping := true })] } }, by decide +kernel⟩,
   ⟨.core 0, put [(0x5021, 1, 35)] up, by decide +kernel⟩,
   ⟨0, 35, 0, 0, { up with noc := { reconfig := some (35, 0, 0), routers := [(35, { staged := List.replicate 64 2 })] } }, by decide +kernel⟩⟩

/-- States and operands that meet the hypotheses of each clause of BanksHarrowAndLpddr. -/
theorem wit_BanksHarrowAndLpddr :
  (∃ (t : Nat) (b : Fin 32) (w : BankWait) (x : NetTag) (s : State), (runs t s = true) ∧ (bankServes s b = true) ∧ (s.noc.borrowed = none) ∧ (tabGet 0 s.noc.grantAt b ≠ nclk (at_ t s) + 1) ∧ (tabGet [] s.noc.banks b = [w]) ∧ (w.spill = none) ∧ (w.unit = none) ∧ (w.since ≤ nclk (at_ t s)) ∧ (w.code < 15) ∧ (dutySpent s b w.code (nclk (at_ t s)) = false) ∧ (bankReq s w = some x) ∧ (w.pos < x.req.size)) ∧
  (∃ (b : Fin 32) (w : BankWait) (s : State), (bankChoice s b = some w)) ∧
  (∃ (t : Nat) (a : Nat) (s : State), (runs t s = true) ∧ (rd s 0x5003 0x01 ≠ 0) ∧ (s.noc.borrowed = none) ∧ (s.noc.borrowAt + rd s 0x5003 0x02 * psUs ≤ (at_ t s).now) ∧ (rd s 0x5003 0x04 = a) ∧ (a < 0x22000000) ∧ (harrowBarred (at_ t s) a = false) ∧ (tabGet 0 s.noc.grantAt (bankOf a) ≠ nclk (at_ t s) + 1) ∧ (tabGet [] s.noc.banks (bankOf a) = [])) ∧
  (∃ (t : Nat) (a : Nat) (t0 : Nat) (o : Nat) (s : State), (runs t s = true) ∧ (s.noc.borrowed = some (a, t0, o)) ∧ (t0 + o + 768 ≤ nclk (at_ t s))) ∧
  (∃ (t : Nat) (i : LpId) (s : State), (runs t s = true) ∧ (lpddrState s i = 1)) ∧
  (∃ (t : Nat) (i : LpId) (step : Fin 16) (s : State), (runs t s = true) ∧ (lpddrState s i = 2) ∧ (step.val ≤ 5)) ∧
  (∃ (t : Nat) (i : LpId) (s : State), (runs t s = true) ∧ (lpddrState s i = 3) ∧ (tabGet 0 s.noc.mr4At i + 32 * psMs ≤ (at_ t s).now)) ∧
  (∃ (t : Nat) (i : LpId) (s : State), (runs t s = true) ∧ (lpddrState s i = 3) ∧ (tabGet 0 s.noc.zqAt i + 64 * psMs ≤ (at_ t s).now)) ∧
  (∃ (t : Nat) (i : LpId) (s : State), (runs t s = true) ∧ (lpddrState s i = 3) ∧ (tabGet 0 s.noc.wckAt i + 100 * psMs ≤ (at_ t s).now)) ∧
  (∃ (t : Nat) (i : LpId) (s : State), (runs t s = true) ∧ (lpddrState s i = 3) ∧ (tabGet 0 s.noc.refreshAt i + refreshInterval s i ≤ (at_ t s).now)) ∧
  (∃ (t : Nat) (k : CamId) (w : HistoryWrite) (s : State), (runs t s = true) ∧ ((camOf s k).waiting = [w]) ∧ (w.since + 20 * psUs ≤ (at_ t s).now) ∧ (historyHolds s k w.line = true)) ∧
  (∃ (t : Nat) (s : State), runs t s = true ∧ (s.print.archive.head?.map fun j => decide (j.since + 20 * psUs ≤ (at_ t s).now)) = some true) :=
  ⟨⟨0, 31, { code := 1, ni := 14, tag := 31, since := 0 }, { req := { addr := 0x21F00000, size := 4, write := true, value := 9 }, target := 55, since := 0 }, { up with noc := { nis := [(14, { tags := [(31, { req := { addr := 0x21F00000, size := 4, write := true, value := 9 }, target := 55, since := 0 })] })], banks := [(31, [{ code := 1, ni := 14, tag := 31, since := 0 }])] } }, by decide +kernel⟩,
   ⟨31, { code := 1, ni := 14, tag := 31, since := 0 }, { up with noc := { banks := [(31, [{ code := 2, ni := 14, tag := 31, since := 0 }, { code := 1, ni := 14, tag := 31, since := 0 }])], nis := [(14, { tags := [(31, { req := { addr := 0x21F00000, size := 4, write := true, value := 9 }, target := 55, since := 0 })] })] } }, by decide +kernel⟩,
   ⟨0, 0x20000400, put [(0x5003, 1, 1), (0x5003, 2, 0), (0x5003, 4, 0x20000400)] up, by decide +kernel⟩,
   ⟨0, 0x21FFFC00, 0, 5, { up with noc := { borrowed := some (0x21FFFC00, 0, 5) }, now := psMs }, by decide +kernel⟩,
   ⟨0, 1, put [(0x5031, 4, 1)] up, by decide +kernel⟩,
   ⟨0, 1, 5, put [(0x5031, 4, 2)] up, by decide +kernel⟩,
   ⟨0, 1, put [(0x5031, 4, 3)] { up with now := psS }, by decide +kernel⟩,
   ⟨0, 1, put [(0x5031, 4, 3)] { up with now := psS }, by decide +kernel⟩,
   ⟨0, 1, put [(0x5031, 4, 3)] { up with now := psS }, by decide +kernel⟩,
   ⟨0, 1, put [(0x5031, 4, 3)] { up with now := psS }, by decide +kernel⟩,
   ⟨0, 5, { line := 7, since := 0, oldLine := some 3, oldBytes := [] }, put [(cc 5, 3, 16), (cc 5, 0x0A, 0x20000000), (cc 5, 0x0B, 64)] (cam 5 { waiting := [{ line := 7, since := 0, oldLine := some 3, oldBytes := [] }], history := [(3, 7)] } { up with now := psS }), by decide +kernel⟩,
   ⟨0, { up with now := psS, print := { archive := [{ product := 7, camera := 0, verdict := 3, firstLine := 0, lastLine := 0, pos := 0, ptp := 0, since := 0 }] } }, by decide +kernel⟩⟩

/-- States and operands that meet the hypotheses of each clause of LanesStartAndStop. -/
theorem wit_LanesStartAndStop :
  (∃ (src : Source) (n : LaneId) (s : State), (canSet s src (lx n 0) 0x01 1 = true) ∧ (laneState s n = 0) ∧ (laneChecks s n = .ok)) ∧
  (∃ (src : Source) (n : LaneId) (s : State), (canSet s src (lx n 0) 0x01 1 = true) ∧ (laneState s n = 6)) ∧
  (∃ (src : Source) (n : LaneId) (s : State), (canSet s src (lx n 0) 0x01 2 = true) ∧ (laneState s n = 0) ∧ (laneChecks s n = .ok) ∧ (claimConflict s (laneTestHolder n) [n.val, 0x28 + n.val] = none)) ∧
  (∃ (src : Source) (n : LaneId) (s : State), (canSet s src (lx n 0) 0x01 0 = true)) ∧
  (∃ (t : Nat) (n : LaneId) (s : State), (runs t s = true) ∧ (laneState s n = 1) ∧ (refLost s = false)) ∧
  (∃ (t : Nat) (n : LaneId) (s : State), (runs t s = true) ∧ ((laneState s n = 2 ∨ laneState s n = 4)) ∧ (remoteReady (at_ t s) n = true) ∧ ((laneOf s n).retrainUntil ≤ (at_ t s).now) ∧ (blockLock (at_ t s) n = true) ∧ (dfeConverged (at_ t s) n = true) ∧ (hiBer (at_ t s) n = false)) ∧
  (∃ (t : Nat) (n : LaneId) (s : State), (runs t s = true) ∧ (laneState s n = 3)) ∧
  (∃ (t : Nat) (n : LaneId) (s : State), (runs t s = true) ∧ (laneDecodes s n = true)) ∧
  (∃ (t : Nat) (n : LaneId) (ready : Bool) (s : State), (runs t s = true) ∧ (laneDecodes s n = true) ∧ (laneState s n ≠ 1) ∧ (laneBetween (at_ t s) n = true) ∧ (ready = (decide ((laneOf s n).retrainUntil ≤ (at_ t s).now) && blockLock (at_ t s) n && !hiBer (at_ t s) n && dfeConverged (at_ t s) n)) ∧ ((ready ≠ (laneOf s n).sentReady ∨ (laneOf s n).sentAt + 1024 * blockPs s n ≤ (at_ t s).now))) ∧
  (∃ (t : Nat) (n : LaneId) (s : State), (runs t s = true) ∧ (laneState s n = 3) ∧ ((laneOf s n).heardAt + 8192 * blockPs s n ≤ (at_ t s).now)) ∧
  (∃ (t : Nat) (n : LaneId) (s : State), (runs t s = true) ∧ ((laneState s n = 2 ∨ laneState s n = 4)) ∧ (stamp s (lx n 1) 0x01 + rd s (lx n 0) 0x0A * psMs ≤ (at_ t s).now)) ∧
  (∃ (src : Source) (n : LaneId) (s : State), (canSet s src (lx n 0) 0x09 1 = true) ∧ (laneState s n = 3)) ∧
  (∃ (t : Nat) (n : LaneId) (s : State), (runs t s = true) ∧ (laneState s n = 6) ∧ (stamp s (lx n 1) 0x01 + psUs ≤ (at_ t s).now) ∧ (laneQuiet (at_ t s) n = true)) ∧
  (∃ (t : Nat) (s : State), (calm t s = true) ∧ (s.power.vinUp = true) ∧ (s.power.refGone = false) ∧ (domOn s 41 = true)) ∧
  (∃ (t : Nat) (s : State), (calm t s = true) ∧ (s.power.refGone = true)) :=
  ⟨⟨.core 0, 39, up, by decide +kernel⟩,
   ⟨.core 0, 39, put [(lx 39 1, 1, 6)] (lan 39 {} up), by decide +kernel⟩,
   ⟨.core 0, 39, up, by decide +kernel⟩,
   ⟨.core 0, 39, put [(lx 39 1, 1, 3), (lx 39 0, 1, 1)] (lan 39 { waiting := [{ line := true, blocks := 5, bytes := [] }], busyUntil := 2000000 } up), by decide +kernel⟩,
   ⟨0, 39, put [(lx 39 1, 1, 1)] (lan 39 { mode := 1 } up), by decide +kernel⟩,
   ⟨0, 39, put [(lx 39 1, 1, 4), (lx 39 1, 9, 1)] (lan 39 {} up), by decide +kernel⟩,
   ⟨0, 39, put [(lx 39 1, 1, 3)] (lan 39 {} up), by decide +kernel⟩,
   ⟨0, 39, put [(lx 39 1, 1, 3)] (lan 39 {} up), by decide +kernel⟩,
   ⟨0, 39, true, put [(lx 39 1, 1, 3)] (lan 39 {} { up with now := psS }), by decide +kernel⟩,
   ⟨0, 39, put [(lx 39 1, 1, 3)] (lan 39 {} { up with now := psS }), by decide +kernel⟩,
   ⟨0, 39, put [(lx 39 1, 1, 2)] (lan 39 {} { up with now := psS }), by decide +kernel⟩,
   ⟨.core 0, 39, put [(lx 39 1, 1, 3)] (lan 39 {} up), by decide +kernel⟩,
   ⟨0, 39, put [(lx 39 1, 1, 6), (lx 39 1, 2, 1)] (lan 39 {} { up with now := psS }), by decide +kernel⟩,
   ⟨0, put [(lx 39 1, 1, 3)] (lan 39 {} up), by decide +kernel⟩,
   ⟨0, { put [(lx 39 1, 1, 3), (0x48A0, 6, 1)] (lan 39 {} up) with power := { vinUp := true, refGone := true } }, by decide +kernel⟩⟩

/-- States and operands that meet the hypotheses of each clause of LanesAdaptAndTest. -/
theorem wit_LanesAdaptAndTest :
  (∃ (t : Nat) (n : LaneId) (s : State), (runs t s = true) ∧ (laneState s n ≠ 0) ∧ (laneState s n ≠ 1) ∧ (rd s (lx n 1) 0x07 ≠ 1) ∧ ((laneOf s n).adaptAt + uiPs s n 1024 ≤ (at_ t s).now)) ∧
  (∃ (t : Nat) (n : LaneId) (s : State), (runs t s = true) ∧ (laneDecodes s n = true)) ∧
  (∃ (t : Nat) (n : LaneId) (s : State), (runs t s = true) ∧ (laneState s n = 5) ∧ ((prbsTaps (rd s (lx n 3) 0x02)).1 ≠ 0) ∧ (prbsLocked s n = false) ∧ ((laneOf s n).seekAt + uiPs s n ((prbsTaps (rd s (lx n 3) 0x02)).1 + 64) ≤ (at_ t s).now)) ∧
  (∃ (t : Nat) (n : LaneId) (s : State), (runs t s = true) ∧ (laneState s n = 5) ∧ (prbsLocked s n = true)) ∧
  (∃ (t : Nat) (n : LaneId) (s : State), (runs t s = true) ∧ (laneState s n = 5) ∧ (prbsLocked s n = true) ∧ (prbsBits (at_ t s) n < 2 ^ 48 - 1)) ∧
  (∃ (src : Source) (n : LaneId) (s : State), (canSet s src (lx n 3) 0x07 1 = true) ∧ (laneState s n = 5)) ∧
  (∃ (src : Source) (n : LaneId) (s : State), (canSet s src (lx n 3) 0x05 0 = true)) :=
  ⟨⟨0, 39, put [(lx 39 1, 1, 3)] (lan 39 { taps := [127, 63, -64, 0, 0, 0, 0, 0, 0, 0] } { up with now := psMs }), by decide +kernel⟩,
   ⟨0, 39, put [(lx 39 1, 1, 3)] (lan 39 { badHeaders := List.replicate 15 900000 } up), by decide +kernel⟩,
   ⟨0, 39, put [(lx 39 1, 1, 5), (lx 39 3, 2, 1)] (lan 39 {} { up with now := psS }), by decide +kernel⟩,
   ⟨0, 39, put [(lx 39 1, 1, 5), (lx 39 3, 2, 1), (lx 39 3, 4, 1)] (lan 39 {} up), by decide +kernel⟩,
   ⟨0, 39, put [(lx 39 1, 1, 5), (lx 39 3, 2, 1), (lx 39 3, 4, 1)] (lan 39 {} up), by decide +kernel⟩,
   ⟨.core 0, 39, put [(lx 39 1, 1, 5), (lx 39 3, 2, 1)] (lan 39 {} up), by decide +kernel⟩,
   ⟨.core 0, 39, put [(lx 39 1, 1, 5), (lx 39 3, 2, 1), (lx 39 3, 4, 1)] (lan 39 {} up), by decide +kernel⟩⟩

/-- States and operands that meet the hypotheses of each clause of OpralAndEthernet. -/
theorem wit_OpralAndEthernet :
  (∃ (t : Nat) (p : PortId) (b : List Byte) (s : State), (runs t s = true) ∧ (quiet s = true) ∧ (ethUp s p = true) ∧ (b.length ≤ 1472)) ∧
  (∃ (t : Nat) (p : PortId) (ip : Nat) (node : Nat) (seq : Nat) (idx : Nat) (sub : Nat) (ty : Nat) (o : ObjRef) (s : State), (runs t s = true) ∧ (quiet s = true) ∧ (ethUp s p = true) ∧ ((ethOf s p).buffer = []) ∧ ((ethOf s p).request = none) ∧ (nodeId s < 2 ^ 16) ∧ (node < 2 ^ 16) ∧ (seq < 2 ^ 32) ∧ (idx < 2 ^ 16) ∧ (sub < 2 ^ 8) ∧ ((∀ r, r ∈ (ethOf s p).replies → ¬ (r.ip = ip ∧ r.node = node ∧ r.seq = seq))) ∧ (storedB idx sub o = true) ∧ (¬ (idx = ethE p ∧ sub = 0x0E)) ∧ ((ty = 0 ∨ ty = o.desc.ty.code))) ∧
  (∃ (t : Nat) (p : PortId) (ip : Nat) (node : Nat) (seq : Nat) (idx : Nat) (sub : Nat) (v : ObjVal) (o : ObjRef) (s : State), (runs t s = true) ∧ (quiet s = true) ∧ (ethUp s p = true) ∧ ((ethOf s p).buffer = []) ∧ ((ethOf s p).request = none) ∧ (nodeId s < 2 ^ 16) ∧ (node < 2 ^ 16) ∧ (seq < 2 ^ 32) ∧ (idx < 2 ^ 16) ∧ (sub < 2 ^ 8) ∧ ((∀ r, r ∈ (ethOf s p).replies → ¬ (r.ip = ip ∧ r.node = node ∧ r.seq = seq))) ∧ (plainB idx sub o = true) ∧ (¬ (idx = 0x1200 ∧ sub = 1)) ∧ (v.ty = o.desc.ty.code) ∧ (canWrite s (.eth p) idx sub v = true)) ∧
  (∃ (t : Nat) (p : PortId) (ip : Nat) (node : Nat) (seq : Nat) (idx : Nat) (sub : Nat) (off : Nat) (len : Nat) (o : ObjRef) (c : Capture) (s : State), (runs t s = true) ∧ (quiet s = true) ∧ (ethUp s p = true) ∧ ((ethOf s p).buffer = []) ∧ ((ethOf s p).request = none) ∧ (nodeId s < 2 ^ 16) ∧ (node < 2 ^ 16) ∧ (seq < 2 ^ 32) ∧ (idx < 2 ^ 16) ∧ (sub < 2 ^ 8) ∧ ((∀ r, r ∈ (ethOf s p).replies → ¬ (r.ip = ip ∧ r.node = node ∧ r.seq = seq))) ∧ (okIs (resolveObj idx sub) o = true) ∧ (off < 2 ^ 32) ∧ (len < 2 ^ 16) ∧ (off ≠ 0) ∧ (off ≤ c.bytes.length) ∧ (s.plant.captures.find? (fun x => x.src == .eth p && x.node == node && x.idx == idx && x.sub == sub) = some c)) ∧
  (∃ (t : Nat) (p : PortId) (ip : Nat) (node : Nat) (seq : Nat) (idx : Nat) (sub : Nat) (ty : Nat) (b : List Byte) (s : State), (runs t s = true) ∧ (quiet s = true) ∧ (ethUp s p = true) ∧ ((ethOf s p).buffer = []) ∧ ((ethOf s p).request = none) ∧ (nodeId s < 2 ^ 16) ∧ (node < 2 ^ 16) ∧ (seq < 2 ^ 32) ∧ (idx < 2 ^ 16) ∧ (sub < 2 ^ 8) ∧ ((∀ r, r ∈ (ethOf s p).replies → ¬ (r.ip = ip ∧ r.node = node ∧ r.seq = seq))) ∧ (ty < 2 ^ 8) ∧ (b.length ≤ 1024) ∧ (s.plant.assembly = none) ∧ (b.length ≤ stagingSize s) ∧ (stagingStatus (at_ t s) = none)) ∧
  (∃ (t : Nat) (s : State), sysRuns s = true ∧ (s.plant.assembly.any fun a => isEth a.src && decide (a.lastAt + segmentLimit s ≤ (at_ t s).now)) = true) ∧
  (∃ (t : Nat) (p : PortId) (s : State), (runs t s = true) ∧ (ethUp s p = true)) ∧
  (∃ (t : Nat) (p : PortId) (s : State), (runs t s = true) ∧ (ethUp s p = true)) :=
  ⟨⟨0, 1, [0x4F, 0x50, 2, 0, 9, 0], put [(0x1211, 1, 1), (0x1211, 0x0D, 1), (0x1200, 1, 9)] { up with plant := {  } }, by decide +kernel⟩,
   ⟨0, 1, 5, 7, 8, 0x1604, 1, 0, objAt 0x1604 1, put [(0x1211, 1, 1), (0x1211, 0x0D, 1), (0x1200, 1, 9)] { up with plant := {  } }, by decide +kernel⟩,
   ⟨0, 1, 5, 7, 8, 0x1604, 1, { ty := (objAt 0x1604 1).desc.ty.code, bytes := [5, 0] }, objAt 0x1604 1, put [(0x1211, 1, 1), (0x1211, 0x0D, 1), (0x1200, 1, 9)] { up with plant := {  } }, by decide +kernel⟩,
   ⟨0, 1, 5, 7, 8, 0x1607, 5, 2, 9, objAt 0x1607 5, { src := .eth 1, node := 7, idx := 0x1607, sub := 5, bytes := [1, 2, 3, 4], lastAt := 0 }, put [(0x1211, 1, 1), (0x1211, 0x0D, 1), (0x1200, 1, 9)] { up with plant := { captures := [{ src := .eth 1, node := 7, idx := 0x1607, sub := 5, bytes := [1, 2, 3, 4], lastAt := 0 }] } }, by decide +kernel⟩,
   ⟨0, 1, 5, 7, 8, 0x1607, 5, 0, [1, 2, 3], put [(0x1211, 1, 1), (0x1211, 0x0D, 1), (0x1200, 1, 9)] { up with plant := {  } }, by decide +kernel⟩,
   ⟨0, put [(0x1211, 1, 1), (0x1211, 0x0D, 1), (0x1200, 1, 9)] { up with plant := { assembly := some { src := .eth 1, node := 7, idx := 5, sub := 6, bytes := [1], lastAt := 0 } }, now := psS * 100 }, by decide +kernel⟩,
   ⟨0, 1, put [(0x1211, 1, 1), (0x1211, 0x0D, 1), (0x1200, 1, 9)] { up with plant := {  } }, by decide +kernel⟩,
   ⟨0, 1, put [(0x1211, 1, 1), (0x1211, 0x0D, 1), (0x1200, 1, 9)] { up with plant := {  } }, by decide +kernel⟩⟩

/-- States and operands that meet the hypotheses of each clause of CanPortsServe. -/
theorem wit_CanPortsServe :
  (∃ (src : Source) (p : PortId) (s : State), (canSet s src (canK p) 0x01 1 = true) ∧ (nmtState s p = 0) ∧ (domOn s 39 = true)) ∧
  (∃ (t : Nat) (p : PortId) (node : Nat) (s : State), (runs t s = true) ∧ (nmtHeard s p node = true)) ∧
  (∃ (t : Nat) (p : PortId) (node : Nat) (s : State), (runs t s = true) ∧ (nmtHeard s p node = true)) ∧
  (∃ (t : Nat) (p : PortId) (node : Nat) (s : State), (runs t s = true) ∧ (nmtHeard s p node = true)) ∧
  (∃ (t : Nat) (p : PortId) (node : Nat) (s : State), (runs t s = true) ∧ (nmtHeard s p node = true)) ∧
  (∃ (t : Nat) (p : PortId) (node : Nat) (s : State), (runs t s = true) ∧ (nmtHeard s p node = true)) ∧
  (∃ (t : Nat) (p : PortId) (s : State), (runs t s = true) ∧ (nmtState s p ≠ 0) ∧ (rd s (canK p) 0x06 ≠ 0) ∧ (rd s (canK p) 0x09 ≠ 2) ∧ ((canOf s p).heartbeatAt + rd s (canK p) 0x06 * psMs ≤ (at_ t s).now)) ∧
  (∃ (t : Nat) (p : PortId) (s : State), (runs t s = true) ∧ (rd s (canK p) 0x01 ≠ 0) ∧ (rd s (canK p) 0x09 ≠ 2)) ∧
  (∃ (t : Nat) (p : PortId) (passive : Bool) (s : State), (runs t s = true) ∧ (rd s (canK p) 0x01 ≠ 0) ∧ (rd s (canK p) 0x09 ≠ boolNat passive)) ∧
  (∃ (t : Nat) (p : PortId) (idx : Nat) (sub : Nat) (b : List Byte) (o : ObjRef) (s : State), (calm t s = true) ∧ (canPut s (.can p) idx sub b = true) ∧ (plainB idx sub o = true)) ∧
  (∃ (t : Nat) (p : PortId) (idx : Nat) (sub : Nat) (o : ObjRef) (s : State), (runs t s = true) ∧ (quiet s = true) ∧ (s.pair.mirror = []) ∧ (sdoServed s p = true) ∧ (storedB idx sub o = true)) ∧
  (∃ (t : Nat) (p : PortId) (a : Assembly) (s : State), (runs t s = true) ∧ (quiet s = true) ∧ (s.plant.assembly = some a) ∧ (isCan a.src p = true) ∧ (a.lastAt + segmentLimit s ≤ (at_ t s).now)) ∧
  (∃ (t : Nat) (i : PdoId) (p : PortId) (idx : Nat) (sub : Nat) (bits : Nat) (s : State), (runs t s = true) ∧ (quiet s = true) ∧ (s.pair.mirror = []) ∧ (i.val < 8) ∧ (rd s (0x1240 + i.val) 0x01 = p) ∧ (bitOf (rd s (0x1240 + i.val) 0x02) 31 = false) ∧ (nmtState s p = 5) ∧ (rd s (canK p) 0x09 ≠ 2) ∧ (pdoEntries s i = [(idx, sub, bits)])) ∧
  (∃ (t : Nat) (i : PdoId) (s : State), (runs t s = true) ∧ (pdoRuns s i 1 = true) ∧ (rd s (0x1240 + i.val) 0x04 ≠ 0) ∧ (tabGet 0 s.plant.pdoAt i + rd s (0x1240 + i.val) 0x04 * psMs ≤ (at_ t s).now)) ∧
  (∃ (t : Nat) (p : PortId) (s : State), (runs t s = true) ∧ (nmtState s p = 5) ∧ (rd s (canK p) 0x09 ≠ 2)) ∧
  (∃ (src : Source) (i : PdoId) (s : State), (canSet s src (0x1240 + i.val) 0x05 1 = true) ∧ (8 ≤ i.val) ∧ (rd s (0x1240 + i.val) 0x03 = 3)) ∧
  (∃ (src : Source) (i : PdoId) (v : Nat) (s : State), (canSet s src (0x1240 + i.val) 0x02 v = true) ∧ ((bitOf v 31 = true ∨ ((pdoEntries s i).findSome? (entryCheck s (.can (Fin.ofNat 2 (rd s (0x1240 + i.val) 0x01))) (decide (i.val < 8))) = none ∧ (pdoEntries s i).foldl (fun a e => a + e.2.2) 0 ≤ 512)))) :=
  ⟨⟨.core 0, 1, put [(0x1221, 2, 9)] up, by decide +kernel⟩,
   ⟨0, 1, 9, put [(0x1221, 1, 1), (0x1221, 2, 9), (0x1221, 5, 5), (0x1221, 5, 4)] { up with plant := {  } }, by decide +kernel⟩,
   ⟨0, 1, 0, put [(0x1221, 1, 1), (0x1221, 2, 9), (0x1221, 5, 5)] { up with plant := {  } }, by decide +kernel⟩,
   ⟨0, 1, 0, put [(0x1221, 1, 1), (0x1221, 2, 9), (0x1221, 5, 5)] { up with plant := {  } }, by decide +kernel⟩,
   ⟨0, 1, 0, put [(0x1221, 1, 1), (0x1221, 2, 9), (0x1221, 5, 5)] { up with plant := { assembly := some { src := .can 1, node := 7, idx := 5, sub := 6, bytes := [1], lastAt := 0 } } }, by decide +kernel⟩,
   ⟨0, 1, 0, put [(0x1221, 1, 1), (0x1221, 2, 9), (0x1221, 5, 5)] { up with plant := { assembly := some { src := .can 1, node := 7, idx := 5, sub := 6, bytes := [1], lastAt := 0 } } }, by decide +kernel⟩,
   ⟨0, 1, put [(0x1221, 1, 1), (0x1221, 2, 9), (0x1221, 5, 5), (0x1221, 6, 5)] { up with plant := {  }, now := psS }, by decide +kernel⟩,
   ⟨0, 1, put [(0x1221, 1, 1), (0x1221, 2, 9), (0x1221, 5, 5)] { up with plant := {  } }, by decide +kernel⟩,
   ⟨0, 1, true, put [(0x1221, 1, 1), (0x1221, 2, 9), (0x1221, 5, 5)] { up with plant := {  } }, by decide +kernel⟩,
   ⟨0, 1, 0x1604, 1, [5, 0], objAt 0x1604 1, put [(0x1221, 1, 1), (0x1221, 2, 9), (0x1221, 5, 5)] { up with plant := {  } }, by decide +kernel⟩,
   ⟨0, 1, 0x1604, 1, objAt 0x1604 1, put [(0x1221, 1, 1), (0x1221, 2, 9), (0x1221, 5, 5)] { up with plant := {  } }, by decide +kernel⟩,
   ⟨0, 1, { src := .can 1, node := 7, idx := 5, sub := 6, bytes := [1], lastAt := 0 }, put [(0x1221, 1, 1), (0x1221, 2, 9), (0x1221, 5, 5)] { up with plant := { assembly := some { src := .can 1, node := 7, idx := 5, sub := 6, bytes := [1], lastAt := 0 } }, now := psS * 100 }, by decide +kernel⟩,
   ⟨0, 7, 1, 0x1604, 1, 16, put [(0x1221, 1, 1), (0x1221, 2, 9), (0x1221, 5, 5), (0x1247, 1, 1), (0x1247, 2, 0x189), (0x1247, 6, 1), (0x1247, 7, 0x16040110)] { up with plant := {  } }, by decide +kernel⟩,
   ⟨0, 15, put [(0x1221, 1, 1), (0x1221, 2, 9), (0x1221, 5, 5), (0x124F, 1, 1), (0x124F, 2, 0x189), (0x124F, 6, 1), (0x124F, 7, 0x16040110), (0x124F, 3, 1), (0x124F, 4, 5)] { up with plant := {  }, now := psS }, by decide +kernel⟩,
   ⟨0, 1, put [(0x1221, 1, 1), (0x1221, 2, 9), (0x1221, 5, 5), (0x124F, 1, 1), (0x124F, 2, 0x189), (0x124F, 6, 1), (0x124F, 7, 0x16040110), (0x124F, 3, 2), (0x124F, 4, 5)] { up with plant := { pdoSync := [(15, 3)] } }, by decide +kernel⟩,
   ⟨.core 0, 15, put [(0x1221, 1, 1), (0x1221, 2, 9), (0x1221, 5, 5), (0x124F, 1, 1), (0x124F, 2, 0x189), (0x124F, 6, 1), (0x124F, 7, 0x16040110), (0x124F, 3, 3)] { up with plant := {  } }, by decide +kernel⟩,
   ⟨.core 0, 15, 0x18A, put [(0x1221, 1, 1), (0x1221, 2, 9), (0x1221, 5, 5), (0x124F, 1, 1), (0x124F, 2, 0x80000189), (0x124F, 6, 1), (0x124F, 7, 0x16040110)] { up with plant := {  } }, by decide +kernel⟩⟩

/-- States and operands that meet the hypotheses of each clause of PtpAndSecondPulses. -/
theorem wit_PtpAndSecondPulses :
  (∃ (t : Nat) (p : PortId) (domain : Nat) (id : Nat) (s : State), (runs t s = true) ∧ (fromSelected s p domain id = true)) ∧
  (∃ (t : Nat) (p : PortId) (domain : Nat) (id : Nat) (s : State), (runs t s = true) ∧ (fromSelected s p domain id = true)) ∧
  (∃ (t : Nat) (p : PortId) (domain : Nat) (id : Nat) (seq : Nat) (t2 : Nat) (s : State), (runs t s = true) ∧ (fromSelected s p domain id = true) ∧ (s.plant.ptp.pendingSync = some (seq, t2))) ∧
  (∃ (t : Nat) (p : PortId) (domain : Nat) (s : State), (runs t s = true) ∧ (ptpHears s p domain = true)) ∧
  (∃ (t : Nat) (s : State), (runs t s = true) ∧ (ethUp s (ptpPort s) = true) ∧ (2 ≤ ptpState s) ∧ (s.plant.ptp.syncAt ≠ 0) ∧ (s.plant.ptp.delayAt + logSeconds (rd s 0x1230 0x06) ≤ (at_ t s).now)) ∧
  (∃ (t : Nat) (p : PortId) (domain : Nat) (id : Nat) (seq : Nat) (t3 : Nat) (s : State), (runs t s = true) ∧ (fromSelected s p domain id = true) ∧ (s.plant.ptp.delayPending = some (seq, t3))) ∧
  (∃ (t : Nat) (s : State), (runs t s = true) ∧ ((ptpState s = 3 ∨ ptpState s = 4)) ∧ (s.plant.ptp.syncAt + receiptTimeout s ≤ (at_ t s).now)) ∧
  (∃ (t : Nat) (s : State), (runs t s = true) ∧ (rd s 0x1231 0x03 ≠ 0)) ∧
  (∃ (t : Nat) (s : State), (runs t s = true) ∧ (rd s 0x1231 0x01 ≠ 0) ∧ ((ptpTime (at_ t s) + 20) % 1000000000 ≤ 40) ∧ (s.plant.ppsSecond ≠ (ptpTime (at_ t s) + 20) / 1000000000 + 1)) ∧
  (∃ (t : Nat) (a : Nat) (s : State), (runs t s = true) ∧ (s.plant.ppsHigh = some a) ∧ (a + rd s 0x1231 0x02 * psMs ≤ (at_ t s).now)) ∧
  (∃ (t : Nat) (p : PortId) (up : Bool) (s : State), (runs t s = true) ∧ (dictOn s = true) ∧ (domOn s 39 = true) ∧ (rd s (ethE p) 0x0D ≠ boolNat up)) :=
  ⟨⟨0, 1, 4, 77, put [(0x1211, 1, 1), (0x1211, 0x0D, 1), (0x1200, 1, 9), (0x1230, 1, 1), (0x1230, 2, 1), (0x1230, 3, 4), (0x1230, 8, 3)] { up with plant := { ptp := { selected := some 77 } } }, by decide +kernel⟩,
   ⟨0, 1, 4, 77, put [(0x1211, 1, 1), (0x1211, 0x0D, 1), (0x1200, 1, 9), (0x1230, 1, 1), (0x1230, 2, 1), (0x1230, 3, 4), (0x1230, 8, 3)] { up with plant := { ptp := { selected := some 77 } } }, by decide +kernel⟩,
   ⟨0, 1, 4, 77, 5, 900, put [(0x1211, 1, 1), (0x1211, 0x0D, 1), (0x1200, 1, 9), (0x1230, 1, 1), (0x1230, 2, 1), (0x1230, 3, 4), (0x1230, 8, 3)] { up with plant := { ptp := { selected := some 77, pendingSync := some (5, 900), streak := 15 } } }, by decide +kernel⟩,
   ⟨0, 1, 4, put [(0x1211, 1, 1), (0x1211, 0x0D, 1), (0x1200, 1, 9), (0x1230, 1, 1), (0x1230, 2, 1), (0x1230, 3, 4), (0x1230, 8, 1)] { up with plant := { ptp := {  } } }, by decide +kernel⟩,
   ⟨0, put [(0x1211, 1, 1), (0x1211, 0x0D, 1), (0x1200, 1, 9), (0x1230, 1, 1), (0x1230, 2, 1), (0x1230, 3, 4), (0x1230, 8, 3)] { up with plant := { ptp := { selected := some 77, syncAt := 9 } }, now := psS * 100 }, by decide +kernel⟩,
   ⟨0, 1, 4, 77, 5, 900, put [(0x1211, 1, 1), (0x1211, 0x0D, 1), (0x1200, 1, 9), (0x1230, 1, 1), (0x1230, 2, 1), (0x1230, 3, 4), (0x1230, 8, 3)] { up with plant := { ptp := { selected := some 77, delayPending := some (5, 900), t1 := 7, t2 := 50 } } }, by decide +kernel⟩,
   ⟨0, put [(0x1211, 1, 1), (0x1211, 0x0D, 1), (0x1200, 1, 9), (0x1230, 1, 1), (0x1230, 2, 1), (0x1230, 3, 4), (0x1230, 8, 4)] { up with plant := { ptp := { selected := some 77 } }, now := psS * 1000 }, by decide +kernel⟩,
   ⟨0, put [(0x1211, 1, 1), (0x1211, 0x0D, 1), (0x1200, 1, 9), (0x1230, 1, 1), (0x1230, 2, 1), (0x1230, 3, 4), (0x1230, 8, 4), (0x1231, 3, 1)] { up with plant := { ptp := {  } } }, by decide +kernel⟩,
   ⟨0, put [(0x1211, 1, 1), (0x1211, 0x0D, 1), (0x1200, 1, 9), (0x1230, 1, 1), (0x1230, 2, 1), (0x1230, 3, 4), (0x1230, 8, 4), (0x1231, 1, 1)] { up with plant := { ptp := {  } }, now := psS }, by decide +kernel⟩,
   ⟨0, 9, put [(0x1231, 2, 5)] { up with now := psS, plant := { ppsHigh := some 9 } }, by decide +kernel⟩,
   ⟨0, 1, true, put [(0x1211, 1, 1)] up, by decide +kernel⟩⟩

/-- States and operands that meet the hypotheses of each clause of SuppliesAndResets. -/
theorem wit_SuppliesAndResets :
  (∃ (t : Nat) (s : State), (calm t s = true) ∧ (s.power.vinUp = false)) ∧
  (∃ (t : Nat) (s : State), (calm t s = true) ∧ (s.power.vinUp = true) ∧ (s.power.porstLow = false)) ∧
  (∃ (t : Nat) (s : State), (calm t s = true) ∧ (s.power.porstLow = false)) ∧
  (∃ (t : Nat) (s : State), (calm t s = true) ∧ (s.power.porstLow = true)) ∧
  (∃ (t : Nat) (s : State), (calm t s = true) ∧ (s.power.vinUp = true) ∧ (domOn s 41 = false)) ∧
  (∃ (t : Nat) (s : State), (calm t s = true) ∧ (s.power.vinUp = true) ∧ (domOn s 41 = true) ∧ (s.power.shutdown ≠ some .powerFail)) ∧
  (∃ (t : Nat) (o : Fin 2) (s : State), (calm t s = true) ∧ (boardOn s o = true)) ∧
  (∃ (src : Source) (v : Nat) (s : State), (canSet s src 0x1501 0x05 v = true)) ∧
  (∃ (src : Source) (v : Nat) (s : State), (canSet s src 0x1501 0x06 v = true) ∧ ((∀ i : Nat, i < 2 → bitOf (rd s 0x1501 0x06) i = true → bitOf v i = false → domState s (36 + i) = 0))) ∧
  (∃ (t : Nat) (i : LpId) (s : State), (calm t s = true) ∧ (domOn s 41 = true) ∧ (lpddrSupplyOn s i = true)) ∧
  (∃ (t : Nat) (s : State), (calm t s = true) ∧ (domOn s 41 = true) ∧ (s.power.resetOut = false) ∧ (s.power.sysOnAt + psMs ≤ (at_ t s).now)) ∧
  (∃ (src : Source) (s : State), (canSet s src 0x1502 0x01 0x746F6F62 = true) ∧ (rd s 0x1300 0x01 ≠ 1)) ∧
  (∃ (t : Nat) (s : State), (runs t s = true)) ∧
  (∃ (t : Nat) (s : State), (runs t s = true) ∧ (s.power.rcTrimAt + 10 * psMs ≤ (at_ t s).now)) ∧
  (∃ (t : Nat) (s : State), (calm t s = true) ∧ (s.power.vinUp = true)) ∧
  (∃ (t : Nat) (s : State), (calm t s = true) ∧ (domOn s 41 = true) ∧ (s.power.tempAt + psMs ≤ (at_ t s).now)) ∧
  (∃ (t : Nat) (f : FieldId) (k : Furrow) (s : State), (runs t s = true) ∧ (bitOf (rd s 0x1503 0x03) f = true) ∧ (domOn s f = true) ∧ (furrowIdle (at_ t s) f k = true)) :=
  ⟨⟨0, State.reset, by decide +kernel⟩,
   ⟨0, up, by decide +kernel⟩,
   ⟨0, up, by decide +kernel⟩,
   ⟨0, { up with power := { vinUp := true, porstLow := true } }, by decide +kernel⟩,
   ⟨0, { State.reset with power := { vinUp := true, vinWarn := 900, asleep := 2 }, obj := [(0x151101, 6)], now := 1000000 }, by decide +kernel⟩,
   ⟨0, put [(0x1501, 2, 900)] up, by decide +kernel⟩,
   ⟨0, 1, put [(0x1501, 7, 3)] up, by decide +kernel⟩,
   ⟨.core 0, 1, { up with power := { vinUp := true, tripped := [1] } }, by decide +kernel⟩,
   ⟨.core 0, 2, put [(0x1501, 6, 1)] (put [(0x1511, 37, 0)] up), by decide +kernel⟩,
   ⟨0, 1, put [(0x1501, 7, 15)] up, by decide +kernel⟩,
   ⟨0, { up with power := { vinUp := true, resetOut := false }, now := psS }, by decide +kernel⟩,
   ⟨.core 0, up, by decide +kernel⟩,
   ⟨0, put [(0x1503, 1, 7)] up, by decide +kernel⟩,
   ⟨0, { up with power := { vinUp := true }, now := psS }, by decide +kernel⟩,
   ⟨0, put [(0x1503, 1, 7)] up, by decide +kernel⟩,
   ⟨0, { up with power := { vinUp := true }, now := psS }, by decide +kernel⟩,
   ⟨0, 23, 7, put [(0x1503, 3, 0x800000)] { up with power := { vinUp := true }, now := psS }, by decide +kernel⟩⟩

/-- States and operands that meet the hypotheses of each clause of DomainsAndPowerModes. -/
theorem wit_DomainsAndPowerModes :
  (∃ (src : Source) (d : DomainId) (s : State), (canSet s src 0x1510 (d.val + 1) 1 = true) ∧ (domainOnCheck s d = .ok) ∧ (bootHeld s d = false)) ∧
  (∃ (src : Source) (d : DomainId) (s : State), (canSet s src 0x1510 (d.val + 1) 0 = true) ∧ (bootHeld s d = false) ∧ (¬ (d.val = 38 ∧ holder s 0x72 = 0x0700)) ∧ (¬ (d.val = 40 ∧ holder s 0x73 = 0x0700))) ∧
  (∃ (src : Source) (d : DomainId) (s : State), (canSet s src 0x1510 (d.val + 1) 2 = true) ∧ (bootHeld s d = false) ∧ (d.val < 24) ∧ (domState s d = 2)) ∧
  (∃ (t : Nat) (d : DomainId) (s : State), (runs t s = true) ∧ (domState s d = 1) ∧ ((d.val = 36 ∨ d.val = 37 → lpddrState s (d.val - 36) = 3))) ∧
  (∃ (t : Nat) (d : DomainId) (s : State), (runs t s = true) ∧ (domState s d = 1)) ∧
  (∃ (t : Nat) (d : DomainId) (s : State), (runs t s = true) ∧ (domState s d = 3) ∧ (housedOff s d = true)) ∧
  (∃ (t : Nat) (d : DomainId) (s : State), (runs t s = true) ∧ (domState s d = 4) ∧ (networkDrained s d = true) ∧ (stamp s 0x1511 (d.val + 1) + 128000 ≤ (at_ t s).now)) ∧
  (∃ (t : Nat) (d : DomainId) (s : State), (runs t s = true) ∧ (domState s d = 5)) ∧
  (∃ (src : Source) (s : State), (canSet s src 0x1500 0x01 0 = true)) ∧
  (∃ (src : Source) (s : State), (calm s.now s = true) ∧ (quiet s = true) ∧ ((ethOf s 0).buffer = []) ∧ ((ethOf s 1).buffer = []) ∧ (inLineStop s = true) ∧ (plantSource src = true) ∧ (sourceUp s src = true) ∧ (bitOf s.power.wakeEnable 4 = true) ∧ (s.power.vinUp = true) ∧ (s.power.thermalHeld = false)) ∧
  (∃ (src : Source) (s : State), (canSet s src 0x1500 0x01 1 = true) ∧ (lineStopOk s = true)) ∧
  (∃ (src : Source) (s : State), (canSet s src 0x1500 0x01 2 = true) ∧ (rd s 0x1300 0x01 = 0)) ∧
  (∃ (src : Source) (s : State), (canSet s src 0x1500 0x01 3 = true) ∧ (rd s 0x1300 0x01 = 0)) ∧
  (∃ (t : Nat) (t0 : Nat) (s : State), (runs t s = true) ∧ (s.power.lineStopAt = some t0) ∧ (networkQuiet (at_ t s) = true) ∧ (lineStopOk s = true) ∧ (s.power.shutdown = none) ∧ ((at_ t s).now ≤ t0 + psMs)) ∧
  (∃ (t : Nat) (t0 : Nat) (s : State), (runs t s = true) ∧ (s.power.lineStopAt = some t0) ∧ (t0 + psMs ≤ (at_ t s).now)) ∧
  (∃ (t : Nat) (cause : Fin 5) (s : State), (calm t s = true) ∧ (quiet s = true) ∧ ((ethOf s 0).buffer = []) ∧ ((ethOf s 1).buffer = []) ∧ (bitOf s.power.wakeEnable cause = true) ∧ (wakeDue (at_ t s) cause = true) ∧ (s.power.vinUp = true) ∧ (s.power.thermalHeld = false) ∧ ((s.power.asleep ≠ 0 ∨ rd s 0x1500 0x01 = 1 ∧ domOn s 41 = true))) ∧
  (∃ (t : Nat) (k : TrigId) (rising : Bool) (s : State), (calm t s = true) ∧ (quiet s = true) ∧ ((ethOf s 0).buffer = []) ∧ ((ethOf s 1).buffer = []) ∧ (inLineStop s = true) ∧ (bitOf s.power.wakeEnable 2 = true) ∧ (wakeEdge s 0 k rising = true) ∧ (s.power.vinUp = true) ∧ (s.power.thermalHeld = false)) ∧
  (∃ (t : Nat) (p : PortId) (s : State), (calm t s = true) ∧ (quiet s = true) ∧ ((ethOf s 0).buffer = []) ∧ ((ethOf s 1).buffer = []) ∧ (inLineStop s = true) ∧ (bitOf s.power.wakeEnable 4 = true) ∧ (sdoServed s p = true) ∧ (s.power.vinUp = true) ∧ (s.power.thermalHeld = false)) :=
  ⟨⟨.core 0, 23, put [(0x1511, 24, 5)] up, by decide +kernel⟩,
   ⟨.core 0, 23, up, by decide +kernel⟩,
   ⟨.core 0, 23, up, by decide +kernel⟩,
   ⟨0, 37, put [(0x1511, 38, 1), (0x5031, 4, 3)] up, by decide +kernel⟩,
   ⟨0, 37, put [(0x1511, 38, 1)] up, by decide +kernel⟩,
   ⟨0, 23, put [(0x1511, 24, 3)] up, by decide +kernel⟩,
   ⟨0, 23, put [(0x1511, 24, 4)] up, by decide +kernel⟩,
   ⟨0, 23, put [(0x1511, 24, 5), (0x1512, 24, 1)] up, by decide +kernel⟩,
   ⟨.core 0, up, by decide +kernel⟩,
   ⟨.eth 0, put [(0x1500, 1, 1), (0x1210, 1, 1), (0x1210, 0x0D, 1)] { up with power := { vinUp := true, wakeEnable := 16 } }, by decide +kernel⟩,
   ⟨.core 0, up, by decide +kernel⟩,
   ⟨.core 0, up, by decide +kernel⟩,
   ⟨.core 0, up, by decide +kernel⟩,
   ⟨0, 1000000, { up with power := { vinUp := true, lineStopAt := some 1000000 } }, by decide +kernel⟩,
   ⟨0, 0, { up with power := { vinUp := true, lineStopAt := some 0 }, now := psS }, by decide +kernel⟩,
   ⟨0, 0, { State.reset with power := { vinUp := true, asleep := 3, wakeEnable := 1 } }, by decide +kernel⟩,
   ⟨0, 23, true, put [(0x1500, 1, 1)] { up with power := { vinUp := true, wakeEnable := 4, wakeTriggers := [{ trigger := 23, input := 0, edge := 0, enc := 0, pos := 0, high := 0, lockout := 0, accepted := none }] } }, by decide +kernel⟩,
   ⟨0, 1, put [(0x1500, 1, 1), (0x1221, 1, 1), (0x1221, 2, 9), (0x1221, 5, 5)] { up with power := { vinUp := true, wakeEnable := 16 } }, by decide +kernel⟩⟩

/-- States and operands that meet the hypotheses of each clause of BootAndStores. -/
theorem wit_BootAndStores :
  (∃ (t : Nat) (s : State), (calm t s = true) ∧ (s.power.booting = true) ∧ (s.power.thermalHeld = false) ∧ (bootState s ≤ 4)) ∧
  (∃ (src : Source) (s : State), (canSet s src 0x1100 0x01 0x65766173 = true) ∧ (rd s 0x1102 0x01 ≠ 1) ∧ (domOn s 40 = true) ∧ ((paramImage s false).length ≤ 0x20000)) ∧
  (∃ (src : Source) (s : State), (canSet s src 0x1101 0x01 0x64616F6C = true) ∧ (rd s 0x1102 0x01 ≠ 1) ∧ (domOn s 40 = true)) ∧
  (∃ (t : Nat) (img : List Byte) (dirty : Bool) (s : State), (runs t s = true) ∧ (s.nvm.storing = some (img, dirty))) ∧
  (∃ (src : Source) (b : List Byte) (s : State), (canPut s src 0x1402 0x00 b = true) ∧ (checksAtOnce s = true) ∧ (s.security.updating = none)) ∧
  (∃ (t : Nat) (k : Nat) (preferred : Nat) (seq : Nat) (es : List DirEntry) (e : DirEntry) (b : List Byte) (s : State), (runs t s = true) ∧ (s.security.updating = some b) ∧ (updateDir s = (k, preferred, es, seq)) ∧ (es.find? (fun x => x.ty == (if preferred == 0 then 2 else 1)) = some e) ∧ (e.offset ≠ 0x1000 * (1 - k))) ∧
  (∃ (t : Nat) (b : List Byte) (s : State), (runs t s = true) ∧ (s.security.updating = some b)) ∧
  (∃ (src : Source) (s : State), (canSet s src 0x1700 0x01 0x70616E73 = true) ∧ (rd s 0x1700 0x02 ≠ 1) ∧ (domOn s 40 = true)) ∧
  (∃ (t : Nat) (img : List Byte) (s : State), (runs t s = true) ∧ (quiet s = true) ∧ (s.nvm.snapping = some img)) ∧
  (∃ (src : Source) (s : State), (canSet s src 0x1700 0x06 0x726C63 = true)) :=
  ⟨⟨0, { up with obj := [(0x140001, 1), (0x15112A, 2)], power := { vinUp := true, booting := true } }, by decide +kernel⟩,
   ⟨.core 0, up, by decide +kernel, by decide +kernel, by decide +kernel, Laws.paramImage_len _ rfl (by decide +kernel)⟩,
   ⟨.core 0, up, by decide +kernel⟩,
   ⟨0, [1, 2, 3, 4, 5, 6, 7, 8, 9, 0, 0, 0, 4], false, { up with nvm := { storing := some ([1, 2, 3, 4, 5, 6, 7, 8, 9, 0, 0, 0, 4], false), paramA := [5] } }, by decide +kernel⟩,
   ⟨.core 0, [1, 2], up, by decide +kernel⟩,
   ⟨0, 1, 1, 0, (updateDir ({ up with security := { updating := some [7] } })).2.2.1, { ty := 1, slot := 0, flags := 0, offset := 0x2000, length := 0 }, [7], { up with security := { updating := some [7] } }, by decide +kernel⟩,
   ⟨0, [7], { up with security := { updating := some [7] } }, by decide +kernel⟩,
   ⟨.core 0, up, by decide +kernel⟩,
   ⟨0, [7], { up with nvm := { snapping := some [7] } }, by decide +kernel⟩,
   ⟨.core 0, up, by decide +kernel⟩⟩

/-- States and operands that meet the hypotheses of each clause of KeysMailboxesAndAttestation. -/
theorem wit_KeysMailboxesAndAttestation :
  (∃ (t : Nat) (n : CoreId) (s : State), (runs t s = true) ∧ (securityOn s = true) ∧ ((mailboxOf s n).status % 256 ≠ 1)) ∧
  (∃ (t : Nat) (n : CoreId) (s : State), (runs t s = true) ∧ (securityOn s = true) ∧ ((mailboxOf s n).status % 256 ≠ 1)) ∧
  (∃ (t : Nat) (n : CoreId) (s : State), (runs t s = true) ∧ (securityOn s = true) ∧ ((mailboxOf s n).status % 256 ≠ 1)) ∧
  (∃ (t : Nat) (n : CoreId) (s : State), (runs t s = true) ∧ (securityOn s = true) ∧ ((mailboxOf s n).status % 256 ≠ 1)) ∧
  (∃ (t : Nat) (n : CoreId) (s : State), (runs t s = true) ∧ (securityOn s = true) ∧ ((mailboxOf s n).status % 256 ≠ 1) ∧ (rd s 0x140B 0x01 ≠ 2)) ∧
  (∃ (t : Nat) (n : CoreId) (r : Except Status (List Byte)) (s : State) (s1 : State), (runs t s = true) ∧ (quiet s = true) ∧ (mailboxServed (at_ t s) n = true) ∧ (portsFree (at_ t s) = true) ∧ (rangeBorrowed (at_ t s) (mailboxOf s n).source (mailboxOf s n).length = false) ∧ (rangeBorrowed (at_ t s) (mailboxOf s n).dest (mailboxOf s n).outLength = false) ∧ (mailboxResult (mailboxUse (at_ t s) n (mailboxOf s n)) n (mailboxOf s n) = (s1, r))) ∧
  (∃ (t : Nat) (s : State), (runs t s = true) ∧ (securityOn s = true) ∧ (rd s 0x140B 0x01 ≠ 2)) ∧
  (∃ (src : Source) (s : State), (canSet s src 0x140B 0x02 1 = true)) ∧
  (∃ (t : Nat) (s : State), (runs t s = true) ∧ (securityOn s = true) ∧ (rd s 0x140B 0x01 = 0)) ∧
  (∃ (src : Source) (s : State), (canRead s src = true) ∧ (securityOn s = true)) ∧
  (∃ (src : Source) (b : List Byte) (s : State), (canPut s src 0x1404 0x00 b = true) ∧ (domOn s 40 = true) ∧ (keyType s 1 = 0)) ∧
  (∃ (src : Source) (b : List Byte) (s : State), (canPut s src 0x140A 0x01 b = true) ∧ (rd s 0x140A 0x02 ≠ 1) ∧ (securityOn s = true)) ∧
  (∃ (t : Nat) (s : State), (runs t s = true) ∧ (quiet s = true) ∧ (attestServed (at_ t s) = true)) ∧
  (∃ (src : Source) (v : Nat) (s : State), (canSet s src 0x140C 0x02 v = true) ∧ (v < 256) ∧ (¬ (loadState s = 1 ∧ rd s 0x2603 0x01 = 1 ∧ rd s 0x2603 0x03 = v)) ∧ (domOn s 40 = true)) ∧
  (∃ (t : Nat) (s : State), (calm t s = true) ∧ (tapOn s = true)) ∧
  (∃ (t : Nat) (balls : List Bool) (scan : List Bool) (s : State), (calm t s = true) ∧ (tapOn s = true) ∧ (balls.length = 180) ∧ (scan.length = 180)) ∧
  (∃ (t : Nat) (balls : List Bool) (scan : List Bool) (s : State), (calm t s = true) ∧ (tapOn s = true) ∧ (balls.length = 180) ∧ (scan.length = 180)) ∧
  (∃ (t : Nat) (s : State), (calm t s = true) ∧ (tapOn s = true)) :=
  ⟨⟨0, 7, up, by decide +kernel⟩,
   ⟨0, 7, up, by decide +kernel⟩,
   ⟨0, 7, up, by decide +kernel⟩,
   ⟨0, 7, up, by decide +kernel⟩,
   ⟨0, 7, up, by decide +kernel⟩,
   ⟨0, 7, (mailboxResult (mailboxUse (at_ 0 (poke 0x20000000 [7] { up with security := { hashing := [.mailbox 7], mailboxes := [(7, { command := 1, status := 1, source := 0x20000000, length := 1, dest := 0x20001000 })] } })) 7 (mailboxOf (poke 0x20000000 [7] { up with security := { hashing := [.mailbox 7], mailboxes := [(7, { command := 1, status := 1, source := 0x20000000, length := 1, dest := 0x20001000 })] } }) 7)) 7 (mailboxOf (poke 0x20000000 [7] { up with security := { hashing := [.mailbox 7], mailboxes := [(7, { command := 1, status := 1, source := 0x20000000, length := 1, dest := 0x20001000 })] } }) 7)).2, poke 0x20000000 [7] { up with security := { hashing := [.mailbox 7], mailboxes := [(7, { command := 1, status := 1, source := 0x20000000, length := 1, dest := 0x20001000 })] } }, (mailboxResult (mailboxUse (at_ 0 (poke 0x20000000 [7] { up with security := { hashing := [.mailbox 7], mailboxes := [(7, { command := 1, status := 1, source := 0x20000000, length := 1, dest := 0x20001000 })] } })) 7 (mailboxOf (poke 0x20000000 [7] { up with security := { hashing := [.mailbox 7], mailboxes := [(7, { command := 1, status := 1, source := 0x20000000, length := 1, dest := 0x20001000 })] } }) 7)) 7 (mailboxOf (poke 0x20000000 [7] { up with security := { hashing := [.mailbox 7], mailboxes := [(7, { command := 1, status := 1, source := 0x20000000, length := 1, dest := 0x20001000 })] } }) 7)).1, by decide +kernel, by decide +kernel, by decide +kernel, by decide +kernel, by decide +kernel, by decide +kernel, rfl⟩,
   ⟨0, up, by decide +kernel⟩,
   ⟨.core 0, put [(0x140B, 1, 2)] up, by decide +kernel⟩,
   ⟨0, up, by decide +kernel⟩,
   ⟨.core 0, put [(0x140B, 1, 1)] up, by decide +kernel⟩,
   ⟨.core 0, List.replicate 2592 7, up, by decide +kernel⟩,
   ⟨.core 0, List.replicate 32 7, up, by decide +kernel⟩,
   ⟨0, put [(0x140A, 2, 1)] { up with security := { signing := [.attest] } }, by decide +kernel⟩,
   ⟨.core 0, 62, { up with cache := [(62, [7])] }, by decide +kernel⟩,
   ⟨0, { up with straps := { jtagEnable := true } }, by decide +kernel⟩,
   ⟨0, List.replicate 180 true, List.replicate 180 false, { up with straps := { jtagEnable := true } }, by decide +kernel⟩,
   ⟨0, List.replicate 180 true, List.replicate 180 false, { up with straps := { jtagEnable := true } }, by decide +kernel⟩,
   ⟨0, { up with straps := { jtagEnable := true } }, by decide +kernel⟩⟩

/-- States and operands that meet the hypotheses of each clause of DictionaryAccesses. -/
theorem wit_DictionaryAccesses :
  (∃ (src : Source) (idx : Nat) (sub : Nat) (v : ObjVal) (o : ObjRef) (s : State), (canWrite s src idx sub v = true) ∧ (plainB idx sub o = true)) ∧
  (∃ (src : Source) (idx : Nat) (sub : Nat) (s : State), (isTrouble idx sub = true) ∧ (canSet s src idx sub 0 = true)) ∧
  (∃ (src : Source) (idx : Nat) (sub : Nat) (v : Nat) (s : State), (isCause idx sub = true) ∧ (canSet s src idx sub v = true)) ∧
  (∃ (n : CoreId) (idx : Nat) (sub : Nat) (o : ObjRef) (s : State), (canRead s (.core n) = true) ∧ (sub < 256) ∧ (idx < 0x7F00) ∧ (storedB idx sub o = true) ∧ (wideType o.desc.ty = true)) ∧
  (∃ (n : CoreId) (idx : Nat) (sub : Nat) (o : ObjRef) (s : State), (quiet s = true) ∧ (served (start s) (.core n) = true) ∧ (sub < 256) ∧ (idx < 0x7F00) ∧ (okIs (resolveObj idx sub) o = true) ∧ (wideType o.desc.ty = true)) ∧
  (∃ (n : CoreId) (idx : Nat) (sub : Nat) (v : Nat) (o : ObjRef) (s : State), (sub < 256) ∧ (idx < 0x7F00) ∧ (plainB idx sub o = true) ∧ (wideType o.desc.ty = true) ∧ (let w := v + (halfOf s.plant.heldHigh n (objKey idx sub)).getD 0 * 2 ^ 32; (canWrite s (.core n) idx sub { ty := o.desc.ty.code, bytes := leBytes 8 w } = true))) ∧
  (∃ (n : CoreId) (o : ObjRef) (s : State), (quiet s = true) ∧ (served (start s) (.core n) = true) ∧ ((domPort s n).job = none) ∧ (let x := domPort s n; (let idx := bitsOf x.object 16 16; (let sub := bitsOf x.object 8 8; (storedB idx sub o = true))))) ∧
  (∃ (n : CoreId) (s : State), (quiet s = true) ∧ (served (start s) (.core n) = true) ∧ ((domPort s n).job = none) ∧ (s.plant.assembly = none) ∧ ((domPort s n).length ≤ stagingSize s)) ∧
  (∃ (t : Nat) (n : CoreId) (j : DomainJob) (s : State), (runs t s = true) ∧ (quiet s = true) ∧ (sourceWaits s (.transfer n) = false) ∧ ((domPort s n).job = some j) ∧ (j.write = false) ∧ (rangeBorrowed (at_ t s) j.buffer j.value.length = false) ∧ (portsFree (at_ t s) = true)) ∧
  (∃ (t : Nat) (n : CoreId) (j : DomainJob) (a : Nat) (o : ObjRef) (s : State), (runs t s = true) ∧ ((domPort s n).job = some j) ∧ (j.write = true) ∧ (rangeBorrowed (at_ t s) j.buffer j.length = false) ∧ (portsFree (at_ t s) = true) ∧ (let idx := bitsOf j.object 16 16; (let sub := bitsOf j.object 8 8; (okIs (bufferAddr s 13 n j.buffer j.length) a = true) ∧ (stagingStatus (at_ t s) = none) ∧ (plainB idx sub o = true) ∧ (canPut s (.transfer n) idx sub (memRead s a j.length) = true)))) :=
  ⟨⟨.core 7, 0x1604, 1, numVal 0x1604 1 5, objAt 0x1604 1, up, by decide +kernel⟩,
   ⟨.core 7, 0x1700, 7, put [(0x1700, 7, 5)] up, by decide +kernel⟩,
   ⟨.core 7, 0x1200, 3, 4, put [(0x1200, 3, 5)] up, by decide +kernel⟩,
   ⟨7, 0x1600, 5, objAt 0x1600 5, put [(0x1600, 5, 2 ^ 40)] up, by decide +kernel⟩,
   ⟨7, 0x1600, 5, objAt 0x1600 5, up, by decide +kernel⟩,
   ⟨7, 0x3010, 3, 9, objAt 0x3010 3, { up with plant := { heldHigh := [(7, objKey 0x3010 3, 6)] } }, by decide +kernel⟩,
   ⟨7, objAt 0x1604 1, put [(0x1604, 1, 5)] { up with plant := { domains := [(7, { object := 0x16040100 , buffer := 0x20000000, length := 8 })] } }, by decide +kernel⟩,
   ⟨7, { up with plant := { domains := [(7, { object := 0x16040100 , buffer := 0x20000000, length := 2 })] } }, by decide +kernel⟩,
   ⟨0, 7, { write := false, object := 0x16040100, buffer := 0x20000000, length := 8, value := [5, 0] }, { up with plant := { domains := [(7, { job := some { write := false, object := 0x16040100, buffer := 0x20000000, length := 8, value := [5, 0] } })] } }, by decide +kernel⟩,
   ⟨0, 7, { write := true, object := 0x16040100, buffer := 0x20000000, length := 2 }, 0x20000000, objAt 0x1604 1, poke 0x20000000 [5, 0] { up with plant := { domains := [(7, { job := some { write := true, object := 0x16040100, buffer := 0x20000000, length := 2 } })] } }, by decide +kernel⟩⟩

/-- Events of the frame statements (EventsKeepOtherParts, EventsKeepOtherRegisters) that answer a next state, in a state that has the premises of every clause. -/
theorem wit_EventsKeep1 : sysRuns up = true ∧ quiet up = true ∧ up.pair.mirror = [] ∧ ∀ c ∈ ([
    .cellFire 0 0 0, .operationComplete 0 0 0 0, .resultDelivery 0 0 0, .configRegisterWrite 0 23 63 7 7 (2 ^ 32 + 5), .lutEntryWrite 0 23 255 9,
    .capoStateWrite 0 23 (32 + 0x1C0 * 0) 0x80000009, .bypassStageTransfer 0 1 0 false, .drillReadItem 0 0 0, .drillWriteAccept 0 0 0,
    .drillWriteStore 0 0 0, .fieldMemoryNetworkAccess 0 23 0x3FFF8 8 false 0, .tuningLoadCopyDone 0, .tuningLoadComplete 0, .retuneCueToken 0 0,
    .drainSwitch 0 0, .retuneLimitExpiry 0 0, .capoBoundary 0, .queueItemWrite 0 0 0 5, .queueItemEndWrite 0 0 0 5, .queuePop 0 32 0,
    .queuePeek 0 32 0, .edgePortInputToken 0 0, .edgePortOutputToken 0 31, .spillWrite 0 0, .spillRead 0 0, .dmaInputRecord 0 0,
    .dmaOutputRecord 0 32, .flushComplete 0 0, .stagedRegionApply 0 0, .queueStartComplete 0 0, .queueStopComplete 0 0,
    .quadratureCount 0 0 true false, .handoffToAon 0 3, .aonCount 0 3 true false, .handoffFromAon 0 3, .encoderIndex 0 3 true,
    .encoderStartComplete 0 3, .encoderStopComplete 0 3, .productRetire 0 7, .triggerEdge 0 23 false, .activeCopySwitch 0 23, .formatterWord 0 23,
    .fireFrameLaunch 0 23, .barStartComplete 0 23, .barStopComplete 0 23, .mgmtReply 0 23 (23 * 2 ^ 5 + 4 * 2 ^ 10 + 8) ([1, 2, 3, 4]) true,
    .mgmtTimeout 0 29, .headStatus 0 23 (23 * 2 ^ 5 + 32 * 2 ^ 10 + 16 + 9) (List.replicate 32 7) true,
    .nozzleReport 0 23 (23 * 2 ^ 5 + 8 * 2 ^ 10 + 10) ([1, 0, 0, 0, 5, 0, 0, 0]) true, .headSilent 0 23, .rejectDecision 0 11, .rejectPulseEnd 0 11,
    .imageLine 0 5 true (5 * 2 ^ 8 + 16 * 2 ^ 11 + 2 ^ 32 + 10) (List.replicate 16 9) true, .lineLostTimeout 0 5,
    .bridgeStatus 0 5 (5 * 2 ^ 8 + 32 * 2 ^ 11 + 9) (List.replicate 32 9) true, .bridgeSilent 0 5, .cameraStartComplete 0 5, .cameraStopComplete 0 5,
    .archiveRecord 0, .baseInstruction 0 7, .callw 0 7, .callwr 0 7, .retw 0 7, .smm 0 7 32, .smmO 0 7 32, .lmm 0 7 32, .lmmO 0 7 32, .spillw 0 7,
    .fillw 0 7, .rep 0 7, .repr 0 7, .loop 0 7, .fmac 0 7, .fmsc 0 7, .fmula 0 7] : List Instr), isNext (exec c up) = true := by
  decide +kernel

/-- Events of the frame statements (EventsKeepOtherParts, EventsKeepOtherRegisters) that answer a next state, in a state that has the premises of every clause. -/
theorem wit_EventsKeep2 : sysRuns up = true ∧ quiet up = true ∧ up.pair.mirror = [] ∧ ∀ c ∈ ([
    .fmacf 0 7, .fmscf 0 7, .xld 0 7, .yld 0 7, .xst 0 7, .yst 0 7, .fmvaf 0 7, .fmvfa 0 7, .accz 0 7, .accsum 0 7, .accumulatorWrite 0 7, .mret 0 7,
    .interrupt 0 7, .coreHalted 0 7, .eventGrant 0, .delayDue 0 4, .tick 0, .intervalTimerDue 0 5, .taskOffer 0, .dispatchTimeout 0 7,
    .bankAccessGrant 0 31, .harrowBorrow 0 ([]), .harrowRestoreComplete 0, .lpddrInitDone 0 1, .lpddrTrainingDone 0 1 5, .lpddrMr4Read 0 1 31,
    .lpddrZqLatch 0 1, .lpddrWck2dqTracking 0 1, .lpddrRefresh 0 1,
    .lpddrWriteRefused 0 (some (5, 7)), .networkRequest 0 14 0x200FFFF8 4 true 9,
    .portStallTimeout 0 14 31, .niTableSwap 0 14, .routerReconfigApply 0, .lanePllLock 0 39, .laneDataEntry 0 39, .laneLinkDrop 0 39 true,
    .laneStatusSet 0 39 false, .laneStatusSend 0 39 true, .laneStatusSilence 0 39, .acquireTimeout 0 39, .laneStopComplete 0 39, .refclkLost 0,
    .refclkRestored 0, .dfeAdapt 0 39 ([1, 1, -1, -5, 0, 3]), .prbsLock 0 39, .prbsLockLoss 0 39, .prbsBitError 0 39, .blockError 0 39 true true,
    .segmentTimeout 0, .arpRequest 0 1 5 6 (rd (put [(0x1211, 1, 1), (0x1211, 0x0D, 1), (0x1200, 1, 9)] { up with plant := {  } }) (ethE 1) 0x04),
    .icmpEcho 0 1 6 (rd (put [(0x1211, 1, 1), (0x1211, 0x0D, 1), (0x1200, 1, 9)] { up with plant := {  } }) (ethE 1) 0x04) ([1, 2, 3]),
    .canHeartbeat 0 1, .canBusOff 0 1, .tpdoCyclic 0 15, .canBusStateChange 0 1 true, .nmtStart 0 1 9, .nmtStop 0 1 0, .nmtEnterPreOperational 0 1 0,
    .nmtResetNode 0 1 0, .nmtResetCommunication 0 1 0, .sdoUpload 0 1 0x1604 1 0 2, .sdoTimeout 0 1, .canSync 0 1, .ptpSync 0 1 4 77 5 none,
    .ptpFollowUp 0 1 4 77 5 800, .ptpAnnounce 0 1 4 77 99 1 2 3 0, .ptpDelayReq 0, .ptpDelayResp 0 1 4 77 5 2000, .announceReceiptTimeout 0,
    .ppsInEdge 0, .ppsOutSecond 0, .ethLinkChange 0 1 true, .ppsOutWidthEnd 0, .storeComplete 0 true] : List Instr), isNext (exec c up) = true := by
  decide +kernel

/-- Events of the frame statements (EventsKeepOtherParts, EventsKeepOtherRegisters) that answer a next state, in a state that has the premises of every clause. -/
theorem wit_EventsKeep3 : sysRuns up = true ∧ quiet up = true ∧ up.pair.mirror = [] ∧ ∀ c ∈ ([
    .flashUpdateComplete 0 true, .snapshotWriteComplete 0 true, .supplyOvercurrent 0 1, .lpddrSupplyFault 0 1, .pllLockLoss 0 false true,
    .rcTrim 0 (-5), .furrowClockGate 0 23 7, .lfxoStop 0, .resetOutRelease 0, .domainStartComplete 0 37 true, .domainFenceApplied 0 23,
    .domainDrainComplete 0 23, .domainStopComplete 0 23, .lineStopClockStop 0, .lineStopEntryTimeout 0, .jtagTestLogicReset 0, .mailboxSha3512 0 7,
    .mailboxShake256 0 7, .mailboxVerify 0 7, .mailboxSign 0 7, .mailboxRandom 0 7, .trngHealthFail 0, .tapBypass 0 ([true, false]),
    .tapSamplePreload 0 (List.replicate 180 true) (List.replicate 180 false), .tapExtest 0 (List.replicate 180 true) (List.replicate 180 false),
    .tapIdcode 0, .trngStartupComplete 0 false, .mailboxComplete 0 7, .attestDone 0, .journalWriteComplete 0 true, .serialValueComputed 0 31,
    .serialRecovery 0, .ledgerRecordWrite 0, .checkpointStart 0, .checkpointPublish 0, .hello 0 3 1 ([9, 0, 1] ++ List.replicate 45 0) true,
    .helloSend 0, .heartbeat 0 3 2 (List.replicate 16 0) true, .heartbeatSend 0 3, .ack 0 3 5 3 ([0, 0, 0, 0]) true,
    .nak 0 3 5 3 ([0, 0, 0, 0]) true, .snapshot 0 3 4 ([8, 0, 0, 0, 0, 0, 0, 0, 9]) true, .pairLaneHeartbeatTimeout 0 3, .arbitrationTimeout 0,
    .watchdogExpiry 0 true, .sidebandLowTimeout 0 false false, .linkLost 0, .linkLost200us 0, .orderedAnswerTimeout 0,
    .commit 0 3 1 2 ([31, 0, 0, 0, 7, 0, 0, 0, 5, 0, 0, 0, 0, 0, 0, 0] ++ List.replicate 16 0) true,
    .reserve 0 3 1 2 ([31] ++ List.replicate 15 0) true, .mapSwitch 0 3 1 2 ([23, 1, 1, 0, 9, 0, 0, 0, 5, 0, 0, 0, 0, 0, 0, 0]) true,
    .checkpointState 0 3 1 2 ([5, 0, 0, 0, 0, 0, 0, 0, 9] ++ List.replicate 335 0) true,
    .digest 0 3 1 2 ([7, 0, 0, 0, 1] ++ List.replicate 11 0) true, .orphan 0 3 1 5 ([0, 0, 0, 0]) true, .cut 0 3 1 4 (List.replicate 320 0) true,
    .resyncDone 0 3 1 3 ([]) true, .positionMark 0 3 1 4 ([3, 0, 0, 0, 0, 0, 0, 0, 60, 0, 0, 0, 0, 0, 0, 0, 9, 0, 0, 0, 0, 0, 0, 0]) true,
    .encoderIdleAlign 0 3 (some 77), .resyncCut 0 5, .resyncHoldLimit 0, .snapshotEnd 0 3 1 4 (List.replicate 72 0) true, .catchUpComplete 0,
    .resyncTimeout 0] : List Instr), isNext (exec c up) = true := by
  decide +kernel

/-- Writes that meet the premises of the clauses of WritesKeepTheRest. -/
theorem wit_WritesKeepTheRest1 :
  (∃ (src : Source) (idx sub : Nat) (v : ObjVal) (s : State), served (start s) src = false ∧ isNext (exec (.objectWrite src idx sub v) s) = true) ∧
  (∃ (src : Source) (idx sub : Nat) (v : ObjVal) (o : ObjRef) (e : Status) (s : State), quiet s = true ∧ served (start s) src = true ∧ s.pair.mirror = [] ∧ okIs (resolveObj idx sub) o = true ∧ o.desc.ty ≠ .domain ∧ v.bytes.length ≤ 1024 ∧ writeCheck (start s) src o v = some e ∧ isNext (exec (.objectWrite src idx sub v) s) = true) ∧
  (∃ (src : Source) (idx sub : Nat) (v : ObjVal) (o : ObjRef) (s : State), plainB idx sub o = true ∧ canWrite s src idx sub v = true ∧ isNext (exec (.objectWrite src idx sub v) s) = true) ∧
  (∃ (src : Source) (idx : Nat) (sub : Nat) (v : Nat) (s : State), isTrouble idx sub = true ∧ canSet s src idx sub v = true ∧ isNext (exec (.troubleCounterClear src idx sub v) s) = true) ∧
  (∃ (src : Source) (idx : Nat) (sub : Nat) (v : Nat) (s : State), isCause idx sub = true ∧ canSet s src idx sub v = true ∧ isNext (exec (.eventCauseClear src idx sub v) s) = true) ∧
  (∃ (src : Source) (r : Fin 4) (v : Nat) (s : State), canSet s src (0x2600) (r.val + 1) (v) = true ∧ isNext (exec (.rowBypassWrite src r v) s) = true) ∧
  (∃ (src : Source) (s : State), canSet s src (0x2603) 5 (1) = true ∧ isNext (exec (.tuningLoadGo src) s) = true) ∧
  (∃ (src : Source) (f : FieldId) (s : State), canSet s src (0x2005 + 0x40 * f.val) 7 (1) = true ∧ isNext (exec (.retuneGo src f) s) = true) ∧
  (∃ (src : Source) (s : State), canSet s src (0x2602) 8 (1) = true ∧ isNext (exec (.groupRetuneGo src) s) = true) ∧
  (∃ (src : Source) (f : FieldId) (s : State), canSet s src (0x2005 + 0x40 * f.val) 8 (1) = true ∧ isNext (exec (.retuneCancel src f) s) = true) ∧
  (∃ (src : Source) (s : State), canSet s src (0x2601) 1 (1) = true ∧ isNext (exec (.capoHold src) s) = true) ∧
  (∃ (src : Source) (s : State), canSet s src (0x2601) 1 (0) = true ∧ isNext (exec (.capoRelease src) s) = true) ∧
  (∃ (src : Source) (f : FieldId) (s : State), canSet s src (0x2001 + 0x40 * f.val) 0 (0) = true ∧ isNext (exec (.fieldHalt src f) s) = true) ∧
  (∃ (src : Source) (f : FieldId) (s : State), canSet s src (0x2001 + 0x40 * f.val) 0 (1) = true ∧ isNext (exec (.fieldRun src f) s) = true) ∧
  (∃ (src : Source) (f : FieldId) (s : State), canSet s src (0x2002 + 0x40 * f.val) 0 (1) = true ∧ isNext (exec (.fieldClear src f) s) = true) ∧
  (∃ (src : Source) (f : FieldId) (slot : Nat) (s : State), canSet s src (0x1702) (f.val + 1) (slot) = true ∧ isNext (exec (.activateSlot src f slot) s) = true) ∧
  (∃ (src : Source) (q : QueueId) (v : Nat) (s : State), canSet s src (qc q.val) 0xB (v) = true ∧ isNext (exec (.dmaHostIndexWrite src q v) s) = true) ∧
  (∃ (src : Source) (q : QueueId) (s : State), canSet s src (qc q.val) 7 (1) = true ∧ isNext (exec (.queueFlush src q) s) = true) ∧
  (∃ (src : Source) (q : QueueId) (s : State), canSet s src (qc q.val) 7 (2) = true ∧ isNext (exec (.queueFlushApply src q) s) = true) ∧
  (∃ (src : Source) (q : QueueId) (length : Bool) (v : Nat) (s : State), canSet s src (qc q.val) (if length then 6 else 5) (v) = true ∧ isNext (exec (.spillRegionWrite src q length v) s) = true) ∧
  (∃ (src : Source) (q : QueueId) (s : State), canSet s src (qc q.val) 1 (1) = true ∧ isNext (exec (.queueEnable src q) s) = true) ∧
  (∃ (src : Source) (q : QueueId) (s : State), canSet s src (qc q.val) 1 (0) = true ∧ isNext (exec (.queueDisable src q) s) = true) ∧
  (∃ (src : Source) (e : EncId) (s : State), canSet s src (ex e.val) 1 (1) = true ∧ isNext (exec (.encoderEnable src e) s) = true) ∧
  (∃ (src : Source) (e : EncId) (s : State), canSet s src (ex e.val) 1 (0) = true ∧ isNext (exec (.encoderDisable src e) s) = true) ∧
  (∃ (src : Source) (e : EncId) (v : Nat) (s : State), canSet s src (ex e.val) 7 (v) = true ∧ isNext (exec (.positionPreset src e v) s) = true) ∧
  (∃ (src : Source) (g : GenId) (s : State), canSet s src (gx g.val) 1 (1) = true ∧ isNext (exec (.lineGenEnable src g) s) = true) :=
  ⟨⟨.eth 0, 0x1600, 6, numVal 0x1600 6 100, State.reset, by decide +kernel⟩,
   ⟨.core 0, 0x1000, 0, numVal 0x1000 0 5, objAt 0x1000 0, .readOnly, up, by decide +kernel⟩,
   ⟨.core 7, 0x1604, 1, numVal 0x1604 1 5, objAt 0x1604 1, up, by decide +kernel⟩,
   ⟨.core 7, 0x1700, 7, 0, put [(0x1700, 7, 5)] up, by decide +kernel⟩,
   ⟨.core 7, 0x1200, 3, 4, put [(0x1200, 3, 5)] up, by decide +kernel⟩,
   ⟨.core 0, 3, 5, up, by decide +kernel⟩,
   ⟨.core 0, put [(0x2603, 1, 1), (0x2603, 3, 62)] { up with cache := [(62, [])] }, by decide +kernel⟩,
   ⟨.core 7, 23, put [(0x25C0, 3, 0), (0x25C1, 0, 1), (0x25C5, 1, 2), (0x25C5, 2, 1), (0x25C5, 3, 0)] (fld 23 { frozenAt := none, slots := [(0, { st := 3 }), (2, { st := 2 })] } up), by decide +kernel⟩,
   ⟨.core 0, put [(0x25C0, 3, 0), (0x25C1, 0, 1), (0x2602, 1, 2), (0x2602, 3, 0), (0x2602, 7, 0x800000)] (fld 23 { frozenAt := none, slots := [(0, { st := 3 }), (2, { st := 2 })] } up), by decide +kernel⟩,
   ⟨.core 0, 23, put [(0x25C6, 1, 1)] (fld 23 { retune := some { target := 2 } } up), by decide +kernel⟩,
   ⟨.core 0, up, by decide +kernel⟩,
   ⟨.core 0, put [(0x2601, 1, 1), (0x2601, 2, 2)] up, by decide +kernel⟩,
   ⟨.core 0, 23, put [(0x25C1, 0, 1)] (fld 23 { frozenAt := none } up), by decide +kernel⟩,
   ⟨.core 0, 23, put [(0x25C0, 3, 0)] up, by decide +kernel⟩,
   ⟨.core 0, 23, fld 23 { cells := [(63, { win := [{}], skids := [(0, [{}])], banked := [(0, 3)] })], bus := [(0, {})] } up, by decide +kernel⟩,
   ⟨.core 0, 23, 7, fld 23 { slots := [(7, { st := 2 })] } up, by decide +kernel⟩,
   ⟨.core 0, 0, 48, put [(0x2801, 1, 2), (0x2800, 3, 2), (0x2800, 9, 0x20000000), (0x2800, 0xA, 64)] (que 0 { dmaStopped := true } up), by decide +kernel⟩,
   ⟨.core 0, 63, put [(0x287F, 1, 2)] up, by decide +kernel⟩,
   ⟨.core 0, 63, put [(0x287F, 1, 2)] up, by decide +kernel⟩,
   ⟨.core 0, 0, true, 0, up, by decide +kernel⟩,
   ⟨.core 0, 0, put [(0x2800, 3, 2), (0x2800, 9, 0x20000000), (0x2800, 0xA, 4096), (0x2800, 5, 0x20001000), (0x2800, 6, 4096)] up, by decide +kernel⟩,
   ⟨.core 0, 63, put [(0x287F, 1, 2)] up, by decide +kernel⟩,
   ⟨.core 0, 3, put [(0x3003, 5, 1)] up, by decide +kernel⟩,
   ⟨.core 0, 3, put [(0x3003, 1, 1), (0x3003, 0x0C, 2)] up, by decide +kernel⟩,
   ⟨.core 0, 3, 77, up, by decide +kernel⟩,
   ⟨.core 0, 3, put [(0x3003, 0x0C, 2), (0x3013, 4, 4294967296), (0x3003, 8, 5)] up, by decide +kernel⟩⟩

/-- Writes that meet the premises of the clauses of WritesKeepTheRest. -/
theorem wit_WritesKeepTheRest2 :
  (∃ (src : Source) (g : GenId) (s : State), canSet s src (gx g.val) 1 (0) = true ∧ isNext (exec (.lineGenDisable src g) s) = true) ∧
  (∃ (src : Source) (k : TrigId) (s : State), canSet s src (tx k.val) 1 (1) = true ∧ isNext (exec (.triggerEnable src k) s) = true) ∧
  (∃ (src : Source) (k : TrigId) (s : State), canSet s src (tx k.val) 1 (0) = true ∧ isNext (exec (.triggerDisable src k) s) = true) ∧
  (∃ (src : Source) (b : BarId) (v : Nat) (s : State), canSet s src (bx b.val 4) 7 (v) = true ∧ isNext (exec (.mapEdit src b v) s) = true) ∧
  (∃ (src : Source) (b : BarId) (bytes : List Byte) (s : State), canPut s src (bx b.val 4) 8 bytes = true ∧ isNext (exec (.mapImageWrite src b bytes) s) = true) ∧
  (∃ (src : Source) (b : BarId) (s : State), canSet s src (bx b.val 0) 1 (1) = true ∧ isNext (exec (.barEnable src b) s) = true) ∧
  (∃ (src : Source) (b : BarId) (s : State), canSet s src (bx b.val 0) 1 (0) = true ∧ isNext (exec (.barDisable src b) s) = true) ∧
  (∃ (src : Source) (unit : Fin 30) (bytes : List Byte) (s : State), canPut s src (mgmtIndex unit.val) (if unit.val < 24 then 1 else 0x11) bytes = true ∧ isNext (exec (.mgmtRequest src unit bytes) s) = true) ∧
  (∃ (src : Source) (j : GateId) (s : State), canSet s src (gc j.val) 1 (1) = true ∧ isNext (exec (.gateEnable src j) s) = true) ∧
  (∃ (src : Source) (j : GateId) (s : State), canSet s src (gc j.val) 1 (0) = true ∧ isNext (exec (.gateDisable src j) s) = true) ∧
  (∃ (src : Source) (j : GateId) (v : Nat) (s : State), canSet s src (gc j.val) 6 (v) = true ∧ isNext (exec (.polarityWrite src j v) s) = true) ∧
  (∃ (src : Source) (id : Nat) (s : State), canSet s src (0x3201) 3 (id) = true ∧ isNext (exec (.forceReject src id) s) = true) ∧
  (∃ (src : Source) (k : CamId) (s : State), canSet s src (cc k.val) 1 (1) = true ∧ isNext (exec (.cameraEnable src k) s) = true) ∧
  (∃ (src : Source) (k : CamId) (s : State), canSet s src (cc k.val) 1 (0) = true ∧ isNext (exec (.cameraDisable src k) s) = true) ∧
  (∃ (src : Source) (v : Nat) (s : State), canSet s src (0x3801) 1 (v) = true ∧ isNext (exec (.verdictPost src v) s) = true) ∧
  (∃ (src : Source) (v : Nat) (s : State), canSet s src (0x3802) 0x1D (v) = true ∧ isNext (exec (.healthPost src v) s) = true) ∧
  (∃ (src : Source) (a : AllotId) (s : State), canSet s src (0x4020 + 2 * a.val) 1 (1) = true ∧ isNext (exec (.allotmentRetire src a) s) = true) ∧
  (∃ (src : Source) (checkpoint : Bool) (size : Bool) (v : Nat) (s : State), canSet s src (if checkpoint then 0x4009 else 0x4008) (if size then 2 else 1) (v) = true ∧ isNext (exec (.ledgerRingWrite src checkpoint size v) s) = true) ∧
  (∃ (src : Source) (s : State), canSet s src (0x1300) 1 (1) = true ∧ isNext (exec (.pairEnable src) s) = true) ∧
  (∃ (src : Source) (s : State), canSet s src (0x1300) 6 (1) = true ∧ isNext (exec (.firmwareKick src) s) = true) ∧
  (∃ (src : Source) (s : State), canSet s src (0x1302) 1 (1) = true ∧ isNext (exec (.resyncRequest src) s) = true) ∧
  (∃ (src : Source) (n : CoreId) (s : State), canSet s src (cP n.val) 1 (1) = true ∧ isNext (exec (.coreRun src n) s) = true) ∧
  (∃ (src : Source) (n : CoreId) (s : State), canSet s src (cP n.val) 1 (0) = true ∧ isNext (exec (.coreHalt src n) s) = true) ∧
  (∃ (src : Source) (n : CoreId) (s : State), canSet s src (cP n.val) 3 (1) = true ∧ isNext (exec (.coreReset src n) s) = true) ∧
  (∃ (src : Source) (v : Nat) (s : State), canSet s src (0x1601) 0 (v) = true ∧ isNext (exec (.eventRaiseWrite src v) s) = true) ∧
  (∃ (src : Source) (bytes : List Byte) (s : State), canPut s src (0x1618) 2 bytes = true ∧ isNext (exec (.coalescedMapClear src bytes) s) = true) :=
  ⟨⟨.core 0, 3, put [(0x3013, 1, 1)] up, by decide +kernel⟩,
   ⟨.core 0, 23, put [(0x3010, 1, 1), (0x3037, 9, 0), (0x3037, 0x0A, 0xFF), (0x3037, 0x0C, 9)] up, by decide +kernel⟩,
   ⟨.core 0, 23, put [(0x3037, 1, 1)] up, by decide +kernel⟩,
   ⟨.core 0, 23, 15 + 5 * 2 ^ 32, put [(bx 23 0, 3, 16)] up, by decide +kernel⟩,
   ⟨.core 0, 23, ((List.replicate 16 [9, 0, 0, 0]).flatten), put [(bx 23 0, 3, 16)] up, by decide +kernel⟩,
   ⟨.core 0, 23, put [(bx 23 0, 3, 16), (gx 0, 1, 1)] up, by decide +kernel⟩,
   ⟨.core 0, 23, put [(bx 23 0, 1, 1), (bx 23 0, 4, 2)] up, by decide +kernel⟩,
   ⟨.core 0, 29, [1, 15, 0, 0, 0, 0, 0, 1], up, by decide +kernel⟩,
   ⟨.core 0, 11, up, by decide +kernel⟩,
   ⟨.core 0, 11, put [(gc 11, 1, 1)] up, by decide +kernel⟩,
   ⟨.core 0, 11, 1, up, by decide +kernel⟩,
   ⟨.core 0, 7, prods [{ id := 7, lane := 0, trigger := 0, enc := 0, gen := 0, pos := 0, line := 0, due := 1, gate := 0, duePos := 5, retirePos := 9, verifyStatus := 2 }] up, by decide +kernel⟩,
   ⟨.core 0, 5, put [(0x2801, 1, 2), (0x2800, 3, 4), (0x2800, 4, 5), (gx 1, 1, 1), (cc 5, 3, 16)] up, by decide +kernel⟩,
   ⟨.core 0, 5, put [(0x2801, 1, 2), (0x2800, 3, 4), (0x2800, 4, 5), (gx 1, 1, 1), (cc 5, 3, 16), (cs 5, 1, 2), (cc 5, 1, 1)] up, by decide +kernel⟩,
   ⟨.core 0, 7 + 2 * 2 ^ 32, prods [{ id := 7, lane := 0, trigger := 0, enc := 0, gen := 0, pos := 0, line := 0, due := 1, gate := 0, duePos := 5, retirePos := 9, verifyStatus := 2 }] up, by decide +kernel⟩,
   ⟨.core 0, 15 + 23 * 2 ^ 16, put [(bx 23 0, 4, 2), (bx 23 0, 3, 16), (0x3802, 4, 5)] (poke (mapAddr (put [(bx 23 0, 3, 16)] up) 23 0 15) [0, 0, 0, 0] up), by decide +kernel⟩,
   ⟨.core 0, 31, put [(0x405F, 1, 1), (0x405F, 6, 100), (0x405F, 7, 199), (0x405F, 8, 5)] up, by decide +kernel⟩,
   ⟨.core 0, true, true, 19456, up, by decide +kernel⟩,
   ⟨.core 0, put [(lx 36 1, 1, 3), (lx 39 1, 1, 3)] up, by decide +kernel⟩,
   ⟨.core 0, up, by decide +kernel⟩,
   ⟨.core 0, put [(0x1301, 1, 5), (0x1301, 2, 4)] up, by decide +kernel⟩,
   ⟨.core 0, 7, put [(cS 7, 1, 1), (cP 7, 2, 0x200)] up, by decide +kernel⟩,
   ⟨.core 0, 7, put [(cS 7, 1, 2), (cP 7, 1, 1)] up, by decide +kernel⟩,
   ⟨.core 0, 7, put [(cS 7, 1, 3), (cP 7, 2, 0x200)] up, by decide +kernel⟩,
   ⟨.core 0, 319, up, by decide +kernel⟩,
   ⟨.core 0, 4 :: List.replicate 39 0, { up with coalesced := 5 }, by decide +kernel⟩⟩

/-- Writes that meet the premises of the clauses of WritesKeepTheRest. -/
theorem wit_WritesKeepTheRest3 :
  (∃ (src : Source) (v : Nat) (s : State), canSet s src (0x1605) 0 (v) = true ∧ isNext (exec (.taskSetup src v) s) = true) ∧
  (∃ (src : Source) (task : Nat) (s : State), canSet s src (0x1606) 0 (task % 512 + 1 * 2 ^ 24) = true ∧ isNext (exec (.taskCreate src task) s) = true) ∧
  (∃ (src : Source) (task : Nat) (s : State), canSet s src (0x1606) 0 (task % 512 + 2 * 2 ^ 24) = true ∧ isNext (exec (.taskPost src task) s) = true) ∧
  (∃ (src : Source) (task : Nat) (s : State), canSet s src (0x1606) 0 (task % 512 + 3 * 2 ^ 24) = true ∧ isNext (exec (.taskSuspend src task) s) = true) ∧
  (∃ (src : Source) (task : Nat) (s : State), canSet s src (0x1606) 0 (task % 512 + 4 * 2 ^ 24) = true ∧ isNext (exec (.taskResume src task) s) = true) ∧
  (∃ (src : Source) (task : Nat) (s : State), canSet s src (0x1606) 0 (task % 512 + 5 * 2 ^ 24) = true ∧ isNext (exec (.taskDelete src task) s) = true) ∧
  (∃ (src : Source) (n : CoreId) (task : Nat) (s : State), canSet s src (0x1603) (n.val + 1) (1 + task % 512 * 128) = true ∧ isNext (exec (.coreAccept src n task) s) = true) ∧
  (∃ (src : Source) (n : CoreId) (s : State), canSet s src (0x1603) (n.val + 1) (2) = true ∧ isNext (exec (.coreDone src n) s) = true) ∧
  (∃ (src : Source) (n : CoreId) (s : State), canSet s src (0x1603) (n.val + 1) (3) = true ∧ isNext (exec (.coreYield src n) s) = true) ∧
  (∃ (src : Source) (n : CoreId) (list : Fin 8) (arg : Nat) (s : State), canSet s src (0x1603) (n.val + 1) (4 + list.val * 16 + arg * 65536) = true ∧ isNext (exec (.coreDelay src n list arg) s) = true) ∧
  (∃ (src : Source) (n : CoreId) (s : State), canSet s src (0x1603) (n.val + 1) (5) = true ∧ isNext (exec (.coreAttach src n) s) = true) ∧
  (∃ (src : Source) (n : CoreId) (s : State), canSet s src (0x1603) (n.val + 1) (6) = true ∧ isNext (exec (.coreDetach src n) s) = true) ∧
  (∃ (src : Source) (i : TimerId) (s : State), canSet s src (0x1620 + i.val) 1 (1) = true ∧ isNext (exec (.timerEnable src i) s) = true) ∧
  (∃ (src : Source) (i : TimerId) (s : State), canSet s src (0x1620 + i.val) 1 (0) = true ∧ isNext (exec (.timerDisable src i) s) = true) ∧
  (∃ (src : Source) (v : Nat) (s : State), canSet s src (0x1600) 1 (v) = true ∧ isNext (exec (.schedCoresWrite src v) s) = true) ∧
  (∃ (src : Source) (v : Nat) (s : State), canSet s src (0x1607) 1 (v) = true ∧ isNext (exec (.traceModeWrite src v) s) = true) ∧
  (∃ (src : Source) (s : State), canSet s src (0x5020) 2 (1) = true ∧ isNext (exec (.routeSwapGo src) s) = true) ∧
  (∃ (src : Source) (s : State), canSet s src (0x5021) 3 (1) = true ∧ isNext (exec (.routerReconfigGo src) s) = true) ∧
  (∃ (src : Source) (n : LaneId) (s : State), canSet s src (lx n.val 0) 1 (1) = true ∧ isNext (exec (.laneEnableData src n) s) = true) ∧
  (∃ (src : Source) (n : LaneId) (s : State), canSet s src (lx n.val 0) 1 (2) = true ∧ isNext (exec (.laneEnableTest src n) s) = true) ∧
  (∃ (src : Source) (n : LaneId) (s : State), canSet s src (lx n.val 0) 1 (0) = true ∧ isNext (exec (.laneDisable src n) s) = true) ∧
  (∃ (src : Source) (n : LaneId) (s : State), canSet s src (lx n.val 0) 9 (1) = true ∧ isNext (exec (.laneRetrain src n) s) = true) ∧
  (∃ (src : Source) (n : LaneId) (s : State), canSet s src (lx n.val 3) 7 (1) = true ∧ isNext (exec (.prbsInject src n) s) = true) ∧
  (∃ (src : Source) (n : LaneId) (s : State), canSet s src (lx n.val 3) 5 (0) = true ∧ isNext (exec (.prbsCounterClear src n) s) = true) ∧
  (∃ (src : Source) (p : PortId) (s : State), canSet s src (canK p.val) 1 (1) = true ∧ isNext (exec (.canPortEnable src p) s) = true) ∧
  (∃ (src : Source) (i : PdoId) (s : State), canSet s src (0x1240 + i.val) 5 (1) = true ∧ isNext (exec (.tpdoTrigger src i) s) = true) :=
  ⟨⟨.core 0, 511 + 5 * 2 ^ 16 + 0x81 * 2 ^ 24 + 2 ^ 34, up, by decide +kernel⟩,
   ⟨.core 0, 511, up, by decide +kernel⟩,
   ⟨.core 0, 511, { up with sched := { tasks := [(511, { st := 1, prio := 3 })], ready := [(3, [7])] } }, by decide +kernel⟩,
   ⟨.core 0, 511, { up with sched := { tasks := [(511, { st := 2, prio := 3 })], ready := [(3, [7, 511])] } }, by decide +kernel⟩,
   ⟨.core 0, 511, { up with sched := { tasks := [(511, { st := 6, prio := 3, posts := 2 })], ready := [(3, [7])] } }, by decide +kernel⟩,
   ⟨.core 0, 511, { up with sched := { tasks := [(511, { st := 6, prio := 3, posts := 2 })] } }, by decide +kernel⟩,
   ⟨.core 7, 7, 511, put [(0x1600, 1, 0xFF), (0x1600, 2, 0xFF)] { up with sched := { tasks := [(9, { st := 4, prio := 5 }), (511, { st := 3, prio := 3 })], offers := [(7, { task := 511, since := 0 })], running := [(7, 9)] } }, by decide +kernel⟩,
   ⟨.core 7, 7, put [(0x1600, 1, 0xFF), (0x1600, 2, 0xFF)] { up with sched := { tasks := [(511, { st := 4, prio := 3, posts := 2 })], running := [(7, 511)], ready := [(3, [9])] } }, by decide +kernel⟩,
   ⟨.core 7, 7, put [(0x1600, 1, 0xFF), (0x1600, 2, 0xFF)] { up with sched := { tasks := [(511, { st := 4, prio := 3, posts := 2 })], running := [(7, 511)], ready := [(3, [9])] } }, by decide +kernel⟩,
   ⟨.core 7, 7, 4, 5, put [(0x1600, 1, 0xFF), (0x1600, 2, 0xFF)] { up with sched := { tasks := [(511, { st := 4, prio := 3, posts := 2 })], running := [(7, 511)], ready := [(3, [9])] } }, by decide +kernel⟩,
   ⟨.core 7, 7, up, by decide +kernel⟩,
   ⟨.core 7, 7, put [(0x1600, 1, 0xFF), (0x1600, 2, 0xFF)] { up with sched := { tasks := [(511, { st := 4, prio := 3, posts := 2 })], running := [(7, 511)], ready := [(3, [9])] } }, by decide +kernel⟩,
   ⟨.core 0, 5, put [(0x1625, 2, 4), (0x1625, 3, 5), (0x3003, 6, 9)] up, by decide +kernel⟩,
   ⟨.core 0, 5, put [(0x1625, 1, 1)] up, by decide +kernel⟩,
   ⟨.core 0, 0x7F, put [(0x1600, 1, 0xFF)] { up with sched := { tasks := [(511, { st := 3, prio := 3 })], offers := [(7, { task := 511, since := 0 })] } }, by decide +kernel⟩,
   ⟨.core 0, 1, { up with sched := { trace := [5] } }, by decide +kernel⟩,
   ⟨.core 0, up, by decide +kernel⟩,
   ⟨.core 0, put [(0x5021, 1, 35)] up, by decide +kernel⟩,
   ⟨.core 0, 39, up, by decide +kernel⟩,
   ⟨.core 0, 39, up, by decide +kernel⟩,
   ⟨.core 0, 39, put [(lx 39 1, 1, 3), (lx 39 0, 1, 1)] (lan 39 { waiting := [{ line := true, blocks := 5, bytes := [] }], busyUntil := 2000000 } up), by decide +kernel⟩,
   ⟨.core 0, 39, put [(lx 39 1, 1, 3)] (lan 39 {} up), by decide +kernel⟩,
   ⟨.core 0, 39, put [(lx 39 1, 1, 5), (lx 39 3, 2, 1)] (lan 39 {} up), by decide +kernel⟩,
   ⟨.core 0, 39, put [(lx 39 1, 1, 5), (lx 39 3, 2, 1), (lx 39 3, 4, 1)] (lan 39 {} up), by decide +kernel⟩,
   ⟨.core 0, 1, put [(0x1221, 2, 9)] up, by decide +kernel⟩,
   ⟨.core 0, 15, put [(0x1221, 1, 1), (0x1221, 2, 9), (0x1221, 5, 5), (0x124F, 1, 1), (0x124F, 2, 0x189), (0x124F, 6, 1), (0x124F, 7, 0x16040110), (0x124F, 3, 3)] { up with plant := {  } }, by decide +kernel⟩⟩

/-- Writes that meet the premises of the clauses of WritesKeepTheRest. -/
theorem wit_WritesKeepTheRest4 :
  (∃ (src : Source) (i : PdoId) (v : Nat) (s : State), canSet s src (0x1240 + i.val) 2 (v) = true ∧ isNext (exec (.cobidWrite src i v) s) = true) ∧
  (∃ (src : Source) (s : State), canSet s src (0x1100) 1 (0x65766173) = true ∧ isNext (exec (.storeParameters src) s) = true) ∧
  (∃ (src : Source) (s : State), canSet s src (0x1101) 1 (0x64616F6C) = true ∧ isNext (exec (.restoreDefaults src) s) = true) ∧
  (∃ (src : Source) (v : Nat) (s : State), canSet s src (0x1501) 5 (v) = true ∧ isNext (exec (.boardSupplyModeWrite src v) s) = true) ∧
  (∃ (src : Source) (v : Nat) (s : State), canSet s src (0x1501) 6 (v) = true ∧ isNext (exec (.lpddrSupplyEnableWrite src v) s) = true) ∧
  (∃ (src : Source) (d : DomainId) (s : State), canSet s src (0x1510) (d.val + 1) (1) = true ∧ isNext (exec (.domainRequestOn src d) s) = true) ∧
  (∃ (src : Source) (d : DomainId) (s : State), canSet s src (0x1510) (d.val + 1) (0) = true ∧ isNext (exec (.domainRequestOff src d) s) = true) ∧
  (∃ (src : Source) (d : DomainId) (s : State), canSet s src (0x1510) (d.val + 1) (2) = true ∧ isNext (exec (.domainRequestRetained src d) s) = true) ∧
  (∃ (src : Source) (s : State), canSet s src (0x1500) 1 (1) = true ∧ isNext (exec (.powerModeLineStop src) s) = true) ∧
  (∃ (src : Source) (bytes : List Byte) (s : State), canPut s src (0x1402) 0 bytes = true ∧ checksAtOnce s = true ∧ isNext (exec (.firmwareUpdate src bytes) s) = true) ∧
  (∃ (src : Source) (v : Nat) (s : State), canSet s src (0x1401) 1 (v) = true ∧ isNext (exec (.firmwareRollbackFloorWrite src v) s) = true) ∧
  (∃ (src : Source) (s : State), canSet s src (0x140B) 2 (1) = true ∧ isNext (exec (.trngRestart src) s) = true) ∧
  (∃ (src : Source) (bytes : List Byte) (nvmOk : Bool) (s : State), canPut s src 0x1404 0 bytes = true ∧ isNext (exec (.ownerInstall src bytes nvmOk) s) = true) ∧
  (∃ (src : Source) (bytes : List Byte) (nvmOk : Bool) (s : State), canPut s src 0x1405 0 bytes = true ∧ checksAtOnce s = true ∧ isNext (exec (.keyInstall src bytes nvmOk) s) = true) ∧
  (∃ (src : Source) (bytes : List Byte) (nvmOk : Bool) (s : State), canPut s src 0x1405 0 bytes = true ∧ checksAtOnce s = true ∧ isNext (exec (.keyErase src bytes nvmOk) s) = true) ∧
  (∃ (src : Source) (bytes : List Byte) (nvmOk : Bool) (s : State), canPut s src 0x1405 0 bytes = true ∧ checksAtOnce s = true ∧ isNext (exec (.keyReplaceOwner src bytes nvmOk) s) = true) ∧
  (∃ (src : Source) (bytes : List Byte) (s : State), canPut s src (0x140A) 1 bytes = true ∧ isNext (exec (.attestNonce src bytes) s) = true) ∧
  (∃ (src : Source) (bytes : List Byte) (s : State), canPut s src (0x140C) 1 bytes = true ∧ checksAtOnce s = true ∧ isNext (exec (.cacheInstall src bytes) s) = true) ∧
  (∃ (src : Source) (v : Nat) (s : State), canSet s src (0x140C) 2 (v) = true ∧ isNext (exec (.cacheErase src v) s) = true) ∧
  (∃ (src : Source) (s : State), canSet s src (0x1700) 1 (0x70616E73) = true ∧ isNext (exec (.snapshotCounters src) s) = true) ∧
  (∃ (src : Source) (s : State), canSet s src (0x1700) 6 (0x726C63) = true ∧ isNext (exec (.clearCounters src) s) = true) ∧
  (∃ (n : CoreId) (idx : Nat) (sub : Nat) (s : State), canRead s (.core n) = true ∧ isNext (exec (.u64LowWordRead n idx sub) s) = true) ∧
  (∃ (src : Source) (s : State), canRead s src = true ∧ isNext (exec (.serialTextRead src) s) = true) ∧
  (∃ (src : Source) (n : CoreId) (s : State), canRead s src = true ∧ isNext (exec (.coreEventPop src n) s) = true) ∧
  (∃ (src : Source) (s : State), canRead s src = true ∧ isNext (exec (.randomRead src) s) = true) :=
  ⟨⟨.core 0, 15, 0x18A, put [(0x1221, 1, 1), (0x1221, 2, 9), (0x1221, 5, 5), (0x124F, 1, 1), (0x124F, 2, 0x80000189), (0x124F, 6, 1), (0x124F, 7, 0x16040110)] { up with plant := {  } }, by decide +kernel⟩,
   ⟨.core 0, put [(0x1102, 1, 1)] up, by decide +kernel⟩,
   ⟨.core 0, up, by decide +kernel⟩,
   ⟨.core 0, 1, { up with power := { vinUp := true, tripped := [1] } }, by decide +kernel⟩,
   ⟨.core 0, 2, put [(0x1501, 6, 1)] (put [(0x1511, 37, 0)] up), by decide +kernel⟩,
   ⟨.core 0, 23, put [(0x1511, 24, 5)] up, by decide +kernel⟩,
   ⟨.core 0, 23, up, by decide +kernel⟩,
   ⟨.core 0, 23, up, by decide +kernel⟩,
   ⟨.core 0, up, by decide +kernel⟩,
   ⟨.core 0, [1, 2], up, by decide +kernel⟩,
   ⟨.core 0, 0, up, by decide +kernel⟩,
   ⟨.core 0, put [(0x140B, 1, 2)] up, by decide +kernel⟩,
   ⟨.core 0, List.replicate 2592 7, true, up, by decide +kernel⟩,
   ⟨.core 0, [0, 7], true, up, by decide +kernel⟩,
   ⟨.core 0, [0, 7], true, up, by decide +kernel⟩,
   ⟨.core 0, [0, 7], true, up, by decide +kernel⟩,
   ⟨.core 0, List.replicate 32 7, up, by decide +kernel⟩,
   ⟨.core 0, [0, 7], up, by decide +kernel⟩,
   ⟨.core 0, 62, { up with cache := [(62, [7])] }, by decide +kernel⟩,
   ⟨.core 0, up, by decide +kernel⟩,
   ⟨.core 0, up, by decide +kernel⟩,
   ⟨7, 0x1600, 5, put [(0x1600, 5, 2 ^ 40)] up, by decide +kernel⟩,
   ⟨.core 0, put [(0x405F, 1, 1), (0x405F, 6, 100), (0x405F, 7, 199), (0x405F, 8, 5), (0x4004, 1, 7)] (prods [{ id := 7, lane := 0, trigger := 0, enc := 0, gen := 0, pos := 0, line := 0, due := 1, gate := 0, duePos := 5, retirePos := 9, verifyStatus := 2, serialRef := 0 }] { up with serial := { entries := [(0, { product := 7, slot := 31, n := 5, v := 105, state := 2 })] } }), by decide +kernel⟩,
   ⟨.core 7, 7, { up with sched := { inbox := [(7, [5, 6])] } }, by decide +kernel⟩,
   ⟨.core 0, put [(0x140B, 1, 1)] up, by decide +kernel⟩⟩

/-- Nothing is asked of the members of an empty list. -/
theorem nil_all {α : Type} {l : List α} {P : α → Prop} (h : l.isEmpty = true) : ∀ e, e ∈ l → P e := by
  cases l <;> simp_all

/-- Commands, and an address, that meet the premises of the clauses of MemoryKeptOutsideStores. -/
theorem wit_MemoryKept1 :
  (∃ (t : Nat) (s : State) (a : Nat), (∀ k, k < 6 → rd s (cs k) 0xB % 32 = 0 ∧ rd s (cc k) 0xD % 32 = 0 ∧ (rd s (cs k) 0xB < rd s (cc k) 0xD ∨ rd s (cc k) 0xD = 0)) ∧ (∀ k, k < 6 → Outside (rd s (cc k) 0xC) (rd s (cc k) 0xD) a) ∧ t ≠ 0) ∧
  (∃ (t : Nat) (f : FieldId) (d : DrillId) (s : State) (a : Nat), isNext (exec (.drillWriteStore t f d) s) = true ∧ (∀ it rest, (streamOf (fieldOf (fieldNow (arrive t s) f) f) d 1).buf = it :: rest → Outside (fieldMemAddr f it.addr) 4 a)) ∧
  (∃ (t : Nat) (f : FieldId) (off : Nat) (size : Nat) (write : Bool) (v : Nat) (s : State) (a : Nat), isNext (exec (.fieldMemoryNetworkAccess t f off size write v) s) = true ∧ Outside (0x30000000 + f.val * 0x40000 + off) (if write then size else 0) a) ∧
  (∃ (t : Nat) (s : State) (a : Nat), isNext (exec (.tuningLoadCopyDone t) s) = true ∧ Outside (arrive t s).arr.load.base ((arrive t s).arr.load.image.take (rd (arrive t s) 0x2605 2)).length a) ∧
  (∃ (t : Nat) (q : QueueId) (s : State) (a : Nat), isNext (exec (.dmaOutputRecord t q) s) = true ∧ (∀ k, k < 16 + 16 * ((queueOf (arrive t s) q).dmaPos + 8) → a ≠ ringBase (arrive t s) q + (engineIndex (arrive t s) q + k) % ringSize (arrive t s) q)) ∧
  (∃ (t : Nat) (q : QueueId) (s : State) , isNext (exec (.spillWrite t q) s) = true) ∧
  (∃ (t : Nat) (k : TrigId) (rising : Bool) (s : State) , isNext (exec (.triggerEdge t k rising) s) = true) ∧
  (∃ (t : Nat) (k : CamId) (s : State) , isNext (exec (.cameraStartComplete t k) s) = true) ∧
  (∃ (t : Nat) (n : CoreId) (regs : Nat) (s : State) , isNext (exec (.lmm t n regs) s) = true) ∧
  (∃ (t : Nat) (n : CoreId) (regs : Nat) (s : State) , isNext (exec (.lmmO t n regs) s) = true) ∧
  (∃ (t : Nat) (n : CoreId) (s : State) , isNext (exec (.fillw t n) s) = true) ∧
  (∃ (src : Source) (k : CamId) (s : State) , canSet s src (cc k.val) 1 (0) = true ∧ isNext (exec (.cameraDisable src k) s) = true) ∧
  (∃ (t : Nat) (b : BarId) (s : State) (a : Nat), isNext (exec (.activeCopySwitch t b) s) = true ∧ Outside (mapAddr (arrive t s) b 0 0) (8 * nozzles (arrive t s) b) a) ∧
  (∃ (t : Nat) (b : BarId) (hdr : Nat) (p : List Byte) (crcOk : Bool) (s : State) (a : Nat), isNext (exec (.headStatus t b hdr p crcOk) s) = true ∧ Outside (mapAddr (arrive t s) b 0 0) (8 * nozzles (arrive t s) b) a) ∧
  (∃ (t : Nat) (b : BarId) (hdr : Nat) (p : List Byte) (crcOk : Bool) (s : State) (a : Nat), isNext (exec (.nozzleReport t b hdr p crcOk) s) = true ∧ Outside (mapAddr (arrive t s) b 0 0) (8 * nozzles (arrive t s) b) a) ∧
  (∃ (src : Source) (b : BarId) (v : Nat) (s : State) (a : Nat), canSet s src (bx b.val 4) 7 (v) = true ∧ isNext (exec (.mapEdit src b v) s) = true ∧ Outside (mapAddr s b 0 0) (8 * nozzles s b) a) ∧
  (∃ (src : Source) (b : BarId) (bytes : List Byte) (s : State) (a : Nat), canPut s src (bx b.val 4) 8 bytes = true ∧ isNext (exec (.mapImageWrite src b bytes) s) = true ∧ Outside (mapAddr s b 0 0) (8 * nozzles s b) a ∧ Outside (stagingBase s) bytes.length a) ∧
  (∃ (src : Source) (v : Nat) (s : State) (a : Nat), canSet s src (0x3802) 0x1D (v) = true ∧ isNext (exec (.healthPost src v) s) = true ∧ Outside (mapAddr s (bitsOf v 16 5) 0 0) (8 * nozzles s (bitsOf v 16 5)) a) ∧
  (∃ (src : Source) (unit : Fin 30) (bytes : List Byte) (s : State) (a : Nat), canPut s src (mgmtIndex unit.val) (if unit.val < 24 then 1 else 0x11) bytes = true ∧ isNext (exec (.mgmtRequest src unit bytes) s) = true ∧ Outside (stagingBase s) bytes.length a) ∧
  (∃ (src : Source) (bytes : List Byte) (s : State) (a : Nat), canPut s src (0x1402) 0 bytes = true ∧ isNext (exec (.firmwareUpdate src bytes) s) = true ∧ Outside (stagingBase s) bytes.length a) ∧
  (∃ (src : Source) (bytes : List Byte) (nvmOk : Bool) (s : State) (a : Nat), canPut s src 0x1404 0 bytes = true ∧ isNext (exec (.ownerInstall src bytes nvmOk) s) = true ∧ Outside (stagingBase s) bytes.length a) ∧
  (∃ (src : Source) (bytes : List Byte) (nvmOk : Bool) (s : State) (a : Nat), canPut s src 0x1405 0 bytes = true ∧ isNext (exec (.keyInstall src bytes nvmOk) s) = true ∧ Outside (stagingBase s) bytes.length a) ∧
  (∃ (src : Source) (bytes : List Byte) (nvmOk : Bool) (s : State) (a : Nat), canPut s src 0x1405 0 bytes = true ∧ isNext (exec (.keyErase src bytes nvmOk) s) = true ∧ Outside (stagingBase s) bytes.length a) ∧
  (∃ (src : Source) (bytes : List Byte) (nvmOk : Bool) (s : State) (a : Nat), canPut s src 0x1405 0 bytes = true ∧ isNext (exec (.keyReplaceOwner src bytes nvmOk) s) = true ∧ Outside (stagingBase s) bytes.length a) :=
  ⟨⟨1000, put [(cc 5, 0xC, 0x20001000), (cc 5, 0xD, 64), (cs 5, 0xB, 32)] up, 0x10000000000, by decide +kernel, fun k hk => Or.inr ((show ∀ k, k < 6 → rd (put [(cc 5, 0xC, 0x20001000), (cc 5, 0xD, 64), (cs 5, 0xB, 32)] up) (cc k) 0xC + rd (put [(cc 5, 0xC, 0x20001000), (cc 5, 0xD, 64), (cs 5, 0xB, 32)] up) (cc k) 0xD ≤ 0x10000000000 by decide +kernel) k hk), by decide⟩,
   ⟨0, 0, 0, fld 0 { frozenAt := none, streams := [(1, { buf := [{ addr := 16384, tok := { data := 9 }, since := 5 }] })] } up, 0, by decide +kernel, fun it rest _ => Or.inl (by unfold fieldMemAddr; omega)⟩,
   ⟨0, 23, 0x3FFF8, 8, true, 77, up, _, by decide +kernel, Or.inr (Nat.le_refl _)⟩,
   ⟨0, put [(0x2603, 6, 1)] up, _, by decide +kernel, Or.inr (Nat.le_refl _)⟩,
   ⟨0, 32, put [(0x2841, 1, 2), (0x2840, 3, 3), (0x2840, 9, 0x20000000), (0x2840, 0xA, 64)] (que 32 { head := [{ data := 5, last := true }] } up), 0, by decide +kernel, by decide +kernel⟩,
   ⟨0, 0, put [(0x2801, 1, 2), (0x2801, 7, 0x20000000), (0x2801, 8, 32)] (que 0 { head := List.replicate 8 {}, tail := [{ data := 0x1234 }] } up), by decide +kernel⟩,
   ⟨0, 23, false, put [(0x3020 + 23, 4, 7)] up, by decide +kernel⟩,
   ⟨0, 5, put [(0x2801, 1, 2), (0x2800, 3, 4), (0x2800, 4, 5), (gx 1, 1, 1), (cc 5, 3, 16), (cs 5, 1, 1), (lx 34 1, 1, 3)] up, by decide +kernel⟩,
   ⟨0, 7, 32, prog 7 { x := [(6, 0x200), (7, 0x10200)], ins := [(1, 77)], locals := [(0, 78)] } [0x73300b] (poke (coreWindow 7 + 0x200) [9, 0, 0, 0, 8, 0, 0, 0] up), by decide +kernel⟩,
   ⟨0, 7, 32, prog 7 { x := [(6, 0x200), (7, 0x10200)], ins := [(9, 77)], locals := [(8, 78)], wb := 1, cwp := 2 } [0x273300b] (poke (coreWindow 7 + 0x200) [9, 0, 0, 0, 8, 0, 0, 0] up), by decide +kernel⟩,
   ⟨0, 7, prog 7 { tc := true, wb := 1, tw := 5, cwp := 5, sd := 3, csr := [(0x7C1, 0x444)] } [0x200400b] (poke (coreWindow 7 + 0x400) ([33, 0, 0, 0, 77, 0, 0, 0] ++ List.replicate 60 0) up), by decide +kernel⟩,
   ⟨.core 0, 5, put [(0x2801, 1, 2), (0x2800, 3, 4), (0x2800, 4, 5), (gx 1, 1, 1), (cc 5, 3, 16), (cs 5, 1, 2), (cc 5, 1, 1)] up, by decide +kernel, by decide +kernel⟩,
   ⟨0, 23, put [(bx 23 0, 3, 16), (bx 23 4, 5, 1)] up, _, by decide +kernel, Or.inr (Nat.le_refl _)⟩,
   ⟨0, 23, 23 * 2 ^ 5 + 32 * 2 ^ 10 + 16 + 9, List.replicate 32 7, true, put [(lx 23 1, 1, 3)] up, _, by decide +kernel, Or.inr (Nat.le_refl _)⟩,
   ⟨0, 23, 23 * 2 ^ 5 + 8 * 2 ^ 10 + 10, [1, 0, 0, 0, 5, 0, 0, 0], true, put [(lx 23 1, 1, 3), (bx 23 0, 3, 16)] up, _, by decide +kernel, Or.inr (Nat.le_refl _)⟩,
   ⟨.core 0, 23, 15 + 5 * 2 ^ 32, put [(bx 23 0, 3, 16)] up, _, by decide +kernel, by decide +kernel, Or.inr (Nat.le_refl _)⟩,
   ⟨.core 0, 23, ((List.replicate 16 [9, 0, 0, 0]).flatten), put [(bx 23 0, 3, 16)] up, 0, by decide +kernel, by decide +kernel, Or.inl (by decide +kernel), Or.inl (by decide +kernel)⟩,
   ⟨.core 0, 15 + 23 * 2 ^ 16, put [(bx 23 0, 4, 2), (bx 23 0, 3, 16), (0x3802, 4, 5)] (poke (mapAddr (put [(bx 23 0, 3, 16)] up) 23 0 15) [0, 0, 0, 0] up), _, by decide +kernel, by decide +kernel, Or.inr (Nat.le_refl _)⟩,
   ⟨.core 0, 29, [1, 15, 0, 0, 0, 0, 0, 1], up, _, by decide +kernel, by decide +kernel, Or.inr (Nat.le_refl _)⟩,
   ⟨.core 0, [1, 2], up, _, by decide +kernel, by decide +kernel, Or.inr (Nat.le_refl _)⟩,
   ⟨.core 0, List.replicate 2592 7, true, up, _, by decide +kernel, by decide +kernel, Or.inr (Nat.le_refl _)⟩,
   ⟨.core 0, [0, 7], true, up, _, by decide +kernel, by decide +kernel, Or.inr (Nat.le_refl _)⟩,
   ⟨.core 0, [0, 7], true, up, _, by decide +kernel, by decide +kernel, Or.inr (Nat.le_refl _)⟩,
   ⟨.core 0, [0, 7], true, up, _, by decide +kernel, by decide +kernel, Or.inr (Nat.le_refl _)⟩⟩

/-- Commands, and an address, that meet the premises of the clauses of MemoryKeptOutsideStores. -/
theorem wit_MemoryKept2 :
  (∃ (src : Source) (bytes : List Byte) (s : State) (a : Nat), canPut s src (0x140C) 1 bytes = true ∧ isNext (exec (.cacheInstall src bytes) s) = true ∧ Outside (stagingBase s) bytes.length a) ∧
  (∃ (t : Nat) (i : PairLane) (seq : Nat) (role : Nat) (p : List Byte) (ok : Bool) (s : State) (a : Nat), quiet (arrive t s) = true ∧ (arrive t s).pair.mirror = [] ∧ isNext (exec (.mapSwitch t i seq role p ok) s) = true ∧ Outside (mapAddr (arrive t s) (leAt p 0 1) 0 0) (8 * nozzles (arrive t s) (leAt p 0 1)) a) ∧
  (∃ (t : Nat) (k : CamId) (odd : Bool) (hdr : Nat) (p : List Byte) (crcOk : Bool) (s : State) (a : Nat), isNext (exec (.imageLine t k odd hdr p crcOk) s) = true ∧ Outside (physAddr (arrive t s) 10 (historyAddr (arrive t s) k (bitsOf hdr 32 32))) p.length a) ∧
  (∃ (t : Nat) (k : CamId) (hdr : Nat) (p : List Byte) (crcOk : Bool) (s : State) (a : Nat), isNext (exec (.bridgeStatus t k hdr p crcOk) s) = true ∧ Outside (physAddr (arrive t s) 10 (historyAddr (arrive t s) k (bitsOf hdr 32 32))) p.length a) ∧
  (∃ (t : Nat) (unit : Fin 30) (hdr : Nat) (p : List Byte) (crcOk : Bool) (s : State) (a : Nat), isNext (exec (.mgmtReply t unit hdr p crcOk) s) = true ∧ unit.val < 24 ∧ Outside (mapAddr (arrive t s) unit 0 0) (8 * nozzles (arrive t s) unit) a) ∧
  (∃ (t : Nat) (unit : Fin 30) (hdr : Nat) (p : List Byte) (crcOk : Bool) (s : State) (a : Nat), isNext (exec (.mgmtReply t unit hdr p crcOk) s) = true ∧ 24 ≤ unit.val ∧ Outside (physAddr (arrive t s) 10 (historyAddr (arrive t s) (unit.val - 24) (bitsOf hdr 32 32))) p.length a) ∧
  (∃ (t : Nat) (history : Option (CamId × Nat)) (s : State) (k : CamId) (n : Nat) (a : Nat), isNext (exec (.lpddrWriteRefused t history) s) = true ∧ history = some (k, n) ∧ (∀ w, w ∈ (camOf (arrive t s) k).waiting → Outside (physAddr (arrive t s) 10 (historyAddr (arrive t s) k n)) w.oldBytes.length a)) ∧
  (∃ (t : Nat) (s : State) (a : Nat), isNext (exec (.archiveRecord t) s) = true ∧ Outside (physAddr (arrive t s) 10 (rd (arrive t s) 0x3803 2)) (rd (arrive t s) 0x3803 3) a) ∧
  (∃ (t : Nat) (s : State) (x : LedgerItem) (r : List LedgerItem) (a : Nat), quiet (arrive t s) = true ∧ (arrive t s).pair.mirror = [] ∧ isNext (exec (.ledgerRecordWrite t) s) = true ∧ x.body.length = 64 ∧ (arrive t s).serial.unwritten = x :: r ∧ x.body.length = 64 ∧ Outside (physAddr (arrive t s) 9 (rd (arrive t s) 0x4008 1) + rd (arrive t s) 0x4008 4) 64 a) ∧
  (∃ (t : Nat) (s : State) (c : _) (a : Nat), quiet (arrive t s) = true ∧ (arrive t s).pair.mirror = [] ∧ isNext (exec (.checkpointPublish t) s) = true ∧ (arrive t s).serial.checkpoint = some c ∧ Outside (physAddr (arrive t s) 9 (rd (arrive t s) 0x4009 1) + rd (arrive t s) 0x4009 4) ((checkpointBytes (arrive t s) c).length + c.signature.length + 45) a) ∧
  (∃ (t : Nat) (rewritten : Nat) (s : State) (a : Nat), quiet (arrive t s) = true ∧ (arrive t s).pair.mirror = [] ∧ isNext (exec (.resyncCut t rewritten) s) = true ∧ Outside (rd (arrive t s) 0x1302 4) (rd (arrive t s) 0x1302 5) a) ∧
  (∃ (t : Nat) (i : PairLane) (role : Nat) (p : List Byte) (ok : Bool) (s : State) (a : Nat), quiet (arrive t s) = true ∧ (arrive t s).pair.mirror = [] ∧ (pairRole (arrive t s) ≠ 6 ∨ 3 < resyncState (arrive t s) ∧ role ≠ 5) ∧ isNext (exec (.snapshot t i role p ok) s) = true ∧ Outside (rd (arrive t s) 0x1302 4 + leAt p 0 8) (p.length - 8) a) ∧
  (∃ (t : Nat) (b : Fin 32) (s : State) (w : BankWait) (x : NetTag) (a : Nat), isNext (exec (.bankAccessGrant t b) s) = true ∧ bankChoice (bankNow (harrowNow (arrive t s)) b) b = some w ∧ w.spill = none ∧ bankReq (bankNow (harrowNow (arrive t s)) b) w = some x ∧ Outside (x.req.addr + w.pos) (min (x.req.size - w.pos) (16 - (x.req.addr + w.pos) % 16)) a) ∧
  (∃ (t : Nat) (n : CoreId) (s : State) (a : Nat), quiet (arrive t s) = true ∧ (arrive t s).pair.mirror = [] ∧ isNext (exec (.mailboxComplete t n) s) = true ∧ (∀ b p, (mailboxResult (mailboxUse (arrive t s) n (mailboxOf (arrive t s) n)) n (mailboxOf (arrive t s) n)).2 = .ok b → bufferAddr (mailboxNext (mailboxResult (mailboxUse (arrive t s) n (mailboxOf (arrive t s) n)) n (mailboxOf (arrive t s) n)).1 (mailboxOf (arrive t s) n).command) 14 n (mailboxOf (arrive t s) n).dest b.length = .ok p → Outside p b.length a)) ∧
  (∃ (t : Nat) (n : CoreId) (s : State) (a : Nat), isNext (exec (.baseInstruction t n) s) = true ∧ Outside (coreWindow n) 0x120000 a) ∧
  (∃ (t : Nat) (n : CoreId) (regs : Nat) (s : State) (a : Nat), isNext (exec (.smm t n regs) s) = true ∧ Outside (coreWindow n) 0x120000 a) ∧
  (∃ (t : Nat) (n : CoreId) (regs : Nat) (s : State) (a : Nat), isNext (exec (.smmO t n regs) s) = true ∧ Outside (coreWindow n) 0x120000 a) ∧
  (∃ (t : Nat) (n : CoreId) (s : State) (a : Nat), isNext (exec (.spillw t n) s) = true ∧ Outside (coreWindow n) 0x120000 a) ∧
  (∃ (t : Nat) (n : CoreId) (w : Nat) (len : Nat) (s : State) (a : Nat), Issues t n w len s ∧ isNext (exec (.baseInstruction t n) s) = true ∧ rvOp w = 0x23 ∧ (∀ o, coreAccess n (addW (xr (coreOf s n) (rvRs1 w)) (immS w)) = .local_ o → Outside (coreWindow n + o) (2 ^ rvF3 w) a)) ∧
  (∃ (t : Nat) (n : CoreId) (regs : Nat) (w : Nat) (len : Nat) (s : State) (a : Nat), Issues t n w len s ∧ isNext (exec (.smm t n regs) s) = true ∧ (∀ k o, k < 32 → bitOf ({ load := false, mask := xr (coreOf s n) (rvRs2 w), win := none, base := xr (coreOf s n) (rvRs1 w) } : Multi).mask k = true → coreAccess n (multiAddr { load := false, mask := xr (coreOf s n) (rvRs2 w), win := none, base := xr (coreOf s n) (rvRs1 w) } k) = .local_ o → Outside (coreWindow n + o) 4 a)) ∧
  (∃ (t : Nat) (n : CoreId) (regs : Nat) (w : Nat) (len : Nat) (s : State) (a : Nat), Issues t n w len s ∧ isNext (exec (.smmO t n regs) s) = true ∧ (∀ k o, k < 32 → bitOf ({ load := false, mask := xr (coreOf s n) (rvRs2 w), win := none, base := xr (coreOf s n) (rvRs1 w) } : Multi).mask k = true → coreAccess n (multiAddr { load := false, mask := xr (coreOf s n) (rvRs2 w), win := none, base := xr (coreOf s n) (rvRs1 w) } k) = .local_ o → Outside (coreWindow n + o) 4 a)) ∧
  (∃ (t : Nat) (n : CoreId) (w : Nat) (len : Nat) (s : State) (a : Nat), Issues t n w len s ∧ isNext (exec (.spillw t n) s) = true ∧ (∀ k o, k < 32 → bitOf ({ load := false, mask := 0x00FFFF01, win := none, base := csrWord (coreOf s n) 0x7C1 } : Multi).mask k = true → coreAccess n (multiAddr { load := false, mask := 0x00FFFF01, win := none, base := csrWord (coreOf s n) 0x7C1 } k) = .local_ o → Outside (coreWindow n + o) 4 a)) ∧
  (∃ (t : Nat) (n : CoreId) (w : Nat) (len : Nat) (s : State) (a : Nat), Issues t n w len s ∧ isNext (exec (.xst t n) s) = true ∧ Outside (coreWindow n + xyOffset 0 (dspPtr (coreOf s n) 0 (bitsOf w 25 2))) 4 a) ∧
  (∃ (t : Nat) (n : CoreId) (w : Nat) (len : Nat) (s : State) (a : Nat), Issues t n w len s ∧ isNext (exec (.yst t n) s) = true ∧ Outside (coreWindow n + xyOffset 1 (dspPtr (coreOf s n) 1 (bitsOf w 25 2))) 4 a) :=
  ⟨⟨.core 0, [0, 7], up, _, by decide +kernel, by decide +kernel, Or.inr (Nat.le_refl _)⟩,
   ⟨0, 3, 1, 2, [23, 1, 1, 0, 9, 0, 0, 0, 5, 0, 0, 0, 0, 0, 0, 0], true, put [(lx 36 1, 1, 3), (lx 39 1, 1, 3), (0x1301, 1, 3), (bx 23 0, 3, 16)] { up with pair := { heardAt := [(0, 0)] } }, _, by decide +kernel, by decide +kernel, by decide +kernel, Or.inr (Nat.le_refl _)⟩,
   ⟨0, 5, true, 5 * 2 ^ 8 + 16 * 2 ^ 11 + 2 ^ 32 + 10, List.replicate 16 9, true, put [(lx 34 1, 1, 3), (lx 35 1, 1, 3), (cs 5, 1, 2), (cc 5, 3, 16), (cs 5, 4, 1)] up, _, by decide +kernel, Or.inr (Nat.le_refl _)⟩,
   ⟨0, 5, 5 * 2 ^ 8 + 32 * 2 ^ 11 + 9, List.replicate 32 9, true, put [(lx 34 1, 1, 3), (lx 35 1, 1, 3), (cs 5, 1, 2), (cc 5, 3, 16)] up, _, by decide +kernel, Or.inr (Nat.le_refl _)⟩,
   ⟨0, 23, 23 * 2 ^ 5 + 4 * 2 ^ 10 + 8, [1, 2, 3, 4], true, put [(lx 23 1, 1, 3), (bx 23 5, 3, 1)] up, _, by decide +kernel, by decide, Or.inr (Nat.le_refl _)⟩,
   ⟨0, 29, 23 * 2 ^ 5 + 4 * 2 ^ 10 + 8, [1, 2, 3, 4], true, put [(lx 23 1, 1, 3), (bx 23 5, 3, 1)] up, _, by decide +kernel, by decide, Or.inr (Nat.le_refl _)⟩,
   ⟨0, some (5, 9), put [(cc 5, 3, 16), (cc 5, 0x0A, 0x20000000), (cc 5, 0x0B, 64)] (cam 5 { waiting := [{ line := 7, since := 0, oldLine := some 3, oldBytes := [] }], history := [(3, 7)] } { up with now := psS }), 5, 9, 0, by decide +kernel, rfl, fun w _ => Or.inl (by decide +kernel)⟩,
   ⟨0, { up with print := { archive := [{ product := 7, camera := 0, verdict := 3, firstLine := 0, lastLine := 0, pos := 0, ptp := 0, since := 0 }] } }, _, by decide +kernel, Or.inr (Nat.le_refl _)⟩,
   ⟨0, put [(0x4008, 1, 0x20000000), (0x4008, 2, 4096)] { up with serial := { unwritten := [{ body := List.replicate 64 1 }] } }, { body := List.replicate 64 1 }, [], _, by decide +kernel, by decide +kernel, by decide +kernel, by decide +kernel, by decide +kernel, by decide +kernel, Or.inr (Nat.le_refl _)⟩,
   ⟨0, put [(0x4009, 1, 0x20000000), (0x4009, 2, 48640)] { up with serial := { checkpoint := some { firstSeq := 5, lastSeq := 9, number := 1, segment := 0, head := [], prevHead := [], ptp := 0, ledgered := [], journalled := true } } }, _, _, by decide +kernel, by decide +kernel, by decide +kernel, rfl, Or.inr (Nat.le_refl _)⟩,
   ⟨0, 5, put [(0x1301, 1, 4), (0x1302, 2, 3)] up, _, by decide +kernel, by decide +kernel, by decide +kernel, Or.inr (Nat.le_refl _)⟩,
   ⟨0, 3, 4, [8, 0, 0, 0, 0, 0, 0, 0, 9], true, put [(lx 36 1, 1, 3), (lx 39 1, 1, 3), (0x1301, 1, 6), (0x1302, 4, 0x20000000), (0x1302, 5, 0x100000), (0x1302, 2, 5)] up, _, by decide +kernel, by decide +kernel, by decide +kernel, by decide +kernel, Or.inr (Nat.le_refl _)⟩,
   ⟨0, 31, { up with noc := { nis := [(14, { tags := [(31, { req := { addr := 0x21F00000, size := 4, write := true, value := 9 }, target := 55, since := 0 })] })], banks := [(31, [{ code := 1, ni := 14, tag := 31, since := 0 }])] } }, { code := 1, ni := 14, tag := 31, since := 0 }, { req := { addr := 0x21F00000, size := 4, write := true, value := 9 }, target := 55, since := 0 }, _, by decide +kernel, by decide +kernel, rfl, by decide +kernel, Or.inr (Nat.le_refl _)⟩,
   ⟨0, 7, poke 0x20000000 [7] { up with security := { hashing := [.mailbox 7], mailboxes := [(7, { command := 1, status := 1, source := 0x20000000, length := 1, dest := 0x20001000 })] } }, 0, by decide +kernel, by decide +kernel, by decide +kernel, fun b p h1 h2 => by
      cases Except.ok.inj (h1.symm.trans (show _ = Except.ok (sha3_512 [7]) from rfl))
      cases Except.ok.inj (h2.symm.trans (show _ = Except.ok 0x20001000 from rfl))
      exact Or.inl (by decide)⟩,
   ⟨0, 7, prog 7 {} [0x123452b7] up, _, by decide +kernel, Or.inr (Nat.le_refl _)⟩,
   ⟨0, 7, 32, prog 7 { x := [(6, 0x200), (7, 0x10200)], ins := [(1, 77)], locals := [(0, 78)] } [0x73200b] up, _, by decide +kernel, Or.inr (Nat.le_refl _)⟩,
   ⟨0, 7, 32, prog 7 { x := [(6, 0x200), (7, 0x10200)], ins := [(9, 77)], locals := [(8, 78)], wb := 1, cwp := 2 } [0x273200b] up, _, by decide +kernel, Or.inr (Nat.le_refl _)⟩,
   ⟨0, 7, prog 7 { tc := true, wb := 1, tw := 5, cwp := 5, link := [(1, 33)], ins := [(8, 77)], csr := [(0x7C1, 0x400)] } [0x400b] up, _, by decide +kernel, Or.inr (Nat.le_refl _)⟩,
   ⟨0, 7, 0x00732023, 4, prog 7 { x := [(6, 0x200), (7, 5)] } [0x00732023] up, 0, ⟨by decide +kernel, by decide +kernel⟩, by decide +kernel, by decide, fun o _ => Or.inl (Nat.lt_of_lt_of_le (show 0 < coreWindow 7 by decide) (Nat.le_add_right _ _))⟩,
   ⟨0, 7, 32, 0x73200b, 4, prog 7 { x := [(6, 0x200), (7, 0x10200)], ins := [(1, 77)], locals := [(0, 78)] } [0x73200b] up, 0, ⟨by decide +kernel, by decide +kernel⟩, by decide +kernel, fun k o _ _ _ => Or.inl (Nat.lt_of_lt_of_le (show 0 < coreWindow 7 by decide) (Nat.le_add_right _ _))⟩,
   ⟨0, 7, 32, 0x273200b, 4, prog 7 { x := [(6, 0x200), (7, 0x10200)], ins := [(9, 77)], locals := [(8, 78)], wb := 1, cwp := 2 } [0x273200b] up, 0, ⟨by decide +kernel, by decide +kernel⟩, by decide +kernel, fun k o _ _ _ => Or.inl (Nat.lt_of_lt_of_le (show 0 < coreWindow 7 by decide) (Nat.le_add_right _ _))⟩,
   ⟨0, 7, 0x400b, 4, prog 7 { tc := true, wb := 1, tw := 5, cwp := 5, link := [(1, 33)], ins := [(8, 77)], csr := [(0x7C1, 0x400)] } [0x400b] up, 0, ⟨by decide +kernel, by decide +kernel⟩, by decide +kernel, fun k o _ _ _ => Or.inl (Nat.lt_of_lt_of_le (show 0 < coreWindow 7 by decide) (Nat.le_add_right _ _))⟩,
   ⟨0, 7, 0x102a05b, 4, prog 7 { csr := [(0x7C8, 0x10), (0x7CC, 0x20)], acc := [(1, 0x3F800000)], f := [(5, 0x40000000)] } [0x102a05b] (poke (coreWindow 7 + 0x100010) [0, 0, 128, 63] (poke (coreWindow 7 + 0x110020) [0, 0, 0, 64] up)), _, ⟨by decide +kernel, by decide +kernel⟩, by decide +kernel, Or.inr (Nat.le_refl _)⟩,
   ⟨0, 7, 0x102b05b, 4, prog 7 { csr := [(0x7C8, 0x10), (0x7CC, 0x20)], acc := [(1, 0x3F800000)], f := [(5, 0x40000000)] } [0x102b05b] (poke (coreWindow 7 + 0x100010) [0, 0, 128, 63] (poke (coreWindow 7 + 0x110020) [0, 0, 0, 64] up)), _, ⟨by decide +kernel, by decide +kernel⟩, by decide +kernel, Or.inr (Nat.le_refl _)⟩⟩

/-! Steps, forms and floors. -/

/-- A command in front of a queue, and an empty queue. -/
theorem wit_StepTakesTheFront :
    (∃ (c : Instr) (rest : List Instr) (s : State), s.pending = c :: rest) ∧ (∃ s : State, s.pending = []) :=
  ⟨⟨.cellFire 0 23 15, [.capoBoundary 0], { up with pending := [.cellFire 0 23 15, .capoBoundary 0] }, rfl⟩, ⟨State.reset, rfl⟩⟩

/-- A state of the form, with memory and a command, whose step has a next state. -/
theorem wit_StepKeepsForm :
    ∃ s : State, Safety.Inv s ∧ isNext (step s) = true :=
  ⟨{ poke 0x30000000 [1, 2, 3, 4] up with pending := [.fieldMemoryNetworkAccess 0 0 0 4 true 7] }, by unfold Safety.Inv; decide +kernel, by decide +kernel⟩

/-- A step of a machine with floors above zero, which has a next state. -/
theorem wit_FloorsNeverDrop : ∃ s : State, s.nvm.firmwareFloor = 5 ∧ s.nvm.keyFloor = 9 ∧ isNext (step s) = true :=
  ⟨{ up with nvm := { firmwareFloor := 5, keyFloor := 9 }, pending := [.firmwareRollbackFloorWrite (.core 0) 4] }, by decide +kernel⟩

/-- A step of a machine that has run for 1 µs, which has a next state. -/
theorem wit_NothingRunsBack : ∃ s : State, s.now = 1000000 ∧ isNext (step s) = true :=
  ⟨{ up with pending := [.randomRead (.core 0)] }, by decide +kernel⟩

/-- Writes of the floor below it, at it, at FirmwareRollback, and above; a store and a load of parameters. -/
theorem wit_FirmwareFloorRule :
    (∃ (src : Source) (v : Nat) (s : State), canSet s src 0x1401 1 v = true ∧ v < 2 ^ 32 ∧ v < s.nvm.firmwareFloor) ∧
    (∃ (src : Source) (v : Nat) (s : State), canSet s src 0x1401 1 v = true ∧ v < 2 ^ 32 ∧ rd s 0x1401 2 < v) ∧
    (∃ (src : Source) (v : Nat) (s : State), canSet s src 0x1401 1 v = true ∧ v < 2 ^ 32 ∧ s.nvm.firmwareFloor = v ∧ v ≤ rd s 0x1401 2 ∧ domOn s 40 = true) ∧
    (∃ (src : Source) (v : Nat) (s : State), canSet s src 0x1401 1 v = true ∧ v < 2 ^ 32 ∧ s.nvm.firmwareFloor ≤ v ∧ v = rd s 0x1401 2 ∧ domOn s 40 = true) ∧
    (∃ (src : Source) (s : State), canSet s src 0x1100 1 0x65766173 = true) ∧
    (∃ (src : Source) (s : State), canSet s src 0x1101 1 0x64616F6C = true) :=
  ⟨⟨.core 0, 4, put [(0x1401, 1, 5), (0x1401, 2, 7)] { up with nvm := { firmwareFloor := 5 } }, by decide +kernel⟩,
   ⟨.core 0, 8, put [(0x1401, 1, 5), (0x1401, 2, 7)] { up with nvm := { firmwareFloor := 5 } }, by decide +kernel⟩,
   ⟨.core 0, 5, put [(0x1401, 1, 5), (0x1401, 2, 7)] { up with nvm := { firmwareFloor := 5 } }, by decide +kernel⟩,
   ⟨.core 0, 7, put [(0x1401, 1, 5), (0x1401, 2, 7)] { up with nvm := { firmwareFloor := 5 } }, by decide +kernel⟩,
   ⟨.core 0, up, by decide +kernel⟩, ⟨.core 0, up, by decide +kernel⟩⟩

/-- An offer at its limit, and 1 ps before it. -/
theorem wit_DispatchTimeoutRule :
    (∃ (t : Nat) (n : CoreId) (o : Offer) (s : State), sysRuns s = true ∧ offerOf s n = some o ∧ o.since + 2000 * rd s 0x1600 6 = (at_ t s).now) ∧
    (∃ (t : Nat) (n : CoreId) (o : Offer) (s : State), sysRuns s = true ∧ offerOf s n = some o ∧ (at_ t s).now + 1 = o.since + 2000 * rd s 0x1600 6) :=
  ⟨⟨1020000, 7, { task := 3, since := 1000000 }, put [(0x1600, 6, 10)] { up with sched := { offers := [(7, { task := 3, since := 1000000 })] } }, by decide +kernel⟩,
   ⟨1019999, 7, { task := 3, since := 1000000 }, put [(0x1600, 6, 10)] { up with sched := { offers := [(7, { task := 3, since := 1000000 })] } }, by decide +kernel⟩⟩

/-! Clauses that rest on the signature check. The check is a constant without a body (Config.mldsaVerify), so no closed witness exists: each theorem says that where the check accepts, the premises of its clauses can be met. -/

/-- A key update: its header, of op, slot and type, its key and its signature. -/
def keyUpd (op slot ty len : Nat) : List Byte :=
  leBytes 4 0x59454B47 ++ leBytes 2 1 ++ leBytes 1 op ++ leBytes 1 slot ++ leBytes 1 ty ++ leBytes 1 1 ++ leBytes 2 0 ++ leBytes 4 len ++ leBytes 8 9 ++ leBytes 8 0
    ++ List.replicate len 3 ++ List.replicate 4627 0

/-- The check of a key update, where the signature check accepts. -/
theorem kuCheck_none {s : State} {b : List Byte} (h : ∀ k m c g, Config.mldsaVerify k m c g = true)
    (h1 : kuFormOk b = true) (h2 : keyType s 1 = 1)
    (h3 : (decide (leAt b 0x10 8 ≤ s.nvm.keyFloor) || (leAt b 9 1 == 0 && leAt b 0x0A 2 != rd s 0x1200 0x01)) = false)
    (h4 : ((kuOp b == 1 && keyType s (kuSlot b) != 0) || (kuOp b == 2 && kuType b == 5 && streamNamed s (kuSlot b))) = false) : kuCheck s b = none := by
  unfold kuCheck
  simp only [h1, h2, h3, h4, h]
  rfl

/-- A key update of each op, for the last slot of stream keys and for the owner key (KeysMailboxesAndAttestation). -/
theorem wit_KeyUpdates (h : ∀ k m c g, Config.mldsaVerify k m c g = true) :
    ∀ op : Nat, op = 1 ∨ op = 2 ∨ op = 3 → ∃ (src : Source) (b : List Byte) (s : State), canPut s src 0x1405 0x00 b = true ∧ kuCheck s b = none ∧ kuOp b = op := by
  rintro op (rfl | rfl | rfl)
  · exact ⟨.core 0, keyUpd 1 47 5 32, { up with keys := [(1, { ty := 1, bytes := [] })] }, by decide +kernel,
      kuCheck_none h (by decide +kernel) (by decide +kernel) (by decide +kernel) (by decide +kernel), by decide +kernel⟩
  · exact ⟨.core 0, keyUpd 2 47 5 0, { up with keys := [(1, { ty := 1, bytes := [] }), (47, { ty := 5, bytes := [] })] }, by decide +kernel,
      kuCheck_none h (by decide +kernel) (by decide +kernel) (by decide +kernel) (by decide +kernel), by decide +kernel⟩
  · exact ⟨.core 0, keyUpd 3 1 1 2592, { up with keys := [(1, { ty := 1, bytes := [] })] }, by decide +kernel,
      kuCheck_none h (by decide +kernel) (by decide +kernel) (by decide +kernel) (by decide +kernel), by decide +kernel⟩

/-- A grant: its allotment and mode (0xFF is a reset), its number, its node, its digits and last, no leading text, its slot of a signing key, its signature. -/
def grantFor (al mode node digits last : Nat) : List Byte :=
  leBytes 4 0x544C4147 ++ leBytes 2 1 ++ leBytes 1 al ++ leBytes 1 mode ++ leBytes 8 9 ++ leBytes 2 node ++ leBytes 2 0 ++ leBytes 1 digits ++ List.replicate 11 0
    ++ leBytes 8 last ++ List.replicate 40 0 ++ leBytes 4 15 ++ List.replicate 12 0 ++ List.replicate 4627 0

/-- Steps 1 to 3 of a grant, where the signature check accepts. -/
theorem grantCheck3_none {s : State} {g : List Byte} (h : ∀ k m c x, Config.mldsaVerify k m c x = true)
    (h1 : grantFormOk g = true) (h2 : (decide (leAt g 0x50 4 < 48) && (tabGet ({} : KeySlot) s.keys (leAt g 0x50 4)).ty == 4) = true)
    (h3 : decide (leAt g 8 8 ≤ grantFloor s) = false) : grantCheck3 s g = none := by
  have h4 : grantAuthOk s g = true := by
    unfold grantAuthOk
    simp only [h, Bool.and_true]
    exact h2
  have h5 : ¬ leAt g 8 8 ≤ grantFloor s := of_decide_eq_false h3
  simp [grantCheck3, h1, h4, h5]

/-- A grant for allotment 31 and a reset (SerialsAndGrants). -/
theorem wit_Grants (h : ∀ k m c x, Config.mldsaVerify k m c x = true) :
    (∃ (src : Source) (g : List Byte) (s : State), canPut s src 0x4001 0x00 g = true ∧ src ≠ .pairAgent ∧ leAt g 7 1 ≠ 0xFF ∧ grantCheck3 s g = none ∧ grantCheck7 s g false = none) ∧
    (∃ (src : Source) (g : List Byte) (s : State), canPut s src 0x4001 0x00 g = true ∧ leAt g 7 1 = 0xFF ∧ grantCheck3 s g = none ∧ resetCheck s g = none) :=
  ⟨⟨.core 0, grantFor 31 0 5 1 9, put [(0x4000, 1, 1), (0x1200, 1, 5)] { up with keys := [(15, { ty := 4, bytes := [] })] }, by decide +kernel, by decide, by decide +kernel,
      grantCheck3_none h (by decide +kernel) (by decide +kernel) (by decide +kernel), by decide +kernel⟩,
   ⟨.core 0, grantFor 0 0xFF 5 0 0, put [(0x4000, 1, 2), (0x1200, 1, 5)] { up with keys := [(15, { ty := 4, bytes := [] })] }, by decide +kernel, by decide +kernel,
      grantCheck3_none h (by decide +kernel) (by decide +kernel) (by decide +kernel), by decide +kernel⟩⟩

/-- A tuning image without sections. -/
def emptyImage : List Byte :=
  let a := leBytes 4 0x4E555447 ++ leBytes 2 1 ++ leBytes 2 64 ++ leBytes 4 4755 ++ leBytes 4 0 ++ leBytes 4 0xFFFFFFFF ++ leBytes 4 0xB0 ++ leBytes 8 7 ++ leBytes 4 0 ++ leBytes 4 15 ++ List.replicate 20 0
  let b := a ++ leBytes 4 (crc32c a)
  b ++ sha3_512 b ++ List.replicate 4627 0

/-- Steps 1 to 4 of an image, where the signature check accepts. -/
theorem imgAuthCheck_none {s : State} {b : List Byte} {n m : Nat} (h : ∀ k m c x, Config.mldsaVerify k m c x = true)
    (h1 : imgHeaderOk b n m = true) (h2 : imgKeyOk s b = true) (h3 : imgDigestOk b = true) : imgAuthCheck s b n m = none := by
  simp [imgAuthCheck, imgSignatureOk, h1, h2, h3, h]

/-- An image for the cache, and one in a load (KeysMailboxesAndAttestation, TuningLoadSteps). -/
theorem wit_Images (h : ∀ k m c x, Config.mldsaVerify k m c x = true) :
    (∃ (src : Source) (b : List Byte) (k : Nat) (s : State), canPut s src 0x140C 0x01 b = true ∧ imgAuthCheck s b b.length (rd s 0x2605 0x02) = none ∧
      (List.range 63).find? (fun k => (tabFind s.cache k).isNone) = some k ∧ b.length ≤ cacheFree s ∧ domOn s 40 = true) ∧
    (∃ s : State, sysRuns s = true ∧ loadState s = 1 ∧
      imgAuthCheck s s.arr.load.image (if rd s 0x2603 0x01 == 0 then imgSize s.arr.load.image else s.arr.load.image.length) (rd s 0x2605 0x02) = none ∧
      (match imgLoadCheck s s.arr.load.image s.arr.load.slot with | .ok l => decide (l = []) | .error _ => false) = true) :=
  ⟨⟨.core 0, emptyImage, 0, put [(0x2605, 2, 0x10000)] { up with keys := [(15, { ty := 3, bytes := [] })] }, by decide +kernel,
      imgAuthCheck_none h (by decide +kernel) (by decide +kernel) (by decide +kernel), by decide +kernel⟩,
   ⟨put [(0x2605, 2, 0x10000), (0x2603, 6, 1)] { up with keys := [(15, { ty := 3, bytes := [] })], arr := { load := { image := emptyImage } } }, by decide +kernel, by decide +kernel,
      imgAuthCheck_none h (by decide +kernel) (by decide +kernel) (by decide +kernel), by decide +kernel⟩⟩

/-! Ill-formed commands, one for each check of WellFormed. -/

/-- A source that is not from outside, a number that does not fit its field, a register that is no trouble counter, one that is no event cause, a type code above 8 bits, and key updates under the wrong row. -/
theorem test_illFormed : ∀ c ∈ ([.objectWrite .pairAgent 0x1604 1 (numVal 0x1604 1 5), .objectWrite .boot 0x1604 1 (numVal 0x1604 1 5),
    .objectWrite (.core 0) 0x10000 1 (numVal 0x1604 1 5), .objectWrite (.core 0) 0x1604 256 (numVal 0x1604 1 5), .objectWrite (.core 0) 0x1604 1 { ty := 256, bytes := [] },
    .troubleCounterClear (.core 0) 0x1604 1 0, .eventCauseClear (.core 0) 0x1604 1 0, .operationComplete 0 0 15 8, .rowBypassWrite (.core 0) 0 (2 ^ 64),
    .keyInstall (.core 0) (keyUpd 2 47 5 0) true, .keyErase (.core 0) (keyUpd 1 47 5 32) true, .keyReplaceOwner (.core 0) (keyUpd 1 47 5 32) true] : List Instr), c.wf = false := by
  decide +kernel

/-- Bytes longer than the longest object. -/
theorem test_illFormed_bytes : (Instr.firmwareUpdate (.core 0) (List.replicate 2097153 0)).wf = false := by
  have h : bytesOk (List.replicate 2097153 0) = false := by
    unfold bytesOk
    rw [List.length_replicate]
    decide
  show (external (.core 0) && bytesOk (List.replicate 2097153 0)) = false
  rw [h]
  rfl

/-- The same commands with numbers that fit are well formed. -/
theorem test_wellFormed : ∀ c ∈ ([.objectWrite (.core 0) 0xFFFF 255 { ty := 255, bytes := [] }, .operationComplete 0 0 15 7, .rowBypassWrite (.core 0) 0 (2 ^ 64 - 1),
    .keyErase (.core 0) (keyUpd 2 47 5 0) true] : List Instr), c.wf = true := by
  decide +kernel

/-! Worked examples of the spec. -/

/-- The cell word of the QERR example: shares 8 and 8 of 16, thresholds at page 1. -/
def qerrLut (k : Nat) : Nat := if k == 257 then 0x02000400 else if k == 258 then 0x07000A00 else if k == 259 then 0x0D000FFF else 0

/-- QERR in three rows (the example of spec/02). -/
theorem test_qerr : (qerr (0x100 <<< 112 + 0x88 <<< 156) qerrLut 1500 120 693).1 = 0xFFFFF5CA
    ∧ (qerr (0x100 <<< 112 + 0x88 <<< 156) qerrLut 1500 7 (wrapInt 32 (-654))).1 = 0x265
    ∧ (qerr (0x100 <<< 112 + 0x88 <<< 156) qerrLut 1500 (wrapInt 32 (-45)) 153).1 = 0x849 := by
  decide +kernel

/-- 16-bit items: three written and the end item make a word of 6 bytes (the example of spec/04). -/
theorem test_items : (tabGet ({} : Queue) (qWriteItem (que 32 { partData := 0x3C4D1A2B, partBytes := 4 } (put [(0x2840, 2, 1)] up)) 32 0x5E6F true).queues 32).head
    = [{ data := 0x5E6F3C4D1A2B, valid := 6, last := true, readable := 502 }] := by
  decide +kernel

/-- A word whose last byte is its fifth gives two tokens, the second of them the end. -/
theorem test_wordTokens : wordTokens { data := 0x31343020 + 0x37 * 2 ^ 32, valid := 5, last := true } = [(0x31343020, false), (0x37, true)] := by
  decide +kernel

/-- The counts on which lines 1 to 6 strobe (the example of spec/05). -/
theorem test_boundary : [1, 2, 3, 4, 5, 6].map (boundary (put [(0x3010, 4, 0x43BBBBBBC)] up) 0) = [5, 9, 13, 17, 22, 26] := by
  decide +kernel

/-- Nozzle 5 FAILED with code 2 between codes 1 and 0: on an even line nozzle 4 prints 3, on an odd line nozzle 6 prints 2 (the example of spec/05). -/
theorem test_compensate : compensate 0 (fun k => if k == 5 then 2 * 2 ^ 30 else 0) [0, 0, 0, 0, 1, 2, 0, 0] = [0, 0, 0, 0, 3, 0, 0, 0]
    ∧ compensate 1 (fun k => if k == 5 then 2 * 2 ^ 30 else 0) [0, 0, 0, 0, 1, 2, 0, 0] = [0, 0, 0, 0, 1, 0, 2, 0] := by
  decide +kernel

/-- The words of the example of spec/08 belong to their rows. -/
theorem test_coreRow : coreRow 0x7800605B = .accz ∧ coreRow 0x03F0500B = .rep ∧ coreRow 0x10A0002B = .fmac := by
  decide +kernel

/-- The datagram of the example of spec/13. -/
def opralExample : List Byte :=
  [0x4F, 0x50, 1, 0, 1, 3, 1, 0, 0x2A, 0, 0, 0, 2, 0, 0, 0, 1, 0, 0, 0x30, 6, 5, 0, 0, 2, 0, 1, 0x31, 2, 4, 4, 0, 0xAA, 1, 0, 0]

/-- A read of a position and a refused write, and the 40 bytes that answer them (the example of spec/13). -/
theorem test_opral : (match exec (.opralDatagram 0 0 9 5000 opralExample)
      (put [(0x1210, 1, 1), (0x1210, 0x0D, 1), (0x1200, 1, 0x301), (bx 0 0, 4, 2), (0x3000, 6, 0x00012C4B8F10)] up) with
    | .next u => (ethOf u 0).replies.map (fun r => r.bytes)
    | .fault _ => []
    | .refused _ => [])
    = [[0x4F, 0x50, 1, 1, 1, 0, 1, 3, 0x2A, 0, 0, 0, 2, 0, 0, 0, 1, 0, 0, 0x30, 6, 5, 8, 0, 0x10, 0x8F, 0x4B, 0x2C, 1, 0, 0, 0, 2, 7, 1, 0x31, 2, 4, 0, 0]] := by
  decide +kernel

/-- HL5 and IL3 by coordinate (the example of spec/17). -/
theorem test_laneBalls : [LaneLeg.txP, .txN, .rxP, .rxN].map (laneBallName 5) = ["V2", "V3", "V5", "V6"]
    ∧ [LaneLeg.txP, .txN, .rxP, .rxN].map (laneBallName 27) = ["B20", "C20", "E20", "F20"] := by
  decide +kernel

/-- The idle, error, status and start blocks are what they are, a frame of 4 bytes takes a start, two data and a terminate block, and what is scrambled is descrambled. -/
theorem test_blocks : blockKind idleBlock = some .idle ∧ blockKind errorBlock = some .error ∧ blockKind (statusBlock true) = some (.status true)
    ∧ (frameOnWire 7 [1, 2, 3, 4]).map blockKind = [some .start, some (.data 7), (frameOnWire 7 [1, 2, 3, 4]).map blockKind |>.getD 2 none, some (.terminate 0)]
    ∧ descramble [] (scramble [] (blockBits startBlock ++ blockBits idleBlock)) = blockBits startBlock ++ blockBits idleBlock := by
  decide +kernel

/-- On B3 the flank distance is 3, and columns lie on nozzles, two to each (the example of spec/06). -/
theorem test_columns : flankDistance (put [(cc 0, 6, 21167), (bx 0 1, 9, 600)] up) 0 0 = 3
    ∧ [0, 1, 2, 4].map (columnNozzle (put [(cc 0, 6, 21167), (bx 0 1, 9, 600), (bx 0 0, 3, 2048)] up) 0 0) = [0, 1, 1, 2] := by
  decide +kernel

/-- The E output of router (4,0) with two-flit requests from the west, PC6 and PC7 always waiting: a third of the flits each with all weights 1, and 6, 1 and 1 of 8 packets with a weight of 6 for the west (the example of spec/11). -/
theorem test_outputShares :
    (let packet : Nat → Nat → Option Nat := fun c i => if c == 0 && (i == 3 || i == 5 || i == 6) then some 2 else none
     let share (w : Nat → Nat) (n i : Nat) : Nat := ((outputRun w packet (fun _ _ => true) n []).filter (fun g => g == (0, i))).length
     localPorts 4 = [.target 59, .ni 6, .ni 7] ∧ [3, 5, 6].map (share (fun _ => 1) 12) = [4, 4, 4]
       ∧ [3, 5, 6].map (share (fun i => if i == 3 then 6 else 1) 16) = [12, 2, 2]) := by
  decide +kernel

/-- A response goes back over the routers of its request, east last. -/
theorem test_responseHops : hopOrderOk (minimalHops (3, 5) (0, 2)) = true ∧ eastLast (responseHops (minimalHops (3, 5) (0, 2))) = true
    ∧ routeRouters (0, 2) (responseHops (minimalHops (3, 5) (0, 2))) = (routeRouters (3, 5) (minimalHops (3, 5) (0, 2))).map List.reverse := by
  decide +kernel

end Sys2Proof.Tests
end

section
/-! PROOFS. Bytes that a unit moves over the network: a buffer in memory, the staging region, and what is read back of what is stored. -/

namespace Sys2Proof.Proofs

open Sys2Proof.Machine Sys2Proof.Safety Sys2Proof.Laws

/-! Byte lists. -/

theorem length_memRead (s : State) (a n : Nat) : (memRead s a n).length = n := by
  induction n generalizing a with
  | zero => rfl
  | succ n ih => simp [memRead, ih]

theorem memRead_add (s : State) (a m n : Nat) : memRead s a (m + n) = memRead s a m ++ memRead s (a + m) n := by
  induction m generalizing a with
  | zero => simp [memRead]
  | succ m ih =>
    rw [show m + 1 + n = (m + n) + 1 by omega, show a + (m + 1) = a + 1 + m by omega]
    simp only [memRead, ih, List.cons_append]

theorem memWrite_append (s : State) (a : Nat) (b c : List Byte) : memWrite s a (b ++ c) = memWrite (memWrite s a b) (a + b.length) c := by
  induction b generalizing s a with
  | nil => rfl
  | cons x r ih =>
    show memWrite (memPut s a x) (a + 1) (r ++ c) = memWrite (memWrite (memPut s a x) (a + 1) r) (a + (r.length + 1)) c
    rw [ih, show a + 1 + r.length = a + (r.length + 1) by omega]

/-- What a write of bytes leaves in memory depends on memory alone. -/
theorem memWrite_mem_congr {x y : State} (h : y.mem = x.mem) (a : Nat) (b : List Byte) : (memWrite y a b).mem = (memWrite x a b).mem := by
  induction b generalizing x y a with
  | nil => exact h
  | cons c r ih => exact ih (x := memPut x a c) (y := memPut y a c) (congrArg (tabPut · a c) h) (a + 1)

theorem leBytes_leNat (b : List Byte) : leBytes b.length (leNat b) = b := by
  induction b with
  | nil => rfl
  | cons x r ih =>
    have hx := x.isLt
    have hlow : BitVec.ofNat 8 (x.toNat + leNat r <<< 8) = x := by
      apply BitVec.eq_of_toNat_eq
      rw [BitVec.toNat_ofNat, Nat.shiftLeft_eq]
      omega
    have hhigh : (x.toNat + leNat r <<< 8) >>> 8 = leNat r := by
      rw [Nat.shiftLeft_eq, Nat.shiftRight_eq_div_pow]
      omega
    simp only [List.length_cons, leBytes, leNat, hlow, hhigh, ih]

/-! The ports of X and Y memory (R282). -/

theorem mem_of_tabFind {α : Type} {t : Tab α} {i : Nat} {x : α} (h : tabFind t i = some x) : (i, x) ∈ t := by
  induction t with
  | nil => cases h
  | cons e r ih =>
    obtain ⟨k, v⟩ := e
    by_cases hk : k = i
    · subst hk
      simp only [tabFind, Nat.beq_refl, if_true, Option.some.injEq] at h
      exact h ▸ List.mem_cons_self
    · simp only [tabFind, beq_false hk, Bool.false_eq_true, if_false] at h
      exact List.mem_cons_of_mem _ (ih h)

/-- No word of a core's X or Y memory has been written through port A in the present NCLK. -/
theorem portA_idle {s : State} (h : portsFree s = true) {n : Nat} (hn : n < 8) (w : Nat) :
    (tabGet {} (coreOf s n).portA w).nclk ≠ nclk s + 1 := by
  have hcore := List.all_eq_true.1 (List.all_eq_true.1 h n (List.mem_range.2 hn))
  cases hw : tabFind (coreOf s n).portA w with
  | none => simp [tabGet, hw]
  | some u => simpa [tabGet, hw] using hcore _ (mem_of_tabFind hw)

theorem portsFree_congr {x y : State} (hA : ∀ n, (coreOf y n).portA = (coreOf x n).portA) (hc : nclk y = nclk x) : portsFree y = portsFree x := by
  unfold portsFree
  simp only [hA, hc]

theorem portsFree_kept {m : Nat} {x y : State} (k : Keeps m x y) (hm : m &&& 0x1100002 = 0 := by decide) : portsFree y = portsFree x := by
  have clear : ∀ i, (0x1100002 : Nat).testBit i = true → m.testBit i = false := by
    intro i hi
    have h : (m &&& 0x1100002).testBit i = false := by rw [hm]; exact Nat.zero_testBit i
    simpa [Nat.testBit_and, hi] using h
  have hcores := k.same_cores (clear 20 (by decide))
  have hnow := k.same_now (clear 1 (by decide))
  have hpower := k.same_power (clear 24 (by decide))
  exact portsFree_congr (fun n => by unfold coreOf; rw [hcores]) (by unfold nclk pllTime; rw [hnow, hpower])

/-- Where port A is idle, a network read of a core's memories finds the bytes that stand there. -/
theorem coreNetRead_free {s : State} (h : portsFree s = true) {n : Nat} (hn : n < 8) (o size : Nat) :
    coreNetRead s n o size = memNat s (coreWindow n + o) size := by
  unfold coreNetRead portView
  split
  · rfl
  · simp [portA_idle h hn]

theorem portBWrite_clear (s : State) (n o : Nat) (b : List Byte) (k : Nat) :
    portBWrite s n o 0 b k = memWrite s (coreWindow n + o + k) b := by
  induction b generalizing s k with
  | nil => rfl
  | cons x r ih =>
    have hbit : bitOf 0 ((o + k) % 4) = false := Nat.zero_testBit _
    simp only [portBWrite, hbit, Bool.false_eq_true, if_false, ih]
    rfl

/-- The state in which port B has noted a write, for an access by port A in the same NCLK. -/
def portBNoted (s : State) (n o size : Nat) : State :=
  setCore s n { coreOf s n with portB := portNote s n o size (coreOf s n).portB }

/-- Where port A is idle, a network write to X or Y memory puts its bytes there. -/
theorem coreNetWrite_free {s : State} (h : portsFree s = true) {n o : Nat} (hn : n < 8) (ho : 0x20000 ≤ o) (size v : Nat) :
    (coreNetWrite s n o size v).1 = memWrite (portBNoted s n o size) (coreWindow n + o) (leBytes size v) := by
  have hclash : portClash s o size (coreOf s n).portA = none := by
    unfold portClash
    split
    · rfl
    · simp [portA_idle h hn]
  have hlow : decide (o < 0x20000) = false := decide_eq_false (by omega)
  unfold coreNetWrite
  simp only [hlow, Bool.false_and, Bool.false_eq_true, if_false, hclash, collided, Option.isNone_none, if_true, Option.getD_none, portBWrite_clear]
  rfl

theorem portsFree_portBNoted (s : State) (n o size : Nat) : portsFree (portBNoted s n o size) = portsFree s := by
  refine portsFree_congr (fun m => ?_) rfl
  by_cases hm : n = m
  · subst hm
    rw [portBNoted, coreOf_setCore]
  · exact congrArg Core.portA (tabGet_set_other _ _ s.cores _ hm)

/-! Loads and stores over the network. -/

/-- The core whose window holds an address, and the offset there. -/
theorem coreWindow_split {a : Nat} (lo : 0x10000000 ≤ a) : coreWindow ((a - 0x10000000) / 0x01000000) + a % 0x01000000 = a := by
  unfold coreWindow
  omega

/-- Bytes read over the network are those that memory holds, where port A is idle. -/
theorem netLoad_free {s : State} (h : portsFree s = true) : ∀ (k a len : Nat), len < k → netLoad k s a len = memRead s a len := by
  intro k
  induction k with
  | zero => intro a len hlen; omega
  | succ k ih =>
    intro a len hlen
    by_cases h0 : len = 0
    · subst h0; rfl
    · by_cases hw : 0x10000000 ≤ a ∧ a < 0x18000000
      · obtain ⟨lo, hi⟩ := hw
        have hchunk := coreNetRead_free h (n := (a - 0x10000000) / 0x01000000) (by omega) (a % 0x01000000) (min (4 - a % 4) len)
        rw [coreWindow_split lo] at hchunk
        have hbytes : leBytes (min (4 - a % 4) len) (memNat s a (min (4 - a % 4) len)) = memRead s a (min (4 - a % 4) len) := by
          have := leBytes_leNat (memRead s a (min (4 - a % 4) len))
          rwa [length_memRead] at this
        simp only [netLoad, beq_iff_eq, h0, if_false, lo, hi, decide_true, Bool.and_self, if_true, hchunk, hbytes]
        rw [ih _ _ (by omega), ← memRead_add, Nat.add_sub_cancel' (Nat.min_le_right _ _)]
      · have hout : (decide (0x10000000 ≤ a) && decide (a < 0x18000000)) = false := by
          rw [← Bool.decide_and]; exact decide_eq_false hw
        simp [netLoad, h0, hout]

/-- The state in which a word's share of a store has gone through port B of core n. -/
def wordStored (s : State) (n o size : Nat) (b : List Byte) : State :=
  memWrite (portBNoted s n o (min size b.length)) (coreWindow n + o) (b.take size)

theorem wordStored_mem (s : State) (n o size : Nat) (b : List Byte) : (wordStored s n o size b).mem = (memWrite s (coreWindow n + o) (b.take size)).mem :=
  memWrite_mem_congr (show (portBNoted s n o (min size b.length)).mem = s.mem from rfl) _ _

theorem portsFree_wordStored (s : State) (n o size : Nat) (b : List Byte) : portsFree (wordStored s n o size b) = portsFree s := by
  have hcores : ∀ m, coreOf (wordStored s n o size b) m = coreOf (portBNoted s n o (min size b.length)) m := by
    intro m; unfold coreOf wordStored; rw [memWrite_cores]
  have htime : nclk (wordStored s n o size b) = nclk (portBNoted s n o (min size b.length)) := by
    unfold nclk pllTime wordStored; rw [memWrite_now, memWrite_power]
  rw [portsFree_congr (fun m => congrArg Core.portA (hcores m)) htime, portsFree_portBNoted]

/-- A store to X or Y memory goes word by word: first the bytes up to the next word, then the rest. -/
theorem netStore_word {s : State} {n o : Nat} (hfree : portsFree s = true) (hn : n < 8) (hlo : 0x100000 ≤ o) (hhi : o < 0x120000) {b : List Byte} (hb : b ≠ []) (k : Nat) :
    netStore (k + 1) s (coreWindow n + o) b =
      netStore k (wordStored s n o (4 - o % 4) b) (coreWindow n + (o + (4 - o % 4))) (b.drop (4 - o % 4)) := by
  have hne : b.isEmpty = false := by rw [List.isEmpty_eq_false_iff]; exact hb
  have hwin : (decide (0x10000000 ≤ coreWindow n + o) && decide (coreWindow n + o < 0x18000000)) = true := by
    unfold coreWindow
    simp only [Bool.and_eq_true, decide_eq_true_eq]
    omega
  have hcore : (coreWindow n + o - 0x10000000) / 0x01000000 = n := by unfold coreWindow; omega
  have hoff : (coreWindow n + o) % 0x01000000 = o := by unfold coreWindow; omega
  have halign : (coreWindow n + o) % 4 = o % 4 := by unfold coreWindow; omega
  have htake : leBytes (min (4 - o % 4) b.length) (leNat (b.take (4 - o % 4))) = b.take (4 - o % 4) := by
    rw [← List.length_take]; exact leBytes_leNat _
  have hstep := coreNetWrite_free hfree hn (o := o) (by omega) (min (4 - o % 4) b.length) (leNat (b.take (4 - o % 4)))
  rw [htake] at hstep
  simp only [netStore, hne, Bool.false_eq_true, if_false, hwin, if_true, hcore, hoff, halign, hstep, Nat.add_assoc]
  rfl

/-- Bytes stored over the network in X or Y memory stand in memory, where port A is idle. -/
theorem netStore_core {n : Nat} (hn : n < 8) : ∀ (k : Nat) (s : State) (o : Nat) (b : List Byte), portsFree s = true → b.length < k → 0x100000 ≤ o → o + b.length ≤ 0x120000 →
    (netStore k s (coreWindow n + o) b).mem = (memWrite s (coreWindow n + o) b).mem := by
  intro k
  induction k with
  | zero => intro s o b _ hk; omega
  | succ k ih =>
    intro s o b hfree hk hlo hhi
    by_cases hb : b = []
    · subst hb; rfl
    · have hlen : 0 < b.length := List.length_pos_iff.2 hb
      rw [netStore_word hfree hn hlo (by omega) hb]
      generalize hsize : 4 - o % 4 = size
      have hpos : 0 < size := by omega
      by_cases hrest : b.length ≤ size
      · have hstop : ∀ y a, netStore k y a [] = y := by intro y a; cases k <;> rfl
        rw [List.drop_eq_nil_of_le hrest, hstop, wordStored_mem, List.take_of_length_le hrest]
      · rw [ih _ _ _ ((portsFree_wordStored ..).trans hfree) (by rw [List.length_drop]; omega) (by omega) (by rw [List.length_drop]; omega)]
        calc (memWrite (wordStored s n o size b) (coreWindow n + (o + size)) (b.drop size)).mem
            = (memWrite (memWrite s (coreWindow n + o) (b.take size)) (coreWindow n + (o + size)) (b.drop size)).mem :=
              memWrite_mem_congr (wordStored_mem ..) _ _
          _ = (memWrite s (coreWindow n + o) (b.take size ++ b.drop size)).mem := by
              rw [memWrite_append, List.length_take, Nat.min_eq_left (by omega), Nat.add_assoc]
          _ = (memWrite s (coreWindow n + o) b).mem := by rw [List.take_append_drop]

/-- Bytes stored over the network above the cores' windows stand in memory. -/
theorem netStore_above {s : State} {a : Nat} (ha : 0x18000000 ≤ a) (k : Nat) (b : List Byte) : netStore (k + 1) s a b = memWrite s a b := by
  have hout : (decide (0x10000000 ≤ a) && decide (a < 0x18000000)) = false := by
    rw [decide_eq_false (p := a < 0x18000000) (by omega), Bool.and_false]
  cases b with
  | nil => rfl
  | cons x r => simp [netStore, hout]

/-! The way of an access through the network. -/

/-- Two states whose dictionary registers and network are the same but for what the banks have heard and hold: an access finds the same way in both. -/
def SameNet (x y : State) : Prop := y.obj = x.obj ∧ ∃ h b, y.noc = { x.noc with heardAt := h, banks := b }

theorem SameNet.trans {x y z : State} (hxy : SameNet x y) (hyz : SameNet y z) : SameNet x z := by
  obtain ⟨ho, h, b, hn⟩ := hxy
  obtain ⟨ho', h', b', hn'⟩ := hyz
  exact ⟨ho'.trans ho, h', b', by rw [hn', hn]⟩

theorem sameNet_at (t : Nat) (s : State) : SameNet s (at_ t s) := ⟨rfl, _, _, rfl⟩

theorem sameNet_endAssembly (s : State) : SameNet s (endAssembly s) := ⟨rfl, _, _, rfl⟩

theorem sameNet_unitUse (s : State) (code ni a len : Nat) : SameNet s (unitUse s code ni a len) := by
  unfold unitUse
  split
  · exact ⟨rfl, _, _, rfl⟩
  · generalize rangeTargets s ni a len = ts
    induction ts generalizing s with
    | nil => exact ⟨rfl, _, _, rfl⟩
    | cons t ts ih => exact SameNet.trans (y := setNoc s _) ⟨rfl, _, _, rfl⟩ (ih _)

theorem SameNet.rd_eq {x y : State} (h : SameNet x y) : rd y = rd x := by
  funext i j
  unfold rd
  rw [h.1]

/-- An access is answered alike, whether or not the harrow has borrowed its window. -/
theorem SameNet.gateStatus_eq {x y : State} (h : SameNet x y) (ni a len : Nat) :
    gateStatus (unitGate y ni a len) = gateStatus (unitGate x ni a len) := by
  have hrd := h.rd_eq
  obtain ⟨-, ha, hb, hn⟩ := h
  have hext : lpddrExternal y = lpddrExternal x := by funext n b; unfold lpddrExternal; rw [hrd]
  have hsize : lpddrSize y = lpddrSize x := by funext i; unfold lpddrSize; rw [hrd]
  have hint : lpddrInterface y = lpddrInterface x := by funext e; unfold lpddrInterface; rw [hrd, hsize]
  have hholds : lpddrHolds y = lpddrHolds x := by funext i e l; unfold lpddrHolds; rw [hrd, hint, hsize]
  have hts : rangeTargets y = rangeTargets x := by funext n b l; unfold rangeTargets; rw [hext, hholds]
  have hdom : domOn y = domOn x := by funext d; unfold domOn domState; rw [hrd]
  have hon : regionOn y = regionOn x := by funext n b l; unfold regionOn; rw [hext, hholds, hdom]
  have hfenced : routeFenced y = routeFenced x := by funext u; unfold routeFenced; rw [hn]
  have hroute : activeRoute y = activeRoute x := by funext n u; unfold activeRoute niOf; rw [hn]
  have hsusp : routeSuspended y = routeSuspended x := by funext n u; unfold routeSuspended; rw [hn, hroute]
  have hinst : lpddrInstalled y = lpddrInstalled x := by unfold lpddrInstalled; rw [hsize]
  have hiso : y.noc.isolated = x.noc.isolated := by rw [hn]
  unfold unitGate
  simp only [hext, hts, hon, hfenced, hroute, hsusp, hinst, hiso]
  repeat' split
  all_goals rfl

theorem SameNet.bufferAddr_eq {x y : State} (h : SameNet x y) (ni n a len : Nat) : bufferAddr y ni n a len = bufferAddr x ni n a len := by
  have hphys : physAddr y ni a = physAddr x ni a := by unfold physAddr lpddrExternal; rw [h.rd_eq]
  unfold bufferAddr
  simp only [h.gateStatus_eq, hphys]

theorem SameNet.stagingStatus_eq {x y : State} (h : SameNet x y) : stagingStatus y = stagingStatus x := by
  unfold stagingStatus stagingBase stagingSize
  rw [h.gateStatus_eq, h.rd_eq]

/-! Buffers (R371). -/

/-- Where a buffer that is let through lies: in the X or Y memory of its core, or above the cores' windows, through the network. -/
theorem bufferAddr_ok {s : State} {ni n a len p : Nat} (h : bufferAddr s ni n a len = .ok p) :
    (∃ o, bufferUse s ni n a len = s ∧ p = coreWindow n + o ∧ 0x100000 ≤ o ∧ o + len ≤ 0x120000) ∨
    (bufferUse s ni n a len = unitUse s 14 ni a len ∧ 0x18000000 ≤ p) := by
  unfold bufferAddr at h
  unfold bufferUse
  cases hl : localOffset n a with
  | some o =>
    simp only [hl] at h ⊢
    split at h
    · next hin =>
      simp only [Bool.and_eq_true, decide_eq_true_eq] at hin
      exact .inl ⟨o, trivial, by cases h; rfl, hin⟩
    · cases h
  | none =>
    simp only [hl] at h ⊢
    split at h
    · next hin =>
      cases hg : gateStatus (unitGate s ni a len) with
      | some e => rw [hg] at h; cases h
      | none =>
        rw [hg] at h
        cases h
        refine .inr ⟨rfl, ?_⟩
        simp only [Bool.or_eq_true, Bool.and_eq_true, decide_eq_true_eq] at hin
        unfold physAddr externalBase
        split <;> omega
    · cases h

theorem keeps_bufferUse_ok {m : Nat} {s : State} {ni n a len p : Nat} (hm : Within 0x200000 m) (h : bufferAddr s ni n a len = .ok p) : Keeps m s (bufferUse s ni n a len) := by
  obtain ⟨o, hu, -⟩ | ⟨hu, -⟩ := bufferAddr_ok h <;> rw [hu]
  · exact Keeps.refl _ _
  · exact keeps_unitUse hm (Keeps.refl _ _)

theorem sameNet_bufferUse {s : State} {ni n a len p : Nat} (h : bufferAddr s ni n a len = .ok p) : SameNet s (bufferUse s ni n a len) := by
  obtain ⟨o, hu, -⟩ | ⟨hu, -⟩ := bufferAddr_ok h <;> rw [hu]
  · exact ⟨rfl, _, _, rfl⟩
  · exact sameNet_unitUse _ _ _ _ _

/-- What a unit stores in a buffer is read back there. -/
theorem memRead_buffer {s : State} {ni n a p : Nat} {b : List Byte} (hn : n < 8) (hfree : portsFree s = true) (h : bufferAddr s ni n a b.length = .ok p) :
    memRead (netStore b.length.succ (bufferUse s ni n a b.length) p b) p b.length = b := by
  have hmem : (netStore b.length.succ (bufferUse s ni n a b.length) p b).mem = (memWrite (bufferUse s ni n a b.length) p b).mem := by
    obtain ⟨o, hu, rfl, hlo, hhi⟩ | ⟨-, hp⟩ := bufferAddr_ok h
    · rw [hu]
      exact netStore_core hn _ s o b hfree (Nat.lt_succ_self _) hlo hhi
    · rw [netStore_above hp]
  have hepoch := (keeps_netStore (pm := 0x180748) (k := b.length.succ) (a := p) (b := b) (all _) (Keeps.refl _ (bufferUse s ni n a b.length))).same_memEpoch (by decide)
  rw [memRead_congr hmem (hepoch.trans (memWrite_memEpoch _ _ _).symm), memRead_write]

end Sys2Proof.Proofs
end

section
/-! PROOFS. Accesses of the dictionary: where an object is, what a write of a plain object, of a trouble counter and of a cause register does, by every path; the window of the cores and their transfer ports. -/

namespace Sys2Proof.Proofs

open Sys2Proof.Machine Sys2Proof.Safety Sys2Proof.Laws

/-! Objects. -/

theorem resolveObj_place {idx sub : Nat} {o : ObjRef} (h : resolveObj idx sub = .ok o) : o.idx = idx ∧ o.sub = sub := by
  unfold resolveObj at h
  split at h
  · cases h
  · split at h
    · split at h
      · cases h; exact ⟨rfl, rfl⟩
      · cases h
    · split at h
      · next h0 => cases h; exact ⟨rfl, (beq_iff_eq.1 h0).symm⟩
      · cases h

theorem wideType_bytes {ty : ObjTy} (h : wideType ty = true) : ty.bytes = 8 := by
  cases ty <;> simp_all [wideType, ObjTy.bytes]

theorem bytes_le_eight (ty : ObjTy) : ty.bytes ≤ 8 := by cases ty <;> decide

theorem kind_of_isTrouble {idx sub : Nat} (h : isTrouble idx sub = true) : ∃ o, resolveObj idx sub = .ok o ∧ o.desc.kind = .trouble := by
  unfold isTrouble at h
  split at h
  · next o ho => exact ⟨o, ho, beq_iff_eq.1 h⟩
  · cases h

theorem kind_of_isCause {idx sub : Nat} (h : isCause idx sub = true) : ∃ o, resolveObj idx sub = .ok o ∧ o.desc.kind = .cause := by
  unfold isCause at h
  split at h
  · next o ho => exact ⟨o, ho, beq_iff_eq.1 h⟩
  · cases h

/-! What the write of an object does. -/

theorem dictApply_plain {idx sub : Nat} {o : ObjRef} (hp : Plain idx sub o) (s : State) (src : Source) (v : ObjVal) (nvm : Bool) :
    dictApply s src o v nvm = (noted src o (wr s idx sub (leNat v.bytes)), some .ok) := by
  obtain ⟨ho, hkind, hfn, hbytes⟩ := hp
  obtain ⟨rfl, rfl⟩ := resolveObj_place ho
  have hnum : (o.desc.ty.bytes == 0) = false := beq_eq_false_iff_ne.2 hbytes
  simp only [dictApply, hkind, hfn, hnum, numberApply, noted]
  cases o.desc.pers <;> cases src != .boot <;> rfl

theorem dictApply_trouble {idx sub : Nat} {o : ObjRef} (ho : resolveObj idx sub = .ok o) (hk : o.desc.kind = .trouble) (s : State) (src : Source) (v : ObjVal) (nvm : Bool) :
    dictApply s src o v nvm = (noted src o (wr s idx sub 0), some .ok) := by
  obtain ⟨rfl, rfl⟩ := resolveObj_place ho
  simp only [dictApply, hk, noted]
  cases o.desc.pers <;> cases src != .boot <;> rfl

theorem dictApply_cause {idx sub : Nat} {o : ObjRef} (ho : resolveObj idx sub = .ok o) (hk : o.desc.kind = .cause) (s : State) (src : Source) (v : ObjVal) (nvm : Bool) :
    dictApply s src o v nvm = (noted src o (wr s idx sub (clearBits (rd s idx sub) (leNat v.bytes))), some .ok) := by
  obtain ⟨rfl, rfl⟩ := resolveObj_place ho
  simp only [dictApply, hk, noted]
  cases o.desc.pers <;> cases src != .boot <;> rfl

/-! A write that is performed at once. -/

/-- A value that arrives whole moves staging memory and the banks alone. -/
theorem assembled_keeps {s : State} {idx sub : Nat} {b : List Byte} (h : (assembled s idx sub b).2 = none) : Keeps 0x200040 s (assembled s idx sub b).1 := by
  revert h
  unfold assembled
  split
  · exact fun _ => Keeps.refl _ _
  · split
    · exact fun _ => Keeps.refl _ _
    · split
      · intro h; cases h
      · split
        · intro h; cases h
        · split
          · next hturned => intro (h : stagingStatus s = none); rw [h] at hturned; cases hturned
          · exact fun _ => keeps_stagingPut (all _) (Keeps.refl _ _)

theorem arrived_keeps {s : State} {src : Source} {idx sub : Nat} {v : ObjVal} (hw : canWrite s src idx sub v = true) : Keeps 0x200040 (start s) (arrived s idx sub v) := by
  simp only [canWrite, Bool.and_eq_true, Option.isNone_iff_eq_none] at hw
  obtain ⟨⟨⟨-, hwhole⟩, -⟩, -⟩ := hw
  exact assembled_keeps hwhole

@[simp] theorem quiet_wr (s : State) (i j v : Nat) : quiet (wr s i j v) = quiet s := by
  simp only [quiet, wr_pair, wr_plant, wr_security, wr_power]

theorem rd_kept {m : Nat} {z y : State} (k : Keeps m z y) (h : m.testBit 3 = false := by decide) (i j : Nat) : rd y i j = rd z i j := by
  unfold rd; rw [k.same_obj h]

/-- A write that is performed at once, and whose object then holds `f` of what it held, leads to that and to OK. -/
theorem leads_access {c : Instr} {src : Source} {idx sub : Nat} {v : ObjVal} {o : ObjRef} {s : State} {f : Nat → Nat}
    (hc : exec c s = access src idx sub v s) (hw : canWrite s src idx sub v = true) (ho : resolveObj idx sub = .ok o)
    (ha : ∀ x, dictApply x src o v true = (noted src o (wr x idx sub (f (rd x idx sub))), some .ok)) :
    Leads c s (Holds idx sub (f (rd s idx sub))) := by
  have k := arrived_keeps hw
  have hq : quiet (noted src o (wr (arrived s idx sub v) idx sub (f (rd (arrived s idx sub v) idx sub)))) = true := by
    rw [quiet_noted, quiet_wr]
    exact (quiet_kept k).trans (quiet_of_canWrite hw)
  refine ⟨_, hc.trans (access_next hw ho (ha _) hq), rfl, ?_⟩
  rw [rd_reply, rd_noted, rd_wr_same, rd_kept k, rd_start]

/-! The parts of a write's check and of its turn. -/

/-- The checks of a write read the dictionary's registers, the delay lists and whether a value is being assembled. -/
structure SameChecks (x y : State) : Prop where
  regs : y.obj = x.obj
  lists : y.sched.delayed = x.sched.delayed
  staging : x.plant.assembly.isNone = true → y.plant.assembly.isNone = true

theorem SameChecks.rd_eq {x y : State} (h : SameChecks x y) : rd y = rd x := by
  funext i j; unfold rd; rw [h.regs]

theorem SameChecks.ownerOff {x y : State} (h : SameChecks x y) {o : ObjRef} (hx : ownerOff x o = true) : ownerOff y o = true := by
  have hrd := h.rd_eq
  have hlists : delayList y = delayList x := by funext k; unfold delayList; rw [h.lists]
  unfold Machine.ownerOff at hx ⊢
  cases ho : o.desc.own
  case staging =>
    simp only [ho] at hx ⊢
    exact h.staging hx
  case free => rfl
  case fieldRow => rfl
  all_goals
    simp only [ho, barState, camState, coreState, encState, gateEnabled, lpddrOff, domState, lpddrState, laneState, allotmentsEmpty, alState, al, genEnabled, resyncState,
      qState, timerBase, loadRunning, loadState, hrd, hlists] at hx ⊢
    exact hx

theorem writeCheck_none_iff (s : State) (src : Source) (o : ObjRef) (v : ObjVal) :
    writeCheck s src o v = none ↔ writeAccess s src o = none ∧ writeTypeOk o v = true ∧ bootRefuses s src o = false ∧
      (o.desc.acc = .rws → src ≠ .boot → ownerOff s o = true) ∧ writeRangeOk o v = true := by
  have hstate : (bootRefuses s src o || (o.desc.acc == .rws && src != .boot && !ownerOff s o)) = false ↔
      bootRefuses s src o = false ∧ (o.desc.acc = .rws → src ≠ .boot → ownerOff s o = true) := by
    cases bootRefuses s src o <;> simp
  unfold writeCheck
  cases writeAccess s src o with
  | some e => simp
  | none =>
    cases writeTypeOk o v with
    | false => simp
    | true =>
      rw [← and_assoc (a := bootRefuses s src o = false), ← hstate]
      cases bootRefuses s src o || (o.desc.acc == .rws && src != .boot && !ownerOff s o) <;> cases writeRangeOk o v <;> simp

theorem SameChecks.writeCheck {x y : State} (h : SameChecks x y) {src : Source} {o : ObjRef} {v : ObjVal} (hx : writeCheck x src o v = none) :
    writeCheck y src o v = none := by
  rw [writeCheck_none_iff] at hx ⊢
  obtain ⟨hacc, hty, hboot, hown, hrng⟩ := hx
  have hrd := h.rd_eq
  have hacc' : writeAccess y src o = writeAccess x src o := by
    unfold writeAccess portWritable roleClosed pairRole; rw [hrd]
  have hboot' : bootRefuses y src o = bootRefuses x src o := by
    unfold bootRefuses bootState; rw [hrd]
  exact ⟨hacc'.trans hacc, hty, hboot'.trans hboot, fun hr hs => h.ownerOff (hown hr hs), hrng⟩

/-- What holds an access up is alike in two states in which the same waits. -/
theorem heldUp_congr {x y : State} (hpair : y.pair = x.pair) (hgrants : y.plant.granting = x.plant.granting) (hblocked : y.plant.blocked = x.plant.blocked)
    (hsec : y.security = x.security) (m : MirrorWait) : heldUp y m = heldUp x m := by
  unfold heldUp answerOwed
  rw [hpair, hgrants, hblocked, hsec]

/-- A write of a plain object through a port, in a state in which what holds up and checks the write is as in one in which it is performed at once. -/
theorem dictWrite_plain {s y : State} {src : Source} {idx sub : Nat} {v : ObjVal} {o : ObjRef} (hp : Plain idx sub o) (hw : canWrite s src idx sub v = true)
    (hsame : SameChecks s y) (hpair : y.pair = s.pair) (hgrants : y.plant.granting = s.plant.granting) (hblocked : y.plant.blocked = s.plant.blocked)
    (hsec : y.security = s.security) : dictWrite y src idx sub v = (noted src o (wr y idx sub (leNat v.bytes)), some .ok) := by
  obtain ⟨ho, -, -, hbytes⟩ := id hp
  simp only [canWrite, ho, Bool.and_eq_true, Bool.not_eq_true', Option.isNone_iff_eq_none] at hw
  obtain ⟨⟨⟨-, -⟩, hheld⟩, hcheck, hmirror⟩ := hw
  have hlen : v.bytes.length = o.desc.ty.bytes := by
    have hty := ((writeCheck_none_iff _ _ _ _).1 hcheck).2.1
    simp only [writeTypeOk, Bool.and_eq_true, bne_iff_ne.2 hbytes, if_true, beq_iff_eq] at hty
    exact hty.2
  have hdomain : o.desc.ty ≠ .domain := fun e => hbytes (by rw [e]; rfl)
  rw [arrived_short ho hdomain (by rw [hlen]; exact Nat.le_trans (bytes_le_eight _) (by decide))] at hheld hcheck hmirror
  have hheld' : heldUp y { seq := 0, src := src, direct := false, idx := idx, sub := sub, value := v } = false :=
    (heldUp_congr hpair hgrants hblocked hsec _).trans hheld
  have hcheck' : writeCheck y src o v = none := SameChecks.writeCheck ⟨hsame.regs, hsame.lists, hsame.staging⟩ hcheck
  have hmirror' : (o.desc.cls == .m && pairRole y == 2) = false := by
    rw [← hmirror]; unfold pairRole; rw [hsame.rd_eq]; rfl
  unfold dictWrite dictWriteWith dictWriteNow
  simp only [hheld', Bool.false_eq_true, if_false, ho, hcheck', dictApply_plain hp, hmirror', Bool.false_and]
  simp

/-! The window (R368). -/

/-- A word of the window: its index, with the high words from 0x8000 on, and its sub-index. -/
structure AtWindow (a idx sub : Nat) : Prop where
  aligned : a % 4 = 0
  index : windowIndex a = idx
  place : windowSub a = sub

theorem atWindow_low {idx sub : Nat} (hi : idx < 0x8000) (hs : sub < 256) : AtWindow (windowAddr idx sub false) idx sub := by
  constructor <;> simp only [windowIndex, windowSub, windowAddr, Bool.false_eq_true, if_false] <;> omega

theorem atWindow_high {idx sub : Nat} (hi : idx < 0x8000) (hs : sub < 256) : AtWindow (windowAddr idx sub true) (idx + 0x8000) sub := by
  constructor <;> simp only [windowIndex, windowSub, windowAddr, if_true] <;> omega

/-- The index of an object is not one of a transfer port. -/
theorem not_port {idx : Nat} (h : idx < 0x7F00 ∨ 0x8000 ≤ idx) : (decide (0x7F00 ≤ idx) && decide (idx < 0x7F08)) = false := by
  rw [← Bool.decide_and]
  exact decide_eq_false (by omega)

theorem finOfNat_val (n : CoreId) : Fin.ofNat 8 n.val = n := Fin.ext (Nat.mod_eq_of_lt n.isLt)

/-- A store of a core to the window that is answered. -/
theorem leads_coreStore {c : Instr} {n : CoreId} {a v : Nat} {s y : State} {st : Status} {P : State → Prop} (hc : exec c s = coreStoreObj n a v s)
    (hs : served (start s) (.core n) = true) (hw : windowStore (start s) n.val a 4 v = (y, some st)) (hq : quiet y = true) (hP : P (reply y (some st) 0 [])) : Leads c s P := by
  refine ⟨_, hc.trans ?_, hP⟩
  unfold coreStoreObj
  simp only [hs, if_true, hw]
  exact finish_quiet hq

/-- A load of a core from the window that waits for nothing. -/
theorem leads_coreLoad {c : Instr} {n : CoreId} {a v : Nat} {s y : State} {P : State → Prop} (hc : exec c s = coreLoadObj n a s)
    (hr : canRead s (.core n) = true) (hw : windowLoad (start s) n.val a 4 = (y, .ok v)) (hq : quiet y = true) (hP : P (reply y (some .ok) v [])) : Leads c s P := by
  simp only [canRead, quiet, Bool.and_eq_true, List.isEmpty_iff, Option.isNone_iff_eq_none, List.all_eq_true, bne_iff_ne] at hr
  obtain ⟨⟨⟨⟨⟨⟨hready, hgrants⟩, hchecks⟩, hblocked⟩, -⟩, hserved⟩, hmirror⟩ := hr
  have hheld : heldUp (start s) (readWait (.core n) (windowIndex a) (windowSub a) .load) = false := by
    have hown : ∀ x ∈ s.pair.mirror, waitsBehind (readWait (.core n) (windowIndex a) (windowSub a) .load) x = false := by
      intro x hx
      simpa [waitsBehind, readWait, accessTouches] using hmirror x hx
    simp only [heldUp, answerOwed, start_pair, start_plant, start_security, hready, hgrants, hchecks, hblocked, List.append_nil, List.any_nil, Bool.or_false]
    rw [List.any_eq_false.2 fun x hx => by rw [hown x hx]; decide]
    exact Bool.and_false _
  refine ⟨_, hc.trans ?_, hP⟩
  unfold coreLoadObj
  simp only [hserved, hheld, Bool.and_false, Bool.false_eq_true, if_false, if_true, hw]
  exact finish_quiet hq

/-! Halves of 64-bit objects (R369). -/

theorem halfOf_put (l : List (Nat × Nat × Nat)) (n key v : Nat) : halfOf (halfDrop l n key ++ [(n, key, v)]) n key = some v := by
  have hdrop : (halfDrop l n key).find? (fun e => e.1 == n && e.2.1 == key) = none := by
    rw [List.find?_eq_none]
    intro e he
    have := (List.mem_filter.1 he).2
    simpa only [Bool.not_eq_true', Bool.not_eq_true] using this
  unfold halfOf
  rw [List.find?_append, hdrop]
  simp

theorem halfOf_drop (l : List (Nat × Nat × Nat)) (n key : Nat) : halfOf (halfDrop l n key) n key = none := by
  unfold halfOf
  rw [Option.map_eq_none_iff, List.find?_eq_none]
  intro e he
  have := (List.mem_filter.1 he).2
  simpa only [Bool.not_eq_true', Bool.not_eq_true] using this

/-- A stored number is read as its bytes, and the read changes nothing. -/
theorem dictRead_stored {idx sub : Nat} {o : ObjRef} (hs : Stored idx sub o) (s : State) (src : Source) :
    dictRead s src idx sub = (s, .ok (o, leBytes o.desc.ty.bytes (rd s idx sub))) := by
  obtain ⟨ho, hacc, hrd, hbytes, hserial⟩ := hs
  obtain ⟨rfl, rfl⟩ := resolveObj_place ho
  have hwo : (o.desc.acc == .wo) = false := beq_eq_false_iff_ne.2 hacc
  have hnum : (o.desc.ty.bytes == 0) = false := beq_eq_false_iff_ne.2 hbytes
  have hplace : (o.idx == 0x1018 && o.sub == 4) = false := by
    rw [Bool.eq_false_iff]
    simpa using hserial
  simp only [dictRead, ho, hwo, readValue, hrd, hnum, hplace, computed, Bool.false_eq_true, if_false]

/-- The low word of a value of 64 bits. -/
theorem leAt_leBytes_low (v : Nat) : leAt (leBytes 8 v) 0 4 = v % 2 ^ 32 := by
  have hbytes : bytesAt (leBytes 8 v) 0 4 = leBytes 4 v := rfl
  rw [leAt, hbytes, leNat_leBytes, show 256 ^ 4 = 2 ^ 32 by decide]

theorem leNat_leBytes_eight (v : Nat) : leNat (leBytes 8 v) = v % 2 ^ 64 := by
  rw [leNat_leBytes, show 256 ^ 8 = 2 ^ 64 by decide]

/-- A load of the low word of a 64-bit number answers it, and captures the value for the core. -/
theorem windowLoad_low {a idx sub : Nat} {o : ObjRef} (ha : AtWindow a idx sub) (hs : Stored idx sub o) (hw : wideType o.desc.ty = true) (hi : idx < 0x7F00) (s : State) (n : Nat) :
    windowLoad s n a 4 =
      (setPlant s { s.plant with captured := halfDrop s.plant.captured n (objKey idx sub) ++ [(n, objKey idx sub, rd s idx sub % 2 ^ 64)] }, .ok (rd s idx sub % 2 ^ 32)) := by
  obtain ⟨haligned, hidx, hsub⟩ := ha
  have hlow : ¬ 0x8000 ≤ idx := by omega
  have hport := not_port (.inl hi)
  simp only [windowLoad, haligned, hidx, hsub, hport, hlow, dictRead_stored hs, wideType_bytes hw, hw, leAt_leBytes_low, leNat_leBytes_eight,
    bne_self_eq_false, Bool.or_self, Bool.false_eq_true, if_false, if_true]
  exact if_neg (by decide)

/-- A store of the high word of a 64-bit object is held for the core. -/
theorem windowStore_high {a w idx sub : Nat} {o : ObjRef} (ha : AtWindow a w sub) (hlo : 0x8000 ≤ w) (hback : lessBy w 0x8000 = idx) (ho : resolveObj idx sub = .ok o)
    (hw : wideType o.desc.ty = true) (s : State) (n v : Nat) :
    windowStore s n a 4 v =
      (setPlant s { s.plant with heldHigh := halfDrop s.plant.heldHigh n (objKey idx sub) ++ [(n, objKey idx sub, v)] }, some .ok) := by
  obtain ⟨haligned, hidx, hsub⟩ := ha
  have hport := not_port (.inr hlo)
  obtain ⟨hoidx, hosub⟩ := resolveObj_place ho
  simp only [windowStore, haligned, hidx, hsub, hport, bne_self_eq_false, Bool.or_self, Bool.false_eq_true, if_false]
  rw [if_pos hlo]
  simp only [hback, ho, hw, hoidx, hosub, Bool.not_true, Bool.false_eq_true, if_false]

/-- A store of the low word of a 64-bit object writes both halves, and the high word is held no more. -/
theorem windowStore_low {a idx sub : Nat} {o : ObjRef} (ha : AtWindow a idx sub) (ho : resolveObj idx sub = .ok o) (hw : wideType o.desc.ty = true) (hi : idx < 0x7F00)
    (s : State) (n : CoreId) (v : Nat) :
    windowStore s n.val a 4 v =
      dictWrite (setPlant s { s.plant with heldHigh := halfDrop s.plant.heldHigh n.val (objKey idx sub) }) (.core n) idx sub
        { ty := o.desc.ty.code, bytes := leBytes 8 (v + (halfOf s.plant.heldHigh n.val (objKey idx sub)).getD 0 * 2 ^ 32) } := by
  obtain ⟨haligned, hidx, hsub⟩ := ha
  have hlow : ¬ 0x8000 ≤ idx := by omega
  have hport := not_port (.inl hi)
  simp only [windowStore, haligned, hidx, hsub, hport, hlow, ho, hw, finOfNat_val, bne_self_eq_false, Bool.or_self, Bool.false_eq_true, if_false, if_true]

/-! Transfer ports (R371, R372). -/

@[simp] theorem domPort_setDomPort (s : State) (n : Nat) (x : DomainPort) : domPort (setDomPort s n x) n = x := tabGet_set_same _ s.plant.domains n x

@[simp] theorem quiet_setDomPort (s : State) (n : Nat) (x : DomainPort) : quiet (setDomPort s n x) = quiet s := rfl

@[simp] theorem quiet_domEnd (s : State) (n count : Nat) (st : Status) : quiet (domEnd s n count st) = quiet s := rfl
@[simp] theorem rd_domEnd (s : State) (n count : Nat) (st : Status) (i j : Nat) : rd (domEnd s n count st) i j = rd s i j := rfl
@[simp] theorem assembly_domEnd (s : State) (n count : Nat) (st : Status) : (domEnd s n count st).plant.assembly = s.plant.assembly := rfl

theorem memRead_domEnd (s : State) (n count : Nat) (st : Status) (a k : Nat) : memRead (domEnd s n count st) a k = memRead s a k := memRead_congr (s := s) (u := domEnd s n count st) rfl rfl a k

/-- A transfer that ends well is DONE. -/
theorem domPort_domEnd_ok (s : State) (n count : Nat) : domPort (domEnd s n count .ok) n = { domPort s n with status := 2, count := count, job := none } :=
  domPort_setDomPort _ _ _

/-- A transfer that is refused is FAILED, with its status. -/
theorem domPort_domEnd_failed (s : State) (n count : Nat) {st : Status} (hok : st ≠ .ok) (hrestart : st ≠ .restartPending) :
    domPort (domEnd s n count st) n = { domPort s n with status := 3 + 256 * st.code, count := count, job := none } := by
  unfold domEnd
  rw [domPort_setDomPort]
  simp [hok, hrestart]

theorem job_domEnd (s : State) (n count : Nat) (st : Status) : (domPort (domEnd s n count st) n).job = none := by
  unfold domEnd
  rw [domPort_setDomPort]

/-- A store of a core to the CONTROL register of its own port. -/
theorem windowStore_control {a : Nat} (n : CoreId) (ha : AtWindow a (0x7F00 + n.val) 3) (s : State) (v : Nat) :
    windowStore s n.val a 4 v = ((domControl s n.val v).1, some (domControl s n.val v).2) := by
  obtain ⟨haligned, hidx, hsub⟩ := ha
  have hn := n.isLt
  have hport : (decide (0x7F00 ≤ 0x7F00 + n.val) && decide (0x7F00 + n.val < 0x7F08)) = true := by
    rw [← Bool.decide_and]
    exact decide_eq_true (by omega)
  simp only [windowStore, haligned, hidx, hsub, hport, domPortWrite, beq_self_eq_true, bne_self_eq_false, Bool.or_self, Bool.false_eq_true, if_false, if_true]

/-- The job of a transfer that a port starts, with the value that a READ has copied. -/
def startedJob (x : DomainPort) (write : Bool) (value : List Byte) : DomainJob :=
  { write := write, object := x.object, buffer := x.buffer, length := x.length, value := value }

/-- The port with its transfer started. -/
def startedPort (x : DomainPort) (write : Bool) (value : List Byte) : DomainPort :=
  { x with status := 1, count := 0, job := some (startedJob x write value) }

/-- The index and sub-index that a port or a job names. -/
def namedIdx (object : Nat) : Nat := bitsOf object 16 16
def namedSub (object : Nat) : Nat := bitsOf object 8 8

/-- READ written to CONTROL takes a copy of the object's value. -/
theorem domControl_read {s : State} {n : CoreId} {o : ObjRef} (hjob : (domPort s n).job = none)
    (hs : Stored (namedIdx (domPort s n).object) (namedSub (domPort s n).object) o) :
    domControl s n.val 1 =
      (setDomPort s n (startedPort (domPort s n) false (leBytes o.desc.ty.bytes (rd s (namedIdx (domPort s n).object) (namedSub (domPort s n).object)))), .ok) := by
  have hread := dictRead_stored hs s (.transfer (Fin.ofNat 8 n))
  unfold namedIdx namedSub at hread
  unfold domControl
  simp only [hjob, hread]
  rfl

/-- WRITE written to CONTROL takes the staging region. -/
theorem domControl_write {s : State} {n : CoreId} (hjob : (domPort s n).job = none) (hfree : s.plant.assembly = none) (hfits : (domPort s n).length ≤ stagingSize s) :
    ∃ a : Assembly, domControl s n.val 2 = (setDomPort (setPlant s { s.plant with assembly := some a }) n (startedPort (domPort s n) true []), .ok) := by
  refine ⟨{ src := .transfer (Fin.ofNat 8 n.val), node := 0, idx := namedIdx (domPort s n).object, sub := namedSub (domPort s n).object, bytes := [], lastAt := s.now }, ?_⟩
  unfold domControl
  simp only [hjob, hfree, Nat.not_lt.2 hfits, if_false]
  rfl

/-! The end of a transfer (R372). -/

/-- What the end of a READ leaves: the buffer filled, or the transfer FAILED. -/
def readEnd (s : State) (n : Nat) (j : DomainJob) : State :=
  match j.failed with
  | some e => domEnd s n 0 e
  | none =>
    if j.length < j.value.length then domEnd s n j.value.length .range
    else match bufferAddr s 13 n j.buffer j.value.length with
      | .ok a => domEnd (netStore j.value.length.succ (bufferUse s 13 n j.buffer j.value.length) a j.value) n j.value.length .ok
      | .error e => domEnd (bufferUse s 13 n j.buffer j.value.length) n 0 e

theorem domFinish_read {s : State} {n : CoreId} {j : DomainJob} (hj : (domPort s n).job = some j) (hread : j.write = false) (hwait : sourceWaits s (.transfer n) = false)
    (hwindow : rangeBorrowed s j.buffer j.value.length = false) : domFinish s n = some (readEnd s n j) := by
  unfold domFinish readEnd
  simp only [finOfNat_val, hj, hwait, hread, hwindow, Bool.false_eq_true, if_false, Bool.not_false, if_true]
  cases j.failed with
  | some e => rfl
  | none =>
    by_cases hlong : j.length < j.value.length
    · simp only [hlong, if_true]
    · simp only [hlong, if_false]
      cases bufferAddr s 13 n j.buffer j.value.length <;> rfl

theorem job_readEnd (s : State) (n : Nat) (j : DomainJob) : (domPort (readEnd s n j) n).job = none := by
  unfold readEnd
  split
  · exact job_domEnd _ _ _ _
  · split
    · exact job_domEnd _ _ _ _
    · split <;> exact job_domEnd _ _ _ _

theorem quiet_readEnd (s : State) (n : Nat) (j : DomainJob) : quiet (readEnd s n j) = quiet s := by
  have huse : quiet (bufferUse s 13 n j.buffer j.value.length) = quiet s := quiet_kept (keeps_bufferUse (pm := 0x280708) (all _) (Keeps.refl _ s))
  unfold readEnd
  split
  · rfl
  · split
    · rfl
    · split <;> rw [quiet_domEnd]
      · exact (quiet_kept (keeps_netStore (pm := 0x180748) (all _) (Keeps.refl _ _))).trans huse
      · exact huse

theorem readEnd_stored {s : State} {n : Nat} {j : DomainJob} {a : Nat} (hgot : j.failed = none) (hfits : j.value.length ≤ j.length)
    (ha : bufferAddr s 13 n j.buffer j.value.length = .ok a) :
    readEnd s n j = domEnd (netStore j.value.length.succ (bufferUse s 13 n j.buffer j.value.length) a j.value) n j.value.length .ok := by
  unfold readEnd
  simp only [hgot, Nat.not_lt.2 hfits, if_false, ha]

/-- Nothing of a source waits where nothing holds its write up. -/
theorem sourceWaits_of_not_heldUp {s : State} {m : MirrorWait} (h : heldUp s m = false) (hagent : m.src ≠ .pairAgent) (hboot : m.src ≠ .boot) :
    sourceWaits s m.src = false := by
  simp only [heldUp, answerOwed, bne_iff_ne.2 hagent, bne_iff_ne.2 hboot, Bool.and_self, Bool.true_and, Bool.or_eq_false_iff, List.any_append] at h
  obtain ⟨⟨⟨hmirror, hready⟩, hblocked⟩, hgrants, -⟩ := h
  have other : ∀ l : List MirrorWait, l.any (waitsBehind m) = false → l.any (fun x => x.src == m.src && !x.direct) = false := by
    intro l hl
    rw [List.any_eq_false] at hl ⊢
    intro x hx
    have := hl x hx
    simp_all [waitsBehind]
  have grants : s.plant.granting.any (fun x => x.src == m.src && !x.direct) = false := by
    rw [List.any_eq_false] at hgrants ⊢
    intro x hx
    have := hgrants x hx
    simp_all
  simp only [sourceWaits, List.any_append, other _ hmirror, other _ hready, other _ hblocked, grants, Bool.or_self]

theorem sourceWaits_of_canWrite {s : State} {n : CoreId} {idx sub : Nat} {v : ObjVal} (h : canWrite s (.transfer n) idx sub v = true) : sourceWaits s (.transfer n) = false := by
  have k := arrived_keeps h
  simp only [canWrite, Bool.and_eq_true, Bool.not_eq_true'] at h
  obtain ⟨⟨-, hheld⟩, -⟩ := h
  rw [heldUp_congr (k.same_pair (by decide)) (congrArg PlantState.granting (k.same_plant (by decide))) (congrArg PlantState.blocked (k.same_plant (by decide))) (k.same_security (by decide))] at hheld
  exact sourceWaits_of_not_heldUp (s := start s) hheld Source.noConfusion Source.noConfusion

/-- A WRITE whose bytes the network brings, and whose object takes them at once, ends DONE. -/
theorem domFinish_write {t : Nat} {s : State} {n : CoreId} {j : DomainJob} {a : Nat} {o : ObjRef} (hj : (domPort s n).job = some j) (hwrite : j.write = true)
    (hwindow : rangeBorrowed (at_ t s) j.buffer j.length = false) (hports : portsFree (at_ t s) = true) (ha : bufferAddr s 13 n j.buffer j.length = .ok a)
    (hstaging : stagingStatus (at_ t s) = none) (hp : Plain (namedIdx j.object) (namedSub j.object) o)
    (hput : canPut s (.transfer n) (namedIdx j.object) (namedSub j.object) (memRead s a j.length) = true) :
    ∃ y, Keeps 0x200040 (endAssembly (at_ t s)) y ∧ domFinish (at_ t s) n =
      some (domEnd (noted (.transfer n) o (wr y (namedIdx j.object) (namedSub j.object) (leNat (memRead s a j.length)))) n j.length .ok) := by
  generalize hidx : namedIdx j.object = idx at *
  generalize hsub : namedSub j.object = sub at *
  have hj' : (domPort (at_ t s) n).job = some j := hj
  have hwait : sourceWaits (at_ t s) (.transfer n) = false := (sourceWaits_of_canWrite hput : sourceWaits s _ = false)
  have ha' : bufferAddr (endAssembly (at_ t s)) 13 n j.buffer j.length = .ok a :=
    (((sameNet_at t s).trans (sameNet_endAssembly _)).bufferAddr_eq _ _ _ _).trans ha
  generalize hz : bufferUse (endAssembly (at_ t s)) 13 n j.buffer j.length = z
  have kz : Keeps 0x200000 (endAssembly (at_ t s)) z := hz ▸ keeps_bufferUse_ok (all _) ha'
  have hnet : SameNet (endAssembly (at_ t s)) z := hz ▸ sameNet_bufferUse ha'
  have haz : bufferAddr z 13 n j.buffer j.length = .ok a := (hnet.bufferAddr_eq _ _ _ _).trans ha'
  have hstaging' : stagingStatus z = none := (((sameNet_endAssembly _).trans hnet).stagingStatus_eq).trans hstaging
  have hbytes : netLoad (j.length + 1) z a j.length = memRead s a j.length := by
    rw [netLoad_free ((portsFree_kept kz).trans hports) _ _ _ (Nat.lt_succ_self _)]
    exact memRead_congr (s := s) (kz.same_mem (by decide)) (kz.same_memEpoch (by decide)) _ _
  have ky : Keeps 0x200040 (endAssembly (at_ t s)) (stagingPut z 0 (memRead s a j.length)) :=
    keeps_stagingPut (all _) (hz ▸ keeps_bufferUse_ok (narrow (all 0x200040)) ha')
  have hplant := ky.same_plant (by decide)
  have hwritten := dictWrite_plain hp hput ⟨ky.same_obj (by decide), congrArg SchedState.delayed (ky.same_sched (by decide)), fun _ => by rw [hplant]; rfl⟩
    (ky.same_pair (by decide)) ((congrArg PlantState.granting hplant).trans rfl) ((congrArg PlantState.blocked hplant).trans rfl) (ky.same_security (by decide))
  refine ⟨_, ky, ?_⟩
  unfold namedIdx at hidx
  unfold namedSub at hsub
  unfold domFinish
  simp only [finOfNat_val, hj', hwait, hwrite, hwindow, hz, haz, hstaging', hbytes, hidx, hsub, hwritten, Bool.false_eq_true, if_false, if_true, Bool.not_true]

end Sys2Proof.Proofs
end

section
/-! PROOFS. The dictionary's accesses as commands: one theorem for each clause of DictionaryAccesses. -/

namespace Sys2Proof.Proofs

open Sys2Proof.Machine Sys2Proof.Safety Sys2Proof.Laws

/-! Writes by the rows of the dictionary (R7, R117, R364). -/

theorem objectWrite_plain {src : Source} {idx sub : Nat} {v : ObjVal} {o : ObjRef} {s : State} (hw : canWrite s src idx sub v = true) (hp : Plain idx sub o) :
    Leads (.objectWrite src idx sub v) s (Holds idx sub (leNat v.bytes)) :=
  leads_access (f := fun _ => leNat v.bytes) rfl hw hp.1 fun x => dictApply_plain hp x src v true

theorem troubleCounterClear_zero {src : Source} {idx sub : Nat} {s : State} (ht : isTrouble idx sub = true) (hw : canSet s src idx sub 0 = true) :
    Leads (.troubleCounterClear src idx sub 0) s (Holds idx sub 0) := by
  obtain ⟨o, ho, hk⟩ := kind_of_isTrouble ht
  have hexec : exec (.troubleCounterClear src idx sub 0) s = access src idx sub (numVal idx sub 0) s := (if_pos ht).trans (setNum_eq ..)
  exact leads_access (f := fun _ => 0) hexec hw ho fun x => dictApply_trouble ho hk x src _ true

theorem eventCauseClear_bits {src : Source} {idx sub v : Nat} {s : State} (hc : isCause idx sub = true) (hw : canSet s src idx sub v = true) :
    Leads (.eventCauseClear src idx sub v) s (Holds idx sub (clearBits (rd s idx sub) (leNat (numVal idx sub v).bytes))) := by
  obtain ⟨o, ho, hk⟩ := kind_of_isCause hc
  have hexec : exec (.eventCauseClear src idx sub v) s = access src idx sub (numVal idx sub v) s := (if_pos hc).trans (setNum_eq ..)
  exact leads_access (f := fun w => clearBits w (leNat (numVal idx sub v).bytes)) hexec hw ho fun x => dictApply_cause ho hk x src _ true

/-! Halves of 64-bit objects (R369). -/

theorem u64LowWordRead_captures {n : CoreId} {idx sub : Nat} {o : ObjRef} {s : State} (hr : canRead s (.core n) = true) (hsub : sub < 256) (hi : idx < 0x7F00)
    (hs : Stored idx sub o) (hw : wideType o.desc.ty = true) :
    Leads (.u64LowWordRead n idx sub) s fun u => u.answer.status = some .ok ∧ u.answer.value = rd s idx sub % 2 ^ 32 ∧
      halfOf u.plant.captured n (objKey idx sub) = some (rd s idx sub % 2 ^ 64) := by
  have hq : quiet s = true := by
    simp only [canRead, Bool.and_eq_true] at hr
    exact hr.1.1
  have hload := windowLoad_low (atWindow_low (by omega) hsub) hs hw hi (start s) n.val
  exact leads_coreLoad rfl hr hload hq ⟨rfl, rfl, halfOf_put _ _ _ _⟩

theorem u64HighWordWrite_held {n : CoreId} {idx sub v : Nat} {o : ObjRef} {s : State} (hq : quiet s = true) (hserved : served (start s) (.core n) = true)
    (hsub : sub < 256) (hi : idx < 0x7F00) (ho : resolveObj idx sub = .ok o) (hw : wideType o.desc.ty = true) :
    Leads (.u64HighWordWrite n idx sub v) s fun u => u.answer.status = some .ok ∧ halfOf u.plant.heldHigh n (objKey idx sub) = some v ∧ u.obj = s.obj := by
  have hback : lessBy (idx + 0x8000) 0x8000 = idx := by unfold lessBy; omega
  have hstore := windowStore_high (atWindow_high (by omega) hsub) (by omega) hback ho hw (start s) n.val v
  exact leads_coreStore rfl hserved hstore hq ⟨rfl, halfOf_put _ _ _ _, rfl⟩

theorem u64LowWordWrite_holds {n : CoreId} {idx sub v : Nat} {o : ObjRef} {s : State} (hsub : sub < 256) (hi : idx < 0x7F00) (hp : Plain idx sub o)
    (hw : wideType o.desc.ty = true)
    (hcan : canWrite s (.core n) idx sub { ty := o.desc.ty.code, bytes := leBytes 8 (v + (halfOf s.plant.heldHigh n (objKey idx sub)).getD 0 * 2 ^ 32) } = true) :
    Leads (.u64LowWordWrite n idx sub v) s fun u =>
      Holds idx sub ((v + (halfOf s.plant.heldHigh n (objKey idx sub)).getD 0 * 2 ^ 32) % 2 ^ 64) u ∧ halfOf u.plant.heldHigh n (objKey idx sub) = none := by
  have hserved : served (start s) (.core n) = true := by
    simp only [canWrite, Bool.and_eq_true] at hcan
    exact hcan.1.1.1.2
  have hstore := windowStore_low (atWindow_low (by omega) hsub) hp.1 hw hi (start s) n v
  replace hstore := hstore.trans (dictWrite_plain hp hcan ⟨rfl, rfl, id⟩ rfl rfl rfl rfl)
  have hq : quiet s = true := quiet_of_canWrite hcan
  refine leads_coreStore rfl hserved hstore (by rw [quiet_noted, quiet_wr]; exact hq) ⟨⟨rfl, ?_⟩, ?_⟩
  · rw [rd_reply, rd_noted, rd_wr_same, leNat_leBytes_eight, start_plant]
  · rw [reply_plant, noted_plant, wr_plant]
    exact halfOf_drop _ _ _

/-! Domain transfers (R371, R372). -/

theorem domainTransferRead_starts {n : CoreId} {o : ObjRef} {s : State} (hq : quiet s = true) (hserved : served (start s) (.core n) = true) (hjob : (domPort s n).job = none)
    (hs : Stored (namedIdx (domPort s n).object) (namedSub (domPort s n).object) o) :
    Leads (.domainTransferRead n) s fun u => u.answer.status = some .ok ∧ (domPort u n).status = 1 ∧
      (domPort u n).job = some (startedJob (domPort s n) false (leBytes o.desc.ty.bytes (rd s (namedIdx (domPort s n).object) (namedSub (domPort s n).object)))) := by
  have hn := n.isLt
  have hstore := windowStore_control n (atWindow_low (by omega) (by decide)) (start s) 1
  rw [domControl_read (s := start s) hjob hs] at hstore
  refine leads_coreStore rfl hserved hstore hq ⟨rfl, ?_, ?_⟩
  · exact congrArg DomainPort.status (domPort_setDomPort _ _ _)
  · exact congrArg DomainPort.job (domPort_setDomPort _ _ _)

theorem domainTransferWrite_starts {n : CoreId} {s : State} (hq : quiet s = true) (hserved : served (start s) (.core n) = true) (hjob : (domPort s n).job = none)
    (hfree : s.plant.assembly = none) (hfits : (domPort s n).length ≤ stagingSize s) :
    Leads (.domainTransferWrite n) s fun u => u.answer.status = some .ok ∧ (domPort u n).status = 1 ∧ u.plant.assembly.isSome = true ∧
      (domPort u n).job = some (startedJob (domPort s n) true []) := by
  have hn := n.isLt
  have hstore := windowStore_control n (atWindow_low (by omega) (by decide)) (start s) 2
  obtain ⟨a, hcontrol⟩ := domControl_write (s := start s) hjob hfree hfits
  rw [hcontrol] at hstore
  refine leads_coreStore rfl hserved hstore hq ⟨rfl, ?_, rfl, ?_⟩
  · exact congrArg DomainPort.status (domPort_setDomPort _ _ _)
  · exact congrArg DomainPort.job (domPort_setDomPort _ _ _)

theorem domainTransferComplete_read {t : Nat} {n : CoreId} {j : DomainJob} {a : Nat} {s : State} (hr : runs t s = true) (hq : quiet s = true)
    (hwait : sourceWaits s (.transfer n) = false) (hj : (domPort s n).job = some j) (hread : j.write = false)
    (hwindow : rangeBorrowed (at_ t s) j.buffer j.value.length = false) (hports : portsFree (at_ t s) = true) :
    Leads (.domainTransferComplete t n) s fun u => (domPort u n).job = none ∧
      (∀ e, j.failed = some e → e ≠ .ok → e ≠ .restartPending → (domPort u n).status = 3 + 256 * e.code) ∧
      (j.failed = none → j.length < j.value.length → (domPort u n).status = 3 + 256 * Status.range.code ∧ (domPort u n).count = j.value.length ∧ u.mem = s.mem) ∧
      (j.failed = none → j.value.length ≤ j.length → bufferAddr s 13 n j.buffer j.value.length = .ok a →
        (domPort u n).status = 2 ∧ (domPort u n).count = j.value.length ∧ memRead u a j.value.length = j.value) := by
  have hexec : exec (.domainTransferComplete t n) s = settled t s (fun x => domFinish x n.val) := rfl
  have hq' : quiet (readEnd (at_ t s) n j) = true := by rw [quiet_readEnd, quiet_at, hq]
  refine leads_settled hexec hr (domFinish_read (s := at_ t s) hj hread hwait hwindow) hq' ⟨job_readEnd _ _ _, ?_, ?_, ?_⟩
  · intro e he hok hrestart
    have hend : readEnd (at_ t s) n j = domEnd (at_ t s) n 0 e := by unfold readEnd; rw [he]
    rw [hend, domPort_domEnd_failed _ _ _ hok hrestart]
  · intro hgot hlong
    have hend : readEnd (at_ t s) n j = domEnd (at_ t s) n j.value.length .range := by unfold readEnd; simp only [hgot, hlong, if_true]
    rw [hend, domPort_domEnd_failed _ _ _ (by decide) (by decide)]
    exact ⟨rfl, rfl, rfl⟩
  · intro hgot hfits ha
    have ha' : bufferAddr (at_ t s) 13 n j.buffer j.value.length = .ok a := ((sameNet_at t s).bufferAddr_eq _ _ _ _).trans ha
    rw [readEnd_stored hgot hfits ha', domPort_domEnd_ok]
    exact ⟨rfl, rfl, (memRead_domEnd _ _ _ _ _ _).trans (memRead_buffer n.isLt hports ha')⟩

theorem domainTransferComplete_write {t : Nat} {n : CoreId} {j : DomainJob} {a : Nat} {o : ObjRef} {s : State} (hr : runs t s = true) (hj : (domPort s n).job = some j)
    (hwrite : j.write = true) (hwindow : rangeBorrowed (at_ t s) j.buffer j.length = false) (hports : portsFree (at_ t s) = true)
    (ha : bufferAddr s 13 n j.buffer j.length = .ok a) (hstaging : stagingStatus (at_ t s) = none) (hp : Plain (namedIdx j.object) (namedSub j.object) o)
    (hput : canPut s (.transfer n) (namedIdx j.object) (namedSub j.object) (memRead s a j.length) = true) :
    Leads (.domainTransferComplete t n) s fun u => (domPort u n).job = none ∧ (domPort u n).status = 2 ∧
      rd u (namedIdx j.object) (namedSub j.object) = leNat (memRead s a j.length) ∧ u.plant.assembly = none := by
  obtain ⟨y, ky, hfinish⟩ := domFinish_write hj hwrite hwindow hports ha hstaging hp hput
  have hexec : exec (.domainTransferComplete t n) s = settled t s (fun x => domFinish x n.val) := rfl
  have hq : quiet y = true := (quiet_kept ky).trans (quiet_of_canWrite hput : quiet s = true)
  have hq' : quiet (domEnd (noted (.transfer n) o (wr y (namedIdx j.object) (namedSub j.object) (leNat (memRead s a j.length)))) n j.length .ok) = true := by
    rw [quiet_domEnd, quiet_noted, quiet_wr, hq]
  refine leads_settled hexec hr hfinish hq' ⟨job_domEnd _ _ _ _, by rw [domPort_domEnd_ok], ?_, ?_⟩
  · rw [rd_domEnd, rd_noted, rd_wr_same]
  · have hplant : y.plant.assembly = none := congrArg PlantState.assembly (ky.same_plant (by decide))
    rw [assembly_domEnd, noted_plant, wr_plant, hplant]

/-- Settles O54, one theorem above for each clause. -/
theorem dictionaryAccesses : Obligations.DictionaryAccesses :=
  ⟨fun _ _ _ _ _ _ hw hp => objectWrite_plain hw hp,
   fun _ _ _ _ ht hw => troubleCounterClear_zero ht hw,
   fun _ _ _ _ _ hc hw => eventCauseClear_bits hc hw,
   fun _ _ _ _ _ hr hsub hi hs hw => u64LowWordRead_captures hr hsub hi hs hw,
   fun _ _ _ _ _ _ hq hserved hsub hi ho hw => u64HighWordWrite_held hq hserved hsub hi ho hw,
   fun _ _ _ _ _ _ hsub hi hp hw hcan => u64LowWordWrite_holds hsub hi hp hw hcan,
   fun _ _ _ hq hserved hjob hs => domainTransferRead_starts hq hserved hjob hs,
   fun _ _ hq hserved hjob hfree hfits => domainTransferWrite_starts hq hserved hjob hfree hfits,
   fun _ _ _ _ _ hr hq hwait hj hread hwindow hports => domainTransferComplete_read hr hq hwait hj hread hwindow hports,
   fun _ _ _ _ _ _ hr hj hwrite hwindow hports ha hstaging hp hput => domainTransferComplete_write hr hj hwrite hwindow hports ha hstaging hp hput⟩

end Sys2Proof.Proofs
end

section
/-! PROOFS. Writes of the configuration port: a lookup-table entry is checked in the ACLK of the write (R37), against the slot in use then. -/

namespace Sys2Proof.Proofs

open Sys2Proof Sys2Proof.Machine Sys2Proof.Safety Sys2Proof.Laws

/-- A command has one outcome: what it leads to twice holds of one state. -/
theorem leads_both {c : Instr} {s : State} {P Q : State → Prop} (hP : Leads c s P) (hQ : Leads c s Q) : ∃ u, P u ∧ Q u := by
  obtain ⟨u, hu, hPu⟩ := hP
  obtain ⟨v, hv, hQv⟩ := hQ
  cases hu.symm.trans hv
  exact ⟨u, hPu, hQv⟩

/-- The active tuning uses the selected page of the lookup table in the ACLK of the state (R37). -/
def pageInUse (s : State) (f : Nat) : Bool :=
  let c := (fieldOf s f).lutSelect % 64
  let w := wordOf (fieldOf s f) (cellSlot s f c) c
  activeSlot s f != 0xFF && opNamesPage (cwOpcode w) && cwLutPage w == bitsOf (fieldOf s f).lutSelect 8 1

theorem configLutWrite_inUse {s : State} {f : Nat} (h : pageInUse s f = true) (off v : Nat) : configLutWrite s f off v = (s, .state) :=
  if_pos h

/-- The offsets of the lookup table lead to its write. -/
theorem configPortWrite_lut {s : State} {f : Nat} (hd : domOn s f = true) (j : Fin 256) (v : Nat) :
    configPortWrite s f (0x7400 + 4 * j.val) v = portRefused s f (configLutWrite s f (0x7400 + 4 * j.val) v) := by
  have hj := j.isLt
  unfold configPortWrite
  rw [hd, if_neg (by decide), if_neg (by simp), if_neg (by omega), if_neg (by omega), if_neg (by omega), if_neg (by simp; omega),
    if_pos (by simp; omega)]

/-- A table write that finds its page in use in the ACLK of the write is refused with STATE (R37). -/
theorem lutEntryWrite_refused {t : Nat} {f : FieldId} {s : State} (hr : runs t s = true) (hd : domOn s f = true) (hu : pageInUse (at_ t s) f = true) (j : Fin 256) (v : Nat) :
    Leads (.lutEntryWrite t f j v) s fun u => u.answer.status = some .state := by
  have hexec : exec (.lutEntryWrite t f j v) s = port t s (fun x => configPortWrite x f.val (0x7400 + 4 * j.val) (v % 2 ^ 32)) := rfl
  have hwrite : configPortWrite (at_ t s) f.val (0x7400 + 4 * j.val) (v % 2 ^ 32) = (bump (at_ t s) (0x2008 + 0x40 * f.val) 0x03, .state) := by
    rw [configPortWrite_lut (by exact hd), configLutWrite_inUse hu]
    rfl
  exact leads_port hexec hr hwrite rfl

/-- Field 0 in the ACLK 1000 in which a retune takes it from slot 1 to slot 0: slot 1 is in use until the end of the ACLK, and the word of cell 0 in slot 0 is a LUT with page 0. -/
def retunedField : Field :=
  { slots := [(0, { st := 3, words := [(0, 0x48)] }), (1, { st := 2 })], ended := { at_ := 1001, slot := 1, start := 1000 } }

/-- The engine in that ACLK, with SYS and field 0 ON and slot 0 the active one. -/
def retunedState : State :=
  setField (wr (wr (wr { now := 1000000, power := { vinUp := true } } 0x1511 0x01 2) 0x1511 0x2A 2) 0x2000 0x03 0) 0 retunedField

theorem retunedState_runs : runs 1001000 retunedState = true := by decide +kernel
theorem retunedState_on : domOn retunedState 0 = true := by decide +kernel
/-- No word in use in the ACLK of the last command names the page. -/
theorem retunedState_free : pageInUse retunedState 0 = false := by decide +kernel
/-- The word in use one ACLK later names it. -/
theorem retunedState_inUse : pageInUse (at_ 1001000 retunedState) 0 = true := by decide +kernel

/-- Refutes O8: its clause on table writes asks whether the active tuning uses the page in the ACLK of the command before, with `cellSlot s`, where the write is checked in its own ACLK (R37). Where a retune changes the slots over between the two, a page free before is in use at the write, and the write is answered STATE. -/
theorem not_configurationPortWrites : ¬ Obligations.ConfigurationPortWrites := by
  unfold Obligations.ConfigurationPortWrites
  rintro ⟨-, hlut, -⟩
  have hok : ∀ (t : Nat) (f : FieldId) (s : State), runs t s = true → domOn s f = true → pageInUse s f = false →
      Leads (.lutEntryWrite t f 0 0) s fun u => u.answer.status = some .ok :=
    fun t f s hr hd hfree => (hlut t f 0 0 s hr hd hfree).imp fun _ h => ⟨h.1, h.2.1⟩
  obtain ⟨u, hu, hstate⟩ := leads_both (hok 1001000 0 retunedState retunedState_runs retunedState_on retunedState_free)
    (lutEntryWrite_refused (f := 0) retunedState_runs retunedState_on retunedState_inUse 0 0)
  rw [hstate] at hu
  cases hu

end Sys2Proof.Proofs
end

section
/-! PROOFS. The stream array: what a field's cells hold once the present ACLK finds them, and what the tokens on the way keep when a token enters the end of a path. -/

namespace Sys2Proof.Proofs

open Sys2Proof Sys2Proof.Machine Sys2Proof.Safety Sys2Proof.Laws

/-! The ACLK. -/

/-- Where the time and power are as before (bits 1 and 24), so is the ACLK. -/
theorem aclk_kept {m : Nat} {z y : State} (k : Keeps m z y) (h : m &&& 0x1000002 = 0 := by decide) : aclk y = aclk z := by
  have hb : ∀ i, (0x1000002 : Nat).testBit i = true → m.testBit i = false := by
    intro i hi
    have h1 : (m &&& 0x1000002).testBit i = false := by rw [h]; exact Nat.zero_testBit i
    rwa [Nat.testBit_and, hi, Bool.and_true] at h1
  unfold aclk pllTime
  rw [k.same_now (hb 1 (by decide)), k.same_power (hb 24 (by decide))]

@[simp] theorem aclk_fieldNow (s : State) (f : Nat) : aclk (fieldNow s f) = aclk s := aclk_kept (keeps_fieldNow (all 0x2000) (Keeps.refl _ _))
@[simp] theorem aclk_endPut (s : State) (e : PathEnd) (t : Token) (drill : Option (Nat × Nat)) : aclk (endPut s e t drill) = aclk s :=
  aclk_kept (keeps_endPut (all 0x82708) (Keeps.refl _ _))

/-! What the reads of the drill streams leave of a field. -/

/-- A relation that holds of every step of a fold holds of the whole fold. -/
theorem foldl_rel {α β : Type} {R : α → α → Prop} (hrefl : ∀ x, R x x) (htrans : ∀ {x y z}, R x y → R y z → R x z) {g : α → β → α} (h : ∀ y b, R y (g y b))
    (l : List β) (x : α) : R x (l.foldl g x) := by
  induction l generalizing x with
  | nil => exact hrefl x
  | cons b r ih => exact htrans (h x b) (ih _)

/-- All of a field that the reads of its drill streams leave alone, and that holds tokens or freezes it. -/
structure OnlyReads (x y : Field) : Prop where
  cells : y.cells = x.cells
  frozen : y.frozenAt = x.frozenAt
  stages : y.stages = x.stages
  bus : y.bus = x.bus
  writes : ∀ d, streamOf y d 1 = streamOf x d 1

theorem OnlyReads.refl (x : Field) : OnlyReads x x := ⟨rfl, rfl, rfl, rfl, fun _ => rfl⟩
theorem OnlyReads.trans {x y z : Field} (h : OnlyReads x y) (k : OnlyReads y z) : OnlyReads x z :=
  ⟨k.cells.trans h.cells, k.frozen.trans h.frozen, k.stages.trans h.stages, k.bus.trans h.bus, fun d => (k.writes d).trans (h.writes d)⟩

theorem onlyReads_setDrillCount (x : Field) (k d t n : Nat) : OnlyReads x (setDrillCount x k d t n) := ⟨rfl, rfl, rfl, rfl, fun _ => rfl⟩

/-- A read stream is none of the write streams. -/
theorem onlyReads_setStream (x : Field) (d : Nat) (y : DrillStream) : OnlyReads x (setStream x d 0 y) :=
  ⟨rfl, rfl, rfl, rfl, fun e => by rw [streamOf_set, if_neg (by omega)]⟩

theorem onlyReads_dropItems (x : Field) (slot d : Nat) : OnlyReads x (dropItems x slot d) :=
  (onlyReads_setDrillCount _ _ _ _ _).trans (onlyReads_setStream _ _ _)

theorem onlyReads_dropDue (x : Field) (n : Nat) : OnlyReads x (dropDue x n) := by
  refine foldl_rel OnlyReads.refl OnlyReads.trans (fun y d => ?_) _ x
  split
  · split
    · exact onlyReads_dropItems _ _ _
    · exact OnlyReads.refl _
  · exact OnlyReads.refl _

theorem onlyReads_dropReadItems (s : State) (x : Field) (slot start : Nat) : OnlyReads x (dropReadItems s x slot start) := by
  refine foldl_rel OnlyReads.refl OnlyReads.trans (fun y d => ?_) _ x
  dsimp only
  split
  · exact OnlyReads.refl _
  · exact onlyReads_setStream _ _ _

/-- In each field only reads have moved, and no token at an edge output port has. -/
structure StateReads (s u : State) : Prop where
  field : ∀ f, OnlyReads (fieldOf s f) (fieldOf u f)
  edge : u.arr.edgeOut = s.arr.edgeOut

theorem StateReads.refl (s : State) : StateReads s s := ⟨fun _ => OnlyReads.refl _, rfl⟩
theorem StateReads.trans {s t u : State} (h : StateReads s t) (k : StateReads t u) : StateReads s u :=
  ⟨fun f => (h.field f).trans (k.field f), k.edge.trans h.edge⟩

theorem stateReads_setField {s : State} {f : Nat} {x : Field} (h : OnlyReads (fieldOf s f) x) : StateReads s (setField s f x) := by
  refine ⟨fun g => ?_, rfl⟩
  rw [fieldOf_set]
  split
  · next e => subst e; exact h
  · exact OnlyReads.refl _

theorem stateReads_drillIssue (s : State) (f n : Nat) : StateReads s (drillIssue s f n) := by
  unfold drillIssue
  refine foldl_rel StateReads.refl StateReads.trans (fun y bank => ?_) _ s
  dsimp only
  split
  · next d a _ =>
    split
    · exact StateReads.refl _
    · have hreadAt : ∀ (x : Field) (l : Tab Nat), OnlyReads x { x with netReadAt := l } := fun _ _ => ⟨rfl, rfl, rfl, rfl, fun _ => rfl⟩
      exact stateReads_setField (((onlyReads_setDrillCount _ _ _ _ _).trans (onlyReads_setStream _ _ _)).trans (hreadAt _ _))
  · exact StateReads.refl _

theorem stateReads_drillFetch (s : State) (f : Nat) : StateReads s (drillFetch s f) := by
  unfold drillFetch
  dsimp only
  split
  · exact StateReads.refl _
  · have hfetchAt : ∀ (x : Field) (n : Nat), OnlyReads x { x with fetchAt := n } := fun _ _ => ⟨rfl, rfl, rfl, rfl, fun _ => rfl⟩
    refine (foldl_rel StateReads.refl StateReads.trans (fun y k => ?_) _ s).trans (stateReads_setField ((onlyReads_dropDue _ _).trans (hfetchAt _ _)))
    exact (stateReads_setField (onlyReads_dropDue _ _)).trans (stateReads_drillIssue _ _ _)

/-! A cell as the present ACLK finds it. -/

theorem tabFind_map {α : Type} (g : α → α) (t : Tab α) (k : Nat) : tabFind (t.map (fun e => (e.1, g e.2))) k = (tabFind t k).map g := by
  induction t with
  | nil => rfl
  | cons e r ih =>
    obtain ⟨i, x⟩ := e
    simp only [List.map_cons, tabFind]
    cases Nat.beq i k
    · exact ih
    · rfl

theorem tabGet_map {α : Type} {d : α} {g : α → α} (hd : g d = d) (t : Tab α) (k : Nat) : tabGet d (t.map (fun e => (e.1, g e.2))) k = g (tabGet d t k) := by
  unfold tabGet
  rw [tabFind_map]
  cases tabFind t k with
  | none => exact hd.symm
  | some x => rfl

/-- Neither a halt nor the capo freezes a moving field in the present ACLK (R84, R85). -/
theorem not_frozen_of_moving {s : State} {f : Nat} (h : fieldMoving s f = true) : frozenIn (fieldOf s f) (aclk s) = false := by
  unfold fieldMoving movingIn at h
  simp only [Bool.and_eq_true, Bool.not_eq_true'] at h
  exact h.1.1.2

/-- In a moving field every operation that is complete before the present ACLK has done its write. -/
theorem cellOf_fieldNow {s : State} {f : Nat} (hm : fieldMoving s f = true) (c : Nat) :
    cellOf (fieldOf (fieldNow s f) f) c = cellSettle (aclk s) (cellOf (fieldOf s f) c) := by
  have hreads := (stateReads_drillFetch s f).field f
  have hfree := not_frozen_of_moving hm
  unfold fieldNow
  dsimp only
  rw [fieldOf_set_same]
  unfold cellOf
  dsimp only
  rw [tabGet_map rfl, hreads.cells]
  congr 1
  rw [hreads.frozen]
  unfold frozenIn at hfree
  split
  · next k hk =>
    rw [hk] at hfree
    exact Nat.min_eq_right (Nat.le_of_lt (Nat.not_le.1 (of_decide_eq_false hfree)))
  · rfl

/-! The window of a cell that has settled (R28, R32). -/

/-- The entry leaves the window when the field settles: it delivers nothing, and its operation is complete. -/
def leavesBy (n : Nat) (e : WinEntry) : Bool := e.deliver == 0 && decide (e.dueAt ≤ n)

/-- The entry once the field has settled: its register write is done where its operation is complete. -/
def settledEntry (n : Nat) (e : WinEntry) : WinEntry := if writeDue e && decide (e.dueAt ≤ n) then { e with written := true } else e

theorem win_cellSettle (n : Nat) (y : Cell) : (cellSettle n y).win = (y.win.filter (fun e => !leavesBy n e)).map (settledEntry n) := rfl

/-- An entry whose operation is not yet complete stays as it is, behind what is left of the entries before it. -/
theorem win_cellSettle_split {n k : Nat} {y : Cell} {e : WinEntry} (he : y.win[k]? = some e) (hdue : n < e.dueAt) :
    ∃ older newer, (cellSettle n y).win = older ++ e :: newer ∧ older.length = k - ((y.win.take k).filter (leavesBy n)).length ∧
      ∀ d, d ∈ older → ∃ d', d' ∈ y.win.take k ∧ d = settledEntry n d' := by
  obtain ⟨hk, hek⟩ := List.getElem?_eq_some_iff.1 he
  have hsplit : y.win = y.win.take k ++ e :: y.win.drop (k + 1) := by
    rw [← hek, List.getElem_cons_drop, List.take_append_drop]
  have hstays : leavesBy n e = false := by unfold leavesBy; rw [decide_eq_false (by omega), Bool.and_false]
  have hsame : settledEntry n e = e := by unfold settledEntry; rw [decide_eq_false (by omega), Bool.and_false]; rfl
  refine ⟨((y.win.take k).filter (fun d => !leavesBy n d)).map (settledEntry n), ((y.win.drop (k + 1)).filter (fun d => !leavesBy n d)).map (settledEntry n), ?_, ?_, ?_⟩
  · have hwin : (cellSettle n y).win = ((y.win.take k ++ e :: y.win.drop (k + 1)).filter (fun d => !leavesBy n d)).map (settledEntry n) := by
      rw [← hsplit, win_cellSettle]
    rw [hwin, List.filter_append, List.filter_cons_of_pos (by rw [hstays]; rfl), List.map_append, List.map_cons, hsame]
  · have hlen := List.length_eq_countP_add_countP (leavesBy n) (l := y.win.take k)
    simp only [List.countP_eq_length_filter, Bool.not_eq_true, Bool.decide_eq_false] at hlen
    rw [List.length_take_of_le (by omega)] at hlen
    rw [List.length_map]
    omega
  · intro d hd
    obtain ⟨d', hd', rfl⟩ := List.mem_map.1 hd
    exact ⟨d', (List.mem_filter.1 hd').1, rfl⟩

/-- A write due after the field has settled was due before, and completes after that ACLK. -/
theorem writeDue_settledEntry {n : Nat} {d : WinEntry} (h : writeDue (settledEntry n d) = true) : settledEntry n d = d ∧ n < d.dueAt := by
  unfold settledEntry at h ⊢
  split at h
  · simp [writeDue] at h
  · next hnot =>
    have hlate : ¬ d.dueAt ≤ n := fun k => hnot (by rw [h, decide_eq_true k]; rfl)
    exact ⟨if_neg hnot, Nat.not_le.1 hlate⟩

/-! Registers (R33). -/

@[simp] theorem cellReg_setCellReg (y : Cell) (slot k v : Nat) : cellReg (setCellReg y slot k v) slot k = v % 2 ^ 32 := by
  unfold cellReg setCellReg
  split
  · exact tabGet_set_same _ _ _ _
  · exact tabGet_set_same _ _ _ _

@[simp] theorem skids_entryWrite (n : Nat) (y : Cell) (e : WinEntry) : (entryWrite n y e).skids = y.skids := by
  unfold entryWrite setCellReg
  split
  · split <;> rfl
  · rfl

theorem cellReg_entryWrite {e : WinEntry} (h : writeDue e = true) (n : Nat) (y : Cell) : cellReg (entryWrite n y e) e.bankSlot e.reg = e.regVal % 2 ^ 32 := by
  unfold entryWrite
  rw [if_pos h]
  exact cellReg_setCellReg _ _ _ _

/-- An operation that completes at the end of the ACLK writes its register, where no older entry writes it before. -/
theorem entryComplete_writes {s : State} {f c : Nat} {older newer : List WinEntry} {e : WinEntry} (hwin : (cellOf (fieldOf s f) c).win = older ++ e :: newer)
    (hw : writeDue e = true) (hdue : e.dueAt = aclk s + 1) (hfirst : ∀ d, d ∈ older → writeDue d = true → sameReg d e = true → ¬ d.dueAt ≤ e.dueAt) :
    ∃ u, entryComplete s f c older.length = some u ∧ cellReg (cellOf (fieldOf u f) c) e.bankSlot e.reg = e.regVal % 2 ^ 32 := by
  have hget : (cellOf (fieldOf s f) c).win[older.length]? = some e := by rw [hwin]; simp
  have htake : (cellOf (fieldOf s f) c).win.take older.length = older := by rw [hwin]; simp
  have hwritten : e.written = false := by
    unfold writeDue at hw
    simp only [Bool.and_eq_true, Bool.not_eq_true'] at hw
    exact hw.2
  have hnone : older.any (fun d => writeDue d && writeDue e && sameReg d e && decide (d.dueAt ≤ e.dueAt)) = false := by
    rw [List.any_eq_false]
    intro d hd
    simp only [Bool.and_eq_true, decide_eq_true_eq, not_and]
    rintro ⟨⟨hd1, -⟩, hd2⟩
    exact hfirst d hd hd1 hd2
  unfold entryComplete
  simp only [hget, htake]
  rw [if_neg (by rw [hnone, hwritten]; simp [hdue])]
  refine ⟨_, rfl, ?_⟩
  rw [fieldOf_set_same, cellOf_set_same]
  split <;> exact cellReg_entryWrite hw _ _

end Sys2Proof.Proofs
end

section
/-! PROOFS. Where the tokens of a delivery go: the end of each output, what a token that enters it leaves alone, and the order of the tokens there. -/

namespace Sys2Proof.Proofs

open Sys2Proof Sys2Proof.Machine Sys2Proof.Safety Sys2Proof.Laws

/-! Tokens that stay where they are. -/

/-- The tokens of a field are where they were: in its skid buffers, stages, buses and write streams. -/
structure FieldTokens (x y : Field) : Prop where
  skids : ∀ c, (cellOf y c).skids = (cellOf x c).skids
  stages : y.stages = x.stages
  bus : y.bus = x.bus
  writes : ∀ d, (streamOf y d 1).buf = (streamOf x d 1).buf

theorem FieldTokens.refl (x : Field) : FieldTokens x x := ⟨fun _ => rfl, rfl, rfl, fun _ => rfl⟩
theorem FieldTokens.trans {x y z : Field} (h : FieldTokens x y) (k : FieldTokens y z) : FieldTokens x z :=
  ⟨fun c => (k.skids c).trans (h.skids c), k.stages.trans h.stages, k.bus.trans h.bus, fun d => (k.writes d).trans (h.writes d)⟩

theorem OnlyReads.tokens {x y : Field} (h : OnlyReads x y) : FieldTokens x y :=
  ⟨fun c => by unfold cellOf; rw [h.cells], h.stages, h.bus, fun d => by rw [h.writes]⟩

theorem fieldTokens_setSlot (x : Field) (k : Nat) (y : Slot) : FieldTokens x (setSlot x k y) := ⟨fun _ => rfl, rfl, rfl, fun _ => rfl⟩
theorem fieldTokens_retune (x : Field) (r : Option Retune) : FieldTokens x { x with retune := r } := ⟨fun _ => rfl, rfl, rfl, fun _ => rfl⟩
theorem fieldTokens_ended (x : Field) (r : Option Retune) (n : RetuneEnded) : FieldTokens x { x with retune := r, ended := n } := ⟨fun _ => rfl, rfl, rfl, fun _ => rfl⟩

theorem fieldTokens_setCell {x : Field} {c : Nat} {y : Cell} (h : y.skids = (cellOf x c).skids) : FieldTokens x (setCell x c y) := by
  refine ⟨fun d => ?_, rfl, rfl, fun _ => rfl⟩
  rw [cellOf_set]
  split
  · next e => subst e; exact h
  · rfl

theorem fieldTokens_streamSwitch (s : State) (x : Field) (slot d t : Nat) : FieldTokens x (streamSwitch s x slot d t) := by
  refine ⟨fun _ => rfl, rfl, rfl, fun e => ?_⟩
  unfold streamSwitch
  rw [streamOf_set]
  split
  · next h => unfold streamOf; rw [h]
  · rfl

/-- Every token of the array is where it was. -/
structure SameTokens (s u : State) : Prop where
  field : ∀ f, FieldTokens (fieldOf s f) (fieldOf u f)
  edge : u.arr.edgeOut = s.arr.edgeOut

theorem SameTokens.refl (s : State) : SameTokens s s := ⟨fun _ => FieldTokens.refl _, rfl⟩
theorem SameTokens.trans {s t u : State} (h : SameTokens s t) (k : SameTokens t u) : SameTokens s u :=
  ⟨fun f => (h.field f).trans (k.field f), k.edge.trans h.edge⟩

theorem SameTokens.of_arr {s u : State} (h : u.arr = s.arr) : SameTokens s u :=
  ⟨fun f => by unfold fieldOf; rw [h]; exact FieldTokens.refl _, by rw [h]⟩

theorem sameTokens_wr (s : State) (i j v : Nat) : SameTokens s (wr s i j v) := SameTokens.of_arr rfl

theorem StateReads.tokens {s u : State} (h : StateReads s u) : SameTokens s u := ⟨fun f => (h.field f).tokens, h.edge⟩

theorem sameTokens_setField_both {s : State} {f : Nat} {x y : Field} (h : FieldTokens x y) : SameTokens (setField s f x) (setField s f y) := by
  refine ⟨fun g => ?_, rfl⟩
  rw [fieldOf_set, fieldOf_set]
  split
  · exact h
  · exact FieldTokens.refl _

theorem sameTokens_setField {s : State} {f : Nat} {x : Field} (h : FieldTokens (fieldOf s f) x) : SameTokens s (setField s f x) := by
  refine ⟨fun g => ?_, rfl⟩
  rw [fieldOf_set]
  split
  · next e => subst e; exact h
  · exact FieldTokens.refl _

theorem sameTokens_retuneEnd (s : State) (f : Nat) (r : Retune) (result : Nat) : SameTokens s (retuneEnd s f r result) := by
  unfold retuneEnd
  dsimp only
  have hold : FieldTokens (fieldOf s f) (if activeSlot s f == 0xFF then fieldOf s f else setSlot (fieldOf s f) (activeSlot s f) { slotOf (fieldOf s f) (activeSlot s f) with st := 2 }) := by
    split
    · exact FieldTokens.refl _
    · exact fieldTokens_setSlot _ _ _
  exact (sameTokens_setField (hold.trans ((fieldTokens_setSlot _ _ _).trans (fieldTokens_ended _ _ _)))).trans (SameTokens.of_arr (raiseEvent_arr _ _))

theorem sameTokens_atEndCheck (s : State) (f : Nat) : SameTokens s (atEndCheck s f) := by
  unfold atEndCheck
  split
  · split
    · exact sameTokens_retuneEnd _ _ _ _
    · exact SameTokens.refl _
  · exact SameTokens.refl _

theorem fieldTokens_mark (b : Bool) (s : State) (y : Field) (slot d t : Nat) : FieldTokens y (if b = true then y else streamSwitch s y slot d t) := by
  split
  · exact FieldTokens.refl _
  · exact fieldTokens_streamSwitch _ _ _ _ _

theorem fieldTokens_switched (b : Bool) (s : State) (y : Field) (slot d t : Nat) : FieldTokens y (if b = true then streamSwitch s y slot d t else y) := by
  split
  · exact fieldTokens_streamSwitch _ _ _ _ _
  · exact FieldTokens.refl _

theorem sameTokens_atEndStart (s : State) (f : Nat) : SameTokens s (atEndStart s f) := by
  unfold atEndStart
  dsimp only
  refine (sameTokens_setField (FieldTokens.trans (foldl_rel FieldTokens.refl FieldTokens.trans (fun y c => ?_) _ _)
    (foldl_rel FieldTokens.refl FieldTokens.trans (fun y d => ?_) _ _))).trans (sameTokens_atEndCheck _ _)
  · split
    · exact FieldTokens.refl _
    · exact fieldTokens_setCell rfl
  · exact (fieldTokens_mark _ s y _ d 0).trans (fieldTokens_mark _ s _ _ d 1)

/-- The start of a retune moves no token of the array: only reads are issued or dropped (R79). -/
theorem sameTokens_retuneStart (s : State) (f : Nat) (r : Retune) : SameTokens s (retuneStart s f r) := by
  unfold retuneStart
  dsimp only
  have hstart : SameTokens s (setField (wr (drillFetch s f) (0x2006 + 0x40 * f) 0x01 2) f { fieldOf (drillFetch s f) f with retune := some { r with startAclk := aclk s } }) :=
    (stateReads_drillFetch s f).tokens.trans ((sameTokens_wr _ _ _ _).trans (sameTokens_setField (fieldTokens_retune _ _)))
  split
  · exact hstart.trans ((sameTokens_setField (onlyReads_dropReadItems _ _ _ _).tokens).trans (sameTokens_retuneEnd _ _ _ _))
  · exact hstart.trans (sameTokens_atEndStart _ _)
  · exact hstart

theorem sameTokens_cueCheck (s : State) (f port : Nat) (t : Token) : SameTokens s (cueCheck s f port t) := by
  unfold cueCheck
  split
  · split
    · exact sameTokens_retuneStart _ _ _
    · exact SameTokens.refl _
  · exact SameTokens.refl _

/-! A token that enters the end of a path. -/

/-- The address of the next item of a write stream's program (R64, R65). -/
def nextAddr (s : State) (f d : Nat) : Nat :=
  ddAddr (drillDesc (slotOf (fieldOf s f) (streamSlot s f d 1)) d 1) (drillCount (fieldOf s f) (streamSlot s f d 1) d 1)

/-- The token put at the end of a path, before what it may start: the part of `endPut` that moves a token. -/
def tokenPut (s : State) (e : PathEnd) (t : Token) (drill : Option (Nat × Nat)) : State :=
  match e with
  | .closed => s
  | .cell f c dir =>
    let y := cellOf (fieldOf s f) c
    setField s f (setCell (fieldOf s f) c { y with skids := tabSet [] y.skids dir (skidOf y dir ++ [{ tok := t, since := aclk s, drill := drill }]) })
  | .stage f u dir => setField s f (setStage (fieldOf s f) u dir (stageOf (fieldOf s f) u dir ++ [{ tok := t, since := aclk s }]))
  | .edge p => { s with arr := { s.arr with edgeOut := tabPut s.arr.edgeOut p { tok := t, since := aclk s }, edgeMoved := tabSet 0 s.arr.edgeMoved p (aclk s + 1) } }
  | .drill f d =>
    let slot := streamSlot s f d 1
    let b := drillDesc (slotOf (fieldOf s f) slot) d 1
    let w := streamOf (fieldOf s f) d 1
    setField s f (setStream (setDrillCount (fieldOf s f) slot d 1 (ddNext b (drillCount (fieldOf s f) slot d 1) (ddEndSync b && t.last))) d 1
      { w with buf := w.buf ++ [{ addr := nextAddr s f d, tok := t, since := aclk s }], movedAt := aclk s + 1, endAt := if t.last then aclk s + 1 else w.endAt })

/-- What a token starts where it enters moves no other token. -/
theorem sameTokens_endPut (s : State) (e : PathEnd) (t : Token) (drill : Option (Nat × Nat)) : SameTokens (tokenPut s e t drill) (endPut s e t drill) := by
  cases e with
  | closed => exact SameTokens.refl _
  | stage f u dir => exact SameTokens.refl _
  | edge p => exact SameTokens.refl _
  | cell f c dir =>
    unfold tokenPut endPut
    dsimp only
    split
    · exact sameTokens_cueCheck _ _ _ _
    · exact SameTokens.refl _
  | drill f d =>
    unfold tokenPut endPut
    dsimp only
    exact SameTokens.trans (sameTokens_setField_both (fieldTokens_switched _ _ _ _ _ _)) (sameTokens_atEndCheck _ _)

/-- What is held at the end of a path is as before. -/
def SameEnd (s u : State) (e : PathEnd) : Prop :=
  match e with
  | .closed => True
  | .cell f c dir => skidOf (cellOf (fieldOf u f) c) dir = skidOf (cellOf (fieldOf s f) c) dir
  | .stage f w dir => stageOf (fieldOf u f) w dir = stageOf (fieldOf s f) w dir
  | .edge p => tabFind u.arr.edgeOut p = tabFind s.arr.edgeOut p
  | .drill f d => (streamOf (fieldOf u f) d 1).buf = (streamOf (fieldOf s f) d 1).buf

theorem SameEnd.refl (s : State) (e : PathEnd) : SameEnd s s e := by cases e <;> trivial

theorem SameEnd.trans {s t u : State} {e : PathEnd} (h : SameEnd s t e) (k : SameEnd t u e) : SameEnd s u e := by
  cases e with
  | closed => trivial
  | cell f c dir => exact Eq.trans k h
  | stage f w dir => exact Eq.trans k h
  | edge p => exact Eq.trans k h
  | drill f d => exact Eq.trans k h

theorem SameTokens.sameEnd {s u : State} (h : SameTokens s u) (e : PathEnd) : SameEnd s u e := by
  cases e with
  | closed => trivial
  | cell f c dir => exact congrArg (tabGet [] · dir) ((h.field f).skids c)
  | stage f w dir => exact congrArg (tabGet [] · (2 * w + dir)) (h.field f).stages
  | edge p => exact congrArg (tabFind · p) h.edge
  | drill f d => exact (h.field f).writes d

/-- A token that enters an end stands there behind what was there. -/
theorem endPut_delivered {e : PathEnd} (h : e ≠ .closed) (s : State) (t : Token) (drill : Option (Nat × Nat)) : Delivered s (endPut s e t drill) e t drill := by
  have hsame := (sameTokens_endPut s e t drill).sameEnd e
  cases e with
  | closed => exact absurd rfl h
  | cell f c dir =>
    refine Eq.trans hsame ?_
    unfold tokenPut
    dsimp only
    rw [fieldOf_set_same, cellOf_set_same]
    exact tabGet_set_same _ _ _ _
  | stage f u dir =>
    refine Eq.trans hsame ?_
    unfold tokenPut
    dsimp only
    rw [fieldOf_set_same, stageOf_set_same]
  | edge p => exact Eq.trans hsame (tabFind_put_same _ _ _)
  | drill f d =>
    refine Eq.trans hsame ?_
    unfold tokenPut
    dsimp only
    rw [fieldOf_set_same, streamOf_set_same]
    rfl

/-- The output of a cell through which tokens reach an end: N, E, S and W from 0 (R54, R57, R59). -/
def enteredBy (e : PathEnd) : Nat :=
  match e with
  | .closed => 4
  | .cell _ _ dir => (dir + 2) % 4
  | .stage _ _ dir => 2 * (dir % 2) + 1
  | .edge _ => 1
  | .drill _ _ => 2

/-- A field set leaves the ends in other fields alone, and its own where their tokens are as before. -/
theorem sameEnd_setField {s : State} {f : Nat} {x : Field} {e : PathEnd} (hcell : ∀ c dir, e = .cell f c dir → skidOf (cellOf x c) dir = skidOf (cellOf (fieldOf s f) c) dir)
    (hstage : ∀ w dir, e = .stage f w dir → stageOf x w dir = stageOf (fieldOf s f) w dir)
    (hdrill : ∀ d, e = .drill f d → (streamOf x d 1).buf = (streamOf (fieldOf s f) d 1).buf) : SameEnd s (setField s f x) e := by
  cases e with
  | closed => trivial
  | edge p => exact rfl
  | cell g c dir =>
    unfold SameEnd
    dsimp only
    rw [fieldOf_set]
    split
    · next k => subst k; exact hcell c dir rfl
    · rfl
  | stage g w dir =>
    unfold SameEnd
    dsimp only
    rw [fieldOf_set]
    split
    · next k => subst k; exact hstage w dir rfl
    · rfl
  | drill g d =>
    unfold SameEnd
    dsimp only
    rw [fieldOf_set]
    split
    · next k => subst k; exact hdrill d rfl
    · rfl

theorem tokenPut_sameEnd {e e' : PathEnd} (h : enteredBy e ≠ enteredBy e') (s : State) (t : Token) (drill : Option (Nat × Nat)) : SameEnd s (tokenPut s e t drill) e' := by
  cases e with
  | closed => exact SameEnd.refl _ _
  | cell f c dir =>
    refine sameEnd_setField (fun c' dir' he => ?_) (fun _ _ _ => rfl) (fun _ _ => rfl)
    have hdir : dir ≠ dir' := fun k => h (by rw [he, k]; rfl)
    rw [cellOf_set]
    split
    · next k => subst k; exact tabGet_set_other _ _ _ _ hdir
    · rfl
  | stage f u dir =>
    refine sameEnd_setField (fun _ _ _ => rfl) (fun w dir' he => ?_) (fun _ _ => rfl)
    have hkey : 2 * u + dir ≠ 2 * w + dir' := fun k => h (by rw [he]; simp only [enteredBy]; omega)
    exact tabGet_set_other _ _ _ _ hkey
  | edge p =>
    cases e' with
    | edge q => exact absurd rfl h
    | closed => trivial
    | cell g d dir' => exact rfl
    | stage g w dir' => exact rfl
    | drill g d => exact rfl
  | drill f d => exact sameEnd_setField (fun _ _ _ => rfl) (fun _ _ _ => rfl) (fun d' he => absurd (by rw [he]; rfl) h)

/-- A token that enters an end leaves what is held at the ends of the other outputs alone. -/
theorem endPut_sameEnd {e e' : PathEnd} (h : enteredBy e ≠ enteredBy e') (s : State) (t : Token) (drill : Option (Nat × Nat)) : SameEnd s (endPut s e t drill) e' :=
  (tokenPut_sameEnd h s t drill).trans ((sameTokens_endPut s e t drill).sameEnd e')

/-- No end of a path is a bus. -/
theorem bus_endPut (s : State) (e : PathEnd) (t : Token) (drill : Option (Nat × Nat)) (g : Nat) : (fieldOf (endPut s e t drill) g).bus = (fieldOf s g).bus := by
  refine ((sameTokens_endPut s e t drill).field g).bus.trans ?_
  have hset : ∀ (f : Nat) (x : Field), x.bus = (fieldOf s f).bus → (fieldOf (setField s f x) g).bus = (fieldOf s g).bus := by
    intro f x hx
    rw [fieldOf_set]
    split
    · next k => rw [hx, k]
    · rfl
  cases e with
  | closed => rfl
  | edge p => rfl
  | cell f c dir => exact hset f _ rfl
  | stage f u dir => exact hset f _ rfl
  | drill f d => exact hset f _ rfl

end Sys2Proof.Proofs
end

section
/-! PROOFS. Firing, completion and delivery of a cell: one theorem for each clause of CellsFireAndDeliver. -/

namespace Sys2Proof.Proofs

open Sys2Proof Sys2Proof.Machine Sys2Proof.Safety Sys2Proof.Laws

/-! Where the outputs of a cell lead (R54, R57, R59). -/

/-- The ends to which output `o` of a cell of field `f` can lead: a token that enters a cell of the field itself comes through none of its ports. -/
inductive OutForm (f : Nat) : Nat → PathEnd → Prop
  | closed (o : Nat) : OutForm f o .closed
  | cell (g c dir : Nat) (h : g ≠ f ∨ portOfInput c dir = none) : OutForm f ((dir + 2) % 4) (.cell g c dir)
  | stage (g u dir : Nat) : OutForm f (2 * (dir % 2) + 1) (.stage g u dir)
  | edge (p : Nat) : OutForm f 1 (.edge p)
  | drill (d : Nat) : OutForm f 2 (.drill f d)

theorem farEast_form {f p : Nat} (s : State) (u : Nat) (hp : f % 6 < p) : OutForm f 1 (farEast s (f / 6) p u) := by
  unfold farEast
  split
  · split
    · exact OutForm.cell _ _ 3 (Or.inl (by omega))
    · exact OutForm.closed _
  · exact OutForm.edge _

theorem farWest_form {f p : Nat} (s : State) (u : Nat) (hp : p ≤ f % 6) : OutForm f 3 (farWest s (f / 6) p u) := by
  unfold farWest
  split
  · exact OutForm.closed _
  · split
    · exact OutForm.cell _ _ 1 (Or.inl (by omega))
    · exact OutForm.closed _

theorem eastEnd_form (s : State) (f u : Nat) : OutForm f 1 (eastEnd s f u) := by
  unfold eastEnd
  dsimp only
  split
  · exact OutForm.closed _
  · split
    · split
      · exact OutForm.closed _
      · exact OutForm.stage _ _ 0
    · exact farEast_form s u (by omega)

theorem westEnd_form (s : State) (f u : Nat) : OutForm f 3 (westEnd s f u) := by
  unfold westEnd
  dsimp only
  split
  · exact OutForm.closed _
  · split
    · split
      · exact OutForm.closed _
      · exact OutForm.stage _ _ 1
    · exact farWest_form s u (by omega)

/-- An input of a cell that its port does not face lies behind no port. -/
theorem portOfInput_inner {c dir : Nat} (hn : dir = 0 → c / 8 ≠ 0) (he : dir = 1 → c % 8 ≠ 7) (hs : dir = 2 → c / 8 ≠ 7) (hw : dir = 3 → c % 8 ≠ 0) (hdir : dir < 4) :
    portOfInput c dir = none := by
  match dir, hdir with
  | 0, _ => exact if_neg fun k => hn rfl (eq_of_beq k)
  | 1, _ => exact if_neg fun k => he rfl (eq_of_beq k)
  | 2, _ => exact if_neg fun k => hs rfl (eq_of_beq k)
  | 3, _ => exact if_neg fun k => hw rfl (eq_of_beq k)

theorem outEnd_form (s : State) (f : Nat) {c o : Nat} (hc : c < 64) (ho : o < 4) : OutForm f o (outEnd s f c o) := by
  have hinner : ∀ {c' dir : Nat}, portOfInput c' dir = none → OutForm f ((dir + 2) % 4) (.cell f c' dir) := fun h => OutForm.cell _ _ _ (Or.inr h)
  match o, ho with
  | 0, _ =>
    simp only [outEnd]
    split
    · exact hinner (dir := 2) (portOfInput_inner (by omega) (by omega) (by omega) (by omega) (by omega))
    · split
      · next h =>
        simp only [Bool.and_eq_true, decide_eq_true_eq] at h
        exact OutForm.cell _ _ 2 (Or.inl (by omega))
      · exact OutForm.closed _
  | 1, _ =>
    simp only [outEnd]
    split
    · exact hinner (dir := 3) (portOfInput_inner (by omega) (by omega) (by omega) (by omega) (by omega))
    · exact eastEnd_form s f _
  | 2, _ =>
    simp only [outEnd]
    split
    · exact hinner (dir := 0) (portOfInput_inner (by omega) (by omega) (by omega) (by omega) (by omega))
    · split
      · exact OutForm.drill _
      · split
        · exact OutForm.cell _ _ 0 (Or.inl (by omega))
        · exact OutForm.closed _
  | 3, _ =>
    simp only [outEnd]
    split
    · exact hinner (dir := 1) (portOfInput_inner (by omega) (by omega) (by omega) (by omega) (by omega))
    · exact westEnd_form s f _

theorem OutForm.enteredBy_eq {f o : Nat} {e : PathEnd} (h : OutForm f o e) (hopen : e ≠ .closed) : enteredBy e = o := by
  cases h with
  | closed => exact absurd rfl hopen
  | cell g c dir _ => rfl
  | stage g u dir => rfl
  | edge p => rfl
  | drill d => rfl

/-! The programs of a field's write streams. -/

/-- What the program of a field's streams hangs on: its slots, its item numbers, its streams, and its retunes. -/
structure FieldProgram (x y : Field) : Prop where
  slots : y.slots = x.slots
  counter : y.counter = x.counter
  streams : y.streams = x.streams
  retune : y.retune = x.retune
  ended : y.ended = x.ended

/-- The streams of a field follow the same program from the same item. -/
structure SameProgram (f : Nat) (s u : State) : Prop where
  field : FieldProgram (fieldOf s f) (fieldOf u f)
  active : activeSlot u f = activeSlot s f
  state : retuneState u f = retuneState s f
  time : aclk u = aclk s

theorem FieldProgram.refl (x : Field) : FieldProgram x x := ⟨rfl, rfl, rfl, rfl, rfl⟩
theorem FieldProgram.trans {x y z : Field} (h : FieldProgram x y) (k : FieldProgram y z) : FieldProgram x z :=
  ⟨k.slots.trans h.slots, k.counter.trans h.counter, k.streams.trans h.streams, k.retune.trans h.retune, k.ended.trans h.ended⟩
theorem SameProgram.refl {f : Nat} (s : State) : SameProgram f s s := ⟨FieldProgram.refl _, rfl, rfl, rfl⟩
theorem SameProgram.trans {f : Nat} {s t u : State} (h : SameProgram f s t) (k : SameProgram f t u) : SameProgram f s u :=
  ⟨h.field.trans k.field, k.active.trans h.active, k.state.trans h.state, k.time.trans h.time⟩

theorem SameProgram.nextAddr_eq {f : Nat} {s u : State} (h : SameProgram f s u) (d : Nat) : nextAddr u f d = nextAddr s f d := by
  obtain ⟨⟨hslots, hcounter, hstreams, hretune, hended⟩, hactive, hstate, htime⟩ := h
  unfold nextAddr streamSlot streamSlotIn markSlotIn slotIn drillCount slotOf streamOf
  simp only [hslots, hcounter, hstreams, hretune, hended, hactive, hstate, htime]

theorem sameProgram_setField {s : State} {f g : Nat} {x : Field} (h : g = f → FieldProgram (fieldOf s f) x) : SameProgram f s (setField s g x) := by
  refine ⟨?_, rfl, rfl, rfl⟩
  rw [fieldOf_set]
  split
  · next k => exact h k.symm
  · exact FieldProgram.refl _

theorem sameProgram_other {s : State} {f g : Nat} (hg : g ≠ f) (x : Field) : SameProgram f s (setField s g x) := sameProgram_setField fun k => absurd k hg

theorem sameProgram_wr {s : State} {f i j : Nat} (v : Nat) (hj : j < 256) (hi : i ≠ 0x2000 + 0x40 * f) (hk : i ≠ 0x2006 + 0x40 * f) : SameProgram f s (wr s i j v) :=
  ⟨FieldProgram.refl _, rd_wr_other _ _ (objKey_ne hj (by decide) (Or.inl hi)), rd_wr_other _ _ (objKey_ne hj (by decide) (Or.inl hk)), rfl⟩

theorem sameProgram_raiseEvent (f : Nat) (s : State) (e : Nat) : SameProgram f s (raiseEvent s e) := by
  refine ⟨?_, rd_raiseEvent _ _ (objKey_ne (by decide) (by decide) (Or.inl (by omega))), rd_raiseEvent _ _ (objKey_ne (by decide) (by decide) (Or.inl (by omega))), ?_⟩
  · rw [fieldOf_raiseEvent]; exact FieldProgram.refl _
  · unfold aclk pllTime; rw [raiseEvent_power, raiseEvent_now]

/-! A retune of another field leaves the program alone. -/

section
variable {f g : Nat} (hg : g ≠ f)
include hg

theorem sameProgram_drillFetch (s : State) : SameProgram f s (drillFetch s g) := by
  have hissue : ∀ (t : State) (n : Nat), SameProgram f t (drillIssue t g n) := by
    intro t n
    unfold drillIssue
    refine foldl_rel SameProgram.refl SameProgram.trans (fun y bank => ?_) _ t
    dsimp only
    split
    · split
      · exact SameProgram.refl _
      · exact sameProgram_other hg _
    · exact SameProgram.refl _
  unfold drillFetch
  dsimp only
  split
  · exact SameProgram.refl _
  · exact (foldl_rel SameProgram.refl SameProgram.trans (fun y k => (sameProgram_other hg _).trans (hissue _ _)) _ s).trans (sameProgram_other hg _)

theorem sameProgram_retuneEnd (s : State) (r : Retune) (result : Nat) : SameProgram f s (retuneEnd s g r result) := by
  unfold retuneEnd
  dsimp only
  have hwr : ∀ (t : State) (v j : Nat), j < 256 → SameProgram f t (wr t (0x2006 + 0x40 * g) j v) := fun t v j hj => sameProgram_wr v hj (by omega) (by omega)
  exact (sameProgram_other hg _).trans ((sameProgram_wr _ (by decide) (by omega) (by omega)).trans ((hwr _ _ 1 (by decide)).trans
    ((hwr _ _ 2 (by decide)).trans ((hwr _ _ 3 (by decide)).trans ((hwr _ _ 4 (by decide)).trans (sameProgram_raiseEvent f _ g))))))

theorem sameProgram_atEndCheck (s : State) : SameProgram f s (atEndCheck s g) := by
  unfold atEndCheck
  split
  · split
    · exact sameProgram_retuneEnd hg _ _ _
    · exact SameProgram.refl _
  · exact SameProgram.refl _

theorem sameProgram_retuneStart (s : State) (r : Retune) : SameProgram f s (retuneStart s g r) := by
  unfold retuneStart
  dsimp only
  have hstart : SameProgram f s (setField (wr (drillFetch s g) (0x2006 + 0x40 * g) 0x01 2) g { fieldOf (drillFetch s g) g with retune := some { r with startAclk := aclk s } }) :=
    (sameProgram_drillFetch hg s).trans ((sameProgram_wr 2 (by decide) (by omega) (by omega)).trans (sameProgram_other hg _))
  split
  · exact hstart.trans ((sameProgram_other hg _).trans (sameProgram_retuneEnd hg _ _ _))
  · exact hstart.trans ((sameProgram_other hg _).trans (sameProgram_atEndCheck hg _))
  · exact hstart

theorem sameProgram_cueCheck (s : State) (port : Nat) (t : Token) : SameProgram f s (cueCheck s g port t) := by
  unfold cueCheck
  split
  · split
    · exact sameProgram_retuneStart hg _ _
    · exact SameProgram.refl _
  · exact SameProgram.refl _

end

/-- A token that leaves a cell, but into a write stream, leaves the programs of its field's streams alone. -/
theorem OutForm.sameProgram {f o : Nat} {e : PathEnd} (h : OutForm f o e) (ho : o ≠ 2) (s : State) (t : Token) (drill : Option (Nat × Nat)) :
    SameProgram f s (endPut s e t drill) := by
  cases h with
  | closed => exact SameProgram.refl _
  | stage g u dir => exact sameProgram_setField fun k => by subst k; exact ⟨rfl, rfl, rfl, rfl, rfl⟩
  | edge p => exact ⟨FieldProgram.refl _, rfl, rfl, rfl⟩
  | drill d => exact absurd rfl ho
  | cell g c dir h =>
    have hput : SameProgram f s (tokenPut s (.cell g c dir) t drill) := sameProgram_setField fun k => by subst k; exact ⟨rfl, rfl, rfl, rfl, rfl⟩
    unfold endPut
    dsimp only
    rcases h with h | h
    · split
      · exact hput.trans (sameProgram_cueCheck h _ _ _)
      · exact hput
    · rw [h]
      exact hput

/-! The tokens of a delivery. -/

/-- The token of output `o` of an entry enters the end that the output had in state `z`. -/
def deliverOut (z : State) (f c : Nat) (e : WinEntry) (s : State) (o : Nat) : State := endPut s (outEnd z f c o) (entryOut e o) none

/-- What holds of a token that enters an end holds from an earlier state on to a later one in which that end is the same. -/
theorem delivered_between {z a b u : State} {e : PathEnd} {tok : Token} {drill : Option (Nat × Nat)} (hd : Delivered a b e tok drill) (hza : SameEnd z a e) (hbu : SameEnd b u e)
    (htime : aclk a = aclk z) (hnext : ∀ f d, e = .drill f d → nextAddr a f d = nextAddr z f d) : Delivered z u e tok drill := by
  cases e with
  | closed => exact hd
  | cell f c dir =>
    unfold Delivered SameEnd at *
    dsimp only at *
    rw [hbu, hd, hza, htime]
  | stage f w dir =>
    unfold Delivered SameEnd at *
    dsimp only at *
    rw [hbu, hd, hza, htime]
  | edge p =>
    unfold Delivered SameEnd at *
    dsimp only at *
    rw [hbu, hd, htime]
  | drill f d =>
    have hnext' := hnext f d rfl
    unfold nextAddr at hnext'
    unfold Delivered SameEnd at *
    dsimp only at *
    rw [hbu, hd, hza, htime, hnext']

section
variable {z : State} {f c : Nat} {e : WinEntry}

theorem foldl_deliverOut_sameEnd {e' : PathEnd} {l : List Nat} (h : ∀ o, o ∈ l → enteredBy (outEnd z f c o) ≠ enteredBy e') (s : State) :
    SameEnd s (l.foldl (deliverOut z f c e) s) e' := by
  induction l generalizing s with
  | nil => exact SameEnd.refl _ _
  | cons o r ih =>
    exact (endPut_sameEnd (h o List.mem_cons_self) _ _ _).trans (ih (fun p hp => h p (List.mem_cons_of_mem _ hp)) _)

theorem foldl_deliverOut_bus (l : List Nat) (s : State) : (fieldOf (l.foldl (deliverOut z f c e) s) f).bus = (fieldOf s f).bus := by
  induction l generalizing s with
  | nil => rfl
  | cons o r ih => exact (ih _).trans (bus_endPut _ _ _ _ _)

/-- Each of several outputs, with ends that are open, delivers its token: the ends differ, and the program of a write stream among them is as before when its token comes. -/
theorem foldl_deliverOut_delivered (hc : c < 64) {l : List Nat} (hl : l.Nodup) (hlt : ∀ o, o ∈ l → o < 4) (hopen : ∀ o, o ∈ l → outEnd z f c o ≠ .closed) (s : State)
    (hends : ∀ o, o ∈ l → SameEnd z s (outEnd z f c o)) (htime : aclk s = aclk z) (hprogram : 2 ∈ l → SameProgram f z s) :
    ∀ o, o ∈ l → Delivered z (l.foldl (deliverOut z f c e) s) (outEnd z f c o) (entryOut e o) none := by
  have hside : ∀ o, o ∈ l → enteredBy (outEnd z f c o) = o := fun o ho => (outEnd_form z f hc (hlt o ho)).enteredBy_eq (hopen o ho)
  induction l generalizing s with
  | nil => exact fun o ho => absurd ho List.not_mem_nil
  | cons o r ih =>
    obtain ⟨hor, hr⟩ := List.nodup_cons.1 hl
    have hform : OutForm f o (outEnd z f c o) := outEnd_form z f hc (hlt o List.mem_cons_self)
    have hapart : ∀ p, p ∈ r → enteredBy (outEnd z f c p) ≠ enteredBy (outEnd z f c o) := by
      intro p hp k
      rw [hside p (List.mem_cons_of_mem _ hp), hside o List.mem_cons_self] at k
      exact hor (k ▸ hp)
    intro p hp
    rcases List.mem_cons.1 hp with rfl | hp
    · refine delivered_between (endPut_delivered (hopen p List.mem_cons_self) s _ _) (hends p List.mem_cons_self) (foldl_deliverOut_sameEnd hapart _) htime ?_
      intro g d hdrill
      have h2 : p = 2 := by rw [← hside p List.mem_cons_self, hdrill]; rfl
      have hg : g = f := by rw [hdrill] at hform; cases hform; rfl
      rw [hg]
      exact (hprogram (h2 ▸ List.mem_cons_self)).nextAddr_eq d
    · refine ih hr (fun q hq => hlt q (List.mem_cons_of_mem _ hq)) (fun q hq => hopen q (List.mem_cons_of_mem _ hq)) (deliverOut z f c e s o) ?_ ?_ ?_
        (fun q hq => hside q (List.mem_cons_of_mem _ hq)) p hp
      · exact fun q hq => (hends q (List.mem_cons_of_mem _ hq)).trans (endPut_sameEnd (hapart q hq).symm _ _ _)
      · exact (aclk_endPut _ _ _ _).trans htime
      · intro h2
        have ho2 : o ≠ 2 := fun k => hor (k ▸ h2)
        exact (hprogram (List.mem_cons_of_mem _ h2)).trans (hform.sameProgram ho2 _ _ _)

end

/-- The outputs on which an entry delivers. -/
def outputsOf (e : WinEntry) : List Nat := (List.range 4).filter (fun o => bitOf e.deliver o)

theorem mem_outputsOf {e : WinEntry} {o : Nat} : o ∈ outputsOf e ↔ o < 4 ∧ bitOf e.deliver o = true := by
  unfold outputsOf
  rw [List.mem_filter, List.mem_range]

/-- The state in which an entry has left the window, and its result has entered the bus, before its tokens have reached their ends. -/
def headGone (s : State) (f c : Nat) (e : WinEntry) (rest : List WinEntry) : State :=
  let x := fieldOf s f
  let x1 := setCell x c { entryWrite (aclk s) (cellOf x c) e with win := rest, deliveredAt := aclk s + 1 }
  setField s f (if bitOf e.deliver 4 then
      setBus x1 (c / 8) { busOf x (c / 8) with toks := (busOf x (c / 8)).toks ++ [({ tok := e.result, since := aclk s }, 0)], drivenAt := aclk s + 1 }
    else x1)

theorem deliverTo_eq {s : State} {f c : Nat} {e : WinEntry} {rest : List WinEntry} (h : (cellOf (fieldOf s f) c).win = e :: rest) :
    deliverTo s f c = (outputsOf e).foldl (deliverOut s f c e) (headGone s f c e rest) := by
  unfold deliverTo
  dsimp only
  rw [h]
  rfl

theorem headGone_sameEnd (s : State) (f c : Nat) (e : WinEntry) (rest : List WinEntry) (e' : PathEnd) : SameEnd s (headGone s f c e rest) e' := by
  have hskids : ∀ d, (cellOf (setCell (fieldOf s f) c { entryWrite (aclk s) (cellOf (fieldOf s f) c) e with win := rest, deliveredAt := aclk s + 1 }) d).skids
      = (cellOf (fieldOf s f) d).skids := by
    intro d
    rw [cellOf_set]
    split
    · next k => subst k; exact skids_entryWrite _ _ _
    · rfl
  unfold headGone
  dsimp only
  split <;> exact sameEnd_setField (fun d dir _ => congrArg (tabGet [] · dir) (hskids d)) (fun _ _ _ => rfl) (fun _ _ => rfl)

theorem headGone_sameProgram (s : State) (f c : Nat) (e : WinEntry) (rest : List WinEntry) : SameProgram f s (headGone s f c e rest) := by
  unfold headGone
  dsimp only
  split <;> exact sameProgram_setField fun _ => ⟨rfl, rfl, rfl, rfl, rfl⟩

theorem headGone_bus (s : State) (f c : Nat) (e : WinEntry) (rest : List WinEntry) :
    (busOf (fieldOf (headGone s f c e rest) f) (c / 8)).toks
      = (busOf (fieldOf s f) (c / 8)).toks ++ (if bitOf e.deliver 4 then [({ tok := e.result, since := aclk s }, 0)] else []) := by
  unfold headGone
  dsimp only
  rw [fieldOf_set_same]
  split
  · exact congrArg FurrowBus.toks (tabGet_set_same _ _ _ _)
  · exact (List.append_nil _).symm

/-- A delivery hands each token to the end of its output, and a bus result to the bus (R29, R35). -/
theorem deliverTo_delivers {s : State} {f c : Nat} {e : WinEntry} {rest : List WinEntry} (hc : c < 64) (h : (cellOf (fieldOf s f) c).win = e :: rest)
    (hready : entryEndsReady s f c e = true) :
    (∀ o, o < 4 → bitOf e.deliver o = true → Delivered s (deliverTo s f c) (outEnd s f c o) (entryOut e o) none) ∧
      (busOf (fieldOf (deliverTo s f c) f) (c / 8)).toks
        = (busOf (fieldOf s f) (c / 8)).toks ++ (if bitOf e.deliver 4 then [({ tok := e.result, since := aclk s }, 0)] else []) := by
  have hopen : ∀ o, o ∈ outputsOf e → outEnd s f c o ≠ .closed := by
    intro o ho hclosed
    unfold entryEndsReady at hready
    have hend := List.all_eq_true.1 (Bool.and_eq_true_iff.1 hready).1 o ho
    rw [hclosed] at hend
    exact Bool.noConfusion hend
  rw [deliverTo_eq h]
  constructor
  · intro o ho hbit
    exact foldl_deliverOut_delivered hc (List.Pairwise.filter _ List.nodup_range) (fun p hp => (mem_outputsOf.1 hp).1) hopen _ (fun _ _ => headGone_sameEnd _ _ _ _ _ _) rfl
      (fun _ => headGone_sameProgram _ _ _ _ _) o (mem_outputsOf.2 ⟨ho, hbit⟩)
  · rw [← headGone_bus s f c e rest]
    unfold busOf
    rw [foldl_deliverOut_bus]

/-! The commands. -/

theorem cellFire_fires {t : Nat} {f : FieldId} {c : CellId} {s : State} (hr : runs t s = true) (hready : fireReady (fieldNow (at_ t s) f) f c = true) :
    Leads (.cellFire t f c) s fun u =>
      (cellOf (fieldOf u f) c).win = (firedCell (fieldNow (at_ t s) f) f c).win ∧ (cellOf (fieldOf u f) c).firedAt = aclk (at_ t s) + 1 := by
  have hexec : exec (.cellFire t f c) s = clocked t s (fun x => cellFire x f.val c.val) := rfl
  have hwork := fireTo_work (fieldNow (at_ t s) f) f c
  simp only [cellWork, Prod.mk.injEq] at hwork
  obtain ⟨hwin, hfired, -⟩ := hwork
  have hat : (firedCell (fieldNow (at_ t s) f) f c).firedAt = aclk (fieldNow (at_ t s) f) + 1 := rfl
  exact leads_clocked hexec hr (if_pos hready) ⟨hwin, by rw [hfired, hat, aclk_fieldNow]⟩

theorem operationComplete_writes {t : Nat} {f : FieldId} {c : CellId} {k : Nat} {s : State} {e : WinEntry} (hr : runs t s = true) (hm : fieldMoving (at_ t s) f = true)
    (he : (cellOf (fieldOf s f) c).win[k]? = some e) (hwe : e.we = true) (hnot : e.written = false) (hdue : e.dueAt = aclk (at_ t s) + 1)
    (hfirst : ((cellOf (fieldOf s f) c).win.take k).any (fun d => writeDue d && sameReg d e && d.dueAt == e.dueAt) = false) :
    Leads (.operationComplete t f c k) s fun u => cellReg (cellOf (fieldOf u f) c) e.bankSlot e.reg = e.regVal % 2 ^ 32 := by
  have hexec : exec (.operationComplete t f c k) s = clocked t s (fun x => operationComplete x f.val c.val k) := rfl
  obtain ⟨older, newer, hwin, hlen, holder⟩ := win_cellSettle_split he (n := aclk (at_ t s)) (by omega)
  rw [← fieldOf_at t s f, ← cellOf_fieldNow hm] at hwin
  have hold : ∀ d, d ∈ older → writeDue d = true → sameReg d e = true → ¬ d.dueAt ≤ e.dueAt := by
    intro d hd hw hreg hle
    obtain ⟨d', hd', rfl⟩ := holder d hd
    obtain ⟨hsame, hlate⟩ := writeDue_settledEntry hw
    rw [hsame] at hw hreg hle
    have hclash := List.any_eq_false.1 hfirst d' hd'
    have hat : d'.dueAt = e.dueAt := by omega
    simp [hw, hreg, hat] at hclash
  obtain ⟨u, hu, hreg⟩ := entryComplete_writes hwin (by simp [writeDue, hwe, hnot]) (hdue.trans (congrArg (· + 1) (aclk_fieldNow _ _).symm)) hold
  refine leads_clocked hexec hr ?_ hreg
  unfold operationComplete
  simp only [fieldOf_at, he, hm, Bool.not_true, Bool.false_eq_true, if_false]
  rw [if_neg (by omega), ← hu, hlen]
  rfl

theorem operationComplete_settled {t : Nat} {f : FieldId} {c : CellId} {k : Nat} {s : State} {e : WinEntry} (hr : runs t s = true) (hm : fieldMoving (at_ t s) f = true)
    (he : (cellOf (fieldOf s f) c).win[k]? = some e) (hw : (writeDue e || e.deliver == 0) = true) (hdue : e.dueAt ≤ aclk (at_ t s)) :
    Leads (.operationComplete t f c k) s fun u => cellOf (fieldOf u f) c = cellSettle (aclk (at_ t s)) (cellOf (fieldOf s f) c) := by
  have hexec : exec (.operationComplete t f c k) s = clocked t s (fun x => operationComplete x f.val c.val k) := rfl
  refine leads_clocked hexec hr ?_ (cellOf_fieldNow hm c)
  unfold operationComplete
  simp only [fieldOf_at, he, hm, hw, hdue, Bool.not_true, Bool.false_eq_true, if_false, if_true]

theorem resultDelivery_delivers {t : Nat} {f : FieldId} {c : CellId} {s : State} {e : WinEntry} {rest : List WinEntry} (hr : runs t s = true)
    (hwin : (cellOf (fieldOf (fieldNow (at_ t s) f) f) c).win = e :: rest) (hready : deliverReady (fieldNow (at_ t s) f) f c = true) :
    Leads (.resultDelivery t f c) s fun u =>
      (cellOf (fieldOf u f) c).win = rest ∧ (cellOf (fieldOf u f) c).deliveredAt = aclk (at_ t s) + 1 ∧
        (∀ o, o < 4 → bitOf e.deliver o = true → Delivered (fieldNow (at_ t s) f) u (outEnd (fieldNow (at_ t s) f) f c o) (entryOut e o) none) ∧
        (busOf (fieldOf u f) (c / 8)).toks = (busOf (fieldOf (fieldNow (at_ t s) f) f) (c / 8)).toks
          ++ (if bitOf e.deliver 4 then [({ tok := e.result, since := aclk (fieldNow (at_ t s) f) }, 0)] else []) := by
  have hexec : exec (.resultDelivery t f c) s = clocked t s (fun x => resultDeliver x f.val c.val) := rfl
  have hends : entryEndsReady (fieldNow (at_ t s) f) f c e = true := by
    unfold deliverReady at hready
    dsimp only at hready
    rw [hwin] at hready
    exact (Bool.and_eq_true_iff.1 hready).2
  obtain ⟨hrest, hat⟩ := deliverTo_work (s := fieldNow (at_ t s) f) (f := f.val) (c := c.val) (by rw [hwin]; exact List.cons_ne_nil _ _)
  obtain ⟨htokens, hbus⟩ := deliverTo_delivers c.isLt hwin hends
  refine leads_clocked hexec hr (if_pos hready) ⟨?_, hat.trans (congrArg (· + 1) (aclk_fieldNow _ _)), htokens, hbus⟩
  rw [hrest, hwin, List.tail_cons]

/-- Settles O7, one theorem above for each command; the ends of a delivery are told apart by the output through which they are reached. -/
theorem cellsFireAndDeliver : Obligations.CellsFireAndDeliver := by
  unfold Obligations.CellsFireAndDeliver
  refine ⟨?_, fun _ _ _ _ _ _ => operationComplete_writes, fun _ _ _ _ _ _ => operationComplete_settled, ?_⟩
  · intro t f c s hr z y slot w side hmoving hopen hmay hfree hdrain hoperands hpasses
    have hready : fireReady z f c = true := by
      have hreg : opRunning (cwOpcode w) = false ∨ regFree z y slot (cwDestReg w) = true := by
        cases hrun : opRunning (cwOpcode w)
        · exact Or.inl rfl
        · exact Or.inr (hfree hrun)
      unfold fireReady
      simp only [Bool.and_eq_true, Bool.or_eq_true, Bool.not_eq_true', List.all_eq_true, List.mem_range]
      exact ⟨⟨⟨⟨⟨⟨hmoving, hopen⟩, hmay⟩, hreg⟩, hdrain⟩, hoperands⟩, hpasses⟩
    exact cellFire_fires hr hready
  · intro t f c s e rest hr z hwin hmoving hgoes hfirst hdue hends
    have hready : deliverReady z f c = true := by
      unfold deliverReady
      dsimp only
      rw [hwin]
      simp [hmoving, hgoes, hfirst, hdue, hends]
    exact resultDelivery_delivers hr hwin hready

end Sys2Proof.Proofs
end
